-- ==== Sys2Proof/Word.lean ====
section
/-! DEFINITION. The number types of the Meleno T64 model: Device Time, register words, octets, and the
instance numbers of R40 and of the numbering table of the scope chapter. -/

namespace Sys2Proof

/-- Device Time: an 80-bit unsigned count of ft (R7). -/
abbrev DT := BitVec 80

/-- A 32-bit register word (R8, R52). -/
abbrev Word := BitVec 32

/-- One octet. -/
abbrev Byte := BitVec 8

/-- A string of octets as it stands on a lane, a ring or in host memory, first octet first. -/
abbrev Octets := List (BitVec 8)

/-- Spokes S0-S63. -/
abbrev SpokeId := Fin 64
/-- Sequencer threads P0-P15. -/
abbrev ThreadId := Fin 16
/-- Vector engines V0-V3. -/
abbrev EngineId := Fin 4
/-- Position axes A0-A7. -/
abbrev AxisId := Fin 8
/-- Chain ports C0-C7, and the pairs of Freewheel. -/
abbrev PortId := Fin 8
/-- Event sources E0-E255 (R51). -/
abbrev EventId := Fin 256
/-- Clock islands by the island numbers of R40, 0x00 to 0x57. -/
abbrev IslandId := Fin 88
/-- Calibration items 0x00-0x43 (R197). -/
abbrev ItemId := Fin 68
/-- Rings Q64-Q127 by queue number less 64 (R50, R362). -/
abbrev RingId := Fin 64
/-- MSI-X vectors 0-127 (R356). -/
abbrev VecId := Fin 128

/-- 1 ns in ft (R6). -/
abbrev ftNs : Nat := 4096
/-- 1 us in ft (R6). -/
abbrev ftUs : Nat := 4096000
/-- 1 ms in ft (R6). -/
abbrev ftMs : Nat := 4096000000
/-- 1 s in ft (R6). -/
abbrev ftS : Nat := 4096000000000

end Sys2Proof
end

