-- ==== Sys2Proof/Syntax.lean ====
section
/-! DEFINITION. The commands of the block: one constructor per row of the table of operations and events
(`spec/opcode_table.json`). An operand names the instance that acts (spoke, thread, engine, axis, port, island,
ring, vector), carries what the outside puts in (register words, frame, cell and record octets), or gives a physical
reading (a level, a temperature, a count) that the rules take as given. -/

namespace Sys2Proof

/-- The two ports that reach the registers (R35, R380), and the configuration space of the PCI Express endpoint. -/
inductive BusPort where
  | pcie
  | spi
  | config
  deriving DecidableEq, Repr

/-- A serial lane that acquires and loses block lock (R261, R300, R342). -/
inductive Lane where
  | line (c : PortId)
  | host (c : PortId)
  | pair
  deriving DecidableEq, Repr

/-- The two rings: clockwise, arriving on port P, and counter-clockwise, arriving on port N (R320). -/
inductive RingDir where
  | cw
  | ccw
  deriving DecidableEq, Repr

/-- The two ring ports of a module (R320). -/
inductive RingPort where
  | n
  | p
  deriving DecidableEq, Repr

/-- How a ring is lost: its incoming clock has stopped, or its BEACONs have (R325). -/
structure RingLoss where
  ring : RingDir
  clockStopped : Bool
  deriving DecidableEq, Repr

/-- A read of host memory: its address, and the octets that came back (R363). -/
structure HostRead where
  addr : BitVec 64
  entry : Octets
  deriving DecidableEq, Repr

/-- Which of the two rings of a number an entry goes to, and whether the link takes the entry at once (R365, R366). -/
structure RingWrite where
  rx : Bool
  now : Bool
  deriving DecidableEq, Repr

/-- What the board holds at the module's pins besides EN: VIN is in its window, and the strap lands, POS in bits 3 to 0 and
CAPT in bit 4 (R391, R415). -/
structure PinSample where
  vinOk : Bool
  straps : BitVec 5
  deriving DecidableEq, Repr

/-- The commands. The rule in each docstring is the one the table names for the row. -/
inductive Instr where
  /-- COMMIT_GO (R25). -/
  | commitGo
  /-- PREPARE (R25). -/
  | prepare (i : IslandId)
  /-- ARMED (R25). -/
  | armed (i : IslandId)
  /-- NOT_ARMED (R25). -/
  | notArmed (i : IslandId)
  /-- NOARM_DEADLINE (R25). -/
  | noarmDeadline
  /-- CONFIRM (R26). -/
  | confirm (i : IslandId)
  /-- ABANDON (R26). -/
  | abandon (i : IslandId)
  /-- PENDING_COPY_DISCARD (R26). -/
  | pendingCopyDiscard (i : IslandId)
  /-- COMMIT_SWAP (R25). -/
  | commitSwap
  /-- RETIRE_HOLD_EXPIRY (R66). -/
  | retireHoldExpiry (s : SpokeId)
  /-- MULTIWORD_READ_LATCH (R35). -/
  | multiwordReadLatch (bus : BusPort) (off : BitVec 20)
  /-- REGISTER_WRITE (R22). -/
  | registerWrite (bus : BusPort) (off : BitVec 20) (val : Word)
  /-- PARTIAL_WRITE (R359). -/
  | partialWrite (off : BitVec 20) (val : Word) (be : BitVec 4)
  /-- PERIODIC_SNAPSHOT (R36). -/
  | periodicSnapshot
  /-- SNAPSHOT_REQUEST (R37). -/
  | snapshotRequest
  /-- SNAPSHOT_LATCH (R36). -/
  | snapshotLatch
  /-- SNAPSHOT_COMPLETE (R38). -/
  | snapshotComplete
  /-- ANCHOR_DESCRIPTOR (R59). -/
  | anchorDescriptor (s : SpokeId)
  /-- PULSE_DESCRIPTOR (R61). -/
  | pulseDescriptor (s : SpokeId)
  /-- BURST_DESCRIPTOR (R61). -/
  | burstDescriptor (s : SpokeId)
  /-- TRAIN_DESCRIPTOR (R63). -/
  | trainDescriptor (s : SpokeId)
  /-- LEVEL_DESCRIPTOR (R64). -/
  | levelDescriptor (s : SpokeId)
  /-- WINDOW_DESCRIPTOR (R65). -/
  | windowDescriptor (s : SpokeId)
  /-- DESCRIPTOR_KIND_INVALID (R58). -/
  | descriptorKindInvalid (s : SpokeId)
  /-- LEADING_EDGE (R61). -/
  | leadingEdge (s : SpokeId)
  /-- TRAILING_EDGE (R61). -/
  | trailingEdge (s : SpokeId)
  /-- LEVEL_CHANGE (R64). -/
  | levelChange (s : SpokeId)
  /-- WINDOW_OPEN (R65). -/
  | windowOpen (s : SpokeId)
  /-- WINDOW_CLOSE (R73). -/
  | windowClose (s : SpokeId)
  /-- PIN_CROSSING (R70): the voltage at the comparator's input comes to `uv` uV (R79). -/
  | pinCrossing (s : SpokeId) (uv : Int)
  /-- MODE_CHANGE (R77). -/
  | modeChange (s : SpokeId)
  /-- MODE_CHANGE_INTERVAL_END (R77). -/
  | modeChangeIntervalEnd (s : SpokeId)
  /-- SPOKE_CANCEL_GO (R81). -/
  | spokeCancelGo (s : SpokeId)
  /-- CANCEL_DUE (R81). -/
  | cancelDue (s : SpokeId)
  /-- NOP (R95). -/
  | nop (p : ThreadId)
  /-- HALT (R95). -/
  | halt (p : ThreadId)
  /-- B (R95). -/
  | b (p : ThreadId)
  /-- CALL (R95). -/
  | call (p : ThreadId)
  /-- RET (R95). -/
  | ret (p : ThreadId)
  /-- LOOP (R95). -/
  | loop (p : ThreadId)
  /-- ENDL (R95). -/
  | endl (p : ThreadId)
  /-- ADD (R97). -/
  | add (p : ThreadId)
  /-- SUB (R97). -/
  | sub (p : ThreadId)
  /-- AND (R97). -/
  | and (p : ThreadId)
  /-- OR (R97). -/
  | or (p : ThreadId)
  /-- XOR (R97). -/
  | xor (p : ThreadId)
  /-- SHL (R97). -/
  | shl (p : ThreadId)
  /-- SHR (R97). -/
  | shr (p : ThreadId)
  /-- MUL (R97). -/
  | mul (p : ThreadId)
  /-- CMP (R97). -/
  | cmp (p : ThreadId)
  /-- MOV (R97). -/
  | mov (p : ThreadId)
  /-- MOVI (R97). -/
  | movi (p : ThreadId)
  /-- ADDI (R97). -/
  | addi (p : ThreadId)
  /-- ANDI (R97). -/
  | andi (p : ThreadId)
  /-- CMPI (R97). -/
  | cmpi (p : ThreadId)
  /-- SHLI (R97). -/
  | shli (p : ThreadId)
  /-- SHRI (R97). -/
  | shri (p : ThreadId)
  /-- TMOV (R98). -/
  | tmov (p : ThreadId)
  /-- TADD (R98). -/
  | tadd (p : ThreadId)
  /-- TSUB (R98). -/
  | tsub (p : ThreadId)
  /-- TCMP (R98). -/
  | tcmp (p : ThreadId)
  /-- TADDI (R98). -/
  | taddi (p : ThreadId)
  /-- TADDG (R98). -/
  | taddg (p : ThreadId)
  /-- TMAC (R98). -/
  | tmac (p : ThreadId)
  /-- TDIFF (R98). -/
  | tdiff (p : ThreadId)
  /-- TLDL (R98). -/
  | tldl (p : ThreadId)
  /-- TLDH (R98). -/
  | tldh (p : ThreadId)
  /-- TGET (R98). -/
  | tget (p : ThreadId)
  /-- TPUT (R98). -/
  | tput (p : ThreadId)
  /-- NOW (R98). -/
  | now (p : ThreadId)
  /-- LDD (R99). -/
  | ldd (p : ThreadId)
  /-- TLD (R99). -/
  | tld (p : ThreadId)
  /-- INFO (R100). -/
  | info (p : ThreadId)
  /-- PULSE (R103). -/
  | pulse (p : ThreadId)
  /-- LEVEL (R104). -/
  | level (p : ThreadId)
  /-- EMIT (R105). -/
  | emit (p : ThreadId)
  /-- ANCHOR (R106). -/
  | anchor (p : ThreadId)
  /-- CANCEL (R107). -/
  | cancel (p : ThreadId)
  /-- WAITQ (R108). -/
  | waitq (p : ThreadId)
  /-- VSTART (R109). -/
  | vstart (p : ThreadId)
  /-- VJUMP (R109). -/
  | vjump (p : ThreadId)
  /-- VRATE (R109). -/
  | vrate (p : ThreadId)
  /-- VSTOP (R109). -/
  | vstop (p : ThreadId)
  /-- KPOST (R110). -/
  | kpost (p : ThreadId)
  /-- KTAKE (R110). -/
  | ktake (p : ThreadId)
  /-- WAITT (R111). -/
  | waitt (p : ThreadId)
  /-- WAITE (R136). -/
  | waite (p : ThreadId)
  /-- RECV (R111). -/
  | recv (p : ThreadId)
  /-- TRIG (R113). -/
  | trig (p : ThreadId)
  /-- RAISE (R114). -/
  | raise (p : ThreadId)
  /-- COMMIT (R115). -/
  | commit (p : ThreadId)
  /-- UNDEFINED_OP (R92). -/
  | undefinedOp (p : ThreadId)
  /-- ISSUE_RETRY (R133). -/
  | issueRetry (p : ThreadId)
  /-- WAITT_EXPIRY (R134). -/
  | waittExpiry (p : ThreadId)
  /-- WAIT_DEADLINE_EXPIRY (R134). -/
  | waitDeadlineExpiry (p : ThreadId)
  /-- WAITE_RELEASE (R136). -/
  | waiteRelease (p : ThreadId)
  /-- RECV_RELEASE (R138). -/
  | recvRelease (p : ThreadId)
  /-- KTAKE_RELEASE (R138). -/
  | ktakeRelease (p : ThreadId)
  /-- WAITQ_RELEASE (R138). -/
  | waitqRelease (p : ThreadId)
  /-- COMMIT_ANSWER (R115). -/
  | commitAnswer (p : ThreadId)
  /-- PACER_EVENT_ARRIVAL (R135). -/
  | pacerEventArrival (e : EventId)
  /-- PLACE_FREED (R108). -/
  | placeFreed (s : SpokeId)
  /-- MAILBOX_ENTRY (R139). -/
  | mailboxEntry (p : ThreadId)
  /-- TH_START (R127). -/
  | thStart (p : ThreadId)
  /-- TH_STOP (R127). -/
  | thStop (p : ThreadId)
  /-- TH_RESUME (R127). -/
  | thResume (p : ThreadId)
  /-- THREAD_ACTION_DUE (R126). -/
  | threadActionDue (p : ThreadId)
  /-- CMD_NOP (R141). -/
  | cmdNop (p : ThreadId)
  /-- CMD_POST (R141). -/
  | cmdPost (p : ThreadId)
  /-- CMD_START (R141). -/
  | cmdStart (p : ThreadId)
  /-- CMD_STOP (R141). -/
  | cmdStop (p : ThreadId)
  /-- CMD_RESUME (R141). -/
  | cmdResume (p : ThreadId)
  /-- BANK_CRC_GO (R131). -/
  | bankCrcGo
  /-- BANK_CRC_DONE (R131). -/
  | bankCrcDone
  /-- ENGINE_START (R157). -/
  | engineStart (v : EngineId)
  /-- VECTOR_START (R157). -/
  | vectorStart (v : EngineId)
  /-- SLOT_DRIVE_ACTION (R147). -/
  | slotDriveAction (v : EngineId) (s : SpokeId)
  /-- SLOT_STROBE (R170). -/
  | slotStrobe (v : EngineId) (s : SpokeId)
  /-- LATCH_POINT (R159). -/
  | latchPoint (v : EngineId)
  /-- SEGMENT_BOUNDARY (R159). -/
  | segmentBoundary (v : EngineId)
  /-- JUMP_ARRIVAL (R160). -/
  | jumpArrival (v : EngineId)
  /-- ENGINE_STOP (R161). -/
  | engineStop (v : EngineId)
  /-- RATE_CHANGE (R163). -/
  | rateChange (v : EngineId)
  /-- STREAM_FEED_ENTRY (R166). -/
  | streamFeedEntry (v : EngineId)
  /-- FILL_COMPLETE (R166). -/
  | fillComplete (v : EngineId) (data : Octets)
  /-- VECTOR_MEMORY_WRITE (R156). -/
  | vectorMemoryWrite (addr : BitVec 23) (data : List (Option (BitVec 8)))
  /-- FAIL_FIRST_REARM (R170). -/
  | failFirstRearm (v : EngineId)
  /-- SEGMENT_GO (R179). -/
  | segmentGo (a : AxisId)
  /-- SEGMENT_RECORD (R180). -/
  | segmentRecord
  /-- SEGSTART (R177). -/
  | segstart (a : AxisId)
  /-- SEAM (R182). -/
  | seam (a : AxisId)
  /-- DRY (R183). -/
  | dry (a : AxisId)
  /-- TARGET_ENTRY (R186). -/
  | targetEntry (a : AxisId)
  /-- SOLVE_COMPLETE (R188). -/
  | solveComplete (a : AxisId)
  /-- TARGET_TIMEOUT (R186). -/
  | targetTimeout (a : AxisId)
  /-- AXIS_CLEAR (R193). -/
  | axisClear (a : AxisId)
  /-- BURST_START (R208). -/
  | burstStart (s : SpokeId)
  /-- BURST_END (R208). -/
  | burstEnd (s : SpokeId)
  /-- HISTOGRAM_COMPLETE (R199). -/
  | histogramComplete (it : ItemId) (counts : List Nat)
  /-- HISTOGRAM_TIMEOUT (R199). -/
  | histogramTimeout (it : ItemId)
  /-- TRIM_STEP (R203). -/
  | trimStep (it : ItemId) (tap : Fin 4096)
  /-- FULL_RUN_REQUEST (R211). -/
  | fullRunRequest (s : SpokeId) (dl : BitVec 20)
  /-- FULL_RUN_WITHDRAW (R211). -/
  | fullRunWithdraw (s : SpokeId)
  /-- FULL_RUN_START (R212). -/
  | fullRunStart (s : SpokeId)
  /-- DELAY_PHASE_START (R213). -/
  | delayPhaseStart (s : SpokeId)
  /-- THRESHOLD_PHASE_START (R214). -/
  | thresholdPhaseStart (s : SpokeId) (uv : Int)
  /-- THRESHOLD_SAMPLE (R215). -/
  | thresholdSample (s : SpokeId) (uv : Int)
  /-- APPLY_PHASE_START (R213). -/
  | applyPhaseStart (s : SpokeId) (thr : Int)
  /-- FULL_RUN_END (R216). -/
  | fullRunEnd (s : SpokeId)
  /-- REQUEST_EXPIRED (R212). -/
  | requestExpired (s : SpokeId)
  /-- STORE_GO (R222). -/
  | storeGo
  /-- AUTOSTORE_INTERVAL (R222). -/
  | autostoreInterval
  /-- AUTOSTORE_AFTER_RUN (R222). -/
  | autostoreAfterRun
  /-- PAGE_PROGRAM (R223). -/
  | pageProgram
  /-- STORE_COMPLETE (R222). -/
  | storeComplete (ok : Bool)
  /-- SETTLE_END (R233). -/
  | settleEnd
  /-- BAND_SEARCH_DONE (R233). -/
  | bandSearchDone (band : BitVec 5)
  /-- LOCK_WAIT_END (R235). -/
  | lockWaitEnd (w1 : Nat) (w2 : Nat)
  /-- CEILING_BACKOFF_END (R235). -/
  | ceilingBackoffEnd
  /-- GATE_OPEN (R256). -/
  | gateOpen
  /-- PHASE_MONITOR_TRIP (R236). -/
  | phaseMonitorTrip
  /-- CEILING_WINDOW (R236). -/
  | ceilingWindow (w : Nat)
  /-- REFERENCE_LOST (R230). -/
  | referenceLost
  /-- DCO_WORD_APPLY (R232). -/
  | dcoWordApply
  /-- MEASUREMENT (R242). -/
  | measurement
  /-- PHASE_STEP (R244). -/
  | phaseStep
  /-- SOURCE_COMPARISON (R246). -/
  | sourceComparison
  /-- DT_DISTRIBUTE (R239). -/
  | dtDistribute
  /-- PPSOUT_PULSE (R249). -/
  | ppsoutPulse
  /-- PPSOUT_PULSE_END (R249). -/
  | ppsoutPulseEnd
  /-- PPSIN_EDGE (R250). -/
  | ppsinEdge (rising : Bool)
  /-- PPSIN_MISSING (R250). -/
  | ppsinMissing
  /-- STEP_REQUEST (R252). -/
  | stepRequest
  /-- AUTO_STEP_REQUEST (R254). -/
  | autoStepRequest
  /-- STEP_RETRY (R254). -/
  | stepRetry
  /-- STEP_DUE (R253). -/
  | stepDue
  /-- AUTORESTART_RETRY (R257). -/
  | autorestartRetry
  /-- PORT_OFF (R264). -/
  | portOff (c : PortId)
  /-- PORT_RUN (R264). -/
  | portRun (c : PortId)
  /-- PORT_SIESTA (R264). -/
  | portSiesta (c : PortId)
  /-- SIESTA_WAKE_END (R264). -/
  | siestaWakeEnd (c : PortId)
  /-- BLOCK_LOCK_GAINED (R261). -/
  | blockLockGained (lane : Lane)
  /-- BLOCK_LOCK_LOST (R261). -/
  | blockLockLost (lane : Lane)
  /-- LISTEN_LOCK_HELD (R268). -/
  | listenLockHeld (c : PortId)
  /-- RATE_STEP (R269). -/
  | rateStep (c : PortId)
  /-- BELL_TIMER (R270). -/
  | bellTimer (c : PortId)
  /-- BELL (R270). -/
  | bell (c : PortId) (pdu : Octets)
  /-- PARTNER_GONE (R271). -/
  | partnerGone (c : PortId)
  /-- OFFER (R275). -/
  | offer (c : PortId) (pdu : Octets)
  /-- OFFER_TIMER (R274). -/
  | offerTimer (c : PortId)
  /-- ACCEPT (R276). -/
  | accept (c : PortId) (pdu : Octets)
  /-- REJECT (R276). -/
  | reject (c : PortId) (pdu : Octets)
  /-- NEGOTIATE_TIMEOUT (R268). -/
  | negotiateTimeout (c : PortId)
  /-- RESTEP_TIMER (R277). -/
  | restepTimer (c : PortId)
  /-- STAMP_TIMER (R280). -/
  | stampTimer (c : PortId)
  /-- STAMP (R281). -/
  | stamp (c : PortId) (sync : Bool) (msg : Octets)
  /-- ESTIMATOR_FREEZE (R284). -/
  | estimatorFreeze (c : PortId)
  /-- TRIGGER_FRAME (R288). -/
  | triggerFrame (c : PortId) (pdu : Octets)
  /-- AXIS_FRAME (R290). -/
  | axisFrame (c : PortId) (pdu : Octets)
  /-- HOST_FRAME (R291). -/
  | hostFrame (c : PortId) (pdu : Octets)
  /-- MESSAGE_RING_ENTRY (R291). -/
  | messageRingEntry (c : PortId)
  /-- TEST_LOOP_NEAR_SERIAL (R294). -/
  | testLoopNearSerial (c : PortId)
  /-- TEST_LOOP_NEAR_PARALLEL (R294). -/
  | testLoopNearParallel (c : PortId)
  /-- TEST_LOOP_FAR_RETIMED (R294). -/
  | testLoopFarRetimed (c : PortId)
  /-- TEST_LOOP_END (R294). -/
  | testLoopEnd (c : PortId)
  /-- PRBS_GEN (R295). -/
  | prbsGen (c : PortId)
  /-- PRBS_CHECK (R295). -/
  | prbsCheck (c : PortId) (errs : Nat)
  /-- FRAME_ADMISSION (R302). -/
  | frameAdmission (c : PortId) (fromHost : Bool) (head : Octets)
  /-- FRAME_END_RECEIVED (R307). -/
  | frameEndReceived (c : PortId) (fromHost : Bool) (tail : Octets) (codeErr : Bool)
  /-- EGRESS_START (R303). -/
  | egressStart (c : PortId) (toLine : Bool)
  /-- EGRESS_END (R313). -/
  | egressEnd (c : PortId) (toLine : Bool)
  /-- RING_BEACON (R325). -/
  | ringBeacon (r : RingDir) (cell : Octets)
  /-- RING_HOPSTAMP (R327). -/
  | ringHopstamp (r : RingDir) (cell : Octets)
  /-- RING_CANDIDATE (R331). -/
  | ringCandidate (r : RingDir) (cell : Octets)
  /-- RING_REQUEST (R337). -/
  | ringRequest (r : RingDir) (cell : Octets)
  /-- RING_PREPARE (R337). -/
  | ringPrepare (r : RingDir) (cell : Octets)
  /-- RING_ANSWER (R337). -/
  | ringAnswer (r : RingDir) (cell : Octets)
  /-- RING_CONFIRM (R337). -/
  | ringConfirm (r : RingDir) (cell : Octets)
  /-- RING_ABANDON (R337). -/
  | ringAbandon (r : RingDir) (cell : Octets)
  /-- RING_TRIGGER (R335). -/
  | ringTrigger (r : RingDir) (cell : Octets)
  /-- COORDINATOR_DEADLINE (R337). -/
  | coordinatorDeadline
  /-- BEACON_TIMER (R324). -/
  | beaconTimer
  /-- HOPSTAMP_TIMER (R327). -/
  | hopstampTimer
  /-- HOP_ESTIMATOR_FREEZE (R327). -/
  | hopEstimatorFreeze (port : RingPort)
  /-- RING_LOST (R325). -/
  | ringLost (x : RingLoss)
  /-- RING_RETURN (R325). -/
  | ringReturn
  /-- SEEK_TIMEOUT (R329). -/
  | seekTimeout
  /-- HOLDOVER_TIMEOUT (R329). -/
  | holdoverTimeout
  /-- ELECT_WINDOW_END (R331). -/
  | electWindowEnd
  /-- JOIN (R330). -/
  | join
  /-- HEARTBEAT_TIMER (R343). -/
  | heartbeatTimer
  /-- HEARTBEAT (R343). -/
  | heartbeat (pdu : Octets)
  /-- RELAY_FRAME (R342). -/
  | relayFrame (pdu : Octets)
  /-- HEARTBEAT_MISSING (R346). -/
  | heartbeatMissing
  /-- EVIDENCE_MISMATCH (R345). -/
  | evidenceMismatch (s : SpokeId) (levelMismatch : Bool)
  /-- NET_CLEAR (R345). -/
  | netClear
  /-- VACANCY_TIMER (R346). -/
  | vacancyTimer
  /-- HANDOVER_CHECK (R348). -/
  | handoverCheck
  /-- HANDOVER_SWITCH (R348). -/
  | handoverSwitch
  /-- REFEREE_KICK (R350). -/
  | refereeKick
  /-- WATCHDOG_KICK_TIMEOUT (R350). -/
  | watchdogKickTimeout
  /-- TCXO_LOSS (R350). -/
  | tcxoLoss
  /-- NETFAULT (R350). -/
  | netfault
  /-- BRAKE_ENTER (R350). -/
  | brakeEnter
  /-- BRAKE_EXIT (R351). -/
  | brakeExit
  /-- HOST_RESET (R358). -/
  | hostReset
  /-- BAR2_WRITE (R361). -/
  | bar2Write (bus : BusPort) (addr : BitVec 24) (data : List (Option (BitVec 8)))
  /-- PROD_DOORBELL (R363). -/
  | prodDoorbell (q : RingId) (n : BitVec 16)
  /-- CONS_DOORBELL (R363). -/
  | consDoorbell (q : RingId) (rx : Bool) (n : BitVec 16)
  /-- RING_ENABLE (R364). -/
  | ringEnable (q : RingId) (rx : Bool) (cfg : Word)
  /-- RING_DISABLE (R364). -/
  | ringDisable (q : RingId) (rx : Bool) (cfg : Word)
  /-- RING_FETCH (R364). -/
  | ringFetch (q : RingId) (x : HostRead)
  /-- DMA_READ_ERROR (R368). -/
  | dmaReadError (q : RingId)
  /-- RING_ENTRY_WRITE (R365). -/
  | ringEntryWrite (q : RingId) (x : RingWrite)
  /-- WRITEBACK (R367). -/
  | writeback (q : RingId) (rx : Bool)
  /-- EVENT_OCCURRENCE (R371). -/
  | eventOccurrence (e : EventId)
  /-- HOLDOFF_EXPIRY (R374). -/
  | holdoffExpiry (v : VecId)
  /-- VECTOR_UNMASK (R374). -/
  | vectorUnmask (v : VecId)
  /-- EVENT_STATUS_CLEAR (R11). -/
  | eventStatusClear (n : Fin 8) (mask : Word) (again : Word)
  /-- SPI_READ_STATUS (R379). -/
  | spiReadStatus
  /-- SPI_READ_BAR0 (R379). -/
  | spiReadBar0 (addr : BitVec 24) (slow : Bool)
  /-- SPI_WRITE_BAR0 (R379). -/
  | spiWriteBar0 (addr : BitVec 24) (val : Word)
  /-- SPI_READ_BAR2 (R379). -/
  | spiReadBar2 (addr : BitVec 24) (slow : Bool)
  /-- SPI_WRITE_BAR2 (R379). -/
  | spiWriteBar2 (addr : BitVec 24) (val : Word)
  /-- SPI_UNKNOWN_OPCODE (R379). -/
  | spiUnknownOpcode (op : BitVec 8)
  /-- SPI_FRAME_END (R379). -/
  | spiFrameEnd
  /-- FLASH_READ (R381). -/
  | flashRead
  /-- FLASH_PROGRAM (R381). -/
  | flashProgram
  /-- FLASH_ERASE (R381). -/
  | flashErase
  /-- FLASH_OP_COMPLETE (R381). -/
  | flashOpComplete (ok : Bool)
  /-- PCIE_REFCLK_LOSS (R421). -/
  | pcieRefclkLoss
  /-- VIN_APPLIED (R390). -/
  | vinApplied
  /-- EN_SAMPLE (R391). -/
  | enSample (en : Bool) (pins : PinSample)
  /-- START_UP (R392). -/
  | startUp
  /-- SOFT_START_END (R392). -/
  | softStartEnd (cbus : BitVec 10)
  /-- SOFT_START_TIMEOUT (R392). -/
  | softStartTimeout
  /-- RAIL_UP (R393). -/
  | railUp
  /-- RAIL_TIMEOUT (R392). -/
  | railTimeout
  /-- DAWN_ENTRY (R392). -/
  | dawnEntry
  /-- DAY_REQUEST (R394). -/
  | dayRequest
  /-- DUSK_REQUEST (R397). -/
  | duskRequest
  /-- EN_LOW (R397). -/
  | enLow
  /-- BROWNOUT (R396). -/
  | brownout
  /-- OVERVOLTAGE (R396). -/
  | overvoltage
  /-- RIDETHRU (R396). -/
  | ridethru
  /-- BROWNOUT_TIMEOUT (R396). -/
  | brownoutTimeout
  /-- VBUS_LOW (R396). -/
  | vbusLow
  /-- OVERCURRENT (R389). -/
  | overcurrent
  /-- RAIL_FAULT (R397). -/
  | railFault
  /-- TEMP_MEASURE (R400). -/
  | tempMeasure (temp : BitVec 12)
  /-- OVERTEMP (R397). -/
  | overtemp
  /-- DUSK_GATE_CLOSE (R398). -/
  | duskGateClose
  /-- DUSK_RAILS_DOWN (R398). -/
  | duskRailsDown
  /-- NIGHT_ENTRY (R399). -/
  | nightEntry
  /-- HOLDUP_REFRESH (R395). -/
  | holdupRefresh (vin : BitVec 16) (vbus : BitVec 16) (pin : BitVec 16)
  /-- VEL_FAULT (R402). -/
  | velFault
  /-- PCIE_LINK_TRAINED (R356). -/
  | pcieLinkTrained (speed : BitVec 3) (width : BitVec 4)
  deriving DecidableEq, Repr

end Sys2Proof
end

