-- ==== Sys2Proof/Decode.lean ====
section
/-! DEFINITION. Reading a command from the bits of a word. The table of operations and events gives no row any bits:
its rows are events and operations of the block, not encoded words. -/

namespace Sys2Proof

/-- The command a word spells by the table's bits: none, as the table gives no row bits. -/
def decodeTableWord (_nbits _w : Nat) : Option Instr := none

end Sys2Proof
end

