-- ==== Sys2Proof/Config.lean ====
section
/-! DEFINITION. What the spec leaves to an implementation, as constants without a body: nothing can evaluate them, so
every statement holds whatever they are. -/

namespace Sys2Proof.Config

/-- Which way a value that lies exactly half way between two whole numbers is rounded, where a rule says "rounded to
the nearest" and nothing of ties (R242, R281, R283). Applied to what is rounded: numerator and denominator. -/
opaque tieUp : Int → Nat → Bool

/-- Which of the two whole numbers next to a value is taken where a rule gives the value and not its rounding (R282,
R283, R293, R327, R343). Applied to the value's numerator and denominator. -/
opaque roundUp : Int → Nat → Bool

/-- What the integral term asks of W when the interval since the previous measurement is 0, for which the rule states
no result (R242). Applied to the error. -/
opaque servoZero : Int → Int

/-- The codes in bits [15:8] of an E242 record for the reasons PBRAKE, FAILOVER, VACANT, CONTENTION, HANDOVER and
BRAKE, in that order, which R346 names and no rule encodes. -/
opaque tokenReason : Fin 6 → BitVec 8

/-- Whether a quotient of the solve of R188 that is no multiple of 2^-56 is carried as the one above it. The rule gives u
56 fractional bits and not their rounding. Applied to the quotient's numerator and denominator. -/
opaque solveUp : Int → Int → Bool

/-- Whether a wanted trim that falls half way between two trim steps takes the larger (R200, R202). -/
opaque trimTie : Nat → Bool

/-- logMessageInterval of a Sync message, which R293 does not fill in. Applied to CP_CFG.SRATE. -/
opaque syncInterval : Nat → BitVec 8

/-- The trim data of a slot: 68 item records of 4 112 octets, whose layout no rule gives (R220). Applied to what the records
hold: each item's trims, threshold trim and validity, and the temperatures of its latest results. -/
opaque trimData : List (List Int × Int × Bool × Int × Option Int) → List (BitVec 8)

/-- The source address of frames on the Pair lane, which R342 does not give. -/
opaque pairMac : BitVec 48

/-- A vector engine's setup time in ft, which R173 tests a held message against and no rule gives. -/
opaque engineSetup : Nat

/-- How many vectors a stream fill of an engine has copied at an elapsed time, where a region turns active or free in the
middle of it: R167 bounds the rate and the host's memory sets the rest (R166). -/
opaque fillCopied : Nat → Nat → Nat

/-- What an octet of a flash page holds after a program operation that failed its verify (R381). Applied to the
elapsed time and the address. -/
opaque flashFail : Nat → Nat → BitVec 8

end Sys2Proof.Config
end

