-- ==== Sys2Proof/Machine/Bits.lean ====
section
/-! DEFINITION. Bit fields, signed readings, octet order, sparse maps and the CRC that several units share. -/

namespace Sys2Proof.Machine

/-- Bits [lo + len - 1 : lo] of a number. -/
def fieldOf (n lo len : Nat) : Nat := (n >>> lo) % 2 ^ len

/-- Bits [lo + len - 1 : lo] of a register word. -/
def fld (w : Word) (lo len : Nat) : Nat := fieldOf w.toNat lo len

/-- Bit k of a register word. -/
def bit (w : Word) (k : Nat) : Bool := w.getLsbD k

/-- A `len`-bit number read as two's complement. -/
def signed (len n : Nat) : Int := if n % 2 ^ len < 2 ^ (len - 1) then (n % 2 ^ len : Nat) else (n % 2 ^ len : Nat) - (2 ^ len : Nat)

/-- A number at bit position `lo`, cut to `len` bits. -/
def at' (n lo len : Nat) : Nat := (n % 2 ^ len) <<< lo

/-- 1 for true. -/
def b1 (b : Bool) : Nat := if b then 1 else 0

/-- A register word from a number. -/
def word (n : Nat) : Word := BitVec.ofNat 32 n

/-- A register word from a signed number, in two's complement. -/
def wordI (i : Int) : Word := BitVec.ofInt 32 i

/-- A signed number held inside plus or minus `lim`. -/
def clampI (lim : Int) (i : Int) : Int := if i < -lim then -lim else if lim < i then lim else i

/-- A DT from its three register words; bits [31:16] of the third do not count. -/
def dt3 (lo mid hi : Word) : DT := BitVec.ofNat 80 (lo.toNat + mid.toNat * 2 ^ 32 + hi.toNat * 2 ^ 64)

/-- Word k (0 to 2) of a DT. -/
def dtWord (d : DT) (k : Nat) : Word := BitVec.ofNat 32 (d.toNat >>> (32 * k))

/-- A relative time added to a DT, modulo 2^80 (R16). -/
def dtAdd (d : DT) (n : Nat) : DT := d + BitVec.ofNat 80 n

/-- A relative time taken from a DT, modulo 2^80 (R16). -/
def dtSub (d : DT) (n : Nat) : DT := d - BitVec.ofNat 80 n

/-- One DT is at or before another: DTs are compared as unsigned numbers (R16). -/
def dtLe (a b : DT) : Bool := a.toNat ≤ b.toNat

/-- A signed displacement of a DT, modulo 2^80. -/
def dtAddI (d : DT) (i : Int) : DT := d + BitVec.ofInt 80 i

/-- Little-endian number of octets. -/
def leNat : Octets → Nat
  | [] => 0
  | b :: bs => b.toNat + 256 * leNat bs

/-- Big-endian number of octets. -/
def beNat (bs : Octets) : Nat := bs.foldl (fun acc b => acc * 256 + b.toNat) 0

/-- `k` octets of a number, little-endian. -/
def leOctets : Nat → Nat → Octets
  | 0, _ => []
  | k + 1, n => BitVec.ofNat 8 n :: leOctets k (n / 256)

/-- `k` octets of a number, big-endian. -/
def beOctets (k n : Nat) : Octets := (leOctets k n).reverse

/-- `k` octets from position `i`. -/
def slice (bs : Octets) (i k : Nat) : Octets := (bs.drop i).take k

/-- The big-endian number in `k` octets from position `i`. -/
def beAt (bs : Octets) (i k : Nat) : Nat := beNat (slice bs i k)

/-- The little-endian number in `k` octets from position `i`. -/
def leAt (bs : Octets) (i k : Nat) : Nat := leNat (slice bs i k)

/-- Octets in place of those from position `i`. -/
def patch (bs : Octets) (i : Nat) (new : Octets) : Octets := bs.take i ++ new ++ bs.drop (i + new.length)

/-- One bit of the CRC-32 shift register, reflected (R131). -/
def crcBit (c : BitVec 32) : BitVec 32 := if c.getLsbD 0 then (c >>> 1) ^^^ 0xEDB88320#32 else c >>> 1

/-- One octet of the CRC-32. -/
def crcOctet (c : BitVec 32) (b : Byte) : BitVec 32 :=
  crcBit (crcBit (crcBit (crcBit (crcBit (crcBit (crcBit (crcBit (c ^^^ b.setWidth 32))))))))

/-- CRC-32 of IEEE 802.3, as R131 states it. -/
def crc32 (bs : Octets) : BitVec 32 := ~~~ bs.foldl crcOctet 0xFFFFFFFF#32

/-! ### Sparse maps: keys strictly rising, no entry equal to its default -/

/-- The value at a key. -/
def look {w : Nat} (dflt : Nat → BitVec w) : List (Nat × BitVec w) → Nat → BitVec w
  | [], k => dflt k
  | (k', v) :: m, k => if k' = k then v else if k < k' then dflt k else look dflt m k

/-- An entry in front of a map whose keys are all larger; nothing where the value is the default. -/
def consNew {w : Nat} (dflt : Nat → BitVec w) (k : Nat) (v : BitVec w) (m : List (Nat × BitVec w)) :
    List (Nat × BitVec w) := if v = dflt k then m else (k, v) :: m

/-- The map with one value changed, in canonical form. -/
def store {w : Nat} (dflt : Nat → BitVec w) : List (Nat × BitVec w) → Nat → BitVec w → List (Nat × BitVec w)
  | [], k, v => consNew dflt k v []
  | (k', v') :: m, k, v =>
    if k' = k then consNew dflt k v m
    else if k < k' then consNew dflt k v ((k', v') :: m)
    else (k', v') :: store dflt m k v

/-- Values stored one after another. -/
def storeAll {w : Nat} (dflt : Nat → BitVec w) (m : List (Nat × BitVec w)) (l : List (Nat × BitVec w)) :
    List (Nat × BitVec w) := l.foldl (fun m e => store dflt m e.1 e.2) m

/-- The canonical form. -/
def canon {w : Nat} (dflt : Nat → BitVec w) : List (Nat × BitVec w) → Bool
  | [] => true
  | [(k, v)] => v != dflt k
  | (k, v) :: (k', v') :: m => v != dflt k && k < k' && canon dflt ((k', v') :: m)

/-- What an unlisted octet of BAR2 memory reads as (log entry 2). -/
def memDflt (_ : Nat) : Byte := 0

/-- What an unlisted octet of the module flash reads as: erased (log entry 3). -/
def flashDflt (_ : Nat) : Byte := 0xFF

/-- One octet of a memory. -/
def rd8 (d : Nat → Byte) (m : List (Nat × Byte)) (a : Nat) : Byte := look d m a

/-- `k` octets of a memory. -/
def rdN (d : Nat → Byte) (m : List (Nat × Byte)) (a : Nat) : Nat → Octets
  | 0 => []
  | k + 1 => look d m a :: rdN d m (a + 1) k

/-- Octets written from an address on. -/
def wrN (d : Nat → Byte) (m : List (Nat × Byte)) : Nat → Octets → List (Nat × Byte)
  | _, [] => m
  | a, b :: bs => wrN d (store d m a b) (a + 1) bs

/-- Octets written from an address on, those whose byte enable is off skipped. -/
def wrEn (d : Nat → Byte) (m : List (Nat × Byte)) : Nat → List (Option Byte) → List (Nat × Byte)
  | _, [] => m
  | a, none :: bs => wrEn d m (a + 1) bs
  | a, some b :: bs => wrEn d (store d m a b) (a + 1) bs

/-- Rounding to the nearest whole number of num/den; a tie goes as `tie` says. -/
def nearest (tie : Int → Nat → Bool) (num : Int) (den : Nat) : Int :=
  let q := num / (den : Int)
  let r := num % (den : Int)
  if 2 * r < den then q else if (den : Int) < 2 * r then q + 1 else if tie num den then q + 1 else q

/-- The largest whole number whose square does not exceed n. -/
def isqrt (n : Nat) : Nat := Nat.sqrt n

end Sys2Proof.Machine
end

