-- ==== Sys2Proof/Machine/State.lean ====
section
/-! DEFINITION. The state of the module as plain data: every register, queue, counter, mode, buffer, timer and pin the
spec gives it, the messages in flight between islands, and the queue of waiting commands. -/

namespace Sys2Proof.Machine

/-- Why a step stops with a fault. -/
inductive Fault where
  /-- A register or memory access whose byte address is not a multiple of 4: R359 gives BAR0
  32-bit accesses aligned to 4 bytes and gives an unaligned one no effect. Raised by REGISTER_WRITE, PARTIAL_WRITE,
  MULTIWORD_READ_LATCH, SPI_READ_BAR0 and SPI_WRITE_BAR0. Safe: the model stops. -/
  | unaligned
  deriving DecidableEq, Repr

/-- Why a step is refused. -/
inductive Refusal where
  /-- The command has no meaning yet. Raised by the dispatch only. Safe. -/
  | notModelled (mnemonic : String)
  deriving DecidableEq, Repr

/-- Sparse registers: key and value, keys strictly rising, no entry equal to the key's default. -/
abbrev RegMap := List (Nat × Word)

/-- Sparse memory, canonical as `RegMap` is; an unlisted octet reads 0. -/
abbrev Mem := List Host.Cell

/-! ### Events in flight -/

/-- One occurrence of an event source on its way (R370): the 32-bit cause word of R371's record bits [119:88]. -/
structure Occ where
  src : EventId
  cause : Word
  dt : DT
  coarse : Bool
  deriving DecidableEq, Repr

/-! ### Commit and snapshot -/

/-- Whom a commit or step reaches (R336). -/
inductive Reach where
  | alone
  | stack
  | pair
  deriving DecidableEq, Repr

/-- Who issued a commit (R23, R257). -/
inductive CommitSrc where
  | host
  | thread (p : ThreadId)
  | auto
  | remote
  deriving DecidableEq, Repr

/-- Messages of the commit channel to an island (R25, R26). -/
inductive CommitMsg where
  | prepare (dtEff : DT) (gen : Word) (own : Vector (BitVec 64) 4)
  | confirm
  | abandon
  deriving DecidableEq, Repr

/-- The commit the commit unit holds pending (R25). -/
structure PendingCommit where
  src : CommitSrc
  reach : Reach
  dtEff : DT
  gen : Word
  own : Vector (BitVec 64) 4
  awaiting : List Nat
  armedAll : Bool
  confirmed : Bool
  /-- The commit unit's clock cycle in which it was issued (R29). -/
  cycle : Nat
  deriving DecidableEq, Repr

/-- An island's answer on its way to the commit unit (R25): its cause of refusal (none: armed), and the commit-unit
cycle in which it was given. -/
structure CommitAns where
  island : Nat
  cause : Option (BitVec 4)
  cycle : Nat
  deriving DecidableEq, Repr

/-- The commit unit (R23 to R34): HB_COMMIT_STATUS, HB_ACTIVE_GEN, HB_ACTIVE_DT and the pending commit. -/
structure CommitUnit where
  pend : Option PendingCommit
  state : BitVec 2
  src : Bool
  thread : BitVec 4
  cause : BitVec 4
  island : BitVec 8
  pos : BitVec 4
  side : Bool
  gen : Word
  dt : DT
  /-- Answers on their way to the commit unit. -/
  answers : List CommitAns
  /-- The next reissue of an automatic restart commit that was refused (R257), by the elapsed clock. -/
  autoAt : Option Nat
  deriving DecidableEq, Repr

/-- One island's end of the commit channel and its copies of the configuration (R22 to R31). -/
structure Isl where
  inbox : List CommitMsg
  pending : Option RegMap
  pendGen : Word
  pendDt : DT
  confirmed : Bool
  abandoned : Bool
  active : RegMap
  gen : Word
  retiring : Option RegMap
  retGen : Word
  deriving DecidableEq, Repr

/-- A snapshot being written (R36 to R39). -/
structure SnapWrite where
  second : Bool
  seq : Word
  dt : DT
  periodic : Bool
  data : RegMap
  deriving DecidableEq, Repr

/-- The Snapshot page (R35 to R39); the buffers hold words by byte offset, an unlisted word reads 0. -/
structure Snap where
  latest : Bool
  reqState : BitVec 2
  reqCause : BitVec 2
  /-- The DT of an accepted request that has not come yet. -/
  req : Option DT
  /-- The DT of the latest requested snapshot taken. -/
  lastTaken : Option DT
  /-- The elapsed time of the latest periodic snapshot. -/
  tickAt : Option Nat
  nextSeq : Word
  writing : Option SnapWrite
  bufA : RegMap
  bufB : RegMap
  deriving DecidableEq, Repr

/-! ### Spokes -/

/-- What a driver does with the pin. -/
inductive Drv where
  | low
  | high
  | hiz
  deriving DecidableEq, Repr

/-- The kinds of descriptor that occupy a queue place (R58). -/
inductive Kind where
  | pulse
  | burst
  | train
  | level
  | window
  deriving DecidableEq, Repr

/-- A descriptor accepted into the queue (R58, R60): the raw 128 bits, its generation tag, the start instant fixed at
entry, how many pulses it will run (none: a TRAIN without end), how many edges have passed, and a window's progress. -/
structure QDesc where
  raw : BitVec 128
  kind : Kind
  tag : Word
  thread : ThreadId
  start : DT
  pulses : Option Nat
  edges : Nat
  opened : Bool
  seen : Bool
  /-- The end a time step gave the pulse that is high (R253). -/
  fall : Option DT
  deriving DecidableEq, Repr

/-- A descriptor in the channel to a spoke (R44, R58). -/
structure ChanDesc where
  raw : BitVec 128
  tag : Word
  thread : ThreadId
  deriving DecidableEq, Repr

/-- A control message in the channel from Pacer to a spoke (R44, R81): a descriptor, or a cancel with its cut. -/
inductive SpokeMsg where
  | desc (d : ChanDesc)
  | cancel (cut : DT) (p : ThreadId)
  deriving DecidableEq, Repr

/-- A window that has closed while edges of its span may still be crossing: the instant it closed at, its
SP_DESKEW_RX, and whether it will still record MISS if none of them qualifies (R56, R73). -/
structure EndWin where
  d : QDesc
  close : DT
  rx : Nat
  miss : Bool
  deriving DecidableEq, Repr

/-- The counters of a spoke (03, registers). -/
structure SpokeCnt where
  edges : Word
  reject : Word
  late : Word
  lost : Word
  suppr : Word
  cancelled : Word
  caps : Word
  capDrop : Word
  dead : Word
  cmpFail : Word
  cmpMiss : Word
  deriving DecidableEq, Repr

/-- One spoke (R55 to R85). -/
structure Spoke where
  /-- Control messages that Pacer has issued and the spoke has not yet taken, oldest first (R44). -/
  chan : List SpokeMsg
  queue : List QDesc
  /-- Windows that have closed and still take edges on their way from the lands (R56, R73). -/
  ending : List EndWin
  anchor : DT
  /-- The level the executing work calls for. -/
  drv : Drv
  /-- Edges launched and not yet at the lands, with the DT at which each comes there (R56), and the level of the last
  one that has come there. -/
  launches : List (DT × Drv)
  landed : Drv
  /-- When the last edge that has come to the lands, and left `launches`, came there. -/
  landedAt : Option DT
  /-- The instant of the spoke's latest drive action, whichever path it came from (R149). -/
  lastAct : Option DT
  /-- SP_QSTAT.SUPPR and DRV as they stood when the spoke's clock was gated (R360). -/
  heldSuppr : Bool
  heldDrv : BitVec 2
  /-- SP_MODE fields in force (R77). -/
  out : BitVec 2
  legn : BitVec 2
  term : Bool
  modePend : Bool
  modeEnd : Option DT
  /-- The comparator's level. -/
  pin : Bool
  lastStamp : Option DT
  /-- Launch instants plus deskew of own emitted edges that still blank capture (R71). -/
  ownEdges : List DT
  /-- The pending cancel's DT_cut (R81). -/
  cancel : Option DT
  /-- Host cancels that Handlebar holds while the spoke takes nothing, oldest first (R46, R48). -/
  hostCancels : List DT
  cancelState : BitVec 2
  dead : Bool
  /-- A record was dropped at the record path, or at the ring, since the last one went through there (R74). -/
  drop : Bool
  ringDrop : Bool
  seq : BitVec 16
  /-- End of the 1 us minimum retention after a swap (R66). -/
  retainTo : Option DT
  /-- The first edge dropped since the last LOST was raised. -/
  lostFirst : Option DT
  /-- Instants of the edges suppressed in standby since the TXTS of the last heartbeat (R347). -/
  gapEdges : List DT
  /-- Own edges at the lands, with their directions, that no crossing has answered yet, and the latest crossings (R345,
  R349). -/
  evOwn : List (DT × Bool)
  evNet : List (DT × Bool)
  /-- When the comparator last turned, and when a level mismatch was last found (R345). -/
  crossAt : Option DT
  evFrom : Option DT
  /-- Capture held off by a full run (R213). -/
  capOff : Bool
  /-- The DT from which capture is back in service after a run that yielded (R217). -/
  capFrom : Option DT
  /-- Places freed that Pacer has not learnt of (R108). -/
  freed : Nat
  cnt : SpokeCnt
  deriving DecidableEq, Repr

/-! ### Pacer -/

/-- A stack entry (R86): a call's return address, or a loop's start address and remaining count. -/
inductive StackEnt where
  | call (addr : BitVec 14)
  | loop (addr : BitVec 14) (count : Word)
  deriving DecidableEq, Repr

/-- A mailbox entry (R86, R112). -/
structure MailEnt where
  dt : DT
  word : Word
  src : BitVec 16
  deriving DecidableEq, Repr

/-- Where a mailbox entry on its way came through, for R20 and R139. -/
inductive MailVia where
  | thread
  | port (c : PortId)
  | ring
  | pair
  deriving DecidableEq, Repr

/-- A mailbox entry on its way to a thread. -/
structure MailIn where
  dest : ThreadId
  via : MailVia
  ent : MailEnt
  deriving DecidableEq, Repr

/-- The states of a thread (R125). -/
inductive TState where
  | stopped
  | run
  | hold
  | wait
  | halted
  | faulted
  deriving DecidableEq, Repr

/-- An issue, as it stands in a held instruction (R102, R109, R113). -/
inductive Issue where
  /-- A descriptor with its DT; Pacer sets START and places an ANCHOR where R101 says so. -/
  | desc (s : SpokeId) (raw : BitVec 128) (ta : DT)
  | anchor (s : SpokeId) (ta : DT)
  | cancel (s : SpokeId) (ta : DT)
  | vstart (v : EngineId) (seg : BitVec 10) (ta : DT)
  | vjump (v : EngineId) (seg : BitVec 10)
  | vrate (v : EngineId) (period : Word) (ta : DT)
  | vstop (v : EngineId) (ta : DT)
  /-- A trigger: DEST, its DT and its word (R113). -/
  | trig (dest : BitVec 16) (ta : DT) (x : Word)
  deriving DecidableEq, Repr

/-- What a thread in HOLD or WAIT waits for (R125). -/
inductive WaitOn where
  | none
  | issue (m : Issue)
  | time (ta : DT)
  | event (e : EventId) (dl : Option DT) (dst : Option (Fin 8 × Fin 8))
  | recv (dl : Option DT) (td : Fin 8) (ge : Fin 8)
  | queue (s : SpokeId) (n : Nat) (dl : Option DT)
  | take (a : AxisId) (td : Fin 8)
  | commit (gr : Fin 8) (ans : Option (BitVec 4))
  deriving DecidableEq, Repr

/-- The thread control actions (R126). -/
inductive CtlOp where
  | start
  | stop
  | resume
  deriving DecidableEq, Repr

/-- The one pending control action (R127, R141). -/
structure CtlAct where
  op : CtlOp
  dt : DT
  entry : BitVec 14
  ring : Bool
  notify : Bool
  seq : BitVec 16
  latest : Bool
  deriving DecidableEq, Repr

/-- One sequencer thread (R86, R125 to R145). -/
structure Thread where
  ip : BitVec 14
  g : Vector Word 8
  t : Vector DT 8
  z : Bool
  n : Bool
  c : Bool
  v : Bool
  f : Bool
  stack : List StackEnt
  mbox : List MailEnt
  lastSrc : BitVec 16
  state : TState
  waitOn : WaitOn
  /-- The first slot (global slot number) the thread may use next. -/
  nextSlot : Nat
  cmdState : BitVec 2
  cmdCause : BitVec 2
  act : Option CtlAct
  faultCause : BitVec 4
  faultIp : BitVec 14
  faultDt : DT
  instr : Word
  late : Word
  cmds : Word
  mboxDrops : BitVec 16
  /-- Pending event bits, bit e for source Ee (R135). -/
  pend : BitVec 256
  /-- The event whose bit a WAITE last cleared, the slot of that, and where its DT and cause went (R136). -/
  cleared : Option (EventId × Nat × Option (Fin 8 × Fin 8))
  /-- The instruction in progress was fetched from the bank that a swap has since made the shadow bank (R129). -/
  oldBank : Bool
  /-- Command ring entries that have reached Pacer and not yet acted (R140). -/
  cmdIn : List Octets
  deriving DecidableEq, Repr

/-- Pacer (R86 to R145). -/
structure Pacer where
  th : Vector Thread 16
  /-- The anchor mirrors M(s) (R101). -/
  mirror : Vector DT 64
  /-- Places of Q(s) in use as Pacer counts them (R108). -/
  used : Vector Nat 64
  bank : Bool
  locked : Bool
  wrDrop : BitVec 16
  crcBusy : Bool
  /-- The shadow bank was written during the computation (R131). -/
  crcDirty : Bool
  crcValid : Bool
  crc : Word
  /-- Latest occurrence of each source that has reached Pacer: DT and cause (R135). -/
  evMem : Vector (DT × Word) 256
  /-- The event path's latch per source: occurrences not yet at Pacer whose WAKE may still be decided, newest last
  (R135, R369). -/
  latch : Vector (List (DT × Word)) 256
  /-- Mailbox entries on their way; of each path the first four stand in its channel, the rest with their issuer (R44,
  R46). -/
  mail : List MailIn
  /-- Register-issued control actions that Handlebar holds while Pacer takes nothing, oldest first (R46, R48). -/
  ctlIn : List (ThreadId × CtlOp × DT)
  deriving DecidableEq, Repr

/-! ### Chainring -/

/-- The states of an engine (CR_STAT.STATE). -/
inductive EState where
  | stopped
  | play
  | idle
  deriving DecidableEq, Repr

/-- What the latch point fixed for the coming boundary (R159, R168, R169): a segment with the plays of it counted so far
and whether a jump named it, the idle segment and whether for starvation, or a stop. -/
inductive Fixed where
  | seg (n : BitVec 10) (plays : Nat) (jumped : Bool)
  | idle (n : BitVec 10) (starve : Bool)
  | stopEnd
  | stopIdleseg
  deriving DecidableEq, Repr

/-- The segment wanted during starvation: the plays of it counted so far, and whether a jump named it (R168, R160). -/
structure Want where
  seg : BitVec 10
  plays : Nat
  jumped : Bool
  deriving DecidableEq, Repr

/-- A message in the channel from Pacer to an engine (R109, R158). -/
inductive EngMsg where
  | start (seg : BitVec 10) (ta : DT) (p : ThreadId)
  | rate (period : Word) (ta : DT) (p : ThreadId)
  | stop (ta : DT) (p : ThreadId)
  deriving DecidableEq, Repr

/-- A drive action of a slot waiting for its instant (R147, R148). -/
structure DriveAct where
  spoke : SpokeId
  at_ : DT
  drv : Drv
  deriving DecidableEq, Repr

/-- A strobe of a slot waiting for its instant, or an open CE window (R147, R170, R171). -/
structure Strobe where
  spoke : SpokeId
  at_ : DT
  /-- none: CE; some expected level: C0 or C1. -/
  expect : Option Bool
  opens : DT
  seen : Bool
  seg : BitVec 10
  vpos : BitVec 20
  /-- CR_CTRL.REC of the generation the vector started in, and the number of the play (R152, R170). -/
  record : Nat
  play : Nat
  deriving DecidableEq, Repr

/-- A stream fill in progress (R166). -/
structure Fill where
  seg : BitVec 10
  notify : Bool
  /-- The region's first vector and its vectors, as the entry stood when the fill began. -/
  first : Nat
  vecs : Nat
  addr : BitVec 64
  /-- Vectors copied when the active regions last changed. -/
  copied : Nat
  /-- The vector at which the fill met an active region, and how many of the vectors from there on lay in an active region
  of each engine. -/
  met : Option (Nat × List Nat)
  deriving DecidableEq, Repr

/-- One vector engine (R146 to R175). -/
structure Engine where
  state : EState
  seg : BitVec 10
  pos : Nat
  plays : Nat
  fixed : Option Fixed
  want : Option Want
  /-- The play in progress is the last of its COUNT, as the table at the latch point had it (R159, R166). -/
  lastPlay : Bool
  starving : Bool
  jump : Option (BitVec 10)
  cause : BitVec 4
  ref : DT
  period : Nat
  nextVec : DT
  /-- The end of the vector that started last (R152). -/
  vecEnd : DT
  /-- RATE is owed at the next vector start (R163). -/
  rateDue : Bool
  msgs : List EngMsg
  jumpsIn : List (BitVec 10 × ThreadId)
  ready : List Nat
  fill : Option Fill
  feedIn : List Octets
  acts : List DriveAct
  strobes : List Strobe
  /-- The number of the play in progress, and the play in which each spoke last failed (R170). -/
  playNo : Nat
  failedPlay : Vector (Option Nat) 64
  guardSaid : Bool
  offsetSaid : Bool
  /-- Where a loss of lock stopped the engine, until LOCK is raised (R173). -/
  lockDt : Option DT
  ffValid : Bool
  /-- The logic cycle in which the first failure was latched (R11). -/
  ffCycle : Nat
  ffSpoke : BitVec 6
  ffExp : Bool
  ffSeg : BitVec 10
  ffPos : BitVec 20
  ffDt : DT
  vectors : Word
  starves : Word
  fails : Word
  skips : Word
  segwr : Word
  feeds : Word
  failCnt : Vector Word 64
  deriving DecidableEq, Repr

/-! ### Crank -/

/-- The classes of a segment (R184). -/
inductive SegClass where
  | mono
  | nonmono
  | slope
  | const
  deriving DecidableEq, Repr

/-- A held segment (R177, R181): the record, and the end of its held part. C1 to C3 in units of 1/65536. -/
structure Segment where
  t0 : DT
  len : Nat
  evt : Bool
  c0 : Int
  c1 : Int
  c2 : Int
  c3 : Int
  heldEnd : DT
  cls : SegClass
  started : Bool
  /-- The logic cycle in which it was accepted (R192). -/
  cycle : Nat
  deriving DecidableEq, Repr

/-- Where a record came from (R179). -/
inductive RecSrc where
  | host
  | frame (c : PortId) (axid : BitVec 8)
  deriving DecidableEq, Repr

/-- A record in Crank's input buffer (R179). -/
structure RecIn where
  /-- The axis CK_SEGW_CTRL named; an Axis frame's axes are those that select it. -/
  axis : AxisId
  src : RecSrc
  bytes : Octets
  /-- The first record of its frame (R179). -/
  first : Bool
  /-- When it came into Crank's buffer; none: Crank's clock was gated, and its sender holds it (R48, R194). -/
  at_ : Option DT
  /-- The axes that took its source when it arrived, where a swap has since changed CK_AX_CFG (R194). -/
  sel : Option (List AxisId)
  deriving DecidableEq, Repr

/-- How far a target has come (R186, R187). -/
inductive TgtState where
  /-- In Crank's input buffer. -/
  | posted
  /-- Waiting for a later segment. -/
  | waiting (s : DT)
  /-- In the solver, with the answer of the model as it stood when the solve began, and whether a segment has since been
  accepted that it must be searched again for (R191). -/
  | solving (s : DT) (t : DT) (again : Bool)
  /-- Delivered to Pacer (R190). -/
  | time (t : DT)
  /-- Ended without a time. -/
  | noTime
  deriving DecidableEq, Repr

/-- One held target place (R185). -/
structure Target where
  thread : ThreadId
  pos : Int
  st : TgtState
  deriving DecidableEq, Repr

/-- One axis (R176 to R196). -/
structure Axis where
  segs : List Segment
  tgts : List Target
  dry : Bool
  /-- The position a DRY axis holds, exactly: a numerator and its denominator. -/
  held : Int
  heldDen : Nat
  cause : BitVec 4
  lastDt : DT
  accepted : Word
  refused : Word
  solved : Word
  noTime : Word
  jumps : Word
  revised : Word
  deriving DecidableEq, Repr

/-- Crank: its axes, its input buffer and the host path's state (R179). -/
structure Crank where
  axes : Vector Axis 8
  recIn : List RecIn
  segwState : BitVec 2
  segwCause : BitVec 4
  unmapped : Word
  deriving DecidableEq, Repr

/-! ### Truing -/

/-- One calibration item (R197 to R210). Trims in steps of 1/256 ft, empty lists standing for untrimmed. -/
structure TruItem where
  loaded : Bool
  runCode : BitVec 8
  range : Bool
  tempRes : Int
  tempRun : Option Int
  slew : Bool
  cause : BitVec 8
  trims : List Int
  target : List Int
  thr : Int
  prev : Option (List Nat)
  hitTime : Nat
  hitFrom : Option Nat
  stepAt : List (Nat × Nat)
  accept : BitVec 16
  reject : BitVec 16
  deriving DecidableEq, Repr

/-- The phases of a full run (R213). -/
inductive RunPhase where
  | entry
  | delay
  | threshold
  | apply_
  deriving DecidableEq, Repr

/-- A spoke's full-run request and run (R211 to R217). -/
structure TruReq where
  st : BitVec 3
  deadline : DT
  outcome : BitVec 8
  phase : RunPhase
  x : DT
  drvX : Drv
  histA : Option (List Nat)
  histB : Option (List Nat)
  fail : Option (BitVec 8)
  level : Int
  /-- The DT at which a background burst of this spoke began (R208). -/
  burst : Option DT
  /-- The DT from which the spoke's idle gap runs (R208). -/
  idleFrom : DT
  /-- The item's trims, target, threshold trim, range and load marks before this run applied its result (R217, R218). -/
  old : Option (List Int × List Int × Int × Bool × Bool)
  deriving DecidableEq, Repr

/-- One trim slot in flash (R220): the fields of its header, and what the records of its 68 items hold. Slot 0 lies at
flash offset 0x080000 and slot 1 at 0x100000, where nothing else reads or writes. -/
structure TrimSlot where
  magic : Word
  gen : Word
  length : Word
  crc : Word
  serial : Word
  fusecrc : Word
  items : List (List Int × Int × Bool × Int × Option Int)
  deriving DecidableEq, Repr

/-- A trim store in progress (R222, R223). -/
structure StoreJob where
  slot : Bool
  gen : Word
  page : Nat
  copy : List (List Int × Int × Bool × Int × Option Int)
  deriving DecidableEq, Repr

/-- Truing (R197 to R225). -/
structure Truing where
  items : Vector TruItem 68
  reqs : Vector TruReq 64
  /-- Whom each hit source serves next: the spoke within the group, and for the last, the interpolator (R198, R208). -/
  turn : Vector Nat 9
  storeState : BitVec 2
  newest : Bool
  noSlot : Bool
  gen : Word
  saved : BitVec 16
  abandonedCnt : BitVec 16
  job : Option StoreJob
  /-- A page program is running until this elapsed time (R223, R398). -/
  pageTo : Option Nat
  lastStore : Nat
  dirty : Bool
  /-- When the full runs that ended TRUE ended, no store having begun since (R222). -/
  afterRun : List Nat
  slotA : TrimSlot
  slotB : TrimSlot
  deriving DecidableEq, Repr

/-! ### Hub and Noon -/

/-- Where a lock of the MDLL stands (R233, R235). -/
inductive LockSt where
  | off
  | settle
  | search
  | lockWait
  | agreed
  | backoff
  | locked
  deriving DecidableEq, Repr

/-- Noon's holdover counter (R240): the count it began with when the gates closed, the W in force then, and the elapsed
time from which its TCXO cycles are counted. -/
structure Holdover where
  base : DT
  w : Int
  from_ : Nat
  deriving DecidableEq, Repr

/-- Hub (R226 to R238, R255 to R258). -/
structure Hub where
  gatesOpen : Bool
  lock : LockSt
  /-- The elapsed time at which the lock's present step ends. -/
  stepEnd : Nat
  band : BitVec 5
  sel : BitVec 4
  /-- HU_REF_CFG has been written since Hub last armed, and before it armed for the pending commit (R229). -/
  selWritten : Bool
  selArmed : Bool
  hold : Bool
  w : Int
  wPend : Option Int
  wAt : Option Nat
  losses : BitVec 12
  relocks : BitVec 10
  ceiling : BitVec 10
  disagree : Nat
  closeDt : DT
  /-- The holdover counter, while the core clock is gated and DT runs (R240). -/
  ho : Option Holdover
  /-- The step the interpolators take in the present cycle (R238): negative, the cycle is 1 ft longer; positive, 1 ft
  shorter. -/
  piStep : Int
  /-- This lock is the Dawn-to-Day one (R234, R394). -/
  dayLock : Bool
  /-- The gates have opened once since Dawn (R350, cause CLOCK). -/
  inDay : Bool
  /-- The commit that ends the restart hold must take effect after this DT (R256). -/
  openDt : DT
  deriving DecidableEq, Repr

/-- What Noon knows of one candidate (R241, R245, R246). -/
structure Cand where
  /-- Elapsed times of its latest measurements, newest first. -/
  times : List Nat
  root : BitVec 64
  hops : Nat
  qual : Nat
  tai : Bool
  /-- Latest error measured from it. -/
  err : Int
  deriving DecidableEq, Repr

/-- A measurement on its way to Noon (R241, R285). -/
structure Meas where
  cand : Fin 16
  e : Int
  dt : DT
  root : BitVec 64
  hops : Nat
  qual : Nat
  tai : Bool
  deriving DecidableEq, Repr

/-- A requested time step (R251, R252). -/
structure StepReq where
  at_ : DT
  d : Int
  epoch : Bool
  auto : Bool
  reach : Reach
  confirmed : Bool
  deriving DecidableEq, Repr

/-- Noon (R239 to R254). -/
structure Noon where
  state : BitVec 2
  src : BitVec 4
  epoch : Bool
  stepWait : Bool
  waitSaid : Bool
  err : Int
  slew : Int
  /-- Consecutive |e| at or below LOCKTHR, and consecutive ones above. -/
  good : Nat
  bad : Nat
  cands : Vector Cand 16
  winner : BitVec 4
  winRun : Nat
  first : Bool
  lastMeas : DT
  /-- W values by the elapsed time they came in force, newest first (R243). -/
  wLog : List (Nat × Int)
  slewFrom : Option Nat
  slewStep : Option Nat
  cmpAt : Nat
  /-- Noon's count as it was last distributed to the replicas, and the elapsed time of that (R239). -/
  distAt : DT
  distClock : Nat
  inbox : List Meas
  step : Option StepReq
  stepState : BitVec 2
  stepCause : BitVec 4
  /-- An automatic step wanted: DT_to less DT_at, EPOCH, and when it is next requested (R254). -/
  autoStep : Option (Int × Bool)
  autoAt : Nat
  ppsDt : DT
  ppsLast : Option DT
  ppsSeen : Nat
  ppsOut : Bool
  ppsEnd : DT
  ppsNext : DT
  deriving DecidableEq, Repr

/-! ### Chain ports -/

/-- The counters of a port (10, registers). -/
structure PortCnt where
  bellTx : Word
  bellRx : Word
  stampTx : Word
  stampRx : Word
  exch : Word
  exchBad : Word
  trigTx : Word
  trigRx : Word
  axisRx : Word
  badFrame : Word
  blockLoss : Word
  prbsErr : Word
  hostTx : Word
  hostRx : Word
  hostDrop : Word
  deriving DecidableEq, Repr

/-- A delay estimator (R281 to R284), shared by Chain ports, ring hops and the Pair lane. -/
structure Estim where
  /-- dmean in ft, and whether a used exchange has set it. -/
  dmean : Int
  valid : Bool
  rejects : Nat
  alpha : Int
  err : Int
  frozen : Bool
  /-- Elapsed time of the latest used exchange (or of entry). -/
  usedAt : Nat
  /-- D of the latest used exchange. -/
  usedD : DT
  /-- Own stamps sent: SEQ, A, coarse, newest first. -/
  sent : List (BitVec 16 × DT × Bool)
  /-- The partner's latest stamp: SEQ, TXTS, arrival DT, arrival coarse. -/
  got : Option (BitVec 16 × DT × DT × Bool)
  deriving DecidableEq, Repr

/-- What a partner's Offer carries (R274). -/
structure OfferRec where
  offerId : Word
  vmin : Byte
  vmax : Byte
  rates : Byte
  res : Byte
  perm : Byte
  fmt : Byte
  txlat : Word
  rxlat : Word
  fafix : Word
  facoef : Word
  deriving DecidableEq, Repr

/-- A settled mode (R275). -/
structure ModeRec where
  ver : Byte
  rate : BitVec 2
  res : Byte
  grant : BitVec 6
  restep : Bool
  asym : BitVec 2
  fafix : Int
  facoef : Int
  deriving DecidableEq, Repr

/-- One Chain port (R261 to R298). -/
structure Port where
  mode : BitVec 2
  day : BitVec 2
  st : BitVec 3
  /-- The rate the lane runs at, and the one CP_STAT.RATE reports: that at which block lock held for 1 ms (R269). -/
  rate : BitVec 2
  own : BitVec 2
  block : Bool
  lockFrom : Option Nat
  rateFrom : Nat
  wakeAt : Option Nat
  settled : BitVec 2
  excl : BitVec 2
  reason : Byte
  heard : BitVec 64
  peer : BitVec 64
  peerIvl : Nat
  lastBell : Nat
  answered : Bool
  selfSaid : Bool
  discFrom : Nat
  seqs : Vector (BitVec 16) 9
  bellAt : Nat
  offerAt : Nat
  negFrom : Nat
  stampAt : Nat
  offerId : Word
  peerOffer : Option OfferRec
  accSent : Option Word
  /-- The latest Accept received for the current OFFERID, and whether it has been held against a result (R276). -/
  accRecv : Option (Octets × Bool)
  modeR : Option ModeRec
  pfmt : Bool
  restepAt : Option Nat
  est : Estim
  ptxlat : Nat
  prxlat : Nat
  phops : Byte
  pqual : Byte
  ptai : Bool
  proot : BitVec 64
  loopb : BitVec 2
  gen : Bool
  chk : Bool
  /-- SZL frames that wait for the lane, by their TYPE, with the PDU; a Stamp's is made as it leaves (R287). -/
  waiting : List (Nat × Octets)
  /-- SZL frames as sent on the lane, FCS included, each with the DT of its timestamp point, oldest first (R263, R272). -/
  txq : List (DT × Octets)
  /-- Message ring entries that have reached the port and wait (R291). -/
  msgIn : List Octets
  cnt : PortCnt
  deriving DecidableEq, Repr

/-! ### Freewheel -/

/-- A frame in the shared buffer (R301 to R315). -/
structure Frame where
  pair : PortId
  toLine : Bool
  octets : Octets
  cls : Nat
  ct : Bool
  gen : Word
  disp : BitVec 2
  ts : Bool
  corr : Bool
  ingress : DT
  egress : Option DT
  whole : Bool
  stomp : Bool
  cells : Nat
  deriving DecidableEq, Repr

/-- The counters of a pair (11, registers). -/
structure FwCnt where
  fwdHl : Word
  fwdLh : Word
  discard : Word
  stomped : Word
  extract : Word
  corr : Word
  gdrop : Word
  tsrec : Word
  deriving DecidableEq, Repr

/-- Freewheel (R299 to R319). -/
structure Freewheel where
  bypass : Bool
  frames : List Frame
  free : Nat
  low : Bool
  badEnt : Option (BitVec 9)
  hblock : Vector Bool 8
  cnt : Vector FwCnt 8
  /-- Frames that were in egress when the gates closed: pair and direction, for E209 GATED (R317). -/
  cut : List (PortId × Bool)
  /-- Frames sent on the egress lanes, oldest first, each as it left: its octets with any correction and its FCS, or, where
  it was stomped, what came before the /E/ (R308, R314, R317). -/
  sent : List Frame
  /-- FW_P_STAT of each pair as it stood when the clock was gated (R360). -/
  heldStat : Vector Word 8
  deriving DecidableEq, Repr

/-! ### Stoker and Pair -/

/-- A BEACON as received on one ring (R325). -/
structure BeaconRec where
  hops : Nat
  root : BitVec 64
  gen : Word
  rootHops : Nat
  qual : Nat
  tai : Bool
  deriving DecidableEq, Repr

/-- A commit or step the coordinator carries (R337). -/
structure CoordRec where
  pos : BitVec 4
  side : Bool
  step : Bool
  dtEff : DT
  gen : Word
  d : BitVec 64
  reach : Reach
  /-- Modules still to answer: position and side. -/
  awaiting : List (Nat × Bool)
  deriving DecidableEq, Repr

/-- A stack-wide commit or step this module has armed for (R337, R338). -/
structure ArmedRec where
  side : Bool
  coord : Nat
  step : Bool
  dtEff : DT
  gen : Word
  d : BitVec 64
  answered : Bool
  decided : Bool
  deriving DecidableEq, Repr

/-- Stoker (R320 to R340). -/
structure Stoker where
  st : BitVec 3
  pos : BitVec 4
  capt : Bool
  captPos : BitVec 4
  captId : BitVec 64
  dir : Bool
  cwOk : Bool
  ccwOk : Bool
  jwait : Bool
  npos : Option (BitVec 4)
  ppos : Option (BitVec 4)
  estN : Estim
  estP : Estim
  joinUses : Nat
  err : Int
  badCell : Word
  dirSw : Word
  elect : Word
  orphan : Word
  exchBad : Word
  /-- First copies remembered: origin, side, SEQ, elapsed time (R323). -/
  seen : List (Nat × Bool × Byte × Nat)
  seq : Byte
  beaconCw : Option BeaconRec
  beaconCcw : Option BeaconRec
  /-- Elapsed time since when the preferred ring has been present (R325). -/
  preferFrom : Option Nat
  lastBeacon : Nat
  /-- Elapsed times of the latest BEACON on each ring. -/
  heardCw : Nat
  heardCcw : Nat
  stFrom : Nat
  beaconAt : Nat
  hopAt : Nat
  cands : List (BitVec 4 × BitVec 64)
  coord : Option CoordRec
  armed : Option ArmedRec
  /-- The latest BEACON of the other side relayed: elapsed time, generation (R336, R340). -/
  otherBeacon : Option (Nat × Word)
  /-- Positions heard on this side's ring and on the other side's. -/
  members : List Nat
  otherMembers : List Nat
  /-- A clock arrives on the clockwise and the counter-clockwise ring (R324, R325). -/
  clkCw : Bool
  clkCcw : Bool
  /-- A loss has moved the ring PLL to the ring it does not prefer (R325). -/
  moved : Bool
  /-- The Captain's ring PLL is locked to the DCO output, not in holdover (R334). -/
  pllDco : Bool
  /-- Cells that wait for an outgoing link; none: a HOPSTAMP, which is made as it begins (R323, R327). -/
  wait : List (RingPort × Option Octets)
  /-- The elapsed time from which the link of port N, and of port P, can begin a cell (R322). -/
  freeN : Nat
  freeP : Nat
  /-- Cells sent: on which outgoing port, octets. -/
  out : List (RingPort × Octets)
  deriving DecidableEq, Repr

/-- The drive token states (R344). -/
inductive Token where
  | none
  | standby
  | active
  | brake
  deriving DecidableEq, Repr

/-- The referee of the redundant pair, the Pair lane and the watchdog (R341 to R355). -/
structure Pair where
  side : Bool
  token : Token
  ptoken : BitVec 2
  lane : Bool
  block : Bool
  lockFrom : Option Nat
  posOk : Bool
  heard : Bool
  hb : Bool
  lastHb : Nat
  lastTx : DT
  partnerStandbyFrom : Option Nat
  evid : Bool
  lastMis : Option Nat
  genSplit : Bool
  brakeLine : Bool
  brakeCause : BitVec 3
  kick : Bool
  lastKick : Nat
  tcxo : Bool
  /-- Equalisation of the Pair lane, laid out as CP_EQL10 (R342). -/
  eq : BitVec 21
  gapDt : DT
  gapEdges : Word
  netOfs : Vector (List Int) 64
  est : Estim
  ptxlat : Nat
  prxlat : Nat
  hand : Option DT
  handOk : Bool
  hbAt : DT
  seqHb : BitVec 16
  seqRelay : BitVec 16
  hbMiss : Word
  takes : Word
  releases : Word
  mismatch : Word
  brakes : Word
  badFrame : Word
  /-- Frames sent on the Pair lane, FCS included (R342). -/
  out : List Octets
  deriving DecidableEq, Repr

/-! ### Handlebar -/

/-- One ring in host memory (R362 to R368). -/
structure Ring where
  base : BitVec 64
  log2 : BitVec 4
  en : Bool
  wben : Bool
  prod : BitVec 16
  cons : BitVec 16
  wb : BitVec 64
  drops : BitVec 16
  err : Bool
  /-- Next index to fetch on a host-to-device ring. -/
  fetched : BitVec 16
  /-- DROP of the next event record written (R365). -/
  dropFlag : Bool
  /-- The index the device owns has changed since the last writeback (R367). -/
  wbDue : Bool
  /-- Entries fetched before the ring was last enabled or reset that their consumer has not yet taken (R364). -/
  stale : Nat
  deriving DecidableEq, Repr

/-- An entry on its way to a device-to-host ring; a capture record names its spoke. -/
structure OutEntry where
  q : RingId
  rx : Bool
  spoke : Option SpokeId
  /-- Handlebar's write buffer has accepted it, so it has its place in the ring (R365, R366). -/
  taken : Bool
  bytes : Octets
  deriving DecidableEq, Repr

/-- A posted write to host memory (R367), an MSI-X message being one too. -/
structure Posted where
  addr : BitVec 64
  bytes : Octets
  deriving DecidableEq, Repr

/-- One MSI-X vector's table entry, pending bit and hold-off (R374). -/
structure Vec where
  addr : BitVec 64
  data : Word
  mask : Bool
  pba : Bool
  /-- Elapsed time at which the hold-off ends, and whether a trigger fell in it. -/
  holdTo : Option Nat
  trig : Bool
  deriving DecidableEq, Repr

/-- The fused identity (R375 to R377, R357). -/
structure Fuses where
  lot : BitVec 24
  wafer : BitVec 8
  x : BitVec 8
  y : BitVec 8
  serial : BitVec 32
  crc : BitVec 32
  vendor : BitVec 16
  deriving DecidableEq, Repr

/-- The state of an SPI frame (R378, R379). -/
inductive SpiSt where
  | idle
  /-- A frame with its opcode and the address of its next word. -/
  | inFrame (op : BitVec 8) (addr : BitVec 24)
  | ignoring
  deriving DecidableEq, Repr

/-- A flash program or erase in progress (R381): the page to program, or none for an erase. -/
structure FlashJob where
  addr : Nat
  page : Option Octets
  deriving DecidableEq, Repr

/-- What software sets in the endpoint's configuration space (R356, R374): the power state D3hot, the function mask of
MSI-X, and the maximum payload and read request sizes. -/
structure PciCfg where
  d3 : Bool
  mask : Bool
  payload : BitVec 3
  readReq : BitVec 3
  deriving DecidableEq, Repr

/-- Handlebar (R356 to R384). -/
structure Handlebar where
  fuse : Fuses
  imageBad : Bool
  speed : BitVec 3
  width : BitVec 4
  imgSkip : BitVec 8
  subVendor : BitVec 16
  subId : BitVec 16
  cfg : PciCfg
  flashState : BitVec 2
  flashCause : BitVec 3
  flashJob : Option FlashJob
  flashBuf : Octets
  partialCnt : BitVec 16
  badDb : BitVec 16
  /-- EV_CFG writes: source, DT of the write, value; newest first (R369). -/
  evCfg : List (EventId × DT × BitVec 12)
  evStat : BitVec 256
  vecHold : Vector (BitVec 10) 128
  vecs : Vector Vec 128
  /-- The FLR record held until its ring can take it: DT and COARSE (R358). -/
  flrHeld : Option (DT × Bool)
  rings : Vector Ring 64
  rxRings : Vector Ring 8
  /-- The holding latch of each bus: a register's offset and its upper words (R35). -/
  latchP : Option (Nat × List Word)
  latchS : Option (Nat × List Word)
  /-- What the latest read of BAR0 returned. -/
  rdata : Word
  spi : SpiSt
  spiOut : Octets
  /-- Handlebar runs on the PCIe reference clock; false: on the clock derived from the TCXO (R421). -/
  refclk : Bool
  deriving DecidableEq, Repr

/-! ### Dynamo -/

/-- The device states (R390), start-up between Night and Dawn included, and VIN absent. -/
inductive DevSt where
  | off
  | night
  | startUp
  | dawn
  | day
  | dusk
  deriving DecidableEq, Repr

/-- The input eFuse (R387 to R389, R392, R396): open, charging VBUS in a soft start, conducting, or blocking VBUS from a
VIN below it. -/
inductive EFuse where
  | cut
  | soft
  | conducts
  | blocks
  deriving DecidableEq, Repr

/-- Dynamo (R385 to R406). -/
structure Dynamo where
  st : DevSt
  dayEntry : Bool
  refused : BitVec 2
  autoDay : Bool
  lastOff : BitVec 4
  /-- The cause kept by the always-on island through Night. -/
  kept : BitVec 4
  vin : BitVec 16
  vbus : BitVec 16
  pin : BitVec 16
  holdup : BitVec 16
  temp : BitVec 12
  cbus : BitVec 10
  eFuse : EFuse
  /-- The elapsed time since which every measured die temperature has been above 125 degrees (R397). -/
  hotFrom : Option Nat
  /-- DY_TEMP and DY_CBUS have been reported since Dawn entry, where they read 0 (R12). -/
  tempSaid : Bool
  cbusSaid : Bool
  confirmed : Bool
  brown : Bool
  brownFrom : Nat
  brownOv : Bool
  elFault : Bool
  tWarn : Bool
  elLock : BitVec 64
  brownouts : BitVec 16
  ridethrus : BitVec 16
  enLevel : Bool
  vinOk : Bool
  /-- The strap lands, as the latest sample of the pins had them: POS in bits 3 to 0, CAPT in bit 4 (R415). -/
  straps : BitVec 5
  highs : Nat
  lows : Nat
  /-- EN has been low on four samples since the Dusk began (R391). -/
  enFell : Bool
  /-- Steps of start-up done: soft start begun, ended, and rails up (0 to 7). -/
  soft : Bool
  softFrom : Nat
  softDone : Bool
  rails : Nat
  railFrom : Nat
  imageDone : Bool
  tcxoFrom : Nat
  duskFrom : Nat
  gatesShut : Bool
  railsDown : Bool
  deriving DecidableEq, Repr

/-! ### The module -/

/-- The whole module. -/
structure State where
  /-- Commands waiting, first in first out. -/
  pending : List Instr
  /-- Time elapsed, in ft, whether or not DT runs. -/
  clock : Nat
  /-- Device Time, and whether the count runs (from entry to Day, R13). -/
  dt : DT
  dtRuns : Bool
  /-- The phase of each island's clock: how far, in ft, it stood into a cycle at elapsed time 0 (R41, R42). -/
  phase : Vector Nat 88
  /-- Shadow of every shadowed RW field (R22). -/
  shadow : RegMap
  /-- Immediate RW fields without a home of their own. -/
  imm : RegMap
  isl : Vector Isl 88
  commit : CommitUnit
  snap : Snap
  occs : List Occ
  /-- Event records dropped at each unit's full event path, and the DT of the latest drop while OVERRUN is still owed for
  it (R47). -/
  evDrops : Vector Word 88
  evOwed : Vector (Option DT) 88
  outbox : List OutEntry
  posted : List Posted
  /-- BAR2: vector memory and the two instruction banks (R361). -/
  mem : Mem
  /-- The module flash below the trim slots (R381). -/
  flash : Mem
  spokes : Vector Spoke 64
  pacer : Pacer
  engines : Vector Engine 4
  crank : Crank
  truing : Truing
  hub : Hub
  noon : Noon
  ports : Vector Port 8
  fw : Freewheel
  stoker : Stoker
  pair : Pair
  hb : Handlebar
  dyn : Dynamo
  deriving DecidableEq, Repr

/-! ### Reset: the instant of entry to Dawn (R12) over a blank flash -/

def SpokeCnt.zero : SpokeCnt := ⟨0, 0, 0, 0, 0, 0, 0, 0, 0, 0, 0⟩

/-- A spoke on entry to Dawn: empty queue, driver Hi-Z (R393), INIT and TERM at their Reset values. -/
def Spoke.reset : Spoke :=
  { chan := [], queue := [], ending := [], anchor := 0, drv := .hiz, launches := [], landed := .hiz, landedAt := none, lastAct := none,
    heldSuppr := false, heldDrv := 2, out := 0, legn := 0, term := true, modePend := false,
    modeEnd := none, pin := false, lastStamp := none, ownEdges := [], cancel := none, hostCancels := [],
    cancelState := 0, dead := false,
    drop := false, ringDrop := false, seq := 0, retainTo := none, lostFirst := none, gapEdges := [], evOwn := [],
    evNet := [], crossAt := none, evFrom := none, capOff := false, capFrom := none, freed := 0,
    cnt := SpokeCnt.zero }

/-- A thread on entry to Day (R86, R125). -/
def Thread.reset : Thread :=
  { ip := 0, g := Vector.replicate 8 0, t := Vector.replicate 8 0, z := false, n := false, c := false, v := false,
    f := false, stack := [], mbox := [], lastSrc := 0, state := .stopped, waitOn := .none, nextSlot := 0,
    cmdState := 0, cmdCause := 0, act := none, faultCause := 0, faultIp := 0, faultDt := 0, instr := 0, late := 0,
    cmds := 0, mboxDrops := 0, pend := 0, cleared := none, oldBank := false, cmdIn := [] }

/-- Pacer on entry to Day: bank 0 active (R128). -/
def Pacer.reset : Pacer :=
  { th := Vector.replicate 16 Thread.reset, mirror := Vector.replicate 64 0, used := Vector.replicate 64 0,
    bank := false, locked := false, wrDrop := 0, crcBusy := false, crcDirty := false, crcValid := false, crc := 0,
    evMem := Vector.replicate 256 (0, 0), latch := Vector.replicate 256 [], mail := [], ctlIn := [] }

/-- An engine on entry to Day (R157). -/
def Engine.reset : Engine :=
  { state := .stopped, seg := 0, pos := 0, plays := 0, fixed := none, want := none, lastPlay := false, starving := false, jump := none,
    cause := 0, ref := 0, period := 0, nextVec := 0, vecEnd := 0, rateDue := false, msgs := [], jumpsIn := [], ready := [],
    fill := none, feedIn := [], acts := [], strobes := [], playNo := 0, failedPlay := Vector.replicate 64 none,
    guardSaid := false, offsetSaid := false, lockDt := none, ffValid := false, ffCycle := 0, ffSpoke := 0, ffExp := false, ffSeg := 0, ffPos := 0,
    ffDt := 0, vectors := 0, starves := 0, fails := 0, skips := 0, segwr := 0, feeds := 0,
    failCnt := Vector.replicate 64 0 }

/-- An axis on entry to Dawn: DRY (CK_AX_STAT). -/
def Axis.reset : Axis :=
  { segs := [], tgts := [], dry := true, held := 0, heldDen := 1, cause := 0, lastDt := 0, accepted := 0, refused := 0, solved := 0,
    noTime := 0, jumps := 0, revised := 0 }

def Crank.reset : Crank :=
  { axes := Vector.replicate 8 Axis.reset, recIn := [], segwState := 0, segwCause := 0, unmapped := 0 }

/-- An item with no valid trims: NOT TRUE with cause NOLOAD (R205, R221). -/
def TruItem.reset : TruItem :=
  { loaded := false, runCode := 0, range := false, tempRes := 0, tempRun := none, slew := false, cause := 1,
    trims := [], target := [], thr := 0, prev := none, hitTime := 0, hitFrom := none, stepAt := [], accept := 0,
    reject := 0 }

def TruReq.reset : TruReq :=
  { st := 0, deadline := 0, outcome := 0, phase := .entry, x := 0, drvX := .hiz, histA := none, histB := none,
    fail := none, level := 0, burst := none, idleFrom := 0, old := none }

/-- An erased slot. -/
def TrimSlot.blank : TrimSlot :=
  { magic := 0xFFFFFFFF, gen := 0xFFFFFFFF, length := 0xFFFFFFFF, crc := 0xFFFFFFFF, serial := 0xFFFFFFFF, fusecrc := 0xFFFFFFFF
    items := [] }

/-- Truing after a load that found no valid slot (R221). -/
def Truing.reset : Truing :=
  { items := Vector.replicate 68 TruItem.reset, reqs := Vector.replicate 64 TruReq.reset, turn := Vector.replicate 9 0, storeState := 0,
    newest := false, noSlot := true, gen := 0, saved := 0, abandonedCnt := 0, job := none, pageTo := none,
    lastStore := 0, dirty := false, afterRun := [], slotA := TrimSlot.blank, slotB := TrimSlot.blank }

/-- Hub in Dawn: the MDLL off and every gate closed (R226, R390). -/
def Hub.reset : Hub :=
  { gatesOpen := false, lock := .off, stepEnd := 0, band := 0, sel := 0, selWritten := false, selArmed := false, hold := false, w := 0,
    wPend := none, wAt := none, losses := 0, relocks := 0, ceiling := 0, disagree := 0, closeDt := 0, ho := none, piStep := 0,
    dayLock := false,
    inDay := false, openDt := 0 }

def Cand.reset : Cand := { times := [], root := 0, hops := 0, qual := 4, tai := false, err := 0 }

def Noon.reset : Noon :=
  { state := 0, src := 0xF, epoch := false, stepWait := false, waitSaid := false, err := 0, slew := 0, good := 0,
    bad := 0, cands := Vector.replicate 16 Cand.reset, winner := 0xF, winRun := 0, first := false, lastMeas := 0,
    wLog := [], slewFrom := none, slewStep := none, cmpAt := 0, distAt := 0, distClock := 0, inbox := [], step := none, stepState := 0,
    stepCause := 0, autoStep := none, autoAt := 0, ppsDt := 0, ppsLast := none, ppsSeen := 0, ppsOut := false,
    ppsEnd := 0, ppsNext := 0 }

def Estim.reset : Estim :=
  { dmean := 0, valid := false, rejects := 0, alpha := 0, err := 0, frozen := false, usedAt := 0, usedD := 0,
    sent := [], got := none }

def PortCnt.zero : PortCnt := ⟨0, 0, 0, 0, 0, 0, 0, 0, 0, 0, 0, 0, 0, 0, 0⟩

/-- A port in Dawn: in SIESTA (R264). -/
def Port.reset : Port :=
  { mode := 2, day := 0, st := 1, rate := 0, own := 0, block := false, lockFrom := none, rateFrom := 0, wakeAt := none,
    settled := 0, excl := 0, reason := 0, heard := 0, peer := 0, peerIvl := 1, lastBell := 0, answered := false,
    selfSaid := false, discFrom := 0, seqs := Vector.replicate 9 0, bellAt := 0, offerAt := 0, negFrom := 0,
    stampAt := 0, offerId := 0, peerOffer := none, accSent := none, accRecv := none, modeR := none, pfmt := false,
    restepAt := none, est := Estim.reset, ptxlat := 0, prxlat := 0, phops := 0, pqual := 0, ptai := false, proot := 0,
    loopb := 0, gen := false, chk := false, waiting := [], txq := [], msgIn := [], cnt := PortCnt.zero }

def FwCnt.zero : FwCnt := ⟨0, 0, 0, 0, 0, 0, 0, 0⟩

/-- Freewheel with an empty buffer of 16 384 cells (R301). -/
def Freewheel.reset : Freewheel :=
  { bypass := false, frames := [], free := 16384, low := false, badEnt := none, hblock := Vector.replicate 8 false,
    cnt := Vector.replicate 8 FwCnt.zero, cut := [], sent := [], heldStat := Vector.replicate 8 0 }

def Stoker.reset : Stoker :=
  { st := 0, pos := 0, capt := false, captPos := 0, captId := 0, dir := false, cwOk := false, ccwOk := false,
    jwait := false, npos := none, ppos := none, estN := Estim.reset, estP := Estim.reset, joinUses := 0, err := 0,
    badCell := 0, dirSw := 0, elect := 0, orphan := 0, exchBad := 0, seen := [], seq := 0, beaconCw := none,
    beaconCcw := none, preferFrom := none, lastBeacon := 0, heardCw := 0, heardCcw := 0, stFrom := 0, beaconAt := 0, hopAt := 0, cands := [],
    coord := none, armed := none, otherBeacon := none, members := [], otherMembers := [], clkCw := false, clkCcw := false,
    moved := false, pllDco := false, wait := [], freeN := 0, freeP := 0, out := [] }

def Pair.reset : Pair :=
  { side := false, token := .none, ptoken := 0, lane := false, block := false, lockFrom := none, posOk := false,
    heard := false, hb := false, lastHb := 0, lastTx := 0, partnerStandbyFrom := none, evid := false, lastMis := none,
    genSplit := false, brakeLine := false, brakeCause := 0, kick := true, lastKick := 0,
    tcxo := true, eq := 0x32300, gapDt := 0, gapEdges := 0, netOfs := Vector.replicate 64 [], est := Estim.reset, ptxlat := 0,
    prxlat := 0, hand := none, handOk := false, hbAt := 0, seqHb := 0, seqRelay := 0, hbMiss := 0, takes := 0,
    releases := 0, mismatch := 0, brakes := 0, badFrame := 0, out := [] }

def Ring.reset : Ring :=
  { base := 0, log2 := 0, en := false, wben := false, prod := 0, cons := 0, wb := 0, drops := 0, err := false,
    fetched := 0, dropFlag := false, wbDue := false, stale := 0 }

/-- An MSI-X table entry after reset: masked (the base specification's value, PRESUMED: log entry 6). -/
def Vec.reset : Vec := { addr := 0, data := 0, mask := true, pba := false, holdTo := none, trig := false }

/-- A fused identity (DESIGN CHOICE: the fused values are each part's own; log entry 5): LOT 1, WAFER 1, die column and
row 0, SERIAL 1, and the CRC of R375 over them. -/
def Fuses.reset : Fuses := { lot := 1, wafer := 1, x := 0, y := 0, serial := 1, crc := 0x4fb7f926, vendor := 0 }

/-- The configuration space after a reset of the function (the base specification's values, PRESUMED: log entry 39). -/
def PciCfg.reset : PciCfg := { d3 := false, mask := false, payload := 0, readReq := 2 }

def Handlebar.reset : Handlebar :=
  { fuse := Fuses.reset, imageBad := true, speed := 0, width := 0, imgSkip := 0, subVendor := 0, subId := 0x64, cfg := PciCfg.reset,
    flashState := 0, flashCause := 0, flashJob := none, flashBuf := List.replicate 256 0, partialCnt := 0, badDb := 0,
    evCfg := [], evStat := 0, vecHold := Vector.replicate 128 0, vecs := Vector.replicate 128 Vec.reset,
    flrHeld := none, rings := Vector.replicate 64 Ring.reset, rxRings := Vector.replicate 8 Ring.reset, latchP := none,
    latchS := none, rdata := 0, spi := .idle, spiOut := [], refclk := true }

/-- Dynamo at the entry to Dawn: all rails up (R392), and the nominal capacitance measured (R386; DESIGN CHOICE: the last
soft start's own measurement, log entry 106). -/
def Dynamo.reset : Dynamo :=
  { st := .dawn, dayEntry := false, refused := 0, autoDay := false, lastOff := 0, kept := 0, vin := 0, vbus := 0,
    pin := 0, holdup := 0, temp := 0, cbus := 150, eFuse := .conducts, hotFrom := none, tempSaid := false, cbusSaid := false, confirmed := false, brown := false, brownFrom := 0, brownOv := false,
    elFault := false, tWarn := false, elLock := 0, brownouts := 0, ridethrus := 0, enLevel := true, vinOk := true, straps := 0,
    highs := 0, lows := 0, enFell := false, soft := true, softFrom := 0, softDone := true, rails := 7, railFrom := 0,
    imageDone := true, tcxoFrom := 0, duskFrom := 0, gatesShut := false, railsDown := false }

/-- An island after reset: no pending or retiring copy, generation 0, every field at its Reset value (R12, R24). -/
def Isl.reset : Isl :=
  { inbox := [], pending := none, pendGen := 0, pendDt := 0, confirmed := false,
    abandoned := false, active := [], gen := 0, retiring := none, retGen := 0 }

def CommitUnit.reset : CommitUnit :=
  { pend := none, state := 0, src := false, thread := 0, cause := 0, island := 0xFF, pos := 0, side := false, gen := 0,
    dt := 0, answers := [], autoAt := none }

/-- The Snapshot page before the first snapshot: both buffers read SEQ 0xFFFFFFFF (01). -/
def Snap.reset : Snap :=
  { latest := false, reqState := 0, reqCause := 0, req := none, lastTaken := none, tickAt := none, nextSeq := 0,
    writing := none, bufA := [(0, 0xFFFFFFFF)], bufB := [(0, 0xFFFFFFFF)] }

/-- What start-up has raised over a blank flash, in this order, none of it yet at Handlebar: EQDEFAULT for each lane and
rate of each port (R267) and for the Pair lane (R342), NONE of the trim load (R221), and DAWN (R392). -/
def startOccs : List Occ :=
  (List.range 8).flatMap (fun c => List.replicate 4 ⟨Fin.ofNat 256 (186 + 3 * c), 6, 0, false⟩) ++
    [⟨241, 6, 0, false⟩, ⟨233, 3, 0, false⟩, ⟨248, 1, 0, false⟩]

/-- They wait for Pacer, whose clock is gated (R135). -/
def startLatch : Vector (List (DT × Word)) 256 :=
  startOccs.foldl (fun v o => v.set o.src.val (v.get o.src ++ [(o.dt, o.cause)]) o.src.isLt) (Vector.replicate 256 [])

/-- The module at the instant it enters Dawn (R12), its flash blank, so that no image and no trim slot was valid. -/
def State.reset : State :=
  { pending := [], clock := 0, dt := 0, dtRuns := false, phase := Vector.replicate 88 0, shadow := [], imm := [], isl := Vector.replicate 88 Isl.reset,
    commit := CommitUnit.reset, snap := Snap.reset, occs := startOccs, evDrops := Vector.replicate 88 0, evOwed := Vector.replicate 88 none, outbox := [], posted := [], mem := [], flash := [],
    spokes := Vector.replicate 64 Spoke.reset, pacer := { Pacer.reset with latch := startLatch }, engines := Vector.replicate 4 Engine.reset,
    crank := Crank.reset, truing := Truing.reset, hub := Hub.reset, noon := Noon.reset,
    ports := Vector.replicate 8 Port.reset, fw := Freewheel.reset, stoker := Stoker.reset, pair := Pair.reset,
    hb := Handlebar.reset, dyn := Dynamo.reset }

end Sys2Proof.Machine
end

