-- ==== Sys2Proof/Machine/Regs.lean ====
section
/-! DEFINITION. The register map of R52 and R53: which bits of an offset are RW, their Reset values, which are
Immediate, which the Bamord image may set, and which island holds the block. Indexed tables (segment entries, timing
sets, classification entries) stand at keys of their own above the 1 MiB of BAR0. -/

namespace Sys2Proof.Machine

/-- What a register table says of the RW fields of one offset. -/
structure RegInfo where
  rw : Nat
  dflt : Nat
  imm : Bool
  board : Nat
  deriving DecidableEq, Repr

/-- A shadowed register. -/
def shadowed (rw dflt : Nat) : RegInfo := ⟨rw, dflt, false, 0⟩
/-- An Immediate register. -/
def immediate (rw dflt : Nat) : RegInfo := ⟨rw, dflt, true, 0⟩
/-- An offset without RW fields kept here. -/
def noReg : RegInfo := ⟨0, 0, true, 0⟩

def ones32 : Nat := 0xFFFFFFFF

/-- Keys of a segment entry's two words (R154). -/
def segKey (v : EngineId) (idx : Nat) (hi : Bool) : Nat := 0x100000 + v.val * 0x2000 + idx % 1024 * 8 + 4 * b1 hi
/-- Keys of a timing set's EDGE and STROBE offsets (R148). -/
def tsKey (v : EngineId) (spoke set : Nat) (strobe : Bool) : Nat :=
  0x120000 + ((v.val * 64 + spoke % 64) * 8 + set % 8) * 8 + 4 * b1 strobe
/-- Keys of a classification entry's four words (R309). -/
def clKey (idx n : Nat) : Nat := 0x130000 + idx % 512 * 16 + 4 * (n % 4)

def spBase (s : SpokeId) : Nat := 0x20000 + 0x100 * s.val
def crBase (v : EngineId) : Nat := 0x10000 + 0x1000 * v.val
def cpBase (c : PortId) : Nat := 0x30000 + 0x800 * c.val
def thBase (p : ThreadId) : Nat := 0x08000 + 0x100 * p.val
def axBase (a : AxisId) : Nat := 0x0C000 + 0x100 * a.val
def fwBase (c : PortId) : Nat := 0x38100 + 0x40 * c.val

def regHandlebar (o : Nat) : RegInfo :=
  if o = 0x40 then immediate 0x7FFFF 0
  else if o = 0x200 ∨ o = 0x204 ∨ o = 0x20C then immediate ones32 0
  else if o = 0x208 then immediate 0xFFFF 0
  else noReg

def regHub (o : Nat) : RegInfo :=
  if o = 0x4 then shadowed 0x1FF 0x1A0
  else if o = 0x8 then shadowed 0x7FFFFFF 0
  else if o = 0x10 then shadowed 1 0
  else noReg

def regNoon (o : Nat) : RegInfo :=
  if o = 0x10 then shadowed 0x3FFFFFF 0x400083
  else if o = 0x14 then shadowed ones32 0x003E8000
  else if o = 0x18 then shadowed 0xFF 0x10
  else if o = 0x20 ∨ o = 0x24 then shadowed ones32 0x80808080
  else if o = 0x28 then shadowed ones32 0xFE808080
  else if o = 0x40 ∨ o = 0x44 ∨ o = 0x4C ∨ o = 0x50 then immediate ones32 0
  else if o = 0x48 ∨ o = 0x54 then immediate 0xFFFF 0
  else if o = 0x58 then immediate 2 0
  else if o = 0x60 then shadowed 0xFFF 0x192
  else if o = 0x64 ∨ o = 0x6C then shadowed 0x3FFFFFFF 0
  else if o = 0x68 then shadowed 7 0
  else noReg

def regTruing (o : Nat) : RegInfo :=
  if o = 0 then shadowed 0xF 0xB
  else if o = 4 then shadowed 0xFFFF 0xA
  else if o = 8 then shadowed 0xFFFFF 0x3E8
  else if 0x400 ≤ o ∧ o < 0x800 then
    if o % 16 = 0 then shadowed 1 1 else if o % 16 = 4 then immediate 0x3FFFFC 0 else noReg
  else noReg

def regPacer (o : Nat) : RegInfo :=
  if o < 0x1000 then
    if o % 0x100 = 4 then immediate 0x3FFF 0
    else if o % 0x100 = 8 then shadowed 0x7FFF 0
    else if o % 0x100 = 0xC ∨ o % 0x100 = 0x10 then immediate ones32 0
    else if o % 0x100 = 0x14 then immediate 0xFFFF 0
    else noReg
  else if o = 0x1000 then shadowed 1 0
  else noReg

def regCrank (o : Nat) : RegInfo :=
  if o < 0x800 then
    if o % 0x100 = 0 then shadowed 0x3FFFFF 0
    else if o % 0x100 = 4 then shadowed 0xFFFFFF 0x0F4240
    else noReg
  else if o < 0x830 then immediate ones32 0
  else if o = 0x830 then immediate 7 0
  else noReg

def regChainring (o : Nat) : RegInfo :=
  if o = 0 then shadowed 3 0
  else if o = 4 then shadowed ones32 0x5000
  else if o = 8 then shadowed 0x3FF 0
  else if o = 0xC then immediate 0x3FF 0
  else if o = 0x1C then immediate 0x1FF 0
  else if o = 0x28 ∨ o = 0x2C then shadowed ones32 0
  else noReg

def regSpoke (o : Nat) : RegInfo :=
  if o = 0 then shadowed 0x7F 0x60
  else if o = 4 then shadowed 0x1FFF 0x200
  else if o = 8 then shadowed 0xF 6
  else if o = 0xC ∨ o = 0x10 then ⟨0x7FFFFF, 0, false, 0x7FFFFF⟩
  else if o = 0x30 ∨ o = 0x34 then immediate ones32 0
  else if o = 0x38 then immediate 0xFFFF 0
  else noReg

/-- The lane defaults of R267: MAIN 48, POST 8, CTLE 6. -/
def eqDefault : Nat := 0x32300

def regPort (o : Nat) : RegInfo :=
  if o = 4 then shadowed 0x7FFFFF 0x7FF
  else if o = 8 ∨ o = 0xC ∨ o = 0x10 ∨ o = 0x14 then ⟨0x1FFFFF, eqDefault, false, 0x1FFFFF⟩
  else if o = 0x18 ∨ o = 0x1C ∨ o = 0x34 then ⟨0xFFFFFF, 0, false, 0xFFFFFF⟩
  else if o = 0x20 ∨ o = 0x24 then shadowed ones32 0
  else if o = 0x28 then shadowed 0x7FF 0x83
  else if o = 0x2C then ⟨ones32, 0, false, ones32⟩
  else if o = 0x30 then ⟨0xFFFF, 0, false, 0xFFFF⟩
  else noReg

def regFreewheel (o : Nat) : RegInfo :=
  if o = 4 then shadowed 0xFFFF 0x7D0
  else if o = 0x14 then immediate 0x1FF 0
  else if 0x100 ≤ o ∧ o < 0x300 then
    if o % 0x40 = 0 then ⟨0x1F, 0, false, 3⟩
    else if o % 0x40 = 4 then shadowed 0xFFFF 0xFFFF
    else if o % 0x40 = 8 then shadowed 0x7FFF 0x400
    else noReg
  else noReg

def regStoker (o : Nat) : RegInfo :=
  if o = 0 then ⟨0xFFF, 0x106, false, 1⟩
  else if o = 0x10 ∨ o = 0x14 then ⟨ones32, 0, false, ones32⟩
  else noReg

def regPair (o : Nat) : RegInfo :=
  if o = 0 then ⟨0x7FFFFFD, 0x3208000, false, 1⟩
  else if o = 4 ∨ o = 8 then shadowed ones32 0
  else if o = 0xC then shadowed 1 0
  else if o = 0x10 ∨ o = 0x14 then shadowed ones32 0
  else if o = 0x18 then shadowed 0xFFFF 0
  else if o = 0x1C ∨ o = 0x20 then ⟨0xFFFFFF, 0, false, 0xFFFFFF⟩
  else if o = 0x50 then immediate 0x3F 0
  else noReg

def regSnapshot (o : Nat) : RegInfo :=
  if o = 0 then immediate 1 1
  else if o = 4 ∨ o = 8 then immediate ones32 0
  else if o = 0xC then immediate 0xFFFF 0
  else noReg

/-- What the register tables say of the RW fields at a key (R52, R53, R54). Fields with a home of their own in the
state (CP_PWR, CP_TEST, DY_CFG, EV_, QU_, HB_FLASH_BUF, the MSI-X table) are not kept here. -/
def regInfo (k : Nat) : RegInfo :=
  if k < 0x1000 then regHandlebar k
  else if k < 0x2000 then noReg
  else if k < 0x3000 then regHub (k - 0x2000)
  else if k < 0x4000 then regNoon (k - 0x3000)
  else if k < 0x8000 then regTruing (k - 0x4000)
  else if k < 0xC000 then regPacer (k - 0x8000)
  else if k < 0x10000 then regCrank (k - 0xC000)
  else if k < 0x14000 then regChainring (k % 0x1000)
  else if k < 0x20000 then noReg
  else if k < 0x24000 then regSpoke (k % 0x100)
  else if k < 0x30000 then noReg
  else if k < 0x34000 then regPort (k % 0x800)
  else if k < 0x38000 then noReg
  else if k < 0x3C000 then regFreewheel (k - 0x38000)
  else if k < 0x3E000 then regStoker (k - 0x3C000)
  else if k < 0x40000 then regPair (k - 0x3E000)
  else if k < 0x60000 then noReg
  else if k < 0x61000 then regSnapshot (k - 0x60000)
  else if k < 0x100000 then noReg
  else if k < 0x132000 then shadowed ones32 0
  else noReg

/-- The Reset value at a key. -/
def regDflt (k : Nat) : Word := word (regInfo k).dflt

/-- The island that holds the block of a key (R52), by the numbers of R40. -/
def regIsland (k : Nat) : Nat :=
  if k < 0x1000 then 0x53
  else if k < 0x2000 then 0x55
  else if k < 0x3000 then 0x4F
  else if k < 0x4000 then 0x4E
  else if k < 0x8000 then 0x54
  else if k < 0xC000 then 0x48
  else if k < 0x10000 then 0x4D
  else if k < 0x14000 then 0x49 + (k - 0x10000) / 0x1000
  else if k < 0x20000 then 0x53
  else if k < 0x24000 then (k - 0x20000) / 0x100
  else if k < 0x30000 then 0x53
  else if k < 0x34000 then 0x40 + (k - 0x30000) / 0x800
  else if k < 0x38000 then 0x53
  else if k < 0x3C000 then 0x50
  else if k < 0x3E000 then 0x51
  else if k < 0x40000 then 0x52
  else if k < 0x100000 then 0x53
  else if k < 0x120000 then 0x49 + (k - 0x100000) / 0x2000
  else if k < 0x130000 then 0x49 + (k - 0x120000) / 0x1000
  else if k < 0x140000 then 0x50
  else 0x53

/-- Reading a sparse register map. -/
def regGet (m : RegMap) (k : Nat) : Word := look regDflt m k

/-- Writing the RW bits of one register in a sparse map. -/
def regPut (m : RegMap) (k : Nat) (v : Word) : RegMap :=
  store regDflt m k ((regGet m k &&& ~~~ word (regInfo k).rw) ||| (v &&& word (regInfo k).rw))

/-- Writing the bits of a mask. -/
def regPutMask (m : RegMap) (k : Nat) (mask v : Word) : RegMap :=
  store regDflt m k ((regGet m k &&& ~~~ mask) ||| (v &&& mask))

end Sys2Proof.Machine
end

