-- ==== Sys2Proof/Machine/Ops.lean ====
section
/-! DEFINITION. Named operations over the state that every unit uses: instances by number, configuration in force,
events, and the places a record or message goes out by. -/

namespace Sys2Proof.Machine

/-- What a command's meaning answers. -/
abbrev Out := Host.Outcome State Fault Refusal

/-! ### Instances -/

def State.spoke (s : State) (i : SpokeId) : Spoke := s.spokes.get i
def State.setSpoke (s : State) (i : SpokeId) (x : Spoke) : State := { s with spokes := s.spokes.set i.val x i.isLt }
def State.modSpoke (s : State) (i : SpokeId) (f : Spoke → Spoke) : State := s.setSpoke i (f (s.spoke i))

def State.thread (s : State) (p : ThreadId) : Thread := s.pacer.th.get p
def State.setThread (s : State) (p : ThreadId) (x : Thread) : State :=
  { s with pacer := { s.pacer with th := s.pacer.th.set p.val x p.isLt } }
def State.modThread (s : State) (p : ThreadId) (f : Thread → Thread) : State := s.setThread p (f (s.thread p))

def State.engine (s : State) (v : EngineId) : Engine := s.engines.get v
def State.setEngine (s : State) (v : EngineId) (x : Engine) : State := { s with engines := s.engines.set v.val x v.isLt }
def State.modEngine (s : State) (v : EngineId) (f : Engine → Engine) : State := s.setEngine v (f (s.engine v))

def State.axis (s : State) (a : AxisId) : Axis := s.crank.axes.get a
def State.setAxis (s : State) (a : AxisId) (x : Axis) : State :=
  { s with crank := { s.crank with axes := s.crank.axes.set a.val x a.isLt } }
def State.modAxis (s : State) (a : AxisId) (f : Axis → Axis) : State := s.setAxis a (f (s.axis a))

def State.item (s : State) (i : ItemId) : TruItem := s.truing.items.get i
def State.setItem (s : State) (i : ItemId) (x : TruItem) : State :=
  { s with truing := { s.truing with items := s.truing.items.set i.val x i.isLt } }
def State.modItem (s : State) (i : ItemId) (f : TruItem → TruItem) : State := s.setItem i (f (s.item i))

def State.req (s : State) (i : SpokeId) : TruReq := s.truing.reqs.get i
def State.setReq (s : State) (i : SpokeId) (x : TruReq) : State :=
  { s with truing := { s.truing with reqs := s.truing.reqs.set i.val x i.isLt } }
def State.modReq (s : State) (i : SpokeId) (f : TruReq → TruReq) : State := s.setReq i (f (s.req i))

def State.port (s : State) (c : PortId) : Port := s.ports.get c
def State.setPort (s : State) (c : PortId) (x : Port) : State := { s with ports := s.ports.set c.val x c.isLt }
def State.modPort (s : State) (c : PortId) (f : Port → Port) : State := s.setPort c (f (s.port c))

def State.island (s : State) (i : IslandId) : Isl := s.isl.get i
def State.setIsland (s : State) (i : IslandId) (x : Isl) : State := { s with isl := s.isl.set i.val x i.isLt }
def State.modIsland (s : State) (i : IslandId) (f : Isl → Isl) : State := s.setIsland i (f (s.island i))

/-- The ring of a queue number; the receive rings belong to Q112 to Q119. -/
def State.ring (s : State) (q : RingId) (rx : Bool) : Ring :=
  if rx then s.hb.rxRings.get (Fin.ofNat 8 (q.val - 48)) else s.hb.rings.get q
def State.setRing (s : State) (q : RingId) (rx : Bool) (x : Ring) : State :=
  if rx then { s with hb := { s.hb with rxRings := s.hb.rxRings.set ((q.val - 48) % 8) x (Nat.mod_lt _ (by decide)) } }
  else { s with hb := { s.hb with rings := s.hb.rings.set q.val x q.isLt } }
def State.modRing (s : State) (q : RingId) (rx : Bool) (f : Ring → Ring) : State := s.setRing q rx (f (s.ring q rx))

def State.vec (s : State) (v : VecId) : Vec := s.hb.vecs.get v
def State.setVec (s : State) (v : VecId) (x : Vec) : State :=
  { s with hb := { s.hb with vecs := s.hb.vecs.set v.val x v.isLt } }

/-- An operation applied to every instance in turn, lowest number first. -/
def forEach (n : Nat) (f : Fin n → State → State) (s : State) : State :=
  (List.finRange n).foldl (fun s i => f i s) s

/-- Island numbers of R40. -/
def islSpoke (i : SpokeId) : IslandId := ⟨i.val, by omega⟩
def islPort (c : PortId) : IslandId := ⟨0x40 + c.val, by omega⟩
def islPacer : IslandId := 0x48
def islEngine (v : EngineId) : IslandId := ⟨0x49 + v.val, by omega⟩
def islCrank : IslandId := 0x4D
def islNoon : IslandId := 0x4E
def islHub : IslandId := 0x4F
def islFreewheel : IslandId := 0x50
def islStoker : IslandId := 0x51
def islPair : IslandId := 0x52
def islHandlebar : IslandId := 0x53
def islTruing : IslandId := 0x54
def islDynamo : IslandId := 0x55

/-! ### Configuration in force -/

/-- A shadowed register as the active copy of its island holds it (R22). -/
def State.act (s : State) (k : Nat) : Word := regGet (s.island (Fin.ofNat 88 (regIsland k))).active k

/-- A shadowed register as the host reads it (R22). -/
def State.shadowAt (s : State) (k : Nat) : Word := regGet s.shadow k

/-- An Immediate register. -/
def State.immAt (s : State) (k : Nat) : Word := regGet s.imm k

/-- Three Immediate or shadowed words as a DT. -/
def dtAt (m : RegMap) (k : Nat) : DT := dt3 (regGet m k) (regGet m (k + 4)) (regGet m (k + 8))

/-- The configuration of a generation in one island: active, retiring, or none held (R30, R66). -/
def State.genRegs (s : State) (i : IslandId) (tag : Word) : Option RegMap :=
  let x := s.island i
  if tag = x.gen then some x.active
  else match x.retiring with
    | some m => if tag = x.retGen then some m else none
    | none => none

/-- The engine a spoke belongs to by the ownership masks of a configuration (R150); none: the descriptor path. -/
def ownerIn (m : RegMap) (i : Nat) : Option EngineId :=
  (List.finRange 4).find? fun v => bit (regGet m (crBase v + 0x28 + 4 * (i / 32))) (i % 32)

/-- The owner of a spoke under its active generation. -/
def State.owner (s : State) (i : SpokeId) : Option EngineId := ownerIn (s.island (islSpoke i)).active i.val

/-- SP_MODE.OUT as it acts: DY_EL_LOCK turns 0b01 and 0b10 into Off (R403). -/
def State.outIn (s : State) (m : RegMap) (i : SpokeId) : Nat :=
  let o := fld (regGet m (spBase i)) 0 2
  if s.dyn.elLock.getLsbD i.val && (o == 1 || o == 2) then 0 else o

/-! ### Where the module stands -/

def State.inDay (s : State) : Bool := s.dyn.st == .day

/-- Dawn or Day. -/
def State.alive (s : State) : Bool := s.dyn.st == .dawn || s.dyn.st == .day

/-- PCIe and the lanes run: in Dawn, in Day, and in Dusk until the gates close (R390, R398). -/
def State.pcieUp (s : State) : Bool := s.alive || (s.dyn.st == .dusk && !s.dyn.gatesShut)

/-- A bus carries accesses to BAR0 and BAR2: PCIe, which decodes none in D3hot, or SPI, which works in Dawn and Day only
(R356, R378). -/
def State.busUp (s : State) : BusPort → Bool
  | .pcie => s.pcieUp && !s.hb.cfg.d3
  | .config => false
  | .spi => s.alive

/-- One of the two buses can carry an access (R356, R378). -/
def State.hostReach (s : State) : Bool := s.busUp .pcie || s.busUp .spi

/-- A command of the host has its effect while one of the two buses can carry it. -/
def byHost (s : State) (f : State → State) : State := if s.hostReach then f s else s

/-- A spoke's island, and Pacer, Chainring, Crank, Freewheel, Truing and Noon's core are clocked (R41). -/
def State.clocked (s : State) : Bool := s.hub.gatesOpen

/-- The core clock is gated while DT runs: DT is on the holdover counter (R240). -/
def State.outage (s : State) : Bool := s.dtRuns && !s.hub.gatesOpen

/-- Noon's count: the core count takes exactly 4 096 ft in each cycle (R239), and the holdover counter delivers whole ns
(R240). -/
def State.count (s : State) : DT := s.dt &&& ~~~(0xFFF#80)

/-- DT as the replicas of ungated islands see it: whole ns in an outage (R240). -/
def State.now (s : State) : DT := if s.outage then s.count else s.dt

/-- One cycle of the 25 MHz TCXO in ft. -/
def tcxoCycle : Nat := 163840

/-- `e` ft of elapsed time as the holdover counter reckons them: corrected by the W in force when the gates closed (R240). -/
def Holdover.scaled (h : Holdover) (e : Nat) : Int := (e : Int) * (100000000000 + h.w) / 100000000000

/-- What the holdover counter has reached: it adds one corrected TCXO period per TCXO cycle, and keeps its fraction
(R240). -/
def Holdover.count (h : Holdover) (clock : Nat) : DT :=
  dtAddI h.base (h.scaled ((clock - h.from_) / tcxoCycle * tcxoCycle))

/-- Where the holdover counter stands between two TCXO edges, which Hub resolves as it opens the gates (R42, R233). -/
def Holdover.fine (h : Holdover) (clock : Nat) : DT := dtAddI h.base (h.scaled (clock - h.from_))

/-- The multiple of `n` that a count reaches as it goes on from one value to the next, if it reaches one. -/
def reaches (n : Nat) (prev now : DT) : Option DT :=
  if now.toNat % n = 0 ∨ now.toNat / n ≠ prev.toNat / n then some (BitVec.ofNat 80 (now.toNat / n * n)) else none

/-! ### DT replicas (R41, R42, R239) -/

/-- One cycle of an island's clock, in ft, as a fraction (R41). -/
def State.islCycle (s : State) (i : IslandId) : Nat × Nat :=
  if i.val < 0x40 || i.val == 0x4E then (4096, 1)
  else if i.val < 0x48 then
    if (s.port (Fin.ofNat 8 (i.val - 0x40))).rate == 1 then (131072, 5) else (262144, 25)
  else if i.val < 0x4E || i.val == 0x50 || i.val == 0x51 || i.val == 0x54 then (32768, 5)
  else if i.val == 0x52 then (131072, 5)
  else if i.val == 0x53 then (8192, 1)
  else (163840, 1)

/-- How many cycles an island's clock has begun at an elapsed time. -/
def State.islEdges (s : State) (i : IslandId) (clock : Nat) : Nat :=
  (clock + s.phase.get i) * (s.islCycle i).2 / (s.islCycle i).1

/-- The number of the 625 MHz logic cycle, which is also Pacer's slot, that a DT lies in: cycle k begins at
k x 32768/5 ft (R41, R121). -/
def slotOf (d : DT) : Nat := 5 * d.toNat / 32768

/-- The DT of a slot: its start, rounded up to a whole ft (R123). -/
def slotDt (k : Nat) : DT := BitVec.ofNat 80 ((32768 * k + 4) / 5)

/-- An island's DT replica (R42, R239). In an island clocked from the core reference it is exact; any other advances once
per cycle of its own clock from the count that Noon last distributed. -/
def State.replica (s : State) (i : IslandId) : DT :=
  if !s.dtRuns then s.dt
  else if i.val < 0x40 || i.val == 0x4E then s.count
  else if i.val == 0x48 || (0x49 ≤ i.val && i.val ≤ 0x4D) || i.val == 0x50 || i.val == 0x54 then
    if s.outage then s.count else slotDt (slotOf s.dt)
  else
    dtAdd s.noon.distAt
      ((s.islEdges i s.clock - s.islEdges i s.noon.distClock) * (s.islCycle i).1 / (s.islCycle i).2)

/-- Whether an action with a DT falls due in an island: a spoke and Hub place it to 1 ft, any other island acts in the
first of its cycles whose replica has reached the DT (R42). -/
def State.due (s : State) (i : IslandId) (d : DT) : Bool :=
  if i.val < 0x40 || i.val == 0x4F then dtLe d s.dt else dtLe d (s.replica i)

/-- A spoke's queue is frozen: its clock is gated, or it is in restart hold (R255, R256). -/
def State.frozen (s : State) : Bool := !s.hub.gatesOpen || s.hub.hold

/-- Drive suppression of every spoke: standby, Brake, or Dusk (R344, R349, R398). -/
def State.suppressed (s : State) : Bool :=
  s.pair.token == .standby || s.pair.token == .brake || s.pair.brakeLine || s.dyn.st == .dusk

/-- A port's island is gated in SIESTA, the wake from it included (R41, R264, R265). -/
def State.portGated (s : State) (c : PortId) : Bool := (s.port c).st == 1

/-- The 64-bit module identity (R376). -/
def State.ident (s : State) : BitVec 64 :=
  BitVec.ofNat 64 (s.hb.fuse.lot.toNat * 2 ^ 40 + s.hb.fuse.wafer.toNat * 2 ^ 32 + s.hb.fuse.serial.toNat)

/-- Whether an island's clock is gated (R41). -/
def State.gated (s : State) (i : IslandId) : Bool :=
  if i.val < 0x40 then !s.hub.gatesOpen
  else if i.val < 0x48 then s.portGated (Fin.ofNat 8 (i.val - 0x40))
  else if i.val < 0x4F || i.val == 0x50 || i.val == 0x54 then !s.hub.gatesOpen
  else false

/-- Confirm has reached the island's end of the channel: it is confirmed, or its Confirm, whose transit ends long before
DT_effect, is still in the channel (R25, R28). -/
def Isl.decided (x : Isl) : Bool := x.confirmed || x.inbox.contains .confirm

/-- A confirmed commit whose swap comes before what an island does at a DT: its DT_effect is that DT or an earlier one,
and the island has not yet swapped (R21, R25). -/
def State.swapBefore (s : State) (i : IslandId) (d : DT) : Bool :=
  let x := s.island i
  x.pending.isSome && x.decided && dtLe x.pendDt d

/-- A confirmed commit has come to its DT_effect in an island, which has not yet swapped (R25, R42). -/
def State.swapDue (s : State) (i : IslandId) : Bool :=
  let x := s.island i
  x.pending.isSome && x.decided && s.due i x.pendDt

/-- The island may work: its clock runs, and no swap that is due stands before its other actions (R21). -/
def State.ready (s : State) (i : IslandId) : Bool := !s.gated i && !s.swapDue i

/-! ### Events -/

/-- The 32-bit cause word: CAUSE, DETAIL and ARG (R370). -/
def causeWord (cause detail arg : Nat) : Word := word (cause % 256 + detail % 256 * 256 + arg % 65536 * 65536)

/-- EV_CFG at reset: VEC e/2, the RING of the source's group, WAKE (R373). -/
def evCfgReset (e : Nat) : BitVec 12 :=
  let ring := if e < 128 then 0 else if e < 184 then 1 else if e < 248 then 2 else 3
  BitVec.ofNat 12 (e / 2 + ring * 0x100 + 0x800)

/-- EV_CFG_e for an occurrence of a DT: the latest write at or before that DT (R369). -/
def State.evCfg (s : State) (e : EventId) (d : DT) : BitVec 12 :=
  match s.hb.evCfg.find? fun x => x.1 == e && x.2.1.toNat ≤ d.toNat with
  | some x => x.2.2
  | none => evCfgReset e.val

/-- EV_CFG_e as a read returns it. -/
def State.evCfgNow (s : State) (e : EventId) : BitVec 12 :=
  match s.hb.evCfg.find? fun x => x.1 == e with
  | some x => x.2.2
  | none => evCfgReset e.val

/-- The channel an event source reports by, as the island number of its unit; Handlebar's own need none (R44). -/
def evChannel (e : Nat) : Nat :=
  if e < 128 then e / 2
  else if e < 160 then 0x48
  else if e < 176 then 0x49 + (e - 160) / 4
  else if e < 184 then 0x4D
  else if e < 208 then 0x40 + (e - 184) / 3
  else if e < 216 then 0x50
  else if e < 220 then 0x4F
  else if e < 228 then 0x4E
  else if e < 236 then 0x54
  else if e < 241 then 0x51
  else if e < 248 then 0x52
  else if e < 252 then 0x55
  else 0x53

/-- Whether the event channel of a source is full: 16 occurrences on their way (R44, R47). -/
def State.evFull (s : State) (e : Nat) : Bool :=
  evChannel e != 0x53 && 16 ≤ (s.occs.filter fun o => evChannel o.src.val == evChannel e).length

/-- WAKE of a source for an occurrence of a DT, as the writes that have reached Handlebar give it (R135, R369). -/
def State.wakes (s : State) (e : EventId) (d : DT) : Bool := (s.evCfg e d).getLsbD 11

/-- The latch of a source with one more occurrence. Those whose DT has passed can no longer change their WAKE: the latest
of them that has it replaces those before it, and those without it go (R135, R369). -/
def State.latched (s : State) (e : EventId) (m : DT × Word) : List (DT × Word) :=
  if s.wakes e m.1 && !dtLe s.dt m.1 then [m]
  else (s.pacer.latch.get e).filter (fun x => s.wakes e x.1 || dtLe s.dt x.1) ++ [m]

/-- An event record meets its unit's full path: it is dropped and counted, and a spoke, whose table alone has the cause,
owes OVERRUN on E(2s + 1) (R47, R84; DESIGN CHOICE for the other units: log entry 96). -/
def dropEvent (e : Nat) (d : DT) (s : State) : State :=
  let ch : Fin 88 := Fin.ofNat 88 (evChannel e)
  { s with
    evDrops := s.evDrops.set ch.val (s.evDrops.get ch + 1) ch.isLt
    evOwed := if e < 128 then s.evOwed.set ch.val (some d) ch.isLt else s.evOwed }

/-- An occurrence of source Ee with its cause and DT: it sets out for Handlebar, and for Pacer where WAKE says so
(R369 to R371, R135). -/
def raiseAs (coarse : Bool) (e cause detail arg : Nat) (d : DT) (s : State) : State :=
  let src : EventId := Fin.ofNat 256 e
  let w := causeWord cause detail arg
  let s1 := if s.evFull src.val then dropEvent src.val d s else { s with occs := s.occs ++ [⟨src, w, d, coarse⟩] }
  { s1 with pacer := { s1.pacer with latch := s1.pacer.latch.set src.val (s.latched src (d, w)) src.isLt } }

/-- An occurrence whose DT a message names, or was taken from the core count. -/
def raise (e cause detail arg : Nat) (d : DT) (s : State) : State := raiseAs false e cause detail arg d s

/-- An occurrence timed now: COARSE where the holdover counter gives its DT (R240, R370). -/
def raiseNow (e cause detail arg : Nat) (s : State) : State := raiseAs s.outage e cause detail arg s.now s

/-- A message posted to host memory (R367). -/
def post (addr : Nat) (bytes : Octets) (s : State) : State :=
  { s with posted := s.posted ++ [⟨BitVec.ofNat 64 addr, bytes⟩] }

/-! ### Device-to-host rings and Handlebar's write buffer (R363 to R366) -/

/-- An entry sent on its way to a device-to-host ring. -/
def send (e : OutEntry) (s : State) : State := { s with outbox := s.outbox ++ [e] }

/-- Entries a ring holds (R363). -/
def Ring.held (r : Ring) : Nat := (r.prod - r.cons).toNat

/-- Entries for a ring that the write buffer has accepted and not yet written (R365). -/
def State.accepted (s : State) (q : RingId) (rx : Bool) : Nat :=
  (s.outbox.filter fun e => e.taken && e.q == q && e.rx == rx).length

/-- Octets waiting in Handlebar's 32 KiB write buffer (R366). -/
def State.bufOctets (s : State) : Nat := ((s.outbox.filter (·.taken)).map (·.bytes.length)).sum

/-- A device-to-host ring takes an entry of `n` octets: it is enabled, it is not full with the entries accepted for it,
and the write buffer has room (R365, R366). -/
def State.ringTakes (s : State) (q : RingId) (rx : Bool) (n : Nat) : Bool :=
  let r := s.ring q rx
  r.en && r.held + s.accepted q rx < 2 ^ r.log2.toNat && s.bufOctets + n ≤ 32768

/-- An entry dropped at its ring (R365). -/
def dropEntry (q : RingId) (rx : Bool) (s : State) : State :=
  s.modRing q rx fun r => { r with drops := r.drops + 1 }

/-- A fetched entry has been taken by its consumer: CONS advances, unless the entry dates from before the ring was
last enabled (R362, R364). -/
def tookEntry (q : RingId) (s : State) : State :=
  s.modRing q false fun r =>
    if r.stale ≠ 0 then { r with stale := r.stale - 1 } else { r with cons := r.cons + 1, wbDue := r.wbDue || r.wben }

/-! ### Spokes and Truing -/

/-- The level of the last edge that has come to the lands: an edge is there SP_DESKEW_TX after its DT (R56). -/
def Spoke.atLands (sp : Spoke) (now : DT) : Drv :=
  ((sp.launches.filter fun l => dtLe l.1 now).getLast?.map (·.2)).getD sp.landed

/-- An edge that will be at the lands at an instant, behind those on their way. -/
def Spoke.launch (sp : Spoke) (now at_ : DT) (lvl : Drv) : Spoke :=
  { sp with
    landed := sp.atLands now
    landedAt := ((sp.launches.filter fun l => dtLe l.1 now).getLast?.map (·.1)).or sp.landedAt
    launches := sp.launches.filter (fun l => !dtLe l.1 now) ++ [(at_, lvl)] }

/-- The driver put into a state at once, whatever work had called for (R77, R213, R217). -/
def Spoke.put (sp : Spoke) (now : DT) (lvl : Drv) : Spoke :=
  { sp with drv := lvl, landed := lvl, landedAt := some now, launches := [] }

/-- What a spoke's driver does at the lands: Hi-Z under suppression, in Off, in a mode-change interval, and in EL mode
after a VEL fault; else the level the work calls for (R76 to R78, R402). -/
def State.driven (s : State) (i : SpokeId) : Drv :=
  let sp := s.spoke i
  if s.suppressed || sp.out == 0 || sp.modeEnd.isSome || (sp.out == 3 && s.dyn.elFault) then .hiz
  else sp.atLands s.dt

/-- The on-die termination of a spoke is connected: TERM in force, in Dawn, Day or Dusk until the rails go down (R76, R403,
R414). -/
def State.terminated (s : State) (i : SpokeId) : Bool :=
  (s.alive || (s.dyn.st == .dusk && s.dyn.rails == 7)) && (s.spoke i).term && !s.dyn.elLock.getLsbD i.val

/-- What one leg of a pin does (R76). -/
inductive Leg where
  | hiz
  | low
  | high
  /-- The return of EL mode. -/
  | ret
  deriving DecidableEq, Repr

/-- A driver's state on the leg that carries it. -/
def Drv.leg : Drv → Leg
  | .low => .low
  | .high => .high
  | .hiz => .hiz

/-- The other level; Hi-Z stays. -/
def Leg.flip : Leg → Leg
  | .low => .high
  | .high => .low
  | l => l

/-- The P and N legs of a spoke's pin (R76): complementary in differential mode, the N leg as SP_MODE.LEGN selects in
the single-ended mode and the return in EL; both Hi-Z while the P leg is. -/
def State.legs (s : State) (i : SpokeId) : Leg × Leg :=
  let sp := s.spoke i
  let p := (s.driven i).leg
  if p = .hiz then (.hiz, .hiz)
  else match sp.out.toNat with
    | 1 => (p, p.flip)
    | 2 => (p, match sp.legn.toNat with | 0 => p.flip | 1 => p | 2 => .low | _ => .hiz)
    | 3 => (p, .ret)
    | _ => (.hiz, .hiz)

/-! ### The comparator (R79) -/

/-- Whether a spoke's comparator input is differential: in differential mode, and in Off as SP_THRESH.SE says (R76). -/
def diffInput (m : RegMap) (i : SpokeId) (out : Nat) : Bool :=
  out == 1 || (out == 0 && !bit (regGet m (spBase i + 4)) 12)

/-- The threshold in uV: (LEVEL - 512) x 0.25 mV, or LEVEL x 3.3 mV up to 3.3 V (R79). -/
def threshold (m : RegMap) (i : SpokeId) (out : Nat) : Int :=
  let l := fld (regGet m (spBase i + 4)) 0 10
  if diffInput m i out then ((l : Int) - 512) * 250 else (min l 1000 : Nat) * 3300

/-- Half the hysteresis of SP_THRESH.HYST, in uV: 0, 10, 20 or 40 mV in all (R79). -/
def halfHyst (m : RegMap) (i : SpokeId) : Int :=
  match fld (regGet m (spBase i + 4)) 10 2 with
  | 0 => 0
  | 1 => 5000
  | 2 => 10000
  | _ => 20000

/-- The comparator's output for a voltage at its input, in uV: it turns at the threshold plus or minus half the hysteresis
(R79; DESIGN CHOICE for how the hysteresis is shared: log entry 97). -/
def compares (m : RegMap) (i : SpokeId) (out : Nat) (was : Bool) (v : Int) : Bool :=
  if was then !(v < threshold m i out - halfHyst m i) else threshold m i out + halfHyst m i ≤ v

/-- Whether an item is TRUE: it has no cause of NOT TRUE (R205). -/
def State.isTrue (s : State) (i : ItemId) : Bool := (s.item i).cause == 0

end Sys2Proof.Machine
end

