-- ==== Sys2Proof/Machine/Operands.lean ====
section
/-! DEFINITION. The fields of the 128-bit edge descriptors (R58 to R65) and of the 64-bit Pacer instruction words
(R88). -/

namespace Sys2Proof.Machine

/-! ### Edge descriptors -/

def dField (r : BitVec 128) (lo len : Nat) : Nat := fieldOf r.toNat lo len
/-- KIND (R58). -/
def dKind (r : BitVec 128) : Nat := dField r 0 3
/-- POL: true for active low (R61). -/
def dPol (r : BitVec 128) : Bool := r.getLsbD 3
/-- Number of pulses of a BURST: COUNT plus one (R61). -/
def dCount (r : BitVec 128) : Nat := dField r 6 12 + 1
def dUnit (r : BitVec 128) (k : Nat) : Nat := if r.getLsbD k then 4096 else 1
/-- WIDTH in ft (R61). -/
def dWidth (r : BitVec 128) : Nat := dField r 18 26 * dUnit r 4
/-- PERIOD in ft (R61). -/
def dPeriod (r : BitVec 128) : Nat := dField r 44 28 * dUnit r 4
/-- LENGTH of a WINDOW in ft (R65). -/
def dLength (r : BitVec 128) : Nat := dField r 44 28 * dUnit r 7
/-- START (R60). -/
def dStart (r : BitVec 128) : Nat := dField r 72 56
/-- DT of an ANCHOR (R59). -/
def dAnchor (r : BitVec 128) : DT := BitVec.ofNat 80 (dField r 48 80)
/-- LVL of a LEVEL (R64). -/
def dLvl (r : BitVec 128) : Nat := dField r 3 2
/-- MODE, EDGES, TAG and REC of a WINDOW (R65). -/
def dMode (r : BitVec 128) : Nat := dField r 3 2
def dEdges (r : BitVec 128) : Nat := dField r 5 2
def dTag (r : BitVec 128) : Nat := dField r 10 16
def dRec (r : BitVec 128) : Bool := r.getLsbD 9
/-- DONE: bit 5, and bit 8 in a WINDOW (R61, R64, R65). -/
def dDone (r : BitVec 128) : Bool := if dKind r = 5 then r.getLsbD 8 else r.getLsbD 5

/-- The kinds that occupy a place. -/
def kindOf (r : BitVec 128) : Option Kind :=
  match dKind r with
  | 1 => some .pulse
  | 2 => some .burst
  | 3 => some .train
  | 4 => some .level
  | 5 => some .window
  | _ => none

def Kind.code : Kind → Nat
  | .pulse => 1
  | .burst => 2
  | .train => 3
  | .level => 4
  | .window => 5

/-- Check 1 of R67: KIND, LVL, EDGES and MODE valid, reserved and unused fields 0. -/
def formatOk (r : BitVec 128) : Bool :=
  match dKind r with
  | 0 => dField r 3 45 == 0
  | 1 => dField r 6 12 == 0 && dField r 44 28 == 0
  | 2 => true
  | 3 => dField r 6 12 == 0
  | 4 => dLvl r != 3 && dField r 6 66 == 0
  | 5 => dEdges r != 0 && (!dRec r || dMode r == 2) && dField r 26 18 == 0
  | _ => false

/-- The emit guard of an output mode, which is also its minimum WIDTH and minimum PERIOD less WIDTH (R68). -/
def emitGuard (out : Nat) : Nat :=
  match out with
  | 1 => 1639
  | 2 => 10240
  | 3 => 102400
  | _ => 0

/-- Check 4 of R67: the limits of R68 in an output mode. -/
def limitsOk (r : BitVec 128) (out : Nat) : Bool :=
  match dKind r with
  | 1 => out != 0 && emitGuard out ≤ dWidth r
  | 2 => out != 0 && emitGuard out ≤ dWidth r &&
      (dCount r == 1 || (dPeriod r != 0 && dWidth r + emitGuard out ≤ dPeriod r))
  | 3 => out != 0 && emitGuard out ≤ dWidth r && dPeriod r != 0 && dWidth r + emitGuard out ≤ dPeriod r
  | 5 => dLength r != 0
  | _ => true

/-- The guard of R68 between a descriptor ahead and the entering one, under their output modes. -/
def guardOf (k1 k2 : Kind) (out1 out2 : Nat) : Nat :=
  let g := max (emitGuard out1) (emitGuard out2)
  if k1 == .window || k2 == .window then max 8192 g else g

/-! ### Pacer instruction words -/

/-- A field of an instruction word. -/
def iField (w : BitVec 64) (lo len : Nat) : Nat := fieldOf w.toNat lo len

end Sys2Proof.Machine
end

