-- ==== Sys2Proof/Machine/Flags.lean ====
section
/-! DEFINITION. The flags of a Pacer thread: what G and T arithmetic sets, and the conditions that test them (R89,
R90, R97, R98). -/

namespace Sys2Proof.Machine

/-- Z, N, C and V set together. -/
def Thread.flags (t : Thread) (z n c v : Bool) : Thread := { t with z := z, n := n, c := c, v := v }

/-- Z and N of a 32-bit result, with C and V given (R89). -/
def Thread.flagsG (t : Thread) (r : Word) (c v : Bool) : Thread := t.flags (r == 0) r.msb c v

/-- Carry out of bit 31 (R89). -/
def carryG (a b : Word) : Bool := 2 ^ 32 ≤ a.toNat + b.toNat

/-- A signed sum or difference that does not fit 32 bits (R89). -/
def overflowG (exact : Int) : Bool := exact < -(2 ^ 31) || 2 ^ 31 ≤ exact

/-- Flags of Ga + Gb (R89). -/
def Thread.flagsAdd (t : Thread) (a b : Word) : Thread :=
  t.flagsG (a + b) (carryG a b) (overflowG (a.toInt + b.toInt))

/-- Flags of Ga - Gb; C is the borrow (R89). -/
def Thread.flagsSub (t : Thread) (a b : Word) : Thread :=
  t.flagsG (a - b) (a.toNat < b.toNat) (overflowG (a.toInt - b.toInt))

/-- The last bit a left shift by n (0 to 31) moves out; 0 for a shift of 0 (R97). -/
def shlOut (a : Word) (n : Nat) : Bool := n != 0 && a.getLsbD (32 - n)

/-- The last bit a right shift by n moves out (R97). -/
def shrOut (a : Word) (n : Nat) : Bool := n != 0 && a.getLsbD (n - 1)

/-- Flags of a time result: Z, N from bit 79, C given, V 0 (R98). -/
def Thread.flagsT (t : Thread) (r : DT) (c : Bool) : Thread := t.flags (r == 0) r.msb c false

/-- Whether a condition holds (R90). -/
def condHolds (t : Thread) (cond : Nat) : Bool :=
  match cond with
  | 0 => true
  | 1 => t.z
  | 2 => !t.z
  | 3 => t.c
  | 4 => !t.c
  | 5 => !t.c && !t.z
  | 6 => t.c || t.z
  | 7 => t.n != t.v
  | 8 => t.n == t.v
  | 9 => !t.z && t.n == t.v
  | 10 => t.n
  | 11 => !t.n
  | 12 => t.v
  | 13 => !t.v
  | 14 => t.f
  | _ => !t.f

end Sys2Proof.Machine
end

