-- ==== Sys2Proof/Machine/Spoke.lean ====
section
/-! DEFINITION. Spokes: entry of descriptors, edges, windows, capture, mode changes and cancels (R55 to R85). -/

namespace Sys2Proof.Machine

/-! ### The queue -/

/-- Edges of a descriptor that emits: two a pulse, one for a LEVEL; none for a TRAIN without end. -/
def QDesc.total (e : QDesc) : Option Nat :=
  match e.kind with
  | .level => some 1
  | .window => some 1
  | _ => e.pulses.map (2 * ·)

/-- Every edge of the descriptor has passed, or the window has closed. -/
def QDesc.done (e : QDesc) : Bool := e.total.any (· ≤ e.edges)

/-- The instant of edge k of a PULSE, BURST or TRAIN, as encoded: pulse k/2 leads at even k and trails at odd k (R61). A
time step may have moved the end of the pulse that is high (R253). -/
def QDesc.edgeAt (e : QDesc) (k : Nat) : DT :=
  if k % 2 = 1 then
    let d := dtAdd e.start (k / 2 * dPeriod e.raw + dWidth e.raw)
    if k = e.edges then e.fall.getD d else d
  else dtAdd e.start (k / 2 * dPeriod e.raw)

/-- The instant of the descriptor's next edge, opening or closing, as encoded (R61, R64, R65). -/
def QDesc.due (e : QDesc) : DT :=
  match e.kind with
  | .level => e.start
  | .window => if e.opened then dtAdd e.start (dLength e.raw) else e.start
  | _ => e.edgeAt e.edges

/-- The instant of the descriptor's last edge, as encoded; for a TRAIN without end, of its latest (R68, R69). -/
def QDesc.last (e : QDesc) : DT :=
  match e.kind with
  | .level => e.start
  | .window => dtAdd e.start (dLength e.raw)
  | _ => e.edgeAt (2 * (e.pulses.getD (e.edges / 2 + 1) - 1) + 1)

/-- SP_DESKEW_TX, or SP_DESKEW_RX for a window, in a configuration (R56). -/
def deskewIn (m : RegMap) (i : SpokeId) (rx : Bool) : Nat := fld (regGet m (spBase i + (if rx then 0x10 else 0xC))) 0 23

/-- The configuration of a queued descriptor's generation; the active one where it is no longer held. -/
def State.tagRegs (s : State) (i : SpokeId) (tag : Word) : RegMap :=
  (s.genRegs (islSpoke i) tag).getD (s.island (islSpoke i)).active

/-- The deskew a descriptor launches, or is reported, with (R56, R72). -/
def State.deskew (s : State) (i : SpokeId) (e : QDesc) : Nat := deskewIn (s.tagRegs i e.tag) i (e.kind == .window)

/-- The descriptor that will act next among those that emit. -/
def Spoke.nextEmit (sp : Spoke) : Option QDesc := sp.queue.find? fun e => e.kind != .window && !e.done

/-- The earliest of some DTs (R16). -/
def minDt (l : List DT) : Option DT := (l.map (·.toNat)).min?.map (BitVec.ofNat 80)

/-- The next instant the spoke will act on (R85), as encoded. -/
def Spoke.nextAct (sp : Spoke) : Option DT := minDt ((sp.queue.filter fun e => !e.done).map QDesc.due)

/-- The first element that meets a test, changed. -/
def modFirst {α : Type} (p : α → Bool) (f : α → α) : List α → List α
  | [] => []
  | x :: xs => if p x then f x :: xs else x :: modFirst p f xs

/-- Nothing that R82 puts before an edge, an opening or a closing at `d` is still to come on the spoke: no swap and no
cancel due at or before `d`. -/
def State.clearTo (s : State) (i : SpokeId) (d : DT) : Bool :=
  !s.swapBefore (islSpoke i) d && !((s.spoke i).cancel.any fun c => dtLe c d)

/-- A cancel has fallen due on the spoke (R81). -/
def State.cancelDue (s : State) (i : SpokeId) : Bool := s.clocked && (s.spoke i).cancel.any fun c => dtLe c s.dt

/-! ### Work that Truing must make room for -/

/-- The next instant the spoke will launch at or open (R207, R212). -/
def State.nextLaunch (s : State) (i : SpokeId) : Option DT :=
  minDt (((s.spoke i).queue.filter fun e => !e.done && !(e.kind == .window && e.opened)).map fun e =>
    dtAdd e.due (s.deskew i e))

/-- The item of a spoke (R197). -/
def itemOf (i : SpokeId) : ItemId := ⟨i.val, by omega⟩

/-- The hit source leaves an item: its hit time stands (R199, R209). -/
def stopHits (it : ItemId) (s : State) : State :=
  s.modItem it fun x => match x.hitFrom with
    | some f => { x with hitTime := x.hitTime + (s.dt.toNat - f), hitFrom := none }
    | none => x

/-- The spoke's idle gap begins now (R208). -/
def startGap (i : SpokeId) (s : State) : State := s.modReq i fun r => { r with idleFrom := s.dt }

/-- The trims of before a run come back (R217, R218). -/
def restoreTrims (i : SpokeId) (s : State) : State :=
  match (s.req i).old with
  | some (tr, tg, th, rg, ld) =>
    s.modItem (itemOf i) fun x => { x with trims := tr, target := tg, thr := th, range := rg, loaded := ld }
  | none => s

/-- A run in progress ends without a result, and its request goes back to the queue (R217, R218). -/
def abortRun (i : SpokeId) (s : State) : State :=
  ((restoreTrims i s).modReq i fun r =>
      { r with st := 1, phase := .entry, histA := none, histB := none, fail := none, old := none }).modItem
    (itemOf i) fun x => { x with hitFrom := none, hitTime := 0 }

/-- The end of a burst that began at `b`: 100 ns before the next launch, or after 100 us (R208). -/
def State.burstEnd (s : State) (i : SpokeId) (b : DT) : DT :=
  let upto := dtAdd b 409600000
  match s.nextLaunch i with
  | some n => if dtLe upto (dtSub n 409600) then upto else dtSub n 409600
  | none => upto

/-- Work, or a swap, needs a spoke from `first` on: a burst that it falls in stops, and a full run yields with the
driver as it was at its start, and capture back within 12 ns (R209, R217). -/
def truingWork (i : SpokeId) (first : DT) (s : State) : State :=
  let r := s.req i
  let stops : Bool := match r.burst with
    | some b => !dtLe (dtAdd (s.burstEnd i b) 409600) first
    | none => false
  let s1 := if stops then startGap i ((stopHits (itemOf i) s).setReq i { r with burst := none }) else s
  if r.st = 2 ∧ !dtLe (dtAdd r.x 51200000000) first then
    raise 230 0x12 i.val 0 s.dt
      ((abortRun i s1).modSpoke i fun sp => { sp.put s.dt r.drvX with capOff := false, capFrom := some (dtAdd s.dt 49152) })
  else s1

/-! ### Completion -/

/-- The retiring copy is let go once no tagged work remains and its 1 us has passed (R66). -/
def releaseRetiring (i : SpokeId) (s : State) : State :=
  let x := s.island (islSpoke i)
  let sp := s.spoke i
  if x.retiring.isSome && sp.retainTo.isNone && !(sp.queue.any fun e => e.tag == x.retGen && e.tag != x.gen) then
    s.setIsland (islSpoke i) { x with retiring := none }
  else s

/-- A descriptor completes at an instant: its place frees, DONE is raised, and the retiring copy may go (R69). A
window's own event is raised at its close. -/
def finishDesc (i : SpokeId) (e : QDesc) (t : DT) (s : State) : State :=
  let s1 := s.modSpoke i fun sp => { sp with queue := sp.queue.erase e, freed := sp.freed + 1 }
  let s2 := if e.kind != .window && dDone e.raw then raise (2 * i.val) 1 0 0 t s1 else s1
  releaseRetiring i (startGap i s2)

/-! ### Cancels on their way (R81) -/

/-- A cancel set pending at a spoke; it replaces one already pending. SP_CANCEL.STATE follows it whoever issued it
(DESIGN CHOICE: R81 gives STATE with the host's write and does not say whether a thread's cancel shows there; log entry
98). -/
def setCancel (i : SpokeId) (cut : DT) (s : State) : State :=
  s.modSpoke i fun sp => { sp with cancel := some cut, cancelState := 1 }

/-- A thread's cancel reaches the spoke: one that comes less than the setup time before its DT_cut is not executed, and
LATE is raised on the thread's source (R20). -/
def arriveCancel (i : SpokeId) (cut : DT) (p : ThreadId) (s : State) : State :=
  if dtLe (dtAdd s.dt 65536) cut then setCancel i cut s
  else raise (128 + 2 * p.val) 1 0 0 cut (s.modThread p fun t => { t with late := t.late + 1 })

/-- Cancels at the head of the channel are taken in issue order, up to the next descriptor (R44). -/
def takeCancels (i : SpokeId) : List SpokeMsg → State → State
  | .cancel cut p :: rest, s => takeCancels i rest (arriveCancel i cut p (s.modSpoke i fun sp => { sp with chan := rest }))
  | _, s => s

/-- A clocked spoke takes the cancels that stand at the head of its channel. -/
def drainCancels (i : SpokeId) (s : State) : State := if s.clocked then takeCancels i (s.spoke i).chan s else s

/-- A thread's cancel enters the channel to the spoke, behind the descriptors issued before it (R44, R107); a clocked spoke
whose channel is empty takes it at once. -/
def sendCancel (i : SpokeId) (cut : DT) (p : ThreadId) (s : State) : State :=
  if s.clocked && (s.spoke i).chan.isEmpty then arriveCancel i cut p s
  else s.modSpoke i fun sp => { sp with chan := sp.chan ++ [.cancel cut p] }

/-- A host cancel enters its channel: refused with LEAD where DT_cut is under 1 us ahead (R46, R81). -/
def issueHostCancel (i : SpokeId) (cut : DT) (s : State) : State :=
  if dtLe (dtAdd (s.replica islHandlebar) 4096000) cut then setCancel i cut s
  else s.modSpoke i fun sp => { sp with cancelState := 3 }

/-- SPOKE_CANCEL_GO (R81): the host's write of SP_CANCEL.GO. A spoke whose clock is gated takes nothing and its STATE stands:
the cancel stays with Handlebar, and its lead is tested as it enters the channel (R46, R48, R360). -/
def execSpokeCancelGo (i : SpokeId) (s : State) : Out :=
  .next <| byHost s fun s =>
    let cut := dtAt s.imm (spBase i + 0x30)
    if s.clocked then issueHostCancel i cut s
    else s.modSpoke i fun sp => { sp with hostCancels := sp.hostCancels ++ [cut] }

/-! ### Entry (R58, R67) -/

/-- The start instant of a descriptor under the anchor in force (R60). -/
def startOf (sp : Spoke) (r : BitVec 128) : DT := dtAdd sp.anchor (dStart r)

/-- How many pulses of a TRAIN without end stay when work whose first launch is at `first` enters behind it (R63). -/
def keptPulses (e : QDesc) (tx : Nat) (first : DT) (guard : Nat) : Nat :=
  let trail := dtAdd e.start (tx + dWidth e.raw + guard)
  if dtLe trail first then (first - trail).toNat / dPeriod e.raw + 1 else 0

/-- Check 6 of R67 against the descriptor ahead, with the descriptor ahead as R63 leaves it. -/
def orderCheck (s : State) (i : SpokeId) (e : QDesc) (a : QDesc) : Option QDesc :=
  let ma := s.tagRegs i a.tag
  let me := s.tagRegs i e.tag
  let g := guardOf a.kind e.kind (s.outIn ma i) (s.outIn me i)
  let first := dtAdd e.start (s.deskew i e)
  if a.kind == .train && a.pulses.isNone then
    let n := keptPulses a (s.deskew i a) first g
    if n = 0 then none
    else if dtLe (dtAdd s.dt 65536) (dtAdd a.start (n * dPeriod a.raw)) then some { a with pulses := some n }
    else none
  else if dtLe (dtAdd a.last (s.deskew i a + g)) first then some a else none

/-- The descriptor as it would stand in the queue. -/
def enterAs (sp : Spoke) (d : ChanDesc) (k : Kind) : QDesc :=
  { raw := d.raw, kind := k, tag := d.tag, thread := d.thread, start := startOf sp d.raw,
    pulses := match k with
      | .pulse => some 1
      | .burst => some (dCount d.raw)
      | _ => none,
    edges := 0, opened := false, seen := false, fall := none }

/-- What entry finds: the cause of a rejection (R84), or the descriptor ahead as it is left (none: the queue is
empty). The guard is tested against a descriptor still in the queue, and not against one that has completed and left it
(DESIGN CHOICE: R68 measures from "the descriptor ahead" and does not say whether a completed one still counts; log
entry 98). -/
def entryCheck (s : State) (i : SpokeId) (d : ChanDesc) (e : QDesc) : Nat ⊕ Option QDesc :=
  if !formatOk d.raw then .inl 5
  else match s.genRegs (islSpoke i) d.tag with
    | none => .inl 7
    | some m =>
      if (ownerIn m i.val).isSome then .inl 6
      else if !limitsOk d.raw (s.outIn m i) then .inl 4
      else if !dtLe (dtAdd s.dt 65536) e.start then .inl 2
      else match (s.spoke i).queue.getLast? with
        | none => .inr none
        | some a => match orderCheck s i e a with
          | none => .inl 3
          | some a' => .inr (some a')

/-- A rejection (R67): counted, raised on E(2s), and for LATE on the issuing thread's source as well (R20). -/
def rejectDesc (i : SpokeId) (d : ChanDesc) (start : DT) (cause : Nat) (place : Bool) (s : State) : State :=
  let s1 := s.modSpoke i fun sp =>
    { sp with
      freed := if place then sp.freed + 1 else sp.freed
      cnt := if cause = 2 then { sp.cnt with late := sp.cnt.late + 1 } else { sp.cnt with reject := sp.cnt.reject + 1 } }
  let s2 := raise (2 * i.val) cause 0 0 start s1
  if cause = 2 then
    raise (128 + 2 * d.thread.val) 1 0 0 start (s2.modThread d.thread fun t => { t with late := t.late + 1 })
  else s2

/-- A place taken in the queue, and the TRAIN ahead cut as R63 says. A TRAIN whose last kept pulse has already passed
completes at the DT of this entry (DESIGN CHOICE: R69 gives the trailing edge, which had then not been the last; log
entry 98). -/
def acceptDesc (i : SpokeId) (e : QDesc) (ahead : Option QDesc) (s : State) : State :=
  let sp := s.spoke i
  let q := match ahead with
    | some a => sp.queue.dropLast ++ [a]
    | none => sp.queue
  let s1 := (truingWork i (dtAdd e.start (s.deskew i e)) s).modSpoke i fun sp => { sp with queue := q ++ [e] }
  match ahead with
  | some a => if a.done && !s.frozen then finishDesc i a s.dt s1 else s1
  | none => s1

/-- The head of the channel, if it is a descriptor, is taken by the spoke; the cancels behind it follow (R44). -/
def takeDesc (i : SpokeId) (wanted : BitVec 128 → Bool) (f : ChanDesc → State → State) (s : State) : State :=
  match (s.spoke i).chan with
  | .desc d :: rest =>
    if s.clocked && wanted d.raw then
      drainCancels i (f d (s.modSpoke i fun sp => { sp with chan := rest }))
    else s
  | _ => s

/-- The head of the channel enters the queue as a kind that takes a place (R57, R58, R67). -/
def enterDesc (i : SpokeId) (k : Kind) (s : State) : State :=
  takeDesc i (fun r => kindOf r == some k) (fun d s =>
    let e := enterAs (s.spoke i) d k
    match entryCheck s i d e with
    | .inl cause => rejectDesc i d e.start cause true s
    | .inr ahead => acceptDesc i e ahead s) s

/-- ANCHOR_DESCRIPTOR (R59): check 1 only; it takes no place. A rejected one has no start instant, and FORMAT is raised
with the descriptor's own DT field (DESIGN CHOICE: log entry 98). -/
def execAnchorDescriptor (i : SpokeId) (s : State) : Out :=
  .next <| takeDesc i (fun r => dKind r == 0) (fun d s =>
    if formatOk d.raw then s.modSpoke i fun sp => { sp with anchor := dAnchor d.raw }
    else rejectDesc i d (dAnchor d.raw) 5 false s) s

/-- PULSE_DESCRIPTOR (R61). -/
def execPulseDescriptor (i : SpokeId) (s : State) : Out := .next (enterDesc i .pulse s)
/-- BURST_DESCRIPTOR (R61). -/
def execBurstDescriptor (i : SpokeId) (s : State) : Out := .next (enterDesc i .burst s)
/-- TRAIN_DESCRIPTOR (R63). -/
def execTrainDescriptor (i : SpokeId) (s : State) : Out := .next (enterDesc i .train s)
/-- LEVEL_DESCRIPTOR (R64). -/
def execLevelDescriptor (i : SpokeId) (s : State) : Out := .next (enterDesc i .level s)
/-- WINDOW_DESCRIPTOR (R65). -/
def execWindowDescriptor (i : SpokeId) (s : State) : Out := .next (enterDesc i .window s)

/-- DESCRIPTOR_KIND_INVALID (R58): KIND 0b110 or 0b111 is rejected with FORMAT. The start instant reported is the anchor
plus bits [127:72], where every kind but ANCHOR has START (DESIGN CHOICE: the spec gives these KINDs no layout; log
entry 98). -/
def execDescriptorKindInvalid (i : SpokeId) (s : State) : Out :=
  .next <| takeDesc i (fun r => 6 ≤ dKind r) (fun d s => rejectDesc i d (startOf (s.spoke i) d.raw) 5 true s) s

/-! ### Edges -/

/-- The spoke is inside a mode-change interval at an instant (R77). -/
def Spoke.inModeGap (sp : Spoke) (t : DT) : Bool := sp.modeEnd.any fun d => !dtLe d t

/-- An edge or LEVEL change dropped by loss of lock or restart hold (R69, R255, R256). -/
def Spoke.lose (sp : Spoke) (t : DT) : Spoke :=
  { sp with
    cnt := { sp.cnt with lost := sp.cnt.lost + 1 }
    lostFirst := some (sp.lostFirst.getD t) }

/-- Own emitted edges kept for blanking: those not yet 8 192 ft past, and the new one (R71). -/
def Spoke.noteEdge (sp : Spoke) (now launch : DT) : Spoke :=
  { sp with ownEdges := (sp.ownEdges.filter fun d => dtLe now (dtAdd d 8192)) ++ [launch] }

/-! ### Evidence (R345, R347, R349) -/

/-- The referee checks the evidence on the spoke: PA_EVMASK selects it, in STANDBY and in ACTIVE. -/
def State.watches (s : State) (i : SpokeId) : Bool :=
  (s.pair.token == .standby || s.pair.token == .active) && bit (s.act (0x3E004 + 4 * (i.val / 32))) (i.val % 32)

/-- Two instants lie within EVWIN of each other (R345). -/
def State.near (s : State) (a b : DT) : Bool := (a - b).toInt.natAbs ≤ fld (s.act 0x3E000) 3 16

/-- One more t_net - t_own of a spoke in standby, the last 64 kept (R349). -/
def keepOfs (i : SpokeId) (net own : DT) (s : State) : State :=
  if s.pair.token != .standby then s else
  { s with pair := { s.pair with
    netOfs := s.pair.netOfs.set i.val (((net - own).toInt :: s.pair.netOfs.get i).take 64) i.isLt } }

/-- An own edge at the lands is answered by a crossing of the same direction within EVWIN, or waits for one. -/
def noteOwn (i : SpokeId) (own : DT) (rising : Bool) (s : State) : State :=
  match (s.spoke i).evNet.find? fun e => e.2 == rising && s.near e.1 own with
  | some e => keepOfs i e.1 own s
  | none => s.modSpoke i fun sp => { sp with evOwn := sp.evOwn ++ [(own, rising)] }

/-- A crossing answers the own edges of its direction within EVWIN, and is kept for those still to come. -/
def noteNet (i : SpokeId) (net : DT) (rising : Bool) (s : State) : State :=
  let answers (e : DT × Bool) : Bool := e.2 == rising && s.near e.1 net
  ((s.spoke i).evOwn.filter answers).foldl (fun s e => keepOfs i net e.1 s) <|
    s.modSpoke i fun sp => { sp with
      evOwn := sp.evOwn.filter fun e => !answers e
      evNet := (net, rising) :: sp.evNet.filter fun e => s.near e.1 net }

/-- A level that the work gives the driver is an edge on the net: it is low or high, and the driver stood at the other
level, or at Hi-Z while the comparator does not show it yet (DESIGN CHOICE for Hi-Z: log entry 102). -/
def Spoke.edgeOnNet (sp : Spoke) (lvl : Drv) : Bool :=
  match lvl with
  | .hiz => false
  | l => if sp.drv == .hiz then sp.pin != (l == .high) else sp.drv != l

/-- The referee's note of a level that the work drives, or would drive, from `sp` on (R345). -/
def noteDrive (i : SpokeId) (sp : Spoke) (lvl : Drv) (own : DT) (s : State) : State :=
  if s.watches i && sp.edgeOnNet lvl then noteOwn i own (lvl == .high) s else s

/-- An edge the spoke would have driven: counted in SP_SUPPR, and in standby kept for PA_GAP_EDGES (R78, R347). -/
def suppressEdge (i : SpokeId) (t : DT) (s : State) : State :=
  s.modSpoke i fun sp => { sp with
    cnt := { sp.cnt with suppr := sp.cnt.suppr + 1 }
    gapEdges := if s.pair.token == .standby then t :: sp.gapEdges else sp.gapEdges }

/-- The driver is given a level by an edge or action at `t`: it is at the lands SP_DESKEW_TX later (R56), and a change
of level is the spoke's latest drive action (R149). -/
def Spoke.drive (sp : Spoke) (now : DT) (lvl : Drv) (t : DT) (tx : Nat) : Spoke :=
  { sp.launch now (dtAdd t tx) lvl with drv := lvl, lastAct := if sp.drv = lvl then sp.lastAct else some t }

/-- An edge or level change of the executing work at an instant: dropped while the queue is frozen, not driven in a
mode-change interval, counted and driven otherwise, or counted and held back under suppression (R69, R77, R78). -/
def spokeEdge (i : SpokeId) (lvl : Drv) (t : DT) (tx : Nat) (s : State) : State :=
  let sp := s.spoke i
  if s.frozen then s.setSpoke i (sp.lose t)
  else if sp.inModeGap t then
    raise (2 * i.val) 9 0 0 t
      (s.setSpoke i { sp with cnt := { sp.cnt with lost := sp.cnt.lost + 1 } })
  else
    let sp1 := { sp.drive s.dt lvl t tx with cnt := { sp.cnt with edges := sp.cnt.edges + 1 } }
    noteDrive i sp lvl (dtAdd t tx)
      (if s.suppressed then suppressEdge i t (s.setSpoke i sp1) else s.setSpoke i (sp1.noteEdge s.dt (dtAdd t tx)))

/-- The level of a pulse's leading (true) or trailing edge (R61). -/
def edgeLevel (raw : BitVec 128) (leading : Bool) : Drv := if leading == dPol raw then .low else .high

/-- The level a LEVEL sets (R64). -/
def lvlOf (n : Nat) : Drv := if n = 0 then .low else if n = 1 then .high else .hiz

/-- The next edge of the executing descriptor `e`, which has fallen due; the descriptor completes with its last edge
unless the queue is frozen (R61, R64, R69). -/
def runEdge (i : SpokeId) (e : QDesc) (lvl : Drv) (s : State) : State :=
  let t := e.due
  let e1 := { e with edges := e.edges + 1, fall := none }
  let s1 := s.modSpoke i fun sp => { sp with queue := modFirst (· == e) (fun _ => e1) sp.queue }
  let s2 := spokeEdge i lvl t (s.deskew i e) s1
  if e1.done && !s.frozen then finishDesc i e1 t s2 else s2

/-- The executing descriptor, if its next edge has fallen due and nothing that R82 puts first is still to come. A gated
spoke drives no edge (R255, R360). -/
def State.edgeDue (s : State) (i : SpokeId) : Option QDesc :=
  if s.clocked then (s.spoke i).nextEmit.filter fun e => dtLe e.due s.dt && s.clearTo i e.due else none

/-- LEADING_EDGE (R61, R62). -/
def execLeadingEdge (i : SpokeId) (s : State) : Out :=
  .next <| match s.edgeDue i with
  | some e => if e.kind != .level && e.edges % 2 == 0 then runEdge i e (edgeLevel e.raw true) s else s
  | none => s

/-- TRAILING_EDGE (R61). -/
def execTrailingEdge (i : SpokeId) (s : State) : Out :=
  .next <| match s.edgeDue i with
  | some e => if e.kind != .level && e.edges % 2 == 1 then runEdge i e (edgeLevel e.raw false) s else s
  | none => s

/-- LEVEL_CHANGE (R64). -/
def execLevelChange (i : SpokeId) (s : State) : Out :=
  .next <| match s.edgeDue i with
  | some e => if e.kind == .level then runEdge i e (lvlOf (dLvl e.raw)) s else s
  | none => s

/-! ### Records (R74, R75) -/

/-- The record path of a spoke holds 16 entries (R44, R75). -/
def State.recFull (s : State) (i : SpokeId) : Bool :=
  16 ≤ (s.outbox.filter fun e => !e.taken && e.spoke == some i).length

/-- The 16 octets of a capture record (R74). -/
def recordBytes (i : SpokeId) (d : DT) (edge typ : Nat) (dead drop untrue : Bool) (seq tag : Nat) : Octets :=
  leOctets 16 (d.toNat + i.val * 2 ^ 80 + edge * 2 ^ 86 + typ * 2 ^ 88 + b1 dead * 2 ^ 91 + b1 drop * 2 ^ 92 +
    b1 untrue * 2 ^ 93 + seq % 65536 * 2 ^ 96 + tag % 65536 * 2 ^ 112)

/-- A record is produced (R75): it enters the record path, with CAPTURE for FREE and WINDOW where EVT says so, or is
dropped there with OVERRUN. -/
def putRecord (i : SpokeId) (d : DT) (edge typ tag : Nat) (s : State) : State :=
  let sp := s.spoke i
  let full := s.recFull i
  let bytes := recordBytes i d edge typ sp.dead sp.drop (!s.isTrue ⟨i.val, by omega⟩) sp.seq.toNat tag
  let sp1 := { sp with
    dead := false, seq := sp.seq + 1, drop := full
    cnt := { sp.cnt with caps := sp.cnt.caps + 1, capDrop := if full then sp.cnt.capDrop + 1 else sp.cnt.capDrop } }
  let s1 := s.setSpoke i sp1
  if full then raise (2 * i.val + 1) 4 0 0 d s1
  else
    let s2 := send ⟨Fin.ofNat 64 (i.val / 2), false, some i, false, bytes⟩ s1
    if bit (s.act (spBase i + 8)) 3 && typ ≤ 1 then raise (2 * i.val + 1) 1 0 0 d s2 else s2

/-! ### Windows -/

/-- WINDOW_OPEN (R65). -/
def execWindowOpen (i : SpokeId) (s : State) : Out :=
  .next <| if s.frozen then s else
    match (s.spoke i).queue.find? fun e => e.kind == .window && !e.opened && !e.done with
    | some e => if dtLe e.due s.dt && s.clearTo i e.due then
        s.modSpoke i fun sp => { sp with queue := modFirst (· == e) (fun _ => { e with opened := true }) sp.queue }
      else s
    | none => s

/-- No edge of a closed window's span can come from the lands any more (R56). -/
def EndWin.over (w : EndWin) (now : DT) : Bool := dtLe (dtAdd w.close w.rx) now

/-- Closed windows whose last edge can no longer come: an EXPECT window that saw no qualifying edge records MISS, with
its closing instant (R73; that it waits SP_DESKEW_RX for them is DEDUCED from R56: log entry 14). -/
def settleWindows (i : SpokeId) (s : State) : State :=
  let past := (s.spoke i).ending.filter fun w => w.over s.dt
  past.foldl (fun s w =>
    if w.miss && !w.d.seen then
      raise (2 * i.val + 1) 3 0 0 w.close
        (putRecord i w.close 0 3 (dTag w.d.raw)
          (s.modSpoke i fun sp => { sp with cnt := { sp.cnt with cmpMiss := sp.cnt.cmpMiss + 1 } }))
    else s) (s.modSpoke i fun sp => { sp with ending := sp.ending.filter fun w => !w.over s.dt })

/-- A window closes at `t` (R65, R69, R73): WDONE is raised where the window asks for it, and its place frees. An EXPECT
window is still to record MISS if it saw no qualifying edge, unless a cancel closed it (R81). -/
def closeWindow (i : SpokeId) (e : QDesc) (t : DT) (cancelled : Bool) (s : State) : State :=
  let w : EndWin := ⟨e, t, s.deskew i e, dMode e.raw == 2 && !cancelled⟩
  let s1 := s.modSpoke i fun sp => { sp with ending := sp.ending ++ [w] }
  let s2 := if dDone e.raw then raise (2 * i.val + 1) 5 0 0 t s1 else s1
  let s3 := if s.frozen then
      s2.modSpoke i fun sp => { sp with queue := modFirst (· == e) (fun _ => { e with edges := 1 }) sp.queue }
    else finishDesc i e t s2
  settleWindows i s3

/-- WINDOW_CLOSE (R73): an open window whose closing instant has come closes, and windows that have closed make their
last decision once no edge of theirs can come any more. -/
def execWindowClose (i : SpokeId) (s : State) : Out :=
  .next <| if !s.clocked then s else
    match (s.spoke i).queue.find? fun e => e.kind == .window && e.opened && !e.done with
    | some e => if dtLe e.last s.dt && s.clearTo i e.last then closeWindow i e e.last false s else settleWindows i s
    | none => settleWindows i s

/-! ### Output mode (R77) -/

/-- The SP_MODE fields that come into force: OUT as DY_EL_LOCK lets it act, LEGN, TERM (R77, R403). -/
def State.wantedMode (s : State) (i : SpokeId) : BitVec 2 × BitVec 2 × Bool :=
  let m := (s.island (islSpoke i)).active
  let w := regGet m (spBase i)
  (BitVec.ofNat 2 (s.outIn m i), BitVec.ofNat 2 (fld w 2 2), bit w 6 && !s.dyn.elLock.getLsbD i.val)

/-- MODE_CHANGE (R77): the last descriptor of an older generation has completed after the swap that brought the
change, and its last edge has come to the lands (log entry 50). -/
def execModeChange (i : SpokeId) (s : State) : Out :=
  .next <|
    let sp := s.spoke i
    if s.clocked && sp.modePend && !(sp.queue.any fun e => e.tag != (s.island (islSpoke i)).gen) &&
        sp.launches.all (fun l => dtLe l.1 s.dt) then
      let (o, l, t) := s.wantedMode i
      if o = sp.out then s.setSpoke i { sp with legn := l, term := t, modePend := false }
      else
        (s.modReq i fun r => { r with drvX := if sp.out = 0 then .hiz else r.drvX }).setSpoke i
          { sp.put s.dt (if sp.out = 0 then .hiz else sp.drv) with
            out := o, legn := l, term := t, modePend := false, modeEnd := some (dtAdd s.dt 819200) }
    else s

/-- MODE_CHANGE_INTERVAL_END (R77): the driver takes the level held before the change, or INIT's where that was
Hi-Z; in a full run, once the run ends (R217). -/
def execModeChangeIntervalEnd (i : SpokeId) (s : State) : Out :=
  .next <|
    let sp := s.spoke i
    match sp.modeEnd with
    | some d =>
      if s.clocked && dtLe d s.dt then
        let init := lvlOf (fld (s.act (spBase i)) 4 2)
        let r := s.req i
        if r.st = 2 then
          (s.setReq i { r with drvX := if r.drvX = .hiz then init else r.drvX }).setSpoke i { sp with modeEnd := none }
        else s.setSpoke i { sp.put s.dt (if sp.drv = .hiz then init else sp.drv) with modeEnd := none }
      else s
    | none => s

/-! ### Cancel (R81) -/

/-- Pulses of a BURST or TRAIN whose leading edge comes before the cut. -/
def pulsesBefore (e : QDesc) (cut : DT) : Nat :=
  if dtLe cut e.start then 0
  else if dPeriod e.raw = 0 then 1 else ((cut - e.start).toNat + dPeriod e.raw - 1) / dPeriod e.raw

/-- A running PULSE, BURST or TRAIN starts no leading edge at or after `cut`; one that is cut between two pulses completes
at `cut` (DESIGN CHOICE: R69 gives the trailing edge, which had then not been the last; log entry 98). -/
def cutPulses (i : SpokeId) (cut : DT) (e : QDesc) (s : State) : State :=
  let n := match e.pulses with
    | some k => min k (pulsesBefore e cut)
    | none => pulsesBefore e cut
  let e1 := { e with pulses := some n }
  let s1 := s.modSpoke i fun sp => { sp with queue := modFirst (· == e) (fun _ => e1) sp.queue }
  if e1.done && !s.frozen then finishDesc i e1 cut s1 else s1

/-- What a cut does to one queued descriptor. -/
def cutDesc (i : SpokeId) (cut : DT) (e : QDesc) (s : State) : State :=
  if dtLe cut e.start then
    let s1 := s.modSpoke i fun sp => { sp with
      queue := sp.queue.erase e, freed := sp.freed + 1, cnt := { sp.cnt with cancelled := sp.cnt.cancelled + 1 } }
    releaseRetiring i (startGap i s1)
  else match e.kind with
    | .window => if e.done || !dtLe cut e.last then s else closeWindow i e cut true s
    | .level => s
    | _ => cutPulses i cut e s

/-- CANCEL_DUE (R81), after a swap due at or before DT_cut (R82). -/
def execCancelDue (i : SpokeId) (s : State) : Out :=
  .next <| match (s.spoke i).cancel with
  | some cut =>
    if s.cancelDue i && !s.swapBefore (islSpoke i) cut then
      let s1 := s.modSpoke i fun sp => { sp with cancel := none, cancelState := 2 }
      raise (2 * i.val) 10 0 0 cut ((s.spoke i).queue.foldl (fun s e => cutDesc i cut e s) s1)
    else s
  | none => s

/-- RETIRE_HOLD_EXPIRY (R66): the 1 us after a swap has passed. -/
def execRetireHoldExpiry (i : SpokeId) (s : State) : Out :=
  .next <| match (s.spoke i).retainTo with
  | some d =>
    if s.clocked && dtLe d s.dt then
      releaseRetiring i (s.modSpoke i fun sp => { sp with retainTo := none })
    else s
  | none => s

/-! ### What gates, holds and swaps do to a spoke -/

/-- How many instants of a comb from `first` on, `step` apart, lie before `t`. -/
def combBefore (first t : DT) (step : Nat) : Nat :=
  if dtLe t first then 0 else if step = 0 then 1 else ((t - first).toNat - 1) / step + 1

/-- Edges of a descriptor that fell due before `t` while nothing could run, and the descriptor past them. -/
def missedEdges (e : QDesc) (t : DT) : Nat × QDesc :=
  match e.kind with
  | .window => (0, e)
  | .level => if !e.done && !dtLe t e.start then (1, { e with edges := 1 }) else (0, e)
  | _ => if e.fall.any (dtLe t ·) then (0, e) else
    let p := dPeriod e.raw
    let lead := combBefore e.start t p
    let trail := combBefore (dtAdd e.start (dWidth e.raw)) t p
    let passed := match e.pulses with
      | some n => min lead n + min trail n
      | none => lead + trail
    if e.edges < passed then (passed - e.edges, { e with edges := passed, fall := none }) else (0, e)

/-- Every edge that fell due before now and has not run is dropped: the spoke was frozen over it (R255, R256). -/
def dropMissed (s : State) (sp : Spoke) : Spoke :=
  sp.queue.foldl (fun sp e =>
    let m := missedEdges e s.dt
    if m.1 = 0 then sp else
      { sp with
        queue := modFirst (· == e) (fun _ => m.2) sp.queue
        cnt := { sp.cnt with lost := sp.cnt.lost + word m.1 }
        lostFirst := some (sp.lostFirst.getD e.due) }) sp

/-- LOST is raised with the first dropped edge's DT, once the clock is back or the hold ends (R83, R256). -/
def sayLost (i : SpokeId) (s : State) : State :=
  match (s.spoke i).lostFirst with
  | some d => raise (2 * i.val) 8 0 0 d (s.modSpoke i fun sp => { sp with lostFirst := none })
  | none => s

/-- The cancels that Handlebar held for the spoke enter their channel (R46, R48). -/
def drainHost (i : SpokeId) (s : State) : State :=
  (s.spoke i).hostCancels.foldl (fun s cut => issueHostCancel i cut s) (s.modSpoke i fun sp => { sp with hostCancels := [] })

/-- A spoke's clock returns (R48, R255): edges due in the outage are dropped and LOST is raised; cancels at the head of
the channel are tested under R20, and those Handlebar held enter theirs under R46. -/
def ungateSpoke (i : SpokeId) (s : State) : State :=
  drainHost i (drainCancels i (sayLost i (s.setSpoke i (dropMissed s (s.spoke i)))))

/-- Restart hold ends in a spoke (R256): edges due in the hold are dropped, descriptors whose last edge has passed
are removed, and LOST is raised once more. -/
def endHoldSpoke (i : SpokeId) (s : State) : State :=
  let sp := dropMissed s (s.spoke i)
  let gone := sp.queue.filter fun e =>
    e.done || e.total.isSome && dtLe e.last s.dt && !(e.kind == .window && e.opened)
  let s1 := s.setSpoke i { sp with
    queue := sp.queue.filter (fun e => !gone.contains e), freed := sp.freed + gone.length }
  releaseRetiring i (sayLost i s1)

/-- The swap gives the spoke to an engine: a TRAIN without end ends there, as R63 and R80 say, with the pulses whose
leading edge came before (log entry 98). -/
def endTrains (i : SpokeId) (s : State) : State :=
  (s.spoke i).queue.foldl (fun s e =>
    if e.kind == .train && e.pulses.isNone then cutPulses i s.dt e s else s) s

/-- What a commit swap changes in a spoke beyond its copies: the 1 us retention, a mode change to make, a TRAIN or the
work of an engine that loses the spoke (a strobe before the change of owner still counts), EL_LOCK, and Truing's use of
the spoke (R63, R66, R77, R148, R151, R209, R217, R403). -/
def swapSpoke (i : SpokeId) (old : RegMap) (s : State) : State :=
  let x := s.island (islSpoke i)
  let sp := s.spoke i
  let (o, l, t) := s.wantedMode i
  let s1 := s.setSpoke i { sp with
    retainTo := if x.retiring.isSome then some (dtAdd s.dt 4096000) else sp.retainTo
    modePend := sp.modePend || o != sp.out || l != sp.legn || t != sp.term }
  let newOut := fld (regGet x.active (spBase i)) 0 2
  let s2 := if s.dyn.elLock.getLsbD i.val && (newOut == 1 || newOut == 2) && newOut != fld (regGet old (spBase i)) 0 2
    then raise 250 2 i.val 0 s.dt s1 else s1
  let own := s.owner i
  let s3 := match ownerIn old i.val with
    | some v => if own == some v then s2 else
        s2.modEngine v fun en => { en with
          acts := en.acts.filter (fun a => a.spoke != i)
          strobes := en.strobes.filter fun st => st.spoke != i || !dtLe s.dt st.at_ }
    | none => if own.isSome then endTrains i s2 else s2
  let free := bit (regGet x.active (spBase i + 8)) 0
  let s4 := if (bit (regGet old (spBase i + 8)) 0 && !free) || ownerIn old i.val != own then startGap i s3 else s3
  let running := match own with | some v => (s.engine v).state != .stopped | none => false
  if free || running then truingWork i s.dt s4 else s4

end Sys2Proof.Machine
end

