-- ==== Sys2Proof/Machine/Pacer.lean ====
section
/-! DEFINITION. Pacer: slots, fetch, faults, arithmetic, time, tables and control flow (R86 to R100, R121 to R123). -/

namespace Sys2Proof.Machine

/-! ### Slots (R121 to R123) -/

/-- The slot running now. -/
def State.slot (s : State) : Nat := slotOf s.dt

/-- The slot is the thread's own, and Pacer is clocked in Day. -/
def State.ownSlot (s : State) (p : ThreadId) : Bool := s.inDay && s.clocked && s.slot % 16 == p.val

/-- A control action takes effect before anything else in this slot (R126). -/
def Thread.actDue (t : Thread) (k : Nat) : Bool := t.act.any fun a => dtLe a.dt (slotDt k)

/-- The thread may use the slot in the given state: the slot is its own and later than those its instruction took. -/
def State.mayUse (s : State) (p : ThreadId) (st : TState) : Bool :=
  let t := s.thread p
  s.ownSlot p && t.state == st && t.nextSlot ≤ s.slot && !t.actDue s.slot

/-! ### Instruction memory (R94, R128) -/

/-- BAR2 address of a word of a bank (R361). -/
def bankAddr (bank : Bool) (a : Nat) : Nat := (if bank then 0x820000 else 0x800000) + 8 * a

/-- A word of the active bank, or of the bank active before a swap for an instruction in progress over it (R94, R129). -/
def State.code (s : State) (p : ThreadId) (a : Nat) : BitVec 64 :=
  BitVec.ofNat 64 (leNat (rdN memDflt s.mem (bankAddr (s.pacer.bank != (s.thread p).oldBank) a) 8))

/-- The instruction at the thread's IP. -/
def State.instrAt (s : State) (p : ThreadId) : BitVec 64 := s.code p (s.thread p).ip.toNat

/-- OP of an instruction word (R91). -/
def iOp (w : BitVec 64) : Nat := iField w 56 8

/-! ### Ends of an instruction -/

/-- A fault: the thread stops at the instruction, which has had no effect (R117, R143). -/
def fault (p : ThreadId) (cause : Nat) (s : State) : State :=
  let t := s.thread p
  let d := slotDt s.slot
  raise (129 + 2 * p.val) cause 0 0 d (s.setThread p
    { t with state := .faulted, waitOn := .none, oldBank := false, faultCause := BitVec.ofNat 4 cause, faultIp := t.ip, faultDt := d })

/-- An instruction completes in this slot with IP as `f` leaves it; the next one may issue in the thread's next slot. -/
def complete (p : ThreadId) (f : Thread → Thread) (s : State) : State :=
  let t := f (s.thread p)
  s.setThread p { t with
    state := .run, waitOn := .none, oldBank := false, instr := t.instr + 1, nextSlot := s.slot + 16 }

/-- IP moves on by one. -/
def Thread.step (t : Thread) : Thread := { t with ip := t.ip + 1 }

/-- An instruction that goes on to IP + 1 completes with the effect `f`; at 16 383 it faults with ADDR before it has any
effect (R94). -/
def goOn (p : ThreadId) (f : Thread → Thread) (s : State) : State :=
  if (s.thread p).ip = 0x3FFF then fault p 2 s else complete p (fun t => (f t).step) s

/-- The second slot of an instruction of two slots (R88): its effect comes there, so that an action that stops the thread
between them leaves none (R126). -/
def secondSlot (p : ThreadId) (f : State → State) (s : State) : State :=
  if (s.thread p).nextSlot + 16 ≤ s.slot then f s else s

/-- An instruction of two slots, which at 16 383 faults with ADDR. -/
def twoSlots (p : ThreadId) (f : State → State) (s : State) : State :=
  if (s.thread p).ip = 0x3FFF then fault p 2 s else secondSlot p f s

/-- An instruction of opcode `op` issues in its slot: a field that must be 0, a register of the wrong class or an
invalid value is ILLEGAL (R87, R92); otherwise `f` is its effect. -/
def issueOp (p : ThreadId) (op : Nat) (ok : BitVec 64 → Bool) (f : BitVec 64 → State → State) (s : State) : Out :=
  .next <|
    if s.mayUse p .run then
      let w := s.instrAt p
      if iOp w = op then (if ok w then f w s else fault p 1 s) else s
    else s

/-! ### Operands -/

def isG (n : Nat) : Bool := n < 8
def isT (n : Nat) : Bool := 8 ≤ n && n < 16
def fD (w : BitVec 64) : Nat := iField w 52 4
def fA (w : BitVec 64) : Nat := iField w 48 4
def fB (w : BitVec 64) : Nat := iField w 44 4
def fSC (w : BitVec 64) : Nat := iField w 42 2
def imm32 (w : BitVec 64) : Word := word (iField w 0 32)
/-- A field that must be 0. -/
def zero (w : BitVec 64) (lo len : Nat) : Bool := iField w lo len == 0

def Thread.gr (t : Thread) (n : Nat) : Word := t.g.get (Fin.ofNat 8 n)
def Thread.tr (t : Thread) (n : Nat) : DT := t.t.get (Fin.ofNat 8 n)
def Thread.setG (t : Thread) (n : Nat) (x : Word) : Thread :=
  { t with g := t.g.set (n % 8) x (Nat.mod_lt _ (by decide)) }
def Thread.setT (t : Thread) (n : Nat) (x : DT) : Thread :=
  { t with t := t.t.set (n % 8) x (Nat.mod_lt _ (by decide)) }

/-- Format R with classes for D, A and B; SC and the rest 0. -/
def okR (d a b : Nat → Bool) (w : BitVec 64) : Bool := d (fD w) && a (fA w) && b (fB w) && zero w 0 44
def none' (n : Nat) : Bool := n == 0

/-! ### Control (R95) -/

/-- NOP. -/
def execNop (p : ThreadId) (s : State) : Out := issueOp p 0x00 (fun w => zero w 0 56) (fun _ => goOn p id) s

/-- HALT: the thread stops with IP at the HALT. -/
def execHalt (p : ThreadId) (s : State) : Out :=
  issueOp p 0x01 (fun w => zero w 0 56)
    (fun _ s => (complete p id s).modThread p fun t => { t with state := .halted }) s

/-- IP set to an address. -/
def jumpTo (a : Nat) (t : Thread) : Thread := { t with ip := BitVec.ofNat 14 a }

/-- B. -/
def execB (p : ThreadId) (s : State) : Out :=
  issueOp p 0x02 (fun w => zero w 14 38)
    (fun w s => if condHolds (s.thread p) (fD w) then complete p (jumpTo (iField w 0 14)) s else goOn p id s) s

/-- CALL. -/
def execCall (p : ThreadId) (s : State) : Out :=
  issueOp p 0x03 (fun w => zero w 14 38)
    (fun w s =>
      let t := s.thread p
      if condHolds t (fD w) then
        if 4 ≤ t.stack.length then fault p 3 s
        else complete p (fun t => jumpTo (iField w 0 14) { t with stack := t.stack ++ [.call (t.ip + 1)] }) s
      else goOn p id s) s

/-- RET. -/
def execRet (p : ThreadId) (s : State) : Out :=
  issueOp p 0x04 (fun w => zero w 0 52)
    (fun w s =>
      let t := s.thread p
      if condHolds t (fD w) then
        match t.stack.getLast? with
        | some (.call a) => complete p (fun t => { t with ip := a, stack := t.stack.dropLast }) s
        | _ => fault p 3 s
      else goOn p id s) s

/-- LOOP. At 16 383 with a full stack it reports STACK and not ADDR (DESIGN CHOICE: the spec gives no order of faults;
log entry 99). -/
def execLoop (p : ThreadId) (s : State) : Out :=
  issueOp p 0x05
    (fun w => zero w 52 4 && zero w 14 1 &&
      (if iField w 15 1 = 0 then zero w 48 4 else isG (fA w) && zero w 16 32))
    (fun w s =>
      let t := s.thread p
      let count := if iField w 15 1 = 0 then word (iField w 16 32) else t.gr (fA w)
      if count = 0 then complete p (jumpTo (iField w 0 14)) s
      else if 4 ≤ t.stack.length then fault p 3 s
      else goOn p (fun t => { t with stack := t.stack ++ [.loop (t.ip + 1) count] }) s) s

/-- ENDL. -/
def execEndl (p : ThreadId) (s : State) : Out :=
  issueOp p 0x06 (fun w => zero w 0 56)
    (fun _ s =>
      match (s.thread p).stack.getLast? with
      | some (.loop a c) =>
        if c = 1 then goOn p (fun t => { t with stack := t.stack.dropLast }) s
        else complete p (fun t => { t with ip := a, stack := t.stack.dropLast ++ [.loop a (c - 1)] }) s
      | _ => fault p 3 s) s

/-- UNDEFINED_OP (R92): an OP that is not in the opcode table. -/
def opDefined (op : Nat) : Bool :=
  op ≤ 0x06 || (0x10 ≤ op && op ≤ 0x2F) || (0x40 ≤ op && op ≤ 0x45) || (0x50 ≤ op && op ≤ 0x55) ||
  (0x60 ≤ op && op ≤ 0x62) || (0x68 ≤ op && op ≤ 0x6A)

def execUndefinedOp (p : ThreadId) (s : State) : Out :=
  .next <| if s.mayUse p .run && !opDefined (iOp (s.instrAt p)) then fault p 1 s else s

/-! ### G arithmetic (R97) -/

/-- A three-register G instruction: its result and flags from Ga and Gb. -/
def aluR (p : ThreadId) (op : Nat) (f : Thread → Word → Word → Thread × Word) (s : State) : Out :=
  issueOp p op (okR isG isG isG)
    (fun w => goOn p fun t => let r := f t (t.gr (fA w)) (t.gr (fB w)); r.1.setG (fD w) r.2) s

/-- ADD. -/
def execAdd (p : ThreadId) (s : State) : Out := aluR p 0x10 (fun t a b => (t.flagsAdd a b, a + b)) s
/-- SUB. -/
def execSub (p : ThreadId) (s : State) : Out := aluR p 0x11 (fun t a b => (t.flagsSub a b, a - b)) s
/-- AND. -/
def execAnd (p : ThreadId) (s : State) : Out := aluR p 0x12 (fun t a b => (t.flagsG (a &&& b) false false, a &&& b)) s
/-- OR. -/
def execOr (p : ThreadId) (s : State) : Out := aluR p 0x13 (fun t a b => (t.flagsG (a ||| b) false false, a ||| b)) s
/-- XOR. -/
def execXor (p : ThreadId) (s : State) : Out := aluR p 0x14 (fun t a b => (t.flagsG (a ^^^ b) false false, a ^^^ b)) s

/-- A left shift by 0 to 31 and its flags. -/
def shl (t : Thread) (a : Word) (n : Nat) : Thread × Word := (t.flagsG (a <<< n) (shlOut a n) false, a <<< n)
/-- A logical right shift by 0 to 31 and its flags. -/
def shr (t : Thread) (a : Word) (n : Nat) : Thread × Word := (t.flagsG (a >>> n) (shrOut a n) false, a >>> n)

/-- SHL. -/
def execShl (p : ThreadId) (s : State) : Out := aluR p 0x15 (fun t a b => shl t a (b.toNat % 32)) s
/-- SHR. -/
def execShr (p : ThreadId) (s : State) : Out := aluR p 0x16 (fun t a b => shr t a (b.toNat % 32)) s
/-- MUL. -/
def execMul (p : ThreadId) (s : State) : Out := aluR p 0x17 (fun t a b => (t.flagsG (a * b) false false, a * b)) s

/-- CMP. -/
def execCmp (p : ThreadId) (s : State) : Out :=
  issueOp p 0x18 (okR none' isG isG) (fun w => goOn p fun t => t.flagsSub (t.gr (fA w)) (t.gr (fB w))) s

/-- MOV. -/
def execMov (p : ThreadId) (s : State) : Out :=
  issueOp p 0x19 (okR isG isG none') (fun w => goOn p fun t => t.setG (fD w) (t.gr (fA w))) s

/-- Format I with classes for D and A and a 32-bit immediate. -/
def okI (d a : Nat → Bool) (w : BitVec 64) : Bool := d (fD w) && a (fA w) && zero w 32 16

/-- A G instruction with an immediate. -/
def aluI (p : ThreadId) (op : Nat) (ok : BitVec 64 → Bool) (f : Thread → Word → Word → Thread × Word) (s : State) : Out :=
  issueOp p op ok (fun w => goOn p fun t => let r := f t (t.gr (fA w)) (imm32 w); r.1.setG (fD w) r.2) s

/-- MOVI. -/
def execMovi (p : ThreadId) (s : State) : Out :=
  issueOp p 0x1A (okI isG none') (fun w => goOn p fun t => t.setG (fD w) (imm32 w)) s
/-- ADDI. -/
def execAddi (p : ThreadId) (s : State) : Out := aluI p 0x1B (okI isG isG) (fun t a b => (t.flagsAdd a b, a + b)) s
/-- ANDI. -/
def execAndi (p : ThreadId) (s : State) : Out :=
  aluI p 0x1C (okI isG isG) (fun t a b => (t.flagsG (a &&& b) false false, a &&& b)) s
/-- CMPI. -/
def execCmpi (p : ThreadId) (s : State) : Out :=
  issueOp p 0x1D (okI none' isG) (fun w => goOn p fun t => t.flagsSub (t.gr (fA w)) (imm32 w)) s
/-- SHLI. -/
def execShli (p : ThreadId) (s : State) : Out :=
  aluI p 0x1E (fun w => isG (fD w) && isG (fA w) && zero w 5 43) (fun t a b => shl t a (b.toNat % 32)) s
/-- SHRI. -/
def execShri (p : ThreadId) (s : State) : Out :=
  aluI p 0x1F (fun w => isG (fD w) && isG (fA w) && zero w 5 43) (fun t a b => shr t a (b.toNat % 32)) s

/-! ### Time (R98) -/

/-- TMOV. -/
def execTmov (p : ThreadId) (s : State) : Out :=
  issueOp p 0x20 (okR isT isT none') (fun w => goOn p fun t => t.setT (fD w) (t.tr (fA w))) s

/-- TADD. -/
def execTadd (p : ThreadId) (s : State) : Out :=
  issueOp p 0x21 (okR isT isT isT)
    (fun w => goOn p fun t =>
      let a := t.tr (fA w)
      let b := t.tr (fB w)
      (t.flagsT (a + b) (2 ^ 80 ≤ a.toNat + b.toNat)).setT (fD w) (a + b)) s

/-- TSUB. -/
def execTsub (p : ThreadId) (s : State) : Out :=
  issueOp p 0x22 (okR isT isT isT)
    (fun w => goOn p fun t =>
      let a := t.tr (fA w)
      let b := t.tr (fB w)
      (t.flagsT (a - b) (a.toNat < b.toNat)).setT (fD w) (a - b)) s

/-- TADDI. -/
def execTaddi (p : ThreadId) (s : State) : Out :=
  issueOp p 0x23 (fun w => isT (fD w) && isT (fA w))
    (fun w => goOn p fun t => t.setT (fD w) (dtAddI (t.tr (fA w)) (signed 48 (iField w 0 48)))) s

/-- The scale SC names; 0b11 is ILLEGAL (R91). -/
def scaleOf (sc : Nat) : Nat := if sc = 0 then 1 else if sc = 1 then 4096 else 4096000

/-- TADDG. -/
def execTaddg (p : ThreadId) (s : State) : Out :=
  issueOp p 0x24 (fun w => isT (fD w) && isT (fA w) && isG (fB w) && fSC w != 3 && zero w 0 42)
    (fun w => goOn p fun t => t.setT (fD w) (dtAdd (t.tr (fA w)) ((t.gr (fB w)).toNat * scaleOf (fSC w)))) s

/-- TMAC. -/
def execTmac (p : ThreadId) (s : State) : Out :=
  issueOp p 0x25 (fun w => isT (fD w) && isT (fA w) && isG (fB w) && zero w 32 12)
    (fun w => twoSlots p (goOn p fun t =>
      t.setT (fD w) (dtAdd (t.tr (fA w)) ((t.gr (fB w)).toNat * iField w 0 32)))) s

/-- TCMP. -/
def execTcmp (p : ThreadId) (s : State) : Out :=
  issueOp p 0x26 (okR none' isT isT)
    (fun w => goOn p fun t =>
      t.flagsT (t.tr (fA w) - t.tr (fB w)) ((t.tr (fA w)).toNat < (t.tr (fB w)).toNat)) s

/-- TDIFF. -/
def execTdiff (p : ThreadId) (s : State) : Out :=
  issueOp p 0x27 (fun w => isG (fD w) && isT (fA w) && isT (fB w) && fSC w != 3 && zero w 0 42)
    (fun w => twoSlots p (goOn p fun t =>
      let a := (t.tr (fA w)).toNat
      let b := (t.tr (fB w)).toNat
      let q := (a - b) / scaleOf (fSC w)
      let r := word (if a < b then 0 else min q (2 ^ 32 - 1))
      (t.flags (r == 0) false (a < b) (b ≤ a && 2 ^ 32 ≤ q)).setG (fD w) r)) s

/-- TLDL. -/
def execTldl (p : ThreadId) (s : State) : Out :=
  issueOp p 0x28 (fun w => isT (fD w) && none' (fA w))
    (fun w => goOn p fun t => t.setT (fD w) (BitVec.ofNat 80 (iField w 0 48))) s

/-- TLDH. -/
def execTldh (p : ThreadId) (s : State) : Out :=
  issueOp p 0x29 (okI isT none')
    (fun w => goOn p fun t => t.setT (fD w)
      (BitVec.ofNat 80 ((t.tr (fD w)).toNat % 2 ^ 48 + iField w 0 32 * 2 ^ 48))) s

/-- TGET. -/
def execTget (p : ThreadId) (s : State) : Out :=
  issueOp p 0x2A (fun w => isG (fD w) && isT (fA w) && zero w 2 46 && iField w 0 2 != 3)
    (fun w => goOn p fun t => t.setG (fD w) (dtWord (t.tr (fA w)) (iField w 0 2))) s

/-- Bits [31:0], [63:32] or [79:64] of a DT replaced. -/
def putPart (d : DT) (k : Nat) (x : Word) : DT :=
  dt3 (if k = 0 then x else dtWord d 0) (if k = 1 then x else dtWord d 1) (if k = 2 then x else dtWord d 2)

/-- TPUT. -/
def execTput (p : ThreadId) (s : State) : Out :=
  issueOp p 0x2B (fun w => isT (fD w) && isG (fA w) && zero w 2 46 && iField w 0 2 != 3)
    (fun w => goOn p fun t => t.setT (fD w) (putPart (t.tr (fD w)) (iField w 0 2) (t.gr (fA w)))) s

/-- NOW: the DT of the issuing slot (R123). -/
def execNow (p : ThreadId) (s : State) : Out :=
  issueOp p 0x2C (okR isT none' none') (fun w s => goOn p (fun t => t.setT (fD w) (slotDt s.slot)) s) s

/-! ### Tables (R99) and facts (R100) -/

/-- The address of LDD and TLD. -/
def tableAddr (t : Thread) (w : BitVec 64) : Nat :=
  iField w 0 14 + (if iField w 47 1 = 1 then (t.gr (fA w)).toNat else 0)

/-- A is a G register with X = 1 and unused otherwise. -/
def okX (w : BitVec 64) : Bool := if iField w 47 1 = 1 then isG (fA w) else none' (fA w)

/-- LDD. -/
def execLdd (p : ThreadId) (s : State) : Out :=
  issueOp p 0x2D (fun w => isG (fD w) && okX w && zero w 14 32)
    (fun w s =>
      let a := tableAddr (s.thread p) w
      if 16383 < a then fault p 2 s
      else twoSlots p (goOn p fun t => t.setG (fD w) (word (iField (s.code p a) (32 * iField w 46 1) 32))) s) s

/-- TLD. -/
def execTld (p : ThreadId) (s : State) : Out :=
  issueOp p 0x2E (fun w => isT (fD w) && okX w && zero w 14 33)
    (fun w s =>
      let a := tableAddr (s.thread p) w
      if 16383 < a + 1 then fault p 2 s
      else twoSlots p (goOn p fun t => t.setT (fD w)
        (BitVec.ofNat 80 ((s.code p a).toNat + iField (s.code p (a + 1)) 0 16 * 2 ^ 64))) s) s

/-- HB_COMMIT_STATUS (01). -/
def State.commitStatus (s : State) : Word :=
  let c := s.commit
  word (c.state.toNat + b1 c.src * 4 + c.thread.toNat * 8 + c.cause.toNat * 128 + c.island.toNat * 2048 +
    c.pos.toNat * 2 ^ 19 + b1 c.side * 2 ^ 23)

/-- What INFO puts in Gd (R100). -/
def infoOf (s : State) (p : ThreadId) (sel ga : Nat) : Word :=
  let t := s.thread p
  match sel with
  | 0 => word p.val
  | 1 => word s.stoker.pos.toNat
  | 2 => word (b1 s.pair.side)
  | 3 => s.commit.gen
  | 4 => s.commitStatus
  | 5 => word t.mbox.length
  | 6 => word (64 - s.pacer.used.get (Fin.ofNat 64 ga))
  | 7 => word t.lastSrc.toNat
  | _ => word (b1 s.noon.epoch)

/-- INFO. At 16 383 with a spoke out of range it reports RANGE and not ADDR (DESIGN CHOICE: log entry 99). -/
def execInfo (p : ThreadId) (s : State) : Out :=
  issueOp p 0x2F
    (fun w => isG (fD w) && zero w 4 44 && iField w 0 4 ≤ 8 && (if iField w 0 4 = 6 then isG (fA w) else none' (fA w)))
    (fun w s =>
      let ga := ((s.thread p).gr (fA w)).toNat
      if iField w 0 4 = 6 ∧ 63 < ga then fault p 4 s
      else goOn p (fun t => t.setG (fD w) (infoOf s p (iField w 0 4) ga)) s) s

/-! ### Waits (R111, R134 to R138) -/

/-- An instruction goes into WAIT; IP stays at it (R125). -/
def waitFor (p : ThreadId) (on : WaitOn) (s : State) : State :=
  s.modThread p fun t => { t with state := .wait, waitOn := on, nextSlot := s.slot + 16 }

/-- A waiting instruction may start only where it can end: at 16 383 it faults at once (R94). -/
def startWait (p : ThreadId) (f : State → State) (s : State) : State :=
  if (s.thread p).ip = 0x3FFF then fault p 2 s else f s

/-- DT has reached a time, by the DT of the slot (R123, R134). -/
def State.reached (s : State) (d : DT) : Bool := dtLe d (slotDt s.slot)

/-- WAITT. -/
def execWaitt (p : ThreadId) (s : State) : Out :=
  issueOp p 0x60 (fun w => isT (fD w) && zero w 0 52)
    (fun w => startWait p fun s =>
      let ta := (s.thread p).tr (fD w)
      if s.reached ta then complete p Thread.step s else waitFor p (.time ta) s) s

/-- The deadline of a format W instruction: TA with DL = 1. -/
def deadline (t : Thread) (w : BitVec 64) : Option DT := if iField w 43 1 = 1 then some (t.tr (fD w)) else none

/-- TA is a T register with DL = 1 and 0 otherwise. -/
def okDl (w : BitVec 64) : Bool := if iField w 43 1 = 1 then isT (fD w) else none' (fD w)

/-- An event's DT and cause go where a WAITE with RD = 1 wants them (R111). -/
def Thread.takeEvent (t : Thread) (dst : Option (Fin 8 × Fin 8)) (m : DT × Word) : Thread :=
  match dst with
  | some (td, ge) => (t.setT td.val m.1).setG ge.val m.2
  | none => t

/-- A WAITE's release: the pending bit clears, F is 0, and Td and Ge take the DT and cause held (R136). -/
def releaseEvent (p : ThreadId) (e : EventId) (dst : Option (Fin 8 × Fin 8)) (s : State) : State :=
  let m := s.pacer.evMem.get e
  complete p (fun t =>
    ({ t with pend := t.pend &&& ~~~(1#256 <<< e.val), f := false, cleared := some (e, s.slot, dst) }.takeEvent dst m).step) s

/-- A wait ends at its deadline with F set. -/
def expire (p : ThreadId) (s : State) : State := complete p (fun t => { t with f := true }.step) s

/-- WAITE. -/
def execWaite (p : ThreadId) (s : State) : Out :=
  issueOp p 0x61
    (fun w => okDl w && zero w 8 34 &&
      (if iField w 42 1 = 1 then isT (fA w) && isG (fB w) else none' (fA w) && none' (fB w)))
    (fun w => startWait p fun s =>
      let t := s.thread p
      let e : EventId := Fin.ofNat 256 (iField w 0 8)
      let dst := if iField w 42 1 = 1 then some (Fin.ofNat 8 (fA w), Fin.ofNat 8 (fB w)) else none
      let dl := deadline t w
      if t.pend.getLsbD e.val then releaseEvent p e dst s
      else if dl.any s.reached then expire p s
      else waitFor p (.event e dl dst) s) s

/-- RECV takes the oldest mailbox entry (R111). -/
def takeMail (p : ThreadId) (td ge : Fin 8) (s : State) : State :=
  match (s.thread p).mbox with
  | m :: rest => complete p (fun t =>
      ((({ t with mbox := rest, lastSrc := m.src, f := false }).setT td.val m.dt).setG ge.val m.word).step) s
  | [] => s

/-- RECV. -/
def execRecv (p : ThreadId) (s : State) : Out :=
  issueOp p 0x62 (fun w => okDl w && isT (fA w) && isG (fB w) && zero w 0 43)
    (fun w => startWait p fun s =>
      let t := s.thread p
      let td : Fin 8 := Fin.ofNat 8 (fA w)
      let ge : Fin 8 := Fin.ofNat 8 (fB w)
      let dl := deadline t w
      if !t.mbox.isEmpty then takeMail p td ge s
      else if dl.any s.reached then expire p s
      else waitFor p (.recv dl td ge) s) s

/-- SPOKE of format E: S0 to S63 directly, or G0 to G7 (R91). -/
def okSpoke (w : BitVec 64) : Bool := iField w 40 8 < 0x40 || (0x80 ≤ iField w 40 8 && iField w 40 8 ≤ 0x87)

/-- The spoke a format E instruction names; above 63 it is out of range (R102). -/
def spokeOf (t : Thread) (w : BitVec 64) : Nat :=
  if iField w 40 8 < 0x40 then iField w 40 8 else (t.gr (iField w 40 8 - 0x80)).toNat

/-- Free places in a spoke's queue as Pacer counts them (R108). -/
def State.freePlaces (s : State) (i : SpokeId) : Nat := 64 - s.pacer.used.get i

/-- WAITQ. -/
def execWaitq (p : ThreadId) (s : State) : Out :=
  issueOp p 0x45
    (fun w => okSpoke w && none' (fA w) && zero w 7 32 && 1 ≤ iField w 0 7 && iField w 0 7 ≤ 64 &&
      (if iField w 39 1 = 1 then isT (fD w) else none' (fD w)))
    (fun w s =>
      let t := s.thread p
      if 63 < spokeOf t w then fault p 4 s
      else startWait p (fun s =>
        let i : SpokeId := Fin.ofNat 64 (spokeOf t w)
        let dl := if iField w 39 1 = 1 then some (t.tr (fD w)) else none
        if iField w 0 7 ≤ s.freePlaces i then complete p (fun t => { t with f := false }.step) s
        else if dl.any s.reached then expire p s
        else waitFor p (.queue i (iField w 0 7) dl) s) s) s

/-- What KTAKE finds for a thread on an axis: its oldest target, taken off the list when it has ended (R110, R185). -/
def takeTarget (p : ThreadId) (a : AxisId) (td : Fin 8) (s : State) : Option State :=
  match (s.axis a).tgts.find? fun g => g.thread == p with
  | none => some (complete p (fun t => { t with f := true, z := true }.step) s)
  | some g =>
    let s1 := s.modAxis a fun x => { x with tgts := x.tgts.erase g }
    match g.st with
    | .time d => some (complete p (fun t => ({ t with f := false }.setT td.val d).step) s1)
    | .noTime => some (complete p (fun t => { t with f := true, z := false }.step) s1)
    | _ => none

/-- KTAKE. -/
def execKtake (p : ThreadId) (s : State) : Out :=
  issueOp p 0x55 (fun w => isT (fD w) && zero w 43 9 && zero w 0 40)
    (fun w => startWait p fun s =>
      let a : AxisId := Fin.ofNat 8 (iField w 40 3)
      let td : Fin 8 := Fin.ofNat 8 (fD w)
      match takeTarget p a td s with
      | some s1 => s1
      | none => waitFor p (.take a td) s) s

/-- WAITT_EXPIRY (R134). -/
def execWaittExpiry (p : ThreadId) (s : State) : Out :=
  .next <| if s.mayUse p .wait then
    match (s.thread p).waitOn with
    | .time ta => if s.reached ta then complete p Thread.step s else s
    | _ => s
  else s

/-- WAIT_DEADLINE_EXPIRY (R134, R136, R138): an arrival in the same cycle wins. -/
def execWaitDeadlineExpiry (p : ThreadId) (s : State) : Out :=
  .next <| if s.mayUse p .wait then
    let t := s.thread p
    match t.waitOn with
    | .event e (some d) _ => if s.reached d && !t.pend.getLsbD e.val then expire p s else s
    | .recv (some d) _ _ => if s.reached d && t.mbox.isEmpty then expire p s else s
    | .queue i n (some d) => if s.reached d && s.freePlaces i < n then expire p s else s
    | _ => s
  else s

/-- WAITE_RELEASE (R136). -/
def execWaiteRelease (p : ThreadId) (s : State) : Out :=
  .next <| if s.mayUse p .wait then
    let t := s.thread p
    match t.waitOn with
    | .event e _ dst => if t.pend.getLsbD e.val then releaseEvent p e dst s else s
    | _ => s
  else s

/-- RECV_RELEASE (R138). -/
def execRecvRelease (p : ThreadId) (s : State) : Out :=
  .next <| if s.mayUse p .wait then
    match (s.thread p).waitOn with
    | .recv _ td ge => takeMail p td ge s
    | _ => s
  else s

/-- KTAKE_RELEASE (R138). -/
def execKtakeRelease (p : ThreadId) (s : State) : Out :=
  .next <| if s.mayUse p .wait then
    match (s.thread p).waitOn with
    | .take a td => (takeTarget p a td s).getD s
    | _ => s
  else s

/-- WAITQ_RELEASE (R138). -/
def execWaitqRelease (p : ThreadId) (s : State) : Out :=
  .next <| if s.mayUse p .wait then
    match (s.thread p).waitOn with
    | .queue i n _ => if n ≤ s.freePlaces i then complete p (fun t => { t with f := false }.step) s else s
    | _ => s
  else s

/-- COMMIT_ANSWER (R115): the cause of a refusal at issue in Gr with F set, or 0 with F clear. -/
def execCommitAnswer (p : ThreadId) (s : State) : Out :=
  .next <| if s.mayUse p .wait then
    match (s.thread p).waitOn with
    | .commit gr (some c) => complete p (fun t => ({ t with f := c != 0 }.setG gr.val (word c.toNat)).step) s
    | _ => s
  else s

/-- RAISE (R114). -/
def execRaise (p : ThreadId) (s : State) : Out :=
  issueOp p 0x69 (fun w => zero w 24 32 && zero w 20 4 && zero w 0 16)
    (fun w s =>
      if (s.thread p).ip = 0x3FFF then fault p 2 s
      else raise (128 + 2 * p.val) (0x10 + iField w 16 4) 0 0 (slotDt s.slot) (goOn p id s)) s

/-! ### Arrivals at Pacer -/

/-- An occurrence reaches one thread: its pending bit is set, unless the thread cleared it in this very cycle: that
WAITE then takes the occurrence (R135, R136). -/
def Thread.arrive (t : Thread) (e : EventId) (k : Nat) (m : DT × Word) : Thread :=
  match t.cleared with
  | some (e', k', dst) =>
    if e' = e ∧ k' = k then t.takeEvent dst m else { t with pend := t.pend ||| (1#256 <<< e.val) }
  | none => { t with pend := t.pend ||| (1#256 <<< e.val) }

/-- The latest occurrence of a source that has WAKE reaches Pacer: its DT and cause are kept and its bit is set in all
sixteen threads (R135). Those without WAKE go no further (R369). -/
def arrive (e : EventId) (s : State) : State :=
  let s1 := { s with pacer := { s.pacer with latch := s.pacer.latch.set e.val [] e.isLt } }
  match ((s.pacer.latch.get e).filter fun m => s.wakes e m.1).getLast? with
  | some m => { s1 with pacer := { s1.pacer with
      evMem := s1.pacer.evMem.set e.val m e.isLt
      th := s1.pacer.th.map fun t => t.arrive e s.slot m } }
  | none => s1

/-- PACER_EVENT_ARRIVAL (R135). -/
def execPacerEventArrival (e : EventId) (s : State) : Out := .next (if s.clocked then arrive e s else s)

/-- PLACE_FREED (R108): Pacer learns that a place is free. -/
def execPlaceFreed (i : SpokeId) (s : State) : Out :=
  .next <| if s.clocked && (s.spoke i).freed != 0 then
    let s1 := s.modSpoke i fun sp => { sp with freed := sp.freed - 1 }
    { s1 with pacer := { s1.pacer with used := s1.pacer.used.set i.val (s1.pacer.used.get i - 1) i.isLt } }
  else s

/-- A mailbox entry placed, or dropped with MBOXFULL where the mailbox is full (R112). The answer says which. MBOXFULL
carries the dropped entry's own DT (DESIGN CHOICE: R112 gives the occurrence no DT; log entry 99). -/
def placeMail (p : ThreadId) (m : MailEnt) (s : State) : State × Bool :=
  let t := s.thread p
  if t.mbox.length < 8 then (s.setThread p { t with mbox := t.mbox ++ [m] }, true)
  else (raise (128 + 2 * p.val) 2 0 0 m.dt (s.setThread p { t with mboxDrops := t.mboxDrops + 1 }), false)

/-- An entry that arrives at least 100 ns before its DT (R139). -/
def State.inTime (s : State) (d : DT) : Bool := dtLe (dtAdd (s.replica islPacer) 409600) d

/-- The entries of one path that stand in its channel to Pacer: the first four of those on their way (R44, R46). -/
def State.mailChan (s : State) (v : MailVia) : List MailIn := (s.pacer.mail.filter fun m => m.via == v).take 4

/-- Where a late entry is raised: the source of the port, ring or lane it came through (R20, R139). -/
def lateAt (v : MailVia) (d : DT) (s : State) : State :=
  match v with
  | .thread => s
  | .port c => raise (184 + 3 * c.val) 1 0 0 d s
  | .ring => raise 240 1 0 0 d s
  | .pair => raise 241 4 0 0 d s

/-- MAILBOX_ENTRY (R139): the oldest entry on its way to the thread arrives. -/
def execMailboxEntry (p : ThreadId) (s : State) : Out :=
  .next <| if !s.clocked then s else
    match s.pacer.mail.find? fun m => m.dest == p && (s.mailChan m.via).contains m with
    | some m =>
      let s1 := { s with pacer := { s.pacer with mail := s.pacer.mail.erase m } }
      if m.via == .thread || s.inTime m.ent.dt then (placeMail p m.ent s1).1 else lateAt m.via m.ent.dt s1
    | none => s

/-! ### Thread control (R126, R127) -/

/-- An action taken on arrival becomes the pending one; one that was pending is replaced with CREPL (R127). -/
def takeAction (p : ThreadId) (a : CtlAct) (s : State) : State :=
  let t := s.thread p
  let s1 := s.setThread p { t with
    act := some a, cmdState := 1, cmdCause := if t.act.isSome then 3 else 0 }
  if t.act.isSome then raiseNow (128 + 2 * p.val) 12 0 0 s1 else s1

/-- An action refused on arrival with LEAD; an earlier one stays pending, no longer the latest (R127). -/
def refuseAction (p : ThreadId) (s : State) : State :=
  s.modThread p fun t => { t with
    cmdState := 3, cmdCause := 1, act := t.act.map fun a => { a with latest := false } }

/-- A register-issued action enters its channel: LEAD is 1 us from its arrival at Handlebar (R127). -/
def issueAction (p : ThreadId) (op : CtlOp) (d : DT) (s : State) : State :=
  if dtLe (dtAdd (s.replica islHandlebar) 4096000) d then takeAction p ⟨op, d, 0, false, false, 0, true⟩ s
  else refuseAction p s

/-- A register-issued action. A gated Pacer takes nothing: the action stays with Handlebar, and its lead is tested as it
enters the channel (R46, R48). -/
def regAction (p : ThreadId) (op : CtlOp) (s : State) : State :=
  let d := dtAt s.imm (thBase p + 0xC)
  if s.clocked then issueAction p op d s
  else { s with pacer := { s.pacer with ctlIn := s.pacer.ctlIn ++ [(p, op, d)] } }

/-- Pacer's clock returns: the actions that Handlebar held enter their channel (R46, R48). -/
def drainActions (s : State) : State :=
  s.pacer.ctlIn.foldl (fun s a => issueAction a.1 a.2.1 a.2.2 s) { s with pacer := { s.pacer with ctlIn := [] } }

/-- TH_START. -/
def execThStart (p : ThreadId) (s : State) : Out := .next (byHost s fun s => regAction p .start s)
/-- TH_STOP. -/
def execThStop (p : ThreadId) (s : State) : Out := .next (byHost s fun s => regAction p .stop s)
/-- TH_RESUME. -/
def execThResume (p : ThreadId) (s : State) : Out := .next (byHost s fun s => regAction p .resume s)

/-- The action found a state R126 does not allow: refused with STATE, and CSTATE for a ring action. -/
def refuseState (p : ThreadId) (a : CtlAct) (s : State) : State :=
  let s1 := s.modThread p fun t =>
    { t with act := none, cmdState := if a.latest then 3 else t.cmdState, cmdCause := if a.latest then 2 else t.cmdCause }
  if a.ring then raise (128 + 2 * p.val) 10 0 0 (slotDt s.slot) s1 else s1

/-- The action has taken effect: done, and CDONE where a ring entry asked for it (R141). -/
def actionDone (p : ThreadId) (a : CtlAct) (s : State) : State :=
  let s1 := s.modThread p fun t =>
    { t with act := none, cmdState := if a.latest then 2 else t.cmdState, cmdCause := if a.latest then 0 else t.cmdCause }
  if a.ring && a.notify then raise (128 + 2 * p.val) 11 0 a.seq.toNat (slotDt s.slot) s1 else s1

/-- A started thread's state (R126). -/
def Thread.started (t : Thread) (entry : BitVec 14) (d : DT) (k : Nat) : Thread :=
  { t with
    ip := entry, g := Vector.replicate 8 0, t := (Vector.replicate 8 0).set 0 d, z := false, n := false, c := false,
    v := false, f := false, stack := [], mbox := [], pend := 0, state := .run, waitOn := .none, nextSlot := k, oldBank := false,
    faultCause := 0, faultIp := 0, faultDt := 0 }

/-- A start frees every target place the thread holds on any axis (R185). -/
def freeTargets (p : ThreadId) (s : State) : State :=
  { s with crank := { s.crank with
    axes := s.crank.axes.map fun x => { x with tgts := x.tgts.filter fun g => g.thread != p } } }

/-- THREAD_ACTION_DUE (R126): the thread's first slot that begins at or after the action's DT. -/
def execThreadActionDue (p : ThreadId) (s : State) : Out :=
  .next <|
    let t := s.thread p
    if s.ownSlot p && t.actDue s.slot then
      match t.act with
      | none => s
      | some a =>
        match a.op with
        | .stop => actionDone p a (s.setThread p { t with state := .stopped, waitOn := .none, oldBank := false })
        | .start =>
          if t.state == .stopped || t.state == .halted || t.state == .faulted then
            let entry := if a.ring then a.entry else BitVec.ofNat 14 (fld (s.immAt (thBase p + 4)) 0 14)
            actionDone p a (freeTargets p (s.setThread p (t.started entry a.dt s.slot)))
          else refuseState p a s
        | .resume =>
          if t.state == .halted then
            if t.ip = 0x3FFF then fault p 2 (actionDone p a s)
            else actionDone p a (s.setThread p { t.step with state := .run, nextSlot := s.slot })
          else if t.state == .faulted then
            actionDone p a (s.setThread p { t with state := .run, nextSlot := s.slot })
          else refuseState p a s
    else s

/-! ### Command rings (R140, R141) -/

/-- An entry's reserved fields are 0, by its CMD (R141). -/
def cmdValid (b : Octets) : Bool :=
  let cmd := leAt b 0 1
  cmd ≤ 4 && leAt b 1 1 ≤ 1 && leAt b 0x12 14 == 0 &&
  (match cmd with
    | 1 => true
    | 2 => leAt b 4 4 < 2 ^ 14
    | 0 => leAt b 4 4 == 0 && leAt b 8 10 == 0
    | _ => leAt b 4 4 == 0)

/-- CBAD: an invalid entry is discarded. The entry's DT goes with it. -/
def cbad (p : ThreadId) (b : Octets) (s : State) : State :=
  raise (128 + 2 * p.val) 9 0 0 (BitVec.ofNat 80 (leAt b 8 10)) s

/-- CLATE: an entry too late to act (R142); PC_TH_LATE counts it. -/
def clate (p : ThreadId) (b : Octets) (s : State) : State :=
  raise (128 + 2 * p.val) 8 0 0 (BitVec.ofNat 80 (leAt b 8 10)) (s.modThread p fun t => { t with late := t.late + 1 })

/-- CDONE with the entry's SEQ (R140). -/
def cdone (p : ThreadId) (b : Octets) (s : State) : State :=
  if leAt b 1 1 % 2 = 1 then raise (128 + 2 * p.val) 11 0 (leAt b 2 2) (s.replica islPacer) s else s

/-- The entry at the head of the thread's ring is taken and handled; `cmd` says which CMD values are this command's. -/
def takeCmd (p : ThreadId) (mine : Nat → Bool) (f : Octets → State → State) (s : State) : Out :=
  .next <| match (s.thread p).cmdIn with
  | b :: rest =>
    if s.clocked && mine (leAt b 0 1) then
      let s1 := s.modThread p fun t => { t with cmdIn := rest, cmds := t.cmds + 1 }
      if cmdValid b then f b s1 else cbad p b s1
    else s
  | [] => s

/-- CMD_NOP, and the entries whose CMD is not in the table, which are CBAD (R141). -/
def execCmdNop (p : ThreadId) (s : State) : Out := takeCmd p (fun c => c == 0 || 5 ≤ c) (cdone p) s

/-- CMD_POST. -/
def execCmdPost (p : ThreadId) (s : State) : Out :=
  takeCmd p (· == 1) (fun b s =>
    let d : DT := BitVec.ofNat 80 (leAt b 8 10)
    if s.inTime d then
      let r := placeMail p ⟨d, word (leAt b 4 4), 0xFFFF⟩ s
      if r.2 then cdone p b r.1 else r.1
    else clate p b s) s

/-- A ring START, STOP or RESUME: LEAD is 1 us from arrival. -/
def ringAction (p : ThreadId) (op : CtlOp) (b : Octets) (s : State) : State :=
  let d : DT := BitVec.ofNat 80 (leAt b 8 10)
  if dtLe (dtAdd (s.replica islPacer) 4096000) d then
    takeAction p ⟨op, d, BitVec.ofNat 14 (leAt b 4 4), true, leAt b 1 1 % 2 == 1, BitVec.ofNat 16 (leAt b 2 2), true⟩ s
  else clate p b (refuseAction p s)

/-- CMD_START. -/
def execCmdStart (p : ThreadId) (s : State) : Out := takeCmd p (· == 2) (ringAction p .start) s
/-- CMD_STOP. -/
def execCmdStop (p : ThreadId) (s : State) : Out := takeCmd p (· == 3) (ringAction p .stop) s
/-- CMD_RESUME. -/
def execCmdResume (p : ThreadId) (s : State) : Out := takeCmd p (· == 4) (ringAction p .resume) s

/-! ### Banks (R128 to R131) -/

/-- BANK_CRC_GO (R131). -/
def execBankCrcGo (s : State) : Out :=
  .next <| byHost s fun s => { s with pacer := { s.pacer with crcBusy := true, crcDirty := false, crcValid := false } }

/-- BANK_CRC_DONE (R131). -/
def execBankCrcDone (s : State) : Out :=
  .next <| if s.clocked && s.pacer.crcBusy then
    let bad := s.pacer.crcDirty
    { s with pacer := { s.pacer with
      crcBusy := false, crcDirty := false, crcValid := !bad
      crc := if bad then 0 else crc32 (rdN memDflt s.mem (bankAddr (!s.pacer.bank) 0) 131072) } }
  else s

/-- OPs of two slots (R98, R99, R105); COMMIT spends its second one in WAIT. -/
def twoSlotOp (op : Nat) : Bool := op == 0x25 || op == 0x27 || op == 0x2D || op == 0x2E || op == 0x42

/-- The thread is between the two slots of an instruction: the first has begun before the slot running. -/
def State.midInstr (s : State) (p : ThreadId) : Bool :=
  (s.thread p).state == .run && (s.thread p).nextSlot < s.slot && twoSlotOp (iOp (s.instrAt p))

/-- A bank swap (R129), in the first slot that begins at or after DT_effect: the other bank becomes active; threads in
RUN, HOLD or WAIT with PC_TH_SWAP.EN go to its IP in RUN with an empty stack; another completes its instruction in
progress as the old bank had it. Under a swap already applied to Pacer's active copy. -/
def swapBank (s : State) : State :=
  forEach 16 (fun p s' =>
      let w := s.act (thBase p + 8)
      let st := (s.thread p).state
      if bit w 14 && (st == .run || st == .hold || st == .wait) then
        s'.modThread p fun t => { t with
          ip := BitVec.ofNat 14 (fld w 0 14), stack := [], state := .run, waitOn := .none, oldBank := false
          nextSlot := s.slot }
      else if s.midInstr p then s'.modThread p fun t => { t with oldBank := !t.oldBank }
      else s')
    { s with pacer := { s.pacer with
      bank := !s.pacer.bank, crcValid := false, crcBusy := false, crcDirty := false } }

end Sys2Proof.Machine
end

