-- ==== Sys2Proof/Machine/Chainring.lean ====
section
/-! DEFINITION. Chainring vector engines (R146 to R175). -/

namespace Sys2Proof.Machine

/-! ### Segment entries (R154, R155) -/

/-- The 64-bit entry of a segment in a configuration. -/
def segEntry (m : RegMap) (v : EngineId) (n : Nat) : Nat :=
  (regGet m (segKey v n false)).toNat + (regGet m (segKey v n true)).toNat * 2 ^ 32

def eBase (e : Nat) : Nat := fieldOf e 0 11
def eLen (e : Nat) : Nat := fieldOf e 12 15
def eStream (e : Nat) : Bool := e.testBit 27
def eNext (e : Nat) : Nat := fieldOf e 28 10
def eCount (e : Nat) : Nat := fieldOf e 38 16
def eEnd (e : Nat) : Bool := e.testBit 54
def eEvt (e : Nat) : Bool := e.testBit 55
/-- Vectors of the segment. -/
def eVecs (e : Nat) : Nat := 64 * eLen e

/-- The entry may be played (R155). -/
def eValid (e : Nat) : Bool :=
  e.testBit 56 && 4 ≤ eLen e && eLen e ≤ 16384 && !e.testBit 11 && fieldOf e 57 7 == 0 &&
  64 * (eBase e + eLen e) ≤ 131072

/-- An engine's active configuration. -/
def State.engRegs (s : State) (v : EngineId) : RegMap := (s.island (islEngine v)).active

/-- The active entry of a segment. -/
def State.entry (s : State) (v : EngineId) (n : Nat) : Nat := segEntry (s.engRegs v) v n

/-- The idle segment CR_IDLE names (R168). -/
def State.idleSeg (s : State) (v : EngineId) : Nat := fld (s.act (crBase v + 8)) 0 10

/-- The idle entry may be played: valid and not STREAM (R157, R168). -/
def State.idleOk (s : State) (v : EngineId) : Bool :=
  let e := s.entry v (s.idleSeg v)
  eValid e && !eStream e

/-- A period as it acts: 0 means 2^32 ft, 1 to 20 479 act as 20 480 (R163). -/
def periodOf (n : Nat) : Nat := if n = 0 then 2 ^ 32 else max n 20480

/-- The segment playing has its ready mark, or needs none. -/
def Engine.isReady (en : Engine) (n : Nat) : Bool := en.ready.contains n

/-- The ready mark of a segment cleared or set. -/
def Engine.unready (en : Engine) (n : Nat) : Engine := { en with ready := en.ready.filter (· != n) }
def Engine.setReady (en : Engine) (n : Nat) : Engine := { en with ready := n :: en.ready.filter (· != n) }

def evEng (v : EngineId) (k : Nat) : Nat := 160 + 4 * v.val + k

/-! ### Active regions (R156) -/

/-- The segments whose regions are active in an engine: the one playing and the one fixed. -/
def Engine.activeSegs (en : Engine) : List Nat :=
  if en.state == .stopped then []
  else en.seg.toNat :: match en.fixed with
    | some (.seg n _ _) => [n.toNat]
    | some (.idle n _) => [n.toNat]
    | _ => []

/-- A vector lies in an active region of an engine. -/
def State.inActive (s : State) (v : EngineId) (n : Nat) : Bool :=
  (s.engine v).activeSegs.any fun g =>
    let e := s.entry v g
    64 * eBase e ≤ n && n < 64 * (eBase e + eLen e)

/-- A vector lies in an active region of some engine. -/
def State.anyActive (s : State) (n : Nat) : Bool := (List.finRange 4).any fun v => s.inActive v n

/-- The discarded vectors of one write access or fill, by engine: counted in each engine whose region holds them, and
SEGWR raised once for each engine concerned. -/
def segWr (lost : List Nat) (s : State) : State :=
  forEach 4 (fun v s =>
    let n := lost.getD v.val 0
    if n = 0 then s
    else raise (evEng v 3) 1 0 0 s.dt (s.modEngine v fun en => { en with segwr := en.segwr + word n })) s

/-- The vectors of a write with at least one enabled octet. -/
def touched (addr : Nat) : List (Option Byte) → List Nat
  | [] => []
  | b :: bs =>
    let r := touched (addr + 1) bs
    if b.isSome && !r.contains (addr / 64) then addr / 64 :: r else r

/-- The octets of a write that may act, those in active regions masked out. -/
def allowed (s : State) (addr : Nat) : List (Option Byte) → List (Option Byte)
  | [] => []
  | b :: bs => (if b.isSome && s.anyActive (addr / 64) then none else b) :: allowed s (addr + 1) bs

/-- A write access to vector memory. -/
def writeVectors (addr : Nat) (data : List (Option Byte)) (s : State) : State :=
  segWr ((List.finRange 4).map fun v => ((touched addr data).filter (s.inActive v)).length)
    { s with mem := wrEn memDflt s.mem addr (allowed s addr data) }

/-- VECTOR_MEMORY_WRITE (R156). -/
def execVectorMemoryWrite (addr : BitVec 23) (data : List (Option Byte)) (s : State) : Out :=
  .next (byHost s fun s => writeVectors addr.toNat data s)

/-! ### Fills and the regions they meet (R166) -/

/-- The first of `n` vectors from `first` on that lies in an active region. -/
def State.firstActive (s : State) (first : Nat) : Nat → Option Nat
  | 0 => none
  | n + 1 => if s.anyActive first then some first else s.firstActive (first + 1) n

/-- A fill goes on to `upto` copied vectors under the regions active now: at the first that lies in one it discards the
rest. -/
def Fill.advance (s : State) (f : Fill) (upto : Nat) : Fill :=
  match f.met with
  | some _ => f
  | none => { f with
      copied := max f.copied upto
      met := (s.firstActive (f.first + f.copied) (upto - f.copied)).map fun x =>
        (x, (List.finRange 4).map fun v =>
          ((List.range (f.first + f.vecs - x)).filter fun k => s.inActive v (x + k)).length) }

/-- The active regions are about to change: every fill in progress has come as far as it has, under those active until
now. How far is left open by the spec. -/
def syncFills (s : State) : State :=
  (List.finRange 4).foldl (fun s' v => match (s.engine v).fill with
    | some f => s'.modEngine v fun en => { en with fill := some (f.advance s (min f.vecs (Config.fillCopied v.val s.clock))) }
    | none => s') s

/-! ### Starting, stopping and rate -/

/-- The engine stops: the coming segment, the jump and open CE windows go; drivers keep their state (R161). -/
def stopEngine (v : EngineId) (cause : Nat) (s : State) : State :=
  let s := syncFills s
  let x := s.island (islEngine v)
  let gaps := forEach 64 (fun i s => if s.owner i == some v then startGap i s else s) s
  (gaps.setIsland (islEngine v) { x with retiring := none }).modEngine v fun en =>
    { en with
      state := .stopped, fixed := none, want := none, lastPlay := false, starving := false, jump := none
      cause := BitVec.ofNat 4 cause, rateDue := false, strobes := en.strobes.filter fun st => st.expect.isSome }

/-- A play of a segment starts at `t`: SEG where its entry has EVT. -/
def startPlay (v : EngineId) (n : Nat) (idle : Bool) (t : DT) (s : State) : State :=
  let s := syncFills s
  let s1 := s.modEngine v fun en =>
    { en with
      state := if idle then .idle else .play, seg := BitVec.ofNat 10 n, pos := 0, fixed := none, lastPlay := false
      playNo := en.playNo + 1 }
  if eEvt (s.entry v n) then raise (evEng v 0) 15 0 0 t s1 else s1

/-- A message's DT_effect and the thread that issued it. -/
def EngMsg.key : EngMsg → DT × ThreadId
  | .start _ ta p => (ta, p)
  | .rate _ ta p => (ta, p)
  | .stop ta p => (ta, p)

/-- One message goes before another: the earlier DT, and at one DT the lower thread (R21). -/
def EngMsg.before (a b : EngMsg) : Bool :=
  a.key.1.toNat < b.key.1.toNat || (a.key.1 == b.key.1 && a.key.2.val < b.key.2.val)

/-- The message that goes first of those that meet a test; equals stand in the order they were issued (R21). -/
def firstMsg (l : List EngMsg) (f : EngMsg → Bool) : Option EngMsg :=
  l.foldl (fun best m =>
    if f m then (match best with
      | some b => if m.before b then some m else best
      | none => some m)
    else best) none

def EngMsg.isStart : EngMsg → Bool
  | .start _ _ _ => true
  | _ => false
def EngMsg.isRate : EngMsg → Bool
  | .rate _ _ _ => true
  | _ => false
def EngMsg.isStop : EngMsg → Bool
  | .stop _ _ => true
  | _ => false

/-- The first message of a kind whose DT is at or before `by_`. -/
def dueMsg (l : List EngMsg) (f : EngMsg → Bool) (by_ : DT) : Option EngMsg :=
  firstMsg l fun m => f m && dtLe m.key.1 by_

def dropMsg (v : EngineId) (m : EngMsg) (s : State) : State :=
  s.modEngine v fun en => { en with msgs := en.msgs.erase m }

/-- A running engine's next vector start has come, and no swap stands before it (R162). -/
def State.vecDue (s : State) (v : EngineId) : Bool :=
  let en := s.engine v
  s.clocked && en.state != .stopped && dtLe en.nextVec s.dt && !s.swapBefore (islEngine v) en.nextVec

/-- Vectors of the segment playing. -/
def State.playLen (s : State) (v : EngineId) : Nat := eVecs (s.entry v (s.engine v).seg.toNat)

/-- A stop falls due at the coming vector start (R161, R162). -/
def State.stopDue (s : State) (v : EngineId) : Bool := (dueMsg (s.engine v).msgs EngMsg.isStop (s.engine v).nextVec).isSome

/-- The coming vector start is where END stops the engine (R159, R162). -/
def State.endDue (s : State) (v : EngineId) : Bool :=
  (s.engine v).fixed == some .stopEnd && s.playLen v ≤ (s.engine v).pos

/-- A rate change falls due at the coming vector start: END there discards it (R162). -/
def State.rateIsDue (s : State) (v : EngineId) : Bool :=
  (dueMsg (s.engine v).msgs EngMsg.isRate (s.engine v).nextVec).isSome && !s.endDue v

/-- The message a STOPPED engine takes now: the first that has come to its DT, once any swap before it is done. -/
def State.idleMsg (s : State) (v : EngineId) : Option EngMsg :=
  if s.clocked && (s.engine v).state == .stopped then
    (firstMsg (s.engine v).msgs fun m => dtLe m.key.1 s.dt).filter fun m => !s.swapBefore (islEngine v) m.key.1
  else none

/-- The VSTART a running engine refuses now: its DT lies before the next vector start, or at it and neither END nor a stop
that goes before it falls due there (R21, R157, R162). -/
def State.runningStart (s : State) (v : EngineId) : Option EngMsg :=
  let en := s.engine v
  if s.clocked && en.state != .stopped then
    (dueMsg en.msgs EngMsg.isStart s.dt).filter fun m =>
      !s.swapBefore (islEngine v) m.key.1 &&
      (!dtLe en.nextVec m.key.1 || (en.nextVec == m.key.1 && !s.endDue v &&
        !((dueMsg en.msgs EngMsg.isStop en.nextVec).any fun x => x.key.2.val ≤ m.key.2.val)))
  else none

/-- A message of the engine has come to its DT and waits to be taken (R21). -/
def State.engineDue (s : State) (v : EngineId) : Bool :=
  let en := s.engine v
  s.clocked && (if en.state == .stopped then en.msgs.any fun m => dtLe m.key.1 s.dt
    else dtLe en.nextVec s.dt && en.msgs.any (fun m => dtLe m.key.1 en.nextVec) ||
      en.msgs.any fun m => m.isStart && dtLe m.key.1 s.dt)

/-- A STOPPED engine takes a VSTART (R157). -/
def takeStart (v : EngineId) (seg : BitVec 10) (ta : DT) (s : State) : State :=
  let e := s.entry v seg.toNat
  if !eValid e || (eStream e && !(s.engine v).isReady seg.toNat) then raise (evEng v 0) 9 0 0 ta s
  else if !s.idleOk v then raise (evEng v 0) 10 0 0 ta s
  else
    let s2 := s.modEngine v fun en =>
      { en with
        plays := 0, ref := ta, period := periodOf (s.act (crBase v + 4)).toNat, nextVec := ta, vecEnd := ta
        rateDue := false, want := none, starving := false, jump := none }
    startPlay v seg.toNat false ta (raise (evEng v 0) 1 0 0 ta s2)

/-- ENGINE_START (R157). -/
def execEngineStart (v : EngineId) (s : State) : Out :=
  .next <| match s.idleMsg v with
    | some (.start seg ta p) => takeStart v seg ta (dropMsg v (.start seg ta p) s)
    | _ => match s.runningStart v with
      | some m => raise (evEng v 0) 7 0 0 m.key.1 (dropMsg v m s)
      | none => s

/-- RATE is owed at the next vector start, and that start has come (R163). -/
def sayRate (v : EngineId) (s : State) : State :=
  let en := s.engine v
  if en.rateDue then raise (evEng v 0) 6 0 0 en.nextVec (s.setEngine v { en with rateDue := false }) else s

/-- A stop discards the rate changes that fall due with it (R162). -/
def discardRates (v : EngineId) (s : State) : State :=
  s.modEngine v fun en => { en with msgs := en.msgs.filter fun m => !(m.isRate && dtLe m.key.1 en.nextVec) }

/-- ENGINE_STOP (R161): a VSTOP to a STOPPED engine has no effect. -/
def stopStep (v : EngineId) (s : State) : State :=
  let en := s.engine v
  if s.vecDue v then
    match dueMsg en.msgs EngMsg.isStop en.nextVec with
    | some m => raise (evEng v 0) 2 0 0 en.nextVec (stopEngine v 2 (discardRates v (dropMsg v m (sayRate v s))))
    | none => s
  else match s.idleMsg v with
    | some m => if m.isStop then dropMsg v m s else s
    | none => s

/-- ENGINE_STOP (R161). -/
def execEngineStop (v : EngineId) (s : State) : Out := .next (stopStep v s)

/-- The first instant of the grid of period P' from R at or after B (R163). -/
def regrid (r b : DT) (p : Nat) : DT := dtAdd r (((b - r).toNat + p - 1) / p * p)

/-- RATE_CHANGE (R163): a VRATE to a STOPPED engine is refused with IDLE. -/
def rateStep (v : EngineId) (s : State) : State :=
  let en := s.engine v
  if s.vecDue v && !s.stopDue v && !s.endDue v then
    match dueMsg en.msgs EngMsg.isRate en.nextVec with
    | some (.rate period ta p) =>
      (dropMsg v (.rate period ta p) (sayRate v s)).modEngine v fun en =>
        let q := periodOf period.toNat
        { en with period := q, nextVec := regrid en.ref en.nextVec q, rateDue := true }
    | _ => s
  else match s.idleMsg v with
    | some m => if m.isRate then raise (evEng v 0) 8 0 0 m.key.1 (dropMsg v m s) else s
    | none => s

/-- RATE_CHANGE (R163). -/
def execRateChange (v : EngineId) (s : State) : Out := .next (rateStep v s)

/-! ### Latch point and boundary (R159, R160, R168, R169) -/

/-- A segment chosen at a latch point, with the plays of it counted so far, is checked: played, or the idle segment
instead. -/
def fixSeg (v : EngineId) (n plays : Nat) (jumped : Bool) (s : State) : State :=
  let e := s.entry v n
  let en := s.engine v
  let idle : Fixed := if s.idleOk v then .idle (BitVec.ofNat 10 (s.idleSeg v)) (eValid e) else .stopIdleseg
  if !eValid e then
    raise (evEng v 0) 9 0 0 en.nextVec
      (s.setEngine v { en with fixed := some idle, want := none })
  else if eStream e && !en.isReady n then
    s.setEngine v { en with fixed := some idle, want := some ⟨BitVec.ofNat 10 n, plays, jumped⟩ }
  else s.setEngine v { en with fixed := some (.seg (BitVec.ofNat 10 n) plays jumped), want := none }

/-- At an idle latch point without a jump or a wanted segment the idle segment plays again (R169). -/
def fixIdle (v : EngineId) (s : State) : State :=
  s.modEngine v fun en =>
    { en with fixed := some (if s.idleOk v then .idle (BitVec.ofNat 10 (s.idleSeg v)) false else .stopIdleseg) }

/-- The play in progress is the last of its COUNT (R159, R166). -/
def State.lastOf (s : State) (v : EngineId) : Bool :=
  let en := s.engine v
  let e := s.entry v en.seg.toNat
  en.state == .play && eCount e != 0 && eCount e ≤ en.plays + 1

/-- The choice of R159, from the table active now. -/
def latch (v : EngineId) (s : State) : State :=
  let s := (syncFills s).modEngine v fun en => { en with lastPlay := s.lastOf v }
  let en := s.engine v
  match en.jump with
  | some n => fixSeg v n.toNat 0 true (s.setEngine v { en with jump := none })
  | none =>
    if en.state == .idle then
      match en.want with
      | some w => fixSeg v w.seg.toNat w.plays w.jumped s
      | none => fixIdle v s
    else if !en.lastPlay then fixSeg v en.seg.toNat (en.plays + 1) false s
    else if eEnd (s.entry v en.seg.toNat) then s.setEngine v { en with fixed := some .stopEnd }
    else fixSeg v (eNext (s.entry v en.seg.toNat)) 0 false s

/-- LATCH_POINT: the start of the 8th vector before the boundary (R159). -/
def latchStep (v : EngineId) (s : State) : State :=
  let en := s.engine v
  if s.vecDue v && !s.stopDue v && !s.rateIsDue v && en.fixed.isNone && s.playLen v ≤ en.pos + 8 then latch v s else s

/-- LATCH_POINT (R159). -/
def execLatchPoint (v : EngineId) (s : State) : Out := .next (latchStep v s)

/-- What the boundary starts (R159, R168). -/
def boundary (v : EngineId) (s : State) : State :=
  let s := syncFills s
  let en := s.engine v
  let t := en.nextVec
  let s1 := s.setEngine v
    (if en.lastPlay && eStream (s.entry v en.seg.toNat) then en.unready en.seg.toNat else en)
  match en.fixed with
  | some .stopEnd => raise (evEng v 0) 3 0 0 t (stopEngine v 3 (discardRates v s1))
  | some .stopIdleseg => raise (evEng v 0) 10 0 0 t (stopEngine v 10 s1)
  | some (.idle n starve) =>
    let s2 := s1.modEngine v fun en =>
      { en with
        plays := 0, starving := en.starving || starve, starves := if starve then en.starves + 1 else en.starves }
    let s3 := if starve && !en.starving then raise (evEng v 1) 1 0 0 t s2 else s2
    startPlay v n.toNat true t s3
  | some (.seg n plays jumped) =>
    let fed := en.starving && n.toNat != s.idleSeg v
    let s2 := s1.modEngine v fun en => { en with plays := plays, starving := en.starving && !fed }
    let s3 := if fed then raise (evEng v 1) 2 0 0 t s2 else s2
    let s4 := if jumped then raise (evEng v 0) 4 0 0 t s3 else s3
    startPlay v n.toNat false t s4
  | none => s

/-- SEGMENT_BOUNDARY (R159): the end of one play. -/
def boundaryStep (v : EngineId) (s : State) : State :=
  let en := s.engine v
  if s.vecDue v && !s.stopDue v && !s.rateIsDue v && en.fixed.isSome && s.playLen v ≤ en.pos then
    boundary v (sayRate v s)
  else s

/-- SEGMENT_BOUNDARY (R159). -/
def execSegmentBoundary (v : EngineId) (s : State) : Out := .next (boundaryStep v s)

/-- JUMP_ARRIVAL (R160). -/
def execJumpArrival (v : EngineId) (s : State) : Out :=
  .next <|
    let en := s.engine v
    match en.jumpsIn with
    | (n, _) :: rest =>
      if !s.clocked then s
      else if en.state == .stopped then raise (evEng v 0) 5 0 0 s.dt (s.setEngine v { en with jumpsIn := rest })
      else
        let s1 := s.setEngine v { en with jumpsIn := rest, jump := some n }
        if en.jump.isSome then raise (evEng v 0) 5 0 0 s.dt s1 else s1
    | [] => s

/-! ### Vectors and slots (R146 to R149) -/

/-- The 8-bit slot of a spoke in a vector (R146). -/
def State.slotAt (s : State) (vec : Nat) (i : SpokeId) : Nat := (rd8 memDflt s.mem (64 * vec + i.val)).toNat

/-- Where a spoke's driver stands for its engine: its state, and the instant of its latest drive action. A full run holds
the driver in Hi-Z, and gives it back as it was (R213, R217). -/
def State.drvBase (s : State) (i : SpokeId) : Drv × Option DT :=
  (if (s.req i).st = 2 then (s.req i).drvX else (s.spoke i).drv, (s.spoke i).lastAct)

/-- An instant lies closer than the emit guard to a spoke's previous drive action (R149). -/
def State.tooClose (s : State) (i : SpokeId) (last : Option DT) (t : DT) : Bool :=
  last.any fun d => !dtLe (dtAdd d (emitGuard (s.outIn (s.island (islSpoke i)).active i))) t

/-- Where the driver will stand after an action, which its guard may keep from being executed (R149). -/
def State.afterAct (s : State) (i : SpokeId) (b : Drv × Option DT) (a : DriveAct) : Drv × Option DT :=
  if a.drv == b.1 || s.tooClose i b.2 a.at_ then b else (a.drv, some a.at_)

/-- Where the driver will stand after the actions that wait for their instants. -/
def State.drvAfter (s : State) (v : EngineId) (i : SpokeId) : Drv × Option DT :=
  ((s.engine v).acts.filter fun a => a.spoke == i).foldl (s.afterAct i) (s.drvBase i)

/-- An action skipped for its guard or offset: counted, and said once a vector (R149). -/
def skipOffset (v : EngineId) (t : DT) (s : State) : State :=
  let en := s.engine v
  let s1 := s.setEngine v { en with skips := en.skips + 1, offsetSaid := true }
  if en.offsetSaid then s1 else raise (evEng v 0) 13 0 0 t s1

def skipGuard (v : EngineId) (t : DT) (s : State) : State :=
  let en := s.engine v
  let s1 := s.setEngine v { en with skips := en.skips + 1, guardSaid := true }
  if en.guardSaid then s1 else raise (evEng v 0) 12 0 0 t s1

/-- The drive part of a STATE: none for HOLD (R147). -/
def slotDrv (st : Nat) : Option Drv :=
  match st with
  | 0 => none
  | 1 => some .low
  | 2 => some .high
  | _ => some .hiz

/-- What a slot of a spoke asks of it: its STATE and the offsets of its timing set (R146 to R148). -/
def State.slotOn (s : State) (v : EngineId) (vec : Nat) (i : SpokeId) : Nat × Nat × Nat :=
  let n := s.slotAt vec i
  let k := n / 8 % 8
  (n % 8, (regGet (s.engRegs v) (tsKey v i.val k false)).toNat, (regGet (s.engRegs v) (tsKey v i.val k true)).toNat)

/-- The drive action of a slot waits for its instant, or is skipped for an offset beyond the period; Truing makes room
for it. An action that leaves the driver as it was is none, though the edge of a CE window still has an offset (R149,
R209). -/
def playDrive (v : EngineId) (t : DT) (i : SpokeId) (st edge : Nat) (s : State) : State :=
  match slotDrv st with
  | none => s
  | some d =>
    let acts := (s.drvAfter v i).1 != d
    if (s.engine v).period ≤ edge then if acts || st == 7 then skipOffset v t s else s
    else if !acts then s
    else
      let tx := deskewIn (s.island (islSpoke i)).active i false
      (truingWork i (dtAdd t (edge + tx)) s).modEngine v fun en => { en with acts := en.acts ++ [⟨i, dtAdd t edge, d⟩] }

/-- The strobe or window of a slot waits for its instant, or is skipped for an offset beyond the period. -/
def playStrobe (v : EngineId) (t : DT) (i : SpokeId) (st edge strobe : Nat) (s : State) : State :=
  let en := s.engine v
  if st < 5 then s
  else if en.period ≤ strobe then skipOffset v t s
  else if st = 7 ∧ (en.period ≤ edge ∨ strobe ≤ edge) then s
  else
    let rx := deskewIn (s.island (islSpoke i)).active i true
    (truingWork i (dtAdd t ((if st = 7 then edge else strobe) + rx)) s).modEngine v fun en => { en with
      strobes := en.strobes ++
        [⟨i, dtAdd t strobe, if st = 5 then some false else if st = 6 then some true else none, dtAdd t edge, false,
          en.seg, BitVec.ofNat 20 en.pos, fld (s.act (crBase v)) 0 2, en.playNo⟩] }

/-- One owned spoke's slot at a vector start (R147 to R149). -/
def playSlot (v : EngineId) (t : DT) (vec : Nat) (i : SpokeId) (s : State) : State :=
  let (st, edge, strobe) := s.slotOn v vec i
  playStrobe v t i st edge strobe (playDrive v t i st edge s)

/-- VECTOR_START (R157): the next vector of the grid starts. -/
def vectorStep (v : EngineId) (s : State) : State :=
  let en := s.engine v
  if s.vecDue v && !s.stopDue v && !s.rateIsDue v && en.pos < s.playLen v &&
      (en.fixed.isSome || en.pos + 8 < s.playLen v) then
    let t := en.nextVec
    let x := s.island (islEngine v)
    let s1 := (sayRate v s).setIsland (islEngine v) { x with retiring := none }
    let s2 := s1.modEngine v fun en => { en with guardSaid := false, offsetSaid := false }
    let vec := 64 * eBase (s.entry v en.seg.toNat) + en.pos
    let s3 := forEach 64 (fun i s => if ownerIn (s.engRegs v) i.val == some v then playSlot v t vec i s else s) s2
    s3.modEngine v fun en =>
      { en with pos := en.pos + 1, nextVec := dtAdd t en.period, vecEnd := dtAdd t en.period, vectors := en.vectors + 1 }
  else s

/-- VECTOR_START (R157). -/
def execVectorStart (v : EngineId) (s : State) : Out := .next (vectorStep v s)

/-- The engine as its coming vector start will find it and leave it: what falls due there, in the order of R162. -/
def aheadStep (v : EngineId) (s : State) : State :=
  let t := (s.engine v).nextVec
  let s0 := if dtLe t s.dt then s else { s with dt := t }
  vectorStep v (boundaryStep v (latchStep v (rateStep v (stopStep v s0))))

/-- The engine some vector starts ahead, up to an instant. -/
def lookAhead (v : EngineId) (hi : DT) : Nat → State → State
  | 0, s => s
  | k + 1, s =>
    if (s.engine v).state != .stopped && dtLe (s.engine v).nextVec hi then lookAhead v hi k (aheadStep v s) else s

/-- A drive action of an engine on its spoke at an instant (R148): lost in an outage, hold or mode-change interval,
held back under suppression, driven otherwise. -/
def slotDrive (i : SpokeId) (d : Drv) (t : DT) (s : State) : State :=
  let sp := s.spoke i
  if s.frozen then s.setSpoke i (sp.lose t)
  else if sp.inModeGap t then
    raise (2 * i.val) 9 0 0 t (s.setSpoke i { sp with cnt := { sp.cnt with lost := sp.cnt.lost + 1 } })
  else
    let tx := deskewIn (s.island (islSpoke i)).active i false
    let sp1 := sp.drive s.dt d t tx
    noteDrive i sp d (dtAdd t tx)
      (if s.suppressed then suppressEdge i t (s.setSpoke i sp1)
        else if d == .hiz then s.setSpoke i sp1
        else s.setSpoke i (sp1.noteEdge s.dt (dtAdd t tx)))

/-- SLOT_DRIVE_ACTION (R147 to R149), after a swap or cancel due at or before its instant (R82). -/
def execSlotDriveAction (v : EngineId) (i : SpokeId) (s : State) : Out :=
  .next <|
    let en := s.engine v
    match en.acts.find? fun a => a.spoke == i with
    | some a =>
      if !s.clocked || !dtLe a.at_ s.dt || !s.clearTo i a.at_ then s
      else
        let s1 := s.setEngine v { en with acts := en.acts.erase a }
        if s.owner i != some v then s1
        else if (s.spoke i).out = 0 ∧ (s.spoke i).modeEnd.isNone then s1
        else if (s.spoke i).drv == a.drv then s1
        else if s.tooClose i (s.spoke i).lastAct a.at_ then skipGuard v a.at_ s1
        else slotDrive i a.drv a.at_ s1
    | none => s

/-- A compare failure (R170, R172). -/
def compareFail (v : EngineId) (i : SpokeId) (st : Strobe) (high : Bool) (s : State) : State :=
  let en := s.engine v
  let first := en.failedPlay.get i != some st.play
  let s1 := s.setEngine v { en with
    fails := en.fails + 1
    failCnt := en.failCnt.set i.val (en.failCnt.get i + 1) i.isLt
    failedPlay := en.failedPlay.set i.val (some st.play) i.isLt
    ffValid := true
    ffCycle := if en.ffValid then en.ffCycle else s.slot
    ffSpoke := if en.ffValid then en.ffSpoke else BitVec.ofNat 6 i.val
    ffExp := if en.ffValid then en.ffExp else high
    ffSeg := if en.ffValid then en.ffSeg else st.seg
    ffPos := if en.ffValid then en.ffPos else st.vpos
    ffDt := if en.ffValid then en.ffDt else st.at_ }
  let s2 := if en.ffValid then s1 else raise (evEng v 2) 1 0 0 st.at_ s1
  if 2 ≤ st.record || (st.record == 1 && first) then
    putRecord i st.at_ 0 4 (v.val * 16384 + b1 high * 4096 + st.seg.toNat) s2
  else s2

/-- SLOT_STROBE (R147, R170): a compare samples the pin as a capture would report it at the strobe's DT; a CE window
closes. -/
def execSlotStrobe (v : EngineId) (i : SpokeId) (s : State) : Out :=
  .next <|
    let en := s.engine v
    match en.strobes.find? fun st => st.spoke == i with
    | some st =>
      let rx := deskewIn (s.island (islSpoke i)).active i true
      if !s.clocked || !dtLe (dtAdd st.at_ rx) s.dt || s.swapBefore (islSpoke i) st.at_ then s
      else
        let s1 := s.setEngine v { en with strobes := en.strobes.erase st }
        match st.expect with
          | some high => if (s.spoke i).pin == high then s1 else compareFail v i st high s1
          | none => s1
    | none => s

/-- FAIL_FIRST_REARM: a write of 1 to CR_FAIL_FIRST.VALID (R170); a failure latched in the very cycle of the write
wins (R11). -/
def execFailFirstRearm (v : EngineId) (s : State) : Out :=
  .next (byHost s fun s => s.modEngine v fun en =>
    { en with ffValid := en.ffValid && s.clocked && en.ffCycle == s.slot })

/-! ### Streaming (R165, R166) -/

/-- STREAM_FEED_ENTRY: the engine takes the next entry of its ring. -/
def execStreamFeedEntry (v : EngineId) (s : State) : Out :=
  .next <|
    let en := s.engine v
    match en.feedIn with
    | b :: rest =>
      if !s.clocked || en.fill.isSome then s
      else
        let seg := leAt b 0 2
        let addr := leAt b 8 8
        let e := s.entry v (seg % 1024)
        let bad := !eValid e || !eStream e || addr % 64 != 0 || 1024 ≤ seg || 2 ≤ leAt b 2 1 || leAt b 3 5 != 0 ||
          leAt b 16 16 != 0
        let en1 := { en with feedIn := rest, feeds := en.feeds + 1 }
        let s1 := tookEntry ⟨60 + v.val, by omega⟩ s
        if bad then raise (evEng v 3) 3 0 0 s.dt (s1.setEngine v en1)
        else s1.setEngine v { en1.unready seg with
          fill := some ⟨BitVec.ofNat 10 seg, leAt b 2 1 == 1, 64 * eBase e, eVecs e, BitVec.ofNat 64 addr, 0, none⟩ }
    | [] => s

/-- How many vectors a fill that ends now has stored, from its first one on (R166). -/
def Fill.kept (f : Fill) (s : State) : Nat := ((f.advance s f.vecs).met.map (·.1 - f.first)).getD f.vecs

/-- FILL_COMPLETE (R166): the vectors that came from the host are in vector memory; a fill that met an active region on
its way has discarded the rest and leaves the segment not ready. -/
def execFillComplete (v : EngineId) (data : Octets) (s : State) : Out :=
  .next <|
    match (s.engine v).fill with
    | none => s
    | some f =>
      if !s.clocked || data.length != 64 * f.vecs then s
      else
        let s1 := { s with mem := wrN memDflt s.mem (64 * f.first) (data.take (64 * f.kept s)) }
        let s2 := s1.modEngine v fun en => { en with fill := none }
        match (f.advance s f.vecs).met with
        | some x => segWr x.2 s2
        | none =>
          let e := s.entry v f.seg.toNat
          let same := 64 * eBase e == f.first && eVecs e == f.vecs
          let s3 := if same then s2.modEngine v fun en => en.setReady f.seg.toNat else s2
          if f.notify then raise (evEng v 3) 2 0 0 s.dt s3 else s3

/-! ### What swaps and gates do to an engine -/

/-- Spokes an engine claims that a lower-numbered engine claims too (R150). -/
def clashes (m : RegMap) (v : EngineId) (i : Nat) : Bool :=
  bit (regGet m (crBase v + 0x28 + 4 * (i / 32))) (i % 32) && ownerIn m i != some v

/-- A commit swap in an engine (R150, R152, R166): OWNCLASH where the swap brings one, ready marks of segments whose
BASE or LEN changed, and the retiring copy kept only while a vector started under it is in progress. -/
def swapEngine (v : EngineId) (old : RegMap) (s : State) : State :=
  let m := s.engRegs v
  let en := s.engine v
  let x := s.island (islEngine v)
  let s1 := if en.state == .stopped || dtLe en.vecEnd x.pendDt then
    s.setIsland (islEngine v) { x with retiring := none } else s
  let s2 := s1.modEngine v fun en => { en with
    ready := en.ready.filter fun n =>
      eBase (segEntry m v n) == eBase (segEntry old v n) && eLen (segEntry m v n) == eLen (segEntry old v n) }
  if (List.range 64).any fun i => clashes m v i && !clashes old v i then raise (evEng v 0) 14 0 0 s.dt s2 else s2

/-- The gates close on an engine: one that plays stops, and nothing of it is executed in the outage (R173). -/
def gateEngine (v : EngineId) (s : State) : State :=
  let s1 := s.modEngine v fun en => { en with acts := [], strobes := [] }
  if (s.engine v).state == .stopped then s1
  else (stopEngine v 11 s1).modEngine v fun en => { en with lockDt := some s.dt }

/-- An engine's clock returns: LOCK is raised, and messages whose DT has passed, less the setup time, are discarded
with LATE on the issuing thread (R173, R20). -/
def ungateEngine (v : EngineId) (s : State) : State :=
  let en := s.engine v
  let late (m : EngMsg) : Option (DT × ThreadId) :=
    if dtLe (dtAdd s.dt Config.engineSetup) m.key.1 then none else some m.key
  let s1 := s.setEngine v { en with lockDt := none, msgs := en.msgs.filter fun m => (late m).isNone }
  let s2 := match en.lockDt with
    | some d => raise (evEng v 0) 11 0 0 d s1
    | none => s1
  (en.msgs.filterMap late).foldl (fun s r =>
    raise (128 + 2 * r.2.val) 1 0 0 r.1 (s.modThread r.2 fun t => { t with late := t.late + 1 })) s2

end Sys2Proof.Machine
end

