-- ==== Sys2Proof/Machine/Capture.lean ====
section
/-! DEFINITION. The capture path of a spoke: crossings, dead time, blanking, windows and free capture (R70 to R74,
R171). -/

namespace Sys2Proof.Machine

/-! ### Blanking (R71) -/

/-- Two instants lie no more than 8 192 ft apart. -/
def nearEdge (a b : DT) : Bool := (a - b).toInt.natAbs ≤ 8192

/-- How many edges of a descriptor will pass, a cancel at `cut` included (R81). -/
def QDesc.edgesUpTo (e : QDesc) (cut : Option DT) : Option Nat :=
  match cut with
  | none => e.total
  | some c => if e.kind == .level then some (if dtLe c e.start then 0 else 1) else
    some (match e.pulses with
      | some n => 2 * min n (pulsesBefore e c)
      | none => 2 * pulsesBefore e c)

/-- The instants of the next `n` edges of a descriptor, as encoded. -/
def QDesc.nextEdges (e : QDesc) (n : Nat) (cut : Option DT) : List DT :=
  ((List.range n).filter fun k => (e.edgesUpTo cut).all (e.edges + k < ·)).map fun k =>
    if e.kind == .level then e.start else e.edgeAt (e.edges + k)

/-- The spoke emits an edge of the work at an instant: it is not suppressed, frozen, in Off or in a mode-change
interval (R69, R76 to R78). -/
def State.emits (s : State) (i : SpokeId) (t : DT) : Bool :=
  !s.suppressed && !s.frozen && (s.spoke i).out != 0 && !(s.spoke i).inModeGap t

/-- Descriptor edges to come, at the lands: enough of them for any that blank a crossing now. -/
def State.queueEdges (s : State) (i : SpokeId) : List DT :=
  (s.spoke i).queue.flatMap fun e =>
    if e.kind == .window then []
    else ((e.nextEdges 16 (s.spoke i).cancel).filter (s.emits i)).map fun t => dtAdd t (s.deskew i e)

/-- The edges that an engine's waiting actions will drive, at the lands: those that change the driver's level and that
their guard does not skip (R149). -/
def State.actEdges (s : State) (i : SpokeId) (b : Drv × Option DT) : List DriveAct → List DT
  | [] => []
  | a :: as =>
    let b' := s.afterAct i b a
    let rest := s.actEdges i b' as
    if b'.2 != b.2 && a.drv != .hiz && s.emits i a.at_ then
      dtAdd a.at_ (deskewIn (s.island (islSpoke i)).active i false) :: rest
    else rest

/-- The edges that the spoke's engine will drive up to `x` + 8 192 ft, the vectors that start by then included. -/
def State.engineEdges (s : State) (i : SpokeId) (x : DT) : List DT :=
  match s.owner i with
  | none => []
  | some v =>
    let s' := lookAhead v (dtAdd x 8192) 4 s
    s.actEdges i (s.drvBase i) ((s'.engine v).acts.filter fun a => a.spoke == i)

/-- A launch through the spoke's delay line falls at an instant: of an edge on its way, or of one to come. -/
def State.launchesAt (s : State) (i : SpokeId) (x : DT) : Bool :=
  (s.spoke i).launches.any (·.1 == x) || (s.queueEdges i).contains x || (s.engineEdges i x).contains x

/-- Capture is blanked at the lands at `x`: an own emitted edge lies within 8 192 ft, before or after (R71). -/
def State.blanked (s : State) (i : SpokeId) (x : DT) : Bool :=
  (s.spoke i).ownEdges.any (nearEdge x) || (s.queueEdges i).any (nearEdge x) || (s.engineEdges i x).any (nearEdge x)

/-! ### Windows -/

/-- EDGE of a record (R74). -/
def edgeCode (rising : Bool) : Nat := if rising then 1 else 2

/-- EDGES of a window takes the direction (R65). -/
def takes (e : QDesc) (rising : Bool) : Bool := (dEdges e.raw).testBit (if rising then 0 else 1)

/-- The instant a queued window will close at, a cancel before it included (R65, R81). -/
def QDesc.closes (e : QDesc) (cut : Option DT) : DT :=
  match cut with
  | some c => if dtLe c e.last then c else e.last
  | none => e.last

/-- The window that holds a crossing at the lands at `x`, with the SP_DESKEW_RX of its generation: its span holds the
reported DT (R65, R72, R73). It may have closed while the edge was on its way. -/
def State.windowAt (s : State) (i : SpokeId) (x : DT) : Option (QDesc × Nat) :=
  let sp := s.spoke i
  let within (e : QDesc) (close : DT) (rx : Nat) : Bool := dtLe (dtAdd e.start rx) x && !dtLe (dtAdd close rx) x
  match sp.ending.find? fun w => within w.d w.close w.rx with
  | some w => some (w.d, w.rx)
  | none =>
    (sp.queue.find? fun e => e.kind == .window && !e.done && (e.opened || !s.frozen) &&
      within e (e.closes sp.cancel) (s.deskew i e)).map fun e => (e, s.deskew i e)

/-- A window has seen a qualifying edge. -/
def markSeen (i : SpokeId) (e : QDesc) (s : State) : State :=
  s.modSpoke i fun sp => { sp with
    queue := modFirst (· == e) (fun e => { e with seen := true }) sp.queue
    ending := modFirst (fun w => w.d == e) (fun w => { w with d := { w.d with seen := true } }) sp.ending }

/-- A qualifying edge in a window acts as the window's MODE says (R73). -/
def windowEdge (i : SpokeId) (e : QDesc) (rising : Bool) (d : DT) (s : State) : State :=
  let s1 := markSeen i e s
  let tag := dTag e.raw
  match dMode e.raw with
  | 0 => putRecord i d (edgeCode rising) 1 tag s1
  | 1 => if e.seen then s1 else putRecord i d (edgeCode rising) 1 tag s1
  | 2 => if e.seen || !dRec e.raw then s1 else putRecord i d (edgeCode rising) 1 tag s1
  | _ =>
    let s2 := s1.modSpoke i fun sp => { sp with cnt := { sp.cnt with cmpFail := sp.cnt.cmpFail + 1 } }
    if e.seen then s2
    else raise (2 * i.val + 1) 2 0 0 d (putRecord i d (edgeCode rising) 2 tag s2)

/-- The window would record an edge, or its EXPECT would take it (R70). -/
def windowTakes (e : QDesc) (rising : Bool) : Bool :=
  takes e rising && match dMode e.raw with
    | 0 => true
    | 2 => true
    | _ => !e.seen

/-- Free capture records the direction (R72). -/
def State.freeTakes (s : State) (i : SpokeId) (rising : Bool) : Bool :=
  let c := s.act (spBase i + 8)
  bit c 0 && (fld c 1 2).testBit (if rising then 0 else 1)

/-- The CE window of the owning engine that holds a crossing at the lands at `x` (R147, R171). -/
def State.ceAt (s : State) (i : SpokeId) (x : DT) : Option (EngineId × Strobe) :=
  match s.owner i with
  | none => none
  | some v =>
    let rx := deskewIn (s.island (islSpoke i)).active i true
    ((s.engine v).strobes.find? fun st =>
      st.spoke == i && st.expect.isNone && dtLe (dtAdd st.opens rx) x && !dtLe (dtAdd st.at_ rx) x).map fun st => (v, st)

/-- A CE window's first edge is recorded (R171, R172). -/
def ceEdge (v : EngineId) (i : SpokeId) (st : Strobe) (rising : Bool) (d : DT) (s : State) : State :=
  if st.seen then s
  else putRecord i d (edgeCode rising) 4 (v.val * 16384 + 2 * 4096 + st.seg.toNat)
    (s.modEngine v fun en => { en with strobes := modFirst (· == st) (fun st => { st with seen := true }) en.strobes })

/-! ### Crossings (R70) -/

/-- The configuration an edge is detected with: that of the window it falls in, or the active one (R72). -/
def State.captureRegs (s : State) (i : SpokeId) : RegMap :=
  match s.windowAt i s.dt with
  | some w => s.tagRegs i w.1.tag
  | none => (s.island (islSpoke i)).active

/-- What the comparator reports for a voltage at its input, in uV (R72, R79). -/
def State.sees (s : State) (i : SpokeId) (uv : Int) : Bool :=
  compares (s.captureRegs i) i (s.spoke i).out.toNat (s.spoke i).pin uv

/-- The capture path works: it is clocked, and no full run has taken it out of service (R213, R217). -/
def State.captures (s : State) (i : SpokeId) : Bool :=
  s.clocked && !(s.spoke i).capOff && !((s.spoke i).capFrom.any fun d => !dtLe d s.dt)

/-- A crossing now comes within the dead time of the last one timestamped (R70). -/
def State.inDeadTime (s : State) (i : SpokeId) : Bool :=
  (s.spoke i).lastStamp.any fun d => !dtLe (dtAdd d 8192) s.dt

/-- A crossing would be recorded, or taken by an EXPECT window (R70). -/
def State.wanted (s : State) (i : SpokeId) (rising : Bool) : Bool :=
  match s.windowAt i s.dt with
  | some w => windowTakes w.1 rising
  | none => match s.ceAt i s.dt with
    | some c => !c.2.seen
    | none => s.freeTakes i rising

/-- A timestamped crossing is recorded as the window it falls in, or free capture, says (R72, R73, R171). -/
def recordCrossing (i : SpokeId) (rising : Bool) (s : State) : State :=
  match s.windowAt i s.dt with
  | some w => if takes w.1 rising then windowEdge i w.1 rising (dtSub s.dt w.2) s else s
  | none =>
    let d := dtSub s.dt (deskewIn (s.island (islSpoke i)).active i true)
    match s.ceAt i s.dt with
    | some c => ceEdge c.1 i c.2 rising d s
    | none => if s.freeTakes i rising then putRecord i d (edgeCode rising) 0 0 s else s

/-- A threshold crossing reaches the capture path (R70, R71). -/
def crossing (i : SpokeId) (rising : Bool) (s : State) : State :=
  if !s.captures i || s.blanked i s.dt then s
  else if s.inDeadTime i then
    if s.wanted i rising then
      s.modSpoke i fun sp => { sp with dead := true, cnt := { sp.cnt with dead := sp.cnt.dead + 1 } }
    else s
  else recordCrossing i rising (s.modSpoke i fun sp => { sp with lastStamp := some s.dt })

/-- PIN_CROSSING (R70): the voltage at a spoke's comparator input comes to `uv` uV at the lands now. It is a crossing
where it turns the comparator (R79). For the referee a crossing is evidence as well (R345, R349). -/
def execPinCrossing (i : SpokeId) (uv : Int) (s : State) : Out :=
  .next <|
    let high := s.sees i uv
    if high = (s.spoke i).pin then s
    else
      let s1 := crossing i high s
      let s2 := s1.modSpoke i fun sp => { sp with pin := high, crossAt := some s.dt }
      if s.watches i then noteNet i s.dt high s2 else s2

end Sys2Proof.Machine
end

