-- ==== Sys2Proof/Machine/Crank.lean ====
section
/-! DEFINITION. Crank: segments, targets and the solve (R176 to R196). Positions are compared exactly, as fractions. -/

namespace Sys2Proof.Machine

/-! ### The cubic (R177) -/

/-- 65 536 L^3 times the position n ft after T0. -/
def Segment.num (g : Segment) (n : Int) : Int :=
  let l : Int := g.len
  g.c0 * 65536 * l ^ 3 + g.c1 * n * l ^ 2 + g.c2 * n ^ 2 * l + g.c3 * n ^ 3

/-- The denominator of `num`. -/
def Segment.den (g : Segment) : Nat := 65536 * g.len ^ 3

/-- The sign of the position n ft after T0 less P. -/
def Segment.sgnAt (g : Segment) (p n : Int) : Int := (g.num n - p * g.den).sign

/-- The sign of y + k times the square root of d, for d not negative. -/
def sgnRoot (y k d : Int) : Int :=
  if 0 ≤ y ∧ 0 ≤ k then (if y = 0 ∧ k * d = 0 then 0 else 1)
  else if y ≤ 0 ∧ k ≤ 0 then (if y = 0 ∧ k * d = 0 then 0 else -1)
  else if 0 < y then (y ^ 2 - k ^ 2 * d).sign
  else (k ^ 2 * d - y ^ 2).sign

/-- The signs of p - P at the turning points of p that lie strictly between n1 and n2 ft after T0. -/
def Segment.turns (g : Segment) (p n1 n2 : Int) : List Int :=
  let l : Int := g.len
  let a := g.c3
  let b := g.c2
  let c := g.c1
  let d := (g.c0 - p) * 65536
  if a = 0 then
    if b = 0 then []
    else if 0 < (-c * l - 2 * b * n1) * b ∧ (-c * l - 2 * b * n2) * b < 0 then [((4 * b * d - c ^ 2) * b).sign] else []
  else
    let disc := b ^ 2 - 3 * a * c
    if disc ≤ 0 then []
    else [1, -1].filterMap fun σ =>
      -- the turning point is (-b + σ √disc) / 3a
      let above (n : Int) : Int := a.sign * sgnRoot (-b * l - 3 * a * n) (σ * l) disc
      if 0 < above n1 ∧ above n2 < 0 then
        some (sgnRoot (27 * a ^ 2 * d - 3 * a * b * c + 2 * disc * b) (-(2 * σ * disc)) disc)
      else none

/-- P lies in the span of p over [n1, n2) ft after T0 (R186). -/
def Segment.spans (g : Segment) (p n1 n2 : Int) : Bool :=
  let f := g.sgnAt p n1
  f == 0 || f * g.sgnAt p n2 < 0 || (g.turns p n1 n2).any fun t => t != f

/-- p leaves the signed 48-bit range somewhere in [0, 1] (R178). -/
def Segment.leaves (g : Segment) : Bool :=
  let hi : Int := 2 ^ 47 - 1
  let lo : Int := -(2 ^ 47)
  let l : Int := g.len
  0 < g.sgnAt hi 0 || 0 < g.sgnAt hi l || (g.turns hi 0 l).any (0 < ·) ||
  g.sgnAt lo 0 < 0 || g.sgnAt lo l < 0 || (g.turns lo 0 l).any (· < 0)

/-- The class of a segment over its held part (R184): the slopes at both ends, and at the slope's own turning point
where that lies inside, all on one scale. -/
def Segment.classify (g : Segment) : SegClass :=
  let l : Int := g.len
  let h : Int := (g.heldEnd.toNat - g.t0.toNat : Nat)
  let k : Int := if g.c3 = 0 then 1 else 3 * g.c3.natAbs
  let slope (n : Int) : Int := k * (g.c1 * l ^ 2 + 2 * g.c2 * n * l + 3 * g.c3 * n ^ 2)
  let inside := g.c3 ≠ 0 ∧ 0 < -(g.c2 * l) * g.c3 ∧ (-(g.c2 * l) - 3 * g.c3 * h) * g.c3 < 0
  let vals := [slope 0, slope h] ++ if inside then [l ^ 2 * (3 * g.c1 * g.c3 - g.c2 ^ 2) * g.c3.sign] else []
  if g.c1 = 0 ∧ g.c2 = 0 ∧ g.c3 = 0 then .const
  else if vals.any (0 < ·) ∧ vals.any (· < 0) then .nonmono
  else
    let mags := vals.map Int.natAbs
    let small := mags.min?.getD 0
    if small ≠ 0 ∧ mags.max?.getD 0 ≤ 8 * small then .mono else .slope

def SegClass.code : SegClass → Nat
  | .mono => 0
  | .nonmono => 1
  | .slope => 2
  | .const => 3

/-! ### Where an axis stands -/

/-- The segment in force: the first held one, unless the axis is DRY. -/
def Axis.inForce (x : Axis) : Option Segment := if x.dry then none else x.segs.head?

/-- The position at a DT as a fraction (R182, R183): of the held segment that contains it, else the last position held
before it. -/
def Axis.posAt (x : Axis) (d : DT) : Int × Nat :=
  x.segs.foldl (fun r g =>
    if d.toNat < g.t0.toNat then r
    else if d.toNat < g.heldEnd.toNat then (g.num (d.toNat - g.t0.toNat : Nat), g.den)
    else (g.num (g.heldEnd.toNat - g.t0.toNat : Nat), g.den)) (x.held, x.heldDen)

/-- The last position of a segment's held part. -/
def Segment.endPos (g : Segment) : Int × Nat := (g.num (g.heldEnd.toNat - g.t0.toNat : Nat), g.den)

/-- An event of an axis, kept in CK_AX_STAT.CAUSE. -/
def raiseAxis (a : AxisId) (cause : Nat) (d : DT) (s : State) : State :=
  raise (176 + a.val) cause 0 0 d (s.modAxis a fun x => { x with cause := BitVec.ofNat 4 cause })

/-! ### The search and the solve (R186, R188, R189) -/

/-- What a search finds. -/
inductive Found where
  | time (t : DT)
  | shape
  | wait
  deriving DecidableEq, Repr

/-- 65 536 x 2^168 times p(u) - P, for u in units of 2^-56. -/
def Segment.ahead (g : Segment) (p u : Int) : Int :=
  (g.c0 - p) * 65536 * 2 ^ 168 + g.c1 * u * 2 ^ 112 + g.c2 * u ^ 2 * 2 ^ 56 + g.c3 * u ^ 3

/-- 65 536 x 2^112 times p'(u), for u in units of 2^-56. -/
def Segment.slopeAt (g : Segment) (u : Int) : Int := g.c1 * 2 ^ 112 + 2 * g.c2 * u * 2 ^ 56 + 3 * g.c3 * u ^ 2

/-- u at knot k (R188). -/
def knotU (k : Nat) : Int := k * 2 ^ 50

/-- Knot k of a segment, as 65 536 x 2^18 times p there: what Crank keeps of it at acceptance (R188). -/
def Segment.knot (g : Segment) (k : Nat) : Int :=
  g.c0 * 65536 * 2 ^ 18 + g.c1 * k * 2 ^ 12 + g.c2 * k ^ 2 * 2 ^ 6 + g.c3 * k ^ 3

/-- A quotient in units of 2^-56. -/
def carry56 (n d : Int) : Int :=
  let q := Int.fdiv n d
  if q * d = n then q else if Config.solveUp n d then q + 1 else q

/-- u held inside a bracket. -/
def inBracket (lo hi u : Int) : Int := max lo (min hi u)

/-- One Newton step, held inside the bracket (R188). -/
def Segment.newton (g : Segment) (p lo hi u : Int) : Int :=
  inBracket lo hi (carry56 (u * g.slopeAt u - g.ahead p u) (g.slopeAt u))

/-- The bracket of P within [n1, n2) ft after T0: from the last knot, or n1, that has not passed P to the next knot, or
n2, where the axis moves as `up` says. -/
def Segment.bracket (g : Segment) (p up n1 n2 : Int) : Int × Int :=
  let a := Int.fdiv (n1 * 2 ^ 56) g.len
  let b := -Int.fdiv (-(n2 * 2 ^ 56)) g.len
  (List.range 65).foldl (fun r k =>
    let u := knotU k
    if u ≤ r.1 ∨ r.2 ≤ u then r
    else if up * (g.knot k - p * 65536 * 2 ^ 18) ≤ 0 then (u, r.2) else (r.1, u)) (a, b)

/-- The instant at which a MONO segment reaches P within [n1, n2) ft after T0 (R188): from the linear interpolation over
the bracket, four Newton steps, and the nearest ft, ties up, no earlier than n1. -/
def Segment.solve (g : Segment) (p n1 n2 : Int) : DT :=
  let up := (g.num n2 - g.num n1).sign
  let (lo, hi) := g.bracket p up n1 n2
  let u0 := inBracket lo hi (lo + carry56 (-(g.ahead p lo) * (hi - lo)) (g.ahead p hi - g.ahead p lo))
  let step := g.newton p lo hi
  let u := step (step (step (step u0)))
  dtAddI g.t0 (max n1 (Int.fdiv (2 * u * g.len + 2 ^ 56) (2 ^ 57)))

/-- The move from pa to pb at a seam crosses P: pa excluded, pb included (R186). -/
def jumpCrosses (pa : Int × Nat) (pb p : Int) : Bool :=
  let pp := p * pa.2
  let b := pb * pa.2
  (pa.1 < pp && pp ≤ b) || (pp < pa.1 && b ≤ pp)

/-- The search of R186 over held segments, `pa` the position before the first of them. -/
def searchFrom (s p : Int) : List Segment → Int × Nat → Found
  | [], _ => .wait
  | g :: rest, pa =>
    let t0 : Int := g.t0.toNat
    let e : Int := g.heldEnd.toNat
    if e ≤ s then searchFrom s p rest g.endPos
    else
      let n1 := max t0 s - t0
      let n2 := e - t0
      if s ≤ t0 ∧ jumpCrosses pa g.c0 p then .time g.t0
      else if g.spans p n1 n2 then
        match g.cls with
        | .nonmono => .shape
        | .slope => .shape
        | .const => .time (dtAddI g.t0 n1)
        | .mono => .time (g.solve p n1 n2)
      else searchFrom s p rest g.endPos

/-- A target ends without a time (R187). -/
def noTime (a : AxisId) (g : Target) (cause : Nat) (srch : DT) (s : State) : State :=
  raiseAxis a cause srch (s.modAxis a fun x =>
    { x with tgts := modFirst (· == g) (fun g => { g with st := .noTime }) x.tgts, noTime := x.noTime + 1 })

/-- A target is searched from its search start (R186). -/
def searchTarget (a : AxisId) (srch : DT) (g : Target) (s : State) : State :=
  let x := s.axis a
  match searchFrom srch.toNat g.pos x.segs (x.held, x.heldDen) with
  | .time t => s.modAxis a fun x => { x with
      tgts := modFirst (· == g) (fun g => { g with st := .solving srch t false }) x.tgts }
  | .wait => s.modAxis a fun x => { x with tgts := modFirst (· == g) (fun g => { g with st := .waiting srch }) x.tgts }
  | .shape => noTime a g 11 srch s

/-- CK_AX_CFG fields. -/
def State.axCfg (s : State) (a : AxisId) (lo len : Nat) : Nat := fld (s.act (axBase a)) lo len

/-- TARGET_ENTRY (R186): the oldest target in the input buffer is taken; its search starts now. Records that have arrived
go first (R192), and so does a swap that is due (R194). -/
def execTargetEntry (a : AxisId) (s : State) : Out :=
  .next <| if !s.ready islCrank || !s.crank.recIn.isEmpty then s else
    match (s.axis a).tgts.find? fun g => g.st == .posted with
    | some g =>
      let p := (s.axis a).posAt s.dt
      let dir := s.axCfg a 12 2
      let g1 := { g with st := .waiting s.dt }
      let s1 := s.modAxis a fun x => { x with tgts := modFirst (· == g) (fun _ => g1) x.tgts }
      if (dir = 1 ∧ g.pos * p.2 < p.1) ∨ (dir = 2 ∧ p.1 < g.pos * p.2) then noTime a g1 14 s.dt s1
      else searchTarget a s.dt g1 s1
    | none => s

/-- SOLVE_COMPLETE (R190): the oldest solved result is delivered, if its DT still meets the lead; one that a segment
accepted since bears on is discarded, and its target searched again from its search start (R191). -/
def execSolveComplete (a : AxisId) (s : State) : Out :=
  .next <| if !s.clocked then s else
    match (s.axis a).tgts.findSome? fun g => match g.st with
      | .solving srch t again => some (g, srch, t, again)
      | _ => none with
    | some (g, srch, t, again) =>
      if again then searchTarget a srch g s
      else if dtLe (dtAdd (s.replica islCrank) 409600) t then
        s.modAxis a fun x => { x with
          tgts := modFirst (· == g) (fun g => { g with st := .time t }) x.tgts
          solved := x.solved + 1, lastDt := if x.lastDt.toNat < t.toNat then t else x.lastDt }
      else noTime a g 12 srch s
    | none => s

/-- CK_AX_TMO in ft; 0 acts as 1 us. -/
def State.axTmo (s : State) (a : AxisId) : Nat := max 1 (fld (s.act (axBase a + 4)) 0 24) * ftUs

/-- TARGET_TIMEOUT (R186). -/
def execTargetTimeout (a : AxisId) (s : State) : Out :=
  .next <| if !s.ready islCrank then s else
    match (s.axis a).tgts.findSome? fun g => match g.st with
      | .waiting srch => if dtLe (dtAdd srch (s.axTmo a)) s.dt then some (g, srch) else none
      | _ => none with
    | some (g, srch) => noTime a g 13 srch s
    | none => s

/-- An axis emptied of segments and of its waiting or undelivered targets (R193), but for those that came in `cycle`,
the very cycle of a CLEAR, which goes before them there: such a target is searched in the new model (R192). -/
def clearAxis (cycle : Option Nat) (a : AxisId) (s : State) : State :=
  let clear (srch : DT) (g : Target) (s : State) : State :=
    if cycle = some (slotOf srch) then searchTarget a srch g s else noTime a g 15 srch s
  let s1 := s.modAxis a fun x => { x with
    segs := x.segs.filter (fun g => cycle == some g.cycle), dry := true, held := 0, heldDen := 1 }
  (s.axis a).tgts.foldl (fun s g => match g.st with
    | .waiting srch => clear srch g s
    | .solving srch _ _ => clear srch g s
    | _ => s) s1

/-- AXIS_CLEAR (R193). -/
def execAxisClear (a : AxisId) (s : State) : Out :=
  .next <| byHost s fun s => clearAxis (if s.clocked then some (slotOf s.dt) else none) a s

/-! ### Segment records (R177 to R181) -/

/-- A record's segment, held whole. -/
def segOf (b : Octets) : Segment :=
  let t0 : DT := BitVec.ofNat 80 (leAt b 0 10)
  let len := leAt b 0x0B 5
  let g : Segment :=
    { t0 := t0, len := len, evt := leAt b 0x0A 1 % 2 == 1, c0 := signed 48 (leAt b 0x10 6),
      c1 := signed 64 (leAt b 0x18 8), c2 := signed 64 (leAt b 0x20 8), c3 := signed 64 (leAt b 0x28 8),
      heldEnd := dtAdd t0 len, cls := .const, started := false, cycle := 0 }
  { g with cls := g.classify }

/-- A record is invalid (R178). -/
def badRecord (b : Octets) : Bool :=
  let len := leAt b 0x0B 5
  len < 4096000 || 2 ≤ leAt b 0x0A 1 || leAt b 0x16 2 != 0 || (segOf b).leaves

/-- The held segments after one that starts at X replaces the model from X on (R181). -/
def replaceFrom (segs : List Segment) (g : Segment) : List Segment :=
  (segs.filter fun h => h.t0.toNat < g.t0.toNat).map (fun h =>
    if g.t0.toNat < h.heldEnd.toNat then
      let h1 := { h with heldEnd := g.t0 }
      { h1 with cls := h1.classify }
    else h) ++ [g]

/-- A configuration selects a source for an axis (R179). -/
def takesFrom (m : RegMap) (a : AxisId) (src : RecSrc) : Bool :=
  let w := regGet m (axBase a)
  match src with
  | .host => fld w 0 4 == 0
  | .frame c x => fld w 0 4 == 8 + c.val && fld w 4 8 == x.toNat

/-- The axes that take records of a source. -/
def axesFor (m : RegMap) (src : RecSrc) : List AxisId := (List.finRange 8).filter fun a => takesFrom m a src

/-- The axes a record's source is selected for: by the configuration in force when it arrived (R194). -/
def State.axesOf (s : State) (r : RecIn) : List AxisId := r.sel.getD (axesFor (s.island islCrank).active r.src)

/-- A swap in Crank: records in its buffer that had arrived by DT_effect keep the sources selected before (R194). -/
def swapCrank (old : RegMap) (dtEff : DT) (s : State) : State :=
  let keep (r : RecIn) : RecIn :=
    if r.sel.isNone && r.at_.any (fun d => dtLe d dtEff) then { r with sel := some (axesFor old r.src) } else r
  { s with crank := { s.crank with recIn := s.crank.recIn.map keep } }

/-- The check of R180 that a record fails on an axis, by its cause in R195 (4 for late); `axes` take its source. -/
def recordCheck (s : State) (a : AxisId) (axes : List AxisId) (b : Octets) : Option Nat :=
  if !axes.contains a then some 7
  else if badRecord b then some 6
  else if !dtLe (dtAdd (s.replica islCrank) 2048000) (BitVec.ofNat 80 (leAt b 0 10)) then some 4
  else if 16 < (replaceFrom (s.axis a).segs (segOf b)).length then some 5
  else none

/-- Cause of a class that yields no targets (R184). -/
def classCause (c : SegClass) : Option Nat :=
  match c with
  | .nonmono => some 1
  | .slope => some 2
  | _ => none

/-- An accepted segment joins the axis model: classes it brings or gives are said, REVISED where it overtakes a
delivered time, and targets that wait are searched again, those in the solver once their result comes (R181, R184, R186,
R191). -/
def acceptSegment (a : AxisId) (g : Segment) (s : State) : State :=
  let x := s.axis a
  let segs := replaceFrom x.segs g
  let s1 := s.setAxis a { x with segs := segs, accepted := x.accepted + 1 }
  let s2 := match x.segs.find? fun h => h.t0.toNat < g.t0.toNat && g.t0.toNat < h.heldEnd.toNat with
    | some h =>
      let c := ({ h with heldEnd := g.t0 } : Segment).classify
      if c == h.cls then s1 else match classCause c with
        | some k => raiseAxis a k g.t0 s1
        | none => s1
    | none => s1
  let s3 := match classCause g.cls with
    | some k => raiseAxis a k g.t0 s2
    | none => s2
  let s4 := if g.t0.toNat ≤ x.lastDt.toNat then
      raiseAxis a 9 g.t0 (s3.modAxis a fun x => { x with revised := x.revised + 1 })
    else s3
  x.tgts.foldl (fun s t => match t.st with
    | .waiting srch => searchTarget a srch t s
    | .solving srch d again => s.modAxis a fun x => { x with
        tgts := modFirst (· == t) (fun t => { t with st := .solving srch d (again || g.t0.toNat ≤ d.toNat) }) x.tgts }
    | _ => s) s4

/-- A record decided on one axis (R180); `axes` take its source. -/
def decideRecord (a : AxisId) (axes : List AxisId) (src : RecSrc) (b : Octets) (s : State) : State :=
  let t0 : DT := BitVec.ofNat 80 (leAt b 0 10)
  let host := src == .host
  match recordCheck s a axes b with
  | some k =>
    let s1 := s.modAxis a fun x => { x with refused := x.refused + 1 }
    let s2 := if host then { s1 with crank := { s1.crank with segwState := 3, segwCause := BitVec.ofNat 4 k } } else s1
    match src with
    | .frame c _ => if k = 4 then raise (184 + 3 * c.val) 1 0 0 t0 s2 else raiseAxis a k t0 s2
    | .host => raiseAxis a k t0 s2
  | none =>
    let s1 := acceptSegment a { segOf b with cycle := slotOf s.dt } s
    if host then { s1 with crank := { s1.crank with segwState := 2, segwCause := 0 } } else s1

/-- SEGMENT_GO (R179): the staged record is sent; a GO while one is pending is ignored. -/
def execSegmentGo (a : AxisId) (s : State) : Out :=
  .next <| byHost s fun s => if s.crank.segwState = 1 then s else
    let bytes := (List.range 12).flatMap fun n => leOctets 4 (s.immAt (0xC800 + 4 * n)).toNat
    { s with crank := { s.crank with
      segwState := 1, segwCause := 0, recIn := s.crank.recIn ++ [⟨a, .host, bytes, true, if s.clocked then some s.dt else none, none⟩] } }

/-- SEGMENT_RECORD (R180): the oldest record in the input buffer is decided. A frame that no axis selects is counted once
(R179). -/
def execSegmentRecord (s : State) : Out :=
  .next <| if !s.ready islCrank then s else
    match s.crank.recIn with
    | r :: rest =>
      let axes := s.axesOf r
      let s1 := { s with crank := { s.crank with recIn := rest } }
      match r.src with
      | .host => decideRecord r.axis axes .host r.bytes s1
      | .frame _ _ =>
        if axes.isEmpty then
          { s1 with crank := { s1.crank with unmapped := if r.first then s1.crank.unmapped + 1 else s1.crank.unmapped } }
        else axes.foldl (fun s a => decideRecord a axes r.src r.bytes s) s1
    | [] => s

/-! ### Seams, starts and ends (R177, R182, R183) -/

/-- A seam at X from position pa to the new segment: SEAMJUMP beyond JTOL. -/
def seamAt (a : AxisId) (pa : Int × Nat) (g : Segment) (s : State) : State :=
  let jump := (g.c0 * pa.2 - pa.1).natAbs
  if s.axCfg a 14 8 * pa.2 < jump then
    raiseAxis a 3 g.t0 (s.modAxis a fun x => { x with jumps := x.jumps + 1 })
  else s

/-- SEAM (R182): one segment's held part has ended and the next begins, or the axis leaves DRY. -/
def execSeam (a : AxisId) (s : State) : Out :=
  .next <| if !s.ready islCrank then s else
    let x := s.axis a
    if x.dry then
      match x.segs with
      | g :: _ =>
        if g.t0.toNat ≤ s.dt.toNat then
          seamAt a (x.held, x.heldDen) g (s.setAxis a { x with dry := false })
        else s
      | [] => s
    else match x.segs with
      | f :: g :: rest =>
        if f.heldEnd.toNat ≤ s.dt.toNat ∧ g.t0 = f.heldEnd then
          seamAt a f.endPos g (s.setAxis a
            { x with segs := g :: rest, held := f.endPos.1, heldDen := f.endPos.2 })
        else s
      | _ => s

/-- SEGSTART (R177): the segment comes into force, and says so where its EVT is 1. -/
def execSegstart (a : AxisId) (s : State) : Out :=
  .next <| if !s.clocked then s else
    let x := s.axis a
    match x.inForce with
    | some g =>
      if g.started || s.dt.toNat < g.t0.toNat then s
      else
        let s1 := s.setAxis a { x with segs := { g with started := true } :: x.segs.tail }
        if g.evt then raiseAxis a 0 g.t0 s1 else s1
    | none => s

/-- DRY (R183): the segment in force has ended and no held segment starts there. -/
def execDry (a : AxisId) (s : State) : Out :=
  .next <| if !s.clocked then s else
    let x := s.axis a
    match x.inForce with
    | some g =>
      let next := x.segs.tail
      if g.heldEnd.toNat ≤ s.dt.toNat && !(next.head?.any fun h => h.t0 == g.heldEnd) then
        raiseAxis a 8 g.heldEnd (s.setAxis a
          { x with segs := next, dry := true, held := g.endPos.1, heldDen := g.endPos.2 })
      else s
    | none => s

/-- An axis when the clock returns (R194): segments whose end has passed go, without SEAMJUMP, SEGSTART or DRY, and
LOCK is raised with the DT of the gating. -/
def ungateAxis (a : AxisId) (s : State) : State :=
  let x := s.axis a
  let now := s.dt.toNat
  let gone := x.segs.filter fun g => g.heldEnd.toNat ≤ now
  let kept := (x.segs.filter fun g => now < g.heldEnd.toNat).map fun g =>
    if g.t0.toNat < now then { g with started := true } else g
  let held := match gone.getLast? with
    | some g => g.endPos
    | none => (x.held, x.heldDen)
  raiseAxis a 10 s.hub.closeDt (s.setAxis a
    { x with
      segs := kept, held := held.1, heldDen := held.2
      dry := !(kept.head?.any fun g => g.t0.toNat ≤ now) })

end Sys2Proof.Machine
end

