-- ==== Sys2Proof/Machine/Truing.lean ====
section
/-! DEFINITION. Truing: code density, trims, status, background bursts, full runs and the trim store (R197 to R225). -/

namespace Sys2Proof.Machine

/-! ### Status (R205, R206) -/

/-- Die temperature in 0.25 degrees (R400). -/
def State.temp (s : State) : Int := signed 12 s.dyn.temp.toNat

/-- Condition 4 of R205. -/
def tempOk (x : TruItem) (t : Int) : Bool :=
  (t - x.tempRes).natAbs ≤ 20 && (match x.tempRun with | some r => (t - r).natAbs ≤ 80 | none => true)

/-- The cause of NOT TRUE by the first condition of R205 that fails; 0 for TRUE. -/
def causeOf (x : TruItem) (t : Int) : Nat :=
  if !x.loaded then 1
  else if x.runCode != 0 then x.runCode.toNat
  else if x.range then 6
  else if !tempOk x t then 2
  else if x.slew then 3
  else 0

/-- The trim of a code; an untrimmed item has 0 everywhere. -/
def trimAt (l : List Int) (n : Nat) : Int := l.getD n 0

/-- The largest pending correction of an item, in steps (R203). -/
def pendingMax (x : TruItem) : Nat :=
  (List.range (max x.trims.length x.target.length)).foldl (fun m n => max m (trimAt x.target n - trimAt x.trims n).natAbs) 0

/-- Condition 5 of R205: broken by a correction above 0.2 ft, restored when all are 0.1 ft or less. -/
def TruItem.noteSlew (x : TruItem) : TruItem :=
  let m := pendingMax x
  { x with slew := if 51 < m then true else if m ≤ 25 then false else x.slew }

/-- An item's status is tested, and a change is raised at `d` (R205, R206). -/
def settle (it : ItemId) (d : DT) (s : State) : State :=
  let x := (s.item it).noteSlew
  let c := causeOf x s.temp
  let s1 := s.setItem it { x with cause := BitVec.ofNat 8 c }
  if x.cause.toNat = c then s1 else raise (if it.val < 64 then 228 else 229) c it.val 0 d s1

/-- Every item's status is tested. -/
def settleAll (s : State) : State := forEach 68 (fun it s => settle it s.dt s) s

/-! ### Histograms (R199 to R202) -/

/-- Hits outside the 4 096 codes. -/
def strayHits (counts : List Nat) : Nat := 1048576 - counts.sum

/-- The coarse bound of R199 is broken. -/
def boundBroken (counts : List Nat) : Bool := 1024 < strayHits counts || counts.any (· == 0)

/-- Two histograms agree (R200): with counts for widths, the squares add up to at most 0.0225 x 4096 x 65536. -/
def agree (a b : List Nat) : Bool :=
  ((a.zip b).map fun p => ((p.1 : Int) - p.2).natAbs ^ 2).sum ≤ 6039797

/-- Half a sum of two counts, a tie going as the configuration leaves it. -/
def halfSum (n : Nat) : Nat := if n % 2 = 0 then n / 2 else if Config.trimTie n then n / 2 + 1 else n / 2

/-- The trims a result asks for: each code's trim moved by what its width lacks of 1 ft (R200, R202). -/
def wantedTrims (now : List Int) (a b : List Nat) : List Int :=
  (a.zip b).zipIdx.map fun p => trimAt now p.2 + 256 - (halfSum (p.1.1 + p.1.2) : Nat)

def outOfRange (t : Int) : Bool := t < -128 || 127 < t

/-- A trim held inside its range (R202). -/
def holdTrim (t : Int) : Int := if t < -128 then -128 else if 127 < t then 127 else t

/-- The group of an item's hit source (R198). -/
def groupOf (it : ItemId) : Nat := if it.val < 64 then it.val / 8 else 8

/-- Hit time of an item up to now. -/
def State.hits (s : State) (it : ItemId) : Nat :=
  let x := s.item it
  x.hitTime + match x.hitFrom with | some f => s.dt.toNat - f | none => 0

/-- The interpolator that the hub source is to serve is connected to it (R207, R198; log entry 20). -/
def connectPi (s : State) : State :=
  let it : ItemId := Fin.ofNat 68 (64 + s.truing.turn[8] % 4)
  if s.clocked && bit (s.act 0x4000) 1 then
    s.modItem it fun x => { x with hitFrom := some (x.hitFrom.getD s.dt.toNat) }
  else s

/-- A histogram has ended: the hit time starts anew, and the hub source goes to the next interpolator. -/
def endHist (it : ItemId) (s : State) : State :=
  let s1 := s.modItem it fun x =>
    { x with hitTime := 0, hitFrom := if it.val < 64 then x.hitFrom.map fun _ => s.dt.toNat else none }
  if it.val < 64 then s1
  else connectPi { s1 with truing := { s1.truing with turn := s1.truing.turn.set 8 ((it.val - 64 + 1) % 4) } }

/-- A background pair or histogram gave no result (R210). -/
def rejectHist (it : ItemId) (cause : Nat) (s : State) : State :=
  let s1 := s.modItem it fun x => { x with reject := x.reject + 1 }
  if bit (s.act 0x4000) 2 then raise 231 cause it.val 0 s.dt s1 else s1

/-- A background pair that agrees: the trims move toward the result, and the item's temperature record is renewed
(R202, R203, R205). -/
def acceptPair (it : ItemId) (a b : List Nat) (s : State) : State :=
  let x := s.item it
  let w := wantedTrims x.trims a b
  let out := w.any outOfRange
  let s1 := s.setItem it { x with
    loaded := true, target := w.map holdTrim, range := out, tempRes := s.temp, accept := x.accept + 1 }
  let s2 := if out && bit (s.act 0x4000) 2 then raise 231 6 it.val 0 s.dt s1 else s1
  settle it s.dt { s2 with truing := { s2.truing with dirty := s2.truing.dirty || !x.loaded } }

/-- A histogram of a full run (R201, R213): its failure, if it is the run's first, becomes the run's outcome. After the
second the run needs the source no more. -/
def runHist (i : SpokeId) (counts : List Nat) (late : Bool) (s : State) : State :=
  let r := s.req i
  let bad (c : Nat) : Option (BitVec 8) := some (r.fail.getD (BitVec.ofNat 8 c))
  let fail := if boundBroken counts then bad 5 else if late then bad 7 else r.fail
  match r.histA with
  | none => s.setReq i { r with histA := some counts, fail := fail }
  | some a =>
    let w := wantedTrims (s.item (itemOf i)).trims a counts
    (s.modItem (itemOf i) fun x => { x with hitFrom := none, hitTime := 0 }).setReq i { r with
      histB := some counts
      fail := if fail.isSome then fail else if !agree a counts then bad 4 else if w.any outOfRange then bad 6 else none }

/-- E234: a completed histogram whose source ran below 240 MHz (R224). -/
def sayRateLow (it : ItemId) (s : State) : State :=
  if 4294967296000 < 240 * s.hits it then raise 234 7 (groupOf it) 0 s.dt s else s

/-- The hit time of R199, within which a histogram is to be complete. -/
def hitLimit : Nat := 17899520000

/-- HISTOGRAM_COMPLETE (R199 to R201). -/
def execHistogramComplete (it : ItemId) (counts : List Nat) (s : State) : Out :=
  .next <|
    let x := s.item it
    if !s.clocked || x.hitFrom.isNone then s
    else
      let s1 := endHist it (sayRateLow it s)
      let late : Bool := hitLimit < s.hits it
      let i : SpokeId := Fin.ofNat 64 it.val
      if it.val < 64 ∧ (s.req i).st = 2 then runHist i counts late s1
      else if boundBroken counts then rejectHist it 5 s1
      else if late then rejectHist it 7 s1
      else
        let s2 := s1.modItem it fun x => { x with prev := some counts }
        match x.prev with
        | none => s2
        | some a => if agree a counts then acceptPair it a counts s2 else rejectHist it 4 s2

/-- HISTOGRAM_TIMEOUT (R199). -/
def execHistogramTimeout (it : ItemId) (s : State) : Out :=
  .next <|
    if !s.clocked || (s.item it).hitFrom.isNone || s.hits it < hitLimit then s
    else
      let i : SpokeId := Fin.ofNat 64 it.val
      let s1 := endHist it s
      if it.val < 64 ∧ (s.req i).st = 2 then
        s1.modReq i fun r => { r with fail := some (r.fail.getD 7) }
      else rejectHist it 7 s1

/-- A launch or a capture uses a tap of an item at a coarse clock edge: one falls on it in the coarse cycle that begins
there (R55, R203). -/
def State.tapInUse (s : State) (it : ItemId) (tap : Nat) : Bool :=
  let i : SpokeId := Fin.ofNat 64 it.val
  let x := dtAdd s.dt tap
  it.val < 64 && (s.launchesAt i x || (s.spoke i).lastStamp == some x)

/-- TRIM_STEP (R203): one step of one code, at a coarse clock edge; one tap at a time, and none that is in use. -/
def execTrimStep (it : ItemId) (tap : Fin 4096) (s : State) : Out :=
  .next <|
    let x := s.item it
    let now := trimAt x.trims tap.val
    let want := trimAt x.target tap.val
    let recent := x.stepAt.filter fun p => s.clock < p.2 + ftMs
    if !s.clocked || s.dt.toNat % 4096 != 0 || now == want || recent.any (fun p => p.1 == tap.val || p.2 == s.clock) ||
        s.tapInUse it tap.val ||
        (it.val < 64 && (s.req (Fin.ofNat 64 it.val)).st == 2) then s
    else
      let full := if x.trims.isEmpty then List.replicate 4096 0 else x.trims
      let s1 := s.setItem it { x with
        trims := full.set tap.val (if now < want then now + 1 else now - 1), stepAt := (tap.val, s.clock) :: recent }
      settle it s.dt { s1 with truing := { s1.truing with dirty := true } }

/-! ### Background bursts (R207 to R209) -/

/-- A descriptor is executing or a window is open. -/
def State.busySpoke (s : State) (i : SpokeId) : Bool :=
  (s.spoke i).queue.any fun e => !e.done && (e.opened || e.edges != 0)

/-- A full run holds a group's hit source. -/
def State.runInGroup (s : State) (g : Nat) : Bool :=
  (List.finRange 64).any fun j => j.val / 8 == g && (s.req j).st == 2

/-- The conditions of R207 that a full run needs too: the path, free capture, the source, and nothing executing. -/
def State.idleSpoke (s : State) (i : SpokeId) : Bool :=
  s.clocked && (match s.owner i with | some v => (s.engine v).state == .stopped | none => true) &&
  !bit (s.act (spBase i + 8)) 0 && !s.runInGroup (i.val / 8) && !s.busySpoke i

/-- A spoke may be measured in the background now (R207, R208). -/
def State.burstOk (s : State) (i : SpokeId) : Bool :=
  s.idleSpoke i && bit (s.act 0x4000) 0 && bit (s.act (0x4400 + 16 * i.val)) 0 &&
  (s.nextLaunch i).all (fun n => dtLe (dtAdd s.dt 8192000) n) && dtLe (dtAdd (s.req i).idleFrom 409600) s.dt

/-- The spoke of a group that the source serves next (R208). -/
def State.nextServed (s : State) (g : Fin 8) : Option SpokeId :=
  let from_ := s.truing.turn[g.val]
  ((List.range 8).map fun k => (Fin.ofNat 64 (8 * g.val + (from_ + k) % 8) : SpokeId)).find? s.burstOk

/-- A burst of a group's source is in progress. -/
def State.burstIn (s : State) (g : Nat) : Bool :=
  (List.finRange 64).any fun j => j.val / 8 == g && (s.req j).burst.isSome

/-- BURST_START (R208). -/
def execBurstStart (i : SpokeId) (s : State) : Out :=
  .next <|
    let g : Fin 8 := Fin.ofNat 8 (i.val / 8)
    if !s.burstIn g.val && s.nextServed g == some i then
      let s1 := s.modReq i fun r => { r with burst := some s.dt }
      let s2 := s1.modItem (itemOf i) fun x => { x with hitFrom := some s.dt.toNat }
      { s2 with truing := { s2.truing with turn := s2.truing.turn.set g.val ((i.val + 1) % 8) } }
    else s

/-- A burst ends; its hits stand. -/
def stopBurst (i : SpokeId) (s : State) : State :=
  if (s.req i).burst.isSome then (stopHits (itemOf i) s).modReq i fun r => { r with burst := none } else s

/-- BURST_END (R208): 100 ns before the next launch or opening, or after 100 us. -/
def execBurstEnd (i : SpokeId) (s : State) : Out :=
  .next <| match (s.req i).burst with
  | some b =>
    if s.clocked && dtLe (s.burstEnd i b) s.dt then stopBurst i s else s
  | none => s

/-! ### Full runs (R211 to R217) -/

/-- TU_SP_REQ of a spoke. -/
def tuReq (i : SpokeId) : Nat := 0x4404 + 16 * i.val

/-- FULL_RUN_REQUEST: a write of TU_SP_REQ with GO = 1 (R211). -/
def execFullRunRequest (i : SpokeId) (dl : BitVec 20) (s : State) : Out :=
  .next <| byHost s fun s =>
    let s1 := { s with imm := regPut s.imm (tuReq i) (word (dl.toNat * 4)) }
    let r := s.req i
    if r.st = 1 ∨ r.st = 2 then raiseNow 230 0x10 i.val 0 s1
    else
      let ms := if dl = 0 then max 1 (fld (s.act 0x4008) 0 20) else dl.toNat
      s1.setReq i { r with st := 1, deadline := dtAdd s.now (ms * ftMs), phase := .entry, histA := none, histB := none, fail := none }

/-- FULL_RUN_WITHDRAW: a write of TU_SP_REQ with WITHDRAW = 1 (R211). -/
def execFullRunWithdraw (i : SpokeId) (s : State) : Out :=
  .next <| byHost s fun s =>
    let r := s.req i
    if r.st = 1 then raiseNow 230 0x11 i.val 0 (s.setReq i { r with st := 0, outcome := 0x11 }) else s

/-- A queued request finds both conditions of R212. -/
def State.runOk (s : State) (i : SpokeId) : Bool :=
  (s.req i).st == 1 && !dtLe (s.req i).deadline s.dt && s.idleSpoke i &&
  (s.nextLaunch i).all fun n => dtLe (dtAdd s.dt 51204096000) n

/-- A request of the same group goes first: an earlier deadline, then a lower spoke (R212). -/
def State.runFirst (s : State) (i : SpokeId) : Bool :=
  (List.finRange 64).all fun j =>
    let a := (s.req j).deadline.toNat
    let b := (s.req i).deadline.toNat
    !(j.val / 8 == i.val / 8 && s.runOk j && (a < b || (a == b && j.val < i.val)))

/-- FULL_RUN_START (R212, R213): the run takes the group's source; the driver goes to Hi-Z and capture off. -/
def execFullRunStart (i : SpokeId) (s : State) : Out :=
  .next <|
    if s.runOk i && s.runFirst i then
      let s1 := forEach 8 (fun k => stopBurst (Fin.ofNat 64 (i.val / 8 * 8 + k.val))) s
      let s2 := s1.modReq i fun r =>
        { r with st := 2, phase := .entry, x := s.dt, drvX := (s.spoke i).drv, histA := none, histB := none, fail := none
                 old := none }
      let s3 := s2.modItem (itemOf i) fun x => { x with hitTime := 0, hitFrom := none }
      s3.modSpoke i fun sp => { sp.put s.dt .hiz with capOff := true, capFrom := none }
    else s

/-- A run has reached an offset from X in a phase. -/
def State.runAt (s : State) (i : SpokeId) (ph : RunPhase) (off : Nat) : Bool :=
  let r := s.req i
  s.clocked && r.st == 2 && r.phase == ph && dtLe (dtAdd r.x off) s.dt

/-- DELAY_PHASE_START (R213): the source is connected. -/
def execDelayPhaseStart (i : SpokeId) (s : State) : Out :=
  .next <|
    if s.runAt i .entry 819200000 then
      (s.modReq i fun r => { r with phase := .delay }).modItem (itemOf i) fun x =>
        { x with hitTime := 0, hitFrom := some s.dt.toNat }
    else s

/-- The comparator's input is differential (R76, R79). -/
def State.diffIn (s : State) (i : SpokeId) : Bool :=
  let m := (s.island (islSpoke i)).active
  diffInput m i (s.outIn m i)

/-- THRESHOLD_PHASE_START (R213, R214): `uv` is the pin's static level in microvolts as the voltmeter reads it. -/
def execThresholdPhaseStart (i : SpokeId) (uv : Int) (s : State) : Out :=
  .next <|
    if s.runAt i .delay 36864000000 then
      let bad := if s.diffIn i then uv < -150000 || 150000 < uv else uv < -50000 || 3350000 < uv
      (s.modItem (itemOf i) fun x => { x with hitFrom := none, hitTime := 0 }).modReq i fun r =>
        let f := if r.fail.isSome then r.fail else if r.histB.isNone then some 7 else if bad then some 9 else none
        { r with phase := .threshold, level := uv, fail := f }
    else s

/-- THRESHOLD_SAMPLE (R215): `uv` is what the voltmeter reads. -/
def execThresholdSample (i : SpokeId) (uv : Int) (s : State) : Out :=
  .next <|
    let r := s.req i
    let lim := if s.diffIn i then 25000 else 150000
    if s.clocked && r.st == 2 && r.phase == .threshold && lim < (uv - r.level).natAbs then
      s.setReq i { r with fail := some (r.fail.getD 8) }
    else s

/-- A threshold at an offset of `thr` trim steps from the level lies within the converter's reach (R79, R214), in half
microvolts. -/
def thrOk (diff : Bool) (level thr : Int) : Bool :=
  if diff then -384000 ≤ 2 * level + 125 * thr && 2 * level + 125 * thr ≤ 383500
  else -128000 ≤ 2 * level + 500 * thr && 2 * level + 500 * thr ≤ 6728000

/-- APPLY_PHASE_START (R213, R204): `thr` is the offset the threshold search found, in trim steps. -/
def execApplyPhaseStart (i : SpokeId) (thr : Int) (s : State) : Out :=
  .next <|
    if s.runAt i .threshold 49152000000 then
      let r := s.req i
      let f := if r.fail.isSome then r.fail else if thrOk (s.diffIn i) r.level thr then none else some 6
      let x := s.item (itemOf i)
      match f, r.histA, r.histB with
      | none, some a, some b =>
        let w := (wantedTrims x.trims a b).map holdTrim
        let s1 := s.setReq i { r with phase := .apply_, old := some (x.trims, x.target, x.thr, x.range, x.loaded) }
        s1.setItem (itemOf i) { x with trims := w, target := w, thr := thr, range := false, loaded := true }
      | _, _, _ => s.setReq i { r with phase := .apply_, fail := f, old := none }
    else s

/-- FULL_RUN_END (R216): the driver and capture come back, and the outcome is reported. -/
def execFullRunEnd (i : SpokeId) (s : State) : Out :=
  .next <|
    if s.runAt i .apply_ 51200000000 then
      let r := s.req i
      let ok := r.fail.isNone
      let code := r.fail.getD 0
      let s1 := s.setReq i { r with st := 3, outcome := code, phase := .entry, histA := none, histB := none, old := none, idleFrom := s.dt }
      let s2 := s1.modSpoke i fun sp => { sp.put s.dt r.drvX with capOff := false }
      let s3 := s2.modItem (itemOf i) fun x =>
        if ok then { x with runCode := 0, tempRes := s.temp, tempRun := some s.temp, slew := false } else { x with runCode := code }
      let s4 := raise 230 code.toNat i.val 0 s.dt s3
      let s5 := if ok then
          { s4 with truing := { s4.truing with dirty := true, afterRun := s4.truing.afterRun ++ [s.clock] } }
        else s4
      settle (itemOf i) s.dt s5
    else s

/-- REQUEST_EXPIRED (R212): the deadline passes while the request is queued. -/
def execRequestExpired (i : SpokeId) (s : State) : Out :=
  .next <|
    let r := s.req i
    if s.clocked && r.st == 1 && dtLe r.deadline s.dt then
      let s1 := (s.setReq i { r with st := 3, outcome := 0x0A }).modItem (itemOf i) fun x => { x with runCode := 0x0A }
      settle (itemOf i) r.deadline (raise 230 0x0A i.val 0 r.deadline s1)
    else s

/-! ### The trim store (R220 to R223) -/

/-- All trims with validity and temperatures (R220). -/
def copyTrims (s : State) : List (List Int × Int × Bool × Int × Option Int) :=
  s.truing.items.toList.map fun x => (x.trims, x.thr, x.loaded, x.tempRes, x.tempRun)

/-- MAGIC and LENGTH of a trim slot. -/
def trimMagic : Word := 0x47525554
def trimLength : Word := 0x00044440

/-- The CRC of a trim slot: over its header but for the CRC, and the trim data (R220). -/
def TrimSlot.crcOf (t : TrimSlot) : Word :=
  crc32 (leOctets 4 t.magic.toNat ++ leOctets 4 t.gen.toNat ++ leOctets 4 t.length.toNat ++ leOctets 4 t.serial.toNat ++
    leOctets 4 t.fusecrc.toNat ++ List.replicate 40 0 ++ Config.trimData t.items)

/-- What a completed store leaves in its slot. -/
def State.slotOfStore (s : State) (gen : Word) (items : List (List Int × Int × Bool × Int × Option Int)) : TrimSlot :=
  let t : TrimSlot :=
    { magic := trimMagic, gen := gen, length := trimLength, crc := 0, serial := s.hb.fuse.serial
      fusecrc := s.hb.fuse.crc, items := items }
  { t with crc := t.crcOf }

/-- A slot is valid on this module (R221). -/
def State.slotValid (s : State) (t : TrimSlot) : Bool :=
  t.magic == trimMagic && t.length == trimLength && t.crc == t.crcOf && t.serial == s.hb.fuse.serial &&
  t.fusecrc == s.hb.fuse.crc

/-- Pages of trim data: 0x44440 bytes after the 64-byte header, the header's own page programmed last. -/
def storePages : Nat := 1093

/-- A store begins with a copy of all trims, on the slot that does not hold the newest valid data (R222). -/
def beginStore (s : State) : State :=
  let t := s.truing
  let slot := if t.noSlot then false else !t.newest
  { s with truing := { t with
    storeState := 1
    job := some ⟨slot, if t.noSlot then 1 else t.gen + 1, 0, copyTrims s⟩
    dirty := false, lastStore := s.clock, afterRun := []
    slotA := if slot then t.slotA else TrimSlot.blank
    slotB := if slot then TrimSlot.blank else t.slotB } }

/-- STORE_GO (R222): ignored while a store is in progress. -/
def execStoreGo (s : State) : Out := .next (byHost s fun s => if s.truing.job.isSome then s else beginStore s)

/-- TU_CTRL.AUTOSTORE. -/
def State.autostore (s : State) : Bool := bit (s.act 0x4000) 3

/-- AUTOSTORE_INTERVAL (R222). -/
def execAutostoreInterval (s : State) : Out :=
  .next <|
    let ivl := fld (s.act 0x4004) 0 16
    if s.clocked && s.autostore && s.truing.dirty && ivl != 0 && s.truing.job.isNone &&
        s.truing.lastStore + ivl * 60 * ftS ≤ s.clock then beginStore s
    else s

/-- AUTOSTORE_AFTER_RUN (R222): 60 s after a full run that ended TRUE, if no store has begun since. -/
def execAutostoreAfterRun (s : State) : Out :=
  .next <| match s.truing.afterRun with
  | t :: rest =>
    if s.clocked && s.truing.job.isNone && t + 60 * ftS ≤ s.clock then
      if s.autostore then beginStore s else { s with truing := { s.truing with afterRun := rest } }
    else s
  | [] => s

/-- A store ends without a whole slot: abandoned, or failed its verify (R223, R224). -/
def endStore (cause : Nat) (s : State) : State :=
  raise 232 cause 0 0 s.dt { s with truing := { s.truing with
    storeState := 3, job := none, dirty := true, abandonedCnt := s.truing.abandonedCnt + 1 } }

/-- A page program may still be running. -/
def State.pageBusy (s : State) : Bool := s.truing.pageTo.any fun t => s.clock < t

/-- PAGE_PROGRAM (R223): the next page, once Dynamo confirms hold-up. -/
def execPageProgram (s : State) : Out :=
  .next <| match s.truing.job with
  | some j =>
    if !s.clocked || s.pageBusy || storePages ≤ j.page then s
    else if s.dyn.confirmed then
      { s with truing := { s.truing with job := some { j with page := j.page + 1 }, pageTo := some (s.clock + ftMs) } }
    else endStore 2 s
  | none => s

/-- STORE_COMPLETE (R222, R224): the header is programmed last; a page that fails its verify ends the store. -/
def execStoreComplete (ok : Bool) (s : State) : Out :=
  .next <| match s.truing.job with
  | some j =>
    if !s.clocked then s
    else if !ok then endStore 3 s
    else if j.page < storePages then s
    else if !s.dyn.confirmed then endStore 2 s
    else
      let t := s.truing
      let slot := s.slotOfStore j.gen j.copy
      raise 232 1 0 0 s.dt { s with truing := { t with
        storeState := 2, job := none, newest := j.slot, noSlot := false, gen := j.gen, saved := t.saved + 1
        slotA := if j.slot then t.slotA else slot
        slotB := if j.slot then slot else t.slotB } }
  | none => s

/-- Slot 1 is newer than slot 0 (R221). -/
def slotBNewer (a b : TrimSlot) : Bool :=
  let d := (b.gen - a.gen).toNat
  1 ≤ d && d < 2 ^ 31

/-- The load during start-up (R221). -/
def loadTrims (s : State) : State :=
  let a := s.truing.slotA
  let b := s.truing.slotB
  let va := s.slotValid a
  let vb := s.slotValid b
  if !va && !vb then
    raise 233 3 0 0 s.dt { s with truing := { s.truing with noSlot := true, newest := false, gen := 0 } }
  else
    let useB := vb && (!va || slotBNewer a b)
    let sl := if useB then b else a
    let s1 := { s with truing := { s.truing with noSlot := false, newest := useB, gen := sl.gen } }
    let s2 := forEach 68 (fun it s =>
      match sl.items[it.val]? with
      | some (tr, th, ld, tres, trun) =>
        s.modItem it fun x => { x with
          loaded := ld, trims := tr, target := tr, thr := th, tempRes := tres, tempRun := trun
          range := tr.any fun t => t == -128 || t == 127 }
      | none => s) s1
    settleAll (raise 233 (if va && vb then 1 else 2) (b1 useB) 0 s.dt s2)

/-! ### Gates and swaps (R218, R219) -/

/-- The gates close on Truing: histograms and bursts are discarded, and a run in progress goes back to the queue. -/
def gateTruing (s : State) : State :=
  let s1 := forEach 64 (fun i s =>
    let s1 := s.modReq i fun r => { r with burst := none }
    if (s.req i).st = 2 then (abortRun i s1).modSpoke i fun sp => { sp with capOff := false } else s1) s
  { s1 with truing := { s1.truing with items := s1.truing.items.map fun x => { x with hitTime := 0, hitFrom := none } } }

/-- Truing's clock returns after a gating: SUSPENDED is raised with its DT, and status is tested again. -/
def ungateTruing (again : Bool) (s : State) : State :=
  let s1 := forEach 64 startGap s
  let s2 := if again then raise 235 1 0 0 s.hub.closeDt s1 else s1
  settleAll (connectPi s2)

/-- A commit swap in Truing (R219): a cleared BGEN or BG ends bursts in progress; PIEN connects or frees the hub
source. -/
def swapTruing (s : State) : State :=
  let s1 := forEach 64 (fun i s =>
    if bit (s.act 0x4000) 0 && bit (s.act (0x4400 + 16 * i.val)) 0 then s else stopBurst i s) s
  if bit (s.act 0x4000) 1 then connectPi s1
  else forEach 4 (fun k => stopHits (Fin.ofNat 68 (64 + k.val))) s1

end Sys2Proof.Machine
end

