-- ==== Sys2Proof/Machine/Exchange.lean ====
section
/-! DEFINITION. The two-way time exchange that Chain ports, ring hops and the Pair lane share (R281 to R284, R327,
R343), and what Noon announces of its root. -/

namespace Sys2Proof.Machine

/-- A quotient whose rounding no rule gives: one of the two whole numbers next to it. -/
def freeDiv (num : Int) (den : Nat) : Int :=
  num / (den : Int) + if num % (den : Int) ≠ 0 ∧ Config.roundUp num den then 1 else 0

/-- The difference of two DTs, modulo 2^80 and read as signed (R281). -/
def dtDiff (a b : DT) : Int := (a - b).toInt

/-- The four instants of an exchange (R281). -/
structure Exch where
  a : DT
  b : DT
  c : DT
  d : DT
  deriving DecidableEq, Repr

/-- RT of R281. -/
def Exch.rt (x : Exch) : Int := dtDiff x.d x.a - dtDiff x.c x.b

/-- The latencies and fibre constants that go into alpha (R282). -/
structure Lats where
  txl : Nat
  rxl : Nat
  txp : Nat
  rxp : Nat
  fix : Int
  coef : Int
  deriving DecidableEq, Repr

/-- alpha of R282 for a mean path delay. -/
def alphaOf (l : Lats) (dmean : Int) : Int :=
  let sum : Int := (l.txl + l.rxl + l.txp + l.rxp : Nat)
  (l.txl + l.rxp : Nat) - (l.txp + l.rxl : Nat) + l.fix + freeDiv (l.coef * (2 * dmean - sum)) (2 ^ 33)

/-- A used exchange meets the gate and filter of R283: the estimator, and whether the exchange was taken. -/
def estimate (est : Estim) (gateNs kd : Nat) (l : Lats) (x : Exch) (clock : Nat) : Estim × Bool :=
  let rt := x.rt
  if est.valid && est.rejects < 16 && gateNs != 0 && 2 * gateNs * 4096 < (rt - 2 * est.dmean).natAbs then
    ({ est with rejects := est.rejects + 1 }, false)
  else
    let m := if !est.valid || 16 ≤ est.rejects then freeDiv rt 2
      else est.dmean + nearest Config.tieUp (rt - 2 * est.dmean) (2 ^ (kd + 1))
    let al := alphaOf l m
    ({ est with
      dmean := m, valid := true, rejects := 0, alpha := al, usedAt := clock, usedD := x.d
      err := dtDiff x.d x.c - freeDiv (2 * m - al) 2 }, true)

/-- A timestamp at a resolution of R275: 1, 16 or 4 096 ft. -/
def truncDt (res : Byte) (d : DT) : DT :=
  if res.getLsbD 0 then d else if res.getLsbD 1 then d &&& ~~~(0xF#80) else d &&& ~~~(0xFFF#80)

/-- What this module announces of its root: identity, hops, quality and TAI (R246, R280; log entry 30). -/
structure Root where
  id : BitVec 64
  hops : Nat
  qual : Nat
  tai : Bool
  deriving DecidableEq, Repr

/-- The candidate in use. -/
def State.srcCand (s : State) : Cand := s.noon.cands.get (Fin.ofNat 16 s.noon.src.toNat)

/-- The quality announced: 4 free-running, 3 in holdover, 0 with TAI from PPSIN, 1 with TAI from the network, else 2. -/
def State.announcedQual (s : State) : Nat :=
  if s.noon.state = 0 then 4
  else if s.noon.state = 3 then 3
  else if s.noon.src = 0xA then (if s.srcCand.tai then 0 else 2)
  else if s.srcCand.tai then 1 else 2

/-- The announced root. -/
def State.root (s : State) : Root :=
  let q := s.announcedQual
  let tai := s.noon.epoch && q ≤ 1
  if s.noon.state.toNat % 3 = 0 ∨ s.noon.src = 0xA ∨ s.noon.src = 0xF then ⟨s.ident, 0, q, tai⟩
  else ⟨s.srcCand.root, s.srcCand.hops + 1, q, tai⟩

/-- A measurement on its way to Noon. -/
def deliver (m : Meas) (s : State) : State := { s with noon := { s.noon with inbox := s.noon.inbox ++ [m] } }

end Sys2Proof.Machine
end

