-- ==== Sys2Proof/Machine/Lane.lean ====
section
/-! DEFINITION. What a Chain port puts on its lane: SZL frames, Stamps in both forms, PTP time, and their order (R263, R272,
R280, R287, R292, R293). -/

namespace Sys2Proof.Machine

/-! ### Ethernet frames (R272) -/

/-- The destination address of SZL frames. -/
def szlAddr : Octets := [0x03, 0xCA, 0xE7, 0x00, 0x00, 0x01]

/-- The source address of a port: CP_MAC_HI holds octets 0 and 1, CP_MAC_LO octets 2 to 5, little-endian as R8 says. -/
def State.portMac (s : State) (c : PortId) : Octets :=
  leOctets 2 (s.act (cpBase c + 0x30)).toNat ++ leOctets 4 (s.act (cpBase c + 0x2C)).toNat

/-- A frame with its FCS, the payload padded to the Ethernet minimum. -/
def ethFrame (src : Octets) (etherType : Nat) (payload : Octets) : Octets :=
  let body := szlAddr ++ src ++ beOctets 2 etherType ++ payload ++ List.replicate (46 - payload.length) 0
  body ++ leOctets 4 (crc32 body).toNat

/-! ### PTP time (R292) -/

/-- secondsField of a DT. -/
def ptpSeconds (d : DT) : Nat := d.toNat / 4096000000000 % 2 ^ 48

/-- nanosecondsField of a DT. -/
def ptpNanos (d : DT) : Nat := d.toNat % 4096000000000 / 4096

/-- What is left of a DT, as a correctionField in units of 2^-16 ns. -/
def ptpRest (d : DT) : Nat := d.toNat % 4096 * 16

/-- The DT of a Timestamp and a correctionField; a correction that is no whole number of ft goes as the configuration
leaves it. -/
def ptpDt (secs nanos : Nat) (corr : Int) : DT :=
  dtAddI (BitVec.ofNat 80 (secs * 4096000000000 + nanos * 4096)) (freeDiv corr 16)

/-- The flagField of a message: ptpTimescale is set where DT is the PTP timescale (R292). -/
def ptpFlags (epoch : Bool) : Octets := [0, BitVec.ofNat 8 (8 * b1 epoch)]

/-! ### Stamps (R280, R293) -/

/-- The resolution settled, 1 ft before any mode. -/
def Port.res (p : Port) : Byte := match p.modeR with | some m => m.res | none => 1

/-- The octets of a Stamp after its TXTS: the echo, and what Noon announces. -/
def stampRest (s : State) (c : PortId) : Octets :=
  let r := s.root
  let (eseq, etx, erx) : Nat × DT × DT := match (s.port c).est.got with
    | some (q, t, d, _) => (q.toNat, t, d)
    | none => (0, 0, 0)
  leOctets 2 eseq ++ leOctets 10 etx.toNat ++ leOctets 10 erx.toNat ++ leOctets 8 r.id.toNat ++ leOctets 1 r.hops ++
    leOctets 1 r.qual ++ List.replicate 6 0

/-- FLAGS of a Stamp: TAI, COARSE, ECHOV and ECHOCOARSE. -/
def stampFlags (s : State) (c : PortId) : Nat :=
  let (ev, ec) := match (s.port c).est.got with
    | some (_, _, _, k) => (true, k)
    | none => (false, false)
  b1 s.root.tai + 2 * b1 s.outage + 4 * b1 ev + 8 * b1 ec

/-- A PDU with its header: VER, TYPE, LEN, SEQ, FLAGS, ID (R272). -/
def pduOf (s : State) (c : PortId) (ty flags : Nat) (body : Octets) : Octets :=
  [1, BitVec.ofNat 8 ty] ++ leOctets 2 (16 + body.length) ++ leOctets 2 ((s.port c).seqs.get (Fin.ofNat 9 ty)).toNat ++
    leOctets 2 flags ++ leOctets 8 s.ident.toNat ++ body

/-- A Stamp as an IEEE 1588-2019 Sync message (R293). The octets of its TLV are FLAGS and then the Stamp PDU's from 0x1A
on (DESIGN CHOICE: R293 gives the TLV's fields no order; log entry 101); the header's fields that no rule names are as
IEEE 1588 has them (PRESUMED: log entry 101). -/
def syncMessage (s : State) (c : PortId) (tx : DT) : Octets :=
  let cfg := s.act (cpBase c + 4)
  [0x00, 0x12] ++ beOctets 2 94 ++ [BitVec.ofNat 8 (fld cfg 15 8), 0] ++ ptpFlags s.noon.epoch ++ beOctets 8 (ptpRest tx) ++
    beOctets 4 0 ++ beOctets 8 s.ident.toNat ++ beOctets 2 (c.val + 1) ++ beOctets 2 ((s.port c).seqs.get 5).toNat ++
    [0, Config.syncInterval (fld cfg 12 2)] ++ beOctets 6 (ptpSeconds tx) ++ beOctets 4 (ptpNanos tx) ++
    beOctets 2 3 ++ beOctets 2 46 ++ leOctets 3 (s.act (cpBase c + 0x34)).toNat ++ [0, 0, 1] ++
    leOctets 2 (stampFlags s c) ++ stampRest s c

/-- A Stamp's frame, and its TXTS: the DT of its timestamp point at the resolution settled. -/
def stampFrame (s : State) (c : PortId) : Octets × DT :=
  let tx := truncDt (s.port c).res s.now
  if bit (s.act (cpBase c + 4)) 11 then (ethFrame (s.portMac c) 0x88F7 (syncMessage s c tx), tx)
  else (ethFrame (s.portMac c) 0x88B5 (pduOf s c 5 (stampFlags s c) (leOctets 10 tx.toNat ++ stampRest s c)), tx)

/-! ### The lane -/

/-- A Freewheel frame is in progress on the port's lane. -/
def State.laneBusy (s : State) (c : PortId) : Bool := s.fw.frames.any fun f => f.pair == c && f.toLine && f.egress.isSome

/-- The order in which waiting frames go: Trigger, Axis, Stamp, Bell, Offer, Accept and Reject, Host (R287). -/
def sendRank (ty : Nat) : Nat :=
  match ty with
  | 6 => 0
  | 7 => 1
  | 5 => 2
  | 1 => 3
  | 2 => 4
  | 3 => 5
  | 4 => 5
  | _ => 6

/-- A frame of a TYPE sent, counted (registers of chapter 10). -/
def PortCnt.noteSent (n : PortCnt) (ty : Nat) : PortCnt :=
  match ty with
  | 1 => { n with bellTx := n.bellTx + 1 }
  | 5 => { n with stampTx := n.stampTx + 1 }
  | 6 => { n with trigTx := n.trigTx + 1 }
  | 7 => { n with hostTx := n.hostTx + 1 }
  | 8 => { n with hostTx := n.hostTx + 1 }
  | _ => n

/-- A frame leaves the port now. A Stamp's own instant is kept for the exchange, under its SEQ (R281). -/
def leave (c : PortId) (m : Nat × Octets) (s : State) : State :=
  if m.1 = 5 then
    let (f, tx) := stampFrame s c
    s.modPort c fun p => { p with
      txq := p.txq ++ [(s.now, f)], seqs := p.seqs.set 5 (p.seqs.get 5 + 1), cnt := p.cnt.noteSent 5
      est := { p.est with sent := (p.seqs.get 5, tx, s.outage) :: p.est.sent.filter (fun e => e.1 != p.seqs.get 5) } }
  else
    let f := ethFrame (s.portMac c) 0x88B5 m.2
    s.modPort c fun p => { p with txq := p.txq ++ [(s.now, f)], cnt := p.cnt.noteSent m.1 }

/-- The port's waiting frames go, in the order of R287, unless a Freewheel frame is in progress on the lane: it is never
interrupted. -/
def sendWaiting (c : PortId) (s : State) : State :=
  if s.laneBusy c then s
  else
    let l := (s.port c).waiting
    ((List.range 7).flatMap fun r => l.filter fun m => sendRank m.1 == r).foldl (fun s m => leave c m s)
      (s.modPort c fun p => { p with waiting := [] })

/-- A frame waits for the lane, and goes at once where that is free. -/
def sendFrame (c : PortId) (ty : Nat) (pdu : Octets) (s : State) : State :=
  sendWaiting c (s.modPort c fun p => { p with waiting := p.waiting ++ [(ty, pdu)] })

/-- Frames of some TYPEs that wait for the lane: they stand in the port's channel, which holds four (R44). -/
def State.waitingOf (s : State) (c : PortId) (f : Nat → Bool) : Nat :=
  ((s.port c).waiting.filter fun m => f m.1).length

end Sys2Proof.Machine
end

