-- ==== Sys2Proof/Machine/FwBuffer.lean ====
section
/-! DEFINITION. Freewheel's shared buffer: lanes, cells, discards, stomps, host copies, records and gating (R299 to
R317). -/

namespace Sys2Proof.Machine

/-! ### Lanes (R262, R299, R300) -/

/-- HRATE of a pair as it acts: 0 off, 1 10.3125 Gb/s, 2 25.78125 Gb/s (R300, R316). -/
def hrateIn (m : RegMap) (c : PortId) : Nat := min 2 (fld (regGet m (fwBase c)) 0 2)
def State.hrate (s : State) (c : PortId) : Nat :=
  if s.fw.bypass then 0 else hrateIn (s.island islFreewheel).active c

/-- The host lane is up for Freewheel. -/
def State.hostUp (s : State) (c : PortId) : Bool := s.fw.hblock.get c && s.hrate c != 0

/-- The line lane is up for Freewheel: block lock in DISCOVERY, NEGOTIATE, UP or MISMATCH (R262). -/
def State.lineUp (s : State) (c : PortId) : Bool :=
  let p := s.port c
  p.block && 3 ≤ p.st.toNat && p.st.toNat ≤ 6

/-- A lane of a pair is up: the line lane where `line`, else the host lane. -/
def State.laneUp (s : State) (c : PortId) (line : Bool) : Bool := if line then s.lineUp c else s.hostUp c

/-- A lane's rate, 1 or 2. -/
def State.laneRate (s : State) (c : PortId) (line : Bool) : Nat := if line then (s.port c).rate.toNat else s.hrate c

/-- The time of `n` octets on a lane, in whole ft: 0.32 ns each at 25.78125 Gb/s and 0.8 ns at 10.3125 Gb/s. -/
def octetTime (rate n : Nat) : Nat := if rate = 2 then n * 131072 / 100 else n * 32768 / 10

/-! ### Events and counters -/

/-- DETAIL of E208 and E209: the pair, and bit 11 for Lc to Hc (R318). -/
def fwDetail (c : PortId) (toLine : Bool) : Nat := c.val + 8 * b1 (!toLine)

def modFwCnt (c : PortId) (f : FwCnt → FwCnt) (s : State) : State :=
  { s with fw := { s.fw with cnt := s.fw.cnt.set c.val (f (s.fw.cnt.get c)) c.isLt } }

/-- The free cells change; LOW and RECOVERED are raised (E215). -/
def setFree (n : Nat) (s : State) : State :=
  let s1 := { s with fw := { s.fw with free := n } }
  if n < 1024 ∧ !s.fw.low then raise 215 1 0 0 s.dt { s1 with fw := { s1.fw with low := true } }
  else if 2048 < n ∧ s.fw.low then raise 215 2 0 0 s.dt { s1 with fw := { s1.fw with low := false } }
  else s1

/-- Frames that carry the retiring generation (R315). -/
def State.draining (s : State) : Nat :=
  let x := s.island islFreewheel
  if x.retiring.isSome then (s.fw.frames.filter fun f => f.gen != x.gen).length else 0

/-- The retiring table goes once no frame carries its generation (R315). -/
def releaseTable (s : State) : State :=
  let x := s.island islFreewheel
  if x.retiring.isSome && s.draining == 0 then raise 212 1 0 0 s.dt (s.setIsland islFreewheel { x with retiring := none }) else s

/-- A frame leaves the buffer and its cells are free. -/
def dropFrame (f : Frame) (s : State) : State :=
  releaseTable (setFree (s.fw.free + f.cells) { s with fw := { s.fw with frames := s.fw.frames.erase f } })

/-- A discard is counted and raised with a cause of E208; in bypass one that the table passes raises nothing (R316,
R318). -/
def noteDiscard (c : PortId) (toLine : Bool) (disp cause : Nat) (s : State) : State :=
  let s1 := modFwCnt c (fun n => { n with discard := n.discard + 1 }) s
  if s.fw.bypass && disp == 0 then s1 else raise 208 cause (fwDetail c toLine) 0 s.dt s1

/-- A frame is discarded with a cause of E208 (R318). -/
def discardFrame (f : Frame) (cause : Nat) (s : State) : State :=
  noteDiscard f.pair f.toLine f.disp.toNat cause (dropFrame f s)

/-- A frame's egress ends: `out` has gone out on the lane in its place, and frames of the port that waited behind it go
(R287). -/
def sentFrame (f out : Frame) (s : State) : State :=
  let s1 := dropFrame f s
  let s2 := { s1 with fw := { s1.fw with sent := s1.fw.sent ++ [out] } }
  if f.toLine then sendWaiting f.pair s2 else s2

/-- A frame in egress ends with /E/ in place of its FCS (R308). -/
def cutEgress (f : Frame) (s : State) : State :=
  modFwCnt f.pair (fun c => { c with stomped := c.stomped + 1 }) (sentFrame f { f with stomp := true } s)

/-- A frame in egress is stomped (R308). -/
def stompFrame (f : Frame) (cause : Nat) (s : State) : State :=
  raise 209 cause (fwDetail f.pair f.toLine) 0 s.dt (cutEgress f s)

/-- A bad frame: discarded with BAD before egress, stomped with its own cause after (R307). -/
def badFrame (f : Frame) (cause : Nat) (s : State) : State :=
  if f.egress.isSome then stompFrame f cause s else discardFrame f 3 s

/-- A lane loses block lock: the frame it was bringing is bad with BLOCK (R307). -/
def cutIngress (c : PortId) (line : Bool) (s : State) : State :=
  (s.fw.frames.filter fun f => f.pair == c && f.toLine == !line && !f.whole).foldl (fun s f => badFrame f 3 s) s

/-- The host lane of a pair gains or loses block lock (E214); one that is switched off gains none (R300, R316). -/
def setHostBlock (c : PortId) (up : Bool) (s : State) : State :=
  if up && s.hrate c == 0 then s else
  let s1 := { s with fw := { s.fw with hblock := s.fw.hblock.set c.val up c.isLt } }
  let s2 := raiseNow 214 (if up then 1 else 2) c.val 0 s1
  if up then s2 else cutIngress c false s2

/-! ### Entries of the message ring (R291, R312, R313) -/

/-- A 256-octet receive entry of Q(112 + c). -/
def ringEntry (flags : Nat) (d : DT) (pdu : Octets) : Octets :=
  leOctets 2 pdu.length ++ leOctets 2 flags ++ List.replicate 12 0 ++ leOctets 10 d.toNat ++ List.replicate 6 0 ++
    pdu ++ List.replicate (224 - pdu.length) 0

/-- The queue of a port's message rings. -/
def portRing (c : PortId) : RingId := ⟨48 + c.val, by omega⟩

/-- A receive entry of a port goes to its ring: accepted into the write buffer, or dropped, counted and raised where the
ring is full or disabled or the buffer is full (R291, R365, R366). -/
def sendToPort (c : PortId) (flags : Nat) (d : DT) (pdu : Octets) (s : State) : State :=
  let q := portRing c
  if s.ringTakes q true 256 then send ⟨q, true, none, true, ringEntry flags d (pdu.take 224)⟩ s
  else raiseNow (184 + 3 * c.val) 6 0 0
    ((dropEntry q true s).modPort c fun p => { p with cnt := { p.cnt with hostDrop := p.cnt.hostDrop + 1 } })

/-- A frame's octets without its FCS. -/
def noFcs (o : Octets) : Octets := o.take (o.length - 4)

/-- The host copy of a frame (R312): TRUNC where it is cut to 224 octets. -/
def hostCopy (f : Frame) (s : State) : State :=
  let body := noFcs f.octets
  let cut := 224 < body.length
  let s1 := sendToPort f.pair (2 + 8 * b1 f.toLine + 16 * b1 cut) f.ingress body s
  let s2 := modFwCnt f.pair (fun c => { c with extract := c.extract + 1 }) s1
  if cut then raise 210 1 0 0 s.dt s2 else s2

/-- A timestamp record (R313). -/
def tsRecord (f : Frame) (d : DT) (o : Octets) (s : State) : State :=
  modFwCnt f.pair (fun c => { c with tsrec := c.tsrec + 1 })
    (sendToPort f.pair (4 + 8 * b1 f.toLine) d ((noFcs o).take 64) s)

/-! ### Gating (R317) -/

/-- The gates close: frames in egress end with /E/, and a frame still arriving is lost at its lane. -/
def gateFreewheel (s : State) : State :=
  s.fw.frames.foldl (fun s f =>
    if f.egress.isSome then
      let s1 := cutEgress f s
      { s1 with fw := { s1.fw with cut := s1.fw.cut ++ [(f.pair, f.toLine)] } }
    else if f.whole then s
    else modFwCnt f.pair (fun c => { c with gdrop := c.gdrop + 1 }) (dropFrame f s)) s

/-- The clock returns: GATED is raised for each frame cut, and frames with TS or CORR are discarded with OUTAGE. -/
def ungateFreewheel (s : State) : State :=
  let s1 := s.fw.cut.foldl (fun s p => raise 209 5 (fwDetail p.1 p.2) 0 s.dt s) { s with fw := { s.fw with cut := [] } }
  (s.fw.frames.filter fun f => f.ts || f.corr).foldl (fun s f => discardFrame f 6 s) s1

/-! ### The classification table (R309) and its swap (R315) -/

/-- A 128-bit entry of a table. -/
def clEntry (m : RegMap) (n : Nat) : Nat :=
  (regGet m (clKey n 0)).toNat + (regGet m (clKey n 1)).toNat * 2 ^ 32 + (regGet m (clKey n 2)).toNat * 2 ^ 64 +
    (regGet m (clKey n 3)).toNat * 2 ^ 96

/-- The entry is invalid. -/
def clBad (e : Nat) : Bool :=
  fieldOf e 48 3 == 7 || fieldOf e 105 23 != 0 || (fieldOf e 96 2 == 1 && e.testBit 94)

/-- A commit swap in Freewheel: BADENT where it brings an invalid entry, the old table kept while frames carry it, and
host lanes retrained where HRATE changes (R300, R309, R315). -/
def swapFreewheel (old : RegMap) (s : State) : State :=
  let x := s.island islFreewheel
  let m := x.active
  let changed := (List.range 512).any fun n => clEntry m n != clEntry old n
  let bad := (List.range 512).find? fun n => clBad (clEntry m n)
  let brings := (List.range 512).any fun n => clBad (clEntry m n) && clEntry m n != clEntry old n
  let keep := changed && s.fw.frames.any fun f => f.gen != x.gen
  let s1 := s.setIsland islFreewheel { x with retiring := if keep then x.retiring else none }
  let s2 := { s1 with fw := { s1.fw with badEnt := bad.map (BitVec.ofNat 9) } }
  let s3 := if brings then raise 213 1 0 0 s.dt s2 else s2
  forEach 8 (fun c s =>
    if hrateIn old c != hrateIn m c && s.fw.hblock.get c then setHostBlock c false s else s) s3

end Sys2Proof.Machine
end

