-- ==== Sys2Proof/Machine/Ports.lean ====
section
/-! DEFINITION. Chain ports and the Shazen link (R261 to R298). A received frame's timestamp point is the DT of its command,
or, where Freewheel hands it over, its ingress timestamp point (R311). -/

namespace Sys2Proof.Machine

/-! ### Configuration -/

def State.cpCfg (s : State) (c : PortId) : Word := s.act (cpBase c + 4)

/-- RATES, RES and PERM as they act. -/
def ratesOf (w : Word) : Nat := if fld w 0 2 = 0 then 3 else fld w 0 2
def resOf (w : Word) : Nat := if fld w 2 3 = 0 then 7 else fld w 2 3

/-- The rates permitted and not excluded; all permitted ones where that leaves none. -/
def State.ratesLeft (s : State) (c : PortId) : Nat :=
  let r := ratesOf (s.cpCfg c)
  let left := r &&& (3 - (s.port c).excl.toNat)
  if left = 0 then r else left

/-- The rate stepping begins with: 25.78125 Gb/s where it may (R269). -/
def firstRate (left : Nat) : Nat := if left.testBit 1 then 2 else 1

/-- PRBS holds the port in LISTEN (R295). -/
def Port.prbsHeld (p : Port) : Bool := (p.gen || p.chk) && p.loopb == 0

/-! ### States (R268) -/

/-- The port changes state: E(185 + 3c) with the new state and the reason. -/
def portTo (c : PortId) (st reason : Nat) (s : State) : State :=
  let s1 := s.modPort c fun p => { p with st := BitVec.ofNat 3 st, reason := BitVec.ofNat 8 reason }
  raiseNow (185 + 3 * c.val) st reason 0 s1

/-- The partner ends: offers, mode, identity and estimators go (R268, R283). -/
def Port.alone (p : Port) (clock : Nat) : Port :=
  { p with
    peer := 0, answered := false, heard := 0, selfSaid := false, peerOffer := none, accSent := none, accRecv := none
    own := 0, waiting := []
    modeR := none, pfmt := false, restepAt := none, est := { Estim.reset with usedAt := clock }, ptxlat := 0
    prxlat := 0, phops := 0, pqual := 0, ptai := false, proot := 0, wakeAt := none }

/-- Entry to LISTEN, at the rate settled for a re-step or at the first of the steps; a test loop still set takes the
port on to LOOP (R268, R277, R294). Leaving OFF or SIESTA lifts the exclusions (R277). -/
def toListen (c : PortId) (reason : Nat) (settled : Nat) (s0 : State) : State :=
  let s := s0.modPort c fun p => { p with excl := if p.st.toNat ≤ 1 then 0 else p.excl }
  let p := s.port c
  let rate := if settled != 0 then settled else if p.prbsHeld && p.rate != 0 then p.rate.toNat else firstRate (s.ratesLeft c)
  let block := p.block && rate == p.rate.toNat
  let s1 := if p.block && !block then cutIngress c true s else s
  let s2 := s1.setPort c { p.alone s.clock with
    rate := BitVec.ofNat 2 rate, settled := BitVec.ofNat 2 settled, block := block
    lockFrom := if block then some s.clock else none, rateFrom := s.clock }
  let s3 := portTo c 2 reason s2
  if p.loopb != 0 then portTo c 7 0 s3 else s3

/-- The lane goes off: transmitter and receiver stop, and with them block lock (R264). -/
def laneOff (c : PortId) (mode st : Nat) (s : State) : State :=
  let p := s.port c
  let s1 := s.setPort c { p.alone s.clock with
    mode := BitVec.ofNat 2 mode, block := false, lockFrom := none, settled := 0, rate := 0 }
  let s2 := cutIngress c true s1
  if p.st.toNat = st then s2 else portTo c st 0 s2

/-- A write of CP_PWR.MODE. In Dawn every port is in SIESTA whatever MODE holds: the field takes the write, and Day entry
brings the mode CP_PWR.DAY names (R264, R390). -/
def powerWrite (c : PortId) (mode : Nat) (act : State → State) (s : State) : State :=
  if s.dyn.st == .dawn then s.modPort c fun p => { p with mode := BitVec.ofNat 2 mode } else act s

/-- PORT_OFF (R264). -/
def execPortOff (c : PortId) (s : State) : Out := .next (byHost s (powerWrite c 0 (laneOff c 0 0)))

/-- PORT_SIESTA (R264). -/
def execPortSiesta (c : PortId) (s : State) : Out := .next (byHost s (powerWrite c 2 (laneOff c 2 1)))

/-- A write of RUN: from OFF to LISTEN, from SIESTA the 2.5 ms of the wake begin (R264). -/
def portRun (c : PortId) (s : State) : State :=
  let p := s.port c
  let s1 := s.setPort c { p with mode := 1 }
  if p.st = 0 then toListen c 6 0 s1
  else if p.st = 1 ∧ p.wakeAt.isNone then s.setPort c { p with mode := 1, wakeAt := some (s.clock + 10240000000) }
  else s1

/-- PORT_RUN (R264). -/
def execPortRun (c : PortId) (s : State) : Out := .next (byHost s (powerWrite c 1 (portRun c)))

/-- Bells, Offers and Stamps may flow: DISCOVERY to MISMATCH. -/
def Port.talks (p : Port) : Bool := 3 ≤ p.st.toNat && p.st.toNat ≤ 6

/-- SZL frames are received: in those states, and in LISTEN while block lock holds (R262, R268, R294). -/
def Port.hears (p : Port) : Bool := p.talks || (p.st == 2 && p.block)

/-- LISTEN_LOCK_HELD (R268): 1 ms of block lock in LISTEN. -/
def execListenLockHeld (c : PortId) (s : State) : Out :=
  .next <|
    let p := s.port c
    match p.lockFrom with
    | some t =>
      if p.st = 2 ∧ p.block ∧ !p.prbsHeld ∧ t + ftMs ≤ s.clock then
        portTo c 3 0 (s.setPort c { p with
          own := p.rate, settled := 0, heard := 0, selfSaid := false, answered := false, discFrom := s.clock
          lastBell := s.clock
          bellAt := s.clock })
      else s
    | none => s

/-- RATE_STEP (R269, R277): 50 ms at a rate without block lock. -/
def execRateStep (c : PortId) (s : State) : Out :=
  .next <|
    let p := s.port c
    if p.st = 2 ∧ !p.block ∧ !p.prbsHeld ∧ p.rateFrom + 50 * ftMs ≤ s.clock then
      let excl := p.excl ||| p.settled
      let s1 := s.setPort c { p with excl := excl, settled := 0, rateFrom := s.clock }
      let left := s1.ratesLeft c
      let next := if left = 3 then 3 - p.rate.toNat else firstRate left
      s1.modPort c fun p => { p with rate := BitVec.ofNat 2 next }
    else s

/-- A line lane gains block lock (R261). -/
def lineGained (c : PortId) (s : State) : State :=
  let p := s.port c
  if 2 ≤ p.st.toNat then s.setPort c { p with block := true, lockFrom := if p.block then p.lockFrom else some s.clock } else s

/-- A line lane loses block lock (R261, R268). -/
def lineLost (c : PortId) (s : State) : State :=
  let p := s.port c
  if !p.block then s
  else
    let s1 := cutIngress c true s
    let s2 := s1.modPort c fun p =>
      { p with block := false, lockFrom := none, cnt := { p.cnt with blockLoss := p.cnt.blockLoss + 1 } }
    if p.talks then toListen c 1 0 s2 else s2

/-! ### Frames sent (R272) -/

/-- A PDU of the port sets out for the lane. -/
def sendPdu (c : PortId) (ty flags : Nat) (body : Octets) (s : State) : State :=
  let pdu := pduOf s c ty flags body
  let k : Fin 9 := Fin.ofNat 9 ty
  sendFrame c ty pdu (s.modPort c fun p => { p with seqs := p.seqs.set k.val (p.seqs.get k + 1) k.isLt })

/-- Position and side as Bells and other frames carry them (R273). -/
def State.posByte (s : State) : Nat := s.stoker.pos.toNat + 16 * b1 s.pair.side

/-- A Bell (R273); its interval is that of R270. -/
def sendBell (c : PortId) (s : State) : State :=
  let p := s.port c
  let slow := p.st == 6 || (p.st == 3 && p.lastBell + 10 * ftS ≤ s.clock)
  let s1 := sendPdu c 1 0 (leOctets 8 p.heard.toNat ++
    [BitVec.ofNat 8 c.val, if slow then 0x64 else 1, BitVec.ofNat 8 s.posByte, BitVec.ofNat 8 (ratesOf (s.cpCfg c))] ++
    List.replicate 4 0) s
  s1.modPort c fun p => { p with
    bellAt := s.clock + (if slow then 100 * ftMs else ftMs) }

/-- BELL_TIMER (R270). -/
def execBellTimer (c : PortId) (s : State) : Out :=
  .next <| if (s.port c).talks && (s.port c).bellAt ≤ s.clock then sendBell c s else s

/-- What the port's Offer carries now (R274). -/
def State.ownOffer (s : State) (c : PortId) : OfferRec :=
  let w := s.cpCfg c
  { offerId := (s.port c).offerId, vmin := 1, vmax := 1, rates := BitVec.ofNat 8 (s.ratesLeft c)
    res := BitVec.ofNat 8 (resOf w), perm := BitVec.ofNat 8 (fld w 5 6), fmt := BitVec.ofNat 8 (fld w 11 1)
    txlat := s.act (cpBase c + 0x18), rxlat := s.act (cpBase c + 0x1C), fafix := s.act (cpBase c + 0x20)
    facoef := s.act (cpBase c + 0x24) }

/-- The body of an Offer. -/
def offerBody (o : OfferRec) : Octets :=
  leOctets 4 o.offerId.toNat ++ [o.vmin, o.vmax, o.rates, o.res, o.perm, o.fmt, 0, 0] ++ leOctets 4 o.txlat.toNat ++
    leOctets 4 o.rxlat.toNat ++ leOctets 4 o.fafix.toNat ++ leOctets 4 o.facoef.toNat ++ List.replicate 4 0

/-- The port's Offer leaves, and the next is due 10 ms or, in MISMATCH, 1 s later (R274, R278). -/
def sendOffer (c : PortId) (s : State) : State :=
  (sendPdu c 2 0 (offerBody (s.ownOffer c)) s).modPort c fun p =>
    { p with offerAt := s.clock + (if p.st = 6 then ftS else 10 * ftMs) }

/-- A new OFFERID (R274): the one before plus 1. -/
def newOfferId (c : PortId) (s : State) : State :=
  s.modPort c fun p => { p with offerId := p.offerId + 1, accRecv := none }

/-! ### Negotiation (R275 to R279) -/

/-- The lowest bit of a set. -/
def lowBit (n : Nat) : Nat := if n.testBit 0 then 1 else if n.testBit 1 then 2 else if n.testBit 2 then 4 else 0

/-- GRANT from the local side (R276). -/
def grantOf (own peer : Byte) : BitVec 6 :=
  BitVec.ofNat 6 (b1 (own.getLsbD 1 && peer.getLsbD 0) + 2 * b1 (own.getLsbD 0 && peer.getLsbD 1) +
    4 * b1 (own.getLsbD 2 && peer.getLsbD 3) + 8 * b1 (own.getLsbD 3 && peer.getLsbD 2) +
    16 * b1 (own.getLsbD 4 && peer.getLsbD 5) + 32 * b1 (own.getLsbD 5 && peer.getLsbD 4))

/-- The mode two Offers settle, or the cause why there is none (R275). -/
def settleMode (s : State) (c : PortId) (o p : OfferRec) : Nat ⊕ ModeRec :=
  let ver := min o.vmax.toNat p.vmax.toNat
  let rates := o.rates &&& p.rates
  let res := o.res &&& p.res
  if ver < max o.vmin.toNat p.vmin.toNat then .inl 1
  else if rates = 0 then .inl 2
  else if res = 0 then .inl 3
  else
    let rate := firstRate rates.toNat
    let fl := o.fafix.toInt
    let fp := p.fafix.toInt
    let cl := o.facoef.toInt
    let cp := p.facoef.toInt
    let same := (fl + fp).natAbs ≤ 16 && (cl + cp).natAbs ≤ 16
    let mine := same || s.ident.toNat < (s.port c).peer.toNat
    .inr { ver := BitVec.ofNat 8 ver, rate := BitVec.ofNat 2 rate, res := BitVec.ofNat 8 (lowBit res.toNat)
           grant := grantOf o.perm p.perm, restep := rate != (s.port c).rate.toNat
           asym := if same then 0 else if mine then 1 else 2
           fafix := if mine then fl else -fp, facoef := if mine then cl else -cp }

/-- The outcome of the port's own Offer and its partner's latest. -/
def State.outcome (s : State) (c : PortId) : Option (Nat ⊕ ModeRec) :=
  (s.port c).peerOffer.map fun o => settleMode s c (s.ownOffer c) o

/-- Estimators freeze at their values (R284). -/
def freezePort (c : PortId) (s : State) : State :=
  let p := s.port c
  if p.est.frozen then s
  else raiseNow (186 + 3 * c.val) 1 0 0 (s.setPort c { p with est := { p.est with frozen := true } })

/-- Entry to NEGOTIATE: a new OFFERID, and the Offer is sent (R274, R279). Bells go out every 1 ms from now on (R270). -/
def toNegotiate (c : PortId) (s : State) : State :=
  let frz := if (s.port c).st = 5 then freezePort c s else s
  let s1 := (newOfferId c frz).modPort c fun p =>
    { p with accSent := none, modeR := none, restepAt := none, negFrom := s.clock, bellAt := min p.bellAt (s.clock + ftMs) }
  sendOffer c (portTo c 4 0 s1)

/-- GRANT with the two sides exchanged. -/
def swapGrant (g : Nat) : Nat :=
  (g &&& 0x15) * 2 + (g &&& 0x2A) / 2 + (g &&& 0x40)

/-- ASYM with the two sides exchanged. -/
def swapAsym (a : Nat) : Nat := if a = 1 then 2 else if a = 2 then 1 else a

/-- An Accept agrees with the local result (R276). -/
def agrees (b : Octets) (m : ModeRec) : Bool :=
  leAt b 0x18 1 == m.ver.toNat && leAt b 0x19 1 == m.rate.toNat && leAt b 0x1A 1 == m.res.toNat &&
    swapGrant (leAt b 0x1B 1) == m.grant.toNat + 64 * b1 m.restep && swapAsym (leAt b 0x1C 1) == m.asym.toNat

/-- Entry to UP once both Accepts agree with the result and no RESTEP is owed (R276, R280, R283). -/
def tryUp (c : PortId) (s : State) : State :=
  let p := s.port c
  match p.modeR, p.peerOffer with
  | some m, some o =>
    if p.st = 4 ∧ p.accRecv.any (fun a => agrees a.1 m) ∧ p.accSent = some o.offerId ∧ !m.restep then
      portTo c 5 0 (s.setPort c { p with stampAt := s.clock, est := { p.est with valid := false, rejects := 0, usedAt := s.clock } })
    else s
  | _, _ => s

/-- The Accept received for the current OFFERID is held, once, against the local result: one that disagrees is counted,
and the port's Offer goes out again with a new OFFERID (R276). -/
def judgeAccept (c : PortId) (s : State) : State :=
  let p := s.port c
  match p.modeR, p.accRecv with
  | some m, some (b, false) =>
    if agrees b m then tryUp c (s.setPort c { p with accRecv := some (b, true) })
    else sendOffer c (newOfferId c (s.setPort c { p with cnt := { p.cnt with badFrame := p.cnt.badFrame + 1 } }))
  | _, _ => tryUp c s

/-- The body of an Accept (R276). -/
def acceptBody (offer own : Word) (m : ModeRec) : Octets :=
  leOctets 4 offer.toNat ++ leOctets 4 own.toNat ++
    [m.ver, BitVec.ofNat 8 m.rate.toNat, m.res, BitVec.ofNat 8 (m.grant.toNat + 64 * b1 m.restep), m.asym.setWidth 8, 0, 0, 0]

/-- An Offer received in NEGOTIATE is answered with an Accept, or with a Reject and MISMATCH (R276, R278). -/
def answerOffer (c : PortId) (s : State) : State :=
  match (s.port c).peerOffer, s.outcome c with
  | some o, some (.inr m) =>
    let fresh := (s.port c).modeR != some m
    let s1 := sendPdu c 3 0 (acceptBody o.offerId (s.port c).offerId m) s
    let s2 := s1.modPort c fun p =>
      { p with
        modeR := some m, accSent := some o.offerId, pfmt := o.fmt == 1
        restepAt := if m.restep then some (p.restepAt.getD (s.clock + ftMs)) else none }
    judgeAccept c (if m.asym != 0 && fresh then raiseNow (186 + 3 * c.val) 3 0 0 s2 else s2)
  | some o, some (.inl cause) =>
    let s1 := sendPdu c 4 0 (leOctets 4 o.offerId.toNat ++ [BitVec.ofNat 8 cause, 0, 0, 0]) s
    let s2 := raiseNow (186 + 3 * c.val) 4 cause 0 (portTo c 6 0 s1)
    s2.modPort c fun p => { p with modeR := none, accSent := none, restepAt := none, offerAt := s.clock + ftS }
  | _, _ => s

/-! ### Frames received (R272) -/

/-- A PDU is discarded as bad. -/
def badPdu (c : PortId) (s : State) : State :=
  raiseNow (184 + 3 * c.val) 4 0 0 (s.modPort c fun p => { p with cnt := { p.cnt with badFrame := p.cnt.badFrame + 1 } })

/-- Header fields of a PDU. -/
def pduVer (b : Octets) : Nat := leAt b 0 1
def pduType (b : Octets) : Nat := leAt b 1 1
def pduLen (b : Octets) : Nat := leAt b 2 2
def pduSeq (b : Octets) : Nat := leAt b 4 2
def pduFlags (b : Octets) : Nat := leAt b 6 2
def pduId (b : Octets) : Nat := leAt b 8 8

/-- VER, TYPE and LEN fit their table, FLAGS has no bit above `fb`, and the octets are all there. -/
def headOk (b : Octets) (ty len fb : Nat) : Bool :=
  pduVer b == 1 && pduType b == ty && pduLen b == len && b.length == len && pduFlags b < 2 ^ fb

/-- Reserved octets are 0. -/
def zeros (b : Octets) (i k : Nat) : Bool := leAt b i k == 0

/-- A copy of a negotiation frame goes to the message ring where MIRROR is 1, with the frame's timestamp point (R291). -/
def mirror (c : PortId) (pdu : Octets) (d : DT) (s : State) : State :=
  if bit (s.cpCfg c) 14 then sendToPort c 1 d pdu s else s

def bellOk (b : Octets) : Bool :=
  headOk b 1 32 0 && leAt b 0x18 1 < 8 && (leAt b 0x19 1 == 1 || leAt b 0x19 1 == 0x64) && leAt b 0x1A 1 < 32 &&
    leAt b 0x1B 1 < 4 && zeros b 0x1C 4

/-- A Bell in DISCOVERY (R270). -/
def bellDiscovery (c : PortId) (b : Octets) (s : State) : State :=
  let p := { s.port c with lastBell := s.clock, bellAt := min (s.port c).bellAt (s.clock + ftMs) }
  let id := pduId b
  if id = s.ident.toNat then
    let s1 := s.setPort c { p with selfSaid := true }
    if p.selfSaid then s1 else raiseNow (186 + 3 * c.val) 5 0 0 s1
  else
    let p1 := { p with heard := BitVec.ofNat 64 id, peerIvl := leAt b 0x19 1 }
    if leAt b 0x10 8 = s.ident.toNat then
      toNegotiate c (s.setPort c { p1 with answered := true, peer := BitVec.ofNat 64 id })
    else s.setPort c p1

/-- A Bell received at `d` (R270, R271). In LISTEN it is counted and no more. -/
def takeBell (c : PortId) (pdu : Octets) (d : DT) (s : State) : State :=
  let p := s.port c
  if !p.hears then s
  else if !bellOk pdu then badPdu c s
  else
    let s1 := mirror c pdu d (s.setPort c { p with cnt := { p.cnt with bellRx := p.cnt.bellRx + 1 } })
    if p.st = 2 then s1
    else if p.st = 3 then bellDiscovery c pdu s1
    else if pduId pdu ≠ p.peer.toNat then toListen c 2 0 s1
    else s1.modPort c fun p => { p with lastBell := s.clock, peerIvl := leAt pdu 0x19 1, heard := p.peer }

/-- BELL (R270, R271). -/
def execBell (c : PortId) (pdu : Octets) (s : State) : Out := .next (takeBell c pdu s.now s)

/-- PARTNER_GONE (R271): no Bell for three partner intervals and 0.5 ms. -/
def execPartnerGone (c : PortId) (s : State) : Out :=
  .next <|
    let p := s.port c
    if p.talks && p.answered && p.lastBell + 3 * p.peerIvl * ftMs + 2048000000 ≤ s.clock then toListen c 2 0 s else s

def offerOk (b : Octets) : Bool :=
  headOk b 2 48 0 && leAt b 0x16 1 < 4 && leAt b 0x17 1 < 8 && leAt b 0x18 1 < 64 && leAt b 0x19 1 ≤ 1 &&
    zeros b 0x1A 2 && zeros b 0x2C 4

/-- The fields of an Offer PDU (R274). -/
def offerRec (b : Octets) : OfferRec :=
  { offerId := word (leAt b 0x10 4), vmin := BitVec.ofNat 8 (leAt b 0x14 1), vmax := BitVec.ofNat 8 (leAt b 0x15 1)
    rates := BitVec.ofNat 8 (leAt b 0x16 1), res := BitVec.ofNat 8 (leAt b 0x17 1)
    perm := BitVec.ofNat 8 (leAt b 0x18 1), fmt := BitVec.ofNat 8 (leAt b 0x19 1), txlat := word (leAt b 0x1C 4)
    rxlat := word (leAt b 0x20 4), fafix := word (leAt b 0x24 4), facoef := word (leAt b 0x28 4) }

/-- The partner's latest Offer. -/
def keepOffer (c : PortId) (o : OfferRec) (s : State) : State :=
  s.modPort c fun p => { p with peerOffer := some o, ptxlat := o.txlat.toNat, prxlat := o.rxlat.toNat }

/-- An Offer received at `d` (R270, R275, R278, R279). In LISTEN, where a port has no partner, it is not taken. -/
def takeOffer (c : PortId) (pdu : Octets) (d : DT) (s : State) : State :=
  let p := s.port c
  let o := offerRec pdu
  if !p.hears then s
  else if !offerOk pdu then badPdu c s
  else
    let s1 := mirror c pdu d s
    if p.st = 2 then s1
    else if p.st = 3 then
      if pduId pdu = s.ident.toNat then s1
      else
        let s2 := s1.modPort c fun p => { p with answered := true, peer := BitVec.ofNat 64 (pduId pdu), lastBell := s.clock }
        answerOffer c (keepOffer c o (toNegotiate c s2))
    else if p.st = 4 then answerOffer c (keepOffer c o s1)
    else if p.st = 5 then
      if p.accSent = some o.offerId then s1 else answerOffer c (keepOffer c o (toNegotiate c s1))
    else
      let s2 := keepOffer c o s1
      match s2.outcome c with
      | some (.inr _) => answerOffer c (toNegotiate c s2)
      | _ => s2

/-- OFFER (R270, R275, R278, R279). -/
def execOffer (c : PortId) (pdu : Octets) (s : State) : Out := .next (takeOffer c pdu s.now s)

/-- OFFER_TIMER (R274, R278). -/
def execOfferTimer (c : PortId) (s : State) : Out :=
  .next <|
    let p := s.port c
    if p.offerAt ≤ s.clock then
      if p.st = 4 then sendOffer c s
      else if p.st = 6 then
        let s1 := sendOffer c s
        match s1.outcome c with
        | some (.inr _) => toNegotiate c s1
        | _ => s1
      else s
    else s

def acceptOk (b : Octets) : Bool :=
  headOk b 3 32 0 && (leAt b 0x19 1 == 1 || leAt b 0x19 1 == 2) && leAt b 0x1B 1 < 128 && leAt b 0x1C 1 ≤ 2 && zeros b 0x1D 3

/-- An Accept received at `d` (R276): one that names an old Offer is ignored; one that names the current one waits for the
local result, if that is not settled yet. -/
def takeAccept (c : PortId) (pdu : Octets) (d : DT) (s : State) : State :=
  let p := s.port c
  if !p.hears then s
  else if !acceptOk pdu then badPdu c s
  else
    let s1 := mirror c pdu d s
    if p.st ≠ 4 ∨ leAt pdu 0x10 4 ≠ p.offerId.toNat then s1
    else judgeAccept c (s1.modPort c fun p => { p with accRecv := some (pdu, false) })

/-- ACCEPT (R276). -/
def execAccept (c : PortId) (pdu : Octets) (s : State) : Out := .next (takeAccept c pdu s.now s)

/-- A Reject received at `d` (R276): the partner found no common mode; the port's own Offer and the partner's decide the
port's state. -/
def takeReject (c : PortId) (pdu : Octets) (d : DT) (s : State) : State :=
  if !(s.port c).hears then s
  else if headOk pdu 4 24 0 && 1 ≤ leAt pdu 0x14 1 && leAt pdu 0x14 1 ≤ 3 && zeros pdu 0x15 3 then mirror c pdu d s
  else badPdu c s

/-- REJECT (R276). -/
def execReject (c : PortId) (pdu : Octets) (s : State) : Out := .next (takeReject c pdu s.now s)

/-- NEGOTIATE_TIMEOUT (R268). -/
def execNegotiateTimeout (c : PortId) (s : State) : Out :=
  .next <|
    let p := s.port c
    if p.st = 4 ∧ p.negFrom + ftS ≤ s.clock then toListen c 3 0 s else s

/-- RESTEP_TIMER (R277). -/
def execRestepTimer (c : PortId) (s : State) : Out :=
  .next <|
    let p := s.port c
    match p.restepAt, p.modeR with
    | some t, some m => if p.st = 4 ∧ t ≤ s.clock then toListen c 4 m.rate.toNat s else s
    | _, _ => s

/-! ### The time exchange (R280 to R285) -/

/-- STAMP_TIMER (R280): a Stamp sets out for the lane. -/
def execStampTimer (c : PortId) (s : State) : Out :=
  .next <|
    let p := s.port c
    if p.st = 5 ∧ p.stampAt ≤ s.clock then
      (sendFrame c 5 [] s).modPort c fun q => { q with stampAt := s.clock + ftMs / 2 ^ fld (s.cpCfg c) 12 2 }
    else s

/-- The latencies of a port's link (R282). -/
def State.portLats (s : State) (c : PortId) : Lats :=
  let p := s.port c
  let (fx, co) := match p.modeR with | some m => (m.fafix, m.facoef) | none => (0, 0)
  { txl := (s.act (cpBase c + 0x18)).toNat, rxl := (s.act (cpBase c + 0x1C)).toNat, txp := p.ptxlat, rxp := p.prxlat
    fix := fx, coef := co }

/-- An exchange that is ignored or rejected. -/
def badExch (c : PortId) (s : State) : State :=
  s.modPort c fun p => { p with cnt := { p.cnt with exchBad := p.cnt.exchBad + 1 } }

/-- A used exchange updates the estimators and, with the grant, goes to Noon (R281 to R285). -/
def useExchange (c : PortId) (x : Exch) (r : Root) (s : State) : State :=
  let p := s.port c
  let w := s.act (cpBase c + 0x28)
  let (est, taken) := estimate p.est (fld w 3 8) (fld w 0 3) (s.portLats c) x s.clock
  if !taken then badExch c (s.setPort c { p with est := est })
  else
    let s1 := s.setPort c { p with est := { est with frozen := false }, cnt := { p.cnt with exch := p.cnt.exch + 1 } }
    let s2 := if p.est.frozen then raiseNow (186 + 3 * c.val) 2 0 0 s1 else s1
    if (p.modeR.map fun m => m.grant.getLsbD 0) == some true then
      deliver ⟨⟨c.val, by omega⟩, est.err, x.d, r.id, r.hops, r.qual, r.tai⟩ s2
    else s2

def stampOk (b : Octets) : Bool := headOk b 5 64 4 && zeros b 0x3A 6

/-- A Sync message is a Stamp in the IEEE 1588 form (R293), and has the TLV of one. -/
def syncOk (m : Octets) : Bool :=
  m.length == 94 && beAt m 0 1 % 16 == 0 && beAt m 1 1 % 16 == 2 && beAt m 2 2 == 94 && !(leAt m 6 1).testBit 1 &&
    beAt m 44 2 == 3 && beAt m 46 2 == 46 && beAt m 51 3 == 1

/-- C of a Sync message: originTimestamp plus correctionField (R293). -/
def syncC (m : Octets) : DT := ptpDt (beAt m 34 6) (beAt m 40 4) (BitVec.ofNat 64 (beAt m 8 8)).toInt

/-- The Stamp PDU that a Sync message stands for, with C as its TXTS. -/
def syncPdu (m : Octets) : Octets :=
  [1, 5] ++ leOctets 2 64 ++ leOctets 2 (beAt m 30 2) ++ slice m 54 2 ++ leOctets 8 (beAt m 20 8) ++
    leOctets 10 (syncC m).toNat ++ slice m 56 38

/-- A Stamp received with its timestamp point at `at_`, taken in an outage or not (R281). -/
def takeStamp (c : PortId) (pdu : Octets) (at_ : DT) (coarse : Bool) (s : State) : State :=
  let p := s.port c
  if !p.hears then s
  else if p.st ≠ 5 ∨ !stampOk pdu then badPdu c s
  else
    let fl := pduFlags pdu
    let cc : DT := BitVec.ofNat 80 (leAt pdu 0x10 10)
    let d := truncDt p.res at_
    let r : Root := ⟨BitVec.ofNat 64 (leAt pdu 0x30 8), leAt pdu 0x38 1, leAt pdu 0x39 1, fl % 2 == 1⟩
    let s1 := s.setPort c { p with
      cnt := { p.cnt with stampRx := p.cnt.stampRx + 1 }
      phops := BitVec.ofNat 8 r.hops, pqual := BitVec.ofNat 8 r.qual, ptai := r.tai, proot := r.id
      est := { p.est with got := some (BitVec.ofNat 16 (pduSeq pdu), cc, d, coarse) } }
    let ea : DT := BitVec.ofNat 80 (leAt pdu 0x1C 10)
    let own1588 := bit (s.cpCfg c) 11
    match p.est.sent.find? fun e => e.1.toNat == leAt pdu 0x1A 2 && (own1588 || e.2.1 == ea) with
    | some e =>
      if !fl.testBit 2 then s1
      else
        let x : Exch := ⟨ea, BitVec.ofNat 80 (leAt pdu 0x26 10), cc, d⟩
        if 65536000000 < dtDiff d ea || e.2.2 || fl.testBit 1 || fl.testBit 3 || coarse then badExch c s1
        else useExchange c x r s1
    | none => s1

/-- A Sync message handed to the port (R293): one that is no Stamp fits no table. -/
def takeSync (c : PortId) (m : Octets) (at_ : DT) (coarse : Bool) (s : State) : State :=
  if !(s.port c).hears then s
  else if syncOk m then takeStamp c (syncPdu m) at_ coarse s
  else badPdu c s

/-- STAMP (R281, R293): `sync` where `msg` is a Sync message, the IEEE 1588 form, and not a PDU. -/
def execStamp (c : PortId) (sync : Bool) (msg : Octets) (s : State) : Out :=
  .next (if sync then takeSync c msg s.now s.outage s else takeStamp c msg s.now s.outage s)

/-- ESTIMATOR_FREEZE (R284). -/
def execEstimatorFreeze (c : PortId) (s : State) : Out :=
  .next <|
    let p := s.port c
    if p.st = 5 ∧ !p.est.frozen ∧ p.est.usedAt + 10 * ftMs ≤ s.clock then freezePort c s else s

/-! ### Triggers, Axis frames and the host ring (R288 to R291) -/

/-- The port's mode grants an item: 0 takes time, 1 serves, 2 triggers out, 3 in, 4 Axis out, 5 in. -/
def State.granted (s : State) (c : PortId) (k : Nat) : Bool :=
  (s.port c).st == 5 && match (s.port c).modeR with | some m => m.grant.getLsbD k | none => false

/-- Mailbox entries set out for one thread, or for all sixteen. -/
def mailFor (all : Bool) (p : ThreadId) (via : MailVia) (e : MailEnt) (s : State) : State :=
  let dests := if all then List.finRange 16 else [p]
  { s with pacer := { s.pacer with mail := s.pacer.mail ++ dests.map fun d => ⟨d, via, e⟩ } }

/-- A Trigger received (R288). -/
def takeTrigger (c : PortId) (pdu : Octets) (s : State) : State :=
  let p := s.port c
  if !p.hears then s
  else if p.st ≠ 5 ∨ !(headOk pdu 6 32 0 && leAt pdu 0x1A 1 < 32 && leAt pdu 0x1B 1 < 16) then badPdu c s
  else if !s.granted c 3 then raiseNow (184 + 3 * c.val) 2 0 0 s
  else
    let th := leAt pdu 0x1A 1
    let e : MailEnt := ⟨BitVec.ofNat 80 (leAt pdu 0x10 10), word (leAt pdu 0x1C 4),
      BitVec.ofNat 16 (0x4000 + c.val * 1024 + leAt pdu 0x1B 1)⟩
    mailFor (16 ≤ th) (Fin.ofNat 16 th) (.port c) e
      (s.setPort c { p with cnt := { p.cnt with trigRx := p.cnt.trigRx + 1 } })

/-- TRIGGER_FRAME (R288). -/
def execTriggerFrame (c : PortId) (pdu : Octets) (s : State) : Out := .next (takeTrigger c pdu s)

/-- A TRIG leaves in a Trigger frame (R288). -/
def sendTrigger (c : PortId) (dest : BitVec 16) (src : ThreadId) (ta : DT) (w : Word) (s : State) : State :=
  sendPdu c 6 0 (leOctets 10 ta.toNat ++ [BitVec.ofNat 8 (dest.toNat % 16 + 16 * b1 (dest.getLsbD 9)), BitVec.ofNat 8 src.val] ++
    leOctets 4 w.toNat) s

/-- An Axis frame received (R290): its records set out for Crank in order. -/
def takeAxis (c : PortId) (pdu : Octets) (s : State) : State :=
  let p := s.port c
  let n := leAt pdu 0x11 1
  if !p.hears then s
  else if p.st ≠ 5 ∨ !(headOk pdu 7 (24 + 48 * n) 0 && 1 ≤ n && n ≤ 4 && zeros pdu 0x12 6) then badPdu c s
  else if !s.granted c 5 then raiseNow (184 + 3 * c.val) 3 0 0 s
  else
    let recs := (List.range n).map fun k =>
      RecIn.mk 0 (.frame c (BitVec.ofNat 8 (leAt pdu 0x10 1))) (slice pdu (24 + 48 * k) 48) (k == 0)
        (if s.clocked then some s.dt else none) none
    let s1 : State := { s with crank := { s.crank with recIn := s.crank.recIn ++ recs } }
    s1.setPort c { p with cnt := { p.cnt with axisRx := p.cnt.axisRx + word n } }

/-- AXIS_FRAME (R290). -/
def execAxisFrame (c : PortId) (pdu : Octets) (s : State) : Out := .next (takeAxis c pdu s)

/-- A Host PDU received at `d` (R291). -/
def takeHost (c : PortId) (pdu : Octets) (d : DT) (s : State) : State :=
  let p := s.port c
  if !p.hears then s
  else if p.st ≠ 5 ∨ !(headOk pdu 8 pdu.length 0 && 16 ≤ pdu.length && pdu.length ≤ 224) then badPdu c s
  else sendToPort c 0 d pdu s

/-- HOST_FRAME (R291). -/
def execHostFrame (c : PortId) (pdu : Octets) (s : State) : Out := .next (takeHost c pdu s.now s)

/-- An entry of the transmit ring is well formed: TYPE, LEN and reserved octets (R291). -/
def msgEntryOk (b : Octets) : Bool :=
  let len := leAt b 0 2
  16 ≤ len && len ≤ 224 && zeros b 2 14 && zeros b 0x10 16 && (leAt b 0x21 1 == 7 || leAt b 0x21 1 == 8)

/-- MESSAGE_RING_ENTRY (R290, R291): the port fills in VER, SEQ and ID. It takes an entry while its channel, whose four
places hold the frames that wait for the lane, has room (R44). -/
def execMessageRingEntry (c : PortId) (s : State) : Out :=
  .next <|
    let p := s.port c
    match p.msgIn with
    | b :: rest =>
      if p.st ≠ 5 ∨ 4 ≤ s.waitingOf c (fun ty => ty == 7 || ty == 8) then s
      else
        let s1 := tookEntry ⟨48 + c.val, by omega⟩ (s.setPort c { p with msgIn := rest })
        let ty := leAt b 0x21 1
        if !msgEntryOk b || (ty == 7 && !s.granted c 4) then raiseNow (184 + 3 * c.val) 5 0 0 s1
        else
          let pdu := slice b 0x20 (leAt b 0 2)
          let k : Fin 9 := Fin.ofNat 9 ty
          let out := patch (patch (patch pdu 0 [1]) 4 (leOctets 2 (p.seqs.get k).toNat)) 8 (leOctets 8 s.ident.toNat)
          sendFrame c ty out (s1.modPort c fun p => { p with seqs := p.seqs.set k.val (p.seqs.get k + 1) k.isLt })
    | [] => s

/-! ### Budgets (R289) -/

/-- CP_TBUDGET and CP_ABUDGET. -/
def State.budget (s : State) (c : PortId) (lead : Nat) : Int :=
  let p := s.port c
  if p.st = 5 then freeDiv (2 * p.est.dmean + p.est.alpha) 2 + (if p.rate = 2 then 24576000 else 57344000) + lead else 0

/-! ### Test loops (R294, R295) -/

/-- A write of CP_TEST.LOOP with a nonzero value. -/
def testLoop (c : PortId) (n : Nat) (s : State) : State :=
  let p := s.port c
  if p.loopb.toNat = n then s
  else
    let s1 := s.setPort c { p with loopb := BitVec.ofNat 2 n, gen := false, chk := false }
    if p.st.toNat < 2 ∨ p.st = 7 then s1 else portTo c 7 0 (s1.modPort c fun p => p.alone s.clock)

/-- TEST_LOOP_NEAR_SERIAL (R294). -/
def execTestLoopNearSerial (c : PortId) (s : State) : Out := .next (byHost s fun s => testLoop c 1 s)
/-- TEST_LOOP_NEAR_PARALLEL (R294). -/
def execTestLoopNearParallel (c : PortId) (s : State) : Out := .next (byHost s fun s => testLoop c 2 s)
/-- TEST_LOOP_FAR_RETIMED (R294). -/
def execTestLoopFarRetimed (c : PortId) (s : State) : Out := .next (byHost s fun s => testLoop c 3 s)

/-- TEST_LOOP_END (R294): LOOP returns to 0. -/
def execTestLoopEnd (c : PortId) (s : State) : Out :=
  .next <| byHost s fun s =>
    let p := s.port c
    if p.loopb = 0 then s
    else
      let s1 := s.setPort c { p with loopb := 0, gen := false, chk := false }
      if p.st = 7 then toListen c 5 0 s1 else s1

/-- GEN or CHECK set in RUN without a loop holds the port in LISTEN at its rate (R295). -/
def holdListen (c : PortId) (s : State) : State :=
  if (s.port c).talks && (s.port c).prbsHeld then toListen c 0 0 s else s

/-- PRBS_GEN (R295). -/
def execPrbsGen (c : PortId) (s : State) : Out := .next (byHost s fun s => holdListen c (s.modPort c fun p => { p with gen := true }))

/-- GEN and CHECK act in the near-end loops, and in RUN without a loop (R295). -/
def Port.prbsActs (p : Port) : Bool :=
  (p.loopb == 1 || p.loopb == 2 || p.loopb == 0) && 2 ≤ p.st.toNat

/-- PRBS_CHECK (R295): `errs` bit errors are found. -/
def execPrbsCheck (c : PortId) (errs : Nat) (s : State) : Out :=
  .next <| byHost s fun s =>
    let s1 := holdListen c (s.modPort c fun p => { p with chk := true })
    if (s1.port c).prbsActs then
      s1.modPort c fun p => { p with cnt := { p.cnt with prbsErr := p.cnt.prbsErr + word errs } }
    else s1

/-! ### Swaps (R277, R279) -/

/-- A commit swap in a port: changed RATES lift exclusions, and a changed Offer is offered anew. `before` is the Offer
the port would have sent before the swap. -/
def swapPort (c : PortId) (old : RegMap) (before : OfferRec) (s : State) : State :=
  let s1 := if fld (regGet old (cpBase c + 4)) 0 2 = fld (s.cpCfg c) 0 2 then s
    else s.modPort c fun p => { p with excl := 0 }
  let p := s1.port c
  if s1.ownOffer c = before then s1
  else if p.st = 5 then toNegotiate c s1
  else if p.st = 4 ∨ p.st = 6 then
    (newOfferId c s1).modPort c fun p => { p with modeR := none, accSent := none, restepAt := none }
  else s1

end Sys2Proof.Machine
end

