-- ==== Sys2Proof/Machine/Freewheel.lean ====
section
/-! DEFINITION. Freewheel: admission, classification, the end of a frame, egress and residence correction (R302 to
R316). -/

namespace Sys2Proof.Machine

/-! ### Parsing (R310) -/

/-- The frame is tagged with TPID 0x8100. -/
def tagged (o : Octets) : Bool := beAt o 12 2 == 0x8100
def framePcp (o : Octets) : Nat := beAt o 14 2 / 8192
def frameVid (o : Octets) : Nat := beAt o 14 2 % 4096
def frameType (o : Octets) : Nat := beAt o (if tagged o then 16 else 12) 2
/-- Where the payload begins. -/
def payloadAt (o : Octets) : Nat := if tagged o then 18 else 14

/-- A frame the port takes before Freewheel sees it (R262). -/
def isSzl (o : Octets) : Bool := frameType o == 0x88B5 && !tagged o && o.take 6 == szlAddr

/-! ### Lookup (R309, R310) -/

/-- An entry of the table matches a frame of a pair and direction. -/
def clMatches (e : Nat) (c : PortId) (fromHost : Bool) (o : Octets) : Bool :=
  let dm := fieldOf e 48 3
  let vlan := fieldOf e 80 2
  e.testBit 104 && !clBad e && e.testBit (86 + c.val) && e.testBit (if fromHost then 94 else 95) &&
    leOctets dm (fieldOf e 0 48) == o.take dm &&
    (e.testBit 51 || fieldOf e 52 16 == frameType o) &&
    (vlan == 0 || (vlan == 1 && !tagged o) || (vlan == 2 && tagged o) ||
      (vlan == 3 && tagged o && frameVid o == fieldOf e 68 12)) &&
    (e.testBit 85 || (tagged o && framePcp o == fieldOf e 82 3))

/-- The lowest entry that matches; 0 for none: PASS with no other action. -/
def clLookup (m : RegMap) (c : PortId) (fromHost : Bool) (o : Octets) : Nat :=
  (((List.range 512).map (clEntry m)).find? fun e => clMatches e c fromHost o).getD 0

/-- DISP, and whether a frame with it goes on to the egress lane (R311, R316). -/
def clDisp (e : Nat) : Nat := fieldOf e 96 2
def State.forwards (s : State) (disp : Nat) : Bool := !s.fw.bypass && (disp == 0 || disp == 3)

/-- The class of a frame (R303, R311). -/
def classOf (m : RegMap) (c : PortId) (e : Nat) (o : Octets) : Nat :=
  if e.testBit 100 then fieldOf e 101 3 else if tagged o then framePcp o else fld (regGet m (fwBase c)) 2 3

/-! ### Admission (R302, R305) -/

/-- Cells held by one egress queue. -/
def State.queueCells (s : State) (c : PortId) (toLine : Bool) (cls : Nat) : Nat :=
  ((s.fw.frames.filter fun f => f.pair == c && f.toLine == toLine && f.cls == cls && s.forwards f.disp.toNat).map (·.cells)).sum

/-- The frame still arriving on a lane. -/
def State.arriving (s : State) (c : PortId) (fromHost : Bool) : Option Frame :=
  s.fw.frames.find? fun f => f.pair == c && f.toLine == fromHost && !f.whole

/-- The table that a frame admitted now is looked up in, with its generation: that of a swap due in this cycle, which
goes first (R21, R315). -/
def State.fwTable (s : State) : Word × RegMap :=
  let x := s.island islFreewheel
  match x.pending with
  | some m => if s.swapDue islFreewheel then (x.pendGen, m) else (x.gen, x.active)
  | none => (x.gen, x.active)

/-- FRAME_ADMISSION (R302, R303, R305, R310): `head` is the frame's first 64 octets, or all of it. -/
def execFrameAdmission (c : PortId) (fromHost : Bool) (head : Octets) (s : State) : Out :=
  .next <|
    if !s.laneUp c (!fromHost) || (!fromHost && isSzl head) || (s.arriving c fromHost).isSome then s
    else if !s.clocked then modFwCnt c (fun n => { n with gdrop := n.gdrop + 1 }) s
    else
      let (gen, m) := s.fwTable
      let e := clLookup m c fromHost head
      let cls := classOf m c e head
      let lim := min 16384 (fld (regGet m (fwBase c + 8)) 0 15)
      if s.forwards (clDisp e) && lim ≤ s.queueCells c fromHost cls then noteDiscard c fromHost (clDisp e) 1 s
      else if s.fw.free < 40 then noteDiscard c fromHost (clDisp e) 2 s
      else
        let rin := s.laneRate c (!fromHost)
        let ct := (regGet m (fwBase c + 4)).getLsbD ((if fromHost then 0 else 8) + cls) && s.laneRate c fromHost ≤ rin
        let f : Frame :=
          { pair := c, toLine := fromHost, octets := head, cls := cls, ct := ct
            gen := gen, disp := BitVec.ofNat 2 (clDisp e), ts := e.testBit 98
            corr := e.testBit 99, ingress := s.dt - BitVec.ofNat 80 (octetTime rin head.length), egress := none
            whole := false, stomp := false, cells := 40 }
        setFree (s.fw.free - 40) { s with fw := { s.fw with frames := s.fw.frames ++ [f] } }

/-! ### The end of a frame (R307, R311 to R313) -/

/-- What is wrong with a whole frame: LONG, CODE, FCS, or nothing (R307). -/
def frameFault (o : Octets) (codeErr : Bool) : Nat :=
  if 10240 < o.length then 4
  else if codeErr then 2
  else if o.length < 64 ∨ leNat (o.drop (o.length - 4)) ≠ (crc32 (noFcs o)).toNat then 1
  else 0

/-- A frame handed to its port as if it carried the SZL address (R311), with its ingress timestamp point: an SZL frame, a
Stamp in the IEEE 1588 form, or one that fits no table of R272. -/
def chainPdu (c : PortId) (o : Octets) (d : DT) (s : State) : State :=
  let body := (noFcs o).drop (payloadAt o)
  let pdu := body.take (max 16 (pduLen body))
  let bad : State := if (s.port c).hears then badPdu c s else s
  if tagged o then bad
  else if frameType o = 0x88F7 then takeSync c (body.take (beAt body 2 2)) d false s
  else if frameType o ≠ 0x88B5 then bad
  else match pduType pdu with
    | 1 => takeBell c pdu d s
    | 2 => takeOffer c pdu d s
    | 3 => takeAccept c pdu d s
    | 4 => takeReject c pdu d s
    | 5 => takeStamp c pdu d false s
    | 6 => takeTrigger c pdu s
    | 7 => takeAxis c pdu s
    | 8 => takeHost c pdu d s
    | _ => bad

/-- What a good frame's disposition does at its end (R311, R312, R313, R316). -/
def goodFrame (f : Frame) (s : State) : State :=
  let s1 := if f.disp = 2 ∨ f.disp = 3 then hostCopy f s
    else if f.disp = 1 then
      chainPdu f.pair f.octets f.ingress (modFwCnt f.pair (fun n => { n with extract := n.extract + 1 }) s)
    else s
  if s.forwards f.disp.toNat then s1
  else
    let s2 := if f.ts && !f.toLine then tsRecord f f.ingress f.octets s1 else s1
    let s3 := if f.disp = 0 then modFwCnt f.pair (fun n => { n with discard := n.discard + 1 }) s2 else s2
    dropFrame f s3

/-- FRAME_END_RECEIVED (R307): `tail` is what follows the first 64 octets. -/
def execFrameEndReceived (c : PortId) (fromHost : Bool) (tail : Octets) (codeErr : Bool) (s : State) : Out :=
  .next <|
    match s.arriving c fromHost with
    | some f =>
      if !s.clocked then s
      else
        let o := f.octets ++ tail
        let cause := frameFault o codeErr
        if cause ≠ 0 then badFrame f cause s
        else
          let cells := (o.length + 255) / 256
          let f1 := { f with octets := o, whole := true, cells := cells }
          let s1 := { s with fw := { s.fw with frames := modFirst (· == f) (fun _ => f1) s.fw.frames } }
          goodFrame f1 (setFree (s1.fw.free + (40 - cells)) s1)
    | none => s

/-! ### Egress (R303, R304, R313, R314) -/

/-- Frames waiting for, or in, one egress lane. -/
def State.laneFrames (s : State) (c : PortId) (toLine : Bool) : List Frame :=
  s.fw.frames.filter fun f => f.pair == c && f.toLine == toLine && s.forwards f.disp.toNat

/-- The first frame of a class, if it is ready. -/
def headReady (l : List Frame) (cls : Nat) : Option Frame :=
  match l.find? fun f => f.cls == cls with
  | some f => if f.ct || f.whole then some f else none
  | none => none

/-- The frame the lane sends next: the highest class that has one ready (R303). -/
def nextFrame (l : List Frame) : Option Frame :=
  [7, 6, 5, 4, 3, 2, 1, 0].findSome? (headReady l)

/-- FW_AGE in ft (R304). -/
def State.fwAge (s : State) : Nat := max 1 (fld (s.act 0x38004) 0 16) * ftUs

/-- EGRESS_START (R299, R303, R304). -/
def execEgressStart (c : PortId) (toLine : Bool) (s : State) : Out :=
  .next <|
    let l := s.laneFrames c toLine
    if !s.clocked || l.any (fun f => f.egress.isSome) then s
    else match nextFrame l with
      | some f =>
        if !dtLe s.dt (dtAdd f.ingress s.fwAge) then discardFrame f 4 s
        else if !s.laneUp c toLine then discardFrame f 5 s
        else { s with fw := { s.fw with
          frames := modFirst (· == f) (fun _ => { f with egress := some s.dt }) s.fw.frames } }
      | none => s

/-- The frame is an IEEE 1588-2019 event message over Ethernet (R314). -/
def isPtpEvent (o : Octets) : Bool :=
  let p := payloadAt o
  frameType o == 0x88F7 && beAt o (p + 1) 1 % 16 == 2 && beAt o p 1 % 16 ≤ 3 && p + 16 + 4 ≤ o.length

/-- correctionField with a residence added, held at its largest value. -/
def corrected (old : Int) (r : Int) : Int := min 0x7FFFFFFFFFFFFFFF (old + r * 16)

/-- A frame with its correctionField replaced and its FCS recomputed. -/
def withCorrection (o : Octets) (v : Int) : Octets :=
  let body := patch (noFcs o) (payloadAt o + 8) (beOctets 8 (BitVec.ofInt 64 v).toNat)
  body ++ leOctets 4 (crc32 body).toNat

/-- The octets a frame leaves with, and what its correction raises and counts (R314). -/
def correctFrame (f : Frame) (egress : DT) (s : State) : Octets × State :=
  if !f.corr then (f.octets, s)
  else if !isPtpEvent f.octets then (f.octets, raise 211 2 0 0 s.dt s)
  else
    let old := (BitVec.ofNat 64 (beAt f.octets (payloadAt f.octets + 8) 8)).toInt
    let r := dtDiff egress f.ingress
    let s1 := modFwCnt f.pair (fun n => { n with corr := n.corr + 1 }) s
    (withCorrection f.octets (corrected old r),
      if 0x7FFFFFFFFFFFFFFF < old + r * 16 then raise 211 1 0 0 s.dt s1 else s1)

/-- EGRESS_END (R313, R314, R315). -/
def execEgressEnd (c : PortId) (toLine : Bool) (s : State) : Out :=
  .next <|
    match (s.laneFrames c toLine).find? fun f => f.egress.isSome with
    | some f =>
      if !s.clocked || !f.whole then s
      else
        let eg := f.egress.getD s.dt
        let (o, s1) := correctFrame f eg s
        let s2 := modFwCnt c (fun n =>
          if toLine then { n with fwdHl := n.fwdHl + 1 } else { n with fwdLh := n.fwdLh + 1 }) s1
        let s3 := if f.ts then tsRecord f (if toLine then eg else f.ingress) (if toLine then o else f.octets) s2 else s2
        sentFrame f { f with octets := o } s3
    | none => s

end Sys2Proof.Machine
end

