-- ==== Sys2Proof/Machine/Gates.lean ====
section
/-! DEFINITION. Closing the gates, starting a lock, the DCO word, and Brake (R230 to R237, R255, R344, R350). -/

namespace Sys2Proof.Machine

/-! ### Brake and the drive token (R344, R346, R350) -/

/-- PA_CFG.PAIR in force. -/
def State.paired (s : State) : Bool := bit (s.act 0x3E000) 0

/-- The token states of R344, by number. -/
def Token.code : Token → Nat
  | .none => 0
  | .standby => 1
  | .active => 2
  | .brake => 3

/-- The reasons of R346. -/
def reasonCode (k : Fin 6) : Nat := (Config.tokenReason k).toNat

/-- The token is released with a reason (R346). -/
def releaseToken (tok : Token) (reason : Fin 6) (s : State) : State :=
  raiseNow 242 2 (reasonCode reason) 0
    { s with pair := { s.pair with token := tok, releases := s.pair.releases + 1 } }

/-- The net has been wrong within the last 2 us (R345). -/
def State.netWrong (s : State) : Bool := s.pair.lastMis.any fun t => s.clock ≤ t + 8192000

/-- The token is taken (R346): suppression ends, and for a failover the gap is reported (R347). -/
def takeToken (reason : Fin 6) (s : State) : State :=
  let s1 := raiseNow 242 1 (reasonCode reason) 0
    { s with pair := { s.pair with token := .active, takes := s.pair.takes + 1 } }
  if reason = 1 then
    let n := ((List.finRange 64).map fun i => (s.spoke i).gapEdges.length).sum
    raise 246 1 0 0 s.pair.lastTx
      { s1 with pair := { s1.pair with gapDt := s.pair.lastTx, gapEdges := word n } }
  else s1

/-- What the partner's state, of the latest heartbeat since entry to Day, does to the token (R346). -/
def beatToken (s : State) : State :=
  if !s.inDay || !s.pair.heard then s
  else if s.pair.token == .standby && s.pair.ptoken == 3 then takeToken 0 s
  else if s.pair.token == .active && s.pair.ptoken == 2 && s.pair.side then releaseToken .standby 3 s
  else s

/-- A standby module takes the token where the net is wrong: its partner's heartbeat missing, or, on side A, never
heard (R346). -/
def netTake (s : State) : State :=
  if s.inDay && s.pair.token == .standby && s.netWrong then
    if s.pair.heard then (if s.pair.hb then s else takeToken 1 s) else if s.pair.side then s else takeToken 2 s
  else s

/-- A module enters STANDBY: what holds already may take the token at once (R346). -/
def settleToken (s : State) : State := netTake (beatToken s)

/-- The watchdog sets Brake on the first of its causes (R350): one already in force stands. -/
def enterBrake (cause : Nat) (s : State) : State :=
  if s.pair.brakeLine then s
  else
    let s1 := if s.pair.token = .active then releaseToken .brake 5 s else s
    raiseNow 245 1 cause 0 { s1 with pair := { s1.pair with
      token := .brake, brakeLine := true, brakeCause := BitVec.ofNat 3 cause, brakes := s1.pair.brakes + 1 } }

/-! ### Gates and locks (R233 to R237) -/

/-- A lock begins with its settle step (R233). -/
def beginLock (s : State) : State :=
  { s with hub := { s.hub with lock := .settle, stepEnd := s.clock + 81920000, disagree := 0 } }

/-- SP_QSTAT.DRV: 0 low, 1 high, 2 Hi-Z, 3 in a mode-change interval. -/
def State.drvCode (s : State) (i : SpokeId) : Nat :=
  if (s.spoke i).modeEnd.isSome then 3 else match s.driven i with
    | .low => 0
    | .high => 1
    | .hiz => 2

/-- FW_P_STAT as the lanes stand. -/
def State.laneStat (s : State) (c : PortId) : Word := word (b1 (s.fw.hblock.get c) + 2 * b1 (s.lineUp c))

/-- The live fields that go on moving without the clock of their island are held as they stand (R360). -/
def holdReads (s : State) : State :=
  let s1 := forEach 64 (fun i s => s.modSpoke i fun sp => { sp with
    heldSuppr := s.suppressed, heldDrv := BitVec.ofNat 2 (s.drvCode i) }) s
  { s1 with fw := { s1.fw with heldStat := Vector.ofFn s.laneStat } }

/-- The gates close (R237, R255): the gated units stop, what their live fields read is held (R360), the holdover counter
takes over the count (R240), and the watchdog sees it after Day entry. -/
def closeGates (s : State) : State :=
  if !s.hub.gatesOpen then s
  else
    let s1 := forEach 4 gateEngine (gateFreewheel (gateTruing (holdReads s)))
    let s2 := { s1 with hub := { s1.hub with
      gatesOpen := false, hold := false, closeDt := s.dt, piStep := 0
      ho := if s.dtRuns then some ⟨s.dt, s.hub.w, s.clock⟩ else none } }
    if s2.hub.inDay && s2.paired then enterBrake 2 s2 else s2

/-- Loss of lock (R236, R258): counted, raised with the DT of detection unless DT does not yet run, and a new lock
begins. A loss during an outage is timed by the holdover counter (R240). -/
def loseLock (s : State) : State :=
  let s1 := closeGates s
  let s2 := { s1 with hub := { s1.hub with losses := s1.hub.losses + 1 } }
  beginLock (if s.hub.dayLock then s2 else raiseAs s.outage 216 1 0 0 s.now s2)

/-- A controlled relock (R234). -/
def relock (s : State) : State :=
  let s1 := closeGates s
  beginLock (raiseAs s.outage 216 4 0 0 s.now { s1 with hub := { s1.hub with relocks := s1.hub.relocks + 1 } })

/-! ### The DCO word (R231, R232) -/

/-- W held inside plus or minus 200 ppm, with LIMIT where it would pass. -/
def limitW (w : Int) (s : State) : Int × State :=
  let v := clampI 20000000 w
  (v, if v = w then s else raiseNow 219 1 0 0 s)

/-- A change of W is requested: it waits for its turn, and replaces one that waits (R232). -/
def requestW (w : Int) (s : State) : State :=
  let (v, s1) := limitW w s
  { s1 with hub := { s1.hub with wPend := some v } }

/-- The log of W from an elapsed time on, with the entry in force there. -/
def logFrom (t : Nat) : List (Nat × Int) → List (Nat × Int)
  | [] => []
  | e :: l => if e.1 < t then [e] else e :: logFrom t l

/-- W comes in force; its log goes back as far as NN_HOLD can ask (R243). -/
def setW (w : Int) (s : State) : State :=
  { s with
    hub := { s.hub with w := w, wPend := none, wAt := some s.clock }
    noon := { s.noon with wLog := (s.clock, w) :: logFrom (s.clock - 256 * ftS) s.noon.wLog } }

/-! ### References (R227, R229) -/

/-- SEL as it acts. -/
def selOf (n : Nat) : Nat := if n ≤ 3 ∨ 8 ≤ n then n else 0

/-- The reference in force becomes another (R229). -/
def switchRef (sel : Nat) (s : State) : State :=
  raiseNow 217 2 0 0 { s with hub := { s.hub with sel := BitVec.ofNat 4 sel } }

/-- A commit swap in Hub (R229, R232): a changed or rewritten SEL, or a large override, goes through a controlled
relock, whose gates close before the DCO is touched (R234); a small override is a change of W like any other, and one
that is W already leaves no other change waiting, since W is held at WORD. -/
def swapHub (old : RegMap) (s : State) : State :=
  let cfg := s.act 0x2004
  let sel := selOf (fld cfg 0 4)
  let wants := !bit cfg 4 && sel != s.hub.sel.toNat &&
    (fld cfg 0 4 != fld (regGet old 0x2004) 0 4 || s.hub.selArmed)
  let ovr := s.act 0x2008
  let raw := signed 26 (fld ovr 0 26)
  let w := clampI 20000000 raw
  let big := bit ovr 26 && 50000 < (w - s.hub.w).natAbs
  let s1 := { s with hub := { s.hub with selArmed := false } }
  let s2 := if bit ovr 26 && (ovr != regGet old 0x2008 || w != s.hub.w) then (limitW raw s1).2 else s1
  let s3 := if wants || big then relock (if wants then switchRef sel s2 else s2) else s2
  if !bit ovr 26 then s3
  else if big then setW w s3
  else { s3 with hub := { s3.hub with wPend := if w = s.hub.w then none else some w } }

end Sys2Proof.Machine
end

