-- ==== Sys2Proof/Machine/Cells.lean ====
section
/-! DEFINITION. Ring cells (R322, R323), their way round the ring and across the Pair lane (R337, R342), and the states
of Stoker (R329). -/

namespace Sys2Proof.Machine

/-! ### The cell (R322) -/

/-- One bit of the CRC-16 of R322, most significant bit first. -/
def crc16Bit (c : BitVec 16) : BitVec 16 := if c.msb then (c <<< 1) ^^^ 0x1021#16 else c <<< 1

/-- One octet of the CRC-16. -/
def crc16Octet (c : BitVec 16) (b : Byte) : BitVec 16 :=
  crc16Bit (crc16Bit (crc16Bit (crc16Bit (crc16Bit (crc16Bit (crc16Bit (crc16Bit (c ^^^ (b.setWidth 16 <<< 8)))))))))

/-- CRC-16, polynomial 0x1021, initial value 0xFFFF. -/
def crc16 (bs : Octets) : BitVec 16 := bs.foldl crc16Octet 0xFFFF#16

/-- The first 30 octets of a cell with their CRC. -/
def withCrc (b : Octets) : Octets := b ++ leOctets 2 (crc16 b).toNat

/-- A cell is whole. -/
def cellOk (b : Octets) : Bool := b.length == 32 && crc16 (b.take 30) == BitVec.ofNat 16 (leAt b 30 2)

def cellType (b : Octets) : Nat := leAt b 0 1
def cellOrigin (b : Octets) : Nat := leAt b 1 1 % 16
def cellHops (b : Octets) : Nat := leAt b 1 1 / 16
def cellDest (b : Octets) : Nat := leAt b 2 1 % 16
def cellAll (b : Octets) : Bool := (leAt b 2 1).testBit 4
def cellSide (b : Octets) : Bool := (leAt b 2 1).testBit 5
def cellSeq (b : Octets) : Byte := BitVec.ofNat 8 (leAt b 3 1)
def cellDt (b : Octets) : DT := BitVec.ofNat 80 (leAt b 4 10)
def cellWord (b : Octets) : Word := word (leAt b 14 4)
def cellId (b : Octets) : BitVec 64 := BitVec.ofNat 64 (leAt b 0x12 8)
def cellAux (b : Octets) : Nat := leAt b 0x1A 4

/-- A cell of this module: TYPE, DEST with ALL, and octets 0x04 to 0x1D. -/
def mkCell (s : State) (ty dest : Nat) (all : Bool) (body : Octets) : Octets :=
  withCrc ([BitVec.ofNat 8 ty, BitVec.ofNat 8 s.stoker.pos.toNat,
    BitVec.ofNat 8 (dest % 16 + 16 * b1 all + 32 * b1 s.pair.side), s.stoker.seq] ++ body)

/-- Octets 0x04 to 0x1D from the fields most types use. -/
def cellBody (dt : DT) (w : Word) (id : BitVec 64) (aux : Nat) : Octets :=
  leOctets 10 dt.toNat ++ leOctets 4 w.toNat ++ leOctets 8 id.toNat ++ leOctets 4 aux

/-! ### The stack as a module sees it -/

/-- MEMBER or CAPTAIN: commits and steps are stack-wide (R336). -/
def State.stacked (s : State) : Bool := s.stoker.st == 2 || s.stoker.st == 3

/-- Commits are pair-wide (R336). -/
def State.pairWide (s : State) : Bool :=
  s.stoker.otherBeacon.any fun b => s.clock ≤ b.1 + ftMs && b.2 == s.commit.gen

/-- The reach of a commit or step issued now. -/
def State.reach (s : State) : Reach := if !s.stacked then .alone else if s.pairWide then .pair else .stack

def State.modStoker (s : State) (f : Stoker → Stoker) : State := { s with stoker := f s.stoker }

/-- A state change of Stoker (R329): E237 with the new state as cause. -/
def stokerTo (st : Nat) (s : State) : State :=
  raiseNow 237 st 0 0 (s.modStoker fun k => { k with st := BitVec.ofNat 3 st, stFrom := s.clock })

/-- The module enters SEEK: exchanges used to join are counted from here (R330), and no loss has yet moved its ring
PLL. -/
def enterSeek (s : State) : State :=
  stokerTo 1 (s.modStoker fun k => { k with joinUses := 0, jwait := false, moved := false, pllDco := false })

/-- The module takes no part in the ring any more (R329); DUPPOS lasts until Night. -/
def leaveRing (s : State) : State := if s.stoker.st == 0 || s.stoker.st == 6 then s else stokerTo 0 s

/-! ### Sending -/

/-- A frame on the Pair lane (R342): the SZL header and a body. -/
def pairFrame (s : State) (ty seq flags : Nat) (body : Octets) : Octets :=
  ethFrame (beOctets 6 Config.pairMac.toNat) 0x88B5
    (leOctets 1 1 ++ leOctets 1 ty ++ leOctets 2 (16 + body.length) ++ leOctets 2 seq ++ leOctets 2 flags ++
      leOctets 8 s.ident.toNat ++ body)

/-- A cell crosses the Pair lane in a Relay frame. -/
def relay (cell : Octets) (s : State) : State :=
  if s.pair.lane then
    { s with pair := { s.pair with
      out := s.pair.out ++ [pairFrame s 0x11 s.pair.seqRelay.toNat 0 cell], seqRelay := s.pair.seqRelay + 1 } }
  else s

/-- A cell of this module's own side goes over the lane (R336, R337): BEACONs always, the cells of a pair-wide commit
while commits are pair-wide. -/
def State.relays (s : State) (cell : Octets) : Bool :=
  cellSide cell == s.pair.side && (cellType cell == 1 || (5 ≤ cellType cell && cellType cell ≤ 8 && s.pairWide))

/-- REQUEST, PREPARE, ANSWER, CONFIRM and ABANDON go ahead of the other cells that wait for a link (R323). -/
def goesFirst (m : RingPort × Option Octets) : Bool := m.2.any fun b => 4 ≤ cellType b && cellType b ≤ 8

/-- The elapsed time from which a link can begin its next cell. -/
def Stoker.freeAt (k : Stoker) (prt : RingPort) : Nat := match prt with | .n => k.freeN | .p => k.freeP

def Stoker.setFree (k : Stoker) (prt : RingPort) (t : Nat) : Stoker :=
  match prt with | .n => { k with freeN := t } | .p => { k with freeP := t }

def Stoker.est (k : Stoker) (prt : RingPort) : Estim := match prt with | .n => k.estN | .p => k.estP

def Stoker.setEst (k : Stoker) (prt : RingPort) (e : Estim) : Stoker :=
  match prt with | .n => { k with estN := e } | .p => { k with estP := e }

/-- The cell that a link begins next, of those that wait for it. -/
def Stoker.nextCell (k : Stoker) (prt : RingPort) : Option (RingPort × Option Octets) :=
  let l := k.wait.filter (·.1 == prt)
  (l.find? goesFirst).or l.head?

/-- A HOPSTAMP as it begins now: its TXTS, and in its echo fields the latest HOPSTAMP of the same neighbour (R322, R327). -/
def hopstampBody (s : State) (prt : RingPort) : Octets :=
  let (eseq, etx, erx, ev, ecoarse) := match (s.stoker.est prt).got with
    | some (q, t, d, k) => (q.toNat % 256, t.toNat, d.toNat, true, k)
    | none => (0, 0, 0, false, false)
  leOctets 10 s.now.toNat ++ leOctets 6 etx ++ leOctets 6 erx ++
    leOctets 4 (eseq + 256 * b1 ev + 512 * b1 s.outage + 1024 * b1 ecoarse)

/-- A cell begins on a link. A HOPSTAMP's SEQ and TXTS are kept for the exchange (R281, R327). -/
def beginCell (m : RingPort × Option Octets) (s : State) : State :=
  let k := s.stoker
  let k1 := ({ k with wait := k.wait.erase m } : Stoker).setFree m.1 (s.clock + 524288)
  match m.2 with
  | some b => { s with stoker := { k1 with out := k1.out ++ [(m.1, b)] } }
  | none =>
    let est := k.est m.1
    let q : BitVec 16 := k.seq.setWidth 16
    let k2 := k1.setEst m.1 { est with sent := (q, s.now, s.outage) :: est.sent.filter fun e => e.1 != q }
    { s with stoker := { k2 with
      seq := k2.seq + 1, out := k2.out ++ [(m.1, mkCell s 2 0 true (hopstampBody s m.1))] } }

/-- A link that is free begins the next cell that waits for it: one every 128 ns at most (R322). -/
def runLink (prt : RingPort) (s : State) : State :=
  if s.clock < s.stoker.freeAt prt then s
  else match s.stoker.nextCell prt with
    | some m => beginCell m s
    | none => s

/-- A cell, or a HOPSTAMP to be made, enters a link's queue. -/
def sendCell (prt : RingPort) (m : Option Octets) (s : State) : State :=
  runLink prt (s.modStoker fun k => { k with wait := k.wait ++ [(prt, m)] })

/-- A cell on both outgoing links. -/
def flood (cell : Octets) (s : State) : State :=
  let s1 := sendCell .p (some cell) (sendCell .n (some cell) s)
  if s.relays cell then relay cell s1 else s1

/-- A cell this module originates, on both outgoing links, under the next SEQ (R323); a module in DUPPOS originates none
(R333). -/
def originate (ty dest : Nat) (all : Bool) (body : Octets) (s : State) : State :=
  if s.stoker.st == 6 then s
  else
    flood (mkCell s ty dest all body) (s.modStoker fun k => { k with seq := k.seq + 1 })

/-! ### Receiving (R323) -/

/-- The first copy of a cell within 16 us. -/
def State.firstCopy (s : State) (b : Octets) : Bool :=
  !(s.stoker.seen.any fun e => e.1 == cellOrigin b && e.2.1 == cellSide b && e.2.2.1 == cellSeq b && s.clock ≤ e.2.2.2 + 65536000)

/-- A cell remembered, and its origin counted among the positions heard. -/
def remember (b : Octets) (s : State) : State :=
  let o := cellOrigin b
  let own := cellSide b == s.pair.side
  let add (l : List Nat) := if l.contains o then l else o :: l
  { s with stoker := { s.stoker with
    seen := (o, cellSide b, cellSeq b, s.clock) :: s.stoker.seen.filter (fun e => s.clock ≤ e.2.2.2 + 65536000)
    members := if own && o != s.stoker.pos.toNat then add s.stoker.members else s.stoker.members
    otherMembers := if own then s.stoker.otherMembers else add s.stoker.otherMembers } }

/-- The link a ring leaves by: CW by port N, CCW by port P (R320). -/
def outPort (r : RingDir) : RingPort := match r with | .cw => .n | .ccw => .p

/-- The port a ring arrives at. -/
def inPort (r : RingDir) : RingPort := match r with | .cw => .p | .ccw => .n

/-- The cell one hop on, on its own ring; a HOPSTAMP goes no further than the neighbour. -/
def forward (r : RingDir) (b : Octets) (s : State) : State :=
  if cellType b == 2 then s else
  let up := withCrc (patch (b.take 30) 1 [BitVec.ofNat 8 (cellOrigin b + 16 * (cellHops b + 1))])
  let s1 := if cellHops b = 15 then s else sendCell (outPort r) (some up) s
  if s.relays b then relay b s1 else s1

/-- A cell names this module's position and side as its origin. -/
def State.isOrigin (s : State) (b : Octets) : Bool := cellSide b == s.pair.side && cellOrigin b == s.stoker.pos.toNat

/-- DEST names this module. -/
def State.isDest (s : State) (b : Octets) : Bool := cellAll b || cellDest b == s.stoker.pos.toNat

/-- A cell's ID is its origin's identity: in all but a HOPSTAMP and the cells of a step. -/
def hasId (b : Octets) : Bool :=
  let t := cellType b
  t == 1 || t == 3 || ((t == 4 || t == 5) && !(cellAux b).testBit 0) || 6 ≤ t

/-- The module is the origin of a cell: its position and side, and its identity where the cell carries one. -/
def State.isOwn (s : State) (b : Octets) : Bool := s.isOrigin b && (!hasId b || cellId b == s.ident)

/-- A cell of the module's own position and side from a lower identity: DUPPOS (R333). -/
def duppos (b : Octets) (s : State) : State :=
  if s.isOrigin b && hasId b && (cellId b).toNat < s.ident.toNat && s.stoker.st != 6 && s.inDay then stokerTo 6 s else s

/-- A ring's clock arrives, or has stopped (R324, R325). -/
def Stoker.setClk (k : Stoker) (r : RingDir) (b : Bool) : Stoker :=
  match r with | .cw => { k with clkCw := b } | .ccw => { k with clkCcw := b }

/-- A cell of a type arrives on a ring, whose clock runs then: dropped with BADCELL, or, if it is the first copy and not
the module's own, forwarded and, where DEST says so, taken by `f` (R323). A module that takes no part in the ring, ALONE,
does nothing with it (R329). -/
def receive (ty : Nat) (r : RingDir) (b : Octets) (f : State → State) (s0 : State) : Out :=
  .next <|
    let s := s0.modStoker (·.setClk r true)
    if s.stoker.st == 0 then s
    else if !cellOk b then
      raiseNow 240 2 0 0 (s.modStoker fun k => { k with badCell := k.badCell + 1 })
    else if cellType b != ty || s.isOwn b || !s.firstCopy b then s
    else
      let s1 := duppos b (forward r b (remember b s))
      if s.isDest b then f s1 else s1

/-! ### The ring's clock (R324, R326, R334) -/

/-- What the ring PLL follows. -/
inductive RingPll where
  | ring (r : RingDir)
  | holdover
  | dco
  deriving DecidableEq, Repr

/-- The ring a flag of SK_STAT.DIR names. -/
def ringOf (dir : Bool) : RingDir := if dir then .ccw else .cw

def Stoker.ok (k : Stoker) (r : RingDir) : Bool := match r with | .cw => k.cwOk | .ccw => k.ccwOk

/-- The ring PLL's input: in a Captain the DCO output or holdover (R334), elsewhere the selected ring while it is present
(R325), and holdover when both are lost (R326). -/
def Stoker.pll (k : Stoker) : RingPll :=
  if k.st == 3 then (if k.pllDco then .dco else .holdover)
  else if k.ok (ringOf k.dir) then .ring (ringOf k.dir) else .holdover

/-- The clock a module sends on an outgoing link. -/
inductive LinkClk where
  | stopped
  /-- The Captain's, from its ring PLL. -/
  | own
  /-- The clock that arrives on the same ring. -/
  | passed
  deriving DecidableEq, Repr

/-- The clock on the outgoing link of a ring (R324). -/
def Stoker.linkClk (k : Stoker) (r : RingDir) : LinkClk :=
  if k.st == 0 then .stopped
  else if k.st == 3 then .own
  else if (match r with | .cw => k.clkCw | .ccw => k.clkCcw) then .passed else .stopped

end Sys2Proof.Machine
end

