-- ==== Sys2Proof/Machine/Swap.lean ====
section
/-! DEFINITION. What a confirmed commit does in each island at its swap (R25, R28, R30), and what an island does with its
end of the commit channel when its clock comes back (R26, R48). -/

namespace Sys2Proof.Machine

/-- Islands that take part in a commit (R49), in ascending order. -/
def commitIslands : List IslandId := (List.finRange 88).filter fun i => i.val ≠ 0x53 ∧ i.val < 0x56

/-- Islands that keep a retiring copy: spokes, engines and Freewheel (R66, R152, R315). -/
def retires (i : IslandId) : Bool := i.val < 0x40 || (0x49 ≤ i.val && i.val ≤ 0x4C) || i.val == 0x50

/-- The pending copy becomes the active one, and the old one the retiring copy where the island keeps one. -/
def swapCopies (i : IslandId) (s : State) : State :=
  s.modIsland i fun x => match x.pending with
    | some m => { x with
        active := m, gen := x.pendGen, pending := none, confirmed := false, abandoned := false
        retiring := if retires i then some x.active else none
        retGen := if retires i then x.gen else x.retGen }
    | none => x

/-- PPSIN turned on at a swap: the search for its edges starts anew (R250). -/
def swapNoon (old : RegMap) (s : State) : State :=
  if bit (s.act 0x3068) 0 && !bit (regGet old 0x3068) 0 then
    { s with noon := { s.noon with ppsLast := none, ppsSeen := s.clock } }
  else s

/-- SK_CFG.EN changed in Day: a module that takes part seeks a stack, and one that does not is ALONE (R329). A module in
DUPPOS stays there until Night. -/
def swapStoker (old : RegMap) (s : State) : State :=
  let en := bit (s.act 0x3C000) 0
  if en == bit (regGet old 0x3C000) 0 || !s.inDay || s.stoker.st == 6 then s
  else if en then enterSeek s else stokerTo 0 s

/-- PAIR turned on or off takes STANDBY or NONE, Brake apart (R344), and a handover later than DT_effect is armed
(R348). -/
def swapPair (old : RegMap) (dtEff : DT) (s : State) : State :=
  let was := bit (regGet old 0x3E000) 0
  let tok := if s.paired == was || s.pair.token == .brake then s.pair.token else if s.paired then .standby else .none
  let h := dt3 (s.act 0x3E010) (s.act 0x3E014) (s.act 0x3E018)
  let arms := bit (s.act 0x3E00C) 0 && !dtLe h dtEff
  settleToken { s with pair := { s.pair with
    token := tok, hand := if arms then some h else s.pair.hand, handOk := if arms then false else s.pair.handOk } }

/-- The bank swap, where PC_BANK.SEL names the other bank; the lock of R130 ends either way. -/
def swapPacer (s : State) : State :=
  let s1 := if bit (s.act 0x9000) 0 != s.pacer.bank then swapBank s else s
  { s1 with pacer := { s1.pacer with locked := false } }

/-- The swap of one island, with what the new configuration brings there. -/
def swapIsland (dtEff : DT) (i : IslandId) (s : State) : State :=
  let old := (s.island i).active
  if (s.island i).pending.isNone then s
  else
    let s1 := swapCopies i (if 0x49 ≤ i.val && i.val ≤ 0x4C then syncFills s else s)
    if h : i.val < 0x40 then swapSpoke ⟨i.val, by omega⟩ old s1
    else if h : i.val < 0x48 then
      let c : PortId := ⟨i.val - 0x40, by omega⟩
      swapPort c old (s.ownOffer c) s1
    else if i = islPacer then swapPacer s1
    else if h : 0x49 ≤ i.val ∧ i.val ≤ 0x4C then swapEngine ⟨i.val - 0x49, by omega⟩ old s1
    else if i = islCrank then swapCrank old dtEff s1
    else if i = islNoon then swapNoon old s1
    else if i = islHub then swapHub old s1
    else if i = islFreewheel then swapFreewheel old s1
    else if i = islStoker then swapStoker old s1
    else if i = islPair then swapPair old dtEff s1
    else if i = islTruing then swapTruing s1
    else s1

/-- The island swaps if it is confirmed; a Confirm in the channel is used up. -/
def swapConfirmed (dtEff : DT) (i : IslandId) (s : State) : State :=
  if (s.island i).decided then
    swapIsland dtEff i (s.modIsland i fun x => { x with inbox := x.inbox.filter (· != .confirm) })
  else s

/-- An island's clock returns: a pending copy abandoned in the meantime goes, or a confirmed swap whose DT_effect has
passed is applied, before any other work (R26, R28, R48). -/
def ungateCopies (i : IslandId) (s : State) : State :=
  let x := s.island i
  if x.abandoned then s.setIsland i { x with pending := none, abandoned := false, confirmed := false }
  else if x.pending.isSome && dtLe x.pendDt s.dt then swapConfirmed x.pendDt i s
  else s

/-- SIESTA_WAKE_END (R264, R265): 2.5 ms after RUN the port's clock is back: a swap that waited is applied, and the port
enters LISTEN. -/
def execSiestaWakeEnd (c : PortId) (s : State) : Out :=
  .next <|
    let p := s.port c
    match p.wakeAt with
    | some t =>
      if p.st = 1 ∧ t ≤ s.clock then
        toListen c 6 0 ((ungateCopies (islPort c) s).modPort c fun q => { q with wakeAt := none })
      else s
    | none => s

end Sys2Proof.Machine
end

