-- ==== Sys2Proof/Machine/CommitUnit.lean ====
section
/-! DEFINITION. The commit unit's operations on its own islands (R23 to R34) and the checks of a time step (R251, R252),
which a stack-wide commit or step runs in every module. -/

namespace Sys2Proof.Machine

/-- An operation over the islands of R49, lowest number first. -/
def overIslands (f : IslandId → State → State) (s : State) : State := commitIslands.foldl (fun s i => f i s) s

/-- A message enters an island's commit channel. -/
def sendIsl (m : CommitMsg) (i : IslandId) (s : State) : State := s.modIsland i fun x => { x with inbox := x.inbox ++ [m] }

/-- The four shadow ownership masks (R27, R150). -/
def State.ownMasks (s : State) : Vector (BitVec 64) 4 :=
  Vector.ofFn fun v : Fin 4 =>
    BitVec.ofNat 64 ((s.shadowAt (crBase v + 0x28)).toNat + (s.shadowAt (crBase v + 0x2C)).toNat * 2 ^ 32)

/-- A generation is newer than the active one (R24). -/
def newer (gen g : Word) : Bool := let d := (gen - g).toNat; 1 ≤ d && d < 2 ^ 31

/-- The least lead of a commit or step by its reach (R25, R252, R336). -/
def leadOf : Reach → Nat
  | .alone => 8192000
  | .stack => 131072000
  | .pair => 327680000

/-- The clock cycle of the commit unit, which runs with Handlebar (R29). -/
def State.commitCycle (s : State) : Nat := s.islEdges islHandlebar s.clock

/-- The order in which commits of one commit-unit cycle are taken (R29). A commit that another module issued takes the
automatic one's place (DESIGN CHOICE: log entry 67). -/
def CommitSrc.rank : CommitSrc → Nat
  | .auto | .remote => 0
  | .host => 1
  | .thread p => 2 + p.val

/-- THREAD of HB_COMMIT_STATUS. -/
def threadOf : CommitSrc → Nat
  | .thread p => p.val
  | _ => 0

def CommitSrc.isThread : CommitSrc → Bool
  | .thread _ => true
  | _ => false

/-- HB_COMMIT_STATUS takes a commit's state (R33). SRC has a value for the host and for a Pacer thread only: an automatic
restart commit, and one of another module, read as the host's (DESIGN CHOICE: log entry 67). -/
def setStatus (src : CommitSrc) (st cause island pos : Nat) (side : Bool) (s : State) : State :=
  { s with commit := { s.commit with
    state := BitVec.ofNat 2 st, src := src.isThread, thread := BitVec.ofNat 4 (threadOf src)
    cause := BitVec.ofNat 4 cause, island := BitVec.ofNat 8 island, pos := BitVec.ofNat 4 pos, side := side } }

/-- A commit is refused: reported, raised on E253 with its DT_effect, and, for an automatic restart commit, raised on
E218 and issued again in 1 ms (R34, R257). -/
def sayRefused (src : CommitSrc) (dtEff : DT) (gen : Word) (cause island pos : Nat) (side : Bool) (s : State) : State :=
  let s1 := raise 253 cause island gen.toNat dtEff (setStatus src 3 cause island pos side s)
  match src with
  | .auto => raiseNow 218 3 0 0 { s1 with commit := { s1.commit with autoAt := some (s1.clock + ftMs) } }
  | _ => s1

/-- The pending commit is refused: every island is told to abandon it, the bank lock ends (R130), and a write of SEL that
Hub had armed for still counts as written since the previous commit (R229). -/
def refusePending (cause island pos : Nat) (side : Bool) (s : State) : State :=
  match s.commit.pend with
  | some p =>
    let s1 := if p.awaiting.isEmpty && !p.armedAll then s else overIslands (sendIsl .abandon) s
    let s2 := { s1 with
      commit := { s1.commit with pend := none, answers := [] }, pacer := { s1.pacer with locked := false }
      hub := { s1.hub with selWritten := s1.hub.selWritten || s1.hub.selArmed, selArmed := false } }
    sayRefused p.src p.dtEff p.gen cause island pos side s2
  | none => s

/-- A commit becomes pending, Prepare going to every island of R49 (R25). -/
def prepareAll (src : CommitSrc) (reach : Reach) (dtEff : DT) (gen : Word) (own : Vector (BitVec 64) 4) (s : State) : State :=
  let s1 := overIslands (sendIsl (.prepare dtEff gen own)) s
  setStatus src 1 0 0xFF 0 false { s1 with commit := { s1.commit with
    answers := []
    pend := some ⟨src, reach, dtEff, gen, own, commitIslands.map (·.val), false, false, s.commitCycle⟩ } }

/-- Confirm goes to every island (R25). -/
def confirmAll (s : State) : State :=
  match s.commit.pend with
  | some p =>
    let s1 := overIslands (sendIsl .confirm) s
    { s1 with commit := { s1.commit with pend := some { p with confirmed := true } } }
  | none => s

/-! ### An island's end (R25 to R31, R80) -/

/-- The retiring copy still holds tagged work (R31). -/
def State.holdsWork (s : State) (i : IslandId) : Bool :=
  let x := s.island i
  if h : i.val < 0x40 then
    x.retiring.isSome && (s.spoke ⟨i.val, h⟩).queue.any fun e => e.tag == x.retGen && e.tag != x.gen
  else if h : 0x49 ≤ i.val ∧ i.val ≤ 0x4C then
    x.retiring.isSome && !dtLe (s.engine ⟨i.val - 0x49, by omega⟩).vecEnd s.dt
  else if i = islFreewheel then 0 < s.draining
  else false

/-- The commit would give the spoke to an engine while its queue holds work of the descriptor path (R80). -/
def State.givesAway (s : State) (i : IslandId) (own : Vector (BitVec 64) 4) : Bool :=
  if h : i.val < 0x40 then
    let k : SpokeId := ⟨i.val, h⟩
    own.toList.any (·.getLsbD i.val) && (s.spoke k).queue.any fun e => (ownerIn (s.tagRegs k e.tag) i.val).isNone
  else false

/-- The ownership masks a Prepare carries, in place of those of a copy (R27). -/
def withOwn (own : Vector (BitVec 64) 4) (m : RegMap) : RegMap :=
  (List.finRange 4).foldl (fun m v =>
    regPut (regPut m (crBase v + 0x28) (word (own.get v).toNat)) (crBase v + 0x2C) (word ((own.get v).toNat / 2 ^ 32))) m

/-- What an island copies when it arms: its own part of the shadow, and, in spokes and engines, the masks (R25, R27). -/
def State.pendingCopy (s : State) (i : IslandId) (own : Vector (BitVec 64) 4) : RegMap :=
  let m := s.shadow.filter fun e => regIsland e.1 == i.val
  if i.val < 0x40 || (0x49 ≤ i.val && i.val ≤ 0x4C) then withOwn own m else m

/-- The cause an island answers Not armed with, if any. -/
def State.armCause (s : State) (i : IslandId) (own : Vector (BitVec 64) 4) : Option (BitVec 4) :=
  if s.gated i then some 4 else if s.holdsWork i || s.givesAway i own then some 5 else none

/-- An island receives Prepare (R25, R130). -/
def arm (i : IslandId) (dtEff : DT) (gen : Word) (own : Vector (BitVec 64) 4) (s : State) : State :=
  let c := s.armCause i own
  let s1 := { s with commit := { s.commit with answers := s.commit.answers ++ [⟨i.val, c, s.commitCycle⟩] } }
  if c.isSome then s1
  else
    let m := s.pendingCopy i own
    let s2 := s1.modIsland i fun x => { x with
      pending := some m, pendGen := gen, pendDt := dtEff, confirmed := false, abandoned := false }
    if i = islPacer then
      { s2 with pacer := { s2.pacer with locked := bit (regGet m 0x9000) 0 != s2.pacer.bank } }
    else if i = islHub then
      { s2 with hub := { s2.hub with selArmed := s2.hub.selWritten, selWritten := false } }
    else s2

/-- The next message in an island's commit channel. -/
def State.channel (s : State) (i : IslandId) : Option CommitMsg := (s.island i).inbox.head?

def popChannel (i : IslandId) (s : State) : State := s.modIsland i fun x => { x with inbox := x.inbox.tail }

/-- PREPARE (R25). A Prepare that a refusal has overtaken arms nothing, and one that reaches a clocked island before it
has swapped for the commit before waits for that swap. -/
def execPrepare (i : IslandId) (s : State) : Out :=
  .next <| match s.channel i with
    | some (.prepare dtEff gen own) =>
      if !s.gated i && (s.island i).pending.isSome && (s.island i).decided then s
      else
        let s1 := popChannel i s
        if s.commit.pend.any fun p => p.dtEff == dtEff && p.gen == gen then arm i dtEff gen own s1 else s1
    | _ => s

/-- CONFIRM (R26). -/
def execConfirm (i : IslandId) (s : State) : Out :=
  .next <| match s.channel i with
    | some .confirm => (popChannel i s).modIsland i fun x => { x with confirmed := x.pending.isSome }
    | _ => s

/-- ABANDON (R26): a gated island discards its pending copy when it is ungated. A copy already confirmed belongs to an
earlier commit, for which the swap is still to come (R28), and stays. -/
def execAbandon (i : IslandId) (s : State) : Out :=
  .next <| match s.channel i with
    | some .abandon =>
      (popChannel i s).modIsland i fun x =>
        if x.confirmed then x
        else if s.gated i then { x with abandoned := x.pending.isSome }
        else { x with pending := none }
    | _ => s

/-! ### The swap (R25, R28, R34, R256) -/

/-- Restart hold ends in every spoke (R256). -/
def endHold (s : State) : State :=
  let s1 := forEach 64 endHoldSpoke s
  raiseNow 218 2 0 0
    { s1 with hub := { s1.hub with hold := false }, commit := { s1.commit with autoAt := none } }

/-- The swap of an island that is clocked and whose replica has reached the DT_effect of its confirmed copy (R25, R42). -/
def swapIfDue (i : IslandId) (s : State) : State :=
  if !s.gated i && s.swapDue i then swapConfirmed (s.island i).pendDt i s else s

/-- Restart hold ends at the DT_effect of a confirmed commit that lies after the opening of the gates (R256). -/
def endHoldIfDue (s : State) : State :=
  if s.hub.hold && s.commit.pend.any fun p => p.confirmed && dtLe p.dtEff s.dt && s.hub.openDt.toNat < p.dtEff.toNat then endHold s
  else s

/-- The commit unit reports a confirmed commit done when its own replica reaches DT_effect (R34). -/
def reportDone (s : State) : State :=
  match s.commit.pend with
  | some p =>
    if p.confirmed && s.due islHandlebar p.dtEff then
      raise 252 1 0 p.gen.toNat p.dtEff
        (setStatus p.src 2 0 0xFF 0 false { s with commit := { s.commit with pend := none, gen := p.gen, dt := p.dtEff } })
    else s
  | none => s

/-- COMMIT_SWAP (R25, R28, R34, R42): every confirmed island that is clocked and whose replica has reached DT_effect
swaps, a restart hold that the commit outlasts ends (R256), and the commit is reported done. An island with a slower
clock takes its swap at a later COMMIT_SWAP. Hub swaps last: its relock closes the gates. -/
def execCommitSwap (s : State) : Out :=
  .next <| swapIfDue islHub <| reportDone <| endHoldIfDue <|
    overIslands (fun i s => if i = islHub then s else swapIfDue i s) s

/-! ### Steps (R251, R252) -/

/-- Every engine is STOPPED. -/
def State.enginesIdle (s : State) : Bool := (List.finRange 4).all fun v => (s.engine v).state == .stopped

/-- No spoke queue holds a descriptor. -/
def State.queuesIdle (s : State) : Bool := (List.finRange 64).all fun i => (s.spoke i).queue.isEmpty

/-- The checks made at the request of a step, in the order of their codes; 0 for none. -/
def State.stepCheck (s : State) (at_ : DT) (d : Int) (lead : Nat) : Nat :=
  if at_.toNat < (dtAdd (s.replica islNoon) lead).toNat then 1
  else if s.noon.step.isSome then 2
  else if !s.enginesIdle then 3
  else if d < 0 && !s.queuesIdle then 4
  else 0

/-- The checks made at DT_at. -/
def State.stepDueCheck (s : State) (d : Int) : Nat :=
  if !s.enginesIdle then 3
  else if d < 0 && !s.queuesIdle then 4
  else if s.commit.pend.isSome || s.snap.req.isSome then 5
  else if !s.hub.gatesOpen then 6
  else 0

/-- A refusal of a step is reported (R252); an automatic one waits for its next request, WAITING being raised once
(R254). NN_STEP_CTRL goes on showing a step of the host that is pending while an automatic one is refused (DESIGN CHOICE:
log entry 79). -/
def sayStepRefused (auto : Bool) (code : Nat) (s : State) : State :=
  let s0 := if auto && s.noon.step.isSome then s else
    { s with noon := { s.noon with stepState := 3, stepCause := BitVec.ofNat 4 code } }
  let s1 := raiseNow 222 3 code 0 s0
  if !auto then s1
  else
    let s2 := { s1 with noon := { s1.noon with stepWait := true, waitSaid := true, autoAt := s1.clock + ftMs } }
    if s1.noon.waitSaid then s2 else raiseNow 222 4 0 0 s2

/-- The pending step is refused. -/
def refuseStep (auto : Bool) (code : Nat) (s : State) : State :=
  sayStepRefused auto code { s with noon := { s.noon with step := none } }

end Sys2Proof.Machine
end

