-- ==== Sys2Proof/Machine/Commit.lean ====
section
/-! DEFINITION. Commits and steps from issue to decision, in a lone module and across a stack or pair (R23 to R29, R115,
R252, R257, R336 to R339). -/

namespace Sys2Proof.Machine

/-! ### Decisions reach a module (R337, R339) -/

/-- A pending commit is the one a cell names. -/
def PendingCommit.isFor (p : PendingCommit) (dtEff : DT) (gen : Word) : Bool :=
  p.reach != .alone && p.dtEff == dtEff && p.gen == gen

/-- A pending step is the one a cell names. -/
def StepReq.isFor (q : StepReq) (dtEff : DT) : Bool := q.reach != .alone && q.at_ == dtEff

/-- CONFIRM takes effect here: the commit is confirmed locally, or the step stands. -/
def onConfirm (dtEff : DT) (gen : Word) (s : State) : State :=
  let s0 := { s with stoker := { s.stoker with armed := none } }
  match s.stoker.armed with
  | some a =>
    if a.dtEff != dtEff || a.gen != gen then s
    else if a.step then
      match s.noon.step with
      | some q => if q.isFor dtEff then { s0 with noon := { s0.noon with step := some { q with confirmed := true } } } else s0
      | none => s0
    else
      match s.commit.pend with
      | some p => if p.isFor dtEff gen && p.armedAll then confirmAll s0 else s0
      | none => s0
  | none => s

/-- ABANDON takes effect here: the commit or step it names is refused. -/
def onAbandon (dtEff : DT) (gen : Word) (cause pos : Nat) (side : Bool) (s : State) : State :=
  let s1 := if s.stoker.armed.any fun a => a.dtEff == dtEff && a.gen == gen then
    { s with stoker := { s.stoker with armed := none } } else s
  let named := cause == 7 || cause == 8
  let s2 := if s1.commit.pend.any (·.isFor dtEff gen) then
    refusePending cause 0xFF (if named then pos else 0) (named && side) s1 else s1
  match s2.noon.step with
  | some q => if q.isFor dtEff && !q.confirmed then refuseStep q.auto 7 s2 else s2
  | none => s2

/-! ### The coordinator (R337, R338) -/

/-- The coordinator floods CONFIRM. -/
def decide' (r : CoordRec) (s : State) : State :=
  let s1 := originate 7 0 true (cellBody r.dtEff r.gen s.ident 0) { s with stoker := { s.stoker with coord := none } }
  onConfirm r.dtEff r.gen s1

/-- The coordinator floods ABANDON for a commit or step, with its cause and the module that caused it. -/
def giveUp (dtEff : DT) (gen : Word) (cause pos : Nat) (side : Bool) (s : State) : State :=
  onAbandon dtEff gen cause pos side
    (originate 8 0 true (cellBody dtEff gen s.ident (cause % 16 + pos % 16 * 16 + 256 * b1 side)) s)

/-- The coordinator floods ABANDON for the commit it holds. -/
def giveUpHeld (r : CoordRec) (cause pos : Nat) (side : Bool) (s : State) : State :=
  giveUp r.dtEff r.gen cause pos side { s with stoker := { s.stoker with coord := none } }

/-- The latest instant at which a coordinator may decide for CONFIRM, by the reach of the commit. -/
def coordLimit (reach : Reach) (dtEff : DT) : DT := dtSub dtEff (if reach == .pair then 98304000 else 32768000)

/-- That of the commit it holds. -/
def CoordRec.limit (r : CoordRec) : DT := coordLimit r.reach r.dtEff

/-- A module's answer reaches the coordinator: CONFIRM once all have armed in time, ABANDON at the first that has not, whoever
that is. An answer after the limit is missing (R337). -/
def coordAnswer (pos : Nat) (side : Bool) (dtEff : DT) (armed : Bool) (s : State) : State :=
  match s.stoker.coord with
  | some r =>
    if r.dtEff != dtEff then s
    else if !armed then giveUpHeld r 7 pos side s
    else if !dtLe (s.replica islStoker) r.limit || !r.awaiting.contains (pos, side) then s
    else
      let r2 := { r with awaiting := r.awaiting.filter (· != (pos, side)) }
      if r2.awaiting.isEmpty then decide' r2 s else { s with stoker := { s.stoker with coord := some r2 } }
  | none => s

/-- This module answers the coordinator, which may be itself. -/
def answerCoord (a : ArmedRec) (armed : Bool) (cause island : Nat) (s : State) : State :=
  if a.side == s.pair.side && a.coord == s.stoker.pos.toNat then coordAnswer s.stoker.pos.toNat s.pair.side a.dtEff armed s
  else originate 6 a.coord false (cellBody a.dtEff (word (b1 armed + cause % 16 * 2 + island % 256 * 32)) s.ident 0) s

/-! ### Arming (R337, R338) -/

/-- The 64-bit difference of a step. -/
def stepD (d : Int) : BitVec 64 := BitVec.ofInt 64 d

/-- A step's PREPARE: the checks of R252, then the answer at once. -/
def armStep (a : ArmedRec) (s : State) : State :=
  let mine := s.noon.step.any (·.isFor a.dtEff)
  let code := if mine then 0 else s.stepCheck a.dtEff a.d.toInt 8192000
  if code ≠ 0 then answerCoord a false code 0xFF s
  else
    let s1 := { s with stoker := { s.stoker with armed := some { a with answered := true } } }
    let s2 := if mine then s1 else
      { s1 with noon := { s1.noon with step := some ⟨a.dtEff, a.d.toInt, false, false, .stack, false⟩, stepState := 1, stepCause := 0 } }
    answerCoord a true 0 0xFF s2

/-- A pending commit gives way to a PREPARE (R338): one that side B coordinates where side A coordinates the new one, or one
that this side's Captain was only asked for and has passed over (DEDUCED: log entry 68). -/
def State.yields (s : State) (p : PendingCommit) (a : ArmedRec) : Bool :=
  p.reach != .alone && !p.confirmed &&
    match s.stoker.armed with
    | some b => b.side && !a.side
    | none => s.pair.side || !a.side

/-- A commit's PREPARE: this module's commit unit prepares its own islands, or answers Not armed, BUSY. -/
def armCommit (a : ArmedRec) (s : State) : State :=
  let start (src : CommitSrc) (own : Vector (BitVec 64) 4) (s : State) : State :=
    prepareAll src (if a.side == s.pair.side && !s.pairWide then .stack else .pair) a.dtEff a.gen own
      { s with stoker := { s.stoker with armed := some a } }
  match s.commit.pend with
  | some p =>
    if p.isFor a.dtEff a.gen && s.stoker.armed.isNone then start p.src p.own s
    else if s.yields p a then start .remote s.ownMasks (refusePending 3 0xFF 0 false s)
    else answerCoord a false 3 0xFF s
  | none => start .remote s.ownMasks s

/-- PREPARE takes effect here: a side-B Captain that coordinates one of its own gives it up for side A's (R338). -/
def onPrepare (a : ArmedRec) (s : State) : State :=
  let s1 := match s.stoker.coord with
    | some r => if s.pair.side && !a.side then giveUpHeld r 3 s.stoker.pos.toNat s.pair.side s else s
    | none => s
  if a.step then armStep a s1 else armCommit a s1

/-- The module holds a pending commit or step other than the one a REQUEST names. -/
def State.holdsOther (s : State) (step : Bool) (dtEff : DT) (gen : Word) : Bool :=
  s.stoker.coord.isSome || (s.commit.pend.any fun p => step || !p.isFor dtEff gen) ||
    s.noon.step.any fun q => !step || !q.isFor dtEff

/-- A REQUEST reaches the coordinator: PREPARE is flooded, or ABANDON with BUSY while it holds another (R337). Which modules
its ring reaches, and so must answer, it knows by the cells it has heard from them (DESIGN CHOICE: log entry 68). -/
def coordRequest (pos : Nat) (step : Bool) (dtEff : DT) (gen : Word) (d : BitVec 64) (s : State) : State :=
  if s.holdsOther step dtEff gen then giveUp dtEff gen 3 s.stoker.pos.toNat s.pair.side s
  else
    let me := s.stoker.pos.toNat
    let near := (me :: s.stoker.members).map fun m => (m, s.pair.side)
    let far := if s.pairWide then s.stoker.otherMembers.map fun m => (m, !s.pair.side) else []
    let r : CoordRec := ⟨BitVec.ofNat 4 pos, s.pair.side, step, dtEff, gen, d, if s.pairWide then .pair else .stack, near ++ far⟩
    let s1 := originate 5 0 true (cellBody dtEff gen (if step then d else s.ident) (b1 step))
      { s with stoker := { s.stoker with coord := some r } }
    onPrepare ⟨s.pair.side, me, step, dtEff, gen, d, false, false⟩ s1

/-- The issuing module sends its REQUEST to the coordinator, the Captain of its side (R336). -/
def sendRequest (step : Bool) (dtEff : DT) (gen : Word) (d : BitVec 64) (s : State) : State :=
  if s.stoker.st == 3 then coordRequest s.stoker.pos.toNat step dtEff gen d s
  else originate 4 s.stoker.captPos.toNat false (cellBody dtEff gen (if step then d else s.ident) (b1 step)) s

/-! ### Issue (R25, R29, R336) -/

/-- A pending commit gives its place to one that R29 takes first: both were issued in the present commit-unit cycle,
and no island has answered yet. -/
def State.givesPlace (s : State) (src : CommitSrc) (p : PendingCommit) : Bool :=
  p.cycle == s.commitCycle && src.rank < p.src.rank && p.reach == .alone && !p.armedAll && s.commit.answers.isEmpty

/-- The cause the commit unit refuses a commit with at its issue; 0 for none. -/
def State.issueCause (s : State) (src : CommitSrc) (dtEff : DT) (gen : Word) : Nat :=
  if s.commit.pend.any fun p => !s.givesPlace src p then 3
  else if !newer gen s.commit.gen then 2
  else if dtEff.toNat < (dtAdd (s.replica islHandlebar) (leadOf s.reach)).toNat then 1
  else 0

/-- A Prepare of the commit that gives its place leaves an island's channel. -/
def withdrawPrepare (p : PendingCommit) (i : IslandId) (s : State) : State :=
  s.modIsland i fun x => { x with inbox := x.inbox.filter (· != .prepare p.dtEff p.gen p.own) }

/-- The commit unit holds no pending commit: one that gave its place is withdrawn from the channels (R29). -/
def clearPlace (s : State) : State :=
  match s.commit.pend with
  | some p =>
    let s1 := overIslands (withdrawPrepare p) s
    { s1 with commit := { s1.commit with pend := none } }
  | none => s

/-- A thread's COMMIT that gave its place finds the other one pending when its turn comes: BUSY (R29, R115). -/
def answerBusy (src : CommitSrc) (s : State) : State :=
  match src with
  | .thread p => s.modThread p fun t => match t.waitOn with
      | .commit gr _ => { t with waitOn := .commit gr (some 3) }
      | _ => t
  | _ => s

/-- The commit that gave its place is refused in its turn (R29). -/
def refuseDisplaced (old : Option PendingCommit) (s : State) : State :=
  match old with
  | some p => answerBusy p.src (sayRefused p.src p.dtEff p.gen 3 0xFF 0 false s)
  | none => s

/-- A COMMIT is issued (R25, R29, R336). -/
def issueCommit (src : CommitSrc) (dtEff : DT) (gen : Word) (s : State) : State :=
  let cause := s.issueCause src dtEff gen
  if cause ≠ 0 then sayRefused src dtEff gen cause 0xFF 0 false s
  else
    let s0 := clearPlace s
    refuseDisplaced s.commit.pend <|
      if s.reach = .alone then prepareAll src .alone dtEff gen s.ownMasks s0
      else
        sendRequest false dtEff gen 0 <| setStatus src 1 0 0xFF 0 false { s0 with commit := { s0.commit with
          answers := [], pend := some ⟨src, s.reach, dtEff, gen, s.ownMasks, [], false, false, s.commitCycle⟩ } }

/-- COMMIT_GO (R23, R25): a host write of 1 to HB_COMMIT_CTRL.GO. -/
def execCommitGo (s : State) : Out := .next (byHost s fun s => issueCommit .host (dtAt s.imm 0x200) (s.immAt 0x20C) s)

/-- COMMIT (R115). -/
def execCommit (p : ThreadId) (s : State) : Out :=
  issueOp p 0x6A (fun w => isT (iField w 52 4) && isG (iField w 48 4) && isG (iField w 44 4) && zero w 0 44)
    (fun w s =>
      if (s.thread p).ip = 0x3FFF then fault p 2 s
      else
        let t := s.thread p
        let ta := t.tr (iField w 52 4)
        let gen := t.gr (iField w 48 4)
        let cause := s.issueCause (.thread p) ta gen
        waitFor p (.commit (Fin.ofNat 8 (iField w 44 4)) (some (BitVec.ofNat 4 cause))) (issueCommit (.thread p) ta gen s)) s

/-- The automatic restart commit (R257), issued at a DT. -/
def autoRestart (d : DT) (s : State) : State :=
  issueCommit .auto (dtAdd d 8192000) (s.commit.gen + 1) { s with commit := { s.commit with autoAt := none } }

/-- AUTORESTART_RETRY (R257): issued again every 1 ms while restart hold lasts. -/
def execAutorestartRetry (s : State) : Out :=
  .next <| match s.commit.autoAt with
    | some t => if s.hub.hold && t ≤ s.clock then autoRestart (s.replica islHandlebar) s else s
    | none => s

/-! ### Answers and deadlines (R25, R26, R339) -/

/-- The answer is an island's Armed. -/
def CommitAns.armedBy (a : CommitAns) (i : Nat) : Bool := a.island == i && a.cause.isNone

/-- The answer is an island's Not armed. -/
def CommitAns.refusedBy (a : CommitAns) (i : Nat) : Bool := a.island == i && a.cause.isSome

/-- ARMED (R25): once every island has armed, Confirm goes out, or in a stack the answer to the coordinator. An answer
after DT_effect - 500 ns counts as missing. -/
def execArmed (i : IslandId) (s : State) : Out :=
  .next <| match s.commit.pend with
    | some p =>
      if s.commit.answers.any (·.armedBy i.val) && dtLe (s.replica islHandlebar) (dtSub p.dtEff 2048000) then
        let left := p.awaiting.filter (· != i.val)
        let p1 := { p with awaiting := left, armedAll := left.isEmpty }
        let s1 := { s with commit := { s.commit with answers := s.commit.answers.eraseP (·.armedBy i.val), pend := some p1 } }
        if !left.isEmpty then s1
        else if p.reach = .alone then confirmAll s1
        else match s1.stoker.armed with
          | some a => answerCoord a true 0 0xFF { s1 with stoker := { s1.stoker with armed := some { a with answered := true } } }
          | none => s1
      else s
    | none => s

/-- The refusals that arrive together with an answer: those given in the same cycle (DEDUCED: log entry 67). Of them the
lowest-numbered island's counts as first (R25). -/
def State.firstRefusal (s : State) (a : CommitAns) : CommitAns :=
  (s.commit.answers.filter fun b => b.cause.isSome && b.cycle == a.cycle).foldl
    (fun m b => if b.island < m.island then b else m) a

/-- NOT_ARMED (R25): the first one refuses the commit; in a stack it goes to the coordinator as well (R337). -/
def execNotArmed (i : IslandId) (s : State) : Out :=
  .next <| match s.commit.pend, s.commit.answers.find? (·.refusedBy i.val) with
    | some p, some a =>
      let b := s.firstRefusal a
      let c := (b.cause.getD 0).toNat
      let s1 := refusePending c b.island 0 false s
      if p.reach = .alone then s1
      else match s.stoker.armed with
        | some r => answerCoord r false c b.island { s1 with stoker := { s1.stoker with armed := none } }
        | none => s1
    | _, _ => s

/-- NOARM_DEADLINE (R25): the lowest-numbered island still silent is reported. -/
def execNoarmDeadline (s : State) : Out :=
  .next <| match s.commit.pend with
    | some p => match p.awaiting.min? with
      | some i => if !p.confirmed && dtLe (dtSub p.dtEff 2048000) (s.replica islHandlebar) then refusePending 6 i 0 false s else s
      | none => s
    | none => s

/-- PENDING_COPY_DISCARD (R26, R339): no decision has reached the island by DT_effect - 100 ns. A module that had armed
for a stack-wide commit reports it refused with LINK and raises ORPHAN. -/
def execPendingCopyDiscard (i : IslandId) (s : State) : Out :=
  .next <|
    let x := s.island i
    if x.pending.isSome && !x.decided && !x.abandoned && !x.inbox.contains .abandon &&
        dtLe (dtSub x.pendDt 409600) (s.replica i) then
      let s1 := s.setIsland i { x with pending := none }
      match s.commit.pend with
      | some p =>
        if p.reach != .alone && p.dtEff == x.pendDt && p.gen == x.pendGen then
          let s2 := refusePending 8 0xFF 0 false s1
          raiseNow 238 1 0 0 { s2 with stoker := { s2.stoker with armed := none, orphan := s2.stoker.orphan + 1 } }
        else s1
      | none => s1
    else s

/-- A module that stayed silent is no longer one that the ring is known to reach, until it is heard again (DESIGN CHOICE:
log entry 68). -/
def forget (l : List (Nat × Bool)) (s : State) : State :=
  { s with stoker := { s.stoker with
    members := s.stoker.members.filter fun m => !l.contains (m, s.pair.side)
    otherMembers := s.stoker.otherMembers.filter fun m => !l.contains (m, !s.pair.side) } }

/-- COORDINATOR_DEADLINE (R337): an answer is still missing at the coordinator's limit, and the lowest position still
silent is named. A module whose request has brought no PREPARE by then refuses it with LINK (R353). -/
def execCoordinatorDeadline (s : State) : Out :=
  .next <| match s.stoker.coord with
    | some r =>
      if dtLe r.limit (s.replica islStoker) then
        let low := r.awaiting.foldl (fun (a : Nat × Bool) b => if b.1 < a.1 ∨ (b.1 = a.1 ∧ !b.2) then b else a) (r.awaiting.headD (0, false))
        giveUpHeld r 8 low.1 low.2 (forget r.awaiting s)
      else s
    | none => match s.commit.pend with
      | some p =>
        if p.reach != .alone && p.awaiting.isEmpty && !p.armedAll && dtLe (coordLimit p.reach p.dtEff) (s.replica islStoker) then
          refusePending 8 0xFF s.stoker.captPos.toNat s.pair.side s
        else s
      | none => s

/-! ### Cells of a commit or step (R322, R337) -/

def cellStep (b : Octets) : Bool := (cellAux b).testBit 0

/-- RING_REQUEST (R337). -/
def execRingRequest (r : RingDir) (cell : Octets) (s : State) : Out :=
  receive 4 r cell (fun s =>
    if s.stoker.st == 3 && cellSide cell == s.pair.side then
      coordRequest (cellOrigin cell) (cellStep cell) (cellDt cell) (cellWord cell) (cellId cell) s
    else s) s

/-- What a PREPARE cell does in a module. -/
def takePrepare (cell : Octets) (s : State) : State :=
  if s.stacked then
    onPrepare ⟨cellSide cell, cellOrigin cell, cellStep cell, cellDt cell, cellWord cell,
      if cellStep cell then cellId cell else 0, false, false⟩ s
  else s

/-- RING_PREPARE (R337, R338). -/
def execRingPrepare (r : RingDir) (cell : Octets) (s : State) : Out := receive 5 r cell (takePrepare cell) s

/-- What an ANSWER cell does at the coordinator. -/
def takeAnswer (cell : Octets) (s : State) : State :=
  coordAnswer (cellOrigin cell) (cellSide cell) (cellDt cell) (bit (cellWord cell) 0) s

/-- RING_ANSWER (R337). -/
def execRingAnswer (r : RingDir) (cell : Octets) (s : State) : Out := receive 6 r cell (takeAnswer cell) s

def takeConfirm (cell : Octets) (s : State) : State := onConfirm (cellDt cell) (cellWord cell) s

/-- RING_CONFIRM (R337). -/
def execRingConfirm (r : RingDir) (cell : Octets) (s : State) : Out := receive 7 r cell (takeConfirm cell) s

def takeAbandon (cell : Octets) (s : State) : State :=
  onAbandon (cellDt cell) (cellWord cell) (cellAux cell % 16) (cellAux cell / 16 % 16) ((cellAux cell).testBit 8) s

/-- RING_ABANDON (R337). -/
def execRingAbandon (r : RingDir) (cell : Octets) (s : State) : Out := receive 8 r cell (takeAbandon cell) s

end Sys2Proof.Machine
end

