-- ==== Sys2Proof/Machine/TimeStep.lean ====
section
/-! DEFINITION. Stepping time: requests and the step itself (R251 to R254). -/

namespace Sys2Proof.Machine

/-! ### The slew backlog (R244) -/

def backlogMax : Int := 2147483647

/-- The backlog becomes another value; DONE when it reaches 0 after more than 1 ms (R244). -/
def setSlew (v : Int) (s : State) : State :=
  let old := s.noon.slew
  let long := s.noon.slewFrom.any fun t => t + ftMs < s.clock
  let s1 := { s with noon := { s.noon with
    slew := v, slewFrom := if v = 0 then none else if old = 0 then some s.clock else s.noon.slewFrom } }
  if v = 0 ∧ old ≠ 0 ∧ long then raiseNow 227 1 0 0 s1 else s1

/-- An amount added to the backlog, cut at its limit. -/
def addSlew (x : Int) (s : State) : State := setSlew (clampI backlogMax (s.noon.slew + x)) s

/-! ### What a step does to a spoke (R253) -/

/-- The end a step gives the pulse that is high: 16 ns after DT_to, or later for its minimum width (R68). -/
def stepFall (e : QDesc) (out : Nat) (dtAt dtTo : DT) : DT :=
  dtAdd dtTo (max 65536 (emitGuard out - (dtAt - e.edgeAt (e.edges - 1)).toNat))

/-- One queued descriptor at a step to `dtTo`. -/
def stepDesc (i : SpokeId) (dtAt dtTo : DT) (e : QDesc) (s : State) : State :=
  if e.done then s
  else if e.kind == .window && e.opened then closeWindow i e dtTo false s
  else if e.edges = 0 then
    if !dtLe dtTo e.start then
      let s1 := s.modSpoke i fun sp => { sp with
        queue := sp.queue.erase e, freed := sp.freed + 1, cnt := { sp.cnt with late := sp.cnt.late + 1 } }
      releaseRetiring i (startGap i (raise (2 * i.val) 2 0 0 e.start s1))
    else s
  else
    let skip := pulsesBefore e dtTo
    let high := e.edges % 2 = 1
    let passed := 2 * (match e.pulses with | some n => min n skip | none => skip)
    let e1 : QDesc :=
      if high then { e with
        fall := some (stepFall e (fld (regGet (s.tagRegs i e.tag) (spBase i)) 0 2) dtAt dtTo)
        edges := max e.edges (passed - 1) }
      else { e with edges := max e.edges passed }
    let s1 := s.modSpoke i fun sp => { sp with queue := modFirst (· == e) (fun _ => e1) sp.queue }
    if e1.done then finishDesc i e1 dtTo s1 else s1

/-- The DTs by which a spoke measures spans, which move with the count: its edges on the way and its guards among them
(DEDUCED: log entry 31). -/
def Spoke.shift (sp : Spoke) (mv : DT → DT) : Spoke :=
  { sp with
    ending := sp.ending.map fun w => { w with d := { w.d with start := mv w.d.start }, close := mv w.close }
    launches := sp.launches.map fun l => (mv l.1, l.2)
    lastAct := sp.lastAct.map mv, capFrom := sp.capFrom.map mv, modeEnd := sp.modeEnd.map mv
    lastStamp := sp.lastStamp.map mv, ownEdges := sp.ownEdges.map mv, retainTo := sp.retainTo.map mv
    landedAt := sp.landedAt.map mv, crossAt := sp.crossAt.map mv, evFrom := sp.evFrom.map mv
    evOwn := sp.evOwn.map fun e => (mv e.1, e.2), evNet := sp.evNet.map fun e => (mv e.1, e.2) }

/-- A spoke at a step: its spans and its work. -/
def stepSpoke (dtAt dtTo : DT) (mv : DT → DT) (i : SpokeId) (s : State) : State :=
  (s.spoke i).queue.foldl (fun s e => stepDesc i dtAt dtTo e s) (s.modSpoke i fun sp => sp.shift mv)

/-! ### The step (R251, R253) -/

/-- DTs elsewhere that measure spans, or name the slot a thread may use next, move with the count (DEDUCED: log entry
31). -/
def shiftHeld (n : Int) (mv : DT → DT) (s : State) : State :=
  let slots := n * 5 / 32768
  { s with
    pacer := { s.pacer with th := s.pacer.th.map fun t => { t with nextSlot := (t.nextSlot + slots).toNat } }
    truing := { s.truing with
      items := s.truing.items.map fun x => { x with hitFrom := x.hitFrom.map fun f => (f + n).toNat }
      reqs := s.truing.reqs.map fun r => { r with x := mv r.x, burst := r.burst.map mv, idleFrom := mv r.idleFrom } }
    hub := { s.hub with openDt := mv s.hub.openDt }
    noon := { s.noon with
      lastMeas := mv s.noon.lastMeas, ppsLast := s.noon.ppsLast.map mv, ppsEnd := mv s.noon.ppsEnd, ppsNext := s.dt }
    pair := { s.pair with hbAt := BitVec.ofNat 80 ((s.dt.toNat + 4095999) / 4096000 * 4096000) }
    hb := { s.hb with evCfg := s.hb.evCfg.map fun e => (e.1, if s.dt.toNat < e.2.1.toNat then s.dt else e.2.1, e.2.2) } }

/-- Noon's count goes to every replica (R239). -/
def distribute (s : State) : State := { s with noon := { s.noon with distAt := s.count, distClock := s.clock } }

/-- The count moves by q barrel rounds, with the effects of R253; `dtTo` is DT_to and `dtAt` the DT of the step. -/
def moveCount (q : Int) (dtAt dtTo : DT) (s : State) : State :=
  let n := q * 524288
  let mv (d : DT) : DT := dtAddI d n
  let s1 := shiftHeld n mv (distribute { s with dt := dtAddI s.dt n })
  let s2 := forEach 64 (stepSpoke dtAt dtTo mv) s1
  forEach 8 (clearAxis none) s2

/-- EPOCH becomes 1 (R252). -/
def setEpoch (s : State) : State :=
  if s.noon.epoch then s else raiseNow 223 1 0 0 { s with noon := { s.noon with epoch := true } }

/-- The whole barrel rounds and the rest of a difference (R251). -/
def stepRounds (d : Int) : Int := (d + 262144) / 524288
def stepRest (d : Int) : Int := d - stepRounds d * 524288

/-- An automatic step is over. -/
def autoOver (auto : Bool) (s : State) : State :=
  if auto then { s with noon := { s.noon with autoStep := none, stepWait := false, waitSaid := false } } else s

/-- STEP_DUE (R251, R252, R253): at DT_at the step is refused, slewed or taken. -/
def execStepDue (s : State) : Out :=
  .next <| match s.noon.step with
    | some q =>
      if s.dtRuns && s.due islNoon q.at_ then
        let due := s.stepDueCheck q.d
        let code := if due = 0 && !q.confirmed then 7 else due
        if code ≠ 0 then refuseStep q.auto code s
        else
          let s1 := { s with noon := { s.noon with step := none, stepState := 2, stepCause := 0 } }
          if q.d.natAbs ≤ 4096000 then raiseNow 222 2 0 0 (autoOver q.auto (addSlew q.d s1))
          else
            let dtTo := dtAddI q.at_ q.d
            let s2 := addSlew (stepRest q.d) (moveCount (stepRounds q.d) q.at_ dtTo s1)
            let s3 := raise 222 1 0 0 dtTo (autoOver q.auto s2)
            if q.epoch || bit (s3.immAt 0x3058) 1 then setEpoch s3 else s3
      else s
    | none => s

/-! ### Requests (R252, R254, R336) -/

/-- A difference fits 64 signed bits. -/
def fits64 (d : Int) : Bool := -(2 ^ 63) ≤ d && d < 2 ^ 63

/-- A step is requested (R252, R336): refused at the first check that fails, or pending, and in a stack sent to the
coordinator. -/
def requestStep (at_ : DT) (d : Int) (epoch auto : Bool) (s : State) : State :=
  let code := s.stepCheck at_ d (leadOf s.reach)
  let code := if code = 0 && s.reach != .alone && !fits64 d then 7 else code
  if code ≠ 0 then sayStepRefused auto code s
  else
    let s1 := { s with noon := { s.noon with
      step := some ⟨at_, d, epoch, auto, s.reach, s.reach == .alone⟩, stepState := 1, stepCause := 0 } }
    if s.reach = .alone then s1 else sendRequest true at_ s.commit.gen (stepD d) s1

/-- STEP_REQUEST (R252): a write of 1 to NN_STEP_CTRL.GO. -/
def execStepRequest (s : State) : Out :=
  .next <| byHost s fun s =>
    let at_ := dtAt s.imm 0x3040
    requestStep at_ (dtAt s.imm 0x304C - at_).toInt false false s

/-- An automatic step is already pending. -/
def State.autoPending (s : State) : Bool := s.noon.step.any (·.auto)

/-- AUTO_STEP_REQUEST (R254): Noon wants a step; DT_at is 1 ms after it came to want it. -/
def execAutoStepRequest (s : State) : Out :=
  .next <| match s.noon.autoStep with
    | some (d, ep) =>
      if s.clocked && !s.noon.stepWait && !s.autoPending then
        requestStep (dtAddI s.dt (ftMs - (s.clock - s.noon.autoAt : Nat))) d ep true s
      else s
    | none => s

/-- STEP_RETRY (R254): an automatic step that was refused is requested again 1 ms later, for the latest error of the
source. Where that error calls for no forward step any more, Noon no longer wants one (DEDUCED: log entry 79). -/
def execStepRetry (s : State) : Out :=
  .next <| match s.noon.autoStep with
    | some (_, ep) =>
      if s.clocked && s.noon.stepWait && !s.autoPending && s.noon.autoAt ≤ s.clock then
        if s.srcCand.err < 0 then requestStep (dtAdd s.dt ftMs) (-s.srcCand.err) ep true s else autoOver true s
      else s
    | none => s

end Sys2Proof.Machine
end

