-- ==== Sys2Proof/Machine/Noon.lean ====
section
/-! DEFINITION. Noon's servo, its choice of a source, DT's distribution and PPS (R239 to R250). -/

namespace Sys2Proof.Machine

/-! ### States and measurements (R241 to R243) -/

/-- Noon changes state (R243): E221 with the new state as cause. -/
def noonTo (st : Nat) (s : State) : State :=
  if s.noon.state.toNat = st then s
  else raiseNow 221 st 0 0 { s with noon := { s.noon with state := BitVec.ofNat 2 st } }

def State.modCand (s : State) (k : Fin 16) (f : Cand → Cand) : State :=
  { s with noon := { s.noon with cands := s.noon.cands.set k.val (f (s.noon.cands.get k)) k.isLt } }

/-- A measurement is noted for its candidate: when it came, what it announces, and its error (R245). -/
def noteMeas (m : Meas) (s : State) : State :=
  s.modCand m.cand fun c => { c with
    times := s.clock :: c.times.filter (fun t => s.clock ≤ t + 5 * ftS / 2)
    root := m.root, hops := m.hops, qual := m.qual, tai := m.tai, err := m.e }

/-- Whether a candidate carries TAI; PPSIN does while NN_PPSIN_CFG.TAI and EPOCH are both 1 (R245, R248). -/
def State.candTai (s : State) (k : Fin 16) : Bool :=
  if k = 0xA then bit (s.act 0x3068) 2 && s.noon.epoch else (s.noon.cands.get k).tai

/-- A candidate's quality; PPSIN's is 0 while it carries TAI (R246, R248), and else that of a source not traceable to TAI. -/
def State.candQual (s : State) (k : Fin 16) : Nat :=
  if k = 0xA then (if s.candTai k then 0 else 2) else (s.noon.cands.get k).qual

/-- What the proportional term adds to the backlog (R242). -/
def propTerm (e : Int) (kps : Nat) : Int := nearest Config.tieUp (-e) (2 ^ kps)

/-- The change of W that the integral term requests (R242). -/
def intTerm (e tau : Int) (kis : Nat) : Int :=
  clampI 50000 (if 0 < tau then nearest Config.tieUp (-e * 100000000000) (tau.toNat * 2 ^ kis) else Config.servoZero e)

/-- The lock counts after an error, and the state they call for (R243). -/
def countLock (e : Int) (s : State) : State :=
  let within := e.natAbs ≤ fld (s.act 0x3010) 10 16
  let s1 := { s with noon := { s.noon with
    good := if within then s.noon.good + 1 else 0, bad := if within then 0 else s.noon.bad + 1 } }
  if s1.noon.state = 1 ∧ 16 ≤ s1.noon.good then noonTo 2 s1
  else if s1.noon.state = 2 ∧ 8 ≤ s1.noon.bad then noonTo 1 s1
  else s1

/-- Noon asks for another W, unless HU_DCO_OVR.EN holds W at WORD (R231, R232). -/
def steerW (w : Int) (s : State) : State := if bit (s.act 0x2008) 26 then s else requestW w s

/-- The PI servo at a measurement of the source (R242, R254). -/
def servo (m : Meas) (s : State) : State :=
  let cfg := s.act 0x3010
  let tau := dtDiff m.dt s.noon.lastMeas
  let s1 := { s with noon := { s.noon with lastMeas := m.dt } }
  let s2 := if s.noon.stepWait then s1 else addSlew (propTerm m.e (fld cfg 0 4)) s1
  countLock m.e (steerW (s2.hub.w + intTerm m.e tau (fld cfg 4 5)) s2)

/-- The first measurement of a newly selected source sets only the interval's start (R242); with AUTOSTEP a large error
asks for a step, which is a forward one (R254): an error that only a backward step would mend is left to the servo. -/
def firstMeas (m : Meas) (s : State) : State :=
  let s1 := { s with noon := { s.noon with lastMeas := m.dt, first := false } }
  if bit (s.act 0x3010) 9 && m.e < 0 && (s.act 0x3014).toNat < m.e.natAbs && s.noon.autoStep.isNone then
    { s1 with noon := { s1.noon with autoStep := some (-m.e, false), autoAt := s.clock } }
  else s1

/-- MEASUREMENT (R241, R242): the next measurement on its way to Noon. -/
def execMeasurement (s : State) : Out :=
  .next <| match s.noon.inbox with
    | m :: rest =>
      if !s.clocked then s
      else
        let s1 := noteMeas m { s with noon := { s.noon with inbox := rest } }
        if m.cand.val ≠ s.noon.src.toNat then s1
        else
          let s2 := { s1 with noon := { s1.noon with err := clampI backlogMax m.e } }
          if s.noon.first then firstMeas m s2 else servo m s2
    | [] => s

/-- PHASE_STEP (R238, R244): one ft off the backlog, at most one step in 64 ns. A backlog below 0 lengthens the present
cycle, so that DT falls back by 1 ft against elapsed time, and one above 0 shortens it. -/
def execPhaseStep (s : State) : Out :=
  .next <|
    if s.clocked && s.noon.slew != 0 && s.hub.piStep == 0 && s.noon.slewStep.all fun t => t + 262144 ≤ s.clock then
      let dir : Int := if s.noon.slew < 0 then -1 else 1
      setSlew (s.noon.slew - dir)
        { s with noon := { s.noon with slewStep := some s.clock }, hub := { s.hub with piStep := dir } }
    else s

/-! ### Choosing a source (R245 to R247) -/

/-- The priority byte of a candidate; LOCAL's 0xFF acts as 0xFE. -/
def State.prio (s : State) (k : Nat) : Nat :=
  if k < 8 then fld (s.act (0x3020 + 4 * (k / 4))) (8 * (k % 4)) 8
  else if k = 0xF then min 0xFE (fld (s.act 0x3028) 24 8)
  else fld (s.act 0x3028) (8 * (k - 8)) 8

/-- A module of a formed stack that is not the Captain. -/
def State.isMember (s : State) : Bool := s.stoker.st == 2 || s.stoker.st == 4

/-- Which candidates a module may take time from at all (R247, R343); a Captain sources its ring, and takes no time from
it (R247, R334). -/
def State.mayTake (s : State) (k : Nat) : Bool :=
  if k = 8 then s.stoker.st != 3
  else if s.isMember then false
  else if k = 9 then s.pair.side else true

/-- A candidate is eligible (R245, R247); local always is. -/
def State.eligible (s : State) (k : Fin 16) : Bool :=
  if k = 0xF then true
  else if 0xA < k.val then false
  else
    let c := s.noon.cands.get k
    let fresh := if k = 0xA then 2 ≤ c.times.countP (fun t => s.clock ≤ t + 5 * ftS / 2)
      else 8 ≤ c.times.countP fun t => s.clock ≤ t + ftS
    s.prio k.val != 0xFF && fresh && (k == 0xA || c.root != s.ident) && (!s.noon.epoch || s.candTai k) && s.mayTake k.val

/-- The keys of R246, the candidate's number last. -/
def State.candKey (s : State) (k : Fin 16) : Nat × Nat × Nat × Nat × Nat :=
  let c := s.noon.cands.get k
  if k = 0xF then (s.prio 0xF, 0, 4, s.ident.toNat, 0xF)
  else (s.prio k.val, if k = 0xA then 0 else c.hops + 1, s.candQual k, c.root.toNat, k.val)

/-- One set of keys wins over another. -/
def keyLt (a b : Nat × Nat × Nat × Nat × Nat) : Bool :=
  if a.1 != b.1 then a.1 < b.1
  else if a.2.1 != b.2.1 then a.2.1 < b.2.1
  else if a.2.2.1 != b.2.2.1 then a.2.2.1 < b.2.2.1
  else if a.2.2.2.1 != b.2.2.2.1 then a.2.2.2.1 < b.2.2.2.1
  else a.2.2.2.2 < b.2.2.2.2

/-- The winner of a comparison (R246). -/
def State.bestSource (s : State) : Fin 16 :=
  ((List.finRange 16).filter s.eligible).foldl (fun b k => if keyLt (s.candKey k) (s.candKey b) then k else b) 0xF

/-- The integral of W over elapsed times [a, b), from its log, newest first. -/
def areaOf : List (Nat × Int) → Nat → Nat → Int
  | [], _, _ => 0
  | (t, w) :: l, a, b =>
    let from_ := max t a
    if b ≤ from_ then areaOf l a b else w * ((b - from_ : Nat) : Int) + areaOf l a from_

/-- The mean of W over the last NN_HOLD.AVG seconds, or since entry to Dawn where that is shorter (R243). -/
def State.meanW (s : State) : Int :=
  let avg := max 1 (fld (s.act 0x3018) 0 8)
  let span := min (avg * ftS) s.clock
  if span = 0 then s.hub.w else freeDiv (areaOf s.noon.wLog (s.clock - span) s.clock) span

/-- The reference that belongs to a source (R229). -/
def refOf (k : Nat) : Option Nat :=
  if k < 8 then some (8 + k) else if k = 8 then some 2 else if k = 9 then some 3 else if k = 0xA then some 1 else none

/-- With AUTO at 1 the reference follows the source (R229). -/
def followRef (k : Nat) (s : State) : State :=
  match refOf k with
  | some r => if bit (s.act 0x2004) 4 && r != s.hub.sel.toNat then relock (switchRef r s) else s
  | none => s

/-- A source is selected, or none is any more (R243, R246, R254). The change to TAI is always a forward step (R15). -/
def selectSource (k : Fin 16) (s : State) : State :=
  let s1 := { s with noon := { s.noon with
    src := BitVec.ofNat 4 k.val, first := true, good := 0, bad := 0, autoStep := none, stepWait := false, waitSaid := false } }
  if k = 0xF then
    let s2 := raiseNow 220 2 0 0 s1
    noonTo 3 (steerW s.meanW s2)
  else
    let s2 := noonTo 1 (raiseNow 220 1 k.val 0 s1)
    let c := s.noon.cands.get k
    let s3 := if s.candTai k && !s.noon.epoch && c.err < 0 then
      { s2 with noon := { s2.noon with autoStep := some (-c.err, true), autoAt := s.clock } } else s2
    followRef k.val s3

/-- SOURCE_COMPARISON (R246): every 1 ms; it pauses while the core clock is gated (R255). -/
def execSourceComparison (s : State) : Out :=
  .next <|
    if s.inDay && s.clocked && s.noon.cmpAt ≤ s.clock then
      let w := s.bestSource
      let run := if s.noon.winner.toNat = w.val then s.noon.winRun + 1 else 1
      let s1 := { s with noon := { s.noon with
        winner := BitVec.ofNat 4 w.val, winRun := run, cmpAt := s.clock + ftMs } }
      let src : Fin 16 := Fin.ofNat 16 s.noon.src.toNat
      if w = src then s1
      else if !s.eligible src || 3 ≤ run then selectSource w s1
      else s1
    else s

/-- DT_DISTRIBUTE (R239): Noon's count goes to every DT replica, at least once a microsecond; the replicas of islands with
clocks of their own count on from it. -/
def execDtDistribute (s : State) : Out :=
  .next <| if s.dtRuns then distribute s else s

/-! ### PPS (R248 to R250) -/

/-- OFS of a PPS register, in ft. -/
def ppsOfs (w : Word) : Int := signed 30 (fld w 0 30) * 4096

/-- The instants at which PPSOUT rises: whole seconds plus OFS. -/
def State.ppsDue (s : State) : Bool :=
  (((s.dt.toNat : Int) - ppsOfs (s.act 0x3064)) % (ftS : Int)) == 0 && s.noon.ppsNext.toNat ≤ s.dt.toNat

/-- PPSOUT_PULSE (R249). -/
def execPpsoutPulse (s : State) : Out :=
  .next <|
    let cfg := s.act 0x3060
    if s.inDay && s.clocked && bit cfg 0 && s.ppsDue then
      let s1 := { s with noon := { s.noon with ppsNext := s.dt + 1 } }
      if bit cfg 1 && s.noon.state != 2 then raise 226 2 0 0 s.dt s1
      else
        let width := min 1000 (max 1 (fld cfg 2 10))
        raise 226 1 0 0 s.dt { s1 with noon := { s1.noon with ppsOut := true, ppsEnd := dtAdd s.dt (width * ftUs) } }
    else s

/-- PPSOUT_PULSE_END (R249). -/
def execPpsoutPulseEnd (s : State) : Out :=
  .next <|
    if s.clocked && s.noon.ppsOut && s.noon.ppsEnd.toNat ≤ s.dt.toNat then { s with noon := { s.noon with ppsOut := false } }
    else s

/-- A number modulo 1 s, taken as signed within half a second (R248). -/
def modSecond (n : Int) : Int := let r := n % (ftS : Int); if (ftS : Int) / 2 ≤ r then r - ftS else r

/-- An accepted PPSIN edge is a measurement of candidate 0xA (R248). -/
def ppsMeas (s : State) : Meas :=
  ⟨0xA, modSecond (s.dt.toNat - ppsOfs (s.act 0x306C)), s.dt, 0, 0, s.candQual 0xA, s.candTai 0xA⟩

/-- PPSIN_EDGE (R250). -/
def execPpsinEdge (rising : Bool) (s : State) : Out :=
  .next <|
    let cfg := s.act 0x3068
    if s.inDay && s.clocked && bit cfg 0 && rising != bit cfg 1 then
      let s1 := raise 224 1 0 0 s.dt { s with noon := { s.noon with ppsDt := s.dt, ppsSeen := s.clock } }
      let ok : Bool := match s.noon.ppsLast with
        | some p => (modSecond (dtDiff s.dt p)).natAbs ≤ ftMs
        | none => true
      if ok then deliver (ppsMeas s) { s1 with noon := { s1.noon with ppsLast := some s.dt } }
      else raise 225 2 0 0 s.dt s1
    else s

/-- PPSIN_MISSING (R250): a second without an edge. -/
def execPpsinMissing (s : State) : Out :=
  .next <|
    if s.inDay && s.clocked && bit (s.act 0x3068) 0 && s.noon.ppsSeen + ftS < s.clock then
      raise 225 1 0 0 s.dt { s with noon := { s.noon with ppsSeen := s.noon.ppsSeen + ftS } }
    else s

end Sys2Proof.Machine
end

