-- ==== Sys2Proof/Machine/Hub.lean ====
section
/-! DEFINITION. Hub: the steps of a lock, the ceiling check, losses, the DCO word, and the opening of the gates, Day entry
included (R230 to R237, R256 to R258, R394). -/

namespace Sys2Proof.Machine

/-! ### The steps of a lock (R233, R235) -/

/-- A lock stands at a step whose time has passed. -/
def State.lockAt (s : State) (st : LockSt) : Bool := s.hub.lock == st && s.hub.stepEnd ≤ s.clock

/-- A band search begins. -/
def beginSearch (s : State) : State :=
  { s with hub := { s.hub with lock := .search, stepEnd := s.clock + 81920000 } }

/-- SETTLE_END (R233). -/
def execSettleEnd (s : State) : Out := .next <| if s.lockAt .settle then beginSearch s else s

/-- BAND_SEARCH_DONE (R233): the search has found a delay band, and the lock wait of exactly 250 us begins. -/
def execBandSearchDone (band : BitVec 5) (s : State) : Out :=
  .next <| if s.hub.lock = .search then
    { s with hub := { s.hub with band := band, lock := .lockWait, stepEnd := s.clock + 1024000000 } }
  else s

/-- A window's count of core cycles in 40 us lies in range (R235). -/
def inCeiling (w : Nat) : Bool := 39200 ≤ w && w ≤ 40800

/-- LOCK_WAIT_END (R235): `w1` and `w2` are the counts of the two windows that end here. After three disagreements in a
row Hub backs off for 10 ms. -/
def execLockWaitEnd (w1 w2 : Nat) (s : State) : Out :=
  .next <|
    if !s.lockAt .lockWait then s
    else if inCeiling w1 && inCeiling w2 then { s with hub := { s.hub with lock := .agreed, disagree := 0 } }
    else
      let s1 := raiseNow 216 3 0 0 { s with hub := { s.hub with ceiling := s.hub.ceiling + 1, disagree := s.hub.disagree + 1 } }
      if s1.hub.disagree < 3 then beginSearch s1
      else { s1 with hub := { s1.hub with lock := .backoff, disagree := 0, stepEnd := s1.clock + 10 * ftMs } }

/-- CEILING_BACKOFF_END (R235). -/
def execCeilingBackoffEnd (s : State) : Out := .next <| if s.lockAt .backoff then beginSearch s else s

/-! ### Losses (R230, R236, R258) -/

/-- PHASE_MONITOR_TRIP (R236, R258): with the gates open, or in a lock from its lock wait on. -/
def execPhaseMonitorTrip (s : State) : Out :=
  .next <| if s.hub.gatesOpen || s.hub.lock == .lockWait || s.hub.lock == .agreed then loseLock s else s

/-- CEILING_WINDOW (R236): a window of the continuous check ends with a count of `w`. -/
def execCeilingWindow (w : Nat) (s : State) : Out :=
  .next <| if s.hub.gatesOpen && !inCeiling w then loseLock s else s

/-- REFERENCE_LOST (R230): Hub relocks onto the TCXO. -/
def execReferenceLost (s : State) : Out :=
  .next <| if s.hub.sel != 0 && s.hub.lock != .off then
    loseLock (raiseNow 217 1 0 0 { s with hub := { s.hub with sel := 0 } })
  else s

/-- DCO_WORD_APPLY (R232): the change of W that waits is applied within the lock, at most 50 000 at a time and 10 us
after the one before. -/
def execDcoWordApply (s : State) : Out :=
  .next <| match s.hub.wPend with
    | some w =>
      if s.hub.gatesOpen && s.hub.wAt.all fun t => t + 40960000 ≤ s.clock then
        let v := s.hub.w + clampI 50000 (w - s.hub.w)
        let s1 := setW v s
        if v = w then s1 else { s1 with hub := { s1.hub with wPend := some w } }
      else s
    | none => s

/-! ### The gates open (R28, R48, R256, R257, R394) -/

/-- Every island that Hub's gates stop. -/
def hubIslands : List IslandId :=
  (List.finRange 88).filter fun i => i.val < 0x40 ∨ (0x48 ≤ i.val ∧ i.val < 0x4F) ∨ i.val = 0x50 ∨ i.val = 0x54

/-- Each gated island takes its swap, then the work it held; the latest occurrence of each source reaches Pacer before
any thread's slot (R48, R135, R256). -/
def resumeIslands (s : State) : State :=
  let s1 := forEach 256 arrive (hubIslands.foldl (fun s i => ungateCopies i s) s)
  let s2 := forEach 64 ungateSpoke s1
  ungateFreewheel (ungateTruing true (forEach 8 ungateAxis (forEach 4 ungateEngine (drainActions s2))))

/-- A port takes the mode that CP_PWR.DAY names (R264). -/
def portDay (c : PortId) (s : State) : State :=
  let d := (s.port c).day
  if d = 0 then laneOff c 0 0 s else if d = 1 then portRun c s else laneOff c 2 1 s

/-- What the opening of the Dawn-to-Day lock brings besides: DT begins at 0, calibration items forget their last run, the
ports take their Day modes, and Stoker seeks a stack (R13, R205, R264, R329, R394). -/
def enterDay (s : State) : State :=
  let s1 := ungateTruing false { s with truing := { s.truing with
    items := s.truing.items.map fun x => { x with runCode := 0 } } }
  let s2 := drainActions (forEach 64 drainHost (forEach 8 portDay s1))
  let s3 := { s2 with pair := { s2.pair with heard := false } }
  if bit (s3.act 0x3C000) 0 then enterSeek s3 else s3

/-- The DT at which the gates open in this ft, if they do: DT 0 on the way to Day, or the multiple of 128 ns that the
holdover counter reaches (R233). -/
def State.openingDt (s : State) : Option DT :=
  if s.hub.dayLock then some 0
  else match s.hub.ho with
    | some h => reaches 524288 (h.fine (s.clock - 1)) (h.fine s.clock)
    | none => none

/-- The core count begins, or resumes from the holdover count, at the DT of the opening, and goes out to every replica
(R239, R240); entry to Day starts DT (R13). -/
def startCount (d : DT) (s : State) : State :=
  let s0 := if s.hub.dayLock then
    { s with dtRuns := true, dyn := { s.dyn with st := .day, dayEntry := false } } else s
  { s0 with dt := d, noon := { s0.noon with distAt := d, distClock := s0.clock }, hub := { s0.hub with
      gatesOpen := true, lock := .locked, hold := true, dayLock := false, inDay := true, openDt := d, ho := none } }

/-- GATE_OPEN (R233, R240, R256, R257, R394): at a DT multiple of 128 ns after the check agrees, or at DT 0 on the way to
Day. A hold begins in every spoke. -/
def execGateOpen (s : State) : Out :=
  .next <| match s.openingDt with
    | some d =>
      if s.hub.lock = .agreed then
        let day := s.hub.dayLock
        let s1 := startCount d s
        let s2 := if day then s1 else resumeIslands s1
        let s3 := raise 218 1 0 0 d (raise 216 2 0 0 d s2)
        let s4 := if day then enterDay (raise 248 2 0 0 d s3) else s3
        if bit (s4.act 0x2010) 0 then autoRestart d s4 else s4
      else s
    | none => s

end Sys2Proof.Machine
end

