-- ==== Sys2Proof/Machine/Stoker.lean ====
section
/-! DEFINITION. Stoker: the ring reference, hop calibration, captains and elections, joining, and triggers (R320 to
R335, R340). -/

namespace Sys2Proof.Machine

/-! ### What a module knows of its rings -/

def isCcw (r : RingDir) : Bool := match r with | .cw => false | .ccw => true

def Stoker.beacon (k : Stoker) (r : RingDir) : Option BeaconRec := match r with | .cw => k.beaconCw | .ccw => k.beaconCcw

def Stoker.setOk (k : Stoker) (r : RingDir) (b : Bool) : Stoker :=
  match r with | .cw => { k with cwOk := b } | .ccw => { k with ccwOk := b }

def portNum (prt : RingPort) : Nat := match prt with | .n => 0 | .p => 1

/-- E236 with a cause and, for a link, its port. -/
def ringEvent (cause detail : Nat) (s : State) : State := raiseNow 236 cause detail 0 s

/-- A ring is present again at its port. -/
def ringPresent (r : RingDir) (s : State) : State :=
  if s.stoker.ok r then s else ringEvent 5 (portNum (inPort r)) (s.modStoker (·.setOk r true))

/-- The ring PLL changes ring (R325); `lost` says whether a loss of its ring has moved it. -/
def switchRing (lost : Bool) (s : State) : State :=
  ringEvent 1 0 (s.modStoker fun k => { k with
    dir := !k.dir, dirSw := k.dirSw + 1, preferFrom := none, joinUses := 0, moved := lost })

/-- The module prefers the ring that is not selected: it is present and its latest BEACON came with fewer HOPS, or with as
many and it is the clockwise one (R325). -/
def Stoker.prefersOther (k : Stoker) : Bool :=
  let other := ringOf !k.dir
  k.ok other && match k.beacon other, k.beacon (ringOf k.dir) with
    | some a, some b => a.hops < b.hops || (a.hops == b.hops && k.dir)
    | some _, none => true
    | none, _ => false

/-- The choice of ring (R325): the preferred one is taken at once, or, where a loss had moved the ring PLL, once it has been
present for 1 ms (DEDUCED: log entry 104). -/
def notePrefer (s : State) : State :=
  let k := s.stoker
  if !k.prefersOther then s.modStoker fun k => { k with preferFrom := none }
  else if k.moved then s.modStoker fun k => { k with preferFrom := some (k.preferFrom.getD s.clock) }
  else switchRing false s

/-! ### Captains (R324, R329 to R334) -/

/-- (position, identity) order. -/
def lower (p1 : Nat) (i1 : BitVec 64) (p2 : Nat) (i2 : BitVec 64) : Bool := p1 < p2 || (p1 == p2 && i1.toNat < i2.toNat)

/-- The module becomes Captain (R334): its ring PLL stays in holdover where HU_REF_CFG.SEL is 0x2, and locks to the DCO
output elsewhere, and the root of its ring candidate is its own. -/
def becomeCaptain (s : State) : State :=
  let s1 := s.modStoker fun k => { k with
    captPos := k.pos, captId := s.ident, beaconAt := s.clock, jwait := false, beaconCw := none, beaconCcw := none
    pllDco := selOf (fld (s.act 0x2004) 0 4) != 2 }
  let x := s1.noon.cands.get 8
  stokerTo 3 { s1 with noon := { s1.noon with cands := s1.noon.cands.set 8 { x with root := s.ident } } }

/-- The module enters ELECT and floods its CANDIDATE (R331). -/
def enterElect (s : State) : State :=
  let s1 := stokerTo 5 (s.modStoker fun k => { k with elect := k.elect + 1, cands := [(k.pos, s.ident)] })
  originate 3 0 true (cellBody 0 (word (b1 s.stoker.capt)) s.ident 0) s1

/-- The Captain a BEACON names is the one this module follows from here. -/
def follow (b : Octets) (s : State) : State :=
  let fresh := s.stoker.captId != cellId b || s.stoker.captPos.toNat != cellOrigin b
  s.modStoker fun k => { k with
    captPos := BitVec.ofNat 4 (cellOrigin b), captId := cellId b, joinUses := if fresh then 0 else k.joinUses }

/-- What a BEACON of the other side's Captain says of the generation there (R336, R340). -/
def otherSide (b : Octets) (s : State) : State :=
  let s1 := s.modStoker fun k => { k with otherBeacon := some (s.clock, cellWord b) }
  let split := cellWord b != s.commit.gen
  if split == s.pair.genSplit then s1
  else raiseNow 238 (if split then 2 else 3) 0 0 { s1 with pair := { s1.pair with genSplit := split } }

/-- A BEACON's content. -/
def beaconRec (b : Octets) : BeaconRec :=
  { hops := cellHops b, root := BitVec.ofNat 64 (leAt b 4 8), gen := cellWord b, rootHops := cellAux b % 256, qual := cellAux b / 256 % 256
    tai := (cellAux b).testBit 16 }

/-- The elapsed time of the latest BEACON on a ring. -/
def Stoker.heardAt (k : Stoker) (r : RingDir) : Nat := match r with | .cw => k.heardCw | .ccw => k.heardCcw

def Stoker.setHeard (k : Stoker) (r : RingDir) (t : Nat) : Stoker :=
  match r with | .cw => { k with heardCw := t } | .ccw => { k with heardCcw := t }

/-- A BEACON of the own side is noted for its ring. -/
def noteBeacon (r : RingDir) (b : Octets) (s : State) : State :=
  let x := beaconRec b
  ringPresent r (s.modStoker fun k => { k.setHeard r s.clock with
    lastBeacon := s.clock
    beaconCw := if isCcw r then k.beaconCw else some x
    beaconCcw := if isCcw r then some x else k.beaconCcw })

/-- A BEACON comes from the Captain that the module follows. -/
def Stoker.follows (k : Stoker) (b : Octets) : Bool := cellId b == k.captId && cellOrigin b == k.captPos.toNat

/-- A BEACON of the own side arrives on a ring, be it the first copy or the second: the ring is present with its HOPS, and a
module in HOLDOVER is back (R325, R326, R329). A Captain's own BEACON that comes back shows the ring present. -/
def hearBeacon (r : RingDir) (b : Octets) (s : State) : State :=
  let k := s.stoker
  if k.st == 0 || !cellOk b || cellType b != 1 || cellSide b != s.pair.side then s
  else if s.isOwn b then ringPresent r (s.modStoker (·.setHeard r s.clock))
  else match k.st.toNat with
    | 1 =>
      let s1 := if k.cwOk || k.ccwOk then s else s.modStoker fun k => { k with dir := isCcw r }
      notePrefer (noteBeacon r b (follow b s1))
    | 2 => if k.follows b then notePrefer (noteBeacon r b s) else s
    | 3 => s
    | 4 => stokerTo 2 (ringEvent 3 0 (noteBeacon r b (follow b (s.modStoker fun k => { k with dir := isCcw r, moved := true }))))
    | _ => noteBeacon r b s

/-- What the first copy of a BEACON of the own side does besides: a Captain yields to a lower one, and a member of a higher
one seeks the lower (R330, R332). -/
def ownBeacon (r : RingDir) (b : Octets) (s : State) : State :=
  let k := s.stoker
  if !lower (cellOrigin b) (cellId b) k.captPos.toNat k.captId then s
  else
    let turn (s : State) : State :=
      enterSeek (noteBeacon r b (follow b (s.modStoker fun k => { k with dir := isCcw r, beaconCw := none, beaconCcw := none })))
    match k.st.toNat with
    | 2 => turn s
    | 3 => turn (raiseNow 237 0xA 0 0 s)
    | _ => s

/-- What a BEACON does where it is taken. -/
def takeBeacon (r : RingDir) (b : Octets) (s : State) : State :=
  if cellSide b != s.pair.side then otherSide b s else ownBeacon r b s

/-- RING_BEACON (R325). -/
def execRingBeacon (r : RingDir) (cell : Octets) (s : State) : Out := receive 1 r cell (takeBeacon r cell) (hearBeacon r cell s)

/-- BEACON_TIMER (R324). -/
def execBeaconTimer (s : State) : Out :=
  .next <|
    if s.stoker.st == 3 && s.stoker.beaconAt ≤ s.clock then
      let x := s.root
      let body := leOctets 8 x.id.toNat ++ [0, 0] ++ leOctets 4 s.commit.gen.toNat ++ leOctets 8 s.ident.toNat ++
        leOctets 4 (min x.hops 255 + x.qual * 256 + b1 x.tai * 65536)
      originate 1 0 true body (s.modStoker fun k => { k with beaconAt := s.clock + ftUs })
    else s

/-- A ring is lost at its port (R325, R326, R329): the ring PLL changes to the other ring, or goes into holdover where that
is lost too. -/
def loseRing (r : RingDir) (s : State) : State :=
  if s.stoker.st == 0 || !s.stoker.ok r then s
  else
    let s1 := ringEvent 4 (portNum (inPort r)) ((s.modStoker (·.setOk r false)).modStoker fun k =>
      match inPort r with | .n => { k with npos := none } | .p => { k with ppos := none })
    let k := s1.stoker
    if k.st == 3 then s1
    else if !k.cwOk && !k.ccwOk then
      if k.st == 2 then ringEvent 2 0 (stokerTo 4 s1) else s1
    else if ringOf k.dir == r then switchRing true s1
    else notePrefer s1

/-- RING_LOST (R325): the ring's incoming clock has had no edge for 32 ns, or no BEACON has come on it for 3 us. -/
def execRingLost (x : RingLoss) (s : State) : Out :=
  .next <|
    if x.clockStopped then loseRing x.ring (s.modStoker (·.setClk x.ring false))
    else if s.stoker.heardAt x.ring + 12288000 ≤ s.clock then loseRing x.ring s else s

/-- RING_RETURN (R325): the preferred ring has been present with fewer HOPS for 1 ms. -/
def execRingReturn (s : State) : Out :=
  .next <| match s.stoker.preferFrom with
    | some t =>
      if s.stoker.st != 0 && s.stoker.st != 3 && t + ftMs ≤ s.clock && s.stoker.prefersOther then switchRing false s else s
    | none => s

/-- SEEK_TIMEOUT (R329): no BEACON for 1 ms makes a strapped module Captain; none for 1 s starts an election. -/
def execSeekTimeout (s : State) : Out :=
  .next <|
    let from_ := max s.stoker.stFrom s.stoker.lastBeacon
    if s.stoker.st != 1 then s
    else if s.stoker.capt then if from_ + ftMs ≤ s.clock then becomeCaptain s else s
    else if from_ + ftS ≤ s.clock then enterElect s else s

/-- HOLDOVER_TIMEOUT (R329): 8 us without a BEACON on either ring. -/
def execHoldoverTimeout (s : State) : Out :=
  .next <| if s.stoker.st == 4 && s.stoker.lastBeacon + 32768000 ≤ s.clock then enterElect s else s

/-- RING_CANDIDATE (R331). -/
def execRingCandidate (r : RingDir) (cell : Octets) (s : State) : Out :=
  receive 3 r cell (fun s =>
    if s.stoker.st == 5 && cellSide cell == s.pair.side then
      s.modStoker fun k => { k with cands := (BitVec.ofNat 4 (cellOrigin cell), cellId cell) :: k.cands }
    else s) s

/-- ELECT_WINDOW_END (R331): the lowest of the candidates collected is Captain, and every other module seeks. -/
def execElectWindowEnd (s : State) : Out :=
  .next <|
    if s.stoker.st == 5 && s.stoker.stFrom + 81920000 ≤ s.clock then
      let win := s.stoker.cands.foldl (fun a c => if lower c.1.toNat c.2 a.1.toNat a.2 then c else a) (s.stoker.pos, s.ident)
      let s1 := raiseNow 237 9 win.1.toNat 0 (s.modStoker fun k => { k with cands := [] })
      if win.1 == s.stoker.pos && win.2 == s.ident then becomeCaptain s1 else enterSeek s1
    else s

/-! ### Hop calibration (R327) -/

/-- HOPSTAMP_TIMER (R327): one on each outgoing link. -/
def execHopstampTimer (s : State) : Out :=
  .next <|
    if s.stoker.st != 0 && s.stoker.st != 6 && s.stoker.hopAt ≤ s.clock then
      (sendCell .p none (sendCell .n none s)).modStoker fun k => { k with hopAt := s.clock + ftMs }
    else s

/-- Bits [47:0] restored to the DT nearest the receiver's own (R322). -/
def restore48 (low : Nat) (own : DT) : DT :=
  dtAddI own (signed 48 (low + 2 ^ 48 - own.toNat % 2 ^ 48))

/-- alpha of a port: SK_ASYM alone (R327). -/
def State.hopLats (s : State) (prt : RingPort) : Lats :=
  { txl := 0, rxl := 0, txp := 0, rxp := 0, fix := (s.act (0x3C010 + 4 * (portNum prt))).toInt, coef := 0 }

def badHop (s : State) : State := s.modStoker fun k => { k with exchBad := k.exchBad + 1 }

/-- A used exchange with the neighbour on a port; with the upstream one of the selected ring it is a measurement of
candidate 0x8, and counts toward joining (R327, R330). -/
def useHop (r : RingDir) (x : Exch) (s : State) : State :=
  let prt := inPort r
  let est := s.stoker.est prt
  let cfg := s.act 0x3C000
  let (e1, taken) := estimate est (fld cfg 4 8) (fld cfg 1 3) (s.hopLats prt) x s.clock
  if !taken then badHop (s.modStoker (·.setEst prt e1))
  else
    let s1 := s.modStoker (·.setEst prt { e1 with frozen := false })
    let s2 := if est.frozen then raiseNow 239 2 (portNum prt) 0 s1 else s1
    if ringOf s2.stoker.dir != r then s2
    else
      let s3 := s2.modStoker fun k => { k with err := clampI backlogMax e1.err, joinUses := k.joinUses + 1 }
      match s3.stoker.beacon r with
      | some b => deliver ⟨8, e1.err, x.d, b.root, b.rootHops + b.hops, b.qual, b.tai⟩ s3
      | none => s3

/-- What a HOPSTAMP does at the neighbour it was sent to. -/
def takeHopstamp (r : RingDir) (b : Octets) (s : State) : State :=
  let prt := inPort r
  let aux := cellAux b
  let d := s.now
  let c := cellDt b
  let pos : Option (BitVec 4) := some (BitVec.ofNat 4 (cellOrigin b))
  let est := s.stoker.est prt
  let s1 := s.modStoker fun k =>
    let k1 := match prt with | .n => { k with npos := pos } | .p => { k with ppos := pos }
    k1.setEst prt { est with got := some ((cellSeq b).setWidth 16, c, d, s.outage) }
  let a := restore48 (leAt b 0x0E 6) d
  match est.sent.find? fun e => e.1.toNat == aux % 256 && e.2.1 == a with
  | some e =>
    if !aux.testBit 8 then s1
    else if 8192000000 < dtDiff d a || e.2.2 || aux.testBit 9 || aux.testBit 10 || s.outage then badHop s1
    else useHop r ⟨a, restore48 (leAt b 0x14 6) d, c, d⟩ s1
  | none => s1

/-- RING_HOPSTAMP (R327). -/
def execRingHopstamp (r : RingDir) (cell : Octets) (s : State) : Out := receive 2 r cell (takeHopstamp r cell) s

/-- HOP_ESTIMATOR_FREEZE (R327): 10 ms without a used exchange. -/
def execHopEstimatorFreeze (port : RingPort) (s : State) : Out :=
  .next <|
    let est := s.stoker.est port
    if s.stoker.st != 0 && !est.frozen && est.usedAt + 10 * ftMs ≤ s.clock then
      raiseNow 239 1 (portNum port) 0 (s.modStoker (·.setEst port { est with frozen := true }))
    else s

/-! ### Joining (R330) -/

/-- The DT at which a module may join whatever its count and generation: nothing is queued or playing, and no island
holds a retiring copy. -/
def State.idleToJoin (s : State) : Bool :=
  s.queuesIdle && s.enginesIdle && commitIslands.all fun i => (s.island i).retiring.isNone

/-- EPOCH takes the stack's value, which its BEACONs carry as TAI (R13, R330; DEDUCED: log entry 70). -/
def adoptEpoch (tai : Bool) (s : State) : State :=
  if tai then setEpoch s else { s with noon := { s.noon with epoch := false } }

/-- The join itself: the stack's count, by slewing where `near`, and else by whole barrel rounds; its EPOCH and its
generation. -/
def joinStack (near : Bool) (b : BeaconRec) (s : State) : State :=
  let d := -(s.stoker.est (inPort (ringOf s.stoker.dir))).err
  let s1 := if near then addSlew d s
    else addSlew (stepRest d) (moveCount (stepRounds d) s.dt (dtAddI s.dt d) s)
  let s2 := adoptEpoch b.tai s1
  let s3 := if b.gen = s2.commit.gen then s2 else
    overIslands (fun i s => s.modIsland i fun x => { x with gen := b.gen })
      { s2 with commit := { s2.commit with gen := b.gen, dt := s2.dt } }
  stokerTo 2 (raiseNow 237 7 0 0 (s3.modStoker fun k => { k with jwait := false }))

/-- JOIN (R330): after 8 used exchanges, at once where DT and generation agree, else at an idle DT. -/
def execJoin (s : State) : Out :=
  .next <| match s.stoker.beacon (ringOf s.stoker.dir) with
    | some b =>
      if s.stoker.st != 1 || s.stoker.joinUses < 8 || !s.stoker.ok (ringOf s.stoker.dir) || !s.clocked then s
      else
        let near := s.stoker.err.natAbs ≤ 4096000 && b.gen == s.commit.gen
        if near || s.idleToJoin then joinStack near b s
        else if s.stoker.jwait then s
        else raiseNow 237 8 0 0 (s.modStoker fun k => { k with jwait := true })
    | none => s

/-! ### Triggers (R335) -/

/-- What a TRIGGER cell puts on its way to a thread: ROUTE and WHERE as they came. -/
def takeCellTrigger (route wher : Nat) (via : MailVia) (b : Octets) (s : State) : State :=
  mailFor false (Fin.ofNat 16 (cellAux b)) via
    ⟨cellDt b, cellWord b, BitVec.ofNat 16 (route * 16384 + wher % 16 * 1024 + cellAux b / 16 % 16)⟩ s

/-- RING_TRIGGER (R335). -/
def execRingTrigger (r : RingDir) (cell : Octets) (s : State) : Out :=
  receive 9 r cell (takeCellTrigger 2 (cellOrigin cell) .ring cell) s

/-- A TRIG over the ring (R113, R335): `dest` in the layout of SRC. -/
def triggerBody (s : State) (dest : BitVec 16) (src : ThreadId) (ta : DT) (w : Word) : Octets :=
  cellBody ta w s.ident (dest.toNat % 16 + 16 * src.val)

def sendRingTrigger (dest : BitVec 16) (src : ThreadId) (ta : DT) (w : Word) (s : State) : State :=
  originate 9 (dest.toNat / 1024 % 16) (dest.getLsbD 9) (triggerBody s dest src ta w) s

/-- A TRIG over the Pair lane: a TRIGGER cell in a Relay frame. -/
def sendPairTrigger (dest : BitVec 16) (src : ThreadId) (ta : DT) (w : Word) (s : State) : State :=
  let s1 := relay (mkCell s 9 s.stoker.pos.toNat false (triggerBody s dest src ta w)) s
  s1.modStoker fun k => { k with seq := k.seq + 1 }

end Sys2Proof.Machine
end

