-- ==== Sys2Proof/Machine/Pair.lean ====
section
/-! DEFINITION. The Pair lane, the referee and the watchdog of a redundant pair (R341 to R352), and block lock of every
lane (R261, R342). -/

namespace Sys2Proof.Machine

def State.modPair (s : State) (f : Pair → Pair) : State := { s with pair := f s.pair }

/-! ### The lane (R342) -/

/-- The Pair lane goes down: on loss of block lock, or when the partner proves to be another. -/
def laneDown (s : State) : State :=
  if s.pair.lane then raiseNow 241 2 0 0 (s.modPair fun p => { p with lane := false }) else s

/-- The lane is UP once block lock has held for 1 ms and a heartbeat of the partner has come. -/
def laneUp (s : State) : State :=
  let ok := s.pair.block && s.pair.posOk && !s.pair.lane && s.pair.lockFrom.any fun t => t + ftMs ≤ s.clock
  if ok then raiseNow 241 1 0 0 (s.modPair fun p => { p with lane := true }) else s

/-- BLOCK_LOCK_GAINED (R261, R299, R342). -/
def execBlockLockGained (lane : Lane) (s : State) : Out :=
  .next <| if !s.pcieUp then s else match lane with
    | .line c => lineGained c s
    | .host c => setHostBlock c true s
    | .pair => s.modPair fun p => { p with block := true, lockFrom := if p.block then p.lockFrom else some s.clock }

/-- BLOCK_LOCK_LOST (R261, R268, R307, R342). -/
def execBlockLockLost (lane : Lane) (s : State) : Out :=
  .next <| if !s.pcieUp then s else match lane with
    | .line c => lineLost c s
    | .host c => setHostBlock c false s
    | .pair => laneDown (s.modPair fun p => { p with block := false, lockFrom := none, posOk := false })

/-! ### Heartbeats (R343) -/

/-- Whether a DT's heartbeat carries TIME. -/
def isTimeBeat (d : DT) : Bool := d.toNat % ftMs == 0

/-- The estimators freeze 10 ms after the last used exchange (R284, R343). -/
def freezePair (s : State) : State :=
  if !s.pair.est.frozen && s.pair.est.usedAt + 10 * ftMs ≤ s.clock then
    raiseNow 247 1 0 0 (s.modPair fun p => { p with est := { p.est with frozen := true } })
  else s

/-- HEARTBEAT_TIMER (R343): at every DT that is a multiple of 1 us, in Day and in Dusk until the lane stops (R398). -/
def execHeartbeatTimer (s : State) : Out :=
  .next <|
    if s.paired && s.dtRuns && s.pcieUp && s.due islPair s.pair.hbAt then
      let tx := s.now
      let time := isTimeBeat s.pair.hbAt
      let r := s.root
      let (etx, erx, eseq) := match time, s.pair.est.got with
        | true, some (q, t, d, _) => (t, d, q.toNat)
        | _, _ => (0, 0, 0)
      let lat (k : Nat) : Nat := if time then (s.act k).toNat % 2 ^ 24 else 0
      let body := leOctets 10 tx.toNat ++
        [BitVec.ofNat 8 (s.pair.token.code + 4 * b1 s.netWrong), BitVec.ofNat 8 s.posByte] ++
        leOctets 4 s.commit.gen.toNat ++ leOctets 10 etx.toNat ++ leOctets 10 erx.toNat ++ leOctets 2 eseq ++ [0, 0] ++
        leOctets 4 (lat 0x3E01C) ++ leOctets 4 (lat 0x3E020) ++ leOctets 8 r.id.toNat ++ leOctets 1 (min r.hops 255) ++
        leOctets 1 r.qual ++ List.replicate 6 0
      freezePair <| s.modPair fun p => { p with
        out := p.out ++ [pairFrame s 0x10 p.seqHb.toNat (b1 time) body], seqHb := p.seqHb + 1
        hbAt := BitVec.ofNat 80 ((s.dt.toNat / 4096000 + 1) * 4096000)
        est := if time then { p.est with
          sent := (p.seqHb, tx, s.outage) :: p.est.sent.filter fun e => dtDiff tx e.2.1 ≤ 8192000000 } else p.est }
    else s

/-- A Heartbeat PDU fits its table. -/
def heartbeatOk (b : Octets) : Bool :=
  headOk b 0x10 80 1 && leAt b 0x1A 1 < 8 && leAt b 0x1B 1 < 32 && zeros b 0x36 2 && zeros b 0x4A 6 &&
    (pduFlags b == 1 || zeros b 0x20 32)

/-- A Pair PDU is discarded as bad. -/
def badPair (s : State) : State := raiseNow 241 5 0 0 (s.modPair fun p => { p with badFrame := p.badFrame + 1 })

/-- The latencies of the Pair lane; alpha is that of R343. -/
def State.pairLats (s : State) : Lats :=
  { txl := (s.act 0x3E01C).toNat, rxl := (s.act 0x3E020).toNat, txp := s.pair.ptxlat, rxp := s.pair.prxlat, fix := 0, coef := 0 }

/-- A used exchange over the lane is a measurement of candidate 0x9 (R343). The lane has no filter settings of its own:
KD and GATE are Stoker's (log entry 32). -/
def usePair (b : Octets) (x : Exch) (s : State) : State :=
  let cfg := s.act 0x3C000
  let (e1, taken) := estimate s.pair.est (fld cfg 4 8) (fld cfg 1 3) s.pairLats x s.clock
  if !taken then s.modPair fun p => { p with est := e1 }
  else
    let s1 := s.modPair fun p => { p with est := { e1 with frozen := false } }
    let s2 := if s.pair.est.frozen then raiseNow 247 2 0 0 s1 else s1
    let q := leAt b 0x49 1
    deliver ⟨9, e1.err, x.d, BitVec.ofNat 64 (leAt b 0x40 8), leAt b 0x48 1, q, q ≤ 1⟩ s2

/-- The time part of a TIME heartbeat. -/
def timeBeat (b : Octets) (s : State) : State :=
  let d := s.now
  let c : DT := BitVec.ofNat 80 (leAt b 0x10 10)
  let a : DT := BitVec.ofNat 80 (leAt b 0x20 10)
  let s1 := s.modPair fun p => { p with
    ptxlat := leAt b 0x38 4, prxlat := leAt b 0x3C 4
    est := { p.est with got := some (BitVec.ofNat 16 (pduSeq b), c, d, s.outage) } }
  match s.pair.est.sent.find? fun e => e.1.toNat == leAt b 0x34 2 && e.2.1 == a with
  | some e =>
    if 8192000000 < dtDiff d a || e.2.2 || s.outage then s1
    else usePair b ⟨a, BitVec.ofNat 80 (leAt b 0x2A 10), c, d⟩ s1
  | none => s1

/-- A heartbeat of the partner: what is noted of it. -/
def noteBeat (b : Octets) (s : State) : State :=
  let tx : DT := BitVec.ofNat 80 (leAt b 0x10 10)
  let st := leAt b 0x1A 1 % 4
  let back := !s.pair.hb && s.pair.heard
  let s1 := s.modPair fun p => { p with
    heard := true, hb := true, lastHb := s.clock, lastTx := tx, ptoken := BitVec.ofNat 2 st, posOk := true
    partnerStandbyFrom := if st = 1 then some (p.partnerStandbyFrom.getD s.clock) else none }
  let s2 := forEach 64 (fun i s =>
    s.modSpoke i fun sp => { sp with gapEdges := sp.gapEdges.filter fun t => !dtLe t tx }) s1
  if back then raiseNow 243 2 0 0 s2 else s2

/-- HEARTBEAT (R342, R343, R346): the time part counts once DT runs, and the token changes in Day only. -/
def execHeartbeat (pdu : Octets) (s : State) : Out :=
  .next <|
    if !s.paired || !s.pair.block then s
    else if !heartbeatOk pdu then badPair s
    else
      let pb := leAt pdu 0x1B 1
      if pb % 16 ≠ s.stoker.pos.toNat ∨ (16 ≤ pb) = (s.pair.side = true) then
        laneDown (raiseNow 241 3 0 0 (s.modPair fun p => { p with posOk := false }))
      else
        let s1 := beatToken (laneUp (noteBeat pdu s))
        if pduFlags pdu = 1 && s.dtRuns then timeBeat pdu s1 else s1

/-- RELAY_FRAME (R342): a ring cell of the other side is flooded here and taken, or a trigger placed (R335, R337). A PDU
that does not fit its table is counted whether or not the lane is UP (R354). -/
def execRelayFrame (pdu : Octets) (s : State) : Out :=
  .next <|
    if !s.paired || !s.pair.block then s
    else if !headOk pdu 0x11 48 0 then badPair s
    else if !s.pair.lane then s
    else
      let cell := slice pdu 16 32
      if !cellOk cell then
        raiseNow 240 2 0 0 (s.modStoker fun k => { k with badCell := k.badCell + 1 })
      else if !s.firstCopy cell then s
      else if cellType cell == 9 then
        (if s.isDest cell then takeCellTrigger 3 0 .pair cell (remember cell s) else remember cell s)
      else
        let s1 := remember cell s
        let s2 := if s.stoker.st == 0 then s1 else flood cell s1
        if !s.isDest cell then s2
        else match cellType cell with
          | 1 => if cellSide cell == s.pair.side then s2 else otherSide cell s2
          | 5 => takePrepare cell s2
          | 6 => takeAnswer cell s2
          | 7 => takeConfirm cell s2
          | 8 => takeAbandon cell s2
          | _ => s2

/-- HEARTBEAT_MISSING (R346): none for 2 us. -/
def execHeartbeatMissing (s : State) : Out :=
  .next <|
    if s.pair.hb && s.pair.lastHb + 8192000 ≤ s.clock then
      netTake (raiseNow 243 1 0 0 (s.modPair fun p => { p with
        hb := false, hbMiss := p.hbMiss + 1, partnerStandbyFrom := none }))
    else s

/-! ### Evidence (R345) -/

/-- The spoke's level at the lands as its work drives it, or would drive it under suppression (R345). -/
def State.workLevel (s : State) (i : SpokeId) : Drv :=
  let sp := s.spoke i
  if sp.out == 0 || sp.modeEnd.isSome || (sp.out == 3 && s.dyn.elFault) then .hiz else sp.atLands s.dt

/-- The comparator stands at another level than the work drives, or would drive; an expected Hi-Z is never compared. -/
def State.levelDiffers (s : State) (i : SpokeId) : Bool :=
  match s.workLevel i with
  | .hiz => false
  | .low => (s.spoke i).pin
  | .high => !(s.spoke i).pin

/-- The module as it would drive without suppression. -/
def State.unsuppressed (s : State) : State := { s with pair := { s.pair with token := .active } }

/-- The edges to come of a spoke's work, at the lands, up to an instant and a little beyond. -/
def State.comingEdges (s : State) (i : SpokeId) (x : DT) : List DT :=
  (((s.spoke i).launches.map (·.1)).filter fun d => !dtLe d s.dt) ++ s.unsuppressed.queueEdges i ++
    s.unsuppressed.engineEdges i x

/-- When the last edge of a spoke's work came to the lands. -/
def State.lastEdge (s : State) (i : SpokeId) : Option DT :=
  ((((s.spoke i).launches.map (·.1)).filter fun d => dtLe d s.dt).getLast?).or (s.spoke i).landedAt

/-- The level has differed continuously for `n` ft, `since` an instant at the earliest, at least EVWIN away from every
edge of the work (R345). -/
def State.differsFor (s : State) (i : SpokeId) (n : Nat) (since : Option DT) : Bool :=
  let w := fld (s.act 0x3E000) 3 16
  let past (o : Option DT) (k : Nat) : Bool := o.all fun d => dtLe (dtAdd d k) s.dt
  s.levelDiffers i && past (s.spoke i).crossAt n && past (s.lastEdge i) (w + n) && past since n &&
    !((s.comingEdges i (dtAdd s.dt w)).any fun d => !dtLe (dtAdd s.dt w) d)

/-- PA_CFG.EVLVL in ft, 0 acting as 1 ns. -/
def State.evLvl (s : State) : Nat := max 1 (fld (s.act 0x3E000) 19 8) * 4096

/-- An own edge at the lands that no crossing has answered, EVWIN having passed (R345). -/
def State.unanswered (s : State) (i : SpokeId) : Option (DT × Bool) :=
  let w := fld (s.act 0x3E000) 3 16
  (s.spoke i).evOwn.find? fun e => !dtLe s.dt (dtAdd e.1 w)

/-- A mismatch on a spoke (R345, R346). -/
def foundMismatch (i : SpokeId) (s : State) : State :=
  let s1 := s.modPair fun p => { p with mismatch := p.mismatch + 1, lastMis := some s.clock, evid := true }
  netTake (if s.pair.evid then s1 else raiseNow 244 1 i.val 0 s1)

/-- EVIDENCE_MISMATCH (R345, R346): the referee finds a mismatch on an evidence spoke, of an edge or of a level. A level
that goes on differing is found again EVLVL later (DESIGN CHOICE: log entry 102). -/
def execEvidenceMismatch (i : SpokeId) (levelMismatch : Bool) (s : State) : Out :=
  .next <|
    if !s.inDay || !s.watches i then s
    else if levelMismatch then
      if s.differsFor i s.evLvl (s.spoke i).evFrom then
        foundMismatch i (s.modSpoke i fun sp => { sp with evFrom := some s.dt })
      else s
    else match s.unanswered i with
      | some e => foundMismatch i (s.modSpoke i fun sp => { sp with evOwn := sp.evOwn.erase e })
      | none => s

/-- NET_CLEAR (R345): no mismatch for 2 us. -/
def execNetClear (s : State) : Out :=
  .next <| if s.pair.evid && !s.netWrong then raiseNow 244 2 0 0 (s.modPair fun p => { p with evid := false }) else s

/-- VACANCY_TIMER (R346): the partner has been STANDBY on every heartbeat for 2 us, and on side B for 1 us more. -/
def execVacancyTimer (s : State) : Out :=
  .next <| match s.pair.partnerStandbyFrom with
    | some t =>
      if s.pair.token == .standby && s.pair.hb && t + 8192000 + 4096000 * b1 s.pair.side ≤ s.clock then takeToken 2 s else s
    | none => s

/-! ### Planned handover (R348) -/

/-- No spoke has an edge of executing work due within 2 ns of H, in suppression as out of it (R348). -/
def State.quiet (s : State) (h : DT) : Bool :=
  let s' := s.unsuppressed
  (List.finRange 64).all fun i =>
    ((s.spoke i).queue.all fun e => e.kind == .window ||
      (((e.nextEdges 16 (s.spoke i).cancel).filter (s'.emits i)).all fun d => !nearEdge d h)) &&
    (s'.engineEdges i h).all fun d => !nearEdge (dtSub d (deskewIn (s.island (islSpoke i)).active i false)) h

/-- HANDOVER_CHECK (R348): at H - 12 ns. -/
def execHandoverCheck (s : State) : Out :=
  .next <| match s.pair.hand with
    | some h =>
      if s.paired && !s.pair.handOk && dtLe h (dtAdd s.dt 49152) then
        if s.quiet h then s.modPair fun p => { p with handOk := true }
        else raiseNow 242 3 0 0 (s.modPair fun p => { p with hand := none })
      else s
    | none => s

/-- HANDOVER_SWITCH (R348): the holder gives the token up 200 ps before H, and the other takes it at H. In Brake at H a
module takes no part, and the handover has passed. -/
def execHandoverSwitch (s : State) : Out :=
  .next <| match s.pair.hand with
    | some h =>
      let s1 := s.modPair fun p => { p with hand := none, handOk := false }
      if !s.pair.handOk then s
      else if s.pair.token == .active then (if dtLe h (dtAdd s.dt 819) then releaseToken .standby 4 s1 else s)
      else if !dtLe h s.dt then s
      else if s.pair.token == .standby then takeToken 4 s1
      else s1
    | none => s

/-! ### The watchdog (R350, R351) -/

/-- REFEREE_KICK (R350): every 500 ns. -/
def execRefereeKick (s : State) : Out := .next <|
  if s.pcieUp then s.modPair fun p => { p with kick := true, lastKick := s.clock } else s

/-- WATCHDOG_KICK_TIMEOUT (R350): no kick for 2 us. -/
def execWatchdogKickTimeout (s : State) : Out :=
  .next <| if s.pcieUp && s.pair.lastKick + 8192000 ≤ s.clock then enterBrake 1 (s.modPair fun p => { p with kick := false }) else s

/-- TCXO_LOSS (R350): no TCXO edge for 1 us. -/
def execTcxoLoss (s : State) : Out := .next <|
  if s.pcieUp then enterBrake 3 (s.modPair fun p => { p with tcxo := false }) else s

/-- NETFAULT (R350): a level mismatch of 1 us on the active side, with SELFBRAKE. -/
def execNetfault (s : State) : Out :=
  .next <|
    let found := (List.finRange 64).any fun i => s.watches i && s.differsFor i (max 4096000 s.evLvl) none
    if s.paired && s.inDay && s.pair.token == .active && bit (s.act 0x3E000) 2 && found then enterBrake 5 s else s

/-- BRAKE_ENTER (R350): a write of 1 to PA_BRAKE.ENTER. -/
def execBrakeEnter (s : State) : Out := .next (byHost s fun s => enterBrake 4 s)

/-- A cause of R350 holds; CLOCK, where it set this Brake, until restart hold has ended too (R351). -/
def State.brakeHolds (s : State) : Bool :=
  !s.pair.kick || !s.pair.tcxo || (s.paired && s.hub.inDay && (!s.hub.gatesOpen || (s.pair.brakeCause == 2 && s.hub.hold)))

/-- An EXIT is refused. -/
def refuseExit (s : State) : State := raiseNow 245 3 0 0 s

/-- A handover whose H has come during Brake has passed without the module (R348). -/
def State.handAfter (s : State) : Option DT := s.pair.hand.filter fun h => !dtLe h s.dt

/-- BRAKE_EXIT (R351): a write of 1 to PA_BRAKE.EXIT alone. In STANDBY the partner's state already known may give the
module the token at once (R346). -/
def execBrakeExit (s : State) : Out :=
  .next <| byHost s fun s =>
    if s.brakeHolds then refuseExit s
    else if !s.pair.brakeLine then s
    else settleToken (raiseNow 245 2 0 0 (s.modPair fun p => { p with
      brakeLine := false, brakeCause := 0, token := if s.paired then .standby else .none
      hand := s.handAfter, handOk := s.handAfter.isSome && p.handOk }))

end Sys2Proof.Machine
end

