-- ==== Sys2Proof/Machine/PacerIssue.lean ====
section
/-! DEFINITION. Pacer's issue instructions: descriptors and cancels to spokes, messages to engines and axes, and
triggers (R101 to R110, R113, R124, R133, R158). -/

namespace Sys2Proof.Machine

/-! ### Routes of a trigger (R113) -/

/-- ROUTE of a DEST, and its WHERE. -/
def routeOf (dest : BitVec 16) : Nat := dest.toNat / 16384
def whereOf (dest : BitVec 16) : Nat := dest.toNat / 1024 % 16
def portOf (dest : BitVec 16) : PortId := Fin.ofNat 8 (whereOf dest)

/-- The way that a DEST names is open: its port is up and grants Triggers, the stack is formed, or the Pair lane is UP. -/
def State.routeOpen (s : State) (dest : BitVec 16) : Bool :=
  match routeOf dest with
  | 0 => true
  | 1 => s.granted (portOf dest) 2
  | 2 => s.stacked
  | _ => s.pair.lane

/-- Triggers on their way from Pacer to a port, to Stoker or to another thread's mailbox: four stand in the channel there
(R44). A frame on the Pair lane leaves at once. -/
def State.triggersTo (s : State) (dest : BitVec 16) : Nat :=
  match routeOf dest with
  | 0 => (s.pacer.mail.filter fun m => m.via == .thread).length
  | 1 => s.waitingOf (portOf dest) (· == 6)
  | 2 => (s.stoker.wait.filter fun m => m.1 == .n && m.2.any fun b => cellType b == 9 && s.isOwn b).length
  | _ => 0

/-! ### Room and lead (R46, R102, R108, R133) -/

/-- Whether the channel, and for a descriptor Q(s), has room. An engine takes its messages from the channel in every cycle,
and only jumps wait there (R158). -/
def State.hasRoom (s : State) : Issue → Bool
  | .desc i _ ta =>
    let need := if (ta - s.pacer.mirror.get i).toNat < 2 ^ 56 then 1 else 2
    (s.spoke i).chan.length + need ≤ 4 && s.pacer.used.get i < 64
  | .anchor i _ | .cancel i _ => (s.spoke i).chan.length < 4
  | .vstart v _ _ | .vjump v _ | .vrate v _ _ | .vstop v _ => (s.engine v).jumpsIn.length < 4
  | .trig dest _ _ => s.triggersTo dest < 4

/-- The DT an issue is tested with and its lead; none where it takes no lead test (R106, R109, R113, R133, R158). -/
def Issue.lead : Issue → Option (DT × Nat)
  | .desc _ _ ta | .cancel _ ta => some (ta, 131072)
  | .vstart _ _ ta | .vrate _ _ ta | .vstop _ ta => some (ta, 409600)
  | .trig dest ta _ => if routeOf dest = 0 then some (ta, 0) else none
  | .anchor _ _ | .vjump _ _ => none

/-- An issue meets its lead from the start of the slot running (R133). -/
def State.meetsLead (s : State) (m : Issue) : Bool :=
  match m.lead with
  | some (ta, lead) => dtLe (dtAdd (slotDt s.slot) lead) ta
  | none => true

/-- Bits of a descriptor replaced. -/
def dPut (r : BitVec 128) (lo len n : Nat) : BitVec 128 :=
  (r &&& ~~~ BitVec.ofNat 128 ((2 ^ len - 1) <<< lo)) ||| BitVec.ofNat 128 (at' n lo len)

/-- An ANCHOR descriptor (R59). -/
def anchorRaw (ta : DT) : BitVec 128 := BitVec.ofNat 128 (ta.toNat * 2 ^ 48)

/-- Descriptors into the channel of a spoke, with the tag R102 gives them. -/
def sendDescs (p : ThreadId) (i : SpokeId) (l : List (BitVec 128)) (s : State) : State :=
  let tag := (s.island islPacer).gen
  s.modSpoke i fun sp => { sp with chan := sp.chan ++ l.map fun r => .desc ⟨r, tag, p⟩ }

/-- M(s) becomes a DT. -/
def setMirror (i : SpokeId) (d : DT) (s : State) : State :=
  { s with pacer := { s.pacer with mirror := s.pacer.mirror.set i.val d i.isLt } }

/-- A descriptor enters, with an ANCHOR in front where its START needs one (R101). -/
def enterChan (p : ThreadId) (i : SpokeId) (raw : BitVec 128) (ta : DT) (s : State) : State :=
  let d := (ta - s.pacer.mirror.get i).toNat
  let s1 := { s with pacer := { s.pacer with used := s.pacer.used.set i.val (s.pacer.used.get i + 1) i.isLt } }
  if d < 2 ^ 56 then sendDescs p i [dPut raw 72 56 d] s1
  else setMirror i ta (sendDescs p i [anchorRaw ta, dPut raw 72 56 0] s1)

/-- A trigger goes its way (R113). -/
def enterTrig (p : ThreadId) (dest : BitVec 16) (ta : DT) (x : Word) (s : State) : State :=
  match routeOf dest with
  | 0 => mailFor false (Fin.ofNat 16 dest.toNat) .thread ⟨ta, x, BitVec.ofNat 16 p.val⟩ s
  | 1 => sendTrigger (portOf dest) dest p ta x s
  | 2 => sendRingTrigger dest p ta x s
  | _ => sendPairTrigger dest p ta x s

/-- What an issue places on entry. -/
def enter (p : ThreadId) (m : Issue) (s : State) : State :=
  let msg (v : EngineId) (x : EngMsg) : State := s.modEngine v fun en => { en with msgs := en.msgs ++ [x] }
  match m with
  | .desc i raw ta => enterChan p i raw ta s
  | .anchor i ta => setMirror i ta (sendDescs p i [anchorRaw ta] s)
  | .cancel i ta => sendCancel i ta p s
  | .vstart v n ta => msg v (.start n ta p)
  | .vjump v n => s.modEngine v fun en => { en with jumpsIn := en.jumpsIn ++ [(n, p)] }
  | .vrate v n ta => msg v (.rate n ta p)
  | .vstop v ta => msg v (.stop ta p)
  | .trig dest ta x => enterTrig p dest ta x s

/-- LATE on the thread's own source, counted in PC_TH_LATE (R102, R109, R113). -/
def sayLate (p : ThreadId) (ta : DT) (s : State) : State :=
  raise (128 + 2 * p.val) 1 0 0 ta (s.modThread p fun t => { t with late := t.late + 1 })

/-- The way of a trigger is closed: nothing is sent, and F is 1 (R113). -/
def State.closed (s : State) : Issue → Bool
  | .trig dest _ _ => !s.routeOpen dest
  | _ => false

/-- One try of an issue: it waits for room in HOLD, fails its lead test with F and LATE, or enters with F clear
(R46, R102, R113, R133). -/
def tryIssue (p : ThreadId) (m : Issue) (s : State) : State :=
  if s.closed m then complete p (fun t => { t with f := true }.step) s
  else if !s.hasRoom m then
    s.modThread p fun t => { t with state := .hold, waitOn := .issue m, nextSlot := s.slot + 16 }
  else if s.meetsLead m then complete p (fun t => { t with f := false }.step) (enter p m s)
  else complete p (fun t => { t with f := true }.step) (sayLate p (m.lead.elim 0 (·.1)) s)

/-- An issue instruction's first try; at 16 383 it faults with ADDR (R94). -/
def startIssue (p : ThreadId) (m : Issue) (s : State) : State := startWait p (tryIssue p m) s

/-- ISSUE_RETRY (R133). -/
def execIssueRetry (p : ThreadId) (s : State) : Out :=
  .next <| if s.mayUse p .hold then
    match (s.thread p).waitOn with
    | .issue m => tryIssue p m s
    | _ => s
  else s

/-- A format E issue: its spoke must be in range, else RANGE (R102). Of several faults in one issue the spoke's RANGE comes
first, and ADDR at 16 383 last (DESIGN CHOICE: the spec gives no order; log entry 99). -/
def issueE (p : ThreadId) (op : Nat) (ok : BitVec 64 → Bool) (f : SpokeId → DT → BitVec 64 → State → State)
    (s : State) : Out :=
  issueOp p op (fun w => isT (fD w) && okSpoke w && ok w)
    (fun w s =>
      let t := s.thread p
      if 63 < spokeOf t w then fault p 4 s else f (Fin.ofNat 64 (spokeOf t w)) (t.tr (fD w)) w s) s

/-- PULSE (R103). -/
def execPulse (p : ThreadId) (s : State) : Out :=
  issueE p 0x40 (fun w => none' (fA w) && zero w 26 11)
    (fun i ta w => startIssue p (.desc i
      (BitVec.ofNat 128 (1 + at' (iField w 39 1) 3 1 + at' (iField w 38 1) 4 1 + at' (iField w 37 1) 5 1 +
        at' (iField w 0 26) 18 26)) ta)) s

/-- LEVEL (R104). -/
def execLevel (p : ThreadId) (s : State) : Out :=
  issueE p 0x41 (fun w => none' (fA w) && iField w 38 2 != 3 && zero w 0 37)
    (fun i ta w => startIssue p (.desc i
      (BitVec.ofNat 128 (4 + at' (iField w 38 2) 3 2 + at' (iField w 37 1) 5 1)) ta)) s

/-- The two words of a template in the active bank (R105). -/
def State.template (s : State) (p : ThreadId) (form : Nat) : BitVec 128 :=
  BitVec.ofNat 128 ((s.code p form).toNat + (s.code p (form + 1)).toNat * 2 ^ 64)

/-- EMIT (R105), which issues in its second slot. Of several faults the spoke's RANGE comes first, then ADDR for FORM 16 383,
FORM, RANGE of Gw, and ADDR at 16 383 last (DESIGN CHOICE: the spec gives no order; log entry 99). -/
def execEmit (p : ThreadId) (s : State) : Out :=
  issueE p 0x42 (fun w => (if iField w 39 1 = 1 then isG (fA w) else none' (fA w)) && zero w 14 25)
    (fun i ta w => secondSlot p fun s =>
      let form := iField w 0 14
      let gw := ((s.thread p).gr (fA w)).toNat
      let raw := s.template p form
      if form = 16383 then fault p 2 s
      else if dKind raw = 0 ∨ dStart raw ≠ 0 then fault p 5 s
      else if iField w 39 1 = 1 ∧ 2 ^ 26 ≤ gw then fault p 4 s
      else startIssue p (.desc i (if iField w 39 1 = 1 then dPut raw 18 26 gw else raw) ta) s) s

/-- ANCHOR (R106). -/
def execAnchor (p : ThreadId) (s : State) : Out :=
  issueE p 0x43 (fun w => none' (fA w) && zero w 0 40) (fun i ta _ => startIssue p (.anchor i ta)) s

/-- CANCEL (R107). -/
def execCancel (p : ThreadId) (s : State) : Out :=
  issueE p 0x44 (fun w => none' (fA w) && zero w 0 40) (fun i ta _ => startIssue p (.cancel i ta)) s

/-! ### Chainring and Crank (R109, R110) -/

/-- The value operand is IMM32 with IS = 1, a G register with IS = 0, the other one 0 (R109). -/
def okVal (w : BitVec 64) : Bool := if iField w 47 1 = 1 then none' (fA w) else isG (fA w) && zero w 0 32
def valOf (t : Thread) (w : BitVec 64) : Word := if iField w 47 1 = 1 then imm32 w else t.gr (fA w)
/-- The fields every engine instruction leaves 0, and its engine. -/
def okEng (w : BitVec 64) : Bool := zero w 43 4 && iField w 40 3 < 4 && zero w 32 8
def engOf (w : BitVec 64) : EngineId := Fin.ofNat 4 (iField w 40 3)

/-- VSTART. -/
def execVstart (p : ThreadId) (s : State) : Out :=
  issueOp p 0x50 (fun w => isT (fD w) && okVal w && okEng w)
    (fun w s =>
      let n := (valOf (s.thread p) w).toNat
      if 1023 < n then fault p 4 s
      else startIssue p (.vstart (engOf w) (BitVec.ofNat 10 n) ((s.thread p).tr (fD w))) s) s

/-- VJUMP. -/
def execVjump (p : ThreadId) (s : State) : Out :=
  issueOp p 0x51 (fun w => none' (fD w) && okVal w && okEng w)
    (fun w s =>
      let n := (valOf (s.thread p) w).toNat
      if 1023 < n then fault p 4 s else startIssue p (.vjump (engOf w) (BitVec.ofNat 10 n)) s) s

/-- VRATE. -/
def execVrate (p : ThreadId) (s : State) : Out :=
  issueOp p 0x52 (fun w => isT (fD w) && okVal w && okEng w)
    (fun w s =>
      let n := valOf (s.thread p) w
      if 1 ≤ n.toNat ∧ n.toNat ≤ 20479 then fault p 4 s
      else startIssue p (.vrate (engOf w) n ((s.thread p).tr (fD w))) s) s

/-- VSTOP. -/
def execVstop (p : ThreadId) (s : State) : Out :=
  issueOp p 0x53 (fun w => isT (fD w) && none' (fA w) && zero w 47 1 && okEng w && zero w 0 32)
    (fun w s => startIssue p (.vstop (engOf w) ((s.thread p).tr (fD w))) s) s

/-- KPOST (R110, R185). Crank takes its channel from Pacer in every cycle, so a post finds room there (log entry 103). -/
def execKpost (p : ThreadId) (s : State) : Out :=
  issueOp p 0x54 (fun w => isT (fD w) && none' (fA w) && zero w 43 5 && zero w 0 40)
    (fun w s =>
      let a : AxisId := Fin.ofNat 8 (iField w 40 3)
      let pos := signed 48 ((s.thread p).tr (fD w)).toNat
      let full := 256 ≤ (s.axis a).tgts.length
      if (s.thread p).ip = 0x3FFF then fault p 2 s
      else
        let s1 := goOn p (fun t => { t with f := full }) s
        if full then s1 else s1.modAxis a fun x => { x with tgts := x.tgts ++ [⟨p, pos, .posted⟩] }) s

/-! ### Triggers (R113) -/

/-- DEST's fields are valid for its ROUTE. ROUTE 0b01 with WHERE 8 to 15 names no port: ILLEGAL (DESIGN CHOICE: the spec does
not say what such a TRIG does; log entry 99). -/
def okDest (w : BitVec 64) : Bool :=
  let whr := iField w 10 4
  let all := iField w 9 1
  zero w 4 5 && (match iField w 14 2 with
    | 1 => whr ≤ 7
    | 2 => all == 0 || whr == 0
    | _ => whr == 0 && all == 0)

/-- TRIG. -/
def execTrig (p : ThreadId) (s : State) : Out :=
  issueOp p 0x68 (fun w => isT (fD w) && isG (fA w) && zero w 16 32 && okDest w)
    (fun w s =>
      let t := s.thread p
      startIssue p (.trig (BitVec.ofNat 16 (iField w 0 16)) (t.tr (fD w)) (t.gr (fA w))) s) s

end Sys2Proof.Machine
end

