-- ==== Sys2Proof/WellFormed.lean ====
section
/-! DEFINITION. Which commands the outside can put: the bounds the spec sets on an operand beyond its type. -/

namespace Sys2Proof

/-- A BAR0 offset of a 32-bit access is a multiple of 4 (R359). -/
def alignedOff (off : BitVec 20) : Bool := off.toNat % 4 == 0

/-- The receive ring exists for Q112 to Q119 only (R362). -/
def rxOk (q : RingId) (rx : Bool) : Bool := !rx || (48 ≤ q.val && q.val < 56)

/-- A ring whose entries the host produces: Q96 to Q119 (transmit) and Q124 to Q127 (R362). -/
def hostToDevice (q : RingId) (rx : Bool) : Bool :=
  !rx && ((32 ≤ q.val && q.val < 56) || 60 ≤ q.val)

/-- Entry size in octets (R362). -/
def entrySize (q : RingId) : Nat :=
  if q.val < 32 then 16 else if q.val < 48 then 32 else if q.val < 56 then 256 else if q.val < 60 then 16 else 32

/-- The speeds and widths the link trains at, and none of either while it is down (R356, R383). -/
def linkOk (speed : BitVec 3) (width : BitVec 4) : Bool :=
  if speed == 0 then width == 0 else speed.toNat ≤ 4 && ([1, 2, 4, 8] : List (BitVec 4)).contains width

/-- Whether a command is one the outside can put. -/
def Instr.wf : Instr → Bool
  | .multiwordReadLatch _ off => alignedOff off
  | .registerWrite _ off _ => alignedOff off
  | .partialWrite off _ be => alignedOff off && be != 0xF#4
  | .vectorMemoryWrite addr data => addr.toNat + data.length ≤ 0x800000
  | .bar2Write _ addr data => addr.toNat + data.length ≤ 0x1000000
  | .fillComplete _ data => data.length % 64 == 0 && data.length ≤ 0x800000
  | .histogramComplete _ counts => counts.length == 4096
  | .frameAdmission _ _ head => 0 < head.length && head.length ≤ 64
  | .ringBeacon _ cell => cell.length == 32
  | .ringHopstamp _ cell => cell.length == 32
  | .ringCandidate _ cell => cell.length == 32
  | .ringRequest _ cell => cell.length == 32
  | .ringPrepare _ cell => cell.length == 32
  | .ringAnswer _ cell => cell.length == 32
  | .ringConfirm _ cell => cell.length == 32
  | .ringAbandon _ cell => cell.length == 32
  | .ringTrigger _ cell => cell.length == 32
  | .prodDoorbell q _ => hostToDevice q false
  | .consDoorbell q rx _ => rxOk q rx && !hostToDevice q rx
  | .ringEnable q rx cfg => rxOk q rx && cfg.getLsbD 4
  | .ringDisable q rx cfg => rxOk q rx && !cfg.getLsbD 4
  | .ringFetch q x => hostToDevice q false && x.entry.length == entrySize q
  | .dmaReadError q => hostToDevice q false
  | .ringEntryWrite q x => rxOk q x.rx && !hostToDevice q x.rx
  | .writeback q rx => rxOk q rx
  | .pcieLinkTrained speed width => linkOk speed width
  | _ => true

end Sys2Proof
end

