-- ==== Sys2Proof/Machine/Handlebar.lean ====
section
/-! DEFINITION. Handlebar: rings, events, MSI-X, host resets, configuration space, BAR2 and the module flash (R356 to
R374, R381). -/

namespace Sys2Proof.Machine

/-! ### Rings in host memory (R362 to R368) -/

/-- Host address of an entry (R363). -/
def Ring.slotAddr (r : Ring) (size : Nat) (i : BitVec 16) : Nat := r.base.toNat + size * (i.toNat % 2 ^ r.log2.toNat)

/-- An entry that has its place in a device-to-host ring is written there. -/
def writeEntry (q : RingId) (rx : Bool) (bytes : Octets) (s : State) : State :=
  let r := s.ring q rx
  post (r.slotAddr bytes.length r.prod) bytes (s.setRing q rx { r with prod := r.prod + 1, wbDue := r.wbDue || r.wben })

/-- BADDB, BADCFG and DMAERR name the queue in bits [15:8] (R372). -/
def queueEvent (cause : Nat) (q : RingId) (s : State) : State := raiseNow 255 cause (64 + q.val) 0 s

/-- An invalid doorbell (R363). -/
def badDoorbell (q : RingId) (s : State) : State :=
  queueEvent 1 q { s with hb := { s.hb with badDb := s.hb.badDb + 1 } }

/-- PROD_DOORBELL (R363): PROD is RO on a device-to-host ring. -/
def execProdDoorbell (q : RingId) (n : BitVec 16) (s : State) : Out :=
  .next <| byHost s fun s => if !hostToDevice q false then s else
    let r := s.ring q false
    if r.en && (n - r.cons).toNat ≤ 2 ^ r.log2.toNat && (n - r.prod).toNat ≤ (n - r.cons).toNat then
      s.setRing q false { r with prod := n }
    else badDoorbell q s

/-- CONS_DOORBELL (R363): CONS is RO on a host-to-device ring. -/
def execConsDoorbell (q : RingId) (rx : Bool) (n : BitVec 16) (s : State) : Out :=
  .next <| byHost s fun s => if hostToDevice q rx || !rxOk q rx then s else
    let r := s.ring q rx
    if r.en && (n - r.cons).toNat ≤ r.held then s.setRing q rx { r with cons := n } else badDoorbell q s

/-- The entries fetched and not yet taken. -/
def Ring.inFlight (r : Ring) : Nat := (r.fetched - r.cons).toNat

/-- A ring with both indices at 0; entries already fetched are still delivered (R364). -/
def Ring.cleared (r : Ring) : Ring :=
  { r with prod := 0, cons := 0, fetched := 0, stale := r.stale + r.inFlight }

/-! ### Event records (R358, R370, R371) -/

/-- The 16 octets of an event record (R370). -/
def eventRecord (o : Occ) (drop : Bool) : Octets :=
  leOctets 16 (o.dt.toNat + o.src.val * 2 ^ 80 + o.cause.toNat * 2 ^ 88 + b1 drop * 2 ^ 120 + b1 o.coarse * 2 ^ 121)

/-- The event ring that a configuration names. -/
def evRing (cfg : BitVec 12) : RingId := ⟨56 + fieldOf cfg.toNat 8 2, by have : fieldOf cfg.toNat 8 2 < 4 := Nat.mod_lt _ (by decide); omega⟩

/-- A record appended to its ring, with DROP where one was dropped since the record before it; it must find its place in
the write buffer, which it leaves at once (R365, R366, R370; log entry 37). -/
def writeRecord (q : RingId) (o : Occ) (s : State) : State :=
  let r := s.ring q false
  if s.ringTakes q false 16 then
    (writeEntry q false (eventRecord o r.dropFlag) s).modRing q false fun r => { r with dropFlag := false }
  else (dropEntry q false s).modRing q false fun r => { r with dropFlag := true }

/-- The FLR record leaves once REC of EV_CFG_255 is 1 and its ring is enabled and has room (R358). -/
def flushFlr (s : State) : State :=
  match s.hb.flrHeld with
  | some (d, coarse) =>
    let cfg := s.evCfgNow 255
    let q := evRing cfg
    if cfg.getLsbD 10 && s.ringTakes q false 16 then
      writeRecord q ⟨255, causeWord 5 0 0, d, coarse⟩ { s with hb := { s.hb with flrHeld := none } }
    else s
  | none => s

/-! ### Enabling and disabling (R364) -/

/-- LOG2 and BASE are valid. -/
def Ring.cfgOk (r : Ring) : Bool := 4 ≤ r.log2.toNat && r.log2.toNat ≤ 15 && r.base.toNat % 4096 == 0

/-- RING_ENABLE (R364, R368). -/
def execRingEnable (q : RingId) (rx : Bool) (cfg : Word) (s : State) : Out :=
  .next <| byHost s fun s => if !rxOk q rx then s else
    let r := s.ring q rx
    if r.en then s.setRing q rx { r with wben := bit cfg 5 }
    else
      let r1 := { r with log2 := BitVec.ofNat 4 (fld cfg 0 4), wben := bit cfg 5, err := false }
      if r1.cfgOk then
        let own := if hostToDevice q rx then r.cons else r.prod
        flushFlr (s.setRing q rx { r1.cleared with en := true, wbDue := own != 0 && r1.wben })
      else queueEvent 3 q (s.setRing q rx r1)

/-- The write buffer writes an entry it has accepted: to its place in the ring, a port's being counted (R291, R365). -/
def writeTaken (e : OutEntry) (s : State) : State :=
  let s1 := { s with outbox := s.outbox.erase e }
  let s2 := if e.rx then s1.modPort (Fin.ofNat 8 (e.q.val - 48)) fun p => { p with cnt := { p.cnt with hostRx := p.cnt.hostRx + 1 } } else s1
  writeEntry e.q e.rx e.bytes s2

/-- The entries accepted for a ring are written: they are in flight when it is disabled (R364). -/
def drainRing (q : RingId) (rx : Bool) (s : State) : State :=
  (s.outbox.filter fun e => e.taken && e.q == q && e.rx == rx).foldl (fun s e => writeTaken e s) s

/-- RING_DISABLE (R364): an entry already fetched is still delivered, and one already in flight still written. LOG2 takes
no value while EN is 1. -/
def execRingDisable (q : RingId) (rx : Bool) (cfg : Word) (s : State) : Out :=
  .next <| byHost s fun s => if !rxOk q rx then s else
    (drainRing q rx s).modRing q rx fun r =>
      { r with en := false, wben := bit cfg 5, log2 := if r.en then r.log2 else BitVec.ofNat 4 (fld cfg 0 4) }

/-! ### Fetching, writing, writeback -/

/-- Host address of the next entry that a host-to-device ring fetches (R363). -/
def State.fetchAddr (s : State) (q : RingId) : BitVec 64 :=
  let r := s.ring q false
  BitVec.ofNat 64 (r.slotAddr (entrySize q) r.fetched)

/-- RING_FETCH (R362 to R364): host memory has returned an entry for a read of an address. Read from the address of the
next entry, it reaches its consumer, which has a buffer of four (R44); transmit entries wait in their ring while the port
is not UP (R291). A command entry has then reached Pacer, so CONS advances. -/
def execRingFetch (q : RingId) (x : HostRead) (s : State) : Out :=
  .next <|
    let r := s.ring q false
    let entry := x.entry
    if !s.pcieUp || !hostToDevice q false || !r.en || r.fetched == r.prod || x.addr != s.fetchAddr q ||
      entry.length != entrySize q then s
    else
      let s1 := s.setRing q false { r with fetched := r.fetched + 1 }
      if q.val < 48 then
        let p : ThreadId := Fin.ofNat 16 (q.val - 32)
        if s.clocked && (s.thread p).cmdIn.length < 4 then
          tookEntry q (s1.modThread p fun t => { t with cmdIn := t.cmdIn ++ [entry] })
        else s
      else if q.val < 56 then
        let c : PortId := Fin.ofNat 8 (q.val - 48)
        if (s.port c).st == 5 && (s.port c).msgIn.length < 4 then
          s1.modPort c fun p => { p with msgIn := p.msgIn ++ [entry] }
        else s
      else
        let v : EngineId := Fin.ofNat 4 (q.val - 60)
        if s.clocked && (s.engine v).feedIn.length < 4 then
          s1.modEngine v fun en => { en with feedIn := en.feedIn ++ [entry] }
        else s

/-- DMA_READ_ERROR (R368): of an entry, or of the vectors of a stream fill, which then ends without its copy. -/
def execDmaReadError (q : RingId) (s : State) : Out :=
  .next <|
    let r := s.ring q false
    let v : EngineId := Fin.ofNat 4 (q.val - 60)
    let entry := r.en && r.fetched != r.prod
    let fill := 60 ≤ q.val && (s.engine v).fill.isSome
    if !s.pcieUp || !hostToDevice q false || !(entry || fill) then s
    else
      let s1 := queueEvent 2 q (s.setRing q false { r with en := false, err := true })
      if entry then s1 else s1.modEngine v fun en => { en with fill := none }

/-- An entry not yet in the write buffer is accepted there, a capture record with DROP where one of its spoke was dropped
since the last one; or it is dropped at its ring (R74, R365, R366). -/
def takeEntry (e : OutEntry) (s : State) : State :=
  let room := s.ringTakes e.q e.rx e.bytes.length
  let flag := e.spoke.any fun i => (s.spoke i).ringDrop
  let s1 := match e.spoke with
    | some i => s.modSpoke i fun sp => { sp with ringDrop := !room }
    | none => s
  if room then
    let mark := if flag then (slice e.bytes 11 1).map (· ||| 0x10#8) else slice e.bytes 11 1
    { s1 with outbox := modFirst (· == e) (fun e => { e with taken := true, bytes := patch e.bytes 11 mark }) s1.outbox }
  else dropEntry e.q e.rx { s1 with outbox := s1.outbox.erase e }

/-- RING_ENTRY_WRITE (R74, R291, R365, R366): the oldest entry for the ring is accepted into the write buffer or dropped,
if it has not been yet; where the link takes it at once, one accepted is written to its ring, and where not,
the oldest entry not yet accepted is, and waits. On an event ring only the held FLR record waits. -/
def execRingEntryWrite (q : RingId) (x : RingWrite) (s : State) : Out :=
  let rx := x.rx
  let now := x.now
  .next <| if !s.pcieUp || hostToDevice q rx || !rxOk q rx then s else
    match s.outbox.find? fun e => e.q == q && e.rx == rx && (now || !e.taken) with
    | none => flushFlr s
    | some e =>
      let s1 := if e.taken then s else takeEntry e s
      if now then
        match s1.outbox.find? fun e => e.q == q && e.rx == rx && e.taken with
        | some e => writeTaken e s1
        | none => s1
      else s1

/-- A writeback, where one is due (R367). -/
def writeBack (q : RingId) (rx : Bool) (s : State) : State :=
  let r := s.ring q rx
  if r.en && r.wben && r.wbDue then
    let own := if hostToDevice q rx then r.cons else r.prod
    post r.wb.toNat (leOctets 4 (own.toNat + r.drops.toNat * 65536)) (s.setRing q rx { r with wbDue := false })
  else s

/-- WRITEBACK (R367). -/
def execWriteback (q : RingId) (rx : Bool) (s : State) : Out :=
  .next (if s.pcieUp && rxOk q rx then writeBack q rx s else s)

/-! ### MSI-X (R374) -/

/-- A message of a vector, or its pending bit where it or the function is masked; a hold-off follows a message. -/
def sendMsi (v : VecId) (s : State) : State :=
  let x := s.vec v
  if x.mask || s.hb.cfg.mask then s.setVec v { x with pba := true }
  else
    let hold := (s.hb.vecHold.get v).toNat
    post x.addr.toNat (leOctets 4 x.data.toNat)
      (s.setVec v { x with pba := false, trig := false, holdTo := if hold = 0 then none else some (s.clock + hold * ftUs) })

/-- A hold-off runs. -/
def State.held (s : State) (v : VecId) : Bool := (s.vec v).holdTo.any fun t => s.clock < t

/-- A vector is signalled. -/
def signal (v : VecId) (s : State) : State :=
  if s.held v then s.setVec v { s.vec v with trig := true } else sendMsi v s

/-- HOLDOFF_EXPIRY (R374). -/
def execHoldoffExpiry (v : VecId) (s : State) : Out :=
  .next <|
    let x := s.vec v
    if x.holdTo.isSome && !s.held v && s.pcieUp then
      let s1 := s.setVec v { x with holdTo := none, trig := false }
      if x.trig then sendMsi v s1 else s1
    else s

/-- A vector whose pending bit is set, once neither mask stands: sent, or combined into the message at the end of its
hold-off. -/
def sendPending (v : VecId) (s : State) : State :=
  let x := s.vec v
  if !x.pba || x.mask || s.hb.cfg.mask then s
  else if s.held v then s.setVec v { x with pba := false, trig := true }
  else sendMsi v s

/-- VECTOR_UNMASK (R374). -/
def execVectorUnmask (v : VecId) (s : State) : Out :=
  .next <| byHost s fun s => sendPending v (s.setVec v { s.vec v with mask := false })

/-! ### Occurrences (R371) -/

/-- The spoke whose event path has room again raises the OVERRUN it owes, with the DT of the latest drop (R47, R84). -/
def payOverrun (ch : Nat) (s : State) : State :=
  match s.evOwed.get (Fin.ofNat 88 ch) with
  | some d => raise (2 * ch + 1) 4 0 0 d { s with evOwed := s.evOwed.set (Fin.ofNat 88 ch).val none (Fin.ofNat 88 ch).isLt }
  | none => s

/-- EVENT_OCCURRENCE (R371): the occurrence at the head of its channel reaches Handlebar; status bit, then record, then
the writeback that covers it and the message. -/
def execEventOccurrence (e : EventId) (s : State) : Out :=
  .next <|
    match s.occs.find? fun o => evChannel o.src.val == evChannel e.val with
    | some o =>
      if o.src != e || !s.pcieUp then s
      else
        let cfg := s.evCfg e o.dt
        let q := evRing cfg
        let s1 := payOverrun (evChannel e.val) { s with
          occs := s.occs.erase o, hb := { s.hb with evStat := s.hb.evStat ||| (1#256 <<< e.val) } }
        let s2 := if cfg.getLsbD 10 then writeRecord q o (flushFlr s1) else s1
        if cfg.getLsbD 7 then signal (Fin.ofNat 128 (cfg.toNat % 128)) (writeBack q false s2) else s2
    | none => s

/-- EVENT_STATUS_CLEAR (R11, R371): `again` are the bits of the mask whose sources set them in the same cycle: the set
wins, and the bit reads 1. -/
def execEventStatusClear (n : Fin 8) (mask again : Word) (s : State) : Out :=
  .next <| byHost s fun s => { s with hb := { s.hb with
    evStat := (s.hb.evStat &&& ~~~(mask.setWidth 256 <<< (32 * n.val))) |||
      ((mask &&& again).setWidth 256 <<< (32 * n.val)) } }

/-! ### Resets of the host side (R358, R421) -/

/-- A write of EV_CFG_e (R369): it holds for occurrences whose DT is at or after its arrival. -/
def writeEvCfg (e : EventId) (x : BitVec 12) (s : State) : State :=
  flushFlr { s with hb := { s.hb with evCfg := (e, s.now, x) :: s.hb.evCfg } }

/-- A function level, hot or link-down reset (R358): entries accepted are in flight and still written (R364). -/
def hostReset (s : State) : State :=
    let s := (s.outbox.filter (·.taken)).foldl (fun s e => writeTaken e s) s
    let off (r : Ring) : Ring := { r.cleared with en := false }
    let resets : List (EventId × DT × BitVec 12) :=
      ((List.finRange 256).filter fun e => s.hb.evCfg.any fun x => x.1 == e).map fun e => (e, s.now, evCfgReset e.val)
    let w := causeWord 5 0 0
    { s with
      hb := { s.hb with
        rings := s.hb.rings.map off, rxRings := s.hb.rxRings.map off
        vecs := Vector.replicate 128 Vec.reset, vecHold := Vector.replicate 128 0, evCfg := resets ++ s.hb.evCfg
        evStat := s.hb.evStat ||| (1#256 <<< 255), flrHeld := some (s.now, s.outage), cfg := PciCfg.reset }
      pacer := { s.pacer with latch := s.pacer.latch.set 255 (s.latched 255 (s.now, w)) } }

/-- HOST_RESET (R358). -/
def execHostReset (s : State) : Out := .next (if s.pcieUp then hostReset s else s)

/-- PCIE_LINK_TRAINED (R356, R383). -/
def execPcieLinkTrained (speed : BitVec 3) (width : BitVec 4) (s : State) : Out :=
  .next <| if s.pcieUp then { s with hb := { s.hb with speed := speed, width := width, refclk := s.hb.refclk || speed != 0 } }
  else s

/-- PCIE_REFCLK_LOSS (R421): 10 us after the last reference edge Handlebar runs on the clock derived from the TCXO, and
the link stays down. -/
def execPcieRefclkLoss (s : State) : Out :=
  .next (if s.pcieUp then { s with hb := { s.hb with refclk := false, speed := 0, width := 0 } } else s)

/-! ### Configuration space (R356, R357, R374)

The standard header; the places of the capabilities are the model's (log entry 39): power management at 0x40, MSI-X at
0x48, PCI Express at 0x58, the device serial number at 0x100, and advanced error reporting at 0x110. -/

/-- A 32-bit word of configuration space. -/
def State.configWord (s : State) (o : Nat) : Word :=
  let c := s.hb.cfg
  if o = 0x00 then word (s.hb.fuse.vendor.toNat + 0x64 * 2 ^ 16)
  else if o = 0x04 then word (6 + 2 ^ 20)
  else if o = 0x08 then word (0xA0 + 0x118000 * 2 ^ 8)
  else if o = 0x2C then word (s.hb.subVendor.toNat + s.hb.subId.toNat * 2 ^ 16)
  else if o = 0x34 then 0x40
  else if o = 0x40 then word (0x01 + 0x48 * 2 ^ 8 + 3 * 2 ^ 16)
  else if o = 0x44 then word (if c.d3 then 3 else 0)
  else if o = 0x48 then word (0x11 + 0x58 * 2 ^ 8 + 127 * 2 ^ 16 + b1 c.mask * 2 ^ 30 + 2 ^ 31)
  else if o = 0x4C then 0x800
  else if o = 0x50 then 0x400
  else if o = 0x58 then word (0x10 + 2 * 2 ^ 16)
  else if o = 0x5C then word (2 + 2 ^ 28)
  else if o = 0x60 then word (c.payload.toNat * 2 ^ 5 + c.readReq.toNat * 2 ^ 12)
  else if o = 0x64 then word (4 + 8 * 2 ^ 4)
  else if o = 0x68 then word (s.hb.speed.toNat + s.hb.width.toNat * 2 ^ 4)
  else if o = 0x7C then word (2 + 2 ^ 16 + 2 ^ 17)
  else if o = 0x84 then 0x1E
  else if o = 0x100 then word (0x0003 + 2 ^ 16 + 0x110 * 2 ^ 20)
  else if o = 0x104 then word s.ident.toNat
  else if o = 0x108 then word (s.ident.toNat / 2 ^ 32)
  else if o = 0x110 then word (0x0001 + 2 * 2 ^ 16)
  else 0

/-- A 32-bit write to configuration space: the power state, where it is D0 or D3hot; the function mask of MSI-X, whose
end sends what is pending; the sizes of the link, where the endpoint supports them; and a function level reset. -/
def writeConfig (o : Nat) (v : Word) (s : State) : State :=
  let put (f : PciCfg → PciCfg) (s : State) : State := { s with hb := { s.hb with cfg := f s.hb.cfg } }
  if o = 0x44 then
    match fld v 0 2 with
    | 0 => put (fun c => { c with d3 := false }) s
    | 3 => put (fun c => { c with d3 := true }) s
    | _ => s
  else if o = 0x48 then
    let s1 := put (fun c => { c with mask := bit v 30 }) s
    if bit v 30 then s1 else forEach 128 (fun n s => sendPending n s) s1
  else if o = 0x60 then
    let s1 := put (fun c => { c with
      payload := if fld v 5 3 ≤ 2 then BitVec.ofNat 3 (fld v 5 3) else c.payload
      readReq := if fld v 12 3 ≤ 5 then BitVec.ofNat 3 (fld v 12 3) else c.readReq }) s
    if bit v 15 then hostReset s1 else s1
  else s

/-! ### BAR2 (R128, R130, R131, R361) -/

/-- A write to an instruction bank: discarded and counted into the active bank and while the shadow bank is locked; one
into the shadow bank spoils a CRC. -/
def writeBank (bank : Bool) (addr : Nat) (data : List (Option Byte)) (s : State) : State :=
  if data.isEmpty then s
  else if bank == s.pacer.bank || s.pacer.locked then
    { s with pacer := { s.pacer with wrDrop := s.pacer.wrDrop + 1 } }
  else { s with
    mem := wrEn memDflt s.mem addr data
    pacer := { s.pacer with crcDirty := s.pacer.crcDirty || s.pacer.crcBusy, crcValid := false } }

/-- A write to BAR2: vector memory, bank 0, bank 1, and nothing above. -/
def writeBar2 (addr : Nat) (data : List (Option Byte)) (s : State) : State :=
  let piece (lo hi : Nat) : List (Option Byte) := (data.take (hi - addr)).drop (lo - addr)
  let s1 := if addr < 0x800000 then writeVectors addr (piece 0 0x800000) s else s
  let s2 := writeBank false (max addr 0x800000) (piece 0x800000 0x820000) s1
  writeBank true (max addr 0x820000) (piece 0x820000 0x840000) s2

/-- BAR2_WRITE (R361). -/
def execBar2Write (bus : BusPort) (addr : BitVec 24) (data : List (Option Byte)) (s : State) : Out :=
  .next (if s.busUp bus then writeBar2 addr.toNat data s else s)

/-- What a read of BAR2 returns; unused offsets hold nothing. -/
def readBar2 (addr : Nat) (k : Nat) (s : State) : Octets := rdN memDflt s.mem addr k

/-! ### Module flash (R381) -/

/-- ADDR of HB_FLASH_ADDR. -/
def State.flashAddr (s : State) : Nat := fld (s.immAt 0x40) 0 19

/-- The state and cause of HB_FLASH_CMD. -/
def flashSay (st cause : Nat) (s : State) : State :=
  { s with hb := { s.hb with flashState := BitVec.ofNat 2 st, flashCause := BitVec.ofNat 3 cause } }

/-- A flash command: refused while one is in progress, and at an address its alignment does not allow. -/
def flashCmd (align : Nat) (f : State → State) (s : State) : State :=
  if s.hb.flashJob.isSome then flashSay 3 4 s
  else if s.flashAddr % align ≠ 0 then flashSay 3 1 s
  else f s

/-- FLASH_READ. -/
def execFlashRead (s : State) : Out :=
  .next <| byHost s fun s => flashCmd 256 (fun s =>
    flashSay 2 0 { s with hb := { s.hb with flashBuf := rdN flashDflt s.flash s.flashAddr 256 } }) s

/-- PROGRAM and ERASE start only while hold-up is confirmed. -/
def flashStart (page : Option Octets) (s : State) : State :=
  if s.dyn.confirmed then flashSay 1 0 { s with hb := { s.hb with flashJob := some ⟨s.flashAddr, page⟩ } }
  else flashSay 3 2 s

/-- FLASH_PROGRAM. -/
def execFlashProgram (s : State) : Out := .next (byHost s fun s => flashCmd 256 (fun s => flashStart (some s.hb.flashBuf) s) s)

/-- FLASH_ERASE. -/
def execFlashErase (s : State) : Out := .next (byHost s fun s => flashCmd 4096 (flashStart none) s)

/-- FLASH_OP_COMPLETE: `ok` says whether the page verified; one that did not holds anything. -/
def execFlashOpComplete (ok : Bool) (s : State) : Out :=
  .next <| match s.hb.flashJob with
  | none => s
  | some j =>
    let new : Octets := match j.page with
      | some p => p
      | none => List.replicate 4096 0xFF
    let got := if ok then new else (List.range new.length).map fun k => Config.flashFail s.clock (j.addr + k)
    flashSay (if ok then 2 else 3) (if ok then 0 else 3)
      { s with flash := wrN flashDflt s.flash j.addr got, hb := { s.hb with flashJob := none } }

end Sys2Proof.Machine
end

