-- ==== Sys2Proof/Machine/Dynamo.lean ====
section
/-! DEFINITION. Dynamo: device states, start-up with the board image, brown-outs, Dusk and temperature (R266, R267,
R316, R342, R377, R382, R383, R385 to R406). -/

namespace Sys2Proof.Machine

def State.modDyn (s : State) (f : Dynamo → Dynamo) : State := { s with dyn := f s.dyn }

/-! ### The fuses (R375, R377) -/

/-- HB_ID_LOT, HB_ID_DIE and HB_ID_SERIAL. -/
def Fuses.words (f : Fuses) : List Nat :=
  [f.lot.toNat + f.wafer.toNat * 2 ^ 24, f.x.toNat + f.y.toNat * 2 ^ 8, f.serial.toNat]

/-- FUSEBAD. -/
def State.fuseBad (s : State) : Bool := crc32 (s.hb.fuse.words.flatMap (leOctets 4)) != s.hb.fuse.crc

/-! ### The Bamord image (R266, R267, R382, R383) -/

/-- Records of 8 octets. -/
def records : Nat → Octets → List Octets
  | 0, _ => []
  | n + 1, b => if b.length < 8 then [] else b.take 8 :: records n (b.drop 8)

/-- Sections: tag and records. -/
def sections : Nat → Octets → List (Nat × List Octets)
  | 0, _ => []
  | n + 1, b => if b.length < 8 then [] else
    let k := leAt b 4 2
    (leAt b 0 4, records k (b.drop 8)) :: sections n (b.drop (8 + 8 * k))

/-- The sections of a valid image; none where MAGIC, LENGTH or CRC is wrong. -/
def image (flash : Mem) : Option (List (Nat × List Octets)) :=
  let head := rdN flashDflt flash 0 16
  let len := leAt head 4 4
  if leAt head 0 4 ≠ 0x44524D42 ∨ len < 16 ∨ 0x80000 < len then none
  else
    let body := rdN flashDflt flash 16 (len - 16)
    if crc32 (head.take 8 ++ body) = word (leAt head 8 4) then some (sections (body.length / 8) body) else none

/-- A value for the "board" fields of a register, in the shadow and in force. -/
def setBoard (k : Nat) (v : Word) (s : State) : State :=
  let m := word (regInfo k).board
  { (s.modIsland (Fin.ofNat 88 (regIsland k)) fun x => { x with active := regPutMask x.active k m v }) with
    shadow := regPutMask s.shadow k m v }

/-- A REGS record (R382): the "board" fields, FW_CTRL.BYPASS, PA_CFG.SIDE and DY_EL_LOCK; another register is skipped. -/
def applyReg (r : Octets) (s : State) : State :=
  let k := leAt r 0 4
  let v := word (leAt r 4 4)
  if k = 0x1008 then s.modDyn fun d => { d with autoDay := bit v 0 }
  else if k = 0x1028 then s.modDyn fun d => { d with elLock := (d.elLock &&& ~~~0xFFFFFFFF#64) ||| v.setWidth 64 }
  else if k = 0x102C then s.modDyn fun d => { d with elLock := (d.elLock &&& 0xFFFFFFFF#64) ||| (v.setWidth 64 <<< 32) }
  else if k = 0x38000 then { s with fw := { s.fw with bypass := bit v 0 } }
  else if k = 0x3E000 then setBoard k v { s with pair := { s.pair with side := bit v 1 } }
  else if 0x30000 ≤ k ∧ k < 0x34000 ∧ k % 0x800 = 0 then
    s.modPort (Fin.ofNat 8 ((k - 0x30000) / 0x800)) fun p => { p with day := BitVec.ofNat 2 (fld v 2 2) }
  else if (regInfo k).board ≠ 0 then setBoard k v s
  else { s with hb := { s.hb with imgSkip := s.hb.imgSkip + 1 } }

/-- A LANE record is valid (R267). -/
def laneOk (r : Octets) : Bool :=
  leAt r 0 1 ≤ 0x10 && 1 ≤ leAt r 1 1 && leAt r 1 1 ≤ 2 && leAt r 2 1 ≤ 15 && leAt r 3 1 ≤ 63 && leAt r 4 1 ≤ 31 &&
  leAt r 5 1 ≤ 15 && leAt r 6 1 ≤ 3 && leAt r 7 1 == 0 && leAt r 2 1 + leAt r 3 1 + leAt r 4 1 ≤ 63 &&
  leAt r 2 1 + leAt r 4 1 ≤ leAt r 3 1

/-- Its settings, laid out as CP_EQL10. -/
def laneWord (r : Octets) : Nat :=
  leAt r 2 1 + leAt r 3 1 * 2 ^ 4 + leAt r 4 1 * 2 ^ 10 + leAt r 5 1 * 2 ^ 15 + leAt r 6 1 * 2 ^ 19

/-- The register of a line or host lane at a rate. -/
def laneKey (lane rate : Nat) : Nat := 0x30000 + 0x800 * (lane % 8) + (if lane < 8 then 8 else 0x10) + 4 * (rate - 1)

/-- A LANE record. -/
def applyLane (r : Octets) (s : State) : State :=
  let lane := leAt r 0 1
  if !laneOk r then s
  else if lane < 0x10 then setBoard (laneKey lane (leAt r 1 1)) (word (laneWord r)) s
  else if leAt r 1 1 = 1 then { s with pair := { s.pair with eq := BitVec.ofNat 21 (laneWord r) } }
  else s

/-- A PCIE record. -/
def applyPcie (r : Octets) (s : State) : State :=
  { s with hb := { s.hb with subVendor := BitVec.ofNat 16 (leAt r 0 2), subId := BitVec.ofNat 16 (leAt r 2 2) } }

/-- A section. -/
def applySection (sec : Nat × List Octets) (s : State) : State :=
  if sec.1 = 0x53474552 then sec.2.foldl (fun s r => applyReg r s) s
  else if sec.1 = 0x454E414C then sec.2.foldl (fun s r => applyLane r s) s
  else if sec.1 = 0x45494350 then sec.2.foldl (fun s r => applyPcie r s) s
  else s

/-- EQDEFAULT for each lane and rate without a valid record (R267, R342). -/
def sayDefaults (secs : List (Nat × List Octets)) (s : State) : State :=
  let lanes := (secs.filter fun x => x.1 == 0x454E414C).flatMap (·.2)
  let has (lane rate : Nat) : Bool := lanes.any fun r => laneOk r && leAt r 0 1 == lane && leAt r 1 1 == rate
  let say (e : Nat) (ok : Bool) (s : State) : State := if ok then s else raise e 6 0 0 s.dt s
  let s1 := forEach 8 (fun c s =>
    let e := 186 + 3 * c.val
    say e (has (8 + c.val) 2) (say e (has (8 + c.val) 1) (say e (has c.val 2) (say e (has c.val 1) s)))) s
  say 241 (has 0x10 1) s1

/-- BOARD_IMAGE_LOAD (R392 step 5): PAIR at 1 puts the referee in STANDBY (R344). -/
def loadImage (s : State) : State :=
  let secs := image s.flash
  let l := secs.getD []
  let s1 := { s with hb := { s.hb with
    imageBad := secs.isNone, subVendor := s.hb.fuse.vendor, subId := 0x64, imgSkip := 0 } }
  let s2 := sayDefaults l (l.foldl (fun s x => applySection x s) s1)
  { s2 with pair := { s2.pair with token := if s2.paired then .standby else .none } }

/-! ### What outlives the die's rails -/

/-- The state with the die unpowered: what the flash, the fuses and the always-on island hold stays, and so do the
capacitance measured, the eFuse and the temperature. -/
def powerOff (s : State) : State :=
  let r := State.reset
  { r with
    pending := s.pending, clock := s.clock, flash := s.flash, occs := [], pacer := Pacer.reset
    truing := { r.truing with slotA := s.truing.slotA, slotB := s.truing.slotB, lastStore := s.clock }
    hb := { r.hb with fuse := s.hb.fuse, subVendor := s.hb.fuse.vendor, refclk := s.hb.refclk }
    dyn := { s.dyn with
      dayEntry := false, refused := 0, autoDay := false, confirmed := false, elFault := false, tWarn := false
      elLock := 0, hotFrom := none, tempSaid := false, cbusSaid := false, brownouts := 0, ridethrus := 0, vin := 0, vbus := 0, pin := 0, holdup := 0 } }

/-! ### Dusk (R397, R398) -/

/-- The module can enter Dusk. -/
def State.running (s : State) : Bool := s.alive || s.dyn.st == .startUp

/-- What Dusk does to the drive token: with PAIR at 1 the referee reports BRAKE (R398). -/
def duskToken (s : State) : State :=
  if !s.paired then s
  else if s.pair.token = .active then releaseToken .brake 5 s
  else { s with pair := { s.pair with token := .brake } }

/-- Dusk has been entered in this cycle of Dynamo control, in which a cause of a lower code still counts (R397). -/
def State.duskNow (s : State) : Bool := s.dyn.st == .dusk && s.dyn.duskFrom / tcxoCycle == s.clock / tcxoCycle

/-- DUSK_ENTRY (R397, R398), by which the module leaves Day and so its ring (R329). Of several causes in one cycle of
Dynamo control the lowest code stands. -/
def enterDusk (cause : Nat) (s : State) : State :=
  if s.running then
    let s := if s.inDay then leaveRing s else s
    let hub := if s.dyn.dayEntry then { s.hub with lock := .off, dayLock := false } else s.hub
    let s1 := { s with
      hub := hub
      dyn := { s.dyn with
        st := .dusk, dayEntry := false, kept := BitVec.ofNat 4 cause, duskFrom := s.clock, gatesShut := false
        railsDown := false, confirmed := false, enFell := false, lows := 0 } }
    raiseNow 248 3 cause 0 (duskToken s1)
  else if s.duskNow && cause < s.dyn.kept.toNat then
    let old := causeWord 3 s.dyn.kept.toNat 0
    let fix (w : Word) : Word := if w = old then causeWord 3 cause 0 else w
    { s with
      dyn := { s.dyn with kept := BitVec.ofNat 4 cause }
      occs := s.occs.map fun o => if o.src = 248 then { o with cause := fix o.cause } else o
      pacer := { s.pacer with
        latch := s.pacer.latch.set 248 ((s.pacer.latch.get 248).map fun x => (x.1, fix x.2)) } }
  else s

/-- DUSK_REQUEST (R397). -/
def execDuskRequest (s : State) : Out := .next (if s.alive || s.duskNow then enterDusk 2 s else s)

/-- EN_LOW (R397): EN low for 1 us as Dynamo control sees it. -/
def execEnLow (s : State) : Out := .next (if s.alive || s.duskNow then enterDusk 1 s else s)

/-- DUSK_GATE_CLOSE (R398): 100 us into Dusk every island, PCIe, SPI and the lanes stop. -/
def execDuskGateClose (s : State) : Out :=
  .next <| if s.dyn.st = .dusk ∧ !s.dyn.gatesShut ∧ s.dyn.duskFrom + 100 * ftUs ≤ s.clock then
    let s1 := closeGates { s with hub := { s.hub with inDay := false } }
    { s1 with
      hub := { s1.hub with lock := .off }
      ports := Vector.replicate 8 Port.reset
      pair := { s1.pair with lane := false, block := false }
      stoker := { s1.stoker with cwOk := false, ccwOk := false }
      hb := { s1.hb with speed := 0, width := 0, spi := .idle }
      dyn := { s1.dyn with gatesShut := true } }
  else s

/-- A page program is in progress, of Truing or of HB_FLASH_CMD. -/
def State.programming (s : State) : Bool := s.pageBusy || s.hb.flashJob.any fun j => j.page.isSome

/-- An erase that the rails cut short leaves anything in its sector. -/
def cutErase (s : State) : State :=
  match s.hb.flashJob with
  | some j =>
    let rest : Octets := (List.range 4096).map fun k => Config.flashFail s.clock (j.addr + k)
    { s with flash := wrN flashDflt s.flash j.addr rest }
  | none => s

/-- The last rail that is up goes down (R393): with the flash's an erase is cut short, and with the first of all the die
is unpowered, the converter stops and the eFuse opens. -/
def railDown (s : State) : State :=
  if s.dyn.rails ≤ 1 then
    (powerOff s).modDyn fun d => { d with
      railsDown := true, rails := 0, soft := false, softDone := false, eFuse := .cut }
  else
    let s1 := if s.dyn.rails = 5 then { cutErase s with hb := { s.hb with flashJob := none } } else s
    s1.modDyn fun d => { d with rails := d.rails - 1 }

/-- DUSK_RAILS_DOWN (R223, R393, R398): the next rail goes down, in the reverse order of coming up; a page program in
progress ends first. -/
def execDuskRailsDown (s : State) : Out :=
  .next (if s.dyn.st = .dusk ∧ s.dyn.gatesShut ∧ !s.dyn.railsDown ∧ !s.programming then railDown s else s)

/-- NIGHT_ENTRY (R399). -/
def execNightEntry (s : State) : Out :=
  .next <| if s.dyn.st = .dusk ∧ s.dyn.railsDown then s.modDyn fun d => { d with st := .night, highs := 0 } else s

/-! ### Night and start-up (R390 to R393) -/

/-- VIN_APPLIED (R390, R397): Night with cause POWERON; nothing was powered before. -/
def execVinApplied (s : State) : Out :=
  .next <| if s.dyn.st = .off ∨ s.dyn.st = .night then
    (powerOff s).modDyn fun d => { d with st := .night, eFuse := .cut, kept := 0, highs := 0, lows := 0, enFell := false }
  else s

/-- After this cause of Dusk EN must first have been low: EN, DUSKREQ, THERM and OCP (R391). -/
def needsEnLow (cause : BitVec 4) : Bool := cause == 1 || cause == 2 || cause == 5 || cause == 7

/-- EN_SAMPLE (R391, R397): one sample of the always-on island; what the straps are tied to comes with it (R415; DESIGN
CHOICE, no row carrying it: log entry 42). -/
def execEnSample (en : Bool) (pins : PinSample) (s : State) : Out :=
  .next <| if s.dyn.st = .off then s else
    let d := s.dyn
    let d1 := { d with
      enLevel := en, vinOk := pins.vinOk, straps := pins.straps, highs := if en then d.highs + 1 else 0
      lows := if en then 0 else d.lows + 1
      enFell := d.enFell || (!en && 4 ≤ d.lows + 1) }
    let s1 := { s with dyn := d1 }
    if d.st = .night ∧ 4 ≤ d1.highs ∧ pins.vinOk ∧ (!needsEnLow d.kept ∨ d1.enFell) then
      s1.modDyn fun d => { d with
        st := .startUp, soft := false, softDone := false, rails := 0, imageDone := false, lows := 0, brown := false }
    else if (d.st = .startUp ∨ s.duskNow) ∧ 2 ≤ d1.lows then enterDusk 1 s1
    else s1

/-- START_UP (R392): the eFuse starts to charge VBUS. -/
def execStartUp (s : State) : Out :=
  .next <| if s.dyn.st = .startUp ∧ !s.dyn.soft then s.modDyn fun d => { d with soft := true, softFrom := s.clock, eFuse := .soft } else s

/-- The soft start runs. -/
def State.softStarts (s : State) : Bool := s.dyn.st == .startUp && s.dyn.soft && !s.dyn.softDone

/-- The module runs from VBUS: in Dawn and Day, and in start-up once the soft start has ended. -/
def State.onBus (s : State) : Bool := s.alive || (s.dyn.st == .startUp && s.dyn.softDone)

/-- SOFT_START_END (R386, R392, R396): VBUS is within 1 V of VIN and its capacitance is measured; in start-up the first
rail is enabled, and after a ride-through the module has been running on. -/
def execSoftStartEnd (cbus : BitVec 10) (s : State) : Out :=
  .next <| if s.softStarts then
    s.modDyn fun d => { d with softDone := true, cbus := cbus, eFuse := .conducts, rails := 0, railFrom := s.clock }
  else if s.onBus && s.dyn.eFuse == .soft then
    let s1 := s.modDyn fun d => { d with cbus := cbus, eFuse := .conducts }
    if s.alive && cbus.toNat < 100 then raiseNow 249 4 0 0 s1 else s1
  else s

/-- SOFT_START_TIMEOUT (R392). -/
def execSoftStartTimeout (s : State) : Out :=
  .next <| if (s.softStarts || (s.duskNow && s.dyn.soft && !s.dyn.softDone)) && s.dyn.softFrom + 60 * ftMs ≤ s.clock then
    enterDusk 8 s else s

/-- A rail is on its way up. -/
def State.railRises (s : State) : Bool := s.dyn.st == .startUp && s.dyn.softDone && s.dyn.rails < 7

/-- The die leaves reset: every field at its Reset value, the straps read, then the board image and the trims (R321, R392
steps 4 to 6, R415). A capacitance below 100 uF is raised now that events can be (R386). -/
def releaseReset (s : State) : State :=
  let x := s.dyn.straps
  let s0 := (powerOff s).modStoker fun k => { k with pos := x.setWidth 4, capt := x.getLsbD 4 }
  let s1 := loadTrims (loadImage s0)
  let s2 := if s1.dyn.cbus.toNat < 100 then raise 249 4 0 0 s1.dt s1 else s1
  s2.modDyn fun d => { d with imageDone := true }

/-- RAIL_UP (R393): the next rail is in its window. The TCXO runs from the first one on; with the last, the die leaves
reset. -/
def execRailUp (s : State) : Out :=
  .next <| if s.railRises then
    let s1 := s.modDyn fun d => { d with
      rails := d.rails + 1, railFrom := s.clock, tcxoFrom := if d.rails = 0 then s.clock else d.tcxoFrom }
    if s1.dyn.rails = 7 then releaseReset s1 else s1
  else s

/-- RAIL_TIMEOUT (R392). -/
def execRailTimeout (s : State) : Out :=
  .next <| if (s.railRises || (s.duskNow && s.dyn.softDone && s.dyn.rails < 7)) && s.dyn.railFrom + ftMs ≤ s.clock then
    enterDusk 6 s else s

/-! ### Day entry (R394) -/

/-- Day is refused. -/
def refuseDay (reason : Nat) (s : State) : State :=
  raiseNow 248 4 reason 0 (s.modDyn fun d => { d with refused := BitVec.ofNat 2 reason })

/-- Day entry begins, or is refused. -/
def requestDay (s : State) : State :=
  if s.dyn.st ≠ .dawn ∨ s.dyn.dayEntry then s
  else if s.fuseBad then refuseDay 1 s
  else if 460 < s.temp then refuseDay 2 s
  else beginLock { s with hub := { s.hub with dayLock := true }, dyn := { s.dyn with dayEntry := true } }

/-- DAY_REQUEST. -/
def execDayRequest (s : State) : Out := .next (requestDay s)

/-- DAWN_ENTRY (R392 step 7): image and trims are done and the TCXO has run 5 ms. -/
def execDawnEntry (s : State) : Out :=
  .next <| if s.dyn.st = .startUp ∧ s.dyn.imageDone ∧ s.dyn.tcxoFrom + 5 * ftMs ≤ s.clock then
    let s1 := raise 248 1 0 0 s.dt { s with
      dyn := { s.dyn with st := .dawn, lastOff := s.dyn.kept }, pair := { s.pair with lastKick := s.clock } }
    if s1.dyn.autoDay then requestDay s1 else s1
  else s

/-! ### Supply (R389, R395, R396) -/

/-- A brown-out or an overvoltage begins. -/
def beginBrown (ov : Bool) (s : State) : State :=
  if s.dyn.brown && s.dyn.brownOv == ov then s
  else raiseNow 249 (if ov then 2 else 1) 0 0 (s.modDyn fun d => { d with
    brown := true, brownOv := ov, eFuse := if ov then .cut else .blocks, brownFrom := if d.brown then d.brownFrom else s.clock
    confirmed := false, brownouts := d.brownouts + 1 })

/-- BROWNOUT (R392, R396): during the soft start it is UVLO. -/
def execBrownout (s : State) : Out :=
  .next (if s.softStarts then enterDusk 9 s else if s.onBus then beginBrown false s else s)

/-- OVERVOLTAGE (R396). -/
def execOvervoltage (s : State) : Out := .next (if s.onBus then beginBrown true s else s)

/-- RIDETHRU (R396): VIN is back within 1 ms. -/
def execRidethru (s : State) : Out :=
  .next <| if s.dyn.brown ∧ s.onBus ∧ s.clock ≤ s.dyn.brownFrom + ftMs then
    raiseNow 249 3 0 0 (s.modDyn fun d => { d with
      brown := false, eFuse := .soft, ridethrus := d.ridethrus + 1 })
  else s

/-- Dusk with the cause of the brown-out or overvoltage. -/
def brownDusk (s : State) : State := enterDusk (if s.dyn.brownOv then 4 else 3) s

/-- BROWNOUT_TIMEOUT (R396). -/
def execBrownoutTimeout (s : State) : Out :=
  .next (if s.dyn.brown ∧ (s.onBus || s.duskNow) ∧ s.dyn.brownFrom + ftMs ≤ s.clock then brownDusk s else s)

/-- VBUS_LOW (R396). -/
def execVbusLow (s : State) : Out := .next (if s.dyn.brown ∧ (s.onBus || s.duskNow) then brownDusk s else s)

/-- OVERCURRENT (R389): the eFuse opens. -/
def execOvercurrent (s : State) : Out :=
  .next <| if s.alive || ((s.dyn.st == .startUp || s.duskNow) && s.dyn.soft) then enterDusk 7 (s.modDyn fun d => { d with eFuse := .cut }) else s

/-- The capacitance in uF that the module presents at VIN (R387), its 1 uF included. -/
def State.vinLoad (s : State) : Nat := 1 + if s.dyn.eFuse == .conducts then s.dyn.cbus.toNat else 0

/-- RAIL_FAULT (R397). -/
def execRailFault (s : State) : Out :=
  .next (if s.alive || ((s.dyn.st == .startUp || s.duskNow) && s.dyn.rails != 0) then enterDusk 6 s else s)

/-- Dynamo control runs. -/
def State.dynRuns (s : State) : Bool := s.alive || (s.dyn.st == .dusk && !s.dyn.railsDown)

/-- C x (VBUS^2 - 28^2) in uF times 10^-4 V^2, and 0 below 28 V. -/
def busCharge (cbus vbus : Nat) : Nat := cbus * (vbus * vbus - 2800 * 2800)

/-- The projection in us, held at 0xFFFF (R395): half the charge over P_in. -/
def holdupUs (cbus vbus pin : Nat) : Nat :=
  let e := busCharge cbus vbus
  if pin = 0 then (if e = 0 then 0 else 0xFFFF) else min 0xFFFF (freeDiv e (20 * pin)).toNat

/-- HOLDUP_REFRESH (R395): VIN and VBUS in 10 mV, and P_in in mW. -/
def execHoldupRefresh (vin vbus pin : BitVec 16) (s : State) : Out :=
  .next <| if s.dynRuns then
    let c := s.dyn.cbus.toNat
    s.modDyn fun d => { d with
      cbusSaid := true, vin := vin, vbus := vbus, pin := pin, holdup := BitVec.ofNat 16 (holdupUs c vbus.toNat pin.toNat)
      confirmed := s.alive && !d.brown && 100 ≤ c && 2000 * 20 * pin.toNat ≤ busCharge c vbus.toNat && busCharge c vbus.toNat != 0 }
  else s

/-! ### Temperature and VEL (R400, R402) -/

/-- TEMP_MEASURE (R400): above 115 and below 110 degrees the warning is set and cleared; Truing judges by it (R205). The
sensor runs once its rail is up. -/
def execTempMeasure (temp : BitVec 12) (s : State) : Out :=
  .next <|
    if s.dynRuns then
      let t := signed 12 temp.toNat
      let s1 := s.modDyn fun d => { d with
        temp := temp, tempSaid := true, hotFrom := if 500 < t then some (d.hotFrom.getD s.clock) else none }
      let s2 := if 460 < t ∧ !s.dyn.tWarn then raiseNow 251 1 0 0 (s1.modDyn fun d => { d with tWarn := true })
        else if t < 440 ∧ s.dyn.tWarn then raiseNow 251 2 0 0 (s1.modDyn fun d => { d with tWarn := false })
        else s1
      if s2.clocked then settleAll s2 else s2
    else if s.dyn.st = .startUp ∧ s.dyn.rails ≠ 0 then s.modDyn fun d => { d with temp := temp }
    else s

/-- OVERTEMP (R397): above 125 degrees for 1 ms. -/
def execOvertemp (s : State) : Out :=
  .next (if (s.alive || s.duskNow) && s.dyn.hotFrom.any (fun t => t + ftMs ≤ s.clock) then enterDusk 5 s else s)

/-- VEL_FAULT (R402): it stays until Night. -/
def execVelFault (s : State) : Out :=
  .next <| if s.dynRuns && !s.dyn.elFault then
    raiseNow 250 1 0 0 (s.modDyn fun d => { d with elFault := true })
  else s

end Sys2Proof.Machine
end

