-- ==== Sys2Proof/Machine/Read.lean ====
section
/-! DEFINITION. What a 32-bit read of BAR0 returns, block by block (R9, R35, R52 to R54, R359, R360), and the management
of the holding latches. -/

namespace Sys2Proof.Machine

/-- A word put together from fields: value, lowest bit, length. -/
def pack (l : List (Nat × Nat × Nat)) : Word := word (l.foldl (fun a x => a + at' x.1 x.2.1 x.2.2) 0)

/-- A signed number held at plus or minus 2^31 - 1. -/
def heldWord (i : Int) : Word := wordI (clampI (2 ^ 31 - 1) i)

/-- The word at a position of a list of counters. -/
def counter (l : List Word) (o : Nat) : Word := if o % 4 = 0 then l.getD (o / 4) 0 else 0

/-- DT as the gated islands hold it: at the closing of the gates while they are closed (R360). -/
def State.heldDt (s : State) : DT := if s.outage then s.hub.closeDt else s.dt

/-! ### Handlebar (0x00000) -/

/-- HB_STAT. -/
def State.hbStat (s : State) : Word :=
  pack [(b1 s.fuseBad, 0, 1), (b1 s.hb.imageBad, 1, 1), (s.hb.speed.toNat, 2, 3), (s.hb.width.toNat, 5, 4),
    (s.hb.imgSkip.toNat, 16, 8)]

/-- An MSI-X table word (R374). -/
def Vec.word' (x : Vec) (k : Nat) : Word :=
  match k with
  | 0 => word x.addr.toNat
  | 1 => word (x.addr.toNat / 2 ^ 32)
  | 2 => x.data
  | _ => word (b1 x.mask)

/-- The pending bit array, 32 vectors a word. -/
def State.pba (s : State) (n : Nat) : Word :=
  word (((List.finRange 128).filter fun v => v.val / 32 == n && (s.vec v).pba).map (fun v => 2 ^ (v.val % 32))).sum

def readHandlebar (o : Nat) (s : State) : Word :=
  let f := s.hb.fuse
  if o = 0x000 then pack [(f.lot.toNat, 0, 24), (f.wafer.toNat, 24, 8)]
  else if o = 0x004 then pack [(f.x.toNat, 0, 8), (f.y.toNat, 8, 8)]
  else if o = 0x008 then f.serial
  else if o = 0x00C then f.crc
  else if o = 0x010 then word s.ident.toNat
  else if o = 0x014 then word (s.ident.toNat / 2 ^ 32)
  else if o = 0x018 then pack [(f.vendor.toNat, 0, 16), (0x64, 16, 16)]
  else if o = 0x01C then 0xA0
  else if o = 0x020 then s.hbStat
  else if o = 0x044 then pack [(s.hb.flashState.toNat, 2, 2), (s.hb.flashCause.toNat, 4, 3)]
  else if 0x100 ≤ o ∧ o < 0x200 then word (leAt s.hb.flashBuf (o - 0x100) 4)
  else if o = 0x214 then s.commitStatus
  else if o = 0x218 then s.commit.gen
  else if 0x21C ≤ o ∧ o < 0x228 then dtWord s.commit.dt ((o - 0x21C) / 4)
  else if o = 0x300 then pack [(s.hb.partialCnt.toNat, 0, 16), (s.hb.badDb.toNat, 16, 16)]
  else if 0x400 ≤ o ∧ o < 0x410 then s.pba ((o - 0x400) / 4)
  else if 0x800 ≤ o ∧ o < 0x1000 then (s.vec (Fin.ofNat 128 ((o - 0x800) / 16))).word' (o % 16 / 4)
  else 0

/-! ### Dynamo (0x01000) -/

/-- DY_STAT. -/
def State.dyStat (s : State) : Word :=
  let d := s.dyn
  let st := match d.st with
    | .dawn => 1
    | .day => 2
    | .dusk => 3
    | _ => 0
  pack [(st, 0, 2), (b1 d.confirmed, 2, 1), (b1 d.brown, 3, 1), (b1 d.elFault, 4, 1), (b1 d.tWarn, 5, 1),
    (b1 d.dayEntry, 6, 1)]

/-- DY_CNT. -/
def State.dyCnt (s : State) : Word := pack [(s.dyn.brownouts.toNat, 0, 16), (s.dyn.ridethrus.toNat, 16, 16)]

/-- DY_TEMP and DY_CBUS: 0 at Dawn entry, until they are first reported (R12). -/
def State.dyTemp (s : State) : Word := if s.dyn.tempSaid then word s.dyn.temp.toNat else 0
def State.dyCbus (s : State) : Word := if s.dyn.cbusSaid then word s.dyn.cbus.toNat else 0

def readDynamo (o : Nat) (s : State) : Word :=
  let d := s.dyn
  if o = 0x00 then s.dyStat
  else if o = 0x04 then pack [(d.refused.toNat, 2, 2)]
  else if o = 0x08 then word (b1 d.autoDay)
  else if o = 0x0C then word d.lastOff.toNat
  else if o = 0x10 then word d.vin.toNat
  else if o = 0x14 then word d.vbus.toNat
  else if o = 0x18 then word d.pin.toNat
  else if o = 0x1C then word d.holdup.toNat
  else if o = 0x20 then s.dyTemp
  else if o = 0x24 then s.dyCbus
  else if o = 0x28 then word d.elLock.toNat
  else if o = 0x2C then word (d.elLock.toNat / 2 ^ 32)
  else if o = 0x30 then s.dyCnt
  else 0

/-! ### Hub (0x02000) and Noon (0x03000) -/

/-- HU_STAT. -/
def State.huStat (s : State) : Word :=
  let st := match s.hub.lock with
    | .off | .locked => 0
    | .settle | .search => 1
    | .lockWait | .agreed => 2
    | .backoff => 3
  pack [(st, 0, 2), (s.hub.band.toNat, 2, 5), (s.hub.sel.toNat, 7, 4), (b1 s.hub.hold, 11, 1)]

/-- HU_DCO_WORD. -/
def State.dcoWord (s : State) : Word := word ((BitVec.ofInt 26 s.hub.w).toNat)

/-- HU_CNT. -/
def State.huCnt (s : State) : Word :=
  pack [(s.hub.losses.toNat, 0, 12), (s.hub.relocks.toNat, 12, 10), (s.hub.ceiling.toNat, 22, 10)]

def readHub (o : Nat) (s : State) : Word :=
  if o = 0x00 then s.huStat else if o = 0x0C then s.dcoWord else if o = 0x14 then s.huCnt else 0

/-- NN_STAT. -/
def State.nnStat (s : State) : Word :=
  pack [(s.noon.state.toNat, 0, 2), (s.noon.src.toNat, 2, 4), (b1 s.noon.epoch, 6, 1), (s.announcedQual, 7, 3),
    (b1 s.noon.stepWait, 10, 1), (b1 s.outage, 11, 1)]

/-- NN_ERR and NN_SLEW. -/
def State.nnErr (s : State) : Word := heldWord s.noon.err
def State.nnSlew (s : State) : Word := wordI s.noon.slew

def readNoon (o : Nat) (s : State) : Word :=
  if o = 0x00 then s.nnStat
  else if 0x04 ≤ o ∧ o < 0x10 then dtWord s.count ((o - 0x04) / 4)
  else if o = 0x30 then s.nnErr
  else if o = 0x34 then s.nnSlew
  else if o = 0x58 then pack [(s.noon.stepState.toNat, 2, 2), (s.noon.stepCause.toNat, 4, 4)]
  else if 0x70 ≤ o ∧ o < 0x7C then dtWord s.noon.ppsDt ((o - 0x70) / 4)
  else 0

/-! ### Truing (0x04000) -/

/-- TRUE bits of `n` items from `first` on. -/
def State.trueBits (s : State) (first n : Nat) : Word :=
  word ((List.range n).filter (fun k => s.isTrue (Fin.ofNat 68 (first + k))) |>.map (2 ^ ·) |>.sum)

/-- TU_STORE_CTRL. -/
def State.tuStore (s : State) : Word :=
  pack [(s.truing.storeState.toNat, 1, 2), (b1 s.truing.newest, 3, 1), (b1 s.truing.noSlot, 4, 1)]

/-- TU_SP_STAT and TU_PI_STAT. -/
def State.itemStat (s : State) (it : ItemId) : Word :=
  let x := s.item it
  let sp := it.val < 64
  let r := s.req (Fin.ofNat 64 it.val)
  pack [(b1 (x.cause == 0), 0, 1), (b1 (sp && r.burst.isSome), 1, 1), (x.cause.toNat, 8, 8),
    (if sp then r.outcome.toNat else 0, 16, 8)]

/-- TU_SP_CNT and TU_PI_CNT. -/
def State.itemCnt (s : State) (it : ItemId) : Word :=
  pack [((s.item it).accept.toNat, 0, 16), ((s.item it).reject.toNat, 16, 16)]

def readTruing (o : Nat) (s : State) : Word :=
  if o = 0x10 then s.tuStore
  else if o = 0x14 then s.truing.gen
  else if o = 0x18 then pack [(s.truing.saved.toNat, 0, 16), (s.truing.abandonedCnt.toNat, 16, 16)]
  else if o = 0x20 then s.trueBits 0 32
  else if o = 0x24 then s.trueBits 32 32
  else if o = 0x28 then s.trueBits 64 4
  else if 0x400 ≤ o ∧ o < 0x800 then
    let i := (o - 0x400) / 16
    if o % 16 = 4 then pack [((s.req (Fin.ofNat 64 i)).st.toNat, 22, 3)]
    else if o % 16 = 8 then s.itemStat (Fin.ofNat 68 i)
    else if o % 16 = 12 then s.itemCnt (Fin.ofNat 68 i)
    else 0
  else if 0x800 ≤ o ∧ o < 0x840 then
    let i := 64 + (o - 0x800) / 16
    if o % 16 = 0 then s.itemStat (Fin.ofNat 68 i) else if o % 16 = 4 then s.itemCnt (Fin.ofNat 68 i) else 0
  else 0

/-! ### Pacer (0x08000) -/

/-- STATE of R125. -/
def TState.code : TState → Nat
  | .stopped => 0
  | .run => 1
  | .hold => 2
  | .wait => 3
  | .halted => 4
  | .faulted => 5

/-- ON, EVENT and DLINE of PC_TH_STATE. -/
def WaitOn.codes : WaitOn → Nat × Nat × Bool
  | .none => (0, 0, false)
  | .time _ => (1, 0, false)
  | .event e dl _ => (2, e.val, dl.isSome)
  | .recv dl _ _ => (3, 0, dl.isSome)
  | .queue _ _ dl => (4, 0, dl.isSome)
  | .take _ _ => (5, 0, false)
  | .commit _ _ => (6, 0, false)
  | .issue _ => (7, 0, false)

/-- PC_TH_STATE. -/
def Thread.stateWord (t : Thread) : Word :=
  let w := t.waitOn.codes
  pack [(t.state.code, 0, 3), (w.1, 3, 3), (w.2.1, 6, 8), (b1 w.2.2, 14, 1)]

/-- PC_IP. -/
def State.ipWord (s : State) (p : ThreadId) : Word := pack [((s.thread p).ip.toNat, 0, 14), (b1 s.pacer.bank, 14, 1)]

/-- PC_FLAGS. -/
def Thread.flagWord (t : Thread) : Word :=
  pack [(b1 t.z, 0, 1), (b1 t.n, 1, 1), (b1 t.c, 2, 1), (b1 t.v, 3, 1), (b1 t.f, 4, 1), (t.stack.length, 5, 3)]

/-- PC_STACKk_LO and _HI. -/
def Thread.stackWord (t : Thread) (k : Nat) (hi : Bool) : Word :=
  match t.stack[k]? with
  | some (.call a) => if hi then 0 else pack [(a.toNat, 0, 14), (1, 15, 1)]
  | some (.loop a c) => if hi then c else pack [(a.toNat, 0, 14), (1, 14, 1), (1, 15, 1)]
  | none => 0

/-- PC_MBOX. -/
def Thread.mboxWord (t : Thread) : Word := pack [(t.mbox.length, 0, 4), (t.mboxDrops.toNat, 16, 16)]

def readThread (o : Nat) (p : ThreadId) (s : State) : Word :=
  let t := s.thread p
  if o = 0x00 then t.stateWord
  else if o = 0x18 then pack [(t.cmdState.toNat, 2, 2), (t.cmdCause.toNat, 4, 2), (b1 t.act.isSome, 6, 1)]
  else if o = 0x1C then pack [(t.faultCause.toNat, 0, 4), (t.faultIp.toNat, 4, 14)]
  else if 0x20 ≤ o ∧ o < 0x2C then dtWord t.faultDt ((o - 0x20) / 4)
  else if o = 0x2C then t.instr
  else if o = 0x30 then t.late
  else if o = 0x34 then t.cmds
  else if o = 0x40 then s.ipWord p
  else if o = 0x44 then t.flagWord
  else if 0x48 ≤ o ∧ o < 0x68 then t.stackWord ((o - 0x48) / 8) (o % 8 == 4)
  else if o = 0x68 then t.mboxWord
  else if 0x80 ≤ o ∧ o < 0xA0 then t.gr ((o - 0x80) / 4)
  else if 0xA0 ≤ o ∧ o < 0x100 then dtWord (t.tr ((o - 0xA0) / 12)) ((o - 0xA0) % 12 / 4)
  else 0

def readPacer (o : Nat) (s : State) : Word :=
  let pc := s.pacer
  if o < 0x1000 then readThread (o % 0x100) (Fin.ofNat 16 (o / 0x100)) s
  else if o = 0x1004 then pack [(b1 pc.bank, 0, 1), (b1 pc.locked, 1, 1), (pc.wrDrop.toNat, 16, 16)]
  else if o = 0x1008 then pack [(b1 pc.crcBusy, 1, 1), (b1 pc.crcValid, 2, 1)]
  else if o = 0x100C then pc.crc
  else 0

/-! ### Crank (0x0C000) -/

/-- CK_AX_STAT. -/
def Axis.statWord (x : Axis) : Word :=
  pack [(x.segs.length, 0, 5), (x.tgts.length, 5, 9), (b1 x.dry, 14, 1), (x.cause.toNat, 15, 4),
    (match x.inForce with | some g => g.cls.code | none => 0, 19, 2)]

/-- The position in whole units, rounded toward minus infinity. -/
def Axis.posFloor (x : Axis) (d : DT) : Int := let p := x.posAt d; p.1 / (p.2 : Int)

def readCrank (o : Nat) (s : State) : Word :=
  if o < 0x800 then
    let x := s.axis (Fin.ofNat 8 (o / 0x100))
    let r := o % 0x100
    if r = 0x10 then x.statWord
    else if r = 0x14 then wordI (x.posFloor s.heldDt)
    else if r = 0x18 then word (BitVec.ofInt 16 (x.posFloor s.heldDt / 2 ^ 32)).toNat
    else if 0x20 ≤ r ∧ r < 0x2C then dtWord x.lastDt ((r - 0x20) / 4)
    else if 0x40 ≤ r ∧ r < 0x58 then
      counter [x.accepted, x.refused, x.solved, x.noTime, x.jumps, x.revised] (r - 0x40)
    else 0
  else if o = 0x830 then pack [(s.crank.segwState.toNat, 4, 2), (s.crank.segwCause.toNat, 6, 4)]
  else if o = 0x834 then s.crank.unmapped
  else 0

/-! ### Chainring (0x10000) -/

/-- CR_STAT. -/
def Engine.statWord (en : Engine) : Word :=
  let st := match en.state with
    | .stopped => 0
    | .play => 1
    | .idle => 2
  let next := match en.fixed with
    | some (.seg n _ _) => some n
    | some (.idle n _) => some n
    | _ => none
  pack [(st, 0, 2), (en.seg.toNat, 2, 10), (((next.or (en.want.map (·.seg))).map (·.toNat)).getD 0, 12, 10), (b1 next.isSome, 22, 1),
    (b1 en.jump.isSome, 23, 1), (en.cause.toNat, 24, 4)]

/-- CR_POS, CR_PLAYS and CR_APERIOD. -/
def Engine.posWord (en : Engine) : Word := pack [(en.pos - 1, 0, 20)]
def Engine.playsWord (en : Engine) : Word := pack [(en.plays, 0, 16), ((en.jump.map (·.toNat)).getD 0, 16, 10)]
def Engine.periodWord (en : Engine) : Word := if en.state == .stopped then 0 else word en.period

/-- CR_VECTORS to CR_FEEDS. -/
def Engine.counters (en : Engine) : List Word := [en.vectors, en.starves, en.fails, en.skips, en.segwr, en.feeds]

def readChainring (o : Nat) (v : EngineId) (s : State) : Word :=
  let en := s.engine v
  let idx := fld (s.immAt (crBase v + 0xC)) 0 10
  let ts := s.immAt (crBase v + 0x1C)
  if o = 0x10 ∨ o = 0x14 then s.shadowAt (segKey v idx (o == 0x14))
  else if o = 0x18 then pack [(b1 (en.isReady idx), 0, 1), (b1 (en.fill.any fun f => f.seg.toNat == idx), 1, 1),
    (b1 (en.activeSegs.contains idx), 2, 1)]
  else if o = 0x20 ∨ o = 0x24 then s.shadowAt (tsKey v (fld ts 0 6) (fld ts 6 3) (o == 0x24))
  else if o = 0x40 then en.statWord
  else if o = 0x44 then en.posWord
  else if o = 0x48 then en.playsWord
  else if o = 0x4C then en.periodWord
  else if 0x50 ≤ o ∧ o < 0x5C then dtWord en.ref ((o - 0x50) / 4)
  else if o = 0x60 then pack [(b1 en.ffValid, 0, 1), (en.ffSpoke.toNat, 1, 6), (b1 en.ffExp, 7, 1), (en.ffSeg.toNat, 8, 10)]
  else if o = 0x64 then word en.ffPos.toNat
  else if 0x68 ≤ o ∧ o < 0x74 then dtWord en.ffDt ((o - 0x68) / 4)
  else if 0x80 ≤ o ∧ o < 0x98 then counter en.counters (o - 0x80)
  else if 0x100 ≤ o ∧ o < 0x200 then en.failCnt.get (Fin.ofNat 64 ((o - 0x100) / 4))
  else 0

/-! ### Spokes (0x20000) -/

/-- The executing descriptor: its start instant has come and its last edge has not. -/
def State.executing (s : State) (i : SpokeId) : Option QDesc :=
  (s.spoke i).queue.find? fun e => !e.done && e.start.toNat ≤ s.heldDt.toNat

/-- SP_QSTAT. -/
def State.qstat (s : State) (i : SpokeId) : Word :=
  let sp := s.spoke i
  let ex := s.executing i
  let owner := match s.owner i with
    | some v => 4 + v.val
    | none => 0
  let held := s.gated (islSpoke i)
  let suppr := if held then sp.heldSuppr else s.suppressed
  let drv := if held then sp.heldDrv.toNat else s.drvCode i
  pack [(sp.queue.length, 0, 7), (b1 ex.isSome, 7, 1), ((ex.map (·.kind.code)).getD 0, 8, 3),
    (b1 (s.island (islSpoke i)).retiring.isSome, 11, 1), (owner, 12, 3), (b1 suppr, 15, 1), (drv, 16, 2)]

/-- SP_EDGES to SP_CMP_MISS. -/
def SpokeCnt.list (c : SpokeCnt) : List Word :=
  [c.edges, c.reject, c.late, c.lost, c.suppr, c.cancelled, c.caps, c.capDrop, c.dead, c.cmpFail, c.cmpMiss]

def readSpoke (o : Nat) (i : SpokeId) (s : State) : Word :=
  let sp := s.spoke i
  if o = 0x20 then s.qstat i
  else if 0x24 ≤ o ∧ o < 0x30 then dtWord sp.anchor ((o - 0x24) / 4)
  else if o = 0x3C then pack [(sp.cancelState.toNat, 1, 2)]
  else if 0x40 ≤ o ∧ o < 0x6C then counter sp.cnt.list (o - 0x40)
  else 0

/-! ### Chain ports (0x30000) -/

/-- CP_STAT. -/
def Port.statWord (p : Port) : Word :=
  pack [(p.st.toNat, 0, 3), (p.own.toNat, 3, 2), (b1 p.block, 5, 1), (b1 p.est.frozen, 6, 1), (p.excl.toNat, 7, 2),
    (p.reason.toNat, 9, 8)]

/-- CP_MODE: valid in UP, 0 otherwise. -/
def Port.modeWord (p : Port) : Word :=
  match p.modeR with
  | some m => if p.st = 5 then pack [(m.ver.toNat, 0, 8), (m.res.toNat, 8, 3), (m.grant.toNat, 11, 6), (m.asym.toNat, 17, 2),
      (b1 p.pfmt, 19, 1)] else 0
  | none => 0

/-- CP_BELLTX to CP_HOSTDROP. -/
def PortCnt.list (c : PortCnt) : List Word :=
  [c.bellTx, c.bellRx, c.stampTx, c.stampRx, c.exch, c.exchBad, c.trigTx, c.trigRx, c.axisRx, c.badFrame, c.blockLoss,
    c.prbsErr, c.hostTx, c.hostRx, c.hostDrop]

def readPort (o : Nat) (c : PortId) (s : State) : Word :=
  let p := s.port c
  if o = 0x00 then pack [(p.mode.toNat, 0, 2), (p.day.toNat, 2, 2)]
  else if o = 0x38 then pack [(p.loopb.toNat, 0, 2), (b1 p.gen, 2, 1), (b1 p.chk, 3, 1)]
  else if o = 0x40 then p.statWord
  else if o = 0x44 then p.modeWord
  else if o = 0x48 then word p.peer.toNat
  else if o = 0x4C then word (p.peer.toNat / 2 ^ 32)
  else if o = 0x50 then wordI p.est.dmean
  else if o = 0x54 then wordI p.est.alpha
  else if o = 0x58 then heldWord p.est.err
  else if o = 0x5C then wordI (s.budget c 409600)
  else if o = 0x60 then wordI (s.budget c 2048000)
  else if o = 0x64 then pack [(p.phops.toNat, 0, 8), (p.pqual.toNat, 8, 8), (b1 p.ptai, 16, 1)]
  else if o = 0x68 then word p.proot.toNat
  else if o = 0x6C then word (p.proot.toNat / 2 ^ 32)
  else if 0x80 ≤ o ∧ o < 0xBC then counter p.cnt.list (o - 0x80)
  else 0

/-! ### Freewheel (0x38000) -/

/-- FW_STAT and FW_P_STAT; the latter as it stood at the gating while the gates are closed (R360). -/
def State.fwStat (s : State) : Word :=
  pack [(s.fw.free, 0, 15), (b1 (s.island islFreewheel).retiring.isSome, 15, 1)]
def State.fwPStat (s : State) (c : PortId) : Word :=
  pack [((if s.gated islFreewheel then s.fw.heldStat.get c else s.laneStat c).toNat, 0, 2)]

def readFreewheel (o : Nat) (s : State) : Word :=
  if o = 0x00 then word (b1 s.fw.bypass)
  else if o = 0x08 then s.fwStat
  else if o = 0x0C then word s.draining
  else if o = 0x10 then (match s.fw.badEnt with | some k => pack [(k.toNat, 0, 9), (1, 9, 1)] | none => 0)
  else if 0x18 ≤ o ∧ o < 0x28 then s.shadowAt (clKey (fld (s.immAt 0x38014) 0 9) ((o - 0x18) / 4))
  else if 0x100 ≤ o ∧ o < 0x300 then
    let c : PortId := Fin.ofNat 8 ((o - 0x100) / 0x40)
    let n := s.fw.cnt.get c
    if o % 0x40 = 0x0C then s.fwPStat c
    else counter [0, 0, 0, 0, n.fwdHl, n.fwdLh, n.discard, n.stomped, n.extract, n.corr, n.gdrop, n.tsrec] (o % 0x40)
  else 0

/-! ### Stoker (0x3C000) and Pair (0x3E000) -/

/-- SK_STAT. -/
def State.skStat (s : State) : Word :=
  let k := s.stoker
  pack [(k.st.toNat, 0, 3), (k.pos.toNat, 3, 4), (b1 k.capt, 7, 1), (k.captPos.toNat, 8, 4), (b1 k.dir, 12, 1),
    (b1 k.cwOk, 13, 1), (b1 k.ccwOk, 14, 1), (b1 k.jwait, 15, 1)]

/-- SK_NEIGH. -/
def State.skNeigh (s : State) : Word :=
  let f (x : Option (BitVec 4)) : Nat := (x.map (·.toNat)).getD 0
  pack [(f s.stoker.npos, 0, 4), (b1 s.stoker.npos.isSome, 4, 1), (f s.stoker.ppos, 8, 4), (b1 s.stoker.ppos.isSome, 12, 1)]

def readStoker (o : Nat) (s : State) : Word :=
  let k := s.stoker
  if o = 0x04 then s.skStat
  else if o = 0x08 then s.skNeigh
  else if o = 0x18 then wordI k.estN.dmean
  else if o = 0x1C then wordI k.estP.dmean
  else if o = 0x20 then heldWord k.err
  else if o = 0x24 then word k.captId.toNat
  else if o = 0x28 then word (k.captId.toNat / 2 ^ 32)
  else if 0x40 ≤ o ∧ o < 0x54 then counter [k.badCell, k.dirSw, k.elect, k.orphan, k.exchBad] (o - 0x40)
  else 0

/-- PA_STAT. -/
def State.paStat (s : State) : Word :=
  let p := s.pair
  pack [(p.token.code, 0, 2), (p.ptoken.toNat, 2, 2), (b1 p.lane, 4, 1), (b1 p.hb, 5, 1), (b1 p.evid, 6, 1),
    (b1 p.genSplit, 7, 1)]

/-- PA_WD: GATED tells of gates that have closed since Day entry, and reads 0 in Dawn (R12, R350; DEDUCED, log entry
106). -/
def State.paWd (s : State) : Word :=
  pack [(b1 s.pair.kick, 0, 1), (b1 (s.hub.inDay && !s.hub.gatesOpen), 1, 1), (b1 s.pair.tcxo, 2, 1),
    (b1 (s.pair.brakeLine || s.dyn.st == .dusk), 3, 1)]

/-- PA_NETOFS: the mean over the last 64 edges, or 0x80000000 until there are 64 (R349). -/
def State.netOfs (s : State) : Word :=
  let l := s.pair.netOfs.get (Fin.ofNat 64 (fld (s.immAt 0x3E050) 0 6))
  if l.length < 64 then 0x80000000 else wordI (freeDiv l.sum 64)

def readPair (o : Nat) (s : State) : Word :=
  let p := s.pair
  if o = 0x00 then pack [(b1 p.side, 1, 1)]
  else if o = 0x30 then s.paStat
  else if o = 0x34 then pack [(p.brakeCause.toNat, 2, 3)]
  else if o = 0x38 then s.paWd
  else if 0x40 ≤ o ∧ o < 0x4C then dtWord p.gapDt ((o - 0x40) / 4)
  else if o = 0x4C then p.gapEdges
  else if o = 0x54 then s.netOfs
  else if o = 0x58 then heldWord p.est.err
  else if 0x80 ≤ o ∧ o < 0x98 then counter [p.hbMiss, p.takes, p.releases, p.mismatch, p.brakes, p.badFrame] (o - 0x80)
  else 0

/-! ### Events (0x40000), Rings (0x50000), Snapshot (0x60000) -/

def readEvents (o : Nat) (s : State) : Word :=
  if o < 0x20 then word (s.hb.evStat.toNat >>> (8 * o))
  else if 0x100 ≤ o ∧ o < 0x500 then word (s.evCfgNow (Fin.ofNat 256 ((o - 0x100) / 4))).toNat
  else if 0x800 ≤ o ∧ o < 0xA00 then word (s.hb.vecHold.get (Fin.ofNat 128 ((o - 0x800) / 4))).toNat
  else 0

/-- A word of a ring's slot. -/
def Ring.slotWord (r : Ring) (o : Nat) : Word :=
  if o = 0x00 then word r.base.toNat
  else if o = 0x04 then word (r.base.toNat / 2 ^ 32)
  else if o = 0x08 then pack [(r.log2.toNat, 0, 4), (b1 r.en, 4, 1), (b1 r.wben, 5, 1)]
  else if o = 0x0C then word r.prod.toNat
  else if o = 0x10 then word r.cons.toNat
  else if o = 0x14 then word r.wb.toNat
  else if o = 0x18 then word (r.wb.toNat / 2 ^ 32)
  else if o = 0x1C then pack [(r.drops.toNat, 0, 16), (b1 r.err, 16, 1), (b1 r.err, 17, 2)]
  else 0

/-- The ring slots lie at 0x40 times the queue number. -/
def readRings (o : Nat) (s : State) : Word :=
  if o < 0x1000 ∨ 0x2000 ≤ o then 0
  else
    let q : RingId := Fin.ofNat 64 (o / 0x40 - 64)
    let rx : Bool := 0x20 ≤ o % 0x40
    if rxOk q rx then (s.ring q rx).slotWord (o % 0x20) else 0

/-- A word of a snapshot buffer; SEQ reads 0xFFFFFFFF until it is whole (R38). -/
def bufWord (m : RegMap) (o : Nat) : Word := look (fun _ => 0) m o

def readSnapshot (o : Nat) (s : State) : Word :=
  if o = 0x14 then pack [(b1 s.snap.latest, 0, 1), (s.snap.reqState.toNat, 1, 2), (s.snap.reqCause.toNat, 3, 2)]
  else if 0x4000 ≤ o ∧ o < 0x8000 then bufWord s.snap.bufA (o - 0x4000)
  else if 0x8000 ≤ o ∧ o < 0xC000 then bufWord s.snap.bufB (o - 0x8000)
  else 0

/-! ### A 32-bit read -/

/-- The RW fields of an offset as they are held: the shadow of shadowed ones (R22). -/
def State.rwWord (s : State) (k : Nat) : Word :=
  word (regInfo k).rw &&& (if (regInfo k).imm then s.immAt k else s.shadowAt k)

/-- The fields with a home of their own, by block (R52). -/
def readBlock (k : Nat) (s : State) : Word :=
  if k < 0x1000 then readHandlebar k s
  else if k < 0x2000 then readDynamo (k - 0x1000) s
  else if k < 0x3000 then readHub (k - 0x2000) s
  else if k < 0x4000 then readNoon (k - 0x3000) s
  else if k < 0x8000 then readTruing (k - 0x4000) s
  else if k < 0xC000 then readPacer (k - 0x8000) s
  else if k < 0x10000 then readCrank (k - 0xC000) s
  else if k < 0x14000 then readChainring (k % 0x1000) (Fin.ofNat 4 ((k - 0x10000) / 0x1000)) s
  else if k < 0x20000 then 0
  else if k < 0x24000 then readSpoke (k % 0x100) (Fin.ofNat 64 ((k - 0x20000) / 0x100)) s
  else if k < 0x30000 then 0
  else if k < 0x34000 then readPort (k % 0x800) (Fin.ofNat 8 ((k - 0x30000) / 0x800)) s
  else if k < 0x38000 then 0
  else if k < 0x3C000 then readFreewheel (k - 0x38000) s
  else if k < 0x3E000 then readStoker (k - 0x3C000) s
  else if k < 0x40000 then readPair (k - 0x3E000) s
  else if k < 0x50000 then readEvents (k - 0x40000) s
  else if k < 0x60000 then readRings (k - 0x50000) s
  else if k < 0x70000 then readSnapshot (k - 0x60000) s
  else 0

/-- The word a read of an aligned offset finds; WO and RSV fields and undefined offsets read 0 (R9, R54). -/
def State.readLive (s : State) (k : Nat) : Word :=
  (if k < 0x100000 then s.rwWord k else 0) ||| readBlock k s

/-- How many upper words the multi-word RO register that begins at an offset has (R35). -/
def upperWords (k : Nat) : Nat :=
  if k = 0x10 ∨ k = 0x1028 then 1
  else if k = 0x21C ∨ k = 0x3004 ∨ k = 0x3070 ∨ k = 0x4020 ∨ k = 0x3E040 then 2
  else if k = 0x3C024 then 1
  else if 0x8000 ≤ k ∧ k < 0x9000 then
    let o := k % 0x100
    if o = 0x20 ∨ (0xA0 ≤ o ∧ (o - 0xA0) % 12 = 0) then 2
    else if 0x48 ≤ o ∧ o < 0x68 ∧ o % 8 = 0 then 1 else 0
  else if 0xC000 ≤ k ∧ k < 0xC800 then (if k % 0x100 = 0x14 then 1 else if k % 0x100 = 0x20 then 2 else 0)
  else if 0x10000 ≤ k ∧ k < 0x14000 then (if k % 0x1000 = 0x50 ∨ k % 0x1000 = 0x68 then 2 else 0)
  else if 0x20000 ≤ k ∧ k < 0x24000 then (if k % 0x100 = 0x24 then 2 else 0)
  else if 0x30000 ≤ k ∧ k < 0x34000 then (if k % 0x800 = 0x48 ∨ k % 0x800 = 0x68 then 1 else 0)
  else 0

/-- The holding latch of a bus (R35). -/
def State.latchOf (s : State) : BusPort → Option (Nat × List Word)
  | .pcie => s.hb.latchP
  | .spi => s.hb.latchS
  | .config => none

/-- What a read through a bus returns: an upper word that the bus's latch holds comes from there. Each bus has one latch,
so that a read of a second register replaces the words held of the first, and an upper word that the latch does not hold
reads live (DESIGN CHOICE, R35 not saying: log entry 105). -/
def State.readWord (s : State) (bus : BusPort) (k : Nat) : Word :=
  match s.latchOf bus with
  | some (base, l) => if base < k then (match l[(k - base) / 4 - 1]? with | some w => w | none => s.readLive k) else s.readLive k
  | none => s.readLive k

/-- A read of the lowest word of a multi-word RO register latches its upper words. -/
def latchUpper (bus : BusPort) (k : Nat) (s : State) : State :=
  let n := upperWords k
  if n = 0 then s
  else
    let l := some (k, (List.range n).map fun j => s.readLive (k + 4 * (j + 1)))
    match bus with
    | .pcie => { s with hb := { s.hb with latchP := l } }
    | .spi => { s with hb := { s.hb with latchS := l } }
    | .config => s

/-- MULTIWORD_READ_LATCH (R35, R356): a read of BAR0, or of configuration space. What it returns is kept in `rdata`. An
unaligned access is none (R359). -/
def execMultiwordReadLatch (bus : BusPort) (off : BitVec 20) (s : State) : Out :=
  if off.toNat % 4 ≠ 0 then .fault .unaligned
  else .next <| if bus = .config then
    (if s.pcieUp then { s with hb := { s.hb with rdata := s.configWord off.toNat } } else s)
  else if !s.busUp bus then s else
    let w := s.readWord bus off.toNat
    { latchUpper bus off.toNat s with hb := { (latchUpper bus off.toNat s).hb with rdata := w } }

end Sys2Proof.Machine
end

