-- ==== Sys2Proof/Machine/Snapshot.lean ====
section
/-! DEFINITION. The Snapshot page: its regions, when a snapshot is taken, and requests (R36 to R39, and the rules that
give each region's content). -/

namespace Sys2Proof.Machine

/-- Words by offset, put together from the last to the first. -/
def pageOf (l : List (Nat × Word)) : RegMap := l.foldr (fun e m => store (fun _ => 0) m e.1 e.2) []

/-- The 8-byte word at the head of a region (R39): the island's active generation, LATCHED, and HELD where its clock is
gated. -/
def regionHead (at_ : Nat) (gen : Word) (gated : Bool) : List (Nat × Word) :=
  [(at_, gen), (at_ + 4, pack [(b1 !gated, 0, 1), (b1 gated, 1, 1)])]

/-- The region of an island: its head, then words by offset in the region. -/
def State.region (s : State) (i : IslandId) (at_ : Nat) (l : List (Nat × Word)) : List (Nat × Word) :=
  regionHead at_ (s.island i).gen (s.gated i) ++ l.map fun e => (at_ + e.1, e.2)

/-- Registers at consecutive words: offset in the region, first register, how many words. -/
def State.regs (s : State) (o k n : Nat) : List (Nat × Word) :=
  (List.range n).map fun j => (o + 4 * j, s.readLive (k + 4 * j))

/-- The low 64 bits of an instant, or all ones where there is none. -/
def low64 (o : Nat) (d : Option Nat) : List (Nat × Word) :=
  let n := d.getD (2 ^ 64 - 1)
  [(o, word n), (o + 4, word (n / 2 ^ 32))]

/-- An 80-bit DT. -/
def dtWords (o : Nat) (d : DT) : List (Nat × Word) := [(o, dtWord d 0), (o + 4, dtWord d 1), (o + 8, dtWord d 2)]

/-- Dynamo (R406), Hub and Noon (R260). -/
def State.snapClocks (s : State) : List (Nat × Word) :=
  s.region islDynamo 0x40 (s.regs 0x08 0x1000 1 ++ s.regs 0x0C 0x1010 5 ++ s.regs 0x20 0x1030 1 ++
      [(0x24, pack [(b1 s.dyn.enLevel, 0, 1), (b1 s.dyn.vinOk, 1, 1)])]) ++
    s.region islHub 0x80 (s.regs 0x08 0x2000 1 ++ s.regs 0x0C 0x200C 1 ++ s.regs 0x10 0x2014 1) ++
    s.region islNoon 0x100 (s.regs 0x08 0x3000 1 ++ s.regs 0x0C 0x3030 2 ++ dtWords 0x18 s.noon.lastMeas ++
      dtWords 0x28 s.noon.ppsDt)

/-- CAUSE of `n` items from `first` on, four to a word. -/
def State.causeWords (s : State) (o first n : Nat) : List (Nat × Word) :=
  (List.range (n / 4)).map fun j =>
    (o + 4 * j, pack ((List.range 4).map fun k => ((s.item (Fin.ofNat 68 (first + 4 * j + k))).cause.toNat, 8 * k, 8)))

/-- Truing (R225). -/
def State.snapTruing (s : State) : List (Nat × Word) :=
  s.region islTruing 0x200 (s.regs 0x08 0x4020 3 ++ s.regs 0x14 0x4010 2 ++ s.causeWords 0x40 0 64 ++
    s.causeWords 0x80 64 4)

/-- A thread (R145). -/
def State.snapThread (s : State) (p : ThreadId) : List (Nat × Word) :=
  let b := thBase p
  s.region islPacer (0x300 + 0x20 * p.val) (s.regs 0x08 b 1 ++ s.regs 0x0C (b + 0x40) 2 ++ s.regs 0x14 (b + 0x68) 1 ++
    s.regs 0x18 (b + 0x2C) 2)

/-- An axis (R196): the position sign-extended to 64 bits. -/
def State.snapAxis (s : State) (a : AxisId) : List (Nat × Word) :=
  let b := axBase a
  let pos := (s.axis a).posFloor s.heldDt
  s.region islCrank (0x500 + 0x20 * a.val) (s.regs 0x08 (b + 0x10) 1 ++ [(0x0C, wordI pos), (0x10, wordI (pos / 2 ^ 32))] ++
    s.regs 0x14 (b + 0x48) 2 ++ s.regs 0x1C (b + 0x54) 1)

/-- An engine (R175). -/
def State.snapEngine (s : State) (v : EngineId) : List (Nat × Word) :=
  let b := crBase v
  let en := s.engine v
  s.region (islEngine v) (0x600 + 0x80 * v.val) (s.regs 0x08 (b + 0x40) 4 ++ s.regs 0x18 (b + 0x80) 6 ++ dtWords 0x30 en.ref ++
    low64 0x40 (if en.state == .stopped then none else some en.nextVec.toNat))

/-- A spoke (R85). -/
def State.snapSpoke (s : State) (i : SpokeId) : List (Nat × Word) :=
  let b := spBase i
  s.region (islSpoke i) (0x800 + 0x40 * i.val) (s.regs 0x08 (b + 0x20) 1 ++ s.regs 0x0C (b + 0x40) 11 ++
    low64 0x38 ((s.spoke i).nextAct.map (·.toNat)))

/-- A Chain port (R298). -/
def State.snapPort (s : State) (c : PortId) : List (Nat × Word) :=
  let b := cpBase c
  s.region (islPort c) (0x1800 + 0x80 * c.val) (s.regs 0x08 (b + 0x40) 2 ++ s.regs 0x10 (b + 0x50) 4 ++ s.regs 0x20 (b + 0x90) 2 ++
    s.regs 0x28 (b + 0x9C) 1 ++ s.regs 0x2C (b + 0xA4) 2 ++ dtWords 0x40 (s.port c).est.usedD)

/-- A pair of Freewheel (R319). -/
def State.snapFwPair (s : State) (c : PortId) : List (Nat × Word) :=
  let b := fwBase c
  let o := 0x40 + 0x20 * c.val
  s.regs o (b + 0x0C) 1 ++ s.regs (o + 0x04) (b + 0x10) 4 ++ s.regs (o + 0x14) (b + 0x24) 2 ++ s.regs (o + 0x1C) (b + 0x20) 1

/-- Freewheel (R319), Stoker and Pair (R355). -/
def State.snapNets (s : State) : List (Nat × Word) :=
  s.region islFreewheel 0x1C00 (s.regs 0x08 0x38008 2 ++ (List.finRange 8).flatMap s.snapFwPair) ++
    s.region islStoker 0x1E00 (s.regs 0x08 0x3C004 2 ++ s.regs 0x10 0x3C020 1 ++ s.regs 0x14 0x3C018 2) ++
    s.region islPair 0x1F00 (s.regs 0x08 0x3E030 1 ++ s.regs 0x0C 0x3E038 1 ++ s.regs 0x10 0x3E04C 1 ++
      s.regs 0x14 0x3E058 1 ++ dtWords 0x18 s.pair.gapDt ++ s.regs 0x24 0x3E080 2 ++ s.regs 0x2C 0x3E08C 2)

/-- Two words of a ring: PROD and CONS, DROPS, EN and ERR (R384). -/
def ringWords (o : Nat) (r : Ring) : List (Nat × Word) :=
  [(o, pack [(r.prod.toNat, 0, 16), (r.cons.toNat, 16, 16)]),
    (o + 4, pack [(r.drops.toNat, 0, 16), (b1 r.en, 16, 1), (b1 r.err, 17, 1)])]

/-- The event status bits and the rings (R384), which Handlebar holds. Handlebar takes no bank of its own and is never
gated, so its regions carry the header's generation (R39). -/
def State.snapHost (s : State) : List (Nat × Word) :=
  let own (at_ : Nat) (l : List (Nat × Word)) := regionHead at_ s.commit.gen false ++ l.map fun e => (at_ + e.1, e.2)
  own 0x2000 (s.regs 0x08 0x40000 8) ++
    own 0x2100 ((List.finRange 64).flatMap fun q =>
      ringWords (0x10 * (64 + q.val)) (s.ring q false) ++
        (if rxOk q true then ringWords (0x10 * (64 + q.val) + 8) (s.ring q true) else []))

/-- The page after its header, as the islands hold it now. -/
def State.snapRegions (s : State) : List (Nat × Word) :=
  s.snapClocks ++ s.snapTruing ++ (List.finRange 16).flatMap s.snapThread ++ (List.finRange 8).flatMap s.snapAxis ++
    (List.finRange 4).flatMap s.snapEngine ++ (List.finRange 64).flatMap s.snapSpoke ++
    (List.finRange 8).flatMap s.snapPort ++ s.snapNets ++ s.snapHost

/-- The header after SEQ (R38): GEN, the snapshot DT, EPOCH and whether it is periodic. -/
def State.snapHeader (s : State) (d : DT) (periodic : Bool) : List (Nat × Word) :=
  [(0x04, s.commit.gen), (0x08, dtWord d 0), (0x0C, dtWord d 1),
    (0x10, pack [((dtWord d 2).toNat, 0, 16), (b1 s.noon.epoch, 16, 1), (b1 periodic, 17, 1)])]

/-- The page of a snapshot at a DT, with a SEQ word. -/
def State.snapPage (s : State) (seq : Word) (d : DT) (periodic : Bool) : RegMap :=
  pageOf ((0, seq) :: s.snapHeader d periodic ++ s.snapRegions)

def State.modSnap (s : State) (f : Snap → Snap) : State := { s with snap := f s.snap }

/-- The buffer's content set. -/
def Snap.setBuf (x : Snap) (second : Bool) (m : RegMap) : Snap :=
  if second then { x with bufB := m } else { x with bufA := m }

/-- The SEQ after one (R38): 0xFFFFFFFF is skipped. -/
def nextSeq (q : Word) : Word := if q + 1 = 0xFFFFFFFF then 0 else q + 1

/-- The write in progress ends (R37, R38): SEQ and LATEST take their new values, and E254 is raised. -/
def completeSnap (s : State) : State :=
  match s.snap.writing with
  | none => s
  | some w =>
    raise 254 (if w.periodic then 1 else 2) 0 w.seq.toNat w.dt <| s.modSnap fun x =>
      let x := { x.setBuf w.second w.data with latest := w.second, writing := none }
      if w.periodic then x else { x with reqState := 2, reqCause := 0 }

/-- Every island latches (R36), and the write begins in the buffer that does not hold the latest complete snapshot. A
write still in progress is complete by then: R37 ends it within 20 us, and snapshots lie 32 us apart. -/
def latchSnap (d : DT) (periodic : Bool) (s : State) : State :=
  let s := completeSnap s
  let seq := s.snap.nextSeq
  let page := s.snapPage seq d periodic
  s.modSnap fun x =>
    let second := !x.latest
    let old := if second then x.bufB else x.bufA
    { x.setBuf second (store (fun _ => 0) old 0 0xFFFFFFFF) with
      writing := some ⟨second, seq, d, periodic, page⟩, nextSeq := nextSeq seq }

/-- 32 us, the least spacing of snapshots (R37). -/
def snapSpacing : Nat := 131072000

/-- Less than 32 us apart. -/
def tooNear (a b : DT) : Bool := decide ((a - b).toNat < snapSpacing) || decide ((b - a).toNat < snapSpacing)

/-- Less than 32 us from a DT whose low 32 bits are zero. -/
def nearPeriodic (d : DT) : Bool :=
  decide (d.toNat % 2 ^ 32 < snapSpacing) || decide (2 ^ 32 - d.toNat % 2 ^ 32 < snapSpacing)

def State.periodicOn (s : State) : Bool := bit (s.immAt 0x60000) 0

/-- The DT with low 32 bits zero that the count reaches in this ft, if it reaches one (R36). -/
def State.periodicDt (s : State) : Option DT :=
  match s.hub.ho with
  | some h => reaches (2 ^ 32) (h.count (s.clock - 1)) s.dt
  | none => if s.dt.toNat % 2 ^ 32 = 0 then some s.dt else none

/-- Something that comes before a snapshot latch at one DT is due and has not acted: a confirmed swap, a cancel of a
spoke, or a message to an engine (R21, R36). -/
def State.beforeLatch (s : State) : Bool :=
  (commitIslands.any fun i => !s.gated i && s.swapDue i) ||
    s.clocked && (((List.finRange 64).any fun i => s.cancelDue i) || (List.finRange 4).any fun v => s.engineDue v)

/-- PERIODIC_SNAPSHOT (R36, R37). -/
def execPeriodicSnapshot (s : State) : Out :=
  .next <| match s.periodicDt with
    | some d =>
      if s.alive ∧ s.dtRuns ∧ s.periodicOn ∧ s.snap.tickAt ≠ some s.clock ∧ !s.beforeLatch ∧
          !s.snap.req.any (tooNear d) ∧ !s.snap.lastTaken.any (tooNear d) then
        (latchSnap d true s).modSnap fun x => { x with tickAt := some s.clock }
      else s
    | none => s

/-- A request is pending: accepted, and its snapshot not yet complete. -/
def Snap.busy (x : Snap) : Bool := x.req.isSome || x.writing.any (!·.periodic)

/-- The cause a request for a DT is refused with (R37), or 0. -/
def State.snapCause (s : State) (d : DT) : BitVec 2 :=
  if d.toNat < (dtAdd (s.replica islHandlebar) 8192000).toNat then 1
  else if s.snap.busy then 2
  else if s.snap.lastTaken.any (tooNear d) || (s.periodicOn && nearPeriodic d) then 3
  else 0

/-- A request for a snapshot at SN_REQ_DT (R37). -/
def requestSnap (s : State) : State :=
  let d := dtAt s.imm 0x60004
  let c := s.snapCause d
  s.modSnap fun x =>
    if c = 0 then { x with reqState := 1, reqCause := 0, req := some d } else { x with reqState := 3, reqCause := c }

/-- SNAPSHOT_REQUEST (R37). -/
def execSnapshotRequest (s : State) : Out := .next (byHost s requestSnap)

/-- SNAPSHOT_LATCH (R36). -/
def execSnapshotLatch (s : State) : Out :=
  .next <| match s.snap.req with
    | some d =>
      if s.alive ∧ s.dtRuns ∧ dtLe d s.now ∧ !s.beforeLatch then
        (latchSnap d false s).modSnap fun x => { x with req := none, lastTaken := some d }
      else s
    | none => s

/-- SNAPSHOT_COMPLETE (R37, R38). -/
def execSnapshotComplete (s : State) : Out := .next (if s.alive then completeSnap s else s)

end Sys2Proof.Machine
end

