-- ==== Sys2Proof/Machine/BusWrite.lean ====
section
/-! DEFINITION. Writes to BAR0, and the SPI port (R9, R22, R54, R359, R378 to R380): a write to a field with behaviour
of its own acts as that field's command. -/

namespace Sys2Proof.Machine

/-- A field kept as it is written: in the shadow, or among the Immediate ones (R22). -/
def putReg (k : Nat) (v : Word) (s : State) : State :=
  if (regInfo k).imm then { s with imm := regPut s.imm k v } else { s with shadow := regPut s.shadow k v }

/-- The state a command leaves, the state before it where it stops. -/
def after (f : State → Out) (s : State) : State :=
  match f s with
  | .next t => t
  | _ => s

/-- An effect where a bit is written 1. -/
def onBit (v : Word) (k : Nat) (f : State → Out) (s : State) : State := if bit v k then after f s else s

/-- Handlebar (0x00000): flash, commit and the MSI-X table. -/
def writeHandlebar (o : Nat) (v : Word) (s : State) : State :=
  if o = 0x044 then
    match fld v 0 2 with
    | 1 => after execFlashRead s
    | 2 => after execFlashProgram s
    | 3 => after execFlashErase s
    | _ => s
  else if 0x100 ≤ o ∧ o < 0x200 then
    { s with hb := { s.hb with flashBuf := patch s.hb.flashBuf (o - 0x100) (leOctets 4 v.toNat) } }
  else if o = 0x210 then onBit v 0 execCommitGo s
  else if 0x800 ≤ o ∧ o < 0x1000 then
    let n : VecId := Fin.ofNat 128 ((o - 0x800) / 16)
    let x := s.vec n
    match o % 16 / 4 with
    | 0 => s.setVec n { x with addr := BitVec.ofNat 64 (x.addr.toNat / 2 ^ 32 * 2 ^ 32 + v.toNat) }
    | 1 => s.setVec n { x with addr := BitVec.ofNat 64 (x.addr.toNat % 2 ^ 32 + v.toNat * 2 ^ 32) }
    | 2 => s.setVec n { x with data := v }
    | _ => if bit v 0 then s.setVec n { x with mask := true } else after (execVectorUnmask n) s
  else putReg o v s

/-- Dynamo (0x01000): DY_CTRL and DY_CFG. With both bits of DY_CTRL written 1 only DUSK acts (R394). -/
def writeDynamo (o : Nat) (v : Word) (s : State) : State :=
  if o = 0x04 then (if bit v 1 then after execDuskRequest s else onBit v 0 execDayRequest s)
  else if o = 0x08 then { s with dyn := { s.dyn with autoDay := bit v 0 } }
  else s

/-- Hub (0x02000): a write of SEL is remembered (R229). -/
def writeHub (o : Nat) (v : Word) (s : State) : State :=
  let s1 := putReg (0x2000 + o) v s
  if o = 0x04 then { s1 with hub := { s1.hub with selWritten := true } } else s1

/-- Noon (0x03000): a step request. -/
def writeNoon (o : Nat) (v : Word) (s : State) : State :=
  let s1 := putReg (0x3000 + o) v s
  if o = 0x58 then onBit v 0 execStepRequest s1 else s1

/-- Truing (0x04000): stores and full-run requests. -/
def writeTruing (o : Nat) (v : Word) (s : State) : State :=
  if o = 0x10 then onBit v 0 execStoreGo s
  else if 0x400 ≤ o ∧ o < 0x800 ∧ o % 16 = 4 then
    let i : SpokeId := Fin.ofNat 64 ((o - 0x400) / 16)
    let s1 := putReg (0x4000 + o) v s
    onBit v 1 (execFullRunWithdraw i) (onBit v 0 (execFullRunRequest i (BitVec.ofNat 20 (fld v 2 20))) s1)
  else putReg (0x4000 + o) v s

/-- Pacer (0x08000): thread actions and the bank CRC. -/
def writePacer (o : Nat) (v : Word) (s : State) : State :=
  if o < 0x1000 ∧ o % 0x100 = 0x18 then
    let p : ThreadId := Fin.ofNat 16 (o / 0x100)
    match fld v 0 2 with
    | 1 => after (execThStart p) s
    | 2 => after (execThStop p) s
    | 3 => after (execThResume p) s
    | _ => s
  else if o = 0x1008 then onBit v 0 execBankCrcGo s
  else putReg (0x8000 + o) v s

/-- Crank (0x0C000): clearing an axis, sending the staged record. -/
def writeCrank (o : Nat) (v : Word) (s : State) : State :=
  if o < 0x800 ∧ o % 0x100 = 8 then onBit v 0 (execAxisClear (Fin.ofNat 8 (o / 0x100))) s
  else
    let s1 := putReg (0xC000 + o) v s
    if o = 0x830 then onBit v 3 (execSegmentGo (Fin.ofNat 8 (fld v 0 3))) s1 else s1

/-- Chainring (0x10000): the indexed segment entries and timing sets, and the first-failure latch. -/
def writeChainring (e : EngineId) (o : Nat) (v : Word) (s : State) : State :=
  let idx := fld (s.immAt (crBase e + 0xC)) 0 10
  let ts := s.immAt (crBase e + 0x1C)
  if o = 0x10 ∨ o = 0x14 then putReg (segKey e idx (o == 0x14)) v s
  else if o = 0x20 ∨ o = 0x24 then putReg (tsKey e (fld ts 0 6) (fld ts 6 3) (o == 0x24)) v s
  else if o = 0x60 then onBit v 0 (execFailFirstRearm e) s
  else putReg (crBase e + o) v s

/-- A spoke (0x20000): SP_CANCEL. -/
def writeSpoke (i : SpokeId) (o : Nat) (v : Word) (s : State) : State :=
  if o = 0x3C then onBit v 0 (execSpokeCancelGo i) s else putReg (spBase i + o) v s

/-- CP_PWR (R264): MODE 0b11 acts as SIESTA. -/
def writePower (c : PortId) (v : Word) (s : State) : State :=
  let s1 := s.modPort c fun p => { p with day := BitVec.ofNat 2 (fld v 2 2) }
  match fld v 0 2 with
  | 0 => after (execPortOff c) s1
  | 1 => after (execPortRun c) s1
  | 2 => after (execPortSiesta c) s1
  | _ => (after (execPortSiesta c) s1).modPort c fun p => { p with mode := 3 }

/-- CP_TEST (R294, R295): LOOP, then GEN and CHECK, which a change of LOOP has cleared. -/
def writeTest (c : PortId) (v : Word) (s : State) : State :=
  let s1 := match fld v 0 2 with
    | 0 => after (execTestLoopEnd c) s
    | 1 => after (execTestLoopNearSerial c) s
    | 2 => after (execTestLoopNearParallel c) s
    | _ => after (execTestLoopFarRetimed c) s
  let s2 := if bit v 2 then after (execPrbsGen c) s1 else s1.modPort c fun p => { p with gen := false }
  if bit v 3 then after (execPrbsCheck c 0) s2 else s2.modPort c fun p => { p with chk := false }

/-- A Chain port (0x30000). -/
def writePort (c : PortId) (o : Nat) (v : Word) (s : State) : State :=
  if o = 0x00 then writePower c v s else if o = 0x38 then writeTest c v s else putReg (cpBase c + o) v s

/-- Freewheel (0x38000): the indexed classification entries. -/
def writeFreewheel (o : Nat) (v : Word) (s : State) : State :=
  if 0x18 ≤ o ∧ o < 0x28 then putReg (clKey (fld (s.immAt 0x38014) 0 9) ((o - 0x18) / 4)) v s
  else putReg (0x38000 + o) v s

/-- Pair (0x3E000): PA_BRAKE; with both bits the EXIT is refused, since ENTER's cause holds. -/
def writePair (o : Nat) (v : Word) (s : State) : State :=
  if o = 0x34 then
    let s1 := onBit v 0 execBrakeEnter s
    if bit v 0 && bit v 1 then refuseExit s1 else onBit v 1 execBrakeExit s1
  else putReg (0x3E000 + o) v s

/-- Events (0x40000): EV_STAT, EV_CFG and EV_VEC_HOLD. -/
def writeEvents (o : Nat) (v : Word) (s : State) : State :=
  if o < 0x20 then after (execEventStatusClear (Fin.ofNat 8 (o / 4)) v 0) s
  else if 0x100 ≤ o ∧ o < 0x500 then writeEvCfg (Fin.ofNat 256 ((o - 0x100) / 4)) (v.setWidth 12) s
  else if 0x800 ≤ o ∧ o < 0xA00 then
    { s with hb := { s.hb with
      vecHold := s.hb.vecHold.set ((o - 0x800) / 4 % 128) (v.setWidth 10) (Nat.mod_lt _ (by decide)) } }
  else s

/-- A ring's slot (0x50000; R363, R364): BASE and WB take no value while EN is 1. -/
def writeRing (q : RingId) (rx : Bool) (o : Nat) (v : Word) (s : State) : State :=
  let put (f : Ring → Ring) : State := s.modRing q rx fun r => if r.en then r else f r
  if o = 0x00 then put fun r => { r with base := BitVec.ofNat 64 (r.base.toNat / 2 ^ 32 * 2 ^ 32 + v.toNat) }
  else if o = 0x04 then put fun r => { r with base := BitVec.ofNat 64 (r.base.toNat % 2 ^ 32 + v.toNat * 2 ^ 32) }
  else if o = 0x08 then (if bit v 4 then after (execRingEnable q rx v) s else after (execRingDisable q rx v) s)
  else if o = 0x0C then (if hostToDevice q rx then after (execProdDoorbell q (v.setWidth 16)) s else s)
  else if o = 0x10 then (if hostToDevice q rx then s else after (execConsDoorbell q rx (v.setWidth 16)) s)
  else if o = 0x14 then put fun r => { r with wb := BitVec.ofNat 64 (r.wb.toNat / 2 ^ 32 * 2 ^ 32 + v.toNat) }
  else if o = 0x18 then put fun r => { r with wb := BitVec.ofNat 64 (r.wb.toNat % 2 ^ 32 + v.toNat * 2 ^ 32) }
  else s

/-- Rings (0x50000): slots exist for Q64 to Q127, and a receive ring for Q112 to Q119. -/
def writeRings (o : Nat) (v : Word) (s : State) : State :=
  let q : RingId := Fin.ofNat 64 (o / 0x40 - 64)
  let rx : Bool := 0x20 ≤ o % 0x40
  if o < 0x1000 ∨ 0x2000 ≤ o ∨ !rxOk q rx then s else writeRing q rx (o % 0x20) v s

/-- Snapshot (0x60000): SN_REQ. -/
def writeSnapshot (o : Nat) (v : Word) (s : State) : State :=
  if o = 0x10 then onBit v 0 execSnapshotRequest s else putReg (0x60000 + o) v s

/-- A 32-bit write to BAR0, by block (R52). Undefined offsets take nothing (R54). -/
def writeReg (k : Nat) (v : Word) (s : State) : State :=
  if k < 0x1000 then writeHandlebar k v s
  else if k < 0x2000 then writeDynamo (k - 0x1000) v s
  else if k < 0x3000 then writeHub (k - 0x2000) v s
  else if k < 0x4000 then writeNoon (k - 0x3000) v s
  else if k < 0x8000 then writeTruing (k - 0x4000) v s
  else if k < 0xC000 then writePacer (k - 0x8000) v s
  else if k < 0x10000 then writeCrank (k - 0xC000) v s
  else if k < 0x14000 then writeChainring (Fin.ofNat 4 ((k - 0x10000) / 0x1000)) (k % 0x1000) v s
  else if k < 0x20000 then s
  else if k < 0x24000 then writeSpoke (Fin.ofNat 64 ((k - 0x20000) / 0x100)) (k % 0x100) v s
  else if k < 0x30000 then s
  else if k < 0x34000 then writePort (Fin.ofNat 8 ((k - 0x30000) / 0x800)) (k % 0x800) v s
  else if k < 0x38000 then s
  else if k < 0x3C000 then writeFreewheel (k - 0x38000) v s
  else if k < 0x3E000 then putReg k v s
  else if k < 0x40000 then writePair (k - 0x3E000) v s
  else if k < 0x50000 then writeEvents (k - 0x40000) v s
  else if k < 0x60000 then writeRings (k - 0x50000) v s
  else if k < 0x70000 then writeSnapshot (k - 0x60000) v s
  else s

/-- REGISTER_WRITE (R22, R356, R359): a write to BAR0, or to configuration space. An unaligned access is none. -/
def execRegisterWrite (bus : BusPort) (off : BitVec 20) (val : Word) (s : State) : Out :=
  if off.toNat % 4 ≠ 0 then .fault .unaligned
  else .next (if bus = .config then (if s.pcieUp then writeConfig off.toNat val s else s)
    else if s.busUp bus then writeReg off.toNat val s else s)

/-- PARTIAL_WRITE (R359): discarded, counted, and reported. -/
def execPartialWrite (off : BitVec 20) (_ : Word) (_ : BitVec 4) (s : State) : Out :=
  if off.toNat % 4 ≠ 0 then .fault .unaligned
  else .next <| if !s.busUp .pcie then s else
    raiseNow 255 4 0 0 { s with hb := { s.hb with partialCnt := s.hb.partialCnt + 1 } }

/-! ### The SPI port (R378, R379) -/

/-- The SPI status byte. -/
def State.spiStatus (s : State) : Byte :=
  (pack [(b1 (s.dyn.st == .dawn), 0, 1), (b1 (s.dyn.st == .day), 1, 1), (b1 (s.hb.speed != 0), 2, 1),
    (b1 s.fuseBad, 3, 1), (b1 s.hb.imageBad, 4, 1)]).setWidth 8

/-- A word of an SPI frame: what it returns is appended to the frame's output, and the next word's address is 4 higher; a
frame that begins clears the output (R378). -/
def spiAccess (op : BitVec 8) (addr : BitVec 24) (out : Octets) (s : State) : State :=
  { s with hb := { s.hb with
    spi := .inFrame op (addr + 4), spiOut := (if s.hb.spi == .idle then [] else s.hb.spiOut) ++ out } }

/-- The port takes a word with an opcode and an address: in Dawn and Day, as the first of a frame, or as the next of a
frame with that opcode (R378). -/
def State.spiHears (s : State) (op : BitVec 8) (addr : BitVec 24) : Bool :=
  s.alive && (s.hb.spi == .idle || s.hb.spi == .inFrame op addr)

/-- A word that was not complete within 8 us. -/
def spiTimeout : Octets := [0xC3, 0xFF, 0xFF, 0xFF, 0xFF]

/-- SPI_READ_STATUS: a frame of its own, so nothing after the byte counts. -/
def execSpiReadStatus (s : State) : Out :=
  .next <| if s.alive && s.hb.spi == .idle then
    { s with hb := { s.hb with spi := .ignoring, spiOut := [s.spiStatus] } } else s

/-- SPI_READ_BAR0: one word of a frame. -/
def execSpiReadBar0 (addr : BitVec 24) (slow : Bool) (s : State) : Out :=
  if 2 ^ 20 ≤ addr.toNat then .next (if s.spiHears 0x0B addr then spiAccess 0x0B addr [0xC3] s else s)
  else if addr.toNat % 4 ≠ 0 then .fault .unaligned
  else .next <| if !s.spiHears 0x0B addr then s
    else if slow then spiAccess 0x0B addr spiTimeout s
    else
      let w := s.readWord .spi addr.toNat
      let s1 := latchUpper .spi addr.toNat s
      spiAccess 0x0B addr (0xA5 :: leOctets 4 w.toNat) { s1 with hb := { s1.hb with rdata := w } }

/-- SPI_WRITE_BAR0: one word of a frame. -/
def execSpiWriteBar0 (addr : BitVec 24) (val : Word) (s : State) : Out :=
  if 2 ^ 20 ≤ addr.toNat then .next (if s.spiHears 0x02 addr then spiAccess 0x02 addr [] s else s)
  else if addr.toNat % 4 ≠ 0 then .fault .unaligned
  else .next (if s.spiHears 0x02 addr then spiAccess 0x02 addr [] (writeReg addr.toNat val s) else s)

/-- SPI_READ_BAR2: one word of a frame. -/
def execSpiReadBar2 (addr : BitVec 24) (slow : Bool) (s : State) : Out :=
  .next <| if !s.spiHears 0x1B addr then s
    else spiAccess 0x1B addr (if slow then spiTimeout else 0xA5 :: readBar2 addr.toNat 4 s) s

/-- SPI_WRITE_BAR2: one word of a frame. -/
def execSpiWriteBar2 (addr : BitVec 24) (val : Word) (s : State) : Out :=
  .next <| if s.spiHears 0x12 addr then
    spiAccess 0x12 addr [] (writeBar2 addr.toNat ((leOctets 4 val.toNat).map some) s) else s

/-- SPI_UNKNOWN_OPCODE: the frame is ignored to its end. -/
def execSpiUnknownOpcode (op : BitVec 8) (s : State) : Out :=
  .next <| if s.alive && s.hb.spi == .idle && !([0x05, 0x0B, 0x02, 0x1B, 0x12] : List (BitVec 8)).contains op then
    { s with hb := { s.hb with spi := .ignoring, spiOut := [] } } else s

/-- SPI_FRAME_END: the chip select rises. -/
def execSpiFrameEnd (s : State) : Out :=
  .next (if s.alive then { s with hb := { s.hb with spi := .idle } } else s)

end Sys2Proof.Machine
end

