-- ==== Sys2Proof/Machine/Dispatch.lean ====
section
/-! DEFINITION. The dispatch of commands to their meanings, one arm per constructor. -/

namespace Sys2Proof.Machine

def exec (i : Instr) (s : State) : Host.Outcome State Fault Refusal :=
  match i with
  | .commitGo => Sys2Proof.Machine.execCommitGo s
  | .prepare k => Sys2Proof.Machine.execPrepare k s
  | .armed k => Sys2Proof.Machine.execArmed k s
  | .notArmed k => Sys2Proof.Machine.execNotArmed k s
  | .noarmDeadline => Sys2Proof.Machine.execNoarmDeadline s
  | .confirm k => Sys2Proof.Machine.execConfirm k s
  | .abandon k => Sys2Proof.Machine.execAbandon k s
  | .pendingCopyDiscard k => Sys2Proof.Machine.execPendingCopyDiscard k s
  | .commitSwap => Sys2Proof.Machine.execCommitSwap s
  | .retireHoldExpiry k => Sys2Proof.Machine.execRetireHoldExpiry k s
  | .multiwordReadLatch bus off => Sys2Proof.Machine.execMultiwordReadLatch bus off s
  | .registerWrite bus off val => Sys2Proof.Machine.execRegisterWrite bus off val s
  | .partialWrite off val be => Sys2Proof.Machine.execPartialWrite off val be s
  | .periodicSnapshot => Sys2Proof.Machine.execPeriodicSnapshot s
  | .snapshotRequest => Sys2Proof.Machine.execSnapshotRequest s
  | .snapshotLatch => Sys2Proof.Machine.execSnapshotLatch s
  | .snapshotComplete => Sys2Proof.Machine.execSnapshotComplete s
  | .anchorDescriptor k => Sys2Proof.Machine.execAnchorDescriptor k s
  | .pulseDescriptor k => Sys2Proof.Machine.execPulseDescriptor k s
  | .burstDescriptor k => Sys2Proof.Machine.execBurstDescriptor k s
  | .trainDescriptor k => Sys2Proof.Machine.execTrainDescriptor k s
  | .levelDescriptor k => Sys2Proof.Machine.execLevelDescriptor k s
  | .windowDescriptor k => Sys2Proof.Machine.execWindowDescriptor k s
  | .descriptorKindInvalid k => Sys2Proof.Machine.execDescriptorKindInvalid k s
  | .leadingEdge k => Sys2Proof.Machine.execLeadingEdge k s
  | .trailingEdge k => Sys2Proof.Machine.execTrailingEdge k s
  | .levelChange k => Sys2Proof.Machine.execLevelChange k s
  | .windowOpen k => Sys2Proof.Machine.execWindowOpen k s
  | .windowClose k => Sys2Proof.Machine.execWindowClose k s
  | .pinCrossing k uv => Sys2Proof.Machine.execPinCrossing k uv s
  | .modeChange k => Sys2Proof.Machine.execModeChange k s
  | .modeChangeIntervalEnd k => Sys2Proof.Machine.execModeChangeIntervalEnd k s
  | .spokeCancelGo k => Sys2Proof.Machine.execSpokeCancelGo k s
  | .cancelDue k => Sys2Proof.Machine.execCancelDue k s
  | .nop p => Sys2Proof.Machine.execNop p s
  | .halt p => Sys2Proof.Machine.execHalt p s
  | .b p => Sys2Proof.Machine.execB p s
  | .call p => Sys2Proof.Machine.execCall p s
  | .ret p => Sys2Proof.Machine.execRet p s
  | .loop p => Sys2Proof.Machine.execLoop p s
  | .endl p => Sys2Proof.Machine.execEndl p s
  | .add p => Sys2Proof.Machine.execAdd p s
  | .sub p => Sys2Proof.Machine.execSub p s
  | .and p => Sys2Proof.Machine.execAnd p s
  | .or p => Sys2Proof.Machine.execOr p s
  | .xor p => Sys2Proof.Machine.execXor p s
  | .shl p => Sys2Proof.Machine.execShl p s
  | .shr p => Sys2Proof.Machine.execShr p s
  | .mul p => Sys2Proof.Machine.execMul p s
  | .cmp p => Sys2Proof.Machine.execCmp p s
  | .mov p => Sys2Proof.Machine.execMov p s
  | .movi p => Sys2Proof.Machine.execMovi p s
  | .addi p => Sys2Proof.Machine.execAddi p s
  | .andi p => Sys2Proof.Machine.execAndi p s
  | .cmpi p => Sys2Proof.Machine.execCmpi p s
  | .shli p => Sys2Proof.Machine.execShli p s
  | .shri p => Sys2Proof.Machine.execShri p s
  | .tmov p => Sys2Proof.Machine.execTmov p s
  | .tadd p => Sys2Proof.Machine.execTadd p s
  | .tsub p => Sys2Proof.Machine.execTsub p s
  | .tcmp p => Sys2Proof.Machine.execTcmp p s
  | .taddi p => Sys2Proof.Machine.execTaddi p s
  | .taddg p => Sys2Proof.Machine.execTaddg p s
  | .tmac p => Sys2Proof.Machine.execTmac p s
  | .tdiff p => Sys2Proof.Machine.execTdiff p s
  | .tldl p => Sys2Proof.Machine.execTldl p s
  | .tldh p => Sys2Proof.Machine.execTldh p s
  | .tget p => Sys2Proof.Machine.execTget p s
  | .tput p => Sys2Proof.Machine.execTput p s
  | .now p => Sys2Proof.Machine.execNow p s
  | .ldd p => Sys2Proof.Machine.execLdd p s
  | .tld p => Sys2Proof.Machine.execTld p s
  | .info p => Sys2Proof.Machine.execInfo p s
  | .pulse p => Sys2Proof.Machine.execPulse p s
  | .level p => Sys2Proof.Machine.execLevel p s
  | .emit p => Sys2Proof.Machine.execEmit p s
  | .anchor p => Sys2Proof.Machine.execAnchor p s
  | .cancel p => Sys2Proof.Machine.execCancel p s
  | .waitq p => Sys2Proof.Machine.execWaitq p s
  | .vstart p => Sys2Proof.Machine.execVstart p s
  | .vjump p => Sys2Proof.Machine.execVjump p s
  | .vrate p => Sys2Proof.Machine.execVrate p s
  | .vstop p => Sys2Proof.Machine.execVstop p s
  | .kpost p => Sys2Proof.Machine.execKpost p s
  | .ktake p => Sys2Proof.Machine.execKtake p s
  | .waitt p => Sys2Proof.Machine.execWaitt p s
  | .waite p => Sys2Proof.Machine.execWaite p s
  | .recv p => Sys2Proof.Machine.execRecv p s
  | .trig p => Sys2Proof.Machine.execTrig p s
  | .raise p => Sys2Proof.Machine.execRaise p s
  | .commit p => Sys2Proof.Machine.execCommit p s
  | .undefinedOp p => Sys2Proof.Machine.execUndefinedOp p s
  | .issueRetry p => Sys2Proof.Machine.execIssueRetry p s
  | .waittExpiry p => Sys2Proof.Machine.execWaittExpiry p s
  | .waitDeadlineExpiry p => Sys2Proof.Machine.execWaitDeadlineExpiry p s
  | .waiteRelease p => Sys2Proof.Machine.execWaiteRelease p s
  | .recvRelease p => Sys2Proof.Machine.execRecvRelease p s
  | .ktakeRelease p => Sys2Proof.Machine.execKtakeRelease p s
  | .waitqRelease p => Sys2Proof.Machine.execWaitqRelease p s
  | .commitAnswer p => Sys2Proof.Machine.execCommitAnswer p s
  | .pacerEventArrival e => Sys2Proof.Machine.execPacerEventArrival e s
  | .placeFreed k => Sys2Proof.Machine.execPlaceFreed k s
  | .mailboxEntry p => Sys2Proof.Machine.execMailboxEntry p s
  | .thStart p => Sys2Proof.Machine.execThStart p s
  | .thStop p => Sys2Proof.Machine.execThStop p s
  | .thResume p => Sys2Proof.Machine.execThResume p s
  | .threadActionDue p => Sys2Proof.Machine.execThreadActionDue p s
  | .cmdNop p => Sys2Proof.Machine.execCmdNop p s
  | .cmdPost p => Sys2Proof.Machine.execCmdPost p s
  | .cmdStart p => Sys2Proof.Machine.execCmdStart p s
  | .cmdStop p => Sys2Proof.Machine.execCmdStop p s
  | .cmdResume p => Sys2Proof.Machine.execCmdResume p s
  | .bankCrcGo => Sys2Proof.Machine.execBankCrcGo s
  | .bankCrcDone => Sys2Proof.Machine.execBankCrcDone s
  | .engineStart v => Sys2Proof.Machine.execEngineStart v s
  | .vectorStart v => Sys2Proof.Machine.execVectorStart v s
  | .slotDriveAction v k => Sys2Proof.Machine.execSlotDriveAction v k s
  | .slotStrobe v k => Sys2Proof.Machine.execSlotStrobe v k s
  | .latchPoint v => Sys2Proof.Machine.execLatchPoint v s
  | .segmentBoundary v => Sys2Proof.Machine.execSegmentBoundary v s
  | .jumpArrival v => Sys2Proof.Machine.execJumpArrival v s
  | .engineStop v => Sys2Proof.Machine.execEngineStop v s
  | .rateChange v => Sys2Proof.Machine.execRateChange v s
  | .streamFeedEntry v => Sys2Proof.Machine.execStreamFeedEntry v s
  | .fillComplete v data => Sys2Proof.Machine.execFillComplete v data s
  | .vectorMemoryWrite addr data => Sys2Proof.Machine.execVectorMemoryWrite addr data s
  | .failFirstRearm v => Sys2Proof.Machine.execFailFirstRearm v s
  | .segmentGo a => Sys2Proof.Machine.execSegmentGo a s
  | .segmentRecord => Sys2Proof.Machine.execSegmentRecord s
  | .segstart a => Sys2Proof.Machine.execSegstart a s
  | .seam a => Sys2Proof.Machine.execSeam a s
  | .dry a => Sys2Proof.Machine.execDry a s
  | .targetEntry a => Sys2Proof.Machine.execTargetEntry a s
  | .solveComplete a => Sys2Proof.Machine.execSolveComplete a s
  | .targetTimeout a => Sys2Proof.Machine.execTargetTimeout a s
  | .axisClear a => Sys2Proof.Machine.execAxisClear a s
  | .burstStart k => Sys2Proof.Machine.execBurstStart k s
  | .burstEnd k => Sys2Proof.Machine.execBurstEnd k s
  | .histogramComplete it counts => Sys2Proof.Machine.execHistogramComplete it counts s
  | .histogramTimeout it => Sys2Proof.Machine.execHistogramTimeout it s
  | .trimStep it tap => Sys2Proof.Machine.execTrimStep it tap s
  | .fullRunRequest k dl => Sys2Proof.Machine.execFullRunRequest k dl s
  | .fullRunWithdraw k => Sys2Proof.Machine.execFullRunWithdraw k s
  | .fullRunStart k => Sys2Proof.Machine.execFullRunStart k s
  | .delayPhaseStart k => Sys2Proof.Machine.execDelayPhaseStart k s
  | .thresholdPhaseStart k uv => Sys2Proof.Machine.execThresholdPhaseStart k uv s
  | .thresholdSample k uv => Sys2Proof.Machine.execThresholdSample k uv s
  | .applyPhaseStart k thr => Sys2Proof.Machine.execApplyPhaseStart k thr s
  | .fullRunEnd k => Sys2Proof.Machine.execFullRunEnd k s
  | .requestExpired k => Sys2Proof.Machine.execRequestExpired k s
  | .storeGo => Sys2Proof.Machine.execStoreGo s
  | .autostoreInterval => Sys2Proof.Machine.execAutostoreInterval s
  | .autostoreAfterRun => Sys2Proof.Machine.execAutostoreAfterRun s
  | .pageProgram => Sys2Proof.Machine.execPageProgram s
  | .storeComplete ok => Sys2Proof.Machine.execStoreComplete ok s
  | .settleEnd => Sys2Proof.Machine.execSettleEnd s
  | .bandSearchDone band => Sys2Proof.Machine.execBandSearchDone band s
  | .lockWaitEnd w1 w2 => Sys2Proof.Machine.execLockWaitEnd w1 w2 s
  | .ceilingBackoffEnd => Sys2Proof.Machine.execCeilingBackoffEnd s
  | .gateOpen => Sys2Proof.Machine.execGateOpen s
  | .phaseMonitorTrip => Sys2Proof.Machine.execPhaseMonitorTrip s
  | .ceilingWindow w => Sys2Proof.Machine.execCeilingWindow w s
  | .referenceLost => Sys2Proof.Machine.execReferenceLost s
  | .dcoWordApply => Sys2Proof.Machine.execDcoWordApply s
  | .measurement => Sys2Proof.Machine.execMeasurement s
  | .phaseStep => Sys2Proof.Machine.execPhaseStep s
  | .sourceComparison => Sys2Proof.Machine.execSourceComparison s
  | .dtDistribute => Sys2Proof.Machine.execDtDistribute s
  | .ppsoutPulse => Sys2Proof.Machine.execPpsoutPulse s
  | .ppsoutPulseEnd => Sys2Proof.Machine.execPpsoutPulseEnd s
  | .ppsinEdge rising => Sys2Proof.Machine.execPpsinEdge rising s
  | .ppsinMissing => Sys2Proof.Machine.execPpsinMissing s
  | .stepRequest => Sys2Proof.Machine.execStepRequest s
  | .autoStepRequest => Sys2Proof.Machine.execAutoStepRequest s
  | .stepRetry => Sys2Proof.Machine.execStepRetry s
  | .stepDue => Sys2Proof.Machine.execStepDue s
  | .autorestartRetry => Sys2Proof.Machine.execAutorestartRetry s
  | .portOff c => Sys2Proof.Machine.execPortOff c s
  | .portRun c => Sys2Proof.Machine.execPortRun c s
  | .portSiesta c => Sys2Proof.Machine.execPortSiesta c s
  | .siestaWakeEnd c => Sys2Proof.Machine.execSiestaWakeEnd c s
  | .blockLockGained lane => Sys2Proof.Machine.execBlockLockGained lane s
  | .blockLockLost lane => Sys2Proof.Machine.execBlockLockLost lane s
  | .listenLockHeld c => Sys2Proof.Machine.execListenLockHeld c s
  | .rateStep c => Sys2Proof.Machine.execRateStep c s
  | .bellTimer c => Sys2Proof.Machine.execBellTimer c s
  | .bell c pdu => Sys2Proof.Machine.execBell c pdu s
  | .partnerGone c => Sys2Proof.Machine.execPartnerGone c s
  | .offer c pdu => Sys2Proof.Machine.execOffer c pdu s
  | .offerTimer c => Sys2Proof.Machine.execOfferTimer c s
  | .accept c pdu => Sys2Proof.Machine.execAccept c pdu s
  | .reject c pdu => Sys2Proof.Machine.execReject c pdu s
  | .negotiateTimeout c => Sys2Proof.Machine.execNegotiateTimeout c s
  | .restepTimer c => Sys2Proof.Machine.execRestepTimer c s
  | .stampTimer c => Sys2Proof.Machine.execStampTimer c s
  | .stamp c sync msg => Sys2Proof.Machine.execStamp c sync msg s
  | .estimatorFreeze c => Sys2Proof.Machine.execEstimatorFreeze c s
  | .triggerFrame c pdu => Sys2Proof.Machine.execTriggerFrame c pdu s
  | .axisFrame c pdu => Sys2Proof.Machine.execAxisFrame c pdu s
  | .hostFrame c pdu => Sys2Proof.Machine.execHostFrame c pdu s
  | .messageRingEntry c => Sys2Proof.Machine.execMessageRingEntry c s
  | .testLoopNearSerial c => Sys2Proof.Machine.execTestLoopNearSerial c s
  | .testLoopNearParallel c => Sys2Proof.Machine.execTestLoopNearParallel c s
  | .testLoopFarRetimed c => Sys2Proof.Machine.execTestLoopFarRetimed c s
  | .testLoopEnd c => Sys2Proof.Machine.execTestLoopEnd c s
  | .prbsGen c => Sys2Proof.Machine.execPrbsGen c s
  | .prbsCheck c errs => Sys2Proof.Machine.execPrbsCheck c errs s
  | .frameAdmission c fromHost head => Sys2Proof.Machine.execFrameAdmission c fromHost head s
  | .frameEndReceived c fromHost tail codeErr => Sys2Proof.Machine.execFrameEndReceived c fromHost tail codeErr s
  | .egressStart c toLine => Sys2Proof.Machine.execEgressStart c toLine s
  | .egressEnd c toLine => Sys2Proof.Machine.execEgressEnd c toLine s
  | .ringBeacon r cell => Sys2Proof.Machine.execRingBeacon r cell s
  | .ringHopstamp r cell => Sys2Proof.Machine.execRingHopstamp r cell s
  | .ringCandidate r cell => Sys2Proof.Machine.execRingCandidate r cell s
  | .ringRequest r cell => Sys2Proof.Machine.execRingRequest r cell s
  | .ringPrepare r cell => Sys2Proof.Machine.execRingPrepare r cell s
  | .ringAnswer r cell => Sys2Proof.Machine.execRingAnswer r cell s
  | .ringConfirm r cell => Sys2Proof.Machine.execRingConfirm r cell s
  | .ringAbandon r cell => Sys2Proof.Machine.execRingAbandon r cell s
  | .ringTrigger r cell => Sys2Proof.Machine.execRingTrigger r cell s
  | .coordinatorDeadline => Sys2Proof.Machine.execCoordinatorDeadline s
  | .beaconTimer => Sys2Proof.Machine.execBeaconTimer s
  | .hopstampTimer => Sys2Proof.Machine.execHopstampTimer s
  | .hopEstimatorFreeze port => Sys2Proof.Machine.execHopEstimatorFreeze port s
  | .ringLost x => Sys2Proof.Machine.execRingLost x s
  | .ringReturn => Sys2Proof.Machine.execRingReturn s
  | .seekTimeout => Sys2Proof.Machine.execSeekTimeout s
  | .holdoverTimeout => Sys2Proof.Machine.execHoldoverTimeout s
  | .electWindowEnd => Sys2Proof.Machine.execElectWindowEnd s
  | .join => Sys2Proof.Machine.execJoin s
  | .heartbeatTimer => Sys2Proof.Machine.execHeartbeatTimer s
  | .heartbeat pdu => Sys2Proof.Machine.execHeartbeat pdu s
  | .relayFrame pdu => Sys2Proof.Machine.execRelayFrame pdu s
  | .heartbeatMissing => Sys2Proof.Machine.execHeartbeatMissing s
  | .evidenceMismatch k levelMismatch => Sys2Proof.Machine.execEvidenceMismatch k levelMismatch s
  | .netClear => Sys2Proof.Machine.execNetClear s
  | .vacancyTimer => Sys2Proof.Machine.execVacancyTimer s
  | .handoverCheck => Sys2Proof.Machine.execHandoverCheck s
  | .handoverSwitch => Sys2Proof.Machine.execHandoverSwitch s
  | .refereeKick => Sys2Proof.Machine.execRefereeKick s
  | .watchdogKickTimeout => Sys2Proof.Machine.execWatchdogKickTimeout s
  | .tcxoLoss => Sys2Proof.Machine.execTcxoLoss s
  | .netfault => Sys2Proof.Machine.execNetfault s
  | .brakeEnter => Sys2Proof.Machine.execBrakeEnter s
  | .brakeExit => Sys2Proof.Machine.execBrakeExit s
  | .hostReset => Sys2Proof.Machine.execHostReset s
  | .bar2Write bus addr data => Sys2Proof.Machine.execBar2Write bus addr data s
  | .prodDoorbell q n => Sys2Proof.Machine.execProdDoorbell q n s
  | .consDoorbell q rx n => Sys2Proof.Machine.execConsDoorbell q rx n s
  | .ringEnable q rx cfg => Sys2Proof.Machine.execRingEnable q rx cfg s
  | .ringDisable q rx cfg => Sys2Proof.Machine.execRingDisable q rx cfg s
  | .ringFetch q x => Sys2Proof.Machine.execRingFetch q x s
  | .dmaReadError q => Sys2Proof.Machine.execDmaReadError q s
  | .ringEntryWrite q x => Sys2Proof.Machine.execRingEntryWrite q x s
  | .writeback q rx => Sys2Proof.Machine.execWriteback q rx s
  | .eventOccurrence e => Sys2Proof.Machine.execEventOccurrence e s
  | .holdoffExpiry v => Sys2Proof.Machine.execHoldoffExpiry v s
  | .vectorUnmask v => Sys2Proof.Machine.execVectorUnmask v s
  | .eventStatusClear n mask again => Sys2Proof.Machine.execEventStatusClear n mask again s
  | .spiReadStatus => Sys2Proof.Machine.execSpiReadStatus s
  | .spiReadBar0 addr slow => Sys2Proof.Machine.execSpiReadBar0 addr slow s
  | .spiWriteBar0 addr val => Sys2Proof.Machine.execSpiWriteBar0 addr val s
  | .spiReadBar2 addr slow => Sys2Proof.Machine.execSpiReadBar2 addr slow s
  | .spiWriteBar2 addr val => Sys2Proof.Machine.execSpiWriteBar2 addr val s
  | .spiUnknownOpcode op => Sys2Proof.Machine.execSpiUnknownOpcode op s
  | .spiFrameEnd => Sys2Proof.Machine.execSpiFrameEnd s
  | .flashRead => Sys2Proof.Machine.execFlashRead s
  | .flashProgram => Sys2Proof.Machine.execFlashProgram s
  | .flashErase => Sys2Proof.Machine.execFlashErase s
  | .flashOpComplete ok => Sys2Proof.Machine.execFlashOpComplete ok s
  | .pcieRefclkLoss => Sys2Proof.Machine.execPcieRefclkLoss s
  | .vinApplied => Sys2Proof.Machine.execVinApplied s
  | .enSample en pins => Sys2Proof.Machine.execEnSample en pins s
  | .startUp => Sys2Proof.Machine.execStartUp s
  | .softStartEnd cbus => Sys2Proof.Machine.execSoftStartEnd cbus s
  | .softStartTimeout => Sys2Proof.Machine.execSoftStartTimeout s
  | .railUp => Sys2Proof.Machine.execRailUp s
  | .railTimeout => Sys2Proof.Machine.execRailTimeout s
  | .dawnEntry => Sys2Proof.Machine.execDawnEntry s
  | .dayRequest => Sys2Proof.Machine.execDayRequest s
  | .duskRequest => Sys2Proof.Machine.execDuskRequest s
  | .enLow => Sys2Proof.Machine.execEnLow s
  | .brownout => Sys2Proof.Machine.execBrownout s
  | .overvoltage => Sys2Proof.Machine.execOvervoltage s
  | .ridethru => Sys2Proof.Machine.execRidethru s
  | .brownoutTimeout => Sys2Proof.Machine.execBrownoutTimeout s
  | .vbusLow => Sys2Proof.Machine.execVbusLow s
  | .overcurrent => Sys2Proof.Machine.execOvercurrent s
  | .railFault => Sys2Proof.Machine.execRailFault s
  | .tempMeasure temp => Sys2Proof.Machine.execTempMeasure temp s
  | .overtemp => Sys2Proof.Machine.execOvertemp s
  | .duskGateClose => Sys2Proof.Machine.execDuskGateClose s
  | .duskRailsDown => Sys2Proof.Machine.execDuskRailsDown s
  | .nightEntry => Sys2Proof.Machine.execNightEntry s
  | .holdupRefresh vin vbus pin => Sys2Proof.Machine.execHoldupRefresh vin vbus pin s
  | .velFault => Sys2Proof.Machine.execVelFault s
  | .pcieLinkTrained speed width => Sys2Proof.Machine.execPcieLinkTrained speed width s

end Sys2Proof.Machine
end

