-- ==== Sys2Proof/Machine/Step.lean ====
section
/-! DEFINITION. One step: the command at the front of the queue, or, on an empty queue, the passing of one ft. -/

namespace Sys2Proof.Machine

/-- One ft passes (R6, R7): the elapsed time advances, and Device Time with it while its count runs (log entry 1). On
the holdover counter the count is what its TCXO cycles have added (R240); in a cycle that the interpolators lengthen or
shorten, one ft of elapsed time brings no count, or one ft of count takes no elapsed time (R238, R239). -/
def State.tick (s : State) : State :=
  if !s.dtRuns then { s with clock := s.clock + 1 }
  else match s.hub.ho with
    | some h => { s with clock := s.clock + 1, dt := h.count (s.clock + 1) }
    | none =>
      if s.hub.piStep < 0 then { s with clock := s.clock + 1, hub := { s.hub with piStep := 0 } }
      else if 0 < s.hub.piStep then { s with dt := s.dt + 1, hub := { s.hub with piStep := 0 } }
      else { s with clock := s.clock + 1, dt := s.dt + 1 }

/-- One ft passes, and the ring links, free again or not, take the next cells that wait for them (R322, R323). -/
def State.idle (s : State) : State := runLink .p (runLink .n s.tick)

/-- One step of the module. -/
def step (s : State) : Host.Outcome State Fault Refusal :=
  match s.pending with
  | [] => .next s.idle
  | c :: rest => exec c { s with pending := rest }

/-- The command that a word of the opcode table spells, put at the front of the queue; the table gives no bits. -/
def State.withFetchWord (s : State) (nbits w : Nat) : State :=
  match decodeTableWord nbits w with
  | some c => { s with pending := c :: s.pending }
  | none => s

end Sys2Proof.Machine
end

