-- ==== Sys2Proof/Safety.lean ====
section
/-! DEFINITION. What claims about a run are stated in: when the module goes on, when its memories are in canonical form,
what stands outside some parts of the state, which parts and which instances a command may change, and when a Pacer
thread issues a given instruction. -/

namespace Sys2Proof.Machine

/-- The module goes on: its step is neither a fault nor a refusal. -/
def State.goesOn (s : State) : Prop := ∃ t, step s = .next t

/-- A safe run of `n` steps: no step on the way is a fault or a refusal. -/
def State.runsOn : Nat → State → Prop
  | 0, _ => True
  | n + 1, s => ∃ t, step s = .next t ∧ State.runsOn n t

/-- BAR2 memory and the module flash are in canonical form: addresses strictly rising, nothing listed that an unlisted
address reads as. -/
def Memory.wf (s : State) : Bool := canon memDflt s.mem && canon flashDflt s.flash

/-- Every command in the queue is one the outside can put. -/
def State.queueWf (s : State) : Bool := s.pending.all Instr.wf

/-! ### Parts of the state -/

/-- Some of the top-level parts of the state. -/
structure Parts where
  pending : Bool := false
  clock : Bool := false
  dt : Bool := false
  dtRuns : Bool := false
  phase : Bool := false
  shadow : Bool := false
  imm : Bool := false
  isl : Bool := false
  commit : Bool := false
  snap : Bool := false
  /-- The occurrences on their way, with what is kept of those dropped (R47). -/
  occs : Bool := false
  outbox : Bool := false
  posted : Bool := false
  mem : Bool := false
  flash : Bool := false
  spokes : Bool := false
  pacer : Bool := false
  /-- Of Pacer, the event path's latch alone (R135). -/
  latch : Bool := false
  engines : Bool := false
  crank : Bool := false
  truing : Bool := false
  hub : Bool := false
  noon : Bool := false
  ports : Bool := false
  fw : Bool := false
  stoker : Bool := false
  pair : Bool := false
  hb : Bool := false
  dyn : Bool := false
  deriving DecidableEq, Repr

/-- The state with the parts of `q` put to their reset values: what stands outside them. The fused identity stands
outside whatever `q` says. -/
def State.outside (q : Parts) (s : State) : State :=
  { pending := if q.pending then State.reset.pending else s.pending
    clock := if q.clock then State.reset.clock else s.clock
    dt := if q.dt then State.reset.dt else s.dt
    dtRuns := if q.dtRuns then State.reset.dtRuns else s.dtRuns
    phase := if q.phase then State.reset.phase else s.phase
    shadow := if q.shadow then State.reset.shadow else s.shadow
    imm := if q.imm then State.reset.imm else s.imm
    isl := if q.isl then State.reset.isl else s.isl
    commit := if q.commit then State.reset.commit else s.commit
    snap := if q.snap then State.reset.snap else s.snap
    occs := if q.occs then State.reset.occs else s.occs
    evDrops := if q.occs then State.reset.evDrops else s.evDrops
    evOwed := if q.occs then State.reset.evOwed else s.evOwed
    outbox := if q.outbox then State.reset.outbox else s.outbox
    posted := if q.posted then State.reset.posted else s.posted
    mem := if q.mem then State.reset.mem else s.mem
    flash := if q.flash then State.reset.flash else s.flash
    spokes := if q.spokes then State.reset.spokes else s.spokes
    pacer := if q.pacer then State.reset.pacer
      else if q.latch then { s.pacer with latch := State.reset.pacer.latch } else s.pacer
    engines := if q.engines then State.reset.engines else s.engines
    crank := if q.crank then State.reset.crank else s.crank
    truing := if q.truing then State.reset.truing else s.truing
    hub := if q.hub then State.reset.hub else s.hub
    noon := if q.noon then State.reset.noon else s.noon
    ports := if q.ports then State.reset.ports else s.ports
    fw := if q.fw then State.reset.fw else s.fw
    stoker := if q.stoker then State.reset.stoker else s.stoker
    pair := if q.pair then State.reset.pair else s.pair
    hb := if q.hb then { State.reset.hb with fuse := s.hb.fuse } else s.hb
    dyn := if q.dyn then State.reset.dyn else s.dyn }

/-! ### What a command may change -/

/-- The parts of the state a command may change; of Handlebar, never the fuses. -/
def mayChange : Instr → Parts
  | .commitGo | .armed _ | .notArmed _ | .commit _ | .stepRequest | .autoStepRequest | .stepRetry
  | .autorestartRetry | .ringRequest _ _ | .ringPrepare _ _ | .ringAnswer _ _ | .ringAbandon _ _
  | .coordinatorDeadline | .relayFrame _ =>
    { isl := true, commit := true, occs := true, pacer := true, latch := true, hub := true, noon := true,
      stoker := true, pair := true }
  | .prepare _ =>
    { isl := true, commit := true, pacer := true, hub := true }
  | .noarmDeadline =>
    { isl := true, commit := true, occs := true, pacer := true, latch := true, hub := true }
  | .confirm _ | .abandon _ =>
    { isl := true }
  | .pendingCopyDiscard _ =>
    { isl := true, commit := true, occs := true, pacer := true, latch := true, hub := true, stoker := true }
  | .commitSwap =>
    { isl := true, commit := true, occs := true, spokes := true, pacer := true, latch := true, engines := true,
      crank := true, truing := true, hub := true, noon := true, ports := true, fw := true, stoker := true,
      pair := true }
  | .retireHoldExpiry _ =>
    { isl := true, spokes := true }
  | .multiwordReadLatch _ _ | .eventStatusClear _ _ _ | .spiReadStatus | .spiReadBar0 _ _ | .spiReadBar2 _ _
  | .spiUnknownOpcode _ | .spiFrameEnd | .flashRead | .flashProgram | .flashErase | .pcieRefclkLoss
  | .pcieLinkTrained _ _ =>
    { hb := true }
  | .registerWrite _ _ _ | .spiWriteBar0 _ _ =>
    { shadow := true, imm := true, isl := true, commit := true, snap := true, occs := true, outbox := true,
      posted := true, spokes := true, pacer := true, latch := true, engines := true, crank := true, truing := true,
      hub := true, noon := true, ports := true, fw := true, stoker := true, pair := true, hb := true, dyn := true }
  | .partialWrite _ _ _ | .prodDoorbell _ _ | .consDoorbell _ _ _ =>
    { occs := true, latch := true, hb := true }
  | .periodicSnapshot | .snapshotLatch | .snapshotComplete =>
    { snap := true, occs := true, latch := true }
  | .snapshotRequest =>
    { snap := true }
  | .anchorDescriptor _ | .descriptorKindInvalid _ | .pulse _ | .level _ | .emit _ | .anchor _ | .cancel _ =>
    { occs := true, spokes := true, pacer := true, latch := true }
  | .pulseDescriptor _ | .burstDescriptor _ | .trainDescriptor _ | .levelDescriptor _ | .windowDescriptor _ =>
    { isl := true, occs := true, spokes := true, pacer := true, latch := true, truing := true }
  | .leadingEdge _ | .trailingEdge _ | .levelChange _ =>
    { isl := true, occs := true, spokes := true, latch := true, truing := true, pair := true }
  | .windowOpen _ | .spokeCancelGo _ =>
    { spokes := true }
  | .windowClose _ | .cancelDue _ =>
    { isl := true, occs := true, outbox := true, spokes := true, latch := true, truing := true }
  | .pinCrossing _ _ =>
    { occs := true, outbox := true, spokes := true, latch := true, engines := true, pair := true }
  | .modeChange _ | .modeChangeIntervalEnd _ | .fullRunStart _ =>
    { spokes := true, truing := true }
  | .nop _ | .halt _ | .b _ | .call _ | .ret _ | .loop _ | .endl _ | .add _ | .sub _ | .and _ | .or _ | .xor _
  | .shl _ | .shr _ | .mul _ | .cmp _ | .mov _ | .movi _ | .addi _ | .andi _ | .cmpi _ | .shli _ | .shri _
  | .tmov _ | .tadd _ | .tsub _ | .tcmp _ | .taddi _ | .taddg _ | .tmac _ | .tdiff _ | .tldl _ | .tldh _ | .tget _
  | .tput _ | .now _ | .ldd _ | .tld _ | .info _ | .waitq _ | .waitt _ | .waite _ | .recv _ | .raise _
  | .undefinedOp _ | .mailboxEntry _ | .thStart _ | .thStop _ | .thResume _ | .cmdNop _ | .cmdPost _ | .cmdStart _
  | .cmdStop _ | .cmdResume _ =>
    { occs := true, pacer := true, latch := true }
  | .vstart _ | .vjump _ | .vrate _ | .vstop _ =>
    { occs := true, pacer := true, latch := true, engines := true }
  | .kpost _ | .ktake _ | .threadActionDue _ =>
    { occs := true, pacer := true, latch := true, crank := true }
  | .trig _ =>
    { occs := true, pacer := true, latch := true, ports := true, stoker := true, pair := true }
  | .issueRetry _ =>
    { occs := true, spokes := true, pacer := true, latch := true, engines := true, ports := true, stoker := true,
      pair := true }
  | .waittExpiry _ | .waitDeadlineExpiry _ | .waiteRelease _ | .recvRelease _ | .waitqRelease _ | .commitAnswer _
  | .bankCrcGo | .bankCrcDone =>
    { pacer := true }
  | .ktakeRelease _ =>
    { pacer := true, crank := true }
  | .pacerEventArrival _ =>
    { pacer := true, latch := true }
  | .placeFreed _ =>
    { spokes := true, pacer := true }
  | .engineStart _ | .latchPoint _ | .jumpArrival _ | .rateChange _ =>
    { occs := true, latch := true, engines := true }
  | .vectorStart _ =>
    { isl := true, occs := true, spokes := true, latch := true, engines := true, truing := true }
  | .slotDriveAction _ _ =>
    { occs := true, spokes := true, latch := true, engines := true, pair := true }
  | .slotStrobe _ _ =>
    { occs := true, outbox := true, spokes := true, latch := true, engines := true }
  | .segmentBoundary _ | .engineStop _ =>
    { isl := true, occs := true, latch := true, engines := true, truing := true }
  | .streamFeedEntry _ | .dmaReadError _ =>
    { occs := true, latch := true, engines := true, hb := true }
  | .fillComplete _ _ | .vectorMemoryWrite _ _ =>
    { occs := true, mem := true, latch := true, engines := true }
  | .failFirstRearm _ =>
    { engines := true }
  | .segmentGo _ =>
    { crank := true }
  | .segmentRecord | .segstart _ | .seam _ | .dry _ | .targetEntry _ | .solveComplete _ | .targetTimeout _
  | .axisClear _ =>
    { occs := true, latch := true, crank := true }
  | .burstStart _ | .burstEnd _ | .delayPhaseStart _ | .thresholdPhaseStart _ _ | .thresholdSample _ _
  | .applyPhaseStart _ _ | .storeGo | .autostoreInterval | .autostoreAfterRun =>
    { truing := true }
  | .histogramComplete _ _ | .histogramTimeout _ | .trimStep _ _ | .fullRunWithdraw _ | .requestExpired _
  | .pageProgram | .storeComplete _ =>
    { occs := true, latch := true, truing := true }
  | .fullRunRequest _ _ =>
    { imm := true, occs := true, latch := true, truing := true }
  | .fullRunEnd _ =>
    { occs := true, spokes := true, latch := true, truing := true }
  | .settleEnd | .bandSearchDone _ | .ceilingBackoffEnd =>
    { hub := true }
  | .lockWaitEnd _ _ =>
    { occs := true, latch := true, hub := true }
  | .gateOpen =>
    { dt := true, dtRuns := true, isl := true, commit := true, occs := true, spokes := true, pacer := true,
      latch := true, engines := true, crank := true, truing := true, hub := true, noon := true, ports := true,
      fw := true, stoker := true, pair := true, dyn := true }
  | .phaseMonitorTrip | .ceilingWindow _ | .referenceLost =>
    { isl := true, occs := true, spokes := true, latch := true, engines := true, truing := true, hub := true,
      ports := true, fw := true, pair := true }
  | .dcoWordApply =>
    { hub := true, noon := true }
  | .measurement | .phaseStep =>
    { occs := true, latch := true, hub := true, noon := true }
  | .sourceComparison =>
    { isl := true, occs := true, spokes := true, latch := true, engines := true, truing := true, hub := true,
      noon := true, ports := true, fw := true, pair := true }
  | .dtDistribute | .ppsoutPulseEnd =>
    { noon := true }
  | .ppsoutPulse | .ppsinEdge _ | .ppsinMissing =>
    { occs := true, latch := true, noon := true }
  | .stepDue =>
    { dt := true, isl := true, occs := true, outbox := true, spokes := true, pacer := true, latch := true,
      crank := true, truing := true, hub := true, noon := true, pair := true, hb := true }
  | .portOff _ | .portRun _ | .portSiesta _ | .siestaWakeEnd _ | .partnerGone _ | .negotiateTimeout _
  | .restepTimer _ | .testLoopEnd _ | .prbsGen _ | .prbsCheck _ _ =>
    { isl := true, occs := true, latch := true, ports := true, fw := true }
  | .blockLockGained _ | .blockLockLost _ =>
    { isl := true, occs := true, latch := true, ports := true, fw := true, pair := true }
  | .listenLockHeld _ | .offerTimer _ | .estimatorFreeze _ | .testLoopNearSerial _ | .testLoopNearParallel _
  | .testLoopFarRetimed _ =>
    { occs := true, latch := true, ports := true }
  | .rateStep _ | .bellTimer _ | .stampTimer _ =>
    { ports := true }
  | .bell _ _ | .egressEnd _ _ =>
    { isl := true, occs := true, outbox := true, latch := true, ports := true, fw := true, hb := true }
  | .offer _ _ | .accept _ _ | .reject _ _ | .hostFrame _ _ =>
    { occs := true, outbox := true, latch := true, ports := true, hb := true }
  | .stamp _ _ _ =>
    { occs := true, latch := true, noon := true, ports := true }
  | .triggerFrame _ _ =>
    { occs := true, pacer := true, latch := true, ports := true }
  | .axisFrame _ _ =>
    { occs := true, latch := true, crank := true, ports := true }
  | .messageRingEntry _ =>
    { occs := true, latch := true, ports := true, hb := true }
  | .frameAdmission _ _ _ =>
    { occs := true, latch := true, fw := true }
  | .frameEndReceived _ _ _ _ =>
    { isl := true, occs := true, outbox := true, pacer := true, latch := true, crank := true, noon := true,
      ports := true, fw := true, hb := true }
  | .egressStart _ _ =>
    { isl := true, occs := true, latch := true, fw := true }
  | .ringBeacon _ _ | .ringCandidate _ _ | .holdoverTimeout =>
    { occs := true, latch := true, stoker := true, pair := true }
  | .ringHopstamp _ _ | .seekTimeout =>
    { occs := true, latch := true, noon := true, stoker := true, pair := true }
  | .ringConfirm _ _ =>
    { isl := true, commit := true, occs := true, latch := true, noon := true, stoker := true, pair := true }
  | .ringTrigger _ _ =>
    { occs := true, pacer := true, latch := true, stoker := true, pair := true }
  | .beaconTimer =>
    { stoker := true, pair := true }
  | .hopstampTimer =>
    { stoker := true }
  | .hopEstimatorFreeze _ | .ringLost _ | .ringReturn =>
    { occs := true, latch := true, stoker := true }
  | .electWindowEnd =>
    { occs := true, latch := true, noon := true, stoker := true }
  | .join =>
    { dt := true, isl := true, commit := true, occs := true, outbox := true, spokes := true, pacer := true,
      latch := true, crank := true, truing := true, hub := true, noon := true, stoker := true, pair := true,
      hb := true }
  | .heartbeatTimer | .heartbeatMissing | .netClear | .vacancyTimer | .handoverCheck | .handoverSwitch
  | .watchdogKickTimeout | .tcxoLoss | .netfault | .brakeEnter | .brakeExit =>
    { occs := true, latch := true, pair := true }
  | .heartbeat _ =>
    { occs := true, spokes := true, latch := true, noon := true, pair := true }
  | .evidenceMismatch _ _ =>
    { occs := true, spokes := true, latch := true, pair := true }
  | .refereeKick =>
    { pair := true }
  | .hostReset =>
    { outbox := true, posted := true, latch := true, ports := true, hb := true }
  | .bar2Write _ _ _ =>
    { occs := true, mem := true, pacer := true, latch := true, engines := true }
  | .ringEnable _ _ _ | .eventOccurrence _ =>
    { occs := true, posted := true, latch := true, hb := true }
  | .ringDisable _ _ _ =>
    { outbox := true, posted := true, ports := true, hb := true }
  | .ringFetch _ _ =>
    { pacer := true, engines := true, ports := true, hb := true }
  | .ringEntryWrite _ _ =>
    { outbox := true, posted := true, spokes := true, ports := true, hb := true }
  | .writeback _ _ | .holdoffExpiry _ | .vectorUnmask _ =>
    { posted := true, hb := true }
  | .spiWriteBar2 _ _ =>
    { occs := true, mem := true, pacer := true, latch := true, engines := true, hb := true }
  | .flashOpComplete _ =>
    { flash := true, hb := true }
  | .vinApplied =>
    { dt := true, dtRuns := true, phase := true, shadow := true, imm := true, isl := true, commit := true,
      snap := true, occs := true, outbox := true, posted := true, mem := true, spokes := true, pacer := true,
      engines := true, crank := true, truing := true, hub := true, noon := true, ports := true, fw := true,
      stoker := true, pair := true, hb := true, dyn := true }
  | .enSample _ _ | .softStartTimeout | .railTimeout | .duskRequest | .enLow | .brownout | .brownoutTimeout
  | .vbusLow | .overcurrent | .railFault | .overtemp =>
    { occs := true, latch := true, hub := true, stoker := true, pair := true, dyn := true }
  | .startUp | .nightEntry | .holdupRefresh _ _ _ =>
    { dyn := true }
  | .softStartEnd _ | .overvoltage | .ridethru | .velFault =>
    { occs := true, latch := true, dyn := true }
  | .railUp =>
    { dt := true, dtRuns := true, phase := true, shadow := true, imm := true, isl := true, commit := true,
      snap := true, occs := true, outbox := true, posted := true, mem := true, spokes := true, pacer := true,
      latch := true, engines := true, crank := true, truing := true, hub := true, noon := true, ports := true,
      fw := true, stoker := true, pair := true, hb := true, dyn := true }
  | .dawnEntry =>
    { occs := true, latch := true, hub := true, pair := true, dyn := true }
  | .dayRequest =>
    { occs := true, latch := true, hub := true, dyn := true }
  | .tempMeasure _ =>
    { occs := true, latch := true, truing := true, dyn := true }
  | .duskGateClose =>
    { isl := true, occs := true, spokes := true, latch := true, engines := true, truing := true, hub := true,
      ports := true, fw := true, stoker := true, pair := true, hb := true, dyn := true }
  | .duskRailsDown =>
    { dt := true, dtRuns := true, phase := true, shadow := true, imm := true, isl := true, commit := true,
      snap := true, occs := true, outbox := true, posted := true, mem := true, flash := true, spokes := true,
      pacer := true, engines := true, crank := true, truing := true, hub := true, noon := true, ports := true,
      fw := true, stoker := true, pair := true, hb := true, dyn := true }

/-! ### Instances -/

/-- One instance of the units the module holds several of. -/
inductive Which where
  | spoke (i : SpokeId)
  | thread (p : ThreadId)
  | engine (v : EngineId)
  | axis (a : AxisId)
  | port (c : PortId)
  deriving DecidableEq, Repr

/-- The other instances of the same unit are as they were; of an engine, all but how far its stream fill is known to have
come, which the active regions of every engine bear on (R166). -/
def Which.othersKept : Which → State → State → Prop
  | .spoke i, s, t => ∀ j, j ≠ i → t.spoke j = s.spoke j
  | .thread p, s, t => ∀ j, j ≠ p → t.thread j = s.thread j
  | .engine v, s, t => ∀ j, j ≠ v → t.engine j = { s.engine j with fill := (t.engine j).fill }
  | .axis a, s, t => ∀ j, j ≠ a → t.axis j = s.axis j
  | .port c, s, t => ∀ j, j ≠ c → t.port j = s.port j

/-- The instances a command is about, where it changes no other instance of the same unit. COMMIT is not among them: the
commit that gives its place to it may be another thread's (R29). -/
def actsOn : Instr → List Which
  | .retireHoldExpiry i | .anchorDescriptor i | .pulseDescriptor i | .burstDescriptor i | .trainDescriptor i
  | .levelDescriptor i | .windowDescriptor i | .descriptorKindInvalid i | .leadingEdge i | .trailingEdge i
  | .levelChange i | .windowOpen i | .windowClose i | .pinCrossing i _ | .modeChange i | .modeChangeIntervalEnd i
  | .spokeCancelGo i | .cancelDue i | .placeFreed i | .fullRunStart i | .fullRunEnd i
  | .evidenceMismatch i _ => [.spoke i]
  | .nop p | .halt p | .b p | .call p | .ret p | .loop p | .endl p | .add p | .sub p | .and p | .or p | .xor p
  | .shl p | .shr p | .mul p | .cmp p | .mov p | .movi p | .addi p | .andi p | .cmpi p | .shli p | .shri p | .tmov p
  | .tadd p | .tsub p | .tcmp p | .taddi p | .taddg p | .tmac p | .tdiff p | .tldl p | .tldh p | .tget p | .tput p
  | .now p | .ldd p | .tld p | .info p | .pulse p | .level p | .emit p | .anchor p | .cancel p | .waitq p | .vstart p
  | .vjump p | .vrate p | .vstop p | .kpost p | .ktake p | .waitt p | .waite p | .recv p | .trig p | .raise p
  | .undefinedOp p | .issueRetry p | .waittExpiry p | .waitDeadlineExpiry p | .waiteRelease p
  | .recvRelease p | .ktakeRelease p | .waitqRelease p | .commitAnswer p | .mailboxEntry p | .thStart p | .thStop p
  | .thResume p | .threadActionDue p | .cmdNop p | .cmdPost p | .cmdStart p | .cmdStop p | .cmdResume p => [.thread p]
  | .engineStart v | .vectorStart v | .latchPoint v | .segmentBoundary v | .jumpArrival v | .engineStop v
  | .rateChange v | .streamFeedEntry v | .failFirstRearm v => [.engine v]
  | .slotDriveAction v i | .slotStrobe v i => [.engine v, .spoke i]
  | .segmentGo a | .segstart a | .seam a | .dry a | .targetEntry a | .solveComplete a | .targetTimeout a
  | .axisClear a => [.axis a]
  | .portOff c | .portRun c | .portSiesta c | .siestaWakeEnd c | .listenLockHeld c | .rateStep c | .bellTimer c
  | .bell c _ | .partnerGone c | .offer c _ | .offerTimer c | .accept c _ | .reject c _ | .negotiateTimeout c
  | .restepTimer c | .stampTimer c | .stamp c _ _ | .estimatorFreeze c | .triggerFrame c _ | .axisFrame c _
  | .hostFrame c _ | .messageRingEntry c | .testLoopNearSerial c | .testLoopNearParallel c | .testLoopFarRetimed c
  | .testLoopEnd c | .prbsGen c | .prbsCheck c _ | .frameEndReceived c _ _ _ | .egressEnd c _ => [.port c]
  | .commit _ | .commitGo | .prepare _ | .armed _ | .notArmed _ | .noarmDeadline | .confirm _ | .abandon _
  | .pendingCopyDiscard _ | .commitSwap | .multiwordReadLatch _ _ | .registerWrite _ _ _ | .partialWrite _ _ _
  | .periodicSnapshot | .snapshotRequest | .snapshotLatch | .snapshotComplete | .pacerEventArrival _ | .bankCrcGo
  | .bankCrcDone | .fillComplete _ _ | .vectorMemoryWrite _ _ | .segmentRecord | .burstStart _ | .burstEnd _
  | .histogramComplete _ _ | .histogramTimeout _ | .trimStep _ _ | .fullRunRequest _ _ | .fullRunWithdraw _
  | .delayPhaseStart _ | .thresholdPhaseStart _ _ | .thresholdSample _ _ | .applyPhaseStart _ _ | .requestExpired _
  | .storeGo | .autostoreInterval | .autostoreAfterRun | .pageProgram | .storeComplete _ | .settleEnd
  | .bandSearchDone _ | .lockWaitEnd _ _ | .ceilingBackoffEnd | .gateOpen | .phaseMonitorTrip | .ceilingWindow _
  | .referenceLost | .dcoWordApply | .measurement | .phaseStep | .sourceComparison | .dtDistribute | .ppsoutPulse
  | .ppsoutPulseEnd | .ppsinEdge _ | .ppsinMissing | .stepRequest | .autoStepRequest | .stepRetry | .stepDue
  | .autorestartRetry | .blockLockGained _ | .blockLockLost _ | .frameAdmission _ _ _ | .egressStart _ _
  | .ringBeacon _ _ | .ringHopstamp _ _ | .ringCandidate _ _ | .ringRequest _ _ | .ringPrepare _ _ | .ringAnswer _ _
  | .ringConfirm _ _ | .ringAbandon _ _ | .ringTrigger _ _ | .coordinatorDeadline | .beaconTimer | .hopstampTimer
  | .hopEstimatorFreeze _ | .ringLost _ | .ringReturn | .seekTimeout | .holdoverTimeout | .electWindowEnd | .join
  | .heartbeatTimer | .heartbeat _ | .relayFrame _ | .heartbeatMissing | .netClear
  | .vacancyTimer | .handoverCheck | .handoverSwitch | .refereeKick | .watchdogKickTimeout | .tcxoLoss | .netfault
  | .brakeEnter | .brakeExit | .hostReset | .bar2Write _ _ _ | .prodDoorbell _ _ | .consDoorbell _ _ _
  | .ringEnable _ _ _ | .ringDisable _ _ _ | .ringFetch _ _ | .dmaReadError _ | .ringEntryWrite _ _ | .writeback _ _
  | .eventOccurrence _ | .holdoffExpiry _ | .vectorUnmask _ | .eventStatusClear _ _ _ | .spiReadStatus
  | .spiReadBar0 _ _ | .spiWriteBar0 _ _ | .spiReadBar2 _ _ | .spiWriteBar2 _ _ | .spiUnknownOpcode _ | .spiFrameEnd
  | .flashRead | .flashProgram | .flashErase | .flashOpComplete _ | .pcieRefclkLoss | .vinApplied | .enSample _ _
  | .startUp | .softStartEnd _ | .softStartTimeout | .railUp | .railTimeout | .dawnEntry | .dayRequest | .duskRequest
  | .enLow | .brownout | .overvoltage | .ridethru | .brownoutTimeout | .vbusLow | .overcurrent | .railFault
  | .tempMeasure _ | .overtemp | .duskGateClose | .duskRailsDown | .nightEntry | .holdupRefresh _ _ _ | .velFault
  | .pcieLinkTrained _ _ => []

/-! ### Stops -/

/-- An access to BAR0 that is not aligned to 4 octets (R359). -/
def misaligned : Instr → Bool
  | .registerWrite _ off _ | .multiwordReadLatch _ off | .partialWrite off _ _ => off.toNat % 4 != 0
  | .spiReadBar0 addr _ | .spiWriteBar0 addr _ => addr.toNat < 2 ^ 20 && addr.toNat % 4 != 0
  | _ => false

/-! ### Stored octets -/

/-- A write of `data` from `addr` on has an enabled octet at `a`. -/
def covers (addr : Nat) (data : List (Option Byte)) (a : Nat) : Bool :=
  addr ≤ a && (match data[a - addr]? with | some (some _) => true | _ => false)

/-- Octets of an instruction bank can be written: the shadow bank's, unless it is locked (R128, R130). -/
def State.bankOpen (s : State) (bank : Bool) : Bool := bank != s.pacer.bank && !s.pacer.locked

/-- A write of `data` to BAR2 from `addr` on stores to octet `a`: in vector memory outside the active regions, in a bank
that can be written, and nowhere else (R130, R156, R361). -/
def State.bar2Stores (s : State) (addr : Nat) (data : List (Option Byte)) (a : Nat) : Bool :=
  if a < 0x800000 then covers addr (allowed s addr (data.take (0x800000 - addr))) a
  else if a < 0x820000 then s.bankOpen false && covers addr data a
  else a < 0x840000 && s.bankOpen true && covers addr data a

/-- A command may store to octet `a` of BAR2 memory. With the rails down the memory loses everything. -/
def storesTo (i : Instr) (s : State) (a : Nat) : Bool :=
  match i with
  | .vectorMemoryWrite addr data => covers addr.toNat (allowed s addr.toNat data) a
  | .bar2Write _ addr data => s.bar2Stores addr.toNat data a
  | .spiWriteBar2 addr val => s.bar2Stores addr.toNat ((leOctets 4 val.toNat).map some) a
  | .fillComplete v _ => match (s.engine v).fill with
    | some f => 64 * f.first ≤ a && a < 64 * (f.first + f.kept s)
    | none => false
  | .vinApplied | .railUp | .duskRailsDown => true
  | _ => false

/-- A command may store to octet `a` of the module flash: the page programmed or the sector erased (R381). -/
def storesFlash (i : Instr) (s : State) (a : Nat) : Bool :=
  match i, s.hb.flashJob with
  | .flashOpComplete _, some j => j.addr ≤ a && a < j.addr + (match j.page with | some p => p.length | none => 4096)
  | .duskRailsDown, some j => s.dyn.rails == 5 && j.page.isNone && j.addr ≤ a && a < j.addr + 4096
  | _, _ => false

/-! ### Spokes -/

/-- The command by which a descriptor of a kind enters a spoke's queue (R58). -/
def descriptorOf (i : SpokeId) : Kind → Instr
  | .pulse => .pulseDescriptor i
  | .burst => .burstDescriptor i
  | .train => .trainDescriptor i
  | .level => .levelDescriptor i
  | .window => .windowDescriptor i

/-- A message of a spoke's channel is a cancel (R81). -/
def SpokeMsg.isCancel : SpokeMsg → Bool
  | .cancel _ _ => true
  | .desc _ => false

/-! ### Ring cells -/

/-- A cell stands in the queue of an outgoing ring link, or has begun on it (R322, R323). -/
abbrev Stoker.carries (k : Stoker) (prt : RingPort) (cell : Octets) : Prop :=
  (prt, some cell) ∈ k.wait ∨ (prt, cell) ∈ k.out

/-! ### Pacer -/

/-- Thread `p` issues instruction word `w` in this slot (R87, R121): the slot is its own in Day, it is in RUN with no
control action due, its earlier instruction's slots are over, and `w` stands at its IP. -/
abbrev State.issues (s : State) (p : ThreadId) (w : BitVec 64) : Prop := s.mayUse p .run = true ∧ s.instrAt p = w

/-- The state in which thread `p` has become `t` by completing an instruction in this slot (R121): it is in RUN, waits
for nothing, reads the active bank, has executed one more instruction, and its next slot is one turn on. -/
def State.completed (s : State) (p : ThreadId) (t : Thread) : State :=
  s.setThread p { t with
    state := .run, waitOn := .none, oldBank := false, instr := t.instr + 1, nextSlot := s.slot + 16 }

/-- No thread's stack holds more than 4 entries and no mailbox more than 8 (R86, R96, R112). -/
abbrev State.threadsBounded (s : State) : Prop := ∀ p, (s.thread p).stack.length ≤ 4 ∧ (s.thread p).mbox.length ≤ 8

end Sys2Proof.Machine
end

