-- ==== Sys2Proof/Certificates/Slice0/Obligations.lean ====
section
/-! DEFINITION. The statements for the provers: the machine as a whole, what each command does and that it completes, and
rules of the spec stated whole. Each clause of a statement about commands is over every state and every operand that meets
its hypotheses. -/

open Sys2Proof Sys2Proof.Machine

/-- With a command at the front of the queue, a step is exec of that command on the state with the queue's rest; commands are
taken first in, first out (log entry 1). -/
def Obligations.StepRunsFront : Prop :=
  ∀ (c : Instr) (rest : List Instr) (s : State),
    step { s with pending := c :: rest } = exec c { s with pending := rest }

/-- With no command waiting, a step is the passing of one ft (R6): the elapsed time advances by one, Device Time advances by one
modulo 2^80 while its count runs and stands still otherwise; in an outage Device Time is what the holdover counter has reached
(R240); where the interpolators take a step, one ft of elapsed time brings no count, or one ft of count takes no elapsed time
(R238, R239). A ring link that is free begins the cell that waits for it (R322, R323). Nothing else changes. That time
passes on an empty queue, and then only, is the model's choice (log entry 1). -/
def Obligations.StepIdleTick : Prop :=
  ∀ s : State, s.pending = [] → step s = .next s.idle ∧
    s.idle.outside { clock := true, dt := true, hub := true, stoker := true } =
      s.outside { clock := true, dt := true, hub := true, stoker := true } ∧
    (s.dtRuns = false → s.tick = { s with clock := s.clock + 1 }) ∧
    (s.dtRuns = true → s.hub.ho = none → s.hub.piStep = 0 → s.tick = { s with clock := s.clock + 1, dt := s.dt + 1 }) ∧
    (∀ h, s.dtRuns = true → s.hub.ho = some h →
      s.tick = { s with clock := s.clock + 1, dt := h.count (s.clock + 1) }) ∧
    (s.dtRuns = true → s.hub.ho = none → s.hub.piStep < 0 →
      s.tick = { s with clock := s.clock + 1, hub := { s.hub with piStep := 0 } }) ∧
    (s.dtRuns = true → s.hub.ho = none → 0 < s.hub.piStep →
      s.tick = { s with dt := s.dt + 1, hub := { s.hub with piStep := 0 } }) ∧
    ((∀ prt, s.clock + 1 < s.stoker.freeAt prt ∨ s.stoker.nextCell prt = none) → s.idle = s.tick) ∧
    (∀ m, s.tick.clock < s.stoker.freeP ∨ s.stoker.nextCell .p = none →
      s.stoker.freeN ≤ s.tick.clock → s.stoker.nextCell .n = some m → s.idle = beginCell m s.tick)

/-- At reset the module is in Dawn with the MDLL off, every gate closed and Device Time not counting (R390); the active generation
is 0 and no commit is pending (R24); every spoke's queue is empty, its driver Hi-Z and its counters 0 (R393); every thread is
STOPPED with zero registers and empty stack and mailbox (R86, R125); every port is in SIESTA with its counters 0 (R264); the
buffer's 16 384 cells are free (R301); both Snapshot buffers read SEQ 0xFFFFFFFF (R38); no command waits. -/
def Obligations.ResetState : Prop :=
  State.reset.dyn.st = .dawn ∧ State.reset.hub.lock = .off ∧ State.reset.hub.gatesOpen = false ∧
  State.reset.inDay = false ∧ State.reset.dtRuns = false ∧
  State.reset.commit.gen = 0 ∧ State.reset.commit.pend = none ∧ (∀ i, (State.reset.island i).gen = 0) ∧
  (∀ i, (State.reset.spoke i).queue = [] ∧ (State.reset.spoke i).drv = .hiz ∧
    (State.reset.spoke i).cnt = SpokeCnt.zero) ∧
  (∀ p, (State.reset.thread p).state = .stopped ∧ (∀ k, (State.reset.thread p).gr k = 0 ∧
    (State.reset.thread p).tr k = 0) ∧
    (State.reset.thread p).stack = [] ∧ (State.reset.thread p).mbox = []) ∧
  (∀ c, (State.reset.port c).st = 1 ∧ (State.reset.port c).cnt = PortCnt.zero) ∧
  State.reset.fw.free = 16384 ∧ State.reset.fw.frames = [] ∧
  State.reset.readLive 0x64000 = 0xFFFFFFFF ∧ State.reset.readLive 0x68000 = 0xFFFFFFFF ∧ State.reset.pending = []

/-- At reset BAR2 memory and the module flash are in canonical form, and no thread's stack or mailbox is over its bound (R86). -/
def Obligations.InvariantsAtReset : Prop :=
  Memory.wf State.reset = true ∧ State.reset.threadsBounded

/-- From every state whose BAR2 memory and module flash are in canonical form (addresses strictly rising, nothing listed that an
unlisted address reads as), every step that goes on leads to another such state, so that equal memories are equal data. -/
def Obligations.MemoryWfKept : Prop :=
  ∀ s t : State, Memory.wf s = true → step s = .next t → Memory.wf t = true

/-- From every state in which no thread's stack holds more than 4 entries and no mailbox more than 8, every step that goes on,
whatever its command, leads to another such state (R86, R96, R112). -/
def Obligations.ThreadBoundsKept : Prop :=
  ∀ s t : State, s.threadsBounded → step s = .next t → t.threadsBounded

/-- BAR0 accepts accesses aligned to 4 octets (R359): a read or write of BAR0 at an offset that is not stops with the fault
unaligned, which is the model's choice of stop (log entry 4), and every other command, in every state, answers a next state. -/
def Obligations.StopsExactly : Prop :=
  ∀ (i : Instr) (s : State),
    (misaligned i = true → exec i s = .fault .unaligned) ∧ (misaligned i = false → ∃ t, exec i s = .next t)

/-- A command that answers a next state changes no part of the state outside those mayChange lists for it: never the queue,
never the time elapsed, never the fuses; Device Time only by a step, a join, the start of Day or the loss of power (R251,
R331); BAR2 memory only by its writes and fills; and a command that only raises events changes, of Pacer, its event path
alone (R135). -/
def Obligations.CommandFrames : Prop :=
  ∀ (i : Instr) (s t : State), exec i s = .next t → t.outside (mayChange i) = s.outside (mayChange i)

/-- A command about one spoke, Pacer thread, Chainring engine, axis or Chain port (actsOn) leaves every other spoke, thread,
engine, axis or port as it was (R57, R86, R145, R176, R260), but for how far another engine's stream fill is known to have come
(R166). -/
def Obligations.OtherInstances : Prop :=
  ∀ (i : Instr) (s t : State), exec i s = .next t → ∀ w ∈ actsOn i, w.othersKept s t

/-- For every octet of BAR2 memory to which storesTo says a command stores nothing, and every octet of the module flash of which
storesFlash says so, a read after the command gives what a read before it gave: a write of vector memory stores to its enabled
octets outside the active regions (R156), a fill to the vectors before the first active one (R166), a write of a bank to the
shadow bank alone and only while it is not locked (R128, R130), a page program and a sector erase to their page and sector
(R381); with the power the memory goes. -/
def Obligations.ByteStores : Prop :=
  ∀ (i : Instr) (s t : State), Memory.wf s = true → exec i s = .next t →
    (∀ a, storesTo i s a = false → rd8 memDflt t.mem a = rd8 memDflt s.mem a) ∧
    (∀ a, storesFlash i s a = false → rd8 flashDflt t.flash a = rd8 flashDflt s.flash a)

/-- A COMMIT written by the host with a newer generation and at least the lead of its reach, none being pending, becomes
pending; in a module of no stack Prepare goes to every island of R49, and Handlebar is none (R23, R25). In a MEMBER it goes
to the Captain as a REQUEST, and a Captain that holds no other commit or step floods PREPARE and prepares its own islands
(R336, R337). A commit that a thread issued in the same commit-unit cycle, no island having answered, gives its place to
the host's and is answered BUSY (R29). An Armed in time takes its island off the awaited ones; at the last Confirm goes to
every island, or, stack-wide, the module's answer to the coordinator (R25, R26, R337). At the first Not armed, of several in
one cycle the lowest-numbered island's, the commit is refused with its cause and island, and at DT_effect - 500 ns with
NOARM and the lowest-numbered island still awaited; every island is told to abandon it and the bank lock ends (R25, R26,
R130). An automatic restart commit that was refused is issued again once its 1 ms is over, while restart hold lasts (R257).
Which answers count as given in one cycle is the model's reading (log entry 67). -/
def Obligations.CommitIssueCompletes : Prop :=
  (∀ (s : State),
    s.hostReach = true →
    s.reach = .alone →
    s.commit.pend = none →
    newer (s.immAt 0x20C) s.commit.gen = true →
    (dtAdd (s.replica islHandlebar) 8192000).toNat ≤ (dtAt s.imm 0x200).toNat →
    ∃ t, exec .commitGo s = .next t ∧
      t.commit.pend = some ⟨.host, .alone, dtAt s.imm 0x200, s.immAt 0x20C, s.ownMasks, commitIslands.map (·.val), false, false, s.commitCycle⟩ ∧
      t.commit.state = 1 ∧ t.commit.src = false ∧
      ∀ i : IslandId, (t.island i).inbox = if i.val < 0x56 ∧ i.val ≠ 0x53
        then (s.island i).inbox ++ [.prepare (dtAt s.imm 0x200) (s.immAt 0x20C) s.ownMasks] else (s.island i).inbox) ∧
  (∀ (s : State),
    s.hostReach = true →
    s.stoker.st = 2 →
    s.commit.pend = none →
    newer (s.immAt 0x20C) s.commit.gen = true →
    (dtAdd (s.replica islHandlebar) (leadOf s.reach)).toNat ≤ (dtAt s.imm 0x200).toNat →
    ∃ t, exec .commitGo s = .next t ∧
      t.commit.pend = some ⟨.host, s.reach, dtAt s.imm 0x200, s.immAt 0x20C, s.ownMasks, [], false, false, s.commitCycle⟩ ∧
      t.commit.state = 1 ∧ (∀ i, t.island i = s.island i) ∧
      ∀ prt, t.stoker.carries prt (mkCell s 4 s.stoker.captPos.toNat false
        (cellBody (dtAt s.imm 0x200) (s.immAt 0x20C) s.ident 0))) ∧
  (∀ (s : State),
    s.hostReach = true →
    s.stoker.st = 3 →
    s.stoker.coord = none ∧ s.stoker.armed = none ∧ s.noon.step = none →
    s.commit.pend = none →
    newer (s.immAt 0x20C) s.commit.gen = true →
    (dtAdd (s.replica islHandlebar) (leadOf s.reach)).toNat ≤ (dtAt s.imm 0x200).toNat →
    ∃ t, exec .commitGo s = .next t ∧
      t.commit.pend = some ⟨.host, s.reach, dtAt s.imm 0x200, s.immAt 0x20C, s.ownMasks, commitIslands.map (·.val), false, false, s.commitCycle⟩ ∧
      t.commit.state = 1 ∧ (∀ i : IslandId, i.val < 0x56 → i.val ≠ 0x53 →
        (t.island i).inbox = (s.island i).inbox ++ [.prepare (dtAt s.imm 0x200) (s.immAt 0x20C) s.ownMasks]) ∧
      ∀ prt, t.stoker.carries prt (mkCell s 5 0 true (cellBody (dtAt s.imm 0x200) (s.immAt 0x20C) s.ident 0))) ∧
  (∀ (s : State) (p : PendingCommit) (q : ThreadId) (gr : Fin 8) (ans : Option (BitVec 4)),
    s.hostReach = true →
    s.reach = .alone →
    s.commit.pend = some p →
    p.src = .thread q ∧ p.reach = .alone ∧ p.armedAll = false ∧ p.cycle = s.commitCycle ∧ s.commit.answers = [] →
    (s.thread q).waitOn = .commit gr ans →
    newer (s.immAt 0x20C) s.commit.gen = true →
    (dtAdd (s.replica islHandlebar) 8192000).toNat ≤ (dtAt s.imm 0x200).toNat →
    ∃ t, exec .commitGo s = .next t ∧
      t.commit.pend = some ⟨.host, .alone, dtAt s.imm 0x200, s.immAt 0x20C, s.ownMasks, commitIslands.map (·.val), false, false, s.commitCycle⟩ ∧
      (t.thread q).waitOn = .commit gr (some 3) ∧
      ∀ i : IslandId, i.val < 0x56 → i.val ≠ 0x53 →
        CommitMsg.prepare (dtAt s.imm 0x200) (s.immAt 0x20C) s.ownMasks ∈ (t.island i).inbox) ∧
  (∀ (s : State) (i : IslandId) (p : PendingCommit),
    s.commit.pend = some p →
    s.commit.answers.any (·.armedBy i.val) = true →
    dtLe (s.replica islHandlebar) (dtSub p.dtEff 2048000) = true →
    p.awaiting.filter (· != i.val) ≠ [] →
    exec (.armed i) s = .next { s with commit := { s.commit with
      answers := s.commit.answers.eraseP (·.armedBy i.val)
      pend := some { p with awaiting := p.awaiting.filter (· != i.val), armedAll := false } } }) ∧
  (∀ (s : State) (i : IslandId) (p : PendingCommit),
    s.commit.pend = some p →
    s.commit.answers.any (·.armedBy i.val) = true →
    dtLe (s.replica islHandlebar) (dtSub p.dtEff 2048000) = true →
    p.awaiting.filter (· != i.val) = [] →
    p.reach = .alone →
    ∃ t, exec (.armed i) s = .next t ∧
      t.commit.pend = some { p with awaiting := [], armedAll := true, confirmed := true } ∧
      ∀ j : IslandId, (t.island j).inbox = if j.val < 0x56 ∧ j.val ≠ 0x53
        then (s.island j).inbox ++ [.confirm] else (s.island j).inbox) ∧
  (∀ (s : State) (i : IslandId) (p : PendingCommit) (a : ArmedRec),
    s.commit.pend = some p →
    s.commit.answers.any (·.armedBy i.val) = true →
    dtLe (s.replica islHandlebar) (dtSub p.dtEff 2048000) = true →
    p.awaiting.filter (· != i.val) = [] →
    p.reach ≠ .alone →
    s.stoker.armed = some a →
    exec (.armed i) s = .next (answerCoord a true 0 0xFF { s with
      commit := { s.commit with
        answers := s.commit.answers.eraseP (·.armedBy i.val), pend := some { p with awaiting := [], armedAll := true } }
      stoker := { s.stoker with armed := some { a with answered := true } } })) ∧
  (∀ (s : State) (i : IslandId) (p : PendingCommit) (a : CommitAns),
    s.commit.pend = some p →
    s.commit.answers.find? (·.refusedBy i.val) = some a →
    p.reach = .alone →
    p.awaiting ≠ [] →
    ∃ t, exec (.notArmed i) s = .next t ∧ t.commit.pend = none ∧ t.commit.answers = [] ∧ t.commit.state = 3 ∧
      t.commit.src = p.src.isThread ∧ t.commit.cause = (s.firstRefusal a).cause.getD 0 ∧
      t.commit.island = BitVec.ofNat 8 (s.firstRefusal a).island ∧
      (∀ b ∈ s.commit.answers, b.cause.isSome = true → b.cycle = a.cycle → (s.firstRefusal a).island ≤ b.island) ∧
      t.pacer.locked = false ∧
      ∀ j : IslandId, (t.island j).inbox = if j.val < 0x56 ∧ j.val ≠ 0x53
        then (s.island j).inbox ++ [.abandon] else (s.island j).inbox) ∧
  (∀ (s : State) (i : IslandId) (p : PendingCommit) (a : CommitAns) (r : ArmedRec) (u : State),
    s.commit.pend = some p →
    s.commit.answers.find? (·.refusedBy i.val) = some a →
    p.reach ≠ .alone →
    s.stoker.armed = some r →
    u = refusePending ((s.firstRefusal a).cause.getD 0).toNat (s.firstRefusal a).island 0 false s →
    exec (.notArmed i) s = .next (answerCoord r false ((s.firstRefusal a).cause.getD 0).toNat (s.firstRefusal a).island
      { u with stoker := { u.stoker with armed := none } }) ∧ u.commit.pend = none ∧ u.commit.state = 3) ∧
  (∀ (s : State) (i : Nat) (p : PendingCommit),
    s.commit.pend = some p →
    p.awaiting.min? = some i →
    p.confirmed = false →
    dtLe (dtSub p.dtEff 2048000) (s.replica islHandlebar) = true →
    ∃ t, exec .noarmDeadline s = .next t ∧ t.commit.pend = none ∧ t.commit.answers = [] ∧ t.commit.state = 3 ∧
      t.commit.src = p.src.isThread ∧ t.commit.cause = 6 ∧ t.commit.island = BitVec.ofNat 8 i ∧ t.pacer.locked = false ∧
      ∀ j : IslandId, (t.island j).inbox = if j.val < 0x56 ∧ j.val ≠ 0x53
        then (s.island j).inbox ++ [.abandon] else (s.island j).inbox) ∧
  (∀ (s : State) (a : Nat),
    s.commit.autoAt = some a →
    a ≤ s.clock →
    s.hub.hold = true →
    s.commit.pend = none →
    s.reach = .alone →
    ∃ t, exec .autorestartRetry s = .next t ∧ t.commit.autoAt = none ∧ t.commit.state = 1 ∧
      t.commit.pend = some ⟨.auto, .alone, dtAdd (s.replica islHandlebar) 8192000, s.commit.gen + 1, s.ownMasks, commitIslands.map (·.val), false, false, s.commitCycle⟩ ∧
      ∀ i : IslandId, i.val < 0x56 → i.val ≠ 0x53 → (t.island i).inbox = (s.island i).inbox ++
        [.prepare (dtAdd (s.replica islHandlebar) 8192000) (s.commit.gen + 1) s.ownMasks])

/-- A Prepare that no refusal has overtaken is answered by the island it reaches: one that is clocked and holds nothing back
takes its part of the shadow, in spokes and engines with the masks that the Prepare carries, and answers Armed; a gated
one answers Not armed with GATED, and one whose retiring copy or queue still holds work with DRAIN (R25, R27, R31, R80). A
clocked island that has yet to swap for the commit before waits for that swap. On Confirm a pending copy is confirmed (R26);
on Abandon an unconfirmed one goes, in a gated island when it is ungated (R26, R28); without a decision it is discarded at
DT_effect - 100 ns, and a module that had armed for a stack-wide commit reports that refused with LINK and raises ORPHAN
(R26, R339). The retiring copy of a spoke goes once its 1 us is over and no work in the queue carries its tag (R66).
A clocked island whose DT replica has reached the DT_effect of its confirmed copy takes it as its active one under its new
generation, a spoke keeping the old one as retiring for at least 1 us; one that is gated, unconfirmed or not yet there keeps
its own (R25, R28, R42, R66). When the commit unit's own replica is there, the generation and its DT become the active
ones, the commit is done, and E252 carries them (R33, R34); a restart hold that the commit outlasts ends (R256). -/
def Obligations.IslandEndCompletes : Prop :=
  (∀ (s : State) (i : IslandId) (d : DT) (g : Word) (own : Vector (BitVec 64) 4),
    s.channel i = some (.prepare d g own) →
    s.commit.pend.any (fun p => p.dtEff == d && p.gen == g) = true →
    s.armCause i own = none →
    (s.island i).pending = none ∨ (s.island i).decided = false →
    ∃ t, exec (.prepare i) s = .next t ∧
      t.island i = { s.island i with
        inbox := (s.island i).inbox.tail, pending := some (s.pendingCopy i own), pendGen := g, pendDt := d
        confirmed := false, abandoned := false } ∧
      (∀ j, j ≠ i → t.island j = s.island j) ∧ t.commit.pend = s.commit.pend ∧
      t.commit.answers = s.commit.answers ++ [⟨i.val, none, s.commitCycle⟩] ∧
      t.pacer.locked = if i = islPacer then bit (regGet (s.pendingCopy i own) 0x9000) 0 != s.pacer.bank else s.pacer.locked) ∧
  (∀ (s : State) (i : IslandId) (d : DT) (g : Word) (own : Vector (BitVec 64) 4) (c : BitVec 4),
    s.channel i = some (.prepare d g own) →
    s.commit.pend.any (fun p => p.dtEff == d && p.gen == g) = true →
    s.armCause i own = some c →
    s.gated i = true ∨ (s.island i).pending = none ∨ (s.island i).decided = false →
    exec (.prepare i) s = .next { popChannel i s with
      commit := { s.commit with answers := s.commit.answers ++ [⟨i.val, some c, s.commitCycle⟩] } }) ∧
  (∀ (s : State) (i : IslandId) (d : DT) (g : Word) (own : Vector (BitVec 64) 4),
    s.channel i = some (.prepare d g own) →
    (s.gated i = false → (s.island i).pending.isSome = true → (s.island i).decided = true → exec (.prepare i) s = .next s) ∧
      (s.armCause i own = if s.gated i then some 4 else if s.holdsWork i || s.givesAway i own then some 5 else none)) ∧
  (∀ (s : State) (i : IslandId),
    s.channel i = some .confirm →
    exec (.confirm i) s = .next (s.setIsland i { s.island i with
      inbox := (s.island i).inbox.tail, confirmed := (s.island i).pending.isSome })) ∧
  (∀ (s : State) (i : IslandId),
    s.channel i = some .abandon →
    exec (.abandon i) s = .next (s.setIsland i (
      if (s.island i).confirmed then { s.island i with inbox := (s.island i).inbox.tail }
      else if s.gated i then
        { s.island i with inbox := (s.island i).inbox.tail, abandoned := (s.island i).pending.isSome }
      else { s.island i with inbox := (s.island i).inbox.tail, pending := none }))) ∧
  (∀ (s : State) (i : IslandId),
    (s.island i).pending.isSome = true →
    (s.island i).decided = false →
    (s.island i).abandoned = false →
    (s.island i).inbox.contains .abandon = false →
    dtLe (dtSub (s.island i).pendDt 409600) (s.replica i) = true →
    s.commit.pend.all (fun p => p.reach == .alone || p.dtEff != (s.island i).pendDt || p.gen != (s.island i).pendGen) = true →
    exec (.pendingCopyDiscard i) s = .next (s.setIsland i { s.island i with pending := none })) ∧
  (∀ (s : State) (i : IslandId) (p : PendingCommit),
    (s.island i).pending.isSome = true →
    (s.island i).decided = false →
    (s.island i).abandoned = false →
    (s.island i).inbox.contains .abandon = false →
    dtLe (dtSub (s.island i).pendDt 409600) (s.replica i) = true →
    s.commit.pend = some p →
    p.reach ≠ .alone ∧ p.dtEff = (s.island i).pendDt ∧ p.gen = (s.island i).pendGen →
    ∃ t, exec (.pendingCopyDiscard i) s = .next t ∧ (t.island i).pending = none ∧ t.commit.pend = none ∧
      t.commit.state = 3 ∧ t.commit.cause = 8 ∧ t.stoker = { s.stoker with armed := none, orphan := s.stoker.orphan + 1 }) ∧
  (∀ (s : State) (i : SpokeId) (d : DT),
    (s.spoke i).retainTo = some d →
    s.clocked = true →
    d.toNat ≤ s.dt.toNat →
    ∃ t, exec (.retireHoldExpiry i) s = .next t ∧ t.spoke i = { s.spoke i with retainTo := none } ∧
      t.island (islSpoke i) = { s.island (islSpoke i) with
        retiring := if (s.spoke i).queue.any (fun e => e.tag == (s.island (islSpoke i)).retGen && e.tag != (s.island (islSpoke i)).gen)
          then (s.island (islSpoke i)).retiring else none }) ∧
  (∀ (s : State) (i : IslandId) (m : RegMap),
    i.val < 0x56 ∧ i.val ≠ 0x53 →
    s.gated i = false →
    (s.island i).pending = some m →
    (s.island i).decided = true →
    s.due i (s.island i).pendDt = true →
    ∃ u, exec .commitSwap s = .next u ∧ (u.island i).active = m ∧ (u.island i).gen = (s.island i).pendGen ∧
      (u.island i).pending = none) ∧
  (∀ (s : State) (i : SpokeId) (m : RegMap),
    s.clocked = true →
    (s.island (islSpoke i)).pending = some m →
    (s.island (islSpoke i)).decided = true →
    (s.island (islSpoke i)).pendDt.toNat ≤ s.dt.toNat →
    ∃ u, exec .commitSwap s = .next u ∧ (u.island (islSpoke i)).active = m ∧
      (u.island (islSpoke i)).retiring = some (s.island (islSpoke i)).active ∧
      (u.island (islSpoke i)).retGen = (s.island (islSpoke i)).gen ∧ (u.spoke i).retainTo = some (dtAdd s.dt 4096000)) ∧
  (∀ (s : State) (i : IslandId),
    s.gated i = true ∨ s.swapDue i = false →
    ∃ u, exec .commitSwap s = .next u ∧ (u.island i).active = (s.island i).active ∧ (u.island i).gen = (s.island i).gen) ∧
  (∀ (s : State) (p : PendingCommit),
    s.commit.pend = some p →
    p.confirmed = true →
    s.due islHandlebar p.dtEff = true →
    ∃ u, exec .commitSwap s = .next u ∧ u.commit.pend = none ∧ u.commit.state = 2 ∧ u.commit.gen = p.gen ∧
      u.commit.dt = p.dtEff ∧ (⟨252, causeWord 1 0 p.gen.toNat, p.dtEff, false⟩ : Occ) ∈ u.occs) ∧
  (∀ (s : State) (p : PendingCommit),
    s.hub.hold = true →
    s.commit.pend = some p →
    p.confirmed = true →
    p.dtEff.toNat ≤ s.dt.toNat →
    s.hub.openDt.toNat < p.dtEff.toNat →
    ∃ u, exec .commitSwap s = .next u ∧ u.hub.hold = false ∧ u.commit.autoAt = none)

/-- An aligned read of BAR0 by a bus that can carry it returns what the register holds, or the latched upper word of a
multi-word register, and the read of its lowest word latches the upper ones (R35); an aligned 32-bit write acts as its
register's block takes it, and one to a shadowed register goes to its shadow (R22). A write with partial byte enables
is discarded, counted in HB_ERRCNT.PARTIAL, and raises E255 with cause PARTIAL (R359). A read of the endpoint's
configuration space returns its word, and a write there sets the power state to D0 or D3hot, in which the BARs are not
decoded, or the sizes of the link (R356, R357; the places of its capabilities are the model's: log entry 39). That each bus
has one holding latch is the model's choice (log entry 105). -/
def Obligations.RegisterAccessCompletes : Prop :=
  (∀ (s : State) (bus : BusPort) (off : BitVec 20),
    off.toNat % 4 = 0 →
    s.busUp bus = true →
    upperWords off.toNat = 0 →
    exec (.multiwordReadLatch bus off) s = .next { s with hb := { s.hb with rdata := s.readWord bus off.toNat } }) ∧
  (∀ (s : State) (bus : BusPort) (off : BitVec 20),
    off.toNat % 4 = 0 →
    s.busUp bus = true →
    upperWords off.toNat ≠ 0 →
    ∃ t, exec (.multiwordReadLatch bus off) s = .next t ∧ t.hb.rdata = s.readWord bus off.toNat ∧
      t.latchOf bus = some (off.toNat, (List.range (upperWords off.toNat)).map fun j => s.readLive (off.toNat + 4 * (j + 1))) ∧
      t = { s with hb := t.hb }) ∧
  (∀ (s : State) (off : BitVec 20),
    off.toNat % 4 = 0 →
    s.pcieUp = true →
    exec (.multiwordReadLatch .config off) s = .next { s with hb := { s.hb with rdata := s.configWord off.toNat } } ∧
      s.configWord 0 = word (s.hb.fuse.vendor.toNat + 0x640000) ∧ s.configWord 8 = 0x118000A0 ∧
      s.configWord 0x2C = word (s.hb.subVendor.toNat + s.hb.subId.toNat * 2 ^ 16)) ∧
  (∀ (s : State) (bus : BusPort) (off : BitVec 20) (v : Word),
    off.toNat % 4 = 0 →
    s.busUp bus = true →
    exec (.registerWrite bus off v) s = .next (writeReg off.toNat v s)) ∧
  (∀ (s : State) (bus : BusPort) (off : BitVec 20) (v : Word),
    off.toNat % 4 = 0 →
    s.busUp bus = true →
    (regInfo off.toNat).imm = false →
    exec (.registerWrite bus off v) s = .next { s with
      shadow := regPut s.shadow off.toNat v
      hub := if off = 0x2004 then { s.hub with selWritten := true } else s.hub }) ∧
  (∀ (s : State) (v : Word),
    s.pcieUp = true →
    exec (.registerWrite .config 0x44 v) s = .next { s with hb := { s.hb with cfg := { s.hb.cfg with
        d3 := if fld v 0 2 = 3 then true else if fld v 0 2 = 0 then false else s.hb.cfg.d3 } } } ∧
      (s.hb.cfg.d3 = true → s.busUp .pcie = false)) ∧
  (∀ (s : State) (off : BitVec 20) (v : Word),
    off.toNat % 4 = 0 →
    s.pcieUp = true →
    exec (.registerWrite .config off v) s = .next (writeConfig off.toNat v s)) ∧
  (∀ (s : State) (off : BitVec 20) (v : Word) (be : BitVec 4),
    off.toNat % 4 = 0 →
    s.busUp .pcie = true →
    ∃ t, exec (.partialWrite off v be) s = .next t ∧ t.hb = { s.hb with partialCnt := s.hb.partialCnt + 1 } ∧
      t.occs = s.occs ++ [⟨255, causeWord 4 0 0, s.now, s.outage⟩] ∧
      t = { s with hb := t.hb, occs := t.occs, pacer := { s.pacer with latch := t.pacer.latch } })

/-- A request at least 2 us ahead, no other being pending and none nearer than 32 us, is accepted, and otherwise refused with
its cause (R37). At its DT every island latches, once no swap, cancel or engine message due by then has still to act (R21,
R36): the page is what the islands hold, and the write begins with SEQ all ones in the buffer that does not hold the latest
complete snapshot (R38), one still in progress being complete by then. With PERIODIC set one is taken at each DT whose low
32 bits are zero (R36). When every region is written SEQ and LATEST take their new values and E254 is raised (R37, R38). -/
def Obligations.SnapshotCompletes : Prop :=
  (∀ (s : State),
    s.hostReach = true →
    (dtAdd (s.replica islHandlebar) 8192000).toNat ≤ (dtAt s.imm 0x60004).toNat →
    s.snap.busy = false →
    s.snap.lastTaken.any (tooNear (dtAt s.imm 0x60004)) = false →
    (s.periodicOn && nearPeriodic (dtAt s.imm 0x60004)) = false →
    exec .snapshotRequest s = .next { s with
      snap := { s.snap with reqState := 1, reqCause := 0, req := some (dtAt s.imm 0x60004) } }) ∧
  (∀ (s : State) (c : BitVec 2),
    s.hostReach = true →
    s.snapCause (dtAt s.imm 0x60004) = c →
    c ≠ 0 →
    exec .snapshotRequest s = .next { s with snap := { s.snap with reqState := 3, reqCause := c } }) ∧
  (∀ (s : State) (d : DT),
    s.snap.req = some d →
    s.alive = true →
    s.dtRuns = true →
    d.toNat ≤ s.now.toNat →
    s.beforeLatch = false →
    s.snap.writing = none →
    exec .snapshotLatch s = .next { s with
      snap := { s.snap.setBuf (!s.snap.latest)
      (store (fun _ => 0) (if s.snap.latest then s.snap.bufA else s.snap.bufB) 0 0xFFFFFFFF) with
      writing := some ⟨!s.snap.latest, s.snap.nextSeq, d, false, s.snapPage s.snap.nextSeq d false⟩
      nextSeq := nextSeq s.snap.nextSeq, req := none, lastTaken := some d } }) ∧
  (∀ (s : State) (d : DT) (w : SnapWrite),
    s.snap.req = some d →
    s.alive = true →
    s.dtRuns = true →
    d.toNat ≤ s.now.toNat →
    s.beforeLatch = false →
    s.snap.writing = some w →
    ∃ t, exec .snapshotLatch s = .next t ∧ t.snap.latest = w.second ∧
      (if w.second then t.snap.bufB else t.snap.bufA) = w.data ∧ t.snap.req = none ∧ t.snap.lastTaken = some d ∧
      t.snap.writing = some ⟨!w.second, s.snap.nextSeq, d, false, (completeSnap s).snapPage s.snap.nextSeq d false⟩) ∧
  (∀ (s : State) (d : DT),
    s.alive = true →
    s.dtRuns = true →
    s.periodicOn = true →
    s.periodicDt = some d →
    s.snap.tickAt ≠ some s.clock →
    s.beforeLatch = false →
    s.snap.req.any (tooNear d) = false →
    s.snap.lastTaken.any (tooNear d) = false →
    s.snap.writing = none →
    exec .periodicSnapshot s = .next { s with
      snap := { s.snap.setBuf (!s.snap.latest)
      (store (fun _ => 0) (if s.snap.latest then s.snap.bufA else s.snap.bufB) 0 0xFFFFFFFF) with
      writing := some ⟨!s.snap.latest, s.snap.nextSeq, d, true, s.snapPage s.snap.nextSeq d true⟩
      nextSeq := nextSeq s.snap.nextSeq, tickAt := some s.clock } } ∧
      (s.hub.ho = none → d = s.dt ∧ s.dt.toNat % 2 ^ 32 = 0)) ∧
  (∀ (s : State) (d : DT) (w : SnapWrite),
    s.alive = true →
    s.dtRuns = true →
    s.periodicOn = true →
    s.periodicDt = some d →
    s.snap.tickAt ≠ some s.clock →
    s.beforeLatch = false →
    s.snap.req.any (tooNear d) = false →
    s.snap.lastTaken.any (tooNear d) = false →
    s.snap.writing = some w →
    ∃ t, exec .periodicSnapshot s = .next t ∧ t.snap.latest = w.second ∧
      (if w.second then t.snap.bufB else t.snap.bufA) = w.data ∧ t.snap.tickAt = some s.clock ∧
      t.snap.writing = some ⟨!w.second, s.snap.nextSeq, d, true, (completeSnap s).snapPage s.snap.nextSeq d true⟩) ∧
  (∀ (s : State) (w : SnapWrite),
    s.alive = true →
    s.snap.writing = some w →
    ∃ t, exec .snapshotComplete s = .next t ∧ t.snap.latest = w.second ∧ t.snap.writing = none ∧
      (if w.second then t.snap.bufB else t.snap.bufA) = w.data ∧
      (if w.second then t.snap.bufA else t.snap.bufB) = (if w.second then s.snap.bufA else s.snap.bufB) ∧
      t.occs = s.occs ++ [⟨254, causeWord (if w.periodic then 1 else 2) 0 w.seq.toNat, w.dt, false⟩] ∧
      t = { s with snap := t.snap, occs := t.occs, pacer := { s.pacer with latch := t.pacer.latch } })

/-- In Dawn and Day the SPI port answers the status opcode with its byte. The first word of a frame of another opcode, or the
next word of one at an address 4 higher, is taken: a read of BAR0 or BAR2 returns 0xA5 and the word, or 0xC3 where it was not
complete within 8 us, and from BAR0 beyond its end; a write is made; the frame goes on with the address 4 higher (R378,
R379). A frame with an unknown opcode is ignored to its end, and the rise of the chip select ends the frame (R378, R380). -/
def Obligations.SpiFrameCompletes : Prop :=
  (∀ (s : State),
    s.alive = true →
    s.hb.spi = .idle →
    exec .spiReadStatus s = .next { s with hb := { s.hb with spi := .ignoring, spiOut := [s.spiStatus] } }) ∧
  (∀ (s : State) (addr : BitVec 24),
    s.alive = true →
    s.hb.spi = .idle ∨ s.hb.spi = .inFrame 0x0B addr →
    addr.toNat < 2 ^ 20 →
    addr.toNat % 4 = 0 →
    ∃ t, exec (.spiReadBar0 addr false) s = .next t ∧ t = { s with hb := t.hb } ∧ t.hb.spi = .inFrame 0x0B (addr + 4) ∧
      t.hb.spiOut = (if s.hb.spi = .idle then [] else s.hb.spiOut) ++
        0xA5 :: leOctets 4 (s.readWord .spi addr.toNat).toNat) ∧
  (∀ (s : State) (addr : BitVec 24),
    s.alive = true →
    s.hb.spi = .idle ∨ s.hb.spi = .inFrame 0x0B addr →
    addr.toNat < 2 ^ 20 →
    addr.toNat % 4 = 0 →
    exec (.spiReadBar0 addr true) s = .next { s with hb := { s.hb with
      spi := .inFrame 0x0B (addr + 4)
      spiOut := (if s.hb.spi = .idle then [] else s.hb.spiOut) ++ [0xC3, 0xFF, 0xFF, 0xFF, 0xFF] } }) ∧
  (∀ (s : State) (addr : BitVec 24) (slow : Bool),
    s.alive = true →
    s.hb.spi = .idle ∨ s.hb.spi = .inFrame 0x0B addr →
    2 ^ 20 ≤ addr.toNat →
    exec (.spiReadBar0 addr slow) s = .next { s with hb := { s.hb with
      spi := .inFrame 0x0B (addr + 4), spiOut := (if s.hb.spi = .idle then [] else s.hb.spiOut) ++ [0xC3] } }) ∧
  (∀ (s : State) (addr : BitVec 24) (v : Word),
    s.alive = true →
    s.hb.spi = .idle ∨ s.hb.spi = .inFrame 0x02 addr →
    addr.toNat < 2 ^ 20 →
    addr.toNat % 4 = 0 →
    exec (.spiWriteBar0 addr v) s = .next (spiAccess 0x02 addr [] (writeReg addr.toNat v s))) ∧
  (∀ (s : State) (addr : BitVec 24) (v : Word),
    s.alive = true →
    s.hb.spi = .idle ∨ s.hb.spi = .inFrame 0x02 addr →
    2 ^ 20 ≤ addr.toNat →
    exec (.spiWriteBar0 addr v) s = .next (spiAccess 0x02 addr [] s)) ∧
  (∀ (s : State) (addr : BitVec 24) (slow : Bool),
    s.alive = true →
    s.hb.spi = .idle ∨ s.hb.spi = .inFrame 0x1B addr →
    exec (.spiReadBar2 addr slow) s = .next { s with hb := { s.hb with
      spi := .inFrame 0x1B (addr + 4)
      spiOut := (if s.hb.spi = .idle then [] else s.hb.spiOut) ++
        (if slow then [0xC3, 0xFF, 0xFF, 0xFF, 0xFF] else 0xA5 :: readBar2 addr.toNat 4 s) } }) ∧
  (∀ (s : State) (addr : BitVec 24) (v : Word),
    s.alive = true →
    s.hb.spi = .idle ∨ s.hb.spi = .inFrame 0x12 addr →
    exec (.spiWriteBar2 addr v) s = .next (spiAccess 0x12 addr [] (writeBar2 addr.toNat ((leOctets 4 v.toNat).map some) s))) ∧
  (∀ (s : State) (op : BitVec 8),
    s.alive = true →
    s.hb.spi = .idle →
    op ≠ 0x05 ∧ op ≠ 0x0B ∧ op ≠ 0x02 ∧ op ≠ 0x1B ∧ op ≠ 0x12 →
    exec (.spiUnknownOpcode op) s = .next { s with hb := { s.hb with spi := .ignoring, spiOut := [] } }) ∧
  (∀ (s : State),
    s.alive = true →
    exec .spiFrameEnd s = .next { s with hb := { s.hb with spi := .idle } })

/-- A descriptor of any kind that passes the checks of R67 leaves its channel and stands last in the spoke's queue with its
start instant fixed under the anchor in force (R60): behind nothing, behind a descriptor whose last edge lies a guard of
R68 before its first, or behind a TRAIN without end, which is cut to the pulses that lie a guard before it (R63). The cancels
that follow it in the channel are taken with it (R44). -/
def Obligations.DescriptorEntryCompletes : Prop :=
  (∀ (s : State) (i : SpokeId) (k : Kind) (d : ChanDesc) (rest : List SpokeMsg) (m : RegMap),
    (s.spoke i).chan = .desc d :: rest →
    s.clocked = true →
    kindOf d.raw = some k →
    formatOk d.raw = true →
    s.genRegs (islSpoke i) d.tag = some m →
    ownerIn m i.val = none →
    limitsOk d.raw (s.outIn m i) = true →
    dtLe (dtAdd s.dt 65536) (startOf (s.spoke i) d.raw) = true →
    (s.spoke i).queue = [] →
    ∃ t, exec (descriptorOf i k) s = .next t ∧ (t.spoke i).chan = rest.dropWhile (·.isCancel) ∧
      (t.spoke i).queue = [enterAs (s.spoke i) d k]) ∧
  (∀ (s : State) (i : SpokeId) (k : Kind) (d : ChanDesc) (rest : List SpokeMsg) (m : RegMap) (a : QDesc) (q : List QDesc),
    (s.spoke i).chan = .desc d :: rest →
    s.clocked = true →
    kindOf d.raw = some k →
    formatOk d.raw = true →
    s.genRegs (islSpoke i) d.tag = some m →
    ownerIn m i.val = none →
    limitsOk d.raw (s.outIn m i) = true →
    dtLe (dtAdd s.dt 65536) (startOf (s.spoke i) d.raw) = true →
    (s.spoke i).queue = q ++ [a] →
    a.kind ≠ .train ∨ a.pulses.isSome = true →
    dtLe (dtAdd a.last (s.deskew i a + guardOf a.kind k (s.outIn (s.tagRegs i a.tag) i) (s.outIn (s.tagRegs i d.tag) i)))
    (dtAdd (startOf (s.spoke i) d.raw) (s.deskew i (enterAs (s.spoke i) d k))) = true →
    a.done = false →
    ∃ t, exec (descriptorOf i k) s = .next t ∧ (t.spoke i).chan = rest.dropWhile (·.isCancel) ∧
      (t.spoke i).queue = q ++ [a, enterAs (s.spoke i) d k]) ∧
  (∀ (s : State) (i : SpokeId) (k : Kind) (d : ChanDesc) (rest : List SpokeMsg) (m : RegMap) (a : QDesc) (q : List QDesc) (n : Nat),
    (s.spoke i).chan = .desc d :: rest →
    s.clocked = true →
    kindOf d.raw = some k →
    formatOk d.raw = true →
    s.genRegs (islSpoke i) d.tag = some m →
    ownerIn m i.val = none →
    limitsOk d.raw (s.outIn m i) = true →
    dtLe (dtAdd s.dt 65536) (startOf (s.spoke i) d.raw) = true →
    (s.spoke i).queue = q ++ [a] →
    a.kind = .train ∧ a.pulses = none →
    n = keptPulses a (s.deskew i a) (dtAdd (startOf (s.spoke i) d.raw) (s.deskew i (enterAs (s.spoke i) d k)))
    (guardOf .train k (s.outIn (s.tagRegs i a.tag) i) (s.outIn (s.tagRegs i d.tag) i)) →
    n ≠ 0 ∧ dtLe (dtAdd s.dt 65536) (dtAdd a.start (n * dPeriod a.raw)) = true ∧ a.edges < 2 * n →
    ∃ t, exec (descriptorOf i k) s = .next t ∧ (t.spoke i).chan = rest.dropWhile (·.isCancel) ∧
      (t.spoke i).queue = q ++ [{ a with pulses := some n }, enterAs (s.spoke i) d k])

/-- A descriptor is rejected at the first check of R67 that fails: FORMAT, STALE, OWNED, LIMIT, LATE, ORDER. It frees its
place, is counted in SP_REJECT, or in SP_LATE and at its issuing thread for LATE, and its cause is raised on E(2s) with its
start instant (R67, R84), and LATE on the thread's own source as well (R20); KIND 0b110 or 0b111 is rejected with FORMAT,
and an ANCHOR out of format with it as well, one in format setting the anchor (R59). The start instants these two report
are the model's choices (log entry 98). The cancels that follow in the channel are taken with it (R44). -/
def Obligations.DescriptorRejected : Prop :=
  (∀ (s : State) (i : SpokeId) (k : Kind) (d : ChanDesc) (rest : List SpokeMsg),
    (s.spoke i).chan = .desc d :: rest →
    s.clocked = true →
    kindOf d.raw = some k →
    formatOk d.raw = false →
    exec (descriptorOf i k) s =
      .next (drainCancels i (raise (2 * i.val) 5 0 0 (startOf (s.spoke i) d.raw) (s.setSpoke i { s.spoke i with
      chan := rest, freed := (s.spoke i).freed + 1
      cnt := { (s.spoke i).cnt with reject := (s.spoke i).cnt.reject + 1 } })))) ∧
  (∀ (s : State) (i : SpokeId) (k : Kind) (d : ChanDesc) (rest : List SpokeMsg),
    (s.spoke i).chan = .desc d :: rest →
    s.clocked = true →
    kindOf d.raw = some k →
    formatOk d.raw = true →
    s.genRegs (islSpoke i) d.tag = none →
    exec (descriptorOf i k) s =
      .next (drainCancels i (raise (2 * i.val) 7 0 0 (startOf (s.spoke i) d.raw) (s.setSpoke i { s.spoke i with
      chan := rest, freed := (s.spoke i).freed + 1
      cnt := { (s.spoke i).cnt with reject := (s.spoke i).cnt.reject + 1 } })))) ∧
  (∀ (s : State) (i : SpokeId) (k : Kind) (d : ChanDesc) (rest : List SpokeMsg) (m : RegMap) (v : EngineId),
    (s.spoke i).chan = .desc d :: rest →
    s.clocked = true →
    kindOf d.raw = some k →
    formatOk d.raw = true →
    s.genRegs (islSpoke i) d.tag = some m →
    ownerIn m i.val = some v →
    exec (descriptorOf i k) s =
      .next (drainCancels i (raise (2 * i.val) 6 0 0 (startOf (s.spoke i) d.raw) (s.setSpoke i { s.spoke i with
      chan := rest, freed := (s.spoke i).freed + 1
      cnt := { (s.spoke i).cnt with reject := (s.spoke i).cnt.reject + 1 } })))) ∧
  (∀ (s : State) (i : SpokeId) (k : Kind) (d : ChanDesc) (rest : List SpokeMsg) (m : RegMap),
    (s.spoke i).chan = .desc d :: rest →
    s.clocked = true →
    kindOf d.raw = some k →
    formatOk d.raw = true →
    s.genRegs (islSpoke i) d.tag = some m →
    ownerIn m i.val = none →
    limitsOk d.raw (s.outIn m i) = false →
    exec (descriptorOf i k) s =
      .next (drainCancels i (raise (2 * i.val) 4 0 0 (startOf (s.spoke i) d.raw) (s.setSpoke i { s.spoke i with
      chan := rest, freed := (s.spoke i).freed + 1
      cnt := { (s.spoke i).cnt with reject := (s.spoke i).cnt.reject + 1 } })))) ∧
  (∀ (s : State) (i : SpokeId) (k : Kind) (d : ChanDesc) (rest : List SpokeMsg) (m : RegMap),
    (s.spoke i).chan = .desc d :: rest →
    s.clocked = true →
    kindOf d.raw = some k →
    formatOk d.raw = true →
    s.genRegs (islSpoke i) d.tag = some m →
    ownerIn m i.val = none →
    limitsOk d.raw (s.outIn m i) = true →
    dtLe (dtAdd s.dt 65536) (startOf (s.spoke i) d.raw) = false →
    exec (descriptorOf i k) s = .next (drainCancels i (raise (128 + 2 * d.thread.val) 1 0 0 (startOf (s.spoke i) d.raw)
      ((raise (2 * i.val) 2 0 0 (startOf (s.spoke i) d.raw) (s.setSpoke i { s.spoke i with
        chan := rest, freed := (s.spoke i).freed + 1
        cnt := { (s.spoke i).cnt with late := (s.spoke i).cnt.late + 1 } })).setThread d.thread
          { s.thread d.thread with late := (s.thread d.thread).late + 1 })))) ∧
  (∀ (s : State) (i : SpokeId) (k : Kind) (d : ChanDesc) (rest : List SpokeMsg) (m : RegMap) (a : QDesc) (q : List QDesc),
    (s.spoke i).chan = .desc d :: rest →
    s.clocked = true →
    kindOf d.raw = some k →
    formatOk d.raw = true →
    s.genRegs (islSpoke i) d.tag = some m →
    ownerIn m i.val = none →
    limitsOk d.raw (s.outIn m i) = true →
    dtLe (dtAdd s.dt 65536) (startOf (s.spoke i) d.raw) = true →
    (s.spoke i).queue = q ++ [a] →
    a.kind ≠ .train ∨ a.pulses.isSome = true →
    dtLe (dtAdd a.last (s.deskew i a + guardOf a.kind k (s.outIn (s.tagRegs i a.tag) i) (s.outIn (s.tagRegs i d.tag) i)))
    (dtAdd (startOf (s.spoke i) d.raw) (s.deskew i (enterAs (s.spoke i) d k))) = false →
    exec (descriptorOf i k) s =
      .next (drainCancels i (raise (2 * i.val) 3 0 0 (startOf (s.spoke i) d.raw) (s.setSpoke i { s.spoke i with
      chan := rest, freed := (s.spoke i).freed + 1
      cnt := { (s.spoke i).cnt with reject := (s.spoke i).cnt.reject + 1 } })))) ∧
  (∀ (s : State) (i : SpokeId) (k : Kind) (d : ChanDesc) (rest : List SpokeMsg) (m : RegMap) (a : QDesc) (q : List QDesc) (n : Nat),
    (s.spoke i).chan = .desc d :: rest →
    s.clocked = true →
    kindOf d.raw = some k →
    formatOk d.raw = true →
    s.genRegs (islSpoke i) d.tag = some m →
    ownerIn m i.val = none →
    limitsOk d.raw (s.outIn m i) = true →
    dtLe (dtAdd s.dt 65536) (startOf (s.spoke i) d.raw) = true →
    (s.spoke i).queue = q ++ [a] →
    a.kind = .train ∧ a.pulses = none →
    n = keptPulses a (s.deskew i a) (dtAdd (startOf (s.spoke i) d.raw) (s.deskew i (enterAs (s.spoke i) d k)))
    (guardOf .train k (s.outIn (s.tagRegs i a.tag) i) (s.outIn (s.tagRegs i d.tag) i)) →
    n = 0 ∨ dtLe (dtAdd s.dt 65536) (dtAdd a.start (n * dPeriod a.raw)) = false →
    exec (descriptorOf i k) s =
      .next (drainCancels i (raise (2 * i.val) 3 0 0 (startOf (s.spoke i) d.raw) (s.setSpoke i { s.spoke i with
      chan := rest, freed := (s.spoke i).freed + 1
      cnt := { (s.spoke i).cnt with reject := (s.spoke i).cnt.reject + 1 } })))) ∧
  (∀ (s : State) (i : SpokeId) (d : ChanDesc) (rest : List SpokeMsg),
    (s.spoke i).chan = .desc d :: rest →
    s.clocked = true →
    6 ≤ dKind d.raw →
    exec (.descriptorKindInvalid i) s =
      .next (drainCancels i (raise (2 * i.val) 5 0 0 (startOf (s.spoke i) d.raw) (s.setSpoke i { s.spoke i with
      chan := rest, freed := (s.spoke i).freed + 1
      cnt := { (s.spoke i).cnt with reject := (s.spoke i).cnt.reject + 1 } })))) ∧
  (∀ (s : State) (i : SpokeId) (d : ChanDesc) (rest : List SpokeMsg),
    (s.spoke i).chan = .desc d :: rest →
    s.clocked = true →
    dKind d.raw = 0 →
    exec (.anchorDescriptor i) s = .next (drainCancels i (
      if formatOk d.raw then s.setSpoke i { s.spoke i with chan := rest, anchor := dAnchor d.raw }
      else raise (2 * i.val) 5 0 0 (dAnchor d.raw) (s.setSpoke i { s.spoke i with
      chan := rest, cnt := { (s.spoke i).cnt with reject := (s.spoke i).cnt.reject + 1 } }))))

/-- In an ungated spoke the executing descriptor's edge that has fallen due, and that no swap or cancel due by then comes
before (R82), gives the driver its level, which is at the lands SP_DESKEW_TX later, is counted in SP_EDGES and blanks capture
about its launch instant (R56, R61, R64, R69, R71); with its last edge a descriptor completes, which frees its place and
raises DONE where it asks for it (R69). In a mode-change interval an edge or LEVEL change is dropped and counted in SP_LOST
(R77); under suppression it is counted in SP_SUPPR, and the pin stays at Hi-Z (R78); in restart hold it is dropped and counted
in SP_LOST (R256). -/
def Obligations.EdgesComplete : Prop :=
  (∀ (s : State) (i : SpokeId) (e : QDesc),
    s.clocked = true →
    s.hub.hold = false →
    s.suppressed = false →
    (s.spoke i).nextEmit = some e →
    dtLe e.due s.dt = true →
    s.clearTo i e.due = true →
    (s.spoke i).inModeGap e.due = false →
    e.kind ≠ .level ∧ e.edges % 2 = 0 →
    ∃ t, exec (.leadingEdge i) s = .next t ∧ (t.spoke i).drv = edgeLevel e.raw true ∧
      (t.spoke i).cnt.edges = (s.spoke i).cnt.edges + 1 ∧
      dtAdd e.due (s.deskew i e) ∈ (t.spoke i).ownEdges ∧
      (dtAdd e.due (s.deskew i e), edgeLevel e.raw true) ∈ (t.spoke i).launches ∧
      (t.spoke i).queue = modFirst (· == e) (fun _ => { e with edges := e.edges + 1, fall := none }) (s.spoke i).queue) ∧
  (∀ (s : State) (i : SpokeId) (e : QDesc),
    s.clocked = true →
    s.hub.hold = false →
    s.suppressed = false →
    (s.spoke i).nextEmit = some e →
    dtLe e.due s.dt = true →
    s.clearTo i e.due = true →
    (s.spoke i).inModeGap e.due = false →
    e.kind ≠ .level ∧ e.edges % 2 = 1 →
    e.pulses ≠ some (e.edges / 2 + 1) →
    ∃ t, exec (.trailingEdge i) s = .next t ∧ (t.spoke i).drv = edgeLevel e.raw false ∧
      (t.spoke i).cnt.edges = (s.spoke i).cnt.edges + 1 ∧
      (t.spoke i).queue = modFirst (· == e) (fun _ => { e with edges := e.edges + 1, fall := none }) (s.spoke i).queue ∧
      (t.spoke i).freed = (s.spoke i).freed) ∧
  (∀ (s : State) (i : SpokeId) (e : QDesc) (q : List QDesc),
    s.clocked = true →
    s.hub.hold = false →
    s.suppressed = false →
    (s.spoke i).nextEmit = some e →
    dtLe e.due s.dt = true →
    s.clearTo i e.due = true →
    (s.spoke i).inModeGap e.due = false →
    e.kind ≠ .level ∧ e.edges % 2 = 1 →
    e.pulses = some (e.edges / 2 + 1) →
    (s.spoke i).queue = e :: q →
    ∃ t, exec (.trailingEdge i) s = .next t ∧ (t.spoke i).drv = edgeLevel e.raw false ∧
      (t.spoke i).cnt.edges = (s.spoke i).cnt.edges + 1 ∧
      (t.spoke i).queue = q ∧ (t.spoke i).freed = (s.spoke i).freed + 1 ∧
      (dDone e.raw = true → s.evFull (2 * i.val) = false →
      ⟨Fin.ofNat 256 (2 * i.val), causeWord 1 0 0, e.due, false⟩ ∈ t.occs)) ∧
  (∀ (s : State) (i : SpokeId) (e : QDesc) (q : List QDesc),
    s.clocked = true →
    s.hub.hold = false →
    s.suppressed = false →
    (s.spoke i).nextEmit = some e →
    dtLe e.due s.dt = true →
    s.clearTo i e.due = true →
    (s.spoke i).inModeGap e.due = false →
    e.kind = .level →
    (s.spoke i).queue = e :: q →
    ∃ t, exec (.levelChange i) s = .next t ∧ (t.spoke i).drv = lvlOf (dLvl e.raw) ∧
      (t.spoke i).cnt.edges = (s.spoke i).cnt.edges + 1 ∧
      (t.spoke i).queue = q ∧ (t.spoke i).freed = (s.spoke i).freed + 1) ∧
  (∀ (s : State) (i : SpokeId) (e : QDesc) (c : Instr),
    s.clocked = true →
    s.hub.hold = false →
    (s.spoke i).nextEmit = some e →
    dtLe e.due s.dt = true →
    s.clearTo i e.due = true →
    (s.spoke i).inModeGap e.due = true →
    c = (if e.kind = .level then .levelChange i else if e.edges % 2 = 0 then .leadingEdge i else .trailingEdge i) →
    ∃ t, exec c s = .next t ∧ (t.spoke i).drv = (s.spoke i).drv ∧ (t.spoke i).launches = (s.spoke i).launches ∧
      (t.spoke i).cnt = { (s.spoke i).cnt with lost := (s.spoke i).cnt.lost + 1 }) ∧
  (∀ (s : State) (i : SpokeId) (e : QDesc) (c : Instr) (lvl : Drv),
    s.clocked = true →
    s.hub.hold = false →
    s.suppressed = true →
    s.watches i = false →
    (s.spoke i).nextEmit = some e →
    dtLe e.due s.dt = true →
    s.clearTo i e.due = true →
    (s.spoke i).inModeGap e.due = false →
    c = (if e.kind = .level then .levelChange i else if e.edges % 2 = 0 then .leadingEdge i else .trailingEdge i) →
    lvl = (if e.kind = .level then lvlOf (dLvl e.raw) else edgeLevel e.raw (e.edges % 2 == 0)) →
    ∃ t, exec c s = .next t ∧ (t.spoke i).drv = lvl ∧ t.driven i = .hiz ∧
      (t.spoke i).ownEdges = (s.spoke i).ownEdges ∧
      (t.spoke i).cnt = { (s.spoke i).cnt with edges := (s.spoke i).cnt.edges + 1, suppr := (s.spoke i).cnt.suppr + 1 }) ∧
  (∀ (s : State) (i : SpokeId) (e : QDesc) (c : Instr),
    s.clocked = true →
    s.hub.hold = true →
    (s.spoke i).nextEmit = some e →
    dtLe e.due s.dt = true →
    s.clearTo i e.due = true →
    c = (if e.kind = .level then .levelChange i else if e.edges % 2 = 0 then .leadingEdge i else .trailingEdge i) →
    ∃ t, exec c s = .next t ∧ (t.spoke i).drv = (s.spoke i).drv ∧ (t.spoke i).launches = (s.spoke i).launches ∧
      (t.spoke i).cnt = { (s.spoke i).cnt with lost := (s.spoke i).cnt.lost + 1 } ∧
      (t.spoke i).lostFirst = some ((s.spoke i).lostFirst.getD e.due) ∧ (t.spoke i).freed = (s.spoke i).freed)

/-- A window opens at its start (R65) and closes at its closing instant, which frees its place and raises WDONE where it asks
for it (R65, R69); an EXPECT window that no edge has met records MISS and counts in SP_CMP_MISS (R73), once no edge of its
span can still come from the lands (log entry 14). A voltage that turns the comparator (R79) is a crossing, and one that no
dead time, blanking or held-off capture shuts out is recorded: by free capture outside any window, and by the RECORD-ALL
window it falls in, at the pin's crossing less SP_DESKEW_RX (R56, R70, R72, R73); within 8 192 ft of the crossing before, a
wanted one counts in SP_DEAD instead (R70), and a blanked one leaves nothing (R71). -/
def Obligations.WindowsAndCaptureComplete : Prop :=
  (∀ (s : State) (i : SpokeId) (e : QDesc),
    s.frozen = false →
    (s.spoke i).queue.find? (fun e => e.kind == .window && !e.opened && !e.done) = some e →
    dtLe e.due s.dt = true →
    s.clearTo i e.due = true →
    exec (.windowOpen i) s = .next (s.setSpoke i { s.spoke i with
      queue := modFirst (· == e) (fun _ => { e with opened := true }) (s.spoke i).queue })) ∧
  (∀ (s : State) (i : SpokeId) (e : QDesc) (q : List QDesc),
    s.clocked = true →
    s.hub.hold = false →
    (s.spoke i).queue = e :: q →
    e.kind = .window ∧ e.opened = true ∧ e.done = false →
    dtLe e.last s.dt = true →
    s.clearTo i e.last = true →
    ∃ t, exec (.windowClose i) s = .next t ∧ (t.spoke i).queue = q ∧ (t.spoke i).freed = (s.spoke i).freed + 1 ∧
      (dDone e.raw = true → s.evFull (2 * i.val + 1) = false →
      ⟨Fin.ofNat 256 (2 * i.val + 1), causeWord 5 0 0, e.last, false⟩ ∈ t.occs)) ∧
  (∀ (s : State) (i : SpokeId) (e : QDesc) (q : List QDesc),
    s.clocked = true →
    s.hub.hold = false →
    (s.spoke i).queue = e :: q →
    (s.spoke i).ending = [] →
    e.kind = .window ∧ e.opened = true ∧ e.done = false →
    dtLe e.last s.dt = true →
    s.clearTo i e.last = true →
    dMode e.raw ≠ 2 ∨ e.seen = true →
    ∃ t, exec (.windowClose i) s = .next t ∧ (t.spoke i).cnt = (s.spoke i).cnt ∧ t.outbox = s.outbox) ∧
  (∀ (s : State) (i : SpokeId) (e : QDesc) (q : List QDesc),
    s.clocked = true →
    s.hub.hold = false →
    (s.spoke i).queue = e :: q →
    (s.spoke i).ending = [] →
    e.kind = .window ∧ e.opened = true ∧ e.done = false →
    dtLe e.last s.dt = true →
    dtLe (dtAdd e.last (s.deskew i e)) s.dt = true →
    s.clearTo i e.last = true →
    dMode e.raw = 2 ∧ e.seen = false →
    s.recFull i = false →
    ∃ t, exec (.windowClose i) s = .next t ∧
      (t.spoke i).cnt = { (s.spoke i).cnt with cmpMiss := (s.spoke i).cnt.cmpMiss + 1, caps := (s.spoke i).cnt.caps + 1 } ∧
      t.outbox = s.outbox ++ [⟨Fin.ofNat 64 (i.val / 2), false, some i, false,
      recordBytes i e.last 0 3 (s.spoke i).dead (s.spoke i).drop (!s.isTrue (itemOf i))
      (s.spoke i).seq.toNat (dTag e.raw)⟩]) ∧
  (∀ (s : State) (i : SpokeId) (w : EndWin),
    s.clocked = true →
    (s.spoke i).queue.find? (fun e => e.kind == .window && e.opened && !e.done) = none →
    (s.spoke i).ending = [w] →
    w.over s.dt = true ∧ w.miss = true ∧ w.d.seen = false →
    s.recFull i = false →
    ∃ t, exec (.windowClose i) s = .next t ∧ (t.spoke i).ending = [] ∧
      (t.spoke i).cnt = { (s.spoke i).cnt with cmpMiss := (s.spoke i).cnt.cmpMiss + 1, caps := (s.spoke i).cnt.caps + 1 } ∧
      t.outbox = s.outbox ++ [⟨Fin.ofNat 64 (i.val / 2), false, some i, false,
      recordBytes i w.close 0 3 (s.spoke i).dead (s.spoke i).drop (!s.isTrue (itemOf i))
      (s.spoke i).seq.toNat (dTag w.d.raw)⟩]) ∧
  (∀ (s : State) (i : SpokeId) (uv : Int) (rising : Bool),
    s.sees i uv = rising →
    (s.spoke i).pin = !rising →
    s.captures i = true →
    s.blanked i s.dt = false →
    s.inDeadTime i = false →
    s.windowAt i s.dt = none →
    s.ceAt i s.dt = none →
    s.freeTakes i rising = true →
    s.recFull i = false →
    ∃ t, exec (.pinCrossing i uv) s = .next t ∧ (t.spoke i).pin = rising ∧ (t.spoke i).lastStamp = some s.dt ∧
      (t.spoke i).cnt = { (s.spoke i).cnt with caps := (s.spoke i).cnt.caps + 1 } ∧
      t.outbox = s.outbox ++ [⟨Fin.ofNat 64 (i.val / 2), false, some i, false,
      recordBytes i (dtSub s.dt (deskewIn (s.island (islSpoke i)).active i true)) (edgeCode rising) 0
      (s.spoke i).dead (s.spoke i).drop (!s.isTrue (itemOf i)) (s.spoke i).seq.toNat 0⟩]) ∧
  (∀ (s : State) (i : SpokeId) (uv : Int) (rising : Bool) (e : QDesc) (rx : Nat),
    s.sees i uv = rising →
    (s.spoke i).pin = !rising →
    s.captures i = true →
    s.blanked i s.dt = false →
    s.inDeadTime i = false →
    s.windowAt i s.dt = some (e, rx) →
    takes e rising = true →
    dMode e.raw = 0 →
    s.recFull i = false →
    ∃ t, exec (.pinCrossing i uv) s = .next t ∧ (t.spoke i).pin = rising ∧ (t.spoke i).lastStamp = some s.dt ∧
      (t.spoke i).queue = modFirst (· == e) (fun e => { e with seen := true }) (s.spoke i).queue ∧
      t.outbox = s.outbox ++ [⟨Fin.ofNat 64 (i.val / 2), false, some i, false,
      recordBytes i (dtSub s.dt rx) (edgeCode rising) 1
      (s.spoke i).dead (s.spoke i).drop (!s.isTrue (itemOf i)) (s.spoke i).seq.toNat (dTag e.raw)⟩]) ∧
  (∀ (s : State) (i : SpokeId) (uv : Int) (rising : Bool),
    s.sees i uv = rising →
    (s.spoke i).pin = !rising →
    s.captures i = true →
    s.blanked i s.dt = false →
    s.inDeadTime i = true →
    s.wanted i rising = true →
    ∃ t, exec (.pinCrossing i uv) s = .next t ∧ (t.spoke i).pin = rising ∧
      (t.spoke i).lastStamp = (s.spoke i).lastStamp ∧ (t.spoke i).dead = true ∧
      (t.spoke i).cnt = { (s.spoke i).cnt with dead := (s.spoke i).cnt.dead + 1 } ∧ t.outbox = s.outbox) ∧
  (∀ (s : State) (i : SpokeId) (uv : Int) (rising : Bool),
    s.sees i uv = rising →
    (s.spoke i).pin = !rising →
    s.captures i = false ∨ s.blanked i s.dt = true →
    ∃ t, exec (.pinCrossing i uv) s = .next t ∧ (t.spoke i).pin = rising ∧
      (t.spoke i).lastStamp = (s.spoke i).lastStamp ∧ (t.spoke i).cnt = (s.spoke i).cnt ∧ t.outbox = s.outbox) ∧
  (∀ (s : State) (i : SpokeId) (uv : Int),
    s.sees i uv = (s.spoke i).pin →
    exec (.pinCrossing i uv) s = .next s)

/-- A change of SP_MODE.OUT takes effect once no descriptor of an older generation is left and the last edge has come to the
lands (log entry 50), with both legs Hi-Z for 819 200 ft (R77), after which the driver takes the level it held, or INIT's where
that was Hi-Z; in a full run that level waits for the run's end (R217). A host cancel is pending from its acceptance and
refused with under 1 us of lead (R46, R81); one for a gated spoke stays with Handlebar (log entry 89). At its DT, after a swap
due by then (R82), the work not yet begun goes, counted in SP_CANCELLED, and CANCELLED is raised (R81). -/
def Obligations.ModeAndCancelComplete : Prop :=
  (∀ (s : State) (i : SpokeId),
    s.clocked = true →
    (s.spoke i).modePend = true →
    (s.spoke i).queue.any (fun e => e.tag != (s.island (islSpoke i)).gen) = false →
    (s.spoke i).launches.all (fun l => dtLe l.1 s.dt) = true →
    (s.wantedMode i).1 ≠ (s.spoke i).out →
    ∃ t, exec (.modeChange i) s = .next t ∧
      t.spoke i = { (s.spoke i).put s.dt (if (s.spoke i).out = 0 then .hiz else (s.spoke i).drv) with
      out := (s.wantedMode i).1, legn := (s.wantedMode i).2.1, term := (s.wantedMode i).2.2, modePend := false
      modeEnd := some (dtAdd s.dt 819200) } ∧
      t.driven i = .hiz ∧ t.legs i = (.hiz, .hiz)) ∧
  (∀ (s : State) (i : SpokeId),
    s.clocked = true →
    (s.spoke i).modePend = true →
    (s.spoke i).queue.any (fun e => e.tag != (s.island (islSpoke i)).gen) = false →
    (s.spoke i).launches.all (fun l => dtLe l.1 s.dt) = true →
    (s.wantedMode i).1 = (s.spoke i).out →
    exec (.modeChange i) s = .next (s.setSpoke i { s.spoke i with
      legn := (s.wantedMode i).2.1, term := (s.wantedMode i).2.2, modePend := false })) ∧
  (∀ (s : State) (i : SpokeId) (d : DT),
    (s.spoke i).modeEnd = some d →
    s.clocked = true →
    dtLe d s.dt = true →
    (s.req i).st ≠ 2 →
    exec (.modeChangeIntervalEnd i) s = .next (s.setSpoke i
      { (s.spoke i).put s.dt (if (s.spoke i).drv = .hiz then lvlOf (fld (s.act (spBase i)) 4 2) else (s.spoke i).drv) with
      modeEnd := none })) ∧
  (∀ (s : State) (i : SpokeId) (d : DT),
    (s.spoke i).modeEnd = some d →
    s.clocked = true →
    dtLe d s.dt = true →
    (s.req i).st = 2 →
    ∃ t, exec (.modeChangeIntervalEnd i) s = .next t ∧ t.spoke i = { s.spoke i with modeEnd := none } ∧
      (t.req i).drvX = (if (s.req i).drvX = .hiz then lvlOf (fld (s.act (spBase i)) 4 2) else (s.req i).drvX)) ∧
  (∀ (s : State) (i : SpokeId),
    s.hostReach = true →
    s.clocked = true →
    dtLe (dtAdd (s.replica islHandlebar) 4096000) (dtAt s.imm (spBase i + 0x30)) = true →
    exec (.spokeCancelGo i) s = .next (s.setSpoke i { s.spoke i with
      cancel := some (dtAt s.imm (spBase i + 0x30)), cancelState := 1 })) ∧
  (∀ (s : State) (i : SpokeId),
    s.hostReach = true →
    s.clocked = true →
    dtLe (dtAdd (s.replica islHandlebar) 4096000) (dtAt s.imm (spBase i + 0x30)) = false →
    exec (.spokeCancelGo i) s = .next (s.setSpoke i { s.spoke i with cancelState := 3 })) ∧
  (∀ (s : State) (i : SpokeId),
    s.hostReach = true →
    s.clocked = false →
    exec (.spokeCancelGo i) s = .next (s.setSpoke i { s.spoke i with
      hostCancels := (s.spoke i).hostCancels ++ [dtAt s.imm (spBase i + 0x30)] })) ∧
  (∀ (s : State) (i : SpokeId) (cut : DT),
    (s.spoke i).cancel = some cut →
    s.clocked = true →
    dtLe cut s.dt = true →
    s.swapBefore (islSpoke i) cut = false →
    ∃ t, exec (.cancelDue i) s = .next t ∧ (t.spoke i).cancel = none ∧ (t.spoke i).cancelState = 2) ∧
  (∀ (s : State) (i : SpokeId) (cut : DT),
    (s.spoke i).cancel = some cut →
    s.clocked = true →
    dtLe cut s.dt = true →
    s.swapBefore (islSpoke i) cut = false →
    (∀ e ∈ (s.spoke i).queue, dtLe cut e.start = true) →
    ∃ t, exec (.cancelDue i) s = .next t ∧ (t.spoke i).queue = [] ∧
      (t.spoke i).freed = (s.spoke i).freed + (s.spoke i).queue.length ∧
      (t.spoke i).cnt.cancelled = (s.spoke i).cnt.cancelled + BitVec.ofNat 32 (s.spoke i).queue.length ∧
      (s.evFull (2 * i.val) = false → ⟨Fin.ofNat 256 (2 * i.val), causeWord 10 0 0, cut, false⟩ ∈ t.occs))

/-- NOP goes on; HALT stops the thread with IP at it; B, CALL and RET act where their condition holds and else go on; LOOP
with a count pushes its body and jumps past it with none; ENDL goes back until the count is used up (R90, R95). A CALL or
LOOP with four entries on the stack, and a RET or ENDL with the wrong entry on top, faults with STACK (R117). A field that
must be 0 or a wrong register class is ILLEGAL (R92), and so is an OP that is not in the table; at 16 383 an instruction
that would go on faults with ADDR (R94). -/
def Obligations.PacerControlCompletes : Prop :=
  (∀ (s : State) (p : ThreadId) (w : BitVec 64) (t : Thread),
    t = s.thread p →
    s.issues p w →
    iOp w = 0x00 →
    iField w 0 56 = 0 →
    t.ip ≠ 0x3FFF →
    exec (.nop p) s = .next (s.completed p { t with ip := t.ip + 1 })) ∧
  (∀ (s : State) (p : ThreadId) (w : BitVec 64) (t : Thread),
    t = s.thread p →
    s.issues p w →
    iOp w = 0x01 →
    iField w 0 56 = 0 →
    exec (.halt p) s = .next (s.setThread p { t with
      state := .halted, waitOn := .none, oldBank := false, instr := t.instr + 1, nextSlot := s.slot + 16 })) ∧
  (∀ (s : State) (p : ThreadId) (w : BitVec 64) (t : Thread),
    t = s.thread p →
    s.issues p w →
    iOp w = 0x02 →
    iField w 14 38 = 0 →
    condHolds t (iField w 52 4) = true →
    exec (.b p) s = .next (s.completed p { t with ip := (w.setWidth 14) })) ∧
  (∀ (s : State) (p : ThreadId) (w : BitVec 64) (t : Thread),
    t = s.thread p →
    s.issues p w →
    iOp w = 0x02 →
    iField w 14 38 = 0 →
    condHolds t (iField w 52 4) = false →
    t.ip ≠ 0x3FFF →
    exec (.b p) s = .next (s.completed p { t with ip := t.ip + 1 })) ∧
  (∀ (s : State) (p : ThreadId) (w : BitVec 64) (t : Thread),
    t = s.thread p →
    s.issues p w →
    iOp w = 0x03 →
    iField w 14 38 = 0 →
    condHolds t (iField w 52 4) = true →
    t.stack.length < 4 →
    exec (.call p) s = .next (s.completed p { t with
      ip := (w.setWidth 14), stack := t.stack ++ [.call (t.ip + 1)] })) ∧
  (∀ (s : State) (p : ThreadId) (w : BitVec 64) (t : Thread),
    t = s.thread p →
    s.issues p w →
    iOp w = 0x03 →
    iField w 14 38 = 0 →
    condHolds t (iField w 52 4) = true →
    4 ≤ t.stack.length →
    exec (.call p) s = .next (fault p 3 s)) ∧
  (∀ (s : State) (p : ThreadId) (w : BitVec 64) (t : Thread),
    t = s.thread p →
    s.issues p w →
    iOp w = 0x03 →
    iField w 14 38 = 0 →
    condHolds t (iField w 52 4) = false →
    t.ip ≠ 0x3FFF →
    exec (.call p) s = .next (s.completed p { t with ip := t.ip + 1 })) ∧
  (∀ (s : State) (p : ThreadId) (w : BitVec 64) (t : Thread) (a : BitVec 14) (r : List StackEnt),
    t = s.thread p →
    s.issues p w →
    iOp w = 0x04 →
    iField w 0 52 = 0 →
    condHolds t (iField w 52 4) = true →
    t.stack = r ++ [.call a] →
    exec (.ret p) s = .next (s.completed p { t with ip := a, stack := r })) ∧
  (∀ (s : State) (p : ThreadId) (w : BitVec 64) (t : Thread) (a : BitVec 14) (c : Word) (r : List StackEnt),
    t = s.thread p →
    s.issues p w →
    iOp w = 0x04 →
    iField w 0 52 = 0 →
    condHolds t (iField w 52 4) = true →
    t.stack = [] ∨ t.stack = r ++ [.loop a c] →
    exec (.ret p) s = .next (fault p 3 s)) ∧
  (∀ (s : State) (p : ThreadId) (w : BitVec 64) (t : Thread),
    t = s.thread p →
    s.issues p w →
    iOp w = 0x04 →
    iField w 0 52 = 0 →
    condHolds t (iField w 52 4) = false →
    t.ip ≠ 0x3FFF →
    exec (.ret p) s = .next (s.completed p { t with ip := t.ip + 1 })) ∧
  (∀ (s : State) (p : ThreadId) (w : BitVec 64) (t : Thread) (c : Word),
    t = s.thread p →
    s.issues p w →
    iOp w = 0x05 →
    iField w 52 4 = 0 ∧ iField w 14 1 = 0 →
    iField w 15 1 = 0 ∧ iField w 48 4 = 0 ∧ c = BitVec.ofNat 32 (iField w 16 32) ∨
    iField w 15 1 = 1 ∧ iField w 48 4 < 8 ∧ iField w 16 32 = 0 ∧ c = t.gr (iField w 48 4) →
    c ≠ 0 →
    t.stack.length < 4 →
    t.ip ≠ 0x3FFF →
    exec (.loop p) s = .next (s.completed p { t with
      ip := t.ip + 1, stack := t.stack ++ [.loop (t.ip + 1) c] })) ∧
  (∀ (s : State) (p : ThreadId) (w : BitVec 64) (t : Thread),
    t = s.thread p →
    s.issues p w →
    iOp w = 0x05 →
    iField w 52 4 = 0 ∧ iField w 14 1 = 0 →
    iField w 15 1 = 0 ∧ iField w 48 4 = 0 ∧ iField w 16 32 = 0 ∨
    iField w 15 1 = 1 ∧ iField w 48 4 < 8 ∧ iField w 16 32 = 0 ∧ t.gr (iField w 48 4) = 0 →
    exec (.loop p) s = .next (s.completed p { t with ip := (w.setWidth 14) })) ∧
  (∀ (s : State) (p : ThreadId) (w : BitVec 64) (t : Thread),
    t = s.thread p →
    s.issues p w →
    iOp w = 0x05 →
    iField w 52 4 = 0 ∧ iField w 14 1 = 0 →
    iField w 15 1 = 0 ∧ iField w 48 4 = 0 ∧ iField w 16 32 ≠ 0 ∨
    iField w 15 1 = 1 ∧ iField w 48 4 < 8 ∧ iField w 16 32 = 0 ∧ t.gr (iField w 48 4) ≠ 0 →
    4 ≤ t.stack.length →
    exec (.loop p) s = .next (fault p 3 s)) ∧
  (∀ (s : State) (p : ThreadId) (w : BitVec 64) (t : Thread) (a : BitVec 14) (c : Word) (r : List StackEnt),
    t = s.thread p →
    s.issues p w →
    iOp w = 0x06 →
    iField w 0 56 = 0 →
    t.stack = r ++ [.loop a c] →
    c ≠ 1 →
    exec (.endl p) s = .next (s.completed p { t with ip := a, stack := r ++ [.loop a (c - 1)] })) ∧
  (∀ (s : State) (p : ThreadId) (w : BitVec 64) (t : Thread) (a : BitVec 14) (r : List StackEnt),
    t = s.thread p →
    s.issues p w →
    iOp w = 0x06 →
    iField w 0 56 = 0 →
    t.stack = r ++ [.loop a 1] →
    t.ip ≠ 0x3FFF →
    exec (.endl p) s = .next (s.completed p { t with ip := t.ip + 1, stack := r })) ∧
  (∀ (s : State) (p : ThreadId) (w : BitVec 64) (t : Thread) (a : BitVec 14) (r : List StackEnt),
    t = s.thread p →
    s.issues p w →
    iOp w = 0x06 →
    iField w 0 56 = 0 →
    t.stack = [] ∨ t.stack = r ++ [.call a] →
    exec (.endl p) s = .next (fault p 3 s)) ∧
  (∀ (s : State) (p : ThreadId) (w : BitVec 64) (t : Thread),
    t = s.thread p →
    s.issues p w →
    opDefined (iOp w) = false →
    exec (.undefinedOp p) s = .next (fault p 1 s)) ∧
  (∀ (s : State) (p : ThreadId) (w : BitVec 64) (c : Instr),
    s.issues p w →
    (c, iOp w) ∈ [(.nop p, 0x00), (.halt p, 0x01), (.endl p, 0x06)] ∧ iField w 0 56 ≠ 0 ∨
    (c, iOp w) ∈ [(.b p, 0x02), (.call p, 0x03)] ∧ iField w 14 38 ≠ 0 ∨ (c, iOp w) = (.ret p, 0x04) ∧ iField w 0 52 ≠ 0 →
    exec c s = .next (fault p 1 s)) ∧
  (∀ (s : State) (p : ThreadId) (w : BitVec 64) (t : Thread) (c : Instr),
    t = s.thread p →
    s.issues p w →
    t.ip = 0x3FFF →
    (c, w) = (.nop p, 0) ∨
    (c, iOp w) ∈ [(.b p, 0x02), (.call p, 0x03)] ∧ iField w 14 38 = 0 ∧ condHolds t (iField w 52 4) = false ∨
    (c, iOp w) = (.ret p, 0x04) ∧ iField w 0 52 = 0 ∧ condHolds t (iField w 52 4) = false →
    exec c s = .next (fault p 2 s))

/-- Each G instruction puts its 32-bit result in Gd and sets Z, N, C and V from it as R89 and R97 say, and goes on: C is the
carry of a sum, the borrow of a difference and the last bit a shift moves out; V is the signed overflow of a sum or
difference and 0 otherwise; a shift of 0 leaves C 0; MOV and MOVI set no flag; CMP and CMPI set flags only. A
register of the wrong class, or a field that must be 0 and is not, is ILLEGAL (R92), and at 16 383 each faults with ADDR
(R94). -/
def Obligations.GArithmeticCompletes : Prop :=
  (∀ (s : State) (p : ThreadId) (w : BitVec 64) (t : Thread) (d a b : Fin 8) (x y : Word),
    t = s.thread p →
    s.issues p w →
    iOp w = 0x10 →
    iField w 52 4 = d.val →
    iField w 48 4 = a.val →
    iField w 44 4 = b.val →
    iField w 0 44 = 0 →
    x = t.g.get a →
    y = t.g.get b →
    t.ip ≠ 0x3FFF →
    exec (.add p) s = .next (s.completed p { t.flags (x + y == 0) (x + y).msb (2 ^ 32 ≤
      x.toNat + y.toNat) ((x.toInt + y.toInt < -2 ^ 31 ∨ 2 ^ 31 ≤ x.toInt + y.toInt : Bool)) with
      ip := t.ip + 1, g := t.g.set d.val (x + y) d.isLt })) ∧
  (∀ (s : State) (p : ThreadId) (w : BitVec 64) (t : Thread) (d a b : Fin 8) (x y : Word),
    t = s.thread p →
    s.issues p w →
    iOp w = 0x11 →
    iField w 52 4 = d.val →
    iField w 48 4 = a.val →
    iField w 44 4 = b.val →
    iField w 0 44 = 0 →
    x = t.g.get a →
    y = t.g.get b →
    t.ip ≠ 0x3FFF →
    exec (.sub p) s = .next (s.completed p { t.flags (x - y == 0) (x - y).msb (x.toNat < y.toNat) ((x.toInt - y.toInt < -2 ^ 31 ∨ 2 ^ 31 ≤ x.toInt - y.toInt : Bool)) with
      ip := t.ip + 1, g := t.g.set d.val (x - y) d.isLt })) ∧
  (∀ (s : State) (p : ThreadId) (w : BitVec 64) (t : Thread) (d a b : Fin 8) (x y : Word),
    t = s.thread p →
    s.issues p w →
    iOp w = 0x12 →
    iField w 52 4 = d.val →
    iField w 48 4 = a.val →
    iField w 44 4 = b.val →
    iField w 0 44 = 0 →
    x = t.g.get a →
    y = t.g.get b →
    t.ip ≠ 0x3FFF →
    exec (.and p) s = .next (s.completed p { t.flags (x &&& y == 0) (x &&& y).msb (false) (false) with
      ip := t.ip + 1, g := t.g.set d.val (x &&& y) d.isLt })) ∧
  (∀ (s : State) (p : ThreadId) (w : BitVec 64) (t : Thread) (d a b : Fin 8) (x y : Word),
    t = s.thread p →
    s.issues p w →
    iOp w = 0x13 →
    iField w 52 4 = d.val →
    iField w 48 4 = a.val →
    iField w 44 4 = b.val →
    iField w 0 44 = 0 →
    x = t.g.get a →
    y = t.g.get b →
    t.ip ≠ 0x3FFF →
    exec (.or p) s = .next (s.completed p { t.flags (x ||| y == 0) (x ||| y).msb (false) (false) with
      ip := t.ip + 1, g := t.g.set d.val (x ||| y) d.isLt })) ∧
  (∀ (s : State) (p : ThreadId) (w : BitVec 64) (t : Thread) (d a b : Fin 8) (x y : Word),
    t = s.thread p →
    s.issues p w →
    iOp w = 0x14 →
    iField w 52 4 = d.val →
    iField w 48 4 = a.val →
    iField w 44 4 = b.val →
    iField w 0 44 = 0 →
    x = t.g.get a →
    y = t.g.get b →
    t.ip ≠ 0x3FFF →
    exec (.xor p) s = .next (s.completed p { t.flags (x ^^^ y == 0) (x ^^^ y).msb (false) (false) with
      ip := t.ip + 1, g := t.g.set d.val (x ^^^ y) d.isLt })) ∧
  (∀ (s : State) (p : ThreadId) (w : BitVec 64) (t : Thread) (d a b : Fin 8) (x y : Word),
    t = s.thread p →
    s.issues p w →
    iOp w = 0x15 →
    iField w 52 4 = d.val →
    iField w 48 4 = a.val →
    iField w 44 4 = b.val →
    iField w 0 44 = 0 →
    x = t.g.get a →
    y = t.g.get b →
    t.ip ≠ 0x3FFF →
    exec (.shl p) s = .next (s.completed p { t.flags (x <<< (y.toNat % 32) == 0) (x <<< (y.toNat % 32)).msb (y.toNat % 32 ≠ 0 ∧ x.getLsbD (32 - y.toNat % 32) = true) (false) with
      ip := t.ip + 1, g := t.g.set d.val (x <<< (y.toNat % 32)) d.isLt })) ∧
  (∀ (s : State) (p : ThreadId) (w : BitVec 64) (t : Thread) (d a b : Fin 8) (x y : Word),
    t = s.thread p →
    s.issues p w →
    iOp w = 0x16 →
    iField w 52 4 = d.val →
    iField w 48 4 = a.val →
    iField w 44 4 = b.val →
    iField w 0 44 = 0 →
    x = t.g.get a →
    y = t.g.get b →
    t.ip ≠ 0x3FFF →
    exec (.shr p) s = .next (s.completed p { t.flags (x >>> (y.toNat % 32) == 0) (x >>> (y.toNat % 32)).msb (y.toNat % 32 ≠ 0 ∧ x.getLsbD (y.toNat % 32 - 1) = true) (false) with
      ip := t.ip + 1, g := t.g.set d.val (x >>> (y.toNat % 32)) d.isLt })) ∧
  (∀ (s : State) (p : ThreadId) (w : BitVec 64) (t : Thread) (d a b : Fin 8) (x y : Word),
    t = s.thread p →
    s.issues p w →
    iOp w = 0x17 →
    iField w 52 4 = d.val →
    iField w 48 4 = a.val →
    iField w 44 4 = b.val →
    iField w 0 44 = 0 →
    x = t.g.get a →
    y = t.g.get b →
    t.ip ≠ 0x3FFF →
    exec (.mul p) s = .next (s.completed p { t.flags (x * y == 0) (x * y).msb (false) (false) with
      ip := t.ip + 1, g := t.g.set d.val (x * y) d.isLt })) ∧
  (∀ (s : State) (p : ThreadId) (w : BitVec 64) (t : Thread) (a b : Fin 8) (x y : Word),
    t = s.thread p →
    s.issues p w →
    iOp w = 0x18 →
    iField w 52 4 = 0 →
    iField w 48 4 = a.val →
    iField w 44 4 = b.val →
    iField w 0 44 = 0 →
    x = t.g.get a →
    y = t.g.get b →
    t.ip ≠ 0x3FFF →
    exec (.cmp p) s = .next (s.completed p { t.flags (x - y == 0) (x - y).msb (x.toNat < y.toNat) ((x.toInt - y.toInt < -2 ^ 31 ∨ 2 ^ 31 ≤ x.toInt - y.toInt : Bool)) with ip := t.ip + 1 })) ∧
  (∀ (s : State) (p : ThreadId) (w : BitVec 64) (t : Thread) (d a : Fin 8),
    t = s.thread p →
    s.issues p w →
    iOp w = 0x19 →
    iField w 52 4 = d.val →
    iField w 48 4 = a.val →
    iField w 0 48 = 0 →
    t.ip ≠ 0x3FFF →
    exec (.mov p) s = .next (s.completed p { t with ip := t.ip + 1, g := t.g.set d.val (t.g.get a) d.isLt })) ∧
  (∀ (s : State) (p : ThreadId) (w : BitVec 64) (t : Thread) (d : Fin 8),
    t = s.thread p →
    s.issues p w →
    iOp w = 0x1A →
    iField w 52 4 = d.val →
    iField w 32 20 = 0 →
    t.ip ≠ 0x3FFF →
    exec (.movi p) s = .next (s.completed p { t with ip := t.ip + 1, g := t.g.set d.val (w.setWidth 32) d.isLt })) ∧
  (∀ (s : State) (p : ThreadId) (w : BitVec 64) (t : Thread) (d a : Fin 8) (x y : Word),
    t = s.thread p →
    s.issues p w →
    iOp w = 0x1B →
    iField w 52 4 = d.val →
    iField w 48 4 = a.val →
    iField w 32 16 = 0 →
    x = t.g.get a →
    y = w.setWidth 32 →
    t.ip ≠ 0x3FFF →
    exec (.addi p) s = .next (s.completed p { t.flags (x + y == 0) (x + y).msb (2 ^ 32 ≤
      x.toNat + y.toNat) ((x.toInt + y.toInt < -2 ^ 31 ∨ 2 ^ 31 ≤ x.toInt + y.toInt : Bool)) with
      ip := t.ip + 1, g := t.g.set d.val (x + y) d.isLt })) ∧
  (∀ (s : State) (p : ThreadId) (w : BitVec 64) (t : Thread) (d a : Fin 8) (x y : Word),
    t = s.thread p →
    s.issues p w →
    iOp w = 0x1C →
    iField w 52 4 = d.val →
    iField w 48 4 = a.val →
    iField w 32 16 = 0 →
    x = t.g.get a →
    y = w.setWidth 32 →
    t.ip ≠ 0x3FFF →
    exec (.andi p) s = .next (s.completed p { t.flags (x &&& y == 0) (x &&& y).msb (false) (false) with
      ip := t.ip + 1, g := t.g.set d.val (x &&& y) d.isLt })) ∧
  (∀ (s : State) (p : ThreadId) (w : BitVec 64) (t : Thread) (a : Fin 8) (x y : Word),
    t = s.thread p →
    s.issues p w →
    iOp w = 0x1D →
    iField w 52 4 = 0 →
    iField w 48 4 = a.val →
    iField w 32 16 = 0 →
    x = t.g.get a →
    y = w.setWidth 32 →
    t.ip ≠ 0x3FFF →
    exec (.cmpi p) s = .next (s.completed p { t.flags (x - y == 0) (x - y).msb (x.toNat < y.toNat) ((x.toInt - y.toInt < -2 ^ 31 ∨ 2 ^ 31 ≤ x.toInt - y.toInt : Bool)) with ip := t.ip + 1 })) ∧
  (∀ (s : State) (p : ThreadId) (w : BitVec 64) (t : Thread) (d a : Fin 8) (x : Word) (k : Nat),
    t = s.thread p →
    s.issues p w →
    iOp w = 0x1E →
    iField w 52 4 = d.val →
    iField w 48 4 = a.val →
    iField w 5 43 = 0 →
    x = t.g.get a →
    k = iField w 0 5 →
    t.ip ≠ 0x3FFF →
    exec (.shli p) s = .next (s.completed p { t.flags (x <<< k == 0) (x <<< k).msb (k ≠ 0 ∧
      x.getLsbD (32 - k) = true) (false) with
      ip := t.ip + 1, g := t.g.set d.val (x <<< k) d.isLt })) ∧
  (∀ (s : State) (p : ThreadId) (w : BitVec 64) (t : Thread) (d a : Fin 8) (x : Word) (k : Nat),
    t = s.thread p →
    s.issues p w →
    iOp w = 0x1F →
    iField w 52 4 = d.val →
    iField w 48 4 = a.val →
    iField w 5 43 = 0 →
    x = t.g.get a →
    k = iField w 0 5 →
    t.ip ≠ 0x3FFF →
    exec (.shri p) s = .next (s.completed p { t.flags (x >>> k == 0) (x >>> k).msb (k ≠ 0 ∧
      x.getLsbD (k - 1) = true) (false) with
      ip := t.ip + 1, g := t.g.set d.val (x >>> k) d.isLt })) ∧
  (∀ (s : State) (p : ThreadId) (w : BitVec 64) (c : Instr) (ok : Bool),
    s.issues p w →
    (c, iOp w, ok) ∈ [(.add p, 0x10, okR isG isG isG w),
    (.sub p, 0x11, okR isG isG isG w),
    (.and p, 0x12, okR isG isG isG w),
    (.or p, 0x13, okR isG isG isG w),
    (.xor p, 0x14, okR isG isG isG w),
    (.shl p, 0x15, okR isG isG isG w),
    (.shr p, 0x16, okR isG isG isG w),
    (.mul p, 0x17, okR isG isG isG w),
    (.cmp p, 0x18, okR none' isG isG w),
    (.mov p, 0x19, okR isG isG none' w),
    (.movi p, 0x1A, okI isG none' w),
    (.addi p, 0x1B, okI isG isG w),
    (.andi p, 0x1C, okI isG isG w),
    (.cmpi p, 0x1D, okI none' isG w),
    (.shli p, 0x1E, (isG (fD w) && isG (fA w) && zero w 5 43)),
    (.shri p, 0x1F, (isG (fD w) && isG (fA w) && zero w 5 43))] →
    ok = false →
    exec c s = .next (fault p 1 s)) ∧
  (∀ (s : State) (p : ThreadId) (w : BitVec 64) (c : Instr) (ok : Bool),
    s.issues p w →
    (s.thread p).ip = 0x3FFF →
    (c, iOp w, ok) ∈ [(.add p, 0x10, okR isG isG isG w),
    (.sub p, 0x11, okR isG isG isG w),
    (.and p, 0x12, okR isG isG isG w),
    (.or p, 0x13, okR isG isG isG w),
    (.xor p, 0x14, okR isG isG isG w),
    (.shl p, 0x15, okR isG isG isG w),
    (.shr p, 0x16, okR isG isG isG w),
    (.mul p, 0x17, okR isG isG isG w),
    (.cmp p, 0x18, okR none' isG isG w),
    (.mov p, 0x19, okR isG isG none' w),
    (.movi p, 0x1A, okI isG none' w),
    (.addi p, 0x1B, okI isG isG w),
    (.andi p, 0x1C, okI isG isG w),
    (.cmpi p, 0x1D, okI none' isG w),
    (.shli p, 0x1E, (isG (fD w) && isG (fA w) && zero w 5 43)),
    (.shri p, 0x1F, (isG (fD w) && isG (fA w) && zero w 5 43))] →
    ok = true →
    exec c s = .next (fault p 2 s))

/-- Each time instruction puts its result in Td, or in Gd for TDIFF and TGET, modulo 2^80, and goes on (R98): TADD, TSUB
and TCMP set Z, N and C, with V 0; TDIFF gives the whole units between two times, 0 with C where the second is later and
all ones with V where they do not fit; TMAC and TDIFF take two slots and have their effect in the
second (R88); the others set no flag. NOW gives the slot's DT (R123). An illegal field is ILLEGAL (R92), and at 16 383 each
faults with ADDR (R94). -/
def Obligations.TimeInstructionsComplete : Prop :=
  (∀ (s : State) (p : ThreadId) (w : BitVec 64) (t : Thread) (d a : Fin 8),
    t = s.thread p →
    s.issues p w →
    iOp w = 0x20 →
    iField w 52 4 = 8 + d.val →
    iField w 48 4 = 8 + a.val →
    iField w 0 48 = 0 →
    t.ip ≠ 0x3FFF →
    exec (.tmov p) s = .next (s.completed p { t with
      ip := t.ip + 1, t := t.t.set d.val (t.t.get a) d.isLt })) ∧
  (∀ (s : State) (p : ThreadId) (w : BitVec 64) (t : Thread) (d a b : Fin 8) (x y : DT),
    t = s.thread p →
    s.issues p w →
    iOp w = 0x21 →
    iField w 52 4 = 8 + d.val →
    iField w 48 4 = 8 + a.val →
    iField w 44 4 = 8 + b.val →
    iField w 0 44 = 0 →
    x = t.t.get a →
    y = t.t.get b →
    t.ip ≠ 0x3FFF →
    exec (.tadd p) s = .next (s.completed p { t.flags (x + y == 0) (x + y).msb (2 ^ 80 ≤
      x.toNat + y.toNat) false with
      ip := t.ip + 1, t := t.t.set d.val (x + y) d.isLt })) ∧
  (∀ (s : State) (p : ThreadId) (w : BitVec 64) (t : Thread) (d a b : Fin 8) (x y : DT),
    t = s.thread p →
    s.issues p w →
    iOp w = 0x22 →
    iField w 52 4 = 8 + d.val →
    iField w 48 4 = 8 + a.val →
    iField w 44 4 = 8 + b.val →
    iField w 0 44 = 0 →
    x = t.t.get a →
    y = t.t.get b →
    t.ip ≠ 0x3FFF →
    exec (.tsub p) s = .next (s.completed p { t.flags (x - y == 0) (x - y).msb (x.toNat < y.toNat) false with
      ip := t.ip + 1, t := t.t.set d.val (x - y) d.isLt })) ∧
  (∀ (s : State) (p : ThreadId) (w : BitVec 64) (t : Thread) (a b : Fin 8) (x y : DT),
    t = s.thread p →
    s.issues p w →
    iOp w = 0x26 →
    iField w 52 4 = 0 →
    iField w 48 4 = 8 + a.val →
    iField w 44 4 = 8 + b.val →
    iField w 0 44 = 0 →
    x = t.t.get a →
    y = t.t.get b →
    t.ip ≠ 0x3FFF →
    exec (.tcmp p) s = .next (s.completed p { t.flags (x - y == 0) (x - y).msb (x.toNat < y.toNat) false with ip := t.ip + 1 })) ∧
  (∀ (s : State) (p : ThreadId) (w : BitVec 64) (t : Thread) (d a : Fin 8),
    t = s.thread p →
    s.issues p w →
    iOp w = 0x23 →
    iField w 52 4 = 8 + d.val →
    iField w 48 4 = 8 + a.val →
    t.ip ≠ 0x3FFF →
    exec (.taddi p) s = .next (s.completed p { t with
      ip := t.ip + 1, t := t.t.set d.val (t.t.get a + (w.setWidth 48).signExtend 80) d.isLt })) ∧
  (∀ (s : State) (p : ThreadId) (w : BitVec 64) (t : Thread) (d a b : Fin 8) (n : Nat),
    t = s.thread p →
    s.issues p w →
    iOp w = 0x24 →
    iField w 52 4 = 8 + d.val →
    iField w 48 4 = 8 + a.val →
    iField w 44 4 = b.val →
    iField w 42 2 < 3 ∧ iField w 0 42 = 0 →
    (n = if iField w 42 2 = 0 then 1 else if iField w 42 2 = 1 then 4096 else 4096000) →
    t.ip ≠ 0x3FFF →
    exec (.taddg p) s = .next (s.completed p { t with
      ip := t.ip + 1, t := t.t.set d.val (BitVec.ofNat 80 ((t.t.get a).toNat + (t.g.get b).toNat * n)) d.isLt })) ∧
  (∀ (s : State) (p : ThreadId) (w : BitVec 64) (t : Thread) (d a b : Fin 8),
    t = s.thread p →
    s.issues p w →
    iOp w = 0x25 →
    iField w 52 4 = 8 + d.val →
    iField w 48 4 = 8 + a.val →
    iField w 44 4 = b.val →
    iField w 32 12 = 0 →
    t.nextSlot + 16 ≤ s.slot →
    t.ip ≠ 0x3FFF →
    exec (.tmac p) s = .next (s.completed p { t with
      ip := t.ip + 1, t := t.t.set d.val (BitVec.ofNat 80 ((t.t.get a).toNat + (t.g.get b).toNat * iField w 0 32)) d.isLt })) ∧
  (∀ (s : State) (p : ThreadId) (w : BitVec 64) (t : Thread) (d : Fin 8) (a b : Fin 8) (n x y : Nat) (r : Word),
    t = s.thread p →
    s.issues p w →
    iOp w = 0x27 →
    iField w 52 4 = d.val →
    iField w 48 4 = 8 + a.val →
    iField w 44 4 = 8 + b.val →
    iField w 42 2 < 3 ∧ iField w 0 42 = 0 →
    (n = if iField w 42 2 = 0 then 1 else if iField w 42 2 = 1 then 4096 else 4096000) →
    x = (t.t.get a).toNat →
    y = (t.t.get b).toNat →
    (r.toNat = if x < y then 0 else if (x - y) / n < 2 ^ 32 then (x - y) / n else 2 ^ 32 - 1) →
    t.nextSlot + 16 ≤ s.slot →
    t.ip ≠ 0x3FFF →
    exec (.tdiff p) s = .next (s.completed p { t.flags (r == 0) false (x < y) (decide (y ≤ x ∧
      2 ^ 32 ≤ (x - y) / n)) with
      ip := t.ip + 1, g := t.g.set d.val (r) d.isLt })) ∧
  (∀ (s : State) (p : ThreadId) (w : BitVec 64) (t : Thread) (d : Fin 8),
    t = s.thread p →
    s.issues p w →
    iOp w = 0x28 →
    iField w 52 4 = 8 + d.val →
    iField w 48 4 = 0 →
    t.ip ≠ 0x3FFF →
    exec (.tldl p) s = .next (s.completed p { t with
      ip := t.ip + 1, t := t.t.set d.val ((w.setWidth 48).setWidth 80) d.isLt })) ∧
  (∀ (s : State) (p : ThreadId) (w : BitVec 64) (t : Thread) (d : Fin 8),
    t = s.thread p →
    s.issues p w →
    iOp w = 0x29 →
    iField w 52 4 = 8 + d.val →
    iField w 32 20 = 0 →
    t.ip ≠ 0x3FFF →
    exec (.tldh p) s = .next (s.completed p { t with
      ip := t.ip + 1, t := t.t.set d.val (BitVec.append (w.setWidth 32) ((t.t.get d).setWidth 48)) d.isLt })) ∧
  (∀ (s : State) (p : ThreadId) (w : BitVec 64) (t : Thread) (d a : Fin 8),
    t = s.thread p →
    s.issues p w →
    iOp w = 0x2A →
    iField w 52 4 = d.val →
    iField w 48 4 = 8 + a.val →
    iField w 2 46 = 0 ∧ iField w 0 2 < 3 →
    t.ip ≠ 0x3FFF →
    exec (.tget p) s = .next (s.completed p { t with
      ip := t.ip + 1, g := t.g.set d.val (((t.t.get a) >>> (32 * iField w 0 2)).setWidth 32) d.isLt })) ∧
  (∀ (s : State) (p : ThreadId) (w : BitVec 64) (t : Thread) (d a : Fin 8) (r x : DT),
    t = s.thread p →
    s.issues p w →
    iOp w = 0x2B →
    iField w 52 4 = 8 + d.val →
    iField w 48 4 = a.val →
    iField w 2 46 = 0 ∧ iField w 0 2 < 3 →
    x = t.t.get d →
    (r.toNat =
    (if iField w 0 2 = 0 then (t.g.get a).toNat else x.toNat % 2 ^ 32) +
    (if iField w 0 2 = 1 then (t.g.get a).toNat else x.toNat / 2 ^ 32 % 2 ^ 32) * 2 ^ 32 +
    (if iField w 0 2 = 2 then (t.g.get a).toNat % 2 ^ 16 else x.toNat / 2 ^ 64) * 2 ^ 64) →
    t.ip ≠ 0x3FFF →
    exec (.tput p) s = .next (s.completed p { t with
      ip := t.ip + 1, t := t.t.set d.val (r) d.isLt })) ∧
  (∀ (s : State) (p : ThreadId) (w : BitVec 64) (t : Thread) (d : Fin 8) (r : DT),
    t = s.thread p →
    s.issues p w →
    iOp w = 0x2C →
    iField w 52 4 = 8 + d.val →
    iField w 0 52 = 0 →
    r.toNat = (32768 * s.slot + 4) / 5 →
    t.ip ≠ 0x3FFF →
    exec (.now p) s = .next (s.completed p { t with
      ip := t.ip + 1, t := t.t.set d.val (r) d.isLt })) ∧
  (∀ (s : State) (p : ThreadId) (w : BitVec 64) (c : Instr) (ok : Bool),
    s.issues p w →
    (c, iOp w, ok) ∈ [(.tmov p, 0x20, okR isT isT none' w),
    (.tadd p, 0x21, okR isT isT isT w),
    (.tsub p, 0x22, okR isT isT isT w),
    (.taddi p, 0x23, (isT (fD w) && isT (fA w))),
    (.taddg p, 0x24, (isT (fD w) && isT (fA w) && isG (fB w) && fSC w != 3 && zero w 0 42)),
    (.tmac p, 0x25, (isT (fD w) && isT (fA w) && isG (fB w) && zero w 32 12)),
    (.tcmp p, 0x26, okR none' isT isT w),
    (.tdiff p, 0x27, (isG (fD w) && isT (fA w) && isT (fB w) && fSC w != 3 && zero w 0 42)),
    (.tldl p, 0x28, (isT (fD w) && none' (fA w))),
    (.tldh p, 0x29, okI isT none' w),
    (.tget p, 0x2A, (isG (fD w) && isT (fA w) && zero w 2 46 && iField w 0 2 != 3)),
    (.tput p, 0x2B, (isT (fD w) && isG (fA w) && zero w 2 46 && iField w 0 2 != 3)),
    (.now p, 0x2C, okR isT none' none' w)] →
    ok = false →
    exec c s = .next (fault p 1 s)) ∧
  (∀ (s : State) (p : ThreadId) (w : BitVec 64) (c : Instr) (ok : Bool),
    s.issues p w →
    (s.thread p).ip = 0x3FFF →
    (c, iOp w, ok) ∈ [(.tmov p, 0x20, okR isT isT none' w),
    (.tadd p, 0x21, okR isT isT isT w),
    (.tsub p, 0x22, okR isT isT isT w),
    (.taddi p, 0x23, (isT (fD w) && isT (fA w))),
    (.taddg p, 0x24, (isT (fD w) && isT (fA w) && isG (fB w) && fSC w != 3 && zero w 0 42)),
    (.tmac p, 0x25, (isT (fD w) && isT (fA w) && isG (fB w) && zero w 32 12)),
    (.tcmp p, 0x26, okR none' isT isT w),
    (.tdiff p, 0x27, (isG (fD w) && isT (fA w) && isT (fB w) && fSC w != 3 && zero w 0 42)),
    (.tldl p, 0x28, (isT (fD w) && none' (fA w))),
    (.tldh p, 0x29, okI isT none' w),
    (.tget p, 0x2A, (isG (fD w) && isT (fA w) && zero w 2 46 && iField w 0 2 != 3)),
    (.tput p, 0x2B, (isT (fD w) && isG (fA w) && zero w 2 46 && iField w 0 2 != 3)),
    (.now p, 0x2C, okR isT none' none' w)] →
    ok = true →
    exec c s = .next (fault p 2 s)) ∧
  (∀ (s : State) (p : ThreadId) (w : BitVec 64) (c : Instr) (ok : Bool),
    s.issues p w →
    s.slot < (s.thread p).nextSlot + 16 →
    (s.thread p).ip ≠ 0x3FFF →
    (c, iOp w, ok) ∈ [(.tmac p, 0x25, (isT (fD w) && isT (fA w) && isG (fB w) && zero w 32 12)),
    (.tdiff p, 0x27, (isG (fD w) && isT (fA w) && isT (fB w) && fSC w != 3 && zero w 0 42))] →
    ok = true →
    exec c s = .next s)

/-- LDD loads half of a word of the active bank and TLD 80 bits of two words, at the address FORM plus Ga where X = 1; past
16 383 they fault with ADDR (R99). Both take two slots, and have their effect in the second (R88). INFO puts the fact SEL names in Gd; for SEL 6 a Ga above 63 faults with RANGE (R100). -/
def Obligations.TablesAndInfoComplete : Prop :=
  (∀ (s : State) (p : ThreadId) (w : BitVec 64) (t : Thread) (d : Fin 8) (a : Nat),
    t = s.thread p →
    s.issues p w →
    iOp w = 0x2D →
    iField w 52 4 = d.val →
    iField w 14 32 = 0 →
    iField w 47 1 = 0 ∧ iField w 48 4 = 0 ∧ a = iField w 0 14 ∨
    iField w 47 1 = 1 ∧ iField w 48 4 < 8 ∧ a = iField w 0 14 + (t.gr (iField w 48 4)).toNat →
    a ≤ 16383 →
    t.nextSlot + 16 ≤ s.slot →
    t.ip ≠ 0x3FFF →
    exec (.ldd p) s = .next (s.completed p { t with
      ip := t.ip + 1, g := t.g.set d.val (if iField w 46 1 =
        0 then (s.code p a).setWidth 32 else (s.code p a >>> 32).setWidth 32) d.isLt })) ∧
  (∀ (s : State) (p : ThreadId) (w : BitVec 64) (t : Thread) (a : Nat),
    t = s.thread p →
    s.issues p w →
    iOp w = 0x2D →
    iField w 52 4 < 8 →
    iField w 14 32 = 0 →
    iField w 47 1 = 1 ∧ iField w 48 4 < 8 ∧ a = iField w 0 14 + (t.gr (iField w 48 4)).toNat →
    16383 < a →
    exec (.ldd p) s = .next (fault p 2 s)) ∧
  (∀ (s : State) (p : ThreadId) (w : BitVec 64) (t : Thread) (d : Fin 8) (a : Nat),
    t = s.thread p →
    s.issues p w →
    iOp w = 0x2E →
    iField w 52 4 = 8 + d.val →
    iField w 14 33 = 0 →
    iField w 47 1 = 0 ∧ iField w 48 4 = 0 ∧ a = iField w 0 14 ∨
    iField w 47 1 = 1 ∧ iField w 48 4 < 8 ∧ a = iField w 0 14 + (t.gr (iField w 48 4)).toNat →
    a < 16383 →
    t.nextSlot + 16 ≤ s.slot →
    t.ip ≠ 0x3FFF →
    exec (.tld p) s = .next (s.completed p { t with
      ip := t.ip + 1, t := t.t.set d.val (BitVec.append ((s.code p (a + 1)).setWidth 16) (s.code p a)) d.isLt })) ∧
  (∀ (s : State) (p : ThreadId) (w : BitVec 64) (t : Thread),
    t = s.thread p →
    s.issues p w →
    iOp w = 0x2E →
    8 ≤ iField w 52 4 →
    iField w 14 33 = 0 →
    iField w 47 1 = 0 ∧ iField w 48 4 = 0 →
    iField w 0 14 = 16383 →
    exec (.tld p) s = .next (fault p 2 s)) ∧
  (∀ (s : State) (p : ThreadId) (w : BitVec 64) (t : Thread) (d : Fin 8) (r : Word),
    t = s.thread p →
    s.issues p w →
    iOp w = 0x2F →
    iField w 52 4 = d.val →
    iField w 4 48 = 0 →
    ((iField w 0 4, r.toNat) ∈ [(0, p.val), (1, s.stoker.pos.toNat), (2, if s.pair.side then 1 else 0), (3, s.commit.gen.toNat),
    (4, s.commitStatus.toNat), (5, t.mbox.length % 2 ^ 32), (7, t.lastSrc.toNat), (8, if s.noon.epoch then 1 else 0)]) →
    t.ip ≠ 0x3FFF →
    exec (.info p) s = .next (s.completed p { t with
      ip := t.ip + 1, g := t.g.set d.val (r) d.isLt })) ∧
  (∀ (s : State) (p : ThreadId) (w : BitVec 64) (t : Thread) (d a : Fin 8) (i : SpokeId),
    t = s.thread p →
    s.issues p w →
    iOp w = 0x2F →
    iField w 52 4 = d.val →
    iField w 48 4 = a.val →
    iField w 0 48 = 6 →
    (t.g.get a).toNat = i.val →
    t.ip ≠ 0x3FFF →
    exec (.info p) s = .next (s.completed p { t with
      ip := t.ip + 1, g := t.g.set d.val (BitVec.ofNat 32 (64 - s.pacer.used.get i)) d.isLt })) ∧
  (∀ (s : State) (p : ThreadId) (w : BitVec 64) (t : Thread) (a : Fin 8),
    t = s.thread p →
    s.issues p w →
    iOp w = 0x2F →
    iField w 52 4 < 8 →
    iField w 48 4 = a.val →
    iField w 0 48 = 6 →
    63 < (t.g.get a).toNat →
    exec (.info p) s = .next (fault p 4 s)) ∧
  (∀ (s : State) (p : ThreadId) (w : BitVec 64) (t : Thread) (c : Instr) (a : Nat),
    t = s.thread p →
    s.issues p w →
    s.slot < t.nextSlot + 16 →
    t.ip ≠ 0x3FFF →
    iField w 47 1 = 0 ∧ iField w 48 4 = 0 ∧ a = iField w 0 14 ∨
    iField w 47 1 = 1 ∧ iField w 48 4 < 8 ∧ a = iField w 0 14 + (t.gr (iField w 48 4)).toNat →
    (c, iOp w) = (.ldd p, 0x2D) ∧ iField w 52 4 < 8 ∧ iField w 14 32 = 0 ∧ a ≤ 16383 ∨
    (c, iOp w) = (.tld p, 0x2E) ∧ 8 ≤ iField w 52 4 ∧ iField w 14 33 = 0 ∧ a < 16383 →
    exec c s = .next s) ∧
  (∀ (s : State) (p : ThreadId) (w : BitVec 64) (c : Instr),
    s.issues p w →
    (c, iOp w) = (.ldd p, 0x2D) ∧ (isG (fD w) && okX w && zero w 14 32) = false ∨
    (c, iOp w) = (.tld p, 0x2E) ∧ (isT (fD w) && okX w && zero w 14 33) = false ∨
    (c, iOp w) = (.info p, 0x2F) ∧ (isG (fD w) && zero w 4 44 && iField w 0 4 ≤ 8) = false →
    exec c s = .next (fault p 1 s))

/-- With room and enough lead, PULSE, LEVEL and EMIT place a descriptor built from the word, or from the template with the
WIDTH of a G register, in the spoke's channel, tagged with Pacer's generation, with START the time less the anchor mirror
(R58, R101 to R105), an ANCHOR in front of it where START would not fit; ANCHOR and CANCEL place theirs (R106, R107), a
cancel behind what waits in the channel (R44), and VSTART, VRATE, VJUMP and VSTOP their engine message (R109); each with F
clear. KPOST posts a target, or sets F where the axis has 256 (R110). A spoke, segment, period or WIDTH out of range faults
with RANGE, a template in the last word with ADDR, and one that is an ANCHOR or has a START with FORM (R102, R105, R109);
which of several faults is reported is the model's choice (log entry 99). -/
def Obligations.IssueCompletes : Prop :=
  (∀ (s : State) (p : ThreadId) (w : BitVec 64) (t : Thread) (i : SpokeId) (d : Fin 8) (ta : DT),
    t = s.thread p →
    s.issues p w →
    iOp w = 0x40 →
    iField w 52 4 = 8 + d.val →
    ta = t.t.get d →
    okSpoke w = true ∧ spokeOf t w = i.val →
    iField w 48 4 = 0 ∧ iField w 26 11 = 0 →
    (s.spoke i).chan.length < 4 ∧ s.pacer.used.get i < 64 →
    (ta - s.pacer.mirror.get i).toNat < 2 ^ 56 →
    dtLe (dtAdd (slotDt s.slot) 131072) ta = true →
    t.ip ≠ 0x3FFF →
    ∃ u, exec (.pulse p) s = .next u ∧
      (u.spoke i).chan = (s.spoke i).chan ++ [.desc ⟨BitVec.ofNat 128 (1 + iField w 39 1 * 8 + iField w 38 1 * 16 + iField w 37 1 * 32 + iField w 0 26 * 2 ^ 18 +
      (ta - s.pacer.mirror.get i).toNat * 2 ^ 72), (s.island islPacer).gen, p⟩] ∧
      u.pacer.used.get i = s.pacer.used.get i + 1 ∧
      u.thread p = (s.completed p { t with f := false, ip := t.ip + 1 }).thread p) ∧
  (∀ (s : State) (p : ThreadId) (w : BitVec 64) (t : Thread) (i : SpokeId) (d : Fin 8) (ta : DT),
    t = s.thread p →
    s.issues p w →
    iOp w = 0x40 →
    iField w 52 4 = 8 + d.val →
    ta = t.t.get d →
    okSpoke w = true ∧ spokeOf t w = i.val →
    iField w 48 4 = 0 ∧ iField w 26 11 = 0 →
    (s.spoke i).chan.length + 2 ≤ 4 ∧ s.pacer.used.get i < 64 →
    2 ^ 56 ≤ (ta - s.pacer.mirror.get i).toNat →
    dtLe (dtAdd (slotDt s.slot) 131072) ta = true →
    t.ip ≠ 0x3FFF →
    ∃ u, exec (.pulse p) s = .next u ∧
      (u.spoke i).chan = (s.spoke i).chan ++ [.desc ⟨BitVec.ofNat 128 (ta.toNat * 2 ^ 48), (s.island islPacer).gen, p⟩,
      .desc ⟨BitVec.ofNat 128 (1 + iField w 39 1 * 8 + iField w 38 1 * 16 + iField w 37 1 * 32 + iField w 0 26 * 2 ^ 18),
      (s.island islPacer).gen, p⟩] ∧ u.pacer.mirror.get i = ta) ∧
  (∀ (s : State) (p : ThreadId) (w : BitVec 64) (t : Thread) (i : SpokeId) (d : Fin 8) (ta : DT),
    t = s.thread p →
    s.issues p w →
    iOp w = 0x41 →
    iField w 52 4 = 8 + d.val →
    ta = t.t.get d →
    okSpoke w = true ∧ spokeOf t w = i.val →
    iField w 48 4 = 0 ∧ iField w 38 2 < 3 ∧ iField w 0 37 = 0 →
    (s.spoke i).chan.length < 4 ∧ s.pacer.used.get i < 64 →
    (ta - s.pacer.mirror.get i).toNat < 2 ^ 56 →
    dtLe (dtAdd (slotDt s.slot) 131072) ta = true →
    t.ip ≠ 0x3FFF →
    ∃ u, exec (.level p) s = .next u ∧
      (u.spoke i).chan = (s.spoke i).chan ++ [.desc ⟨BitVec.ofNat 128 (4 + iField w 38 2 * 8 + iField w 37 1 * 32 +
      (ta - s.pacer.mirror.get i).toNat * 2 ^ 72), (s.island islPacer).gen, p⟩] ∧
      u.pacer.used.get i = s.pacer.used.get i + 1 ∧
      u.thread p = (s.completed p { t with f := false, ip := t.ip + 1 }).thread p) ∧
  (∀ (s : State) (p : ThreadId) (w : BitVec 64) (t : Thread) (i : SpokeId) (d : Fin 8) (ta : DT) (raw : BitVec 128),
    t = s.thread p →
    s.issues p w →
    iOp w = 0x42 →
    iField w 52 4 = 8 + d.val →
    ta = t.t.get d →
    okSpoke w = true ∧ spokeOf t w = i.val →
    iField w 39 1 = 0 ∧ iField w 48 4 = 0 ∧ iField w 14 25 = 0 →
    t.nextSlot + 16 ≤ s.slot →
    raw = s.template p (iField w 0 14) →
    iField w 0 14 ≠ 16383 ∧ dKind raw ≠ 0 ∧ dStart raw = 0 →
    (s.spoke i).chan.length < 4 ∧ s.pacer.used.get i < 64 →
    (ta - s.pacer.mirror.get i).toNat < 2 ^ 56 →
    dtLe (dtAdd (slotDt s.slot) 131072) ta = true →
    t.ip ≠ 0x3FFF →
    ∃ u, exec (.emit p) s = .next u ∧
      (u.spoke i).chan = (s.spoke i).chan ++ [.desc ⟨BitVec.ofNat 128 (raw.toNat +
      (ta - s.pacer.mirror.get i).toNat * 2 ^ 72), (s.island islPacer).gen, p⟩] ∧
      u.pacer.used.get i = s.pacer.used.get i + 1 ∧
      u.thread p = (s.completed p { t with f := false, ip := t.ip + 1 }).thread p) ∧
  (∀ (s : State) (p : ThreadId) (w : BitVec 64) (t : Thread) (i : SpokeId) (d : Fin 8) (ta : DT) (raw : BitVec 128),
    t = s.thread p →
    s.issues p w →
    iOp w = 0x42 →
    iField w 52 4 = 8 + d.val →
    ta = t.t.get d →
    okSpoke w = true ∧ spokeOf t w = i.val →
    iField w 39 1 = 1 ∧ iField w 48 4 < 8 ∧ iField w 14 25 = 0 →
    t.nextSlot + 16 ≤ s.slot →
    raw = s.template p (iField w 0 14) →
    iField w 0 14 ≠ 16383 ∧ dKind raw ≠ 0 ∧ dStart raw = 0 →
    (t.gr (iField w 48 4)).toNat < 2 ^ 26 →
    (s.spoke i).chan.length < 4 ∧ s.pacer.used.get i < 64 →
    (ta - s.pacer.mirror.get i).toNat < 2 ^ 56 →
    dtLe (dtAdd (slotDt s.slot) 131072) ta = true →
    t.ip ≠ 0x3FFF →
    ∃ u, exec (.emit p) s = .next u ∧
      (u.spoke i).chan = (s.spoke i).chan ++ [.desc ⟨BitVec.ofNat 128 (raw.toNat % 2 ^ 18 + (t.gr (iField w 48 4)).toNat * 2 ^ 18 +
      raw.toNat / 2 ^ 44 * 2 ^ 44 + (ta - s.pacer.mirror.get i).toNat * 2 ^ 72), (s.island islPacer).gen, p⟩] ∧
      u.pacer.used.get i = s.pacer.used.get i + 1 ∧
      u.thread p = (s.completed p { t with f := false, ip := t.ip + 1 }).thread p) ∧
  (∀ (s : State) (p : ThreadId) (w : BitVec 64) (t : Thread) (i : SpokeId) (d : Fin 8) (ta : DT),
    t = s.thread p →
    s.issues p w →
    iOp w = 0x43 →
    iField w 52 4 = 8 + d.val →
    ta = t.t.get d →
    okSpoke w = true ∧ spokeOf t w = i.val →
    iField w 48 4 = 0 ∧ iField w 0 40 = 0 →
    (s.spoke i).chan.length < 4 →
    t.ip ≠ 0x3FFF →
    ∃ u, exec (.anchor p) s = .next u ∧ u.pacer.mirror.get i = ta ∧ u.pacer.used = s.pacer.used ∧
      (u.spoke i).chan = (s.spoke i).chan ++ [.desc ⟨BitVec.ofNat 128 (ta.toNat * 2 ^ 48), (s.island islPacer).gen, p⟩] ∧
      u.thread p = (s.completed p { t with f := false, ip := t.ip + 1 }).thread p) ∧
  (∀ (s : State) (p : ThreadId) (w : BitVec 64) (t : Thread) (i : SpokeId) (d : Fin 8) (ta : DT),
    t = s.thread p →
    s.issues p w →
    iOp w = 0x44 →
    iField w 52 4 = 8 + d.val →
    ta = t.t.get d →
    okSpoke w = true ∧ spokeOf t w = i.val →
    iField w 48 4 = 0 ∧ iField w 0 40 = 0 →
    s.clocked = true ∧ (s.spoke i).chan = [] →
    dtLe (dtAdd s.dt 65536) ta = true →
    dtLe (dtAdd (slotDt s.slot) 131072) ta = true →
    t.ip ≠ 0x3FFF →
    exec (.cancel p) s = .next ((s.setSpoke i { s.spoke i with
      cancel := some ta, cancelState := 1 }).completed p { t with f := false, ip := t.ip + 1 })) ∧
  (∀ (s : State) (p : ThreadId) (w : BitVec 64) (t : Thread) (i : SpokeId) (d : Fin 8) (ta : DT),
    t = s.thread p →
    s.issues p w →
    iOp w = 0x44 →
    iField w 52 4 = 8 + d.val →
    ta = t.t.get d →
    okSpoke w = true ∧ spokeOf t w = i.val →
    iField w 48 4 = 0 ∧ iField w 0 40 = 0 →
    (s.spoke i).chan.length < 4 ∧ (s.spoke i).chan ≠ [] →
    dtLe (dtAdd (slotDt s.slot) 131072) ta = true →
    t.ip ≠ 0x3FFF →
    exec (.cancel p) s = .next ((s.setSpoke i { s.spoke i with
      chan := (s.spoke i).chan ++ [.cancel ta p] }).completed p { t with f := false, ip := t.ip + 1 })) ∧
  (∀ (s : State) (p : ThreadId) (w : BitVec 64) (t : Thread) (v : EngineId) (d : Fin 8) (ta : DT) (n : Nat),
    t = s.thread p →
    s.issues p w →
    iOp w = 0x50 →
    iField w 52 4 = 8 + d.val →
    ta = t.t.get d →
    iField w 43 4 = 0 ∧ iField w 32 8 = 0 ∧ iField w 40 3 = v.val →
    iField w 47 1 = 1 ∧ iField w 48 4 = 0 ∧ n = iField w 0 32 ∨
    iField w 47 1 = 0 ∧ iField w 48 4 < 8 ∧ iField w 0 32 = 0 ∧ n = (t.gr (iField w 48 4)).toNat →
    n ≤ 1023 →
    (s.engine v).jumpsIn.length < 4 →
    dtLe (dtAdd (slotDt s.slot) 409600) ta = true →
    t.ip ≠ 0x3FFF →
    exec (.vstart p) s = .next ((s.setEngine v { s.engine v with
      msgs := (s.engine v).msgs ++ [.start (BitVec.ofNat 10 n) ta p] }).completed p { t with f := false, ip := t.ip + 1 })) ∧
  (∀ (s : State) (p : ThreadId) (w : BitVec 64) (t : Thread) (v : EngineId) (d : Fin 8) (ta : DT) (n : Nat),
    t = s.thread p →
    s.issues p w →
    iOp w = 0x52 →
    iField w 52 4 = 8 + d.val →
    ta = t.t.get d →
    iField w 43 4 = 0 ∧ iField w 32 8 = 0 ∧ iField w 40 3 = v.val →
    iField w 47 1 = 1 ∧ iField w 48 4 = 0 ∧ n = iField w 0 32 ∨
    iField w 47 1 = 0 ∧ iField w 48 4 < 8 ∧ iField w 0 32 = 0 ∧ n = (t.gr (iField w 48 4)).toNat →
    n = 0 ∨ 20480 ≤ n →
    (s.engine v).jumpsIn.length < 4 →
    dtLe (dtAdd (slotDt s.slot) 409600) ta = true →
    t.ip ≠ 0x3FFF →
    exec (.vrate p) s = .next ((s.setEngine v { s.engine v with
      msgs := (s.engine v).msgs ++ [.rate (BitVec.ofNat 32 n) ta p] }).completed p { t with f := false, ip := t.ip + 1 })) ∧
  (∀ (s : State) (p : ThreadId) (w : BitVec 64) (t : Thread) (v : EngineId) (n : Nat),
    t = s.thread p →
    s.issues p w →
    iOp w = 0x51 →
    iField w 52 4 = 0 →
    iField w 43 4 = 0 ∧ iField w 32 8 = 0 ∧ iField w 40 3 = v.val →
    iField w 47 1 = 1 ∧ iField w 48 4 = 0 ∧ n = iField w 0 32 ∨
    iField w 47 1 = 0 ∧ iField w 48 4 < 8 ∧ iField w 0 32 = 0 ∧ n = (t.gr (iField w 48 4)).toNat →
    n ≤ 1023 →
    (s.engine v).jumpsIn.length < 4 →
    t.ip ≠ 0x3FFF →
    exec (.vjump p) s = .next ((s.setEngine v { s.engine v with
      jumpsIn := (s.engine v).jumpsIn ++ [(BitVec.ofNat 10 n, p)] }).completed p { t with f := false, ip := t.ip + 1 })) ∧
  (∀ (s : State) (p : ThreadId) (w : BitVec 64) (t : Thread) (v : EngineId) (d : Fin 8) (ta : DT),
    t = s.thread p →
    s.issues p w →
    iOp w = 0x53 →
    iField w 52 4 = 8 + d.val →
    ta = t.t.get d →
    iField w 43 4 = 0 ∧ iField w 32 8 = 0 ∧ iField w 40 3 = v.val →
    iField w 47 5 = 0 ∧ iField w 0 32 = 0 →
    (s.engine v).jumpsIn.length < 4 →
    dtLe (dtAdd (slotDt s.slot) 409600) ta = true →
    t.ip ≠ 0x3FFF →
    exec (.vstop p) s = .next ((s.setEngine v { s.engine v with
      msgs := (s.engine v).msgs ++ [.stop ta p] }).completed p { t with f := false, ip := t.ip + 1 })) ∧
  (∀ (s : State) (p : ThreadId) (w : BitVec 64) (t : Thread) (a : AxisId) (d : Fin 8),
    t = s.thread p →
    s.issues p w →
    iOp w = 0x54 →
    iField w 52 4 = 8 + d.val →
    iField w 43 9 = 0 ∧ iField w 0 40 = 0 ∧ iField w 40 3 = a.val →
    (s.axis a).tgts.length < 256 →
    t.ip ≠ 0x3FFF →
    exec (.kpost p) s = .next ((s.setAxis a { s.axis a with
      tgts := (s.axis a).tgts ++ [⟨p, signed 48 (t.t.get d).toNat, .posted⟩] }).completed p { t with f := false, ip := t.ip + 1 })) ∧
  (∀ (s : State) (p : ThreadId) (w : BitVec 64) (t : Thread) (a : AxisId),
    t = s.thread p →
    s.issues p w →
    iOp w = 0x54 →
    8 ≤ iField w 52 4 →
    iField w 43 9 = 0 ∧ iField w 0 40 = 0 ∧ iField w 40 3 = a.val →
    256 ≤ (s.axis a).tgts.length →
    t.ip ≠ 0x3FFF →
    exec (.kpost p) s = .next (s.completed p { t with f := true, ip := t.ip + 1 })) ∧
  (∀ (s : State) (p : ThreadId) (w : BitVec 64) (t : Thread) (c : Instr),
    t = s.thread p →
    s.issues p w →
    8 ≤ iField w 52 4 ∧ iField w 48 4 = 0 ∧ okSpoke w = true →
    (c, iOp w) = (.pulse p, 0x40) ∧ iField w 26 11 = 0 ∨
    (c, iOp w) = (.level p, 0x41) ∧ iField w 38 2 ≠ 3 ∧ iField w 0 37 = 0 ∨
    (c, iOp w) = (.emit p, 0x42) ∧ iField w 39 1 = 0 ∧ iField w 14 25 = 0 ∨
    (c, iOp w) ∈ [(.anchor p, 0x43), (.cancel p, 0x44)] ∧ iField w 0 40 = 0 →
    63 < spokeOf t w →
    exec c s = .next (fault p 4 s)) ∧
  (∀ (s : State) (p : ThreadId) (w : BitVec 64) (t : Thread) (i : SpokeId) (raw : BitVec 128) (cause : Nat),
    t = s.thread p →
    s.issues p w →
    iOp w = 0x42 →
    8 ≤ iField w 52 4 →
    okSpoke w = true ∧ spokeOf t w = i.val →
    iField w 14 25 = 0 ∧ (if iField w 39 1 = 1 then iField w 48 4 < 8 else iField w 48 4 = 0) →
    t.nextSlot + 16 ≤ s.slot →
    raw = s.template p (iField w 0 14) →
    iField w 0 14 = 16383 ∧ cause = 2 ∨ iField w 0 14 ≠ 16383 ∧ (dKind raw = 0 ∨ dStart raw ≠ 0) ∧ cause = 5 ∨
    iField w 0 14 ≠ 16383 ∧ dKind raw ≠ 0 ∧ dStart raw = 0 ∧ iField w 39 1 = 1 ∧
    2 ^ 26 ≤ (t.gr (iField w 48 4)).toNat ∧ cause = 4 →
    exec (.emit p) s = .next (fault p cause s)) ∧
  (∀ (s : State) (p : ThreadId) (w : BitVec 64) (t : Thread) (n : Nat),
    t = s.thread p →
    s.issues p w →
    iField w 43 4 = 0 ∧ iField w 32 8 = 0 ∧ iField w 40 3 < 4 →
    iField w 47 1 = 1 ∧ iField w 48 4 = 0 ∧ n = iField w 0 32 ∨
    iField w 47 1 = 0 ∧ iField w 48 4 < 8 ∧ iField w 0 32 = 0 ∧ n = (t.gr (iField w 48 4)).toNat →
    (iOp w = 0x50 → 8 ≤ iField w 52 4 → 1023 < n → exec (.vstart p) s = .next (fault p 4 s)) ∧
      (iOp w = 0x51 → iField w 52 4 = 0 → 1023 < n → exec (.vjump p) s = .next (fault p 4 s)) ∧
      (iOp w = 0x52 → 8 ≤ iField w 52 4 → 1 ≤ n → n ≤ 20479 → exec (.vrate p) s = .next (fault p 4 s)))

/-- An issue that finds no room leaves its thread in HOLD with nothing placed (R46, R102, R113); a held issue tries again in
each slot of its thread and completes once there is room (R133). An issue with less than its lead places nothing, sets F,
raises LATE on its thread's source and counts it (R102, R109, R133). A held TRIG whose way has closed completes with F
(R113). -/
def Obligations.IssueHeldOrLate : Prop :=
  (∀ (s : State) (p : ThreadId) (w : BitVec 64) (t : Thread) (i : SpokeId),
    t = s.thread p →
    s.issues p w →
    iOp w = 0x40 →
    8 ≤ iField w 52 4 →
    okSpoke w = true ∧ spokeOf t w = i.val →
    iField w 48 4 = 0 ∧ iField w 26 11 = 0 →
    4 ≤ (s.spoke i).chan.length ∨ 64 ≤ s.pacer.used.get i →
    t.ip ≠ 0x3FFF →
    ∃ u, exec (.pulse p) s = .next u ∧ (u.thread p).state = .hold ∧ (u.thread p).ip = t.ip ∧
      (u.spoke i).chan = (s.spoke i).chan ∧ u.pacer.used = s.pacer.used ∧ u.pacer.mirror = s.pacer.mirror) ∧
  (∀ (s : State) (p : ThreadId) (w : BitVec 64) (t : Thread) (i : SpokeId) (d : Fin 8) (ta : DT),
    t = s.thread p →
    s.issues p w →
    iOp w = 0x40 →
    iField w 52 4 = 8 + d.val →
    ta = t.t.get d →
    okSpoke w = true ∧ spokeOf t w = i.val →
    iField w 48 4 = 0 ∧ iField w 26 11 = 0 →
    (s.spoke i).chan.length + 2 ≤ 4 ∧ s.pacer.used.get i < 64 →
    dtLe (dtAdd (slotDt s.slot) 131072) ta = false →
    t.ip ≠ 0x3FFF →
    ∃ u, exec (.pulse p) s = .next u ∧
      u.thread p = (s.completed p { t with f := true, late := t.late + 1, ip := t.ip + 1 }).thread p ∧
      (s.evFull (128 + 2 * p.val) = false → ⟨Fin.ofNat 256 (128 + 2 * p.val), causeWord 1 0 0, ta, false⟩ ∈ u.occs)) ∧
  (∀ (s : State) (p : ThreadId) (w : BitVec 64) (t : Thread) (v : EngineId) (d : Fin 8) (ta : DT),
    t = s.thread p →
    s.issues p w →
    iOp w = 0x53 →
    iField w 52 4 = 8 + d.val →
    ta = t.t.get d →
    iField w 43 4 = 0 ∧ iField w 32 8 = 0 ∧ iField w 40 3 = v.val →
    iField w 47 5 = 0 ∧ iField w 0 32 = 0 →
    (s.engine v).jumpsIn.length < 4 →
    dtLe (dtAdd (slotDt s.slot) 409600) ta = false →
    t.ip ≠ 0x3FFF →
    ∃ u, exec (.vstop p) s = .next u ∧
      u.thread p = (s.completed p { t with f := true, late := t.late + 1, ip := t.ip + 1 }).thread p ∧
      (s.evFull (128 + 2 * p.val) = false → ⟨Fin.ofNat 256 (128 + 2 * p.val), causeWord 1 0 0, ta, false⟩ ∈ u.occs)) ∧
  (∀ (s : State) (p : ThreadId) (v : EngineId) (ta : DT) (t : Thread),
    t = s.thread p →
    s.mayUse p .hold = true →
    t.waitOn = .issue (.vstop v ta) →
    (s.engine v).jumpsIn.length < 4 →
    dtLe (dtAdd (slotDt s.slot) 409600) ta = true →
    exec (.issueRetry p) s = .next ((s.setEngine v { s.engine v with
      msgs := (s.engine v).msgs ++ [.stop ta p] }).completed p { t with f := false, ip := t.ip + 1 })) ∧
  (∀ (s : State) (p : ThreadId) (m : Issue),
    s.mayUse p .hold = true →
    (s.thread p).waitOn = .issue m →
    s.closed m = false ∧ s.hasRoom m = false →
    exec (.issueRetry p) s = .next (s.setThread p { s.thread p with nextSlot := s.slot + 16 })) ∧
  (∀ (s : State) (p : ThreadId) (m : Issue),
    s.mayUse p .hold = true →
    (s.thread p).waitOn = .issue m →
    s.closed m = false ∧ s.hasRoom m = true ∧ s.meetsLead m = true →
    exec (.issueRetry p) s = .next (complete p (fun t => { t with f := false, ip := t.ip + 1 }) (enter p m s))) ∧
  (∀ (s : State) (p : ThreadId) (m : Issue) (ta : DT) (lead : Nat),
    s.mayUse p .hold = true →
    (s.thread p).waitOn = .issue m →
    m.lead = some (ta, lead) →
    s.closed m = false ∧ s.hasRoom m = true ∧ s.meetsLead m = false →
    ∃ u, exec (.issueRetry p) s = .next u ∧
      u.thread p = (s.completed p { s.thread p with
      f := true, late := (s.thread p).late + 1, ip := (s.thread p).ip + 1 }).thread p ∧
      (s.evFull (128 + 2 * p.val) = false → ⟨Fin.ofNat 256 (128 + 2 * p.val), causeWord 1 0 0, ta, false⟩ ∈ u.occs)) ∧
  (∀ (s : State) (p : ThreadId) (m : Issue),
    s.mayUse p .hold = true →
    (s.thread p).waitOn = .issue m →
    s.closed m = true →
    exec (.issueRetry p) s = .next (s.completed p { s.thread p with f := true, ip := (s.thread p).ip + 1 }))

/-- WAITT, WAITE, RECV, WAITQ and KTAKE complete at once where what they wait for stands: the time reached, the event's
pending bit, a mailbox entry, the places free, the oldest target ended (R110, R111, R134 to R138, R185); otherwise, and
with no deadline reached, the thread goes into WAIT with IP at the instruction (R125); at the deadline WAITE, RECV and WAITQ
complete with F set (R134). At 16 383 each faults with ADDR (R94), and WAITQ with RANGE where its spoke is above 63 (R102). -/
def Obligations.WaitInstructionsComplete : Prop :=
  (∀ (s : State) (p : ThreadId) (w : BitVec 64) (t : Thread) (d : Fin 8),
    t = s.thread p →
    s.issues p w →
    iOp w = 0x60 →
    iField w 52 4 = 8 + d.val →
    iField w 0 52 = 0 →
    dtLe (t.t.get d) (slotDt s.slot) = true →
    t.ip ≠ 0x3FFF →
    exec (.waitt p) s = .next (s.completed p { t with ip := t.ip + 1 })) ∧
  (∀ (s : State) (p : ThreadId) (w : BitVec 64) (t : Thread) (d : Fin 8),
    t = s.thread p →
    s.issues p w →
    iOp w = 0x60 →
    iField w 52 4 = 8 + d.val →
    iField w 0 52 = 0 →
    dtLe (t.t.get d) (slotDt s.slot) = false →
    t.ip ≠ 0x3FFF →
    exec (.waitt p) s = .next (s.setThread p { t with state := .wait, waitOn := .time (t.t.get d), nextSlot := s.slot + 16 })) ∧
  (∀ (s : State) (p : ThreadId) (w : BitVec 64) (t : Thread) (d : Fin 8) (dl : Option DT) (e : EventId) (a b : Fin 8),
    t = s.thread p →
    s.issues p w →
    iOp w = 0x61 →
    iField w 43 1 = 1 ∧ iField w 52 4 = 8 + d.val ∧ dl = some (t.t.get d) ∨ iField w 43 1 = 0 ∧
    iField w 52 4 = 0 ∧ dl = none →
    iField w 8 34 = 0 ∧ iField w 0 8 = e.val →
    iField w 42 1 = 1 ∧ iField w 48 4 = 8 + a.val ∧ iField w 44 4 = b.val →
    t.pend.getLsbD e.val = true →
    t.ip ≠ 0x3FFF →
    exec (.waite p) s = .next (s.completed p { t with
      pend := t.pend &&& ~~~(1#256 <<< e.val), f := false, ip := t.ip + 1, cleared := some (e, s.slot, some (a, b))
      t := t.t.set a.val (s.pacer.evMem.get e).1 a.isLt, g := t.g.set b.val (s.pacer.evMem.get e).2 b.isLt })) ∧
  (∀ (s : State) (p : ThreadId) (w : BitVec 64) (t : Thread) (d : Fin 8) (dl : Option DT) (e : EventId),
    t = s.thread p →
    s.issues p w →
    iOp w = 0x61 →
    iField w 43 1 = 1 ∧ iField w 52 4 = 8 + d.val ∧ dl = some (t.t.get d) ∨ iField w 43 1 = 0 ∧
    iField w 52 4 = 0 ∧ dl = none →
    iField w 8 34 = 0 ∧ iField w 0 8 = e.val →
    iField w 42 1 = 0 ∧ iField w 48 4 = 0 ∧ iField w 44 4 = 0 →
    t.pend.getLsbD e.val = false →
    dl.any s.reached = false →
    t.ip ≠ 0x3FFF →
    exec (.waite p) s = .next (s.setThread p { t with state := .wait, waitOn := .event e dl none, nextSlot := s.slot + 16 })) ∧
  (∀ (s : State) (p : ThreadId) (w : BitVec 64) (t : Thread) (d : Fin 8) (dl : Option DT) (e : EventId),
    t = s.thread p →
    s.issues p w →
    iOp w = 0x61 →
    iField w 43 1 = 1 ∧ iField w 52 4 = 8 + d.val ∧ dl = some (t.t.get d) ∨ iField w 43 1 = 0 ∧
    iField w 52 4 = 0 ∧ dl = none →
    iField w 8 34 = 0 ∧ iField w 0 8 = e.val →
    iField w 42 1 = 0 ∧ iField w 48 4 = 0 ∧ iField w 44 4 = 0 →
    t.pend.getLsbD e.val = false →
    dl.any s.reached = true →
    t.ip ≠ 0x3FFF →
    exec (.waite p) s = .next (s.completed p { t with f := true, ip := t.ip + 1 })) ∧
  (∀ (s : State) (p : ThreadId) (w : BitVec 64) (t : Thread) (d : Fin 8) (dl : Option DT) (a b : Fin 8) (m : MailEnt) (r : List MailEnt),
    t = s.thread p →
    s.issues p w →
    iOp w = 0x62 →
    iField w 43 1 = 1 ∧ iField w 52 4 = 8 + d.val ∧ dl = some (t.t.get d) ∨ iField w 43 1 = 0 ∧
    iField w 52 4 = 0 ∧ dl = none →
    iField w 48 4 = 8 + a.val ∧ iField w 44 4 = b.val ∧ iField w 0 43 = 0 →
    t.mbox = m :: r →
    t.ip ≠ 0x3FFF →
    exec (.recv p) s = .next (s.completed p { t with
      mbox := r, lastSrc := m.src, f := false, ip := t.ip + 1
      t := t.t.set a.val m.dt a.isLt, g := t.g.set b.val m.word b.isLt })) ∧
  (∀ (s : State) (p : ThreadId) (w : BitVec 64) (t : Thread) (d : Fin 8) (dl : Option DT) (a b : Fin 8),
    t = s.thread p →
    s.issues p w →
    iOp w = 0x62 →
    iField w 43 1 = 1 ∧ iField w 52 4 = 8 + d.val ∧ dl = some (t.t.get d) ∨ iField w 43 1 = 0 ∧
    iField w 52 4 = 0 ∧ dl = none →
    iField w 48 4 = 8 + a.val ∧ iField w 44 4 = b.val ∧ iField w 0 43 = 0 →
    t.mbox = [] →
    dl.any s.reached = false →
    t.ip ≠ 0x3FFF →
    exec (.recv p) s = .next (s.setThread p { t with state := .wait, waitOn := .recv dl a b, nextSlot := s.slot + 16 })) ∧
  (∀ (s : State) (p : ThreadId) (w : BitVec 64) (t : Thread) (d : Fin 8) (dl : Option DT) (i : SpokeId),
    t = s.thread p →
    s.issues p w →
    iOp w = 0x45 →
    okSpoke w = true ∧ spokeOf t w = i.val →
    iField w 39 1 = 1 ∧ iField w 52 4 = 8 + d.val ∧ dl = some (t.t.get d) ∨ iField w 39 1 = 0 ∧
    iField w 52 4 = 0 ∧ dl = none →
    iField w 48 4 = 0 ∧ iField w 7 32 = 0 →
    1 ≤ iField w 0 7 ∧ iField w 0 7 ≤ 64 - s.pacer.used.get i →
    t.ip ≠ 0x3FFF →
    exec (.waitq p) s = .next (s.completed p { t with f := false, ip := t.ip + 1 })) ∧
  (∀ (s : State) (p : ThreadId) (w : BitVec 64) (t : Thread) (d : Fin 8) (dl : Option DT) (i : SpokeId),
    t = s.thread p →
    s.issues p w →
    iOp w = 0x45 →
    okSpoke w = true ∧ spokeOf t w = i.val →
    iField w 39 1 = 1 ∧ iField w 52 4 = 8 + d.val ∧ dl = some (t.t.get d) ∨ iField w 39 1 = 0 ∧
    iField w 52 4 = 0 ∧ dl = none →
    iField w 48 4 = 0 ∧ iField w 7 32 = 0 →
    64 - s.pacer.used.get i < iField w 0 7 ∧ iField w 0 7 ≤ 64 →
    dl.any s.reached = false →
    t.ip ≠ 0x3FFF →
    exec (.waitq p) s = .next (s.setThread p { t with state := .wait, waitOn := .queue i (iField w 0 7) dl, nextSlot := s.slot + 16 })) ∧
  (∀ (s : State) (p : ThreadId) (w : BitVec 64) (t : Thread) (a : AxisId) (d : Fin 8),
    t = s.thread p →
    s.issues p w →
    iOp w = 0x55 →
    iField w 52 4 = 8 + d.val →
    iField w 43 9 = 0 ∧ iField w 0 40 = 0 ∧ iField w 40 3 = a.val →
    (s.axis a).tgts.find? (fun g => g.thread == p) = none →
    t.ip ≠ 0x3FFF →
    exec (.ktake p) s = .next (s.completed p { t with f := true, z := true, ip := t.ip + 1 })) ∧
  (∀ (s : State) (p : ThreadId) (w : BitVec 64) (t : Thread) (a : AxisId) (d : Fin 8) (g : Target) (x : DT),
    t = s.thread p →
    s.issues p w →
    iOp w = 0x55 →
    iField w 52 4 = 8 + d.val →
    iField w 43 9 = 0 ∧ iField w 0 40 = 0 ∧ iField w 40 3 = a.val →
    (s.axis a).tgts.find? (fun g => g.thread == p) = some g →
    g.st = .time x →
    t.ip ≠ 0x3FFF →
    exec (.ktake p) s = .next ((s.setAxis a { s.axis a with tgts := (s.axis a).tgts.erase g }).completed p
      { t with f := false, ip := t.ip + 1, t := t.t.set d.val x d.isLt })) ∧
  (∀ (s : State) (p : ThreadId) (w : BitVec 64) (t : Thread) (a : AxisId) (d : Fin 8) (g : Target),
    t = s.thread p →
    s.issues p w →
    iOp w = 0x55 →
    iField w 52 4 = 8 + d.val →
    iField w 43 9 = 0 ∧ iField w 0 40 = 0 ∧ iField w 40 3 = a.val →
    (s.axis a).tgts.find? (fun g => g.thread == p) = some g →
    g.st = .noTime →
    t.ip ≠ 0x3FFF →
    exec (.ktake p) s = .next ((s.setAxis a { s.axis a with tgts := (s.axis a).tgts.erase g }).completed p
      { t with f := true, z := false, ip := t.ip + 1 })) ∧
  (∀ (s : State) (p : ThreadId) (w : BitVec 64) (t : Thread) (a : AxisId) (d : Fin 8) (g : Target),
    t = s.thread p →
    s.issues p w →
    iOp w = 0x55 →
    iField w 52 4 = 8 + d.val →
    iField w 43 9 = 0 ∧ iField w 0 40 = 0 ∧ iField w 40 3 = a.val →
    (s.axis a).tgts.find? (fun g => g.thread == p) = some g →
    g.st = .posted →
    t.ip ≠ 0x3FFF →
    exec (.ktake p) s = .next (s.setThread p { t with state := .wait, waitOn := .take a d, nextSlot := s.slot + 16 })) ∧
  (∀ (s : State) (p : ThreadId) (w : BitVec 64) (t : Thread) (d : Fin 8) (dl : Option DT) (e : EventId),
    t = s.thread p →
    s.issues p w →
    iOp w = 0x61 →
    iField w 43 1 = 1 ∧ iField w 52 4 = 8 + d.val ∧ dl = some (t.t.get d) ∨ iField w 43 1 = 0 ∧
    iField w 52 4 = 0 ∧ dl = none →
    iField w 8 34 = 0 ∧ iField w 0 8 = e.val →
    iField w 42 1 = 0 ∧ iField w 48 4 = 0 ∧ iField w 44 4 = 0 →
    t.pend.getLsbD e.val = true →
    t.ip ≠ 0x3FFF →
    exec (.waite p) s = .next (s.completed p { t with
      pend := t.pend &&& ~~~(1#256 <<< e.val), f := false, ip := t.ip + 1, cleared := some (e, s.slot, none) })) ∧
  (∀ (s : State) (p : ThreadId) (w : BitVec 64) (t : Thread) (d : Fin 8) (a b : Fin 8),
    t = s.thread p →
    s.issues p w →
    iOp w = 0x62 →
    iField w 43 1 = 1 ∧ iField w 52 4 = 8 + d.val ∧ s.reached (t.t.get d) = true →
    iField w 48 4 = 8 + a.val ∧ iField w 44 4 = b.val ∧ iField w 0 43 = 0 →
    t.mbox = [] →
    t.ip ≠ 0x3FFF →
    exec (.recv p) s = .next (s.completed p { t with f := true, ip := t.ip + 1 })) ∧
  (∀ (s : State) (p : ThreadId) (w : BitVec 64) (t : Thread) (d : Fin 8) (i : SpokeId),
    t = s.thread p →
    s.issues p w →
    iOp w = 0x45 →
    okSpoke w = true ∧ spokeOf t w = i.val →
    iField w 39 1 = 1 ∧ iField w 52 4 = 8 + d.val ∧ s.reached (t.t.get d) = true →
    iField w 48 4 = 0 ∧ iField w 7 32 = 0 →
    64 - s.pacer.used.get i < iField w 0 7 ∧ iField w 0 7 ≤ 64 →
    t.ip ≠ 0x3FFF →
    exec (.waitq p) s = .next (s.completed p { t with f := true, ip := t.ip + 1 })) ∧
  (∀ (s : State) (p : ThreadId) (w : BitVec 64) (t : Thread) (c : Instr),
    t = s.thread p →
    s.issues p w →
    t.ip = 0x3FFF →
    (c, iOp w) = (.waitt p, 0x60) ∧ 8 ≤ iField w 52 4 ∧ iField w 0 52 = 0 ∨
    (c, iOp w) = (.waite p, 0x61) ∧ iField w 8 48 = 0 ∨
    (c, iOp w) = (.recv p, 0x62) ∧ iField w 52 4 = 0 ∧ 8 ≤ iField w 48 4 ∧ iField w 44 4 < 8 ∧ iField w 0 44 = 0 ∨
    (c, iOp w) = (.waitq p, 0x45) ∧ okSpoke w = true ∧ spokeOf t w < 64 ∧ iField w 48 8 = 0 ∧ iField w 7 33 = 0 ∧
    1 ≤ iField w 0 7 ∧ iField w 0 7 ≤ 64 ∨
    (c, iOp w) = (.ktake p, 0x55) ∧ 8 ≤ iField w 52 4 ∧ iField w 43 9 = 0 ∧ iField w 0 40 = 0 →
    exec c s = .next (fault p 2 s)) ∧
  (∀ (s : State) (p : ThreadId) (w : BitVec 64) (t : Thread),
    t = s.thread p →
    s.issues p w →
    iOp w = 0x45 →
    okSpoke w = true ∧ 63 < spokeOf t w →
    iField w 48 8 = 0 ∧ iField w 7 33 = 0 ∧ 1 ≤ iField w 0 7 ∧ iField w 0 7 ≤ 64 →
    exec (.waitq p) s = .next (fault p 4 s))

/-- A thread in WAIT is released in its own slot: WAITT when DT reaches its time (R134), WAITE by its pending bit, with the
event's DT and cause in its registers (R136), RECV by an entry, WAITQ by places, KTAKE by an ended target, COMMIT by the
answer, with its cause in Gr and F set where it is a refusal (R115, R138); and at the deadline with F set (R134). -/
def Obligations.WaitReleasesComplete : Prop :=
  (∀ (s : State) (p : ThreadId) (t : Thread) (x : DT),
    t = s.thread p →
    s.mayUse p .wait = true →
    t.waitOn = .time x →
    dtLe x (slotDt s.slot) = true →
    exec (.waittExpiry p) s = .next (s.completed p { t with ip := t.ip + 1 })) ∧
  (∀ (s : State) (p : ThreadId) (t : Thread) (e : EventId) (x : DT) (o : Option (Fin 8 × Fin 8)),
    t = s.thread p →
    s.mayUse p .wait = true →
    t.waitOn = .event e (some x) o →
    dtLe x (slotDt s.slot) = true →
    t.pend.getLsbD e.val = false →
    exec (.waitDeadlineExpiry p) s = .next (s.completed p { t with f := true, ip := t.ip + 1 })) ∧
  (∀ (s : State) (p : ThreadId) (t : Thread) (a b : Fin 8) (x : DT),
    t = s.thread p →
    s.mayUse p .wait = true →
    t.waitOn = .recv (some x) a b →
    dtLe x (slotDt s.slot) = true →
    t.mbox = [] →
    exec (.waitDeadlineExpiry p) s = .next (s.completed p { t with f := true, ip := t.ip + 1 })) ∧
  (∀ (s : State) (p : ThreadId) (t : Thread) (i : SpokeId) (n : Nat) (x : DT),
    t = s.thread p →
    s.mayUse p .wait = true →
    t.waitOn = .queue i n (some x) →
    dtLe x (slotDt s.slot) = true →
    64 - s.pacer.used.get i < n →
    exec (.waitDeadlineExpiry p) s = .next (s.completed p { t with f := true, ip := t.ip + 1 })) ∧
  (∀ (s : State) (p : ThreadId) (t : Thread) (e : EventId) (dl : Option DT) (a b : Fin 8),
    t = s.thread p →
    s.mayUse p .wait = true →
    t.waitOn = .event e dl (some (a, b)) →
    t.pend.getLsbD e.val = true →
    exec (.waiteRelease p) s = .next (s.completed p { t with
      pend := t.pend &&& ~~~(1#256 <<< e.val), f := false, ip := t.ip + 1, cleared := some (e, s.slot, some (a, b))
      t := t.t.set a.val (s.pacer.evMem.get e).1 a.isLt, g := t.g.set b.val (s.pacer.evMem.get e).2 b.isLt })) ∧
  (∀ (s : State) (p : ThreadId) (t : Thread) (e : EventId) (dl : Option DT),
    t = s.thread p →
    s.mayUse p .wait = true →
    t.waitOn = .event e dl none →
    t.pend.getLsbD e.val = true →
    exec (.waiteRelease p) s = .next (s.completed p { t with
      pend := t.pend &&& ~~~(1#256 <<< e.val), f := false, ip := t.ip + 1, cleared := some (e, s.slot, none) })) ∧
  (∀ (s : State) (p : ThreadId) (t : Thread) (dl : Option DT) (a b : Fin 8) (m : MailEnt) (r : List MailEnt),
    t = s.thread p →
    s.mayUse p .wait = true →
    t.waitOn = .recv dl a b →
    t.mbox = m :: r →
    exec (.recvRelease p) s = .next (s.completed p { t with
      mbox := r, lastSrc := m.src, f := false, ip := t.ip + 1
      t := t.t.set a.val m.dt a.isLt, g := t.g.set b.val m.word b.isLt })) ∧
  (∀ (s : State) (p : ThreadId) (t : Thread) (a : AxisId) (d : Fin 8) (g : Target) (x : DT),
    t = s.thread p →
    s.mayUse p .wait = true →
    t.waitOn = .take a d →
    (s.axis a).tgts.find? (fun g => g.thread == p) = some g →
    g.st = .time x →
    exec (.ktakeRelease p) s = .next ((s.setAxis a { s.axis a with tgts := (s.axis a).tgts.erase g }).completed p
      { t with f := false, ip := t.ip + 1, t := t.t.set d.val x d.isLt })) ∧
  (∀ (s : State) (p : ThreadId) (t : Thread) (i : SpokeId) (n : Nat) (dl : Option DT),
    t = s.thread p →
    s.mayUse p .wait = true →
    t.waitOn = .queue i n dl →
    n ≤ 64 - s.pacer.used.get i →
    exec (.waitqRelease p) s = .next (s.completed p { t with f := false, ip := t.ip + 1 })) ∧
  (∀ (s : State) (p : ThreadId) (t : Thread) (r : Fin 8) (c : BitVec 4),
    t = s.thread p →
    s.mayUse p .wait = true →
    t.waitOn = .commit r (some c) →
    exec (.commitAnswer p) s = .next (s.completed p { t with
      f := decide (c ≠ 0), g := t.g.set r.val (c.setWidth 32) r.isLt, ip := t.ip + 1 })) ∧
  (∀ (s : State) (p : ThreadId) (t : Thread) (a : AxisId) (d : Fin 8) (g : Target),
    t = s.thread p →
    s.mayUse p .wait = true →
    t.waitOn = .take a d →
    (s.axis a).tgts.find? (fun g => g.thread == p) = some g →
    g.st = .noTime →
    exec (.ktakeRelease p) s = .next ((s.setAxis a { s.axis a with tgts := (s.axis a).tgts.erase g }).completed p
      { t with f := true, z := false, ip := t.ip + 1 }))

/-- TRIG within the module sends its mailbox entry with F clear, or fails with F and LATE where its time has passed; out of a
port in LINK UP whose mode grants it a Trigger frame, and to a ring or the Pair lane a cell, with F clear, and with F set
where the way does not stand (R113); in front of four that wait on its way it holds (R44, R133). RAISE raises its thread's source with code 0x10 and N (R114). COMMIT asks the commit
unit and waits for the answer, which is a refusal where the unit finds one at issue (R25, R115). -/
def Obligations.TrigRaiseCommitComplete : Prop :=
  (∀ (s : State) (p : ThreadId) (w : BitVec 64) (t : Thread) (d a : Fin 8) (q : ThreadId),
    t = s.thread p →
    s.issues p w →
    iOp w = 0x68 →
    iField w 52 4 = 8 + d.val →
    iField w 48 4 = a.val →
    iField w 4 44 = 0 ∧ iField w 0 4 = q.val →
    (s.pacer.mail.filter fun m => m.via == .thread).length < 4 →
    dtLe (slotDt s.slot) (t.t.get d) = true →
    t.ip ≠ 0x3FFF →
    exec (.trig p) s = .next (({ s with pacer := { s.pacer with
      mail := s.pacer.mail ++ [⟨q, .thread, ⟨t.t.get d, t.g.get a, BitVec.ofNat 16 p.val⟩⟩] } } : State).completed p { t with f := false, ip := t.ip + 1 })) ∧
  (∀ (s : State) (p : ThreadId) (w : BitVec 64) (t : Thread) (d a : Fin 8) (ta : DT),
    t = s.thread p →
    s.issues p w →
    iOp w = 0x68 →
    iField w 52 4 = 8 + d.val →
    ta = t.t.get d →
    iField w 48 4 = a.val →
    iField w 4 44 = 0 →
    (s.pacer.mail.filter fun m => m.via == .thread).length < 4 →
    dtLe (slotDt s.slot) ta = false →
    t.ip ≠ 0x3FFF →
    ∃ u, exec (.trig p) s = .next u ∧
      u.thread p = (s.completed p { t with f := true, late := t.late + 1, ip := t.ip + 1 }).thread p ∧
      (s.evFull (128 + 2 * p.val) = false → ⟨Fin.ofNat 256 (128 + 2 * p.val), causeWord 1 0 0, ta, false⟩ ∈ u.occs) ∧
      u.pacer.mail = s.pacer.mail) ∧
  (∀ (s : State) (p : ThreadId) (w : BitVec 64) (t : Thread) (d a : Fin 8) (c : PortId),
    t = s.thread p →
    s.issues p w →
    iOp w = 0x68 →
    iField w 52 4 = 8 + d.val →
    iField w 48 4 = a.val →
    iField w 16 32 = 0 ∧ iField w 14 2 = 1 ∧ iField w 10 4 = c.val ∧ iField w 4 5 = 0 →
    s.granted c 2 = false →
    t.ip ≠ 0x3FFF →
    exec (.trig p) s = .next (s.completed p { t with f := true, ip := t.ip + 1 })) ∧
  (∀ (s : State) (p : ThreadId) (w : BitVec 64) (t : Thread) (d a : Fin 8) (c : PortId),
    t = s.thread p →
    s.issues p w →
    iOp w = 0x68 →
    iField w 52 4 = 8 + d.val →
    iField w 48 4 = a.val →
    iField w 16 32 = 0 ∧ iField w 14 2 = 1 ∧ iField w 10 4 = c.val ∧ iField w 4 5 = 0 →
    s.granted c 2 = true →
    s.laneBusy c = false ∧ (s.port c).waiting = [] →
    t.ip ≠ 0x3FFF →
    ∃ u, exec (.trig p) s = .next u ∧ u.thread p = (s.completed p { t with f := false, ip := t.ip + 1 }).thread p ∧
      (u.port c).cnt.trigTx = (s.port c).cnt.trigTx + 1 ∧
      (u.port c).txq = (s.port c).txq ++ [(s.now, ethFrame (s.portMac c) 0x88B5 (pduOf s c 6 0 (leOctets 10 (t.t.get d).toNat ++
      [BitVec.ofNat 8 (iField w 0 4 + 16 * iField w 9 1), BitVec.ofNat 8 p.val] ++ leOctets 4 (t.g.get a).toNat)))]) ∧
  (∀ (s : State) (p : ThreadId) (w : BitVec 64) (t : Thread) (d a : Fin 8) (c : PortId),
    t = s.thread p →
    s.issues p w →
    iOp w = 0x68 →
    iField w 52 4 = 8 + d.val →
    iField w 48 4 = a.val →
    iField w 16 32 = 0 ∧ iField w 14 2 = 1 ∧ iField w 10 4 = c.val ∧ iField w 4 5 = 0 →
    s.granted c 2 = true →
    s.laneBusy c = true ∧ s.waitingOf c (· == 6) < 4 →
    t.ip ≠ 0x3FFF →
    ∃ u, exec (.trig p) s = .next u ∧ u.thread p = (s.completed p { t with f := false, ip := t.ip + 1 }).thread p ∧
      (u.port c).waiting = (s.port c).waiting ++ [(6, pduOf s c 6 0 (leOctets 10 (t.t.get d).toNat ++
      [BitVec.ofNat 8 (iField w 0 4 + 16 * iField w 9 1), BitVec.ofNat 8 p.val] ++ leOctets 4 (t.g.get a).toNat))]) ∧
  (∀ (s : State) (p : ThreadId) (w : BitVec 64) (t : Thread) (d a : Fin 8),
    t = s.thread p →
    s.issues p w →
    iOp w = 0x68 →
    iField w 52 4 = 8 + d.val →
    iField w 48 4 = a.val →
    iField w 16 32 = 0 ∧ iField w 9 7 = 0x60 ∧ iField w 4 5 = 0 →
    s.pair.lane = true →
    t.ip ≠ 0x3FFF →
    ∃ u, exec (.trig p) s = .next u ∧ u.thread p = (s.completed p { t with f := false, ip := t.ip + 1 }).thread p ∧
      u.pair.out = s.pair.out ++ [pairFrame s 0x11 s.pair.seqRelay.toNat 0 (mkCell s 9 s.stoker.pos.toNat false
      (cellBody (t.t.get d) (t.g.get a) s.ident (iField w 0 4 + 16 * p.val)))] ∧ u.stoker.seq = s.stoker.seq + 1) ∧
  (∀ (s : State) (p : ThreadId) (w : BitVec 64) (t : Thread) (d a : Fin 8),
    t = s.thread p →
    s.issues p w →
    iOp w = 0x68 →
    iField w 52 4 = 8 + d.val →
    iField w 48 4 = a.val →
    iField w 16 32 = 0 ∧ iField w 14 2 = 2 ∧ (iField w 9 1 = 0 ∨ iField w 10 4 = 0) ∧ iField w 4 5 = 0 →
    s.stacked = false →
    t.ip ≠ 0x3FFF →
    exec (.trig p) s = .next (s.completed p { t with f := true, ip := t.ip + 1 })) ∧
  (∀ (s : State) (p : ThreadId) (w : BitVec 64) (t : Thread) (d a : Fin 8) (prt : RingPort),
    t = s.thread p →
    s.issues p w →
    iOp w = 0x68 →
    iField w 52 4 = 8 + d.val →
    iField w 48 4 = a.val →
    iField w 16 32 = 0 ∧ iField w 14 2 = 2 ∧ (iField w 9 1 = 0 ∨ iField w 10 4 = 0) ∧ iField w 4 5 = 0 →
    s.stacked = true ∧ s.triggersTo (w.setWidth 16) < 4 →
    t.ip ≠ 0x3FFF →
    ∃ u, exec (.trig p) s = .next u ∧ u.thread p = (s.completed p { t with f := false, ip := t.ip + 1 }).thread p ∧
      u.stoker.carries prt (mkCell s 9 (iField w 10 4) (iField w 9 1 == 1)
      (cellBody (t.t.get d) (t.g.get a) s.ident (iField w 0 4 + 16 * p.val)))) ∧
  (∀ (s : State) (p : ThreadId) (w : BitVec 64) (t : Thread) (dest : BitVec 16),
    t = s.thread p →
    s.issues p w →
    iOp w = 0x68 →
    8 ≤ iField w 52 4 ∧ iField w 48 4 < 8 ∧ iField w 16 32 = 0 →
    okDest w = true ∧ dest = w.setWidth 16 →
    s.routeOpen dest = true ∧ 4 ≤ s.triggersTo dest →
    t.ip ≠ 0x3FFF →
    ∃ u, exec (.trig p) s = .next u ∧ (u.thread p).state = .hold ∧ (u.thread p).ip = t.ip ∧ u.pacer.mail = s.pacer.mail ∧
      u.ports = s.ports ∧ u.stoker = s.stoker) ∧
  (∀ (s : State) (p : ThreadId) (w : BitVec 64) (t : Thread) (n : Nat),
    t = s.thread p →
    s.issues p w →
    iOp w = 0x69 →
    iField w 20 36 = 0 ∧ iField w 0 16 = 0 ∧ n = iField w 16 4 →
    t.ip ≠ 0x3FFF →
    exec (.raise p) s = .next (Sys2Proof.Machine.raise (128 + 2 * p.val) (16 + n) 0 0 (slotDt s.slot)
      (s.completed p { t with ip := t.ip + 1 }))) ∧
  (∀ (s : State) (p : ThreadId) (w : BitVec 64) (t : Thread) (d a r : Fin 8),
    t = s.thread p →
    s.issues p w →
    iOp w = 0x6A →
    iField w 52 4 = 8 + d.val →
    iField w 48 4 = a.val →
    iField w 44 4 = r.val →
    iField w 0 44 = 0 →
    s.commit.pend = none →
    newer (t.g.get a) s.commit.gen = true →
    dtLe (dtAdd (s.replica islHandlebar) 8192000) (t.t.get d) = true →
    s.stacked = false →
    t.ip ≠ 0x3FFF →
    ∃ u, exec (.commit p) s = .next u ∧
      u.commit.pend = some ⟨.thread p, .alone, t.t.get d, t.g.get a, s.ownMasks, commitIslands.map (·.val), false, false, s.commitCycle⟩ ∧
      u.commit.state = 1 ∧ (u.thread p).waitOn = .commit r (some 0) ∧ (u.thread p).state = .wait ∧
      (u.thread p).ip = t.ip) ∧
  (∀ (s : State) (p : ThreadId) (w : BitVec 64) (t : Thread) (d a r : Fin 8) (c : Nat),
    t = s.thread p →
    s.issues p w →
    iOp w = 0x6A →
    iField w 52 4 = 8 + d.val →
    iField w 48 4 = a.val →
    iField w 44 4 = r.val →
    iField w 0 44 = 0 →
    c = s.issueCause (.thread p) (t.t.get d) (t.g.get a) →
    t.ip ≠ 0x3FFF →
    ∃ u, exec (.commit p) s = .next u ∧ (u.thread p).waitOn = .commit r (some (BitVec.ofNat 4 c)) ∧
      (u.thread p).state = .wait ∧ (u.thread p).ip = t.ip ∧ (c ≠ 0 → u.commit.pend = s.commit.pend ∧ u.commit.state = 3))

/-- The latest event occurrence with WAKE that reaches Pacer stands in its memory with DT and cause and is pending in all
sixteen threads (R135, R369), but for a thread that cleared the bit in this same slot, whose WAITE takes it (R136); a freed
place counts as free (R108); a mailbox entry enters its thread's mailbox where it is in time, is dropped with MBOXFULL where
the mailbox is full, and is discarded with LATE where it comes over a port, ring or lane less than 100 ns ahead (R112,
R139). The DT of MBOXFULL is the model's choice (log entry 99). -/
def Obligations.PacerArrivalsComplete : Prop :=
  (∀ (s : State) (e : EventId) (m : DT × Word),
    s.clocked = true →
    ((s.pacer.latch.get e).filter fun m => s.wakes e m.1).getLast? = some m →
    ∃ u, exec (.pacerEventArrival e) s = .next u ∧ u.pacer.latch.get e = [] ∧ u.pacer.evMem.get e = m ∧
      (∀ p : ThreadId, (s.thread p).cleared.map (fun x => (x.1, x.2.1)) ≠ some (e, s.slot) →
        u.thread p = { s.thread p with pend := (s.thread p).pend ||| (1#256 <<< e.val) }) ∧
      ∀ (p : ThreadId) (a b : Fin 8), (s.thread p).cleared = some (e, s.slot, some (a, b)) →
        u.thread p = { s.thread p with
          t := (s.thread p).t.set a.val m.1 a.isLt, g := (s.thread p).g.set b.val m.2 b.isLt }) ∧
  (∀ (s : State) (e : EventId),
    s.clocked = true →
    ((s.pacer.latch.get e).filter fun m => s.wakes e m.1) = [] →
    exec (.pacerEventArrival e) s = .next { s with pacer := { s.pacer with latch := s.pacer.latch.set e.val [] e.isLt } }) ∧
  (∀ (s : State) (i : SpokeId),
    s.clocked = true →
    (s.spoke i).freed ≠ 0 →
    ∃ u, exec (.placeFreed i) s = .next u ∧ (u.spoke i).freed = (s.spoke i).freed - 1 ∧
      u.pacer.used.get i = s.pacer.used.get i - 1) ∧
  (∀ (s : State) (p : ThreadId) (m : MailIn),
    s.clocked = true →
    s.pacer.mail.find? (fun m => m.dest == p && (s.mailChan m.via).contains m) = some m →
    m.via = .thread ∨ dtLe (dtAdd (s.replica islPacer) 409600) m.ent.dt = true →
    (s.thread p).mbox.length < 8 →
    ∃ u, exec (.mailboxEntry p) s = .next u ∧ u.pacer.mail = s.pacer.mail.erase m ∧
      u.thread p = { s.thread p with mbox := (s.thread p).mbox ++ [m.ent] } ∧ u.occs = s.occs) ∧
  (∀ (s : State) (p : ThreadId) (m : MailIn),
    s.clocked = true →
    s.pacer.mail.find? (fun m => m.dest == p && (s.mailChan m.via).contains m) = some m →
    m.via = .thread ∨ dtLe (dtAdd (s.replica islPacer) 409600) m.ent.dt = true →
    8 ≤ (s.thread p).mbox.length →
    ∃ u, exec (.mailboxEntry p) s = .next u ∧ u.pacer.mail = s.pacer.mail.erase m ∧
      u.thread p = { s.thread p with mboxDrops := (s.thread p).mboxDrops + 1 } ∧
      (s.evFull (128 + 2 * p.val) = false →
        ⟨Fin.ofNat 256 (128 + 2 * p.val), causeWord 2 0 0, m.ent.dt, false⟩ ∈ u.occs)) ∧
  (∀ (s : State) (p : ThreadId) (m : MailIn) (src cause : Nat),
    s.clocked = true →
    s.pacer.mail.find? (fun m => m.dest == p && (s.mailChan m.via).contains m) = some m →
    (∃ c : PortId, m.via = .port c ∧ src = 184 + 3 * c.val ∧ cause = 1) ∨ m.via = .ring ∧ src = 240 ∧ cause = 1 ∨
    m.via = .pair ∧ src = 241 ∧ cause = 4 →
    dtLe (dtAdd (s.replica islPacer) 409600) m.ent.dt = false →
    ∃ u, exec (.mailboxEntry p) s = .next u ∧ u.pacer.mail = s.pacer.mail.erase m ∧ u.thread p = s.thread p ∧
      (s.evFull src = false → ⟨Fin.ofNat 256 src, causeWord cause 0 0, m.ent.dt, false⟩ ∈ u.occs))

/-- An action given at least 1 us ahead is pending at its thread (R127); given later it is refused with LEAD, and one that was
pending is replaced with CREPL. In the first slot of the thread that begins at or after its DT it takes effect before
anything else (R126): a start puts a thread that is not running in RUN at its entry with its registers cleared and T0 the
action's DT, a stop stops it, a resume goes on past a HALT, at 16 383 with ADDR, or at a fault's instruction; in another
state it is refused with STATE. A ring action that asked for it raises CDONE (R141). While Pacer's clock is gated a register
action stays with Handlebar (R46, R48). -/
def Obligations.ThreadControlCompletes : Prop :=
  (∀ (s : State) (p : ThreadId) (d : DT),
    s.hostReach = true →
    s.clocked = true →
    d = dtAt s.imm (thBase p + 0xC) →
    dtLe (dtAdd (s.replica islHandlebar) 4096000) d = true →
    (s.thread p).act = none →
    exec (.thStart p) s = .next (s.setThread p { s.thread p with
      act := some ⟨.start, d, 0, false, false, 0, true⟩, cmdState := 1, cmdCause := 0 })) ∧
  (∀ (s : State) (p : ThreadId) (d : DT),
    s.hostReach = true →
    s.clocked = true →
    d = dtAt s.imm (thBase p + 0xC) →
    dtLe (dtAdd (s.replica islHandlebar) 4096000) d = true →
    (s.thread p).act = none →
    exec (.thStop p) s = .next (s.setThread p { s.thread p with
      act := some ⟨.stop, d, 0, false, false, 0, true⟩, cmdState := 1, cmdCause := 0 })) ∧
  (∀ (s : State) (p : ThreadId) (d : DT),
    s.hostReach = true →
    s.clocked = true →
    d = dtAt s.imm (thBase p + 0xC) →
    dtLe (dtAdd (s.replica islHandlebar) 4096000) d = true →
    (s.thread p).act = none →
    exec (.thResume p) s = .next (s.setThread p { s.thread p with
      act := some ⟨.resume, d, 0, false, false, 0, true⟩, cmdState := 1, cmdCause := 0 })) ∧
  (∀ (s : State) (p : ThreadId),
    s.hostReach = true →
    s.clocked = true →
    dtLe (dtAdd (s.replica islHandlebar) 4096000) (dtAt s.imm (thBase p + 0xC)) = false →
    exec (.thStop p) s = .next (s.setThread p { s.thread p with
      cmdState := 3, cmdCause := 1, act := (s.thread p).act.map fun a => { a with latest := false } })) ∧
  (∀ (s : State) (p : ThreadId) (a : CtlAct),
    s.hostReach = true →
    s.clocked = true →
    dtLe (dtAdd (s.replica islHandlebar) 4096000) (dtAt s.imm (thBase p + 0xC)) = true →
    (s.thread p).act = some a →
    ∃ u, exec (.thStop p) s = .next u ∧
      u.thread p = { s.thread p with
      act := some ⟨.stop, dtAt s.imm (thBase p + 0xC), 0, false, false, 0, true⟩, cmdState := 1, cmdCause := 3 } ∧
      (s.outage = false → s.evFull (128 + 2 * p.val) = false →
      ⟨Fin.ofNat 256 (128 + 2 * p.val), causeWord 12 0 0, s.dt, false⟩ ∈ u.occs)) ∧
  (∀ (s : State) (p : ThreadId) (t : Thread) (a : CtlAct),
    t = s.thread p →
    s.ownSlot p = true →
    t.act = some a ∧ dtLe a.dt (slotDt s.slot) = true →
    a.op = .stop →
    ∃ u, exec (.threadActionDue p) s = .next u ∧
      u.thread p = { t with state := .stopped, waitOn := .none, oldBank := false, act := none, cmdState := if a.latest then 2 else t.cmdState, cmdCause := if a.latest then 0 else t.cmdCause }) ∧
  (∀ (s : State) (p : ThreadId) (t : Thread) (a : CtlAct),
    t = s.thread p →
    s.ownSlot p = true →
    t.act = some a ∧ dtLe a.dt (slotDt s.slot) = true →
    a.op = .start →
    t.state = .stopped ∨ t.state = .halted ∨ t.state = .faulted →
    ∃ u, exec (.threadActionDue p) s = .next u ∧
      (∀ x, (u.axis x).tgts = (s.axis x).tgts.filter fun g => g.thread != p) ∧
      u.thread p = { t with
      ip := if a.ring then a.entry else BitVec.ofNat 14 (fld (s.immAt (thBase p + 4)) 0 14), g := Vector.replicate 8 0, t := (Vector.replicate 8 0).set 0 a.dt, z := false, n := false, c := false
      v := false, f := false, stack := [], mbox := [], pend := 0, state := .run, waitOn := .none, nextSlot := s.slot, oldBank := false
      faultCause := 0, faultIp := 0, faultDt := 0, act := none, cmdState := if a.latest then 2 else t.cmdState, cmdCause := if a.latest then 0 else t.cmdCause }) ∧
  (∀ (s : State) (p : ThreadId) (t : Thread) (a : CtlAct),
    t = s.thread p →
    s.ownSlot p = true →
    t.act = some a ∧ dtLe a.dt (slotDt s.slot) = true →
    a.op = .resume →
    t.state = .halted →
    t.ip ≠ 0x3FFF →
    ∃ u, exec (.threadActionDue p) s = .next u ∧
      u.thread p = { t with state := .run, ip := t.ip + 1, nextSlot := s.slot, act := none, cmdState := if a.latest then 2 else t.cmdState, cmdCause := if a.latest then 0 else t.cmdCause }) ∧
  (∀ (s : State) (p : ThreadId) (t : Thread) (a : CtlAct),
    t = s.thread p →
    s.ownSlot p = true →
    t.act = some a ∧ dtLe a.dt (slotDt s.slot) = true →
    a.op = .resume →
    t.state = .faulted →
    ∃ u, exec (.threadActionDue p) s = .next u ∧
      u.thread p = { t with state := .run, nextSlot := s.slot, act := none, cmdState := if a.latest then 2 else t.cmdState, cmdCause := if a.latest then 0 else t.cmdCause }) ∧
  (∀ (s : State) (p : ThreadId) (t : Thread) (a : CtlAct),
    t = s.thread p →
    s.ownSlot p = true →
    t.act = some a ∧ dtLe a.dt (slotDt s.slot) = true →
    a.op = .start ∧ (t.state = .run ∨ t.state = .hold ∨ t.state = .wait) ∨ a.op = .resume ∧ t.state ≠ .halted ∧
    t.state ≠ .faulted →
    a.latest = true ∧ a.ring = false →
    exec (.threadActionDue p) s = .next (s.setThread p { t with
      act := none, cmdState := 3, cmdCause := 2 })) ∧
  (∀ (s : State) (p : ThreadId) (c : Instr) (op : CtlOp),
    s.hostReach = true →
    s.clocked = false →
    (c, op) ∈ [(.thStart p, .start), (.thStop p, .stop), (.thResume p, .resume)] →
    exec c s = .next { s with pacer := { s.pacer with ctlIn := s.pacer.ctlIn ++ [(p, op, dtAt s.imm (thBase p + 0xC))] } }) ∧
  (∀ (s : State) (p : ThreadId) (t : Thread) (a : CtlAct),
    t = s.thread p →
    s.ownSlot p = true →
    t.act = some a ∧ dtLe a.dt (slotDt s.slot) = true →
    a.op = .resume →
    t.state = .halted →
    t.ip = 0x3FFF →
    ∃ u, exec (.threadActionDue p) s = .next u ∧ (u.thread p).state = .faulted ∧ (u.thread p).faultCause = 2 ∧
      (u.thread p).faultIp = 0x3FFF ∧ (u.thread p).act = none) ∧
  (∀ (s : State) (p : ThreadId) (t : Thread) (a : CtlAct),
    t = s.thread p →
    s.ownSlot p = true →
    t.act = some a ∧ dtLe a.dt (slotDt s.slot) = true →
    a.op = .stop ∧ a.ring = true ∧ a.notify = true →
    s.evFull (128 + 2 * p.val) = false →
    ∃ u, exec (.threadActionDue p) s = .next u ∧
      ⟨Fin.ofNat 256 (128 + 2 * p.val), causeWord 11 0 a.seq.toNat, slotDt s.slot, false⟩ ∈ u.occs)

/-- A thread takes the entry at the head of its command ring and counts it: NOP answers CDONE where asked, POST places a mailbox
entry that is in time and raises CLATE where it is not, START, STOP and RESUME become the
pending action, or are refused with CLATE and LEAD (R127, R140 to R142);
an entry with a reserved field set is discarded with CBAD (R141). BANK_CRC_GO starts the computation over the bank that is
not active, and its end gives the CRC-32, or none where the bank was written meanwhile (R131). -/
def Obligations.CommandRingsComplete : Prop :=
  (∀ (s : State) (p : ThreadId) (t : Thread) (b : Octets) (r : List Octets),
    t = s.thread p →
    t.cmdIn = b :: r →
    s.clocked = true →
    cmdValid b = true →
    leAt b 0 1 = 0 →
    leAt b 1 1 = 1 →
    ∃ u, exec (.cmdNop p) s = .next u ∧ u.thread p = { t with cmdIn := r, cmds := t.cmds + 1 } ∧
      (s.evFull (128 + 2 * p.val) = false →
        ⟨Fin.ofNat 256 (128 + 2 * p.val), causeWord 11 0 (leAt b 2 2), s.replica islPacer, false⟩ ∈ u.occs)) ∧
  (∀ (s : State) (p : ThreadId) (t : Thread) (b : Octets) (r : List Octets),
    t = s.thread p →
    t.cmdIn = b :: r →
    s.clocked = true →
    cmdValid b = true →
    leAt b 0 1 = 1 →
    dtLe (dtAdd (s.replica islPacer) 409600) (BitVec.ofNat 80 (leAt b 8 10)) = true →
    t.mbox.length < 8 →
    leAt b 1 1 = 0 →
    exec (.cmdPost p) s = .next (s.setThread p { t with
      cmdIn := r, cmds := t.cmds + 1
      mbox := t.mbox ++ [⟨BitVec.ofNat 80 (leAt b 8 10), BitVec.ofNat 32 (leAt b 4 4), 0xFFFF⟩] })) ∧
  (∀ (s : State) (p : ThreadId) (t : Thread) (b : Octets) (r : List Octets),
    t = s.thread p →
    t.cmdIn = b :: r →
    s.clocked = true →
    cmdValid b = true →
    leAt b 0 1 = 1 →
    dtLe (dtAdd (s.replica islPacer) 409600) (BitVec.ofNat 80 (leAt b 8 10)) = false →
    ∃ u, exec (.cmdPost p) s = .next u ∧
      u.thread p = { t with cmdIn := r, cmds := t.cmds + 1, late := t.late + 1 } ∧
      (s.evFull (128 + 2 * p.val) = false →
        ⟨Fin.ofNat 256 (128 + 2 * p.val), causeWord 8 0 0, BitVec.ofNat 80 (leAt b 8 10), false⟩ ∈ u.occs)) ∧
  (∀ (s : State) (p : ThreadId) (t : Thread) (b : Octets) (r : List Octets),
    t = s.thread p →
    t.cmdIn = b :: r →
    s.clocked = true →
    cmdValid b = true →
    leAt b 0 1 = 2 →
    dtLe (dtAdd (s.replica islPacer) 4096000) (BitVec.ofNat 80 (leAt b 8 10)) = true →
    t.act = none →
    exec (.cmdStart p) s = .next (s.setThread p { t with
      cmdIn := r, cmds := t.cmds + 1, cmdState := 1, cmdCause := 0
      act := some ⟨.start, BitVec.ofNat 80 (leAt b 8 10), BitVec.ofNat 14 (leAt b 4 4), true, leAt b 1 1 % 2 == 1,
      BitVec.ofNat 16 (leAt b 2 2), true⟩ })) ∧
  (∀ (s : State) (p : ThreadId) (t : Thread) (b : Octets) (r : List Octets),
    t = s.thread p →
    t.cmdIn = b :: r →
    s.clocked = true →
    cmdValid b = true →
    leAt b 0 1 = 3 →
    dtLe (dtAdd (s.replica islPacer) 4096000) (BitVec.ofNat 80 (leAt b 8 10)) = true →
    t.act = none →
    exec (.cmdStop p) s = .next (s.setThread p { t with
      cmdIn := r, cmds := t.cmds + 1, cmdState := 1, cmdCause := 0
      act := some ⟨.stop, BitVec.ofNat 80 (leAt b 8 10), BitVec.ofNat 14 (leAt b 4 4), true, leAt b 1 1 % 2 == 1,
      BitVec.ofNat 16 (leAt b 2 2), true⟩ })) ∧
  (∀ (s : State) (p : ThreadId) (t : Thread) (b : Octets) (r : List Octets),
    t = s.thread p →
    t.cmdIn = b :: r →
    s.clocked = true →
    cmdValid b = true →
    leAt b 0 1 = 4 →
    dtLe (dtAdd (s.replica islPacer) 4096000) (BitVec.ofNat 80 (leAt b 8 10)) = true →
    t.act = none →
    exec (.cmdResume p) s = .next (s.setThread p { t with
      cmdIn := r, cmds := t.cmds + 1, cmdState := 1, cmdCause := 0
      act := some ⟨.resume, BitVec.ofNat 80 (leAt b 8 10), BitVec.ofNat 14 (leAt b 4 4), true, leAt b 1 1 % 2 == 1,
      BitVec.ofNat 16 (leAt b 2 2), true⟩ })) ∧
  (∀ (s : State) (p : ThreadId) (t : Thread) (b : Octets) (r : List Octets) (c : Instr),
    t = s.thread p →
    t.cmdIn = b :: r →
    s.clocked = true →
    cmdValid b = false →
    c = .cmdNop p ∧ (leAt b 0 1 = 0 ∨ 5 ≤ leAt b 0 1) ∨
    (c, leAt b 0 1) ∈ [(.cmdPost p, 1), (.cmdStart p, 2), (.cmdStop p, 3), (.cmdResume p, 4)] →
    ∃ u, exec c s = .next u ∧ u.thread p = { t with cmdIn := r, cmds := t.cmds + 1 } ∧
      (s.evFull (128 + 2 * p.val) = false →
        ⟨Fin.ofNat 256 (128 + 2 * p.val), causeWord 9 0 0, BitVec.ofNat 80 (leAt b 8 10), false⟩ ∈ u.occs)) ∧
  (∀ (s : State) (p : ThreadId) (t : Thread) (b : Octets) (r : List Octets) (c : Instr),
    t = s.thread p →
    t.cmdIn = b :: r →
    s.clocked = true →
    cmdValid b = true →
    (c, leAt b 0 1) ∈ [(.cmdStart p, 2), (.cmdStop p, 3), (.cmdResume p, 4)] →
    dtLe (dtAdd (s.replica islPacer) 4096000) (BitVec.ofNat 80 (leAt b 8 10)) = false →
    ∃ u, exec c s = .next u ∧
      u.thread p = { t with
      cmdIn := r, cmds := t.cmds + 1, late := t.late + 1, cmdState := 3, cmdCause := 1
      act := t.act.map fun a => { a with latest := false } } ∧
      (s.evFull (128 + 2 * p.val) = false →
        ⟨Fin.ofNat 256 (128 + 2 * p.val), causeWord 8 0 0, BitVec.ofNat 80 (leAt b 8 10), false⟩ ∈ u.occs)) ∧
  (∀ (s : State),
    s.hostReach = true →
    exec .bankCrcGo s = .next { s with pacer := { s.pacer with crcBusy := true, crcDirty := false, crcValid := false } }) ∧
  (∀ (s : State),
    s.clocked = true →
    s.pacer.crcBusy = true →
    s.pacer.crcDirty = false →
    exec .bankCrcDone s = .next { s with pacer := { s.pacer with
      crcBusy := false, crcValid := true
      crc := crc32 (rdN memDflt s.mem (if s.pacer.bank then 0x800000 else 0x820000) 131072) } }) ∧
  (∀ (s : State),
    s.clocked = true →
    s.pacer.crcBusy = true →
    s.pacer.crcDirty = true →
    exec .bankCrcDone s = .next { s with pacer := { s.pacer with
      crcBusy := false, crcDirty := false, crcValid := false, crc := 0 } })

/-- A VSTART that has come starts a STOPPED engine at a valid segment on its DT, with the period CR_PERIOD gives, and raises
START (R157, R163); one to a running engine is refused with VBUSY. Each vector start counts and moves the next one on by
the period (R157). At a latch point a jump wins, then the segment's count, then END, then NEXT (R159); a segment not ready
starves the engine and an invalid one is BADSEG, with the idle segment in their place (R155, R166, R168). The boundary starts
what the latch point fixed, with JUMPED where a jump named it (R160), or stops with END. A VSTOP stops the engine at the next
vector start with STOP, and has no effect on a STOPPED one (R161); a VRATE moves it to the grid of the new period, and is
refused with IDLE where it is STOPPED (R163); a VJUMP is pending, replaces the one before it with JDISCARD, and to a STOPPED
engine raises JDISCARD (R160). -/
def Obligations.EnginesComplete : Prop :=
  (∀ (s : State) (v : EngineId) (n : BitVec 10) (ta : DT) (p : ThreadId),
    s.idleMsg v = some (.start n ta p) →
    eValid (s.entry v n.toNat) = true ∧ eStream (s.entry v n.toNat) = false →
    s.idleOk v = true →
    ∃ u, exec (.engineStart v) s = .next u ∧ (u.engine v).state = .play ∧ (u.engine v).seg = n ∧
      (u.engine v).pos = 0 ∧
      (u.engine v).msgs = (s.engine v).msgs.erase (.start n ta p) ∧ (u.engine v).ref = ta ∧ (u.engine v).nextVec = ta ∧
      (u.engine v).period = periodOf (s.act (crBase v + 4)).toNat ∧
      (s.evFull (160 + 4 * v.val + 0) = false →
        ⟨Fin.ofNat 256 (160 + 4 * v.val + 0), causeWord 1 0 0, ta, false⟩ ∈ u.occs)) ∧
  (∀ (s : State) (v : EngineId) (m : EngMsg),
    s.runningStart v = some m →
    exec (.engineStart v) s = .next (raise (160 + 4 * v.val) 7 0 0 m.key.1
      (s.setEngine v { s.engine v with msgs := (s.engine v).msgs.erase m }))) ∧
  (∀ (s : State) (v : EngineId),
    s.vecDue v = true →
    s.stopDue v = false →
    s.rateIsDue v = false →
    (s.engine v).pos < s.playLen v →
    (s.engine v).fixed.isSome = true ∨ (s.engine v).pos + 8 < s.playLen v →
    ∃ u, exec (.vectorStart v) s = .next u ∧ (u.engine v).pos = (s.engine v).pos + 1 ∧
      (u.engine v).nextVec = dtAdd (s.engine v).nextVec (s.engine v).period ∧
      (u.engine v).vectors = (s.engine v).vectors + 1 ∧ (u.engine v).period = (s.engine v).period ∧
      (u.engine v).seg = (s.engine v).seg) ∧
  (∀ (s : State) (v : EngineId) (n : BitVec 10),
    s.vecDue v = true →
    s.stopDue v = false →
    s.rateIsDue v = false →
    (s.engine v).fixed = none ∧ s.playLen v ≤ (s.engine v).pos + 8 →
    (s.engine v).jump = some n →
    eValid (s.entry v n.toNat) = true ∧ eStream (s.entry v n.toNat) = false →
    ∃ u, exec (.latchPoint v) s = .next u ∧ (u.engine v).jump = none ∧ (u.engine v).fixed = some (.seg n 0 true) ∧
      (u.engine v).want = none) ∧
  (∀ (s : State) (v : EngineId) (n : BitVec 10),
    s.vecDue v = true →
    s.stopDue v = false →
    s.rateIsDue v = false →
    (s.engine v).fixed = none ∧ s.playLen v ≤ (s.engine v).pos + 8 →
    (s.engine v).jump = none ∧ (s.engine v).state = .play →
    eCount (s.entry v (s.engine v).seg.toNat) = 0 ∨
    (s.engine v).plays + 1 < eCount (s.entry v (s.engine v).seg.toNat) →
    n = (s.engine v).seg →
    eValid (s.entry v n.toNat) = true ∧ eStream (s.entry v n.toNat) = false →
    ∃ u, exec (.latchPoint v) s = .next u ∧ (u.engine v).fixed = some (.seg n ((s.engine v).plays + 1) false) ∧
      (u.engine v).want = none ∧ (u.engine v).lastPlay = false) ∧
  (∀ (s : State) (v : EngineId),
    s.vecDue v = true →
    s.stopDue v = false →
    s.rateIsDue v = false →
    (s.engine v).fixed = none ∧ s.playLen v ≤ (s.engine v).pos + 8 →
    (s.engine v).jump = none ∧ (s.engine v).state = .play →
    eCount (s.entry v (s.engine v).seg.toNat) ≠ 0 ∧
    eCount (s.entry v (s.engine v).seg.toNat) ≤ (s.engine v).plays + 1 →
    eEnd (s.entry v (s.engine v).seg.toNat) = true →
    ∃ u, exec (.latchPoint v) s = .next u ∧ (u.engine v).fixed = some .stopEnd ∧ (u.engine v).lastPlay = true) ∧
  (∀ (s : State) (v : EngineId) (n : Nat),
    s.vecDue v = true →
    s.stopDue v = false →
    s.rateIsDue v = false →
    (s.engine v).fixed = none ∧ s.playLen v ≤ (s.engine v).pos + 8 →
    (s.engine v).jump = none ∧ (s.engine v).state = .play →
    eCount (s.entry v (s.engine v).seg.toNat) ≠ 0 ∧
    eCount (s.entry v (s.engine v).seg.toNat) ≤ (s.engine v).plays + 1 →
    eEnd (s.entry v (s.engine v).seg.toNat) = false ∧ n = eNext (s.entry v (s.engine v).seg.toNat) →
    eValid (s.entry v n) = true ∧ eStream (s.entry v n) = false →
    ∃ u, exec (.latchPoint v) s = .next u ∧ (u.engine v).fixed = some (.seg (BitVec.ofNat 10 n) 0 false) ∧
      (u.engine v).want = none) ∧
  (∀ (s : State) (v : EngineId) (n : BitVec 10),
    s.vecDue v = true →
    s.stopDue v = false →
    s.rateIsDue v = false →
    (s.engine v).fixed = none ∧ s.playLen v ≤ (s.engine v).pos + 8 →
    (s.engine v).jump = some n →
    eValid (s.entry v n.toNat) = true ∧ eStream (s.entry v n.toNat) = true ∧ (s.engine v).isReady n.toNat = false →
    s.idleOk v = true →
    ∃ u, exec (.latchPoint v) s = .next u ∧ (u.engine v).want = some ⟨n, 0, true⟩ ∧
      (u.engine v).fixed = some (.idle (BitVec.ofNat 10 (s.idleSeg v)) true)) ∧
  (∀ (s : State) (v : EngineId) (n : BitVec 10),
    s.vecDue v = true →
    s.stopDue v = false →
    s.rateIsDue v = false →
    (s.engine v).fixed = none ∧ s.playLen v ≤ (s.engine v).pos + 8 →
    (s.engine v).jump = some n →
    eValid (s.entry v n.toNat) = false →
    s.idleOk v = true →
    ∃ u, exec (.latchPoint v) s = .next u ∧ (u.engine v).fixed = some (.idle (BitVec.ofNat 10 (s.idleSeg v)) false) ∧
      (s.evFull (160 + 4 * v.val) = false →
        ⟨Fin.ofNat 256 (160 + 4 * v.val), causeWord 9 0 0, (s.engine v).nextVec, false⟩ ∈ u.occs)) ∧
  (∀ (s : State) (v : EngineId) (n : BitVec 10) (plays : Nat) (jumped : Bool),
    s.vecDue v = true →
    s.stopDue v = false →
    s.rateIsDue v = false →
    (s.engine v).fixed = some (.seg n plays jumped) ∧ s.playLen v ≤ (s.engine v).pos →
    ∃ u, exec (.segmentBoundary v) s = .next u ∧ (u.engine v).state = .play ∧ (u.engine v).seg = n ∧
      (u.engine v).pos = 0 ∧ (u.engine v).plays = plays ∧ (u.engine v).fixed = none ∧
      (u.engine v).nextVec = (s.engine v).nextVec ∧
      (jumped = true → (s.engine v).rateDue = false → (s.engine v).starving = false → s.evFull (160 + 4 * v.val) = false →
        ⟨Fin.ofNat 256 (160 + 4 * v.val), causeWord 4 0 0, (s.engine v).nextVec, false⟩ ∈ u.occs)) ∧
  (∀ (s : State) (v : EngineId),
    s.vecDue v = true →
    s.stopDue v = false →
    s.rateIsDue v = false →
    (s.engine v).fixed = some .stopEnd ∧ s.playLen v ≤ (s.engine v).pos →
    ∃ u, exec (.segmentBoundary v) s = .next u ∧ (u.engine v).state = .stopped ∧ (u.engine v).cause = 3 ∧
      (u.engine v).jump = none ∧ u.spokes = s.spokes) ∧
  (∀ (s : State) (v : EngineId) (n : BitVec 10),
    s.vecDue v = true →
    s.stopDue v = false →
    s.rateIsDue v = false →
    (s.engine v).fixed = some (.idle n true) ∧ s.playLen v ≤ (s.engine v).pos →
    (s.engine v).starving = false →
    ∃ u, exec (.segmentBoundary v) s = .next u ∧ (u.engine v).state = .idle ∧ (u.engine v).seg = n ∧
      (u.engine v).starving = true ∧ (u.engine v).starves = (s.engine v).starves + 1) ∧
  (∀ (s : State) (v : EngineId) (n : BitVec 10) (p : ThreadId) (r : List (BitVec 10 × ThreadId)),
    (s.engine v).jumpsIn = (n, p) :: r →
    s.clocked = true →
    (s.engine v).state ≠ .stopped →
    (s.engine v).jump = none →
    exec (.jumpArrival v) s = .next (s.setEngine v { s.engine v with jumpsIn := r, jump := some n })) ∧
  (∀ (s : State) (v : EngineId) (n : BitVec 10) (p : ThreadId) (r : List (BitVec 10 × ThreadId)),
    (s.engine v).jumpsIn = (n, p) :: r →
    s.clocked = true →
    (s.engine v).state ≠ .stopped →
    (s.engine v).jump.isSome = true →
    exec (.jumpArrival v) s = .next (raise (160 + 4 * v.val) 5 0 0 s.dt
      (s.setEngine v { s.engine v with jumpsIn := r, jump := some n }))) ∧
  (∀ (s : State) (v : EngineId) (n : BitVec 10) (p : ThreadId) (r : List (BitVec 10 × ThreadId)),
    (s.engine v).jumpsIn = (n, p) :: r →
    s.clocked = true →
    (s.engine v).state = .stopped →
    exec (.jumpArrival v) s = .next (raise (160 + 4 * v.val) 5 0 0 s.dt (s.setEngine v { s.engine v with jumpsIn := r }))) ∧
  (∀ (s : State) (v : EngineId) (ta : DT) (p : ThreadId),
    s.vecDue v = true →
    (s.engine v).msgs = [.stop ta p] →
    dtLe ta (s.engine v).nextVec = true →
    ∃ u, exec (.engineStop v) s = .next u ∧ (u.engine v).state = .stopped ∧ (u.engine v).cause = 2 ∧
      (u.engine v).msgs = [] ∧
      (u.engine v).pos = (s.engine v).pos ∧ u.spokes = s.spokes) ∧
  (∀ (s : State) (v : EngineId) (ta : DT) (p : ThreadId),
    s.idleMsg v = some (.stop ta p) →
    exec (.engineStop v) s = .next (s.setEngine v { s.engine v with msgs := (s.engine v).msgs.erase (.stop ta p) })) ∧
  (∀ (s : State) (v : EngineId) (n : Word) (ta : DT) (p : ThreadId) (q : Nat),
    s.vecDue v = true →
    (s.engine v).msgs = [.rate n ta p] →
    dtLe ta (s.engine v).nextVec = true →
    s.endDue v = false →
    (q = if n = 0 then 2 ^ 32 else max n.toNat 20480) →
    ∃ u, exec (.rateChange v) s = .next u ∧ (u.engine v).period = q ∧ (u.engine v).msgs = [] ∧
      (u.engine v).rateDue = true ∧
      (u.engine v).nextVec = dtAdd (s.engine v).ref
      ((((s.engine v).nextVec - (s.engine v).ref).toNat + q - 1) / q * q)) ∧
  (∀ (s : State) (v : EngineId) (n : Word) (ta : DT) (p : ThreadId),
    s.idleMsg v = some (.rate n ta p) →
    exec (.rateChange v) s = .next (raise (160 + 4 * v.val) 8 0 0 ta
      (s.setEngine v { s.engine v with msgs := (s.engine v).msgs.erase (.rate n ta p) })))

/-- A slot's drive action waits for its EDGE; at its instant it drives an owned spoke that is not Off and stands at another
level (R147, R148), and closer than the guard to the spoke's action before it is skipped and counted, with GUARD (R149). A
strobe whose level is not the one expected counts a failure, keeps the first one and raises FAIL (R170), a CE window closes
at its strobe (R147), and a write of 1 to VALID re-arms the first failure but for one latched in that very cycle (R11). A
feed entry begins the fill of its segment's region or is raised as invalid, and a whole fill sets the ready mark (R165); a
fill that met an active region has discarded the rest, counted (R166). A write to vector memory stores its enabled octets
outside active regions, and discards what falls in one, counted and raised as SEGWR (R156). -/
def Obligations.SlotsAndMemoryComplete : Prop :=
  (∀ (s : State) (v : EngineId) (i : SpokeId) (n edge : Nat) (d : Drv),
    s.vecDue v = true →
    s.stopDue v = false →
    s.rateIsDue v = false →
    (s.engine v).pos < s.playLen v →
    (s.engine v).fixed.isSome = true ∨ (s.engine v).pos + 8 < s.playLen v →
    (∀ j : SpokeId, ownerIn (s.engRegs v) j.val = some v ↔ j = i) →
    n = s.slotAt (64 * eBase (s.entry v (s.engine v).seg.toNat) + (s.engine v).pos) i →
    n % 8 < 5 ∧ slotDrv (n % 8) = some d →
    edge = (regGet (s.engRegs v) (tsKey v i.val (n / 8 % 8) false)).toNat ∧ edge < (s.engine v).period →
    (s.engine v).acts = [] ∧ (s.spoke i).drv ≠ d ∧ (s.req i).st ≠ 2 →
    ∃ u, exec (.vectorStart v) s = .next u ∧
      (u.engine v).acts = [⟨i, dtAdd (s.engine v).nextVec edge, d⟩] ∧ (u.engine v).strobes = (s.engine v).strobes ∧
      (u.spoke i).drv = (s.spoke i).drv) ∧
  (∀ (s : State) (v : EngineId) (i : SpokeId) (a : DriveAct),
    (s.engine v).acts.find? (fun a => a.spoke == i) = some a →
    s.clocked = true →
    dtLe a.at_ s.dt = true →
    s.clearTo i a.at_ = true →
    s.owner i = some v →
    (s.spoke i).out ≠ 0 →
    (s.spoke i).drv ≠ a.drv →
    s.tooClose i (s.spoke i).lastAct a.at_ = false →
    s.hub.hold = false →
    s.suppressed = false →
    (s.spoke i).inModeGap a.at_ = false →
    ∃ u, exec (.slotDriveAction v i) s = .next u ∧ (u.spoke i).drv = a.drv ∧
      (u.spoke i).lastAct = some a.at_ ∧ (u.engine v).acts = (s.engine v).acts.erase a ∧
      (dtAdd a.at_ (deskewIn (s.island (islSpoke i)).active i false), a.drv) ∈ (u.spoke i).launches) ∧
  (∀ (s : State) (v : EngineId) (i : SpokeId) (a : DriveAct),
    (s.engine v).acts.find? (fun a => a.spoke == i) = some a →
    s.clocked = true →
    dtLe a.at_ s.dt = true →
    s.clearTo i a.at_ = true →
    s.owner i = some v →
    (s.spoke i).out ≠ 0 →
    (s.spoke i).drv ≠ a.drv →
    s.tooClose i (s.spoke i).lastAct a.at_ = true →
    ∃ u, exec (.slotDriveAction v i) s = .next u ∧ u.spokes = s.spokes ∧
      (u.engine v).skips = (s.engine v).skips + 1 ∧ (u.engine v).acts = (s.engine v).acts.erase a ∧
      ((s.engine v).guardSaid = false → s.evFull (160 + 4 * v.val) = false →
        ⟨Fin.ofNat 256 (160 + 4 * v.val), causeWord 12 0 0, a.at_, false⟩ ∈ u.occs)) ∧
  (∀ (s : State) (v : EngineId) (i : SpokeId) (x : Strobe) (b : Bool),
    (s.engine v).strobes.find? (fun x => x.spoke == i) = some x →
    s.clocked = true →
    dtLe (dtAdd x.at_ (deskewIn (s.island (islSpoke i)).active i true)) s.dt = true →
    s.swapBefore (islSpoke i) x.at_ = false →
    x.expect = some b →
    (s.spoke i).pin = b →
    exec (.slotStrobe v i) s = .next (s.setEngine v { s.engine v with strobes := (s.engine v).strobes.erase x })) ∧
  (∀ (s : State) (v : EngineId) (i : SpokeId) (x : Strobe) (b : Bool),
    (s.engine v).strobes.find? (fun x => x.spoke == i) = some x →
    s.clocked = true →
    dtLe (dtAdd x.at_ (deskewIn (s.island (islSpoke i)).active i true)) s.dt = true →
    s.swapBefore (islSpoke i) x.at_ = false →
    x.expect = some b →
    (s.spoke i).pin ≠ b →
    (s.engine v).ffValid = false →
    ∃ u, exec (.slotStrobe v i) s = .next u ∧ (u.engine v).fails = (s.engine v).fails + 1 ∧
      (u.engine v).failCnt.get i = (s.engine v).failCnt.get i + 1 ∧ (u.engine v).ffValid = true ∧
      (u.engine v).ffSpoke = BitVec.ofNat 6 i.val ∧ (u.engine v).ffExp = b ∧ (u.engine v).ffSeg = x.seg ∧
      (u.engine v).ffPos = x.vpos ∧ (u.engine v).ffDt = x.at_ ∧
      (s.evFull (160 + 4 * v.val + 2) = false →
        ⟨Fin.ofNat 256 (160 + 4 * v.val + 2), causeWord 1 0 0, x.at_, false⟩ ∈ u.occs)) ∧
  (∀ (s : State) (v : EngineId) (i : SpokeId) (x : Strobe),
    (s.engine v).strobes.find? (fun x => x.spoke == i) = some x →
    s.clocked = true →
    dtLe (dtAdd x.at_ (deskewIn (s.island (islSpoke i)).active i true)) s.dt = true →
    s.swapBefore (islSpoke i) x.at_ = false →
    x.expect = none →
    exec (.slotStrobe v i) s = .next (s.setEngine v { s.engine v with strobes := (s.engine v).strobes.erase x })) ∧
  (∀ (s : State) (v : EngineId),
    s.hostReach = true →
    exec (.failFirstRearm v) s = .next (s.setEngine v { s.engine v with
      ffValid := (s.engine v).ffValid && s.clocked && (s.engine v).ffCycle == s.slot })) ∧
  (∀ (s : State) (v : EngineId) (b : Octets) (r : List Octets) (e : Nat),
    (s.engine v).feedIn = b :: r →
    s.clocked = true →
    (s.engine v).fill = none →
    leAt b 0 2 < 1024 ∧ leAt b 2 1 < 2 ∧ leAt b 3 5 = 0 ∧ leAt b 8 8 % 64 = 0 ∧ leAt b 16 16 = 0 →
    e = s.entry v (leAt b 0 2) →
    eValid e = true ∧ eStream e = true →
    ∃ u, exec (.streamFeedEntry v) s = .next u ∧ (u.engine v).feedIn = r ∧
      (u.engine v).feeds = (s.engine v).feeds + 1 ∧
      (u.engine v).ready = (s.engine v).ready.filter (· != leAt b 0 2) ∧
      (u.engine v).fill = some ⟨BitVec.ofNat 10 (leAt b 0 2), leAt b 2 1 == 1, 64 * eBase e, 64 * eLen e,
      BitVec.ofNat 64 (leAt b 8 8), 0, none⟩) ∧
  (∀ (s : State) (v : EngineId) (b : Octets) (r : List Octets),
    (s.engine v).feedIn = b :: r →
    s.clocked = true →
    (s.engine v).fill = none →
    eStream (s.entry v (leAt b 0 2 % 1024)) = false ∨ leAt b 8 8 % 64 ≠ 0 →
    ∃ u, exec (.streamFeedEntry v) s = .next u ∧ (u.engine v).feedIn = r ∧ (u.engine v).fill = none ∧
      (u.engine v).ready = (s.engine v).ready ∧
        (s.evFull (160 + 4 * v.val + 3) = false →
        ⟨Fin.ofNat 256 (160 + 4 * v.val + 3), causeWord 3 0 0, s.dt, false⟩ ∈ u.occs)) ∧
  (∀ (s : State) (v : EngineId) (data : Octets) (f : Fill),
    (s.engine v).fill = some f →
    s.clocked = true →
    data.length = 64 * f.vecs →
    (f.advance s f.vecs).met = none →
    64 * eBase (s.entry v f.seg.toNat) = f.first ∧ eVecs (s.entry v f.seg.toNat) = f.vecs →
    f.notify = false →
    ∃ u, exec (.fillComplete v data) s = .next u ∧ (u.engine v).fill = none ∧ f.seg.toNat ∈ (u.engine v).ready ∧
      u.mem = wrN memDflt s.mem (64 * f.first) data) ∧
  (∀ (s : State) (v : EngineId) (data : Octets) (f : Fill) (x : Nat × List Nat),
    (s.engine v).fill = some f →
    s.clocked = true →
    data.length = 64 * f.vecs →
    (f.advance s f.vecs).met = some x →
    ∃ u, exec (.fillComplete v data) s = .next u ∧ (u.engine v).fill = none ∧ (u.engine v).ready = (s.engine v).ready ∧
      (u.engine v).segwr = (s.engine v).segwr + BitVec.ofNat 32 (x.2.getD v.val 0) ∧
      u.mem = wrN memDflt s.mem (64 * f.first) (data.take (64 * (x.1 - f.first)))) ∧
  (∀ (s : State) (a : BitVec 23) (data : List (Option Byte)),
    s.hostReach = true →
    (touched a.toNat data).any s.anyActive = false →
    exec (.vectorMemoryWrite a data) s = .next { s with mem := wrEn memDflt s.mem a.toNat data }) ∧
  (∀ (s : State) (v : EngineId) (a : BitVec 23) (b : Byte),
    s.hostReach = true →
    s.inActive v (a.toNat / 64) = true →
    ((∀ x : EngineId, x ≠ v → s.inActive x (a.toNat / 64) = false)) →
    exec (.vectorMemoryWrite a [some b]) s = .next (raise (160 + 4 * v.val + 3) 1 0 0 s.dt
      (s.setEngine v { s.engine v with segwr := (s.engine v).segwr + 1 })))

/-- A GO sends the staged record while none is pending (R179). The oldest record is decided in the order R180 gives: one whose
source is selected, that is whole and valid, lies 0.5 ms ahead and leaves at most 16 segments held replaces the axis model
from its T0 on (R181) and is counted, from the host or from an Axis frame; another is refused with its cause, and a frame no
axis selects is counted once (R179). A segment comes into force at its T0, with SEGSTART where its EVT is 1 (R177); at a seam
the next one follows (R182); where none does the axis goes DRY and holds its last position (R183); a clear empties the model
(R193), but for what the very same cycle brought (R192).
With no record waiting (R192) the oldest posted target is searched from now on: it waits where no held segment reaches its
position (R186), goes to the solver where one does (R188), and ends with no time where CK_AX_CFG.DIR rules it out; a target in
the solver is delivered with its time while 100 ns of lead remain, ends without one, with LATE, when they do not (R187,
R190), and is searched again where a segment accepted since bears on it (R191); one that waits longer than CK_AX_TMO ends
with TIMEOUT (R186). -/
def Obligations.CrankSegmentsComplete : Prop :=
  (∀ (s : State) (a : AxisId),
    s.hostReach = true →
    s.crank.segwState ≠ 1 →
    exec (.segmentGo a) s = .next { s with crank := { s.crank with
      segwState := 1, segwCause := 0
      recIn := s.crank.recIn ++ [⟨a, .host, (List.range 12).flatMap fun n => leOctets 4 (s.immAt (0xC800 + 4 * n)).toNat, true,
      if s.clocked then some s.dt else none, none⟩] } }) ∧
  (∀ (s : State) (a : AxisId),
    s.hostReach = true →
    s.crank.segwState = 1 →
    exec (.segmentGo a) s = .next s) ∧
  (∀ (s : State) (m : RecIn) (r : List RecIn),
    s.ready islCrank = true →
    s.crank.recIn = m :: r →
    m.src = .host →
    (s.axesOf m).contains m.axis = true →
    badRecord m.bytes = false →
    dtLe (dtAdd (s.replica islCrank) 2048000) (BitVec.ofNat 80 (leAt m.bytes 0 10)) = true →
    (replaceFrom (s.axis m.axis).segs (segOf m.bytes)).length ≤ 16 →
    ∃ u, exec .segmentRecord s = .next u ∧ u.crank.recIn = r ∧ u.crank.segwState = 2 ∧ u.crank.segwCause = 0 ∧
      (u.axis m.axis).segs = replaceFrom (s.axis m.axis).segs { segOf m.bytes with cycle := slotOf s.dt } ∧
      (u.axis m.axis).accepted = (s.axis m.axis).accepted + 1 ∧
      (u.axis m.axis).refused = (s.axis m.axis).refused ∧ ∀ x, x ≠ m.axis → u.axis x = s.axis x) ∧
  (∀ (s : State) (m : RecIn) (r : List RecIn) (c : PortId) (x : Byte) (a : AxisId),
    s.ready islCrank = true →
    s.crank.recIn = m :: r →
    m.src = .frame c x →
    s.axesOf m = [a] →
    badRecord m.bytes = false →
    dtLe (dtAdd (s.replica islCrank) 2048000) (BitVec.ofNat 80 (leAt m.bytes 0 10)) = true →
    (replaceFrom (s.axis a).segs (segOf m.bytes)).length ≤ 16 →
    ∃ u, exec .segmentRecord s = .next u ∧ u.crank.recIn = r ∧ u.crank.segwState = s.crank.segwState ∧
      (u.axis a).segs = replaceFrom (s.axis a).segs { segOf m.bytes with cycle := slotOf s.dt } ∧
      (u.axis a).accepted = (s.axis a).accepted + 1) ∧
  (∀ (s : State) (m : RecIn) (r : List RecIn) (c : PortId) (x : Byte),
    s.ready islCrank = true →
    s.crank.recIn = m :: r →
    m.src = .frame c x →
    s.axesOf m = [] →
    exec .segmentRecord s = .next { s with crank := { s.crank with
      recIn := r, unmapped := if m.first then s.crank.unmapped + 1 else s.crank.unmapped } }) ∧
  (∀ (s : State) (m : RecIn) (r : List RecIn) (k : Nat),
    s.ready islCrank = true →
    s.crank.recIn = m :: r →
    m.src = .host →
    recordCheck s m.axis (s.axesOf m) m.bytes = some k →
    ∃ u, exec .segmentRecord s = .next u ∧ u.crank.recIn = r ∧ u.crank.segwState = 3 ∧
      u.crank.segwCause = BitVec.ofNat 4 k ∧ (u.axis m.axis).segs = (s.axis m.axis).segs ∧
      (u.axis m.axis).refused = (s.axis m.axis).refused + 1 ∧
      (s.evFull (176 + m.axis.val) = false →
        ⟨Fin.ofNat 256 (176 + m.axis.val), causeWord k 0 0, BitVec.ofNat 80 (leAt m.bytes 0 10), false⟩ ∈ u.occs)) ∧
  (∀ (s : State) (a : AxisId) (g : Segment) (r : List Segment),
    s.clocked = true →
    (s.axis a).dry = false ∧ (s.axis a).segs = g :: r →
    g.started = false ∧ g.t0.toNat ≤ s.dt.toNat →
    g.evt = true →
    exec (.segstart a) s = .next (raise (176 + a.val) 0 0 0 g.t0 (s.setAxis a { s.axis a with
      segs := { g with started := true } :: r, cause := 0 }))) ∧
  (∀ (s : State) (a : AxisId) (g : Segment) (r : List Segment),
    s.clocked = true →
    (s.axis a).dry = false ∧ (s.axis a).segs = g :: r →
    g.started = false ∧ g.t0.toNat ≤ s.dt.toNat →
    g.evt = false →
    exec (.segstart a) s = .next (s.setAxis a { s.axis a with segs := { g with started := true } :: r })) ∧
  (∀ (s : State) (a : AxisId) (g : Segment) (r : List Segment),
    s.ready islCrank = true →
    (s.axis a).dry = true ∧ (s.axis a).segs = g :: r →
    g.t0.toNat ≤ s.dt.toNat →
    ∃ u, exec (.seam a) s = .next u ∧ (u.axis a).dry = false ∧ (u.axis a).segs = (s.axis a).segs ∧
      (u.axis a).held = (s.axis a).held) ∧
  (∀ (s : State) (a : AxisId) (f g : Segment) (r : List Segment),
    s.ready islCrank = true →
    (s.axis a).dry = false ∧ (s.axis a).segs = f :: g :: r →
    f.heldEnd.toNat ≤ s.dt.toNat ∧ g.t0 = f.heldEnd →
    ∃ u, exec (.seam a) s = .next u ∧ (u.axis a).dry = false ∧ (u.axis a).segs = g :: r) ∧
  (∀ (s : State) (a : AxisId) (g : Segment),
    s.clocked = true →
    (s.axis a).dry = false ∧ (s.axis a).segs = [g] →
    g.heldEnd.toNat ≤ s.dt.toNat →
    exec (.dry a) s = .next (raise (176 + a.val) 8 0 0 g.heldEnd (s.setAxis a { s.axis a with
      segs := [], dry := true, cause := 8
      held := g.num (g.heldEnd.toNat - g.t0.toNat : Nat), heldDen := 65536 * g.len ^ 3 }))) ∧
  (∀ (s : State) (a : AxisId),
    s.hostReach = true →
    (∀ g ∈ (s.axis a).tgts, g.st = .posted ∨ g.st = .noTime) →
    exec (.axisClear a) s = .next (s.setAxis a { s.axis a with 
      segs := (s.axis a).segs.filter (fun g => s.clocked && slotOf s.dt == g.cycle)
      dry := true, held := 0, heldDen := 1 })) ∧
  (∀ (s : State) (a : AxisId) (g : Target) (r : List Target),
    s.ready islCrank = true ∧ s.crank.recIn = [] →
    (s.axis a).tgts = g :: r ∧ g.st = .posted →
    s.axCfg a 12 2 = 0 →
    (s.axis a).segs = [] →
    exec (.targetEntry a) s = .next (s.setAxis a { s.axis a with tgts := { g with st := .waiting s.dt } :: r })) ∧
  (∀ (s : State) (a : AxisId) (g : Target) (r : List Target) (d : DT),
    s.ready islCrank = true ∧ s.crank.recIn = [] →
    (s.axis a).tgts = g :: r ∧ g.st = .posted →
    s.axCfg a 12 2 = 0 →
    searchFrom s.dt.toNat g.pos (s.axis a).segs ((s.axis a).held, (s.axis a).heldDen) = .time d →
    exec (.targetEntry a) s = .next (s.setAxis a { s.axis a with tgts := { g with st := .solving s.dt d false } :: r })) ∧
  (∀ (s : State) (a : AxisId) (g : Target) (r : List Target) (x d : DT),
    s.clocked = true →
    (s.axis a).tgts = g :: r ∧ g.st = .solving x d false →
    dtLe (dtAdd (s.replica islCrank) 409600) d = true →
    exec (.solveComplete a) s = .next (s.setAxis a { s.axis a with
      tgts := { g with st := .time d } :: r, solved := (s.axis a).solved + 1
      lastDt := if (s.axis a).lastDt.toNat < d.toNat then d else (s.axis a).lastDt })) ∧
  (∀ (s : State) (a : AxisId) (g : Target) (r : List Target) (x d : DT),
    s.clocked = true →
    (s.axis a).tgts = g :: r ∧ g.st = .solving x d false →
    dtLe (dtAdd (s.replica islCrank) 409600) d = false →
    exec (.solveComplete a) s = .next (raise (176 + a.val) 12 0 0 x (s.setAxis a { s.axis a with
      tgts := { g with st := .noTime } :: r, noTime := (s.axis a).noTime + 1, cause := 12 }))) ∧
  (∀ (s : State) (a : AxisId) (g : Target) (r : List Target) (x : DT),
    s.ready islCrank = true →
    (s.axis a).tgts = g :: r ∧ g.st = .waiting x →
    dtLe (dtAdd x (s.axTmo a)) s.dt = true →
    exec (.targetTimeout a) s = .next (raise (176 + a.val) 13 0 0 x (s.setAxis a { s.axis a with
      tgts := { g with st := .noTime } :: r, noTime := (s.axis a).noTime + 1, cause := 13 }))) ∧
  (∀ (s : State) (a : AxisId) (g : Target) (r : List Target) (x d : DT),
    s.clocked = true →
    (s.axis a).tgts = g :: r ∧ g.st = .solving x d true →
    exec (.solveComplete a) s = .next (searchTarget a x g s)) ∧
  (∀ (s : State) (a : AxisId) (g : Target) (r : List Target) (p : Int × Nat),
    s.ready islCrank = true ∧ s.crank.recIn = [] →
    (s.axis a).tgts = g :: r ∧ g.st = .posted →
    p = (s.axis a).posAt s.dt →
    s.axCfg a 12 2 = 1 ∧ g.pos * p.2 < p.1 ∨ s.axCfg a 12 2 = 2 ∧ p.1 < g.pos * p.2 →
    exec (.targetEntry a) s = .next (raise (176 + a.val) 14 0 0 s.dt (s.setAxis a { s.axis a with
      tgts := { g with st := .noTime } :: r, noTime := (s.axis a).noTime + 1, cause := 14 })))

/-- A histogram that breaks the coarse bound, that is complete only after its hit time has run out, or that disagrees with the
one before it gives no result and counts in REJECT (R199, R200, R210); a first one is kept; one that agrees with the one
before gives the item its wanted trims, held in range, and counts in ACCEPT (R200 to R202). In a full run the two histograms
are kept for the run, the source is no more needed after the second, and one that fails makes the run's outcome, its first
failure standing. A trim moves to its wanted value one step at a time, at most once a millisecond and one tap of an item at
one coarse edge, and never while a full run holds the item or a launch or capture uses the tap (R203). A burst begins on the
spoke whose turn it is, and ends 100 ns before its next launch or after 100 us with its hit time counted (R208). -/
def Obligations.TruingMeasurementsComplete : Prop :=
  (∀ (s : State) (it : ItemId) (c : List Nat) (f : Nat),
    s.clocked = true →
    (s.item it).hitFrom = some f →
    ((it.val < 64 → (s.req (Fin.ofNat 64 it.val)).st ≠ 2)) →
    boundBroken c = true ∨ 17899520000 < s.hits it →
    ∃ u, exec (.histogramComplete it c) s = .next u ∧ (u.item it).reject = (s.item it).reject + 1 ∧
      (u.item it).prev = (s.item it).prev ∧ (u.item it).trims = (s.item it).trims ∧
        (u.item it).target = (s.item it).target ∧ (u.item it).accept = (s.item it).accept) ∧
  (∀ (s : State) (it : ItemId) (c : List Nat) (f : Nat),
    s.clocked = true →
    (s.item it).hitFrom = some f →
    ((it.val < 64 → (s.req (Fin.ofNat 64 it.val)).st ≠ 2)) →
    boundBroken c = false →
    s.hits it ≤ 17899520000 →
    (s.item it).prev = none →
    ∃ u, exec (.histogramComplete it c) s = .next u ∧ (u.item it).prev = some c ∧
      (u.item it).reject = (s.item it).reject ∧
      (u.item it).target = (s.item it).target ∧ (u.item it).accept = (s.item it).accept) ∧
  (∀ (s : State) (it : ItemId) (c a : List Nat) (f : Nat),
    s.clocked = true →
    (s.item it).hitFrom = some f →
    ((it.val < 64 → (s.req (Fin.ofNat 64 it.val)).st ≠ 2)) →
    boundBroken c = false →
    s.hits it ≤ 17899520000 →
    (s.item it).prev = some a →
    agree a c = true →
    ∃ u, exec (.histogramComplete it c) s = .next u ∧ (u.item it).prev = some c ∧ (u.item it).loaded = true ∧
      (u.item it).accept = (s.item it).accept + 1 ∧ (u.item it).tempRes = s.temp ∧
      (u.item it).reject = (s.item it).reject ∧
      (u.item it).target = (wantedTrims (s.item it).trims a c).map holdTrim ∧ (u.item it).trims = (s.item it).trims) ∧
  (∀ (s : State) (it : ItemId) (c a : List Nat) (f : Nat),
    s.clocked = true →
    (s.item it).hitFrom = some f →
    ((it.val < 64 → (s.req (Fin.ofNat 64 it.val)).st ≠ 2)) →
    boundBroken c = false →
    s.hits it ≤ 17899520000 →
    (s.item it).prev = some a →
    agree a c = false →
    ∃ u, exec (.histogramComplete it c) s = .next u ∧ (u.item it).prev = some c ∧
      (u.item it).reject = (s.item it).reject + 1 ∧ (u.item it).accept = (s.item it).accept ∧
      (u.item it).target = (s.item it).target ∧ (u.item it).trims = (s.item it).trims) ∧
  (∀ (s : State) (i : SpokeId) (c : List Nat) (f : Nat),
    s.clocked = true →
    (s.item (itemOf i)).hitFrom = some f →
    (s.req i).st = 2 ∧ (s.req i).histA = none →
    ∃ u, exec (.histogramComplete (itemOf i) c) s = .next u ∧
      u.req i = { s.req i with
      histA := some c
      fail := if boundBroken c then some ((s.req i).fail.getD 5)
        else if 17899520000 < s.hits (itemOf i) then some ((s.req i).fail.getD 7) else (s.req i).fail }) ∧
  (∀ (s : State) (i : SpokeId) (a c : List Nat) (f : Nat),
    s.clocked = true →
    (s.item (itemOf i)).hitFrom = some f →
    (s.req i).st = 2 ∧ (s.req i).histA = some a ∧ (s.req i).fail = none →
    boundBroken c = false →
    s.hits (itemOf i) ≤ 17899520000 →
    ∃ u, exec (.histogramComplete (itemOf i) c) s = .next u ∧
      u.req i = { s.req i with
      histB := some c
      fail := if agree a c = false then some 4
        else if (wantedTrims (s.item (itemOf i)).trims a c).any outOfRange then some 6 else none } ∧
      (u.item (itemOf i)).hitFrom = none ∧ (u.item (itemOf i)).trims = (s.item (itemOf i)).trims) ∧
  (∀ (s : State) (it : ItemId) (f : Nat),
    s.clocked = true →
    (s.item it).hitFrom = some f →
    17899520000 ≤ s.hits it →
    ((it.val < 64 → (s.req (Fin.ofNat 64 it.val)).st ≠ 2)) →
    ∃ u, exec (.histogramTimeout it) s = .next u ∧ (u.item it).reject = (s.item it).reject + 1 ∧
      (u.item it).hitTime = 0 ∧ (u.item it).prev = (s.item it).prev ∧ (u.item it).trims = (s.item it).trims) ∧
  (∀ (s : State) (i : SpokeId) (f : Nat),
    s.clocked = true →
    (s.item (itemOf i)).hitFrom = some f →
    17899520000 ≤ s.hits (itemOf i) →
    (s.req i).st = 2 →
    ∃ u, exec (.histogramTimeout (itemOf i)) s = .next u ∧
      u.req i = { s.req i with fail := some ((s.req i).fail.getD 7) } ∧ (u.item (itemOf i)).hitTime = 0) ∧
  (∀ (s : State) (it : ItemId) (k : Fin 4096),
    s.clocked = true →
    s.dt.toNat % 4096 = 0 →
    trimAt (s.item it).trims k.val ≠ trimAt (s.item it).target k.val →
    (∀ p ∈ (s.item it).stepAt, (p.1 = k.val → p.2 + 4096000000 ≤ s.clock) ∧ p.2 ≠ s.clock) →
    s.tapInUse it k.val = false →
    ((it.val < 64 → (s.req (Fin.ofNat 64 it.val)).st ≠ 2)) →
    ∃ u, exec (.trimStep it k) s = .next u ∧
      (u.item it).trims = (if (s.item it).trims.isEmpty then List.replicate 4096 0 else (s.item it).trims).set k.val
        (if trimAt (s.item it).trims k.val < trimAt (s.item it).target k.val then trimAt (s.item it).trims k.val + 1
          else trimAt (s.item it).trims k.val - 1) ∧
      (u.item it).stepAt.head? = some (k.val, s.clock) ∧ (u.item it).target = (s.item it).target ∧ u.truing.dirty = true) ∧
  (∀ (s : State) (it : ItemId) (k : Fin 4096),
    s.dt.toNat % 4096 ≠ 0 ∨ s.tapInUse it k.val = true ∨ trimAt (s.item it).trims k.val = trimAt (s.item it).target k.val ∨
    (∃ p ∈ (s.item it).stepAt, (p.1 = k.val ∨ p.2 = s.clock) ∧ s.clock < p.2 + 4096000000) →
    exec (.trimStep it k) s = .next s) ∧
  (∀ (s : State) (i : SpokeId),
    s.burstIn (i.val / 8) = false →
    s.nextServed ⟨i.val / 8, by omega⟩ = some i →
    ∃ u, exec (.burstStart i) s = .next u ∧ u.req i = { s.req i with burst := some s.dt } ∧
      (u.item (itemOf i)).hitFrom = some s.dt.toNat ∧ u.truing.turn.get ⟨i.val / 8, by omega⟩ = (i.val + 1) % 8 ∧
      u.spoke i = s.spoke i) ∧
  (∀ (s : State) (i : SpokeId) (b : DT) (f : Nat),
    (s.req i).burst = some b →
    s.clocked = true →
    dtLe (match s.nextLaunch i with
    | some n => if dtLe (dtAdd b 409600000) (dtSub n 409600) then dtAdd b 409600000 else dtSub n 409600
    | none => dtAdd b 409600000) s.dt = true →
    (s.item (itemOf i)).hitFrom = some f →
    ∃ u, exec (.burstEnd i) s = .next u ∧ u.req i = { s.req i with burst := none } ∧
      (u.item (itemOf i)).hitFrom = none ∧
      (u.item (itemOf i)).hitTime = (s.item (itemOf i)).hitTime + (s.dt.toNat - f))

/-- A request queues a full run with its deadline, from its own field or from TU_DEADLINE, and is refused while one is queued or
runs; a queued one is withdrawn by WITHDRAW and expires at its deadline (R211, R212). The run starts where the conditions of
R212 hold, first among the ready requests of its group, with the driver in Hi-Z and capture off, and goes through its phases
at the offsets of R213; the level at the threshold phase, its drift and the threshold it finds decide its outcome (R214,
R215), the first failure standing; the apply phase puts the new trims into the item where none failed, and the end reports the
outcome, the driver and capture coming back (R216). -/
def Obligations.FullRunsComplete : Prop :=
  (∀ (s : State) (i : SpokeId) (dl : BitVec 20),
    s.hostReach = true →
    (s.req i).st ≠ 1 ∧ (s.req i).st ≠ 2 →
    ∃ u, exec (.fullRunRequest i dl) s = .next u ∧ (u.req i).st = 1 ∧
      (u.req i).deadline =
        dtAdd s.now ((if dl = 0 then max 1 (fld (s.act 0x4008) 0 20) else dl.toNat) * 4096000000) ∧
      (u.req i).outcome = (s.req i).outcome ∧ (u.req i).burst = (s.req i).burst) ∧
  (∀ (s : State) (i : SpokeId) (dl : BitVec 20),
    s.hostReach = true →
    (s.req i).st = 1 ∨ (s.req i).st = 2 →
    ∃ u, exec (.fullRunRequest i dl) s = .next u ∧ u.req i = s.req i ∧
      (s.evFull 230 = false → ⟨230, causeWord 16 i.val 0, s.now, s.outage⟩ ∈ u.occs)) ∧
  (∀ (s : State) (i : SpokeId),
    s.hostReach = true →
    (s.req i).st = 1 →
    ∃ u, exec (.fullRunWithdraw i) s = .next u ∧ u.req i = { s.req i with st := 0, outcome := 0x11 } ∧
      (s.evFull 230 = false → ⟨230, causeWord 17 i.val 0, s.now, s.outage⟩ ∈ u.occs)) ∧
  (∀ (s : State) (i : SpokeId),
    (s.req i).st ≠ 1 →
    exec (.fullRunWithdraw i) s = .next s) ∧
  (∀ (s : State) (i : SpokeId),
    s.clocked = true →
    (s.req i).st = 1 →
    dtLe (s.req i).deadline s.dt = true →
    ∃ u, exec (.requestExpired i) s = .next u ∧ u.req i = { s.req i with st := 3, outcome := 0x0A } ∧
      (u.item (itemOf i)).runCode = 0x0A ∧
        (s.evFull 230 = false → ⟨230, causeWord 10 i.val 0, (s.req i).deadline, false⟩ ∈ u.occs)) ∧
  (∀ (s : State) (i : SpokeId),
    s.runOk i = true →
    s.runFirst i = true →
    ∃ u, exec (.fullRunStart i) s = .next u ∧
      u.req i = { s.req i with
      st := 2, phase := .entry, x := s.dt, drvX := (s.spoke i).drv, histA := none, histB := none, fail := none
      old := none, burst := none } ∧
      u.spoke i = { (s.spoke i).put s.dt .hiz with capOff := true, capFrom := none } ∧
      (u.item (itemOf i)).hitFrom = none ∧ (u.item (itemOf i)).hitTime = 0) ∧
  (∀ (s : State) (i : SpokeId),
    s.runOk i = false ∨ s.runFirst i = false →
    exec (.fullRunStart i) s = .next s) ∧
  (∀ (s : State) (i : SpokeId),
    s.clocked = true →
    (s.req i).st = 2 ∧ (s.req i).phase = .entry →
    dtLe (dtAdd (s.req i).x 819200000) s.dt = true →
    ∃ u, exec (.delayPhaseStart i) s = .next u ∧ u.req i = { s.req i with phase := .delay } ∧
      (u.item (itemOf i)).hitFrom = some s.dt.toNat ∧ (u.item (itemOf i)).hitTime = 0) ∧
  (∀ (s : State) (i : SpokeId) (uv : Int),
    s.clocked = true →
    (s.req i).st = 2 ∧ (s.req i).phase = .delay →
    dtLe (dtAdd (s.req i).x 36864000000) s.dt = true →
    ∃ u, exec (.thresholdPhaseStart i uv) s = .next u ∧
      u.req i = { s.req i with
      phase := .threshold, level := uv
      fail := if (s.req i).fail ≠ none then (s.req i).fail else if (s.req i).histB = none then some 7
        else if (if s.diffIn i then uv < -150000 ∨ 150000 < uv else uv < -50000 ∨ 3350000 < uv) then some 9 else none } ∧
      (u.item (itemOf i)).hitFrom = none) ∧
  (∀ (s : State) (i : SpokeId) (uv : Int),
    s.clocked = true →
    (s.req i).st = 2 ∧ (s.req i).phase = .threshold →
    exec (.thresholdSample i uv) s = .next (s.setReq i { s.req i with
      fail := if (if s.diffIn i then 25000 else 150000) < (uv - (s.req i).level).natAbs then some ((s.req i).fail.getD 8)
        else (s.req i).fail })) ∧
  (∀ (s : State) (i : SpokeId) (thr : Int) (a b : List Nat),
    s.clocked = true →
    (s.req i).st = 2 ∧ (s.req i).phase = .threshold →
    dtLe (dtAdd (s.req i).x 49152000000) s.dt = true →
    (s.req i).fail = none ∧ (s.req i).histA = some a ∧ (s.req i).histB = some b →
    thrOk (s.diffIn i) (s.req i).level thr = true →
    ∃ u, exec (.applyPhaseStart i thr) s = .next u ∧ (u.req i).phase = .apply_ ∧ (u.item (itemOf i)).thr = thr ∧
      (u.item (itemOf i)).loaded = true ∧ (u.req i).fail = none ∧
      (u.item (itemOf i)).trims = (wantedTrims (s.item (itemOf i)).trims a b).map holdTrim) ∧
  (∀ (s : State) (i : SpokeId) (thr : Int),
    s.clocked = true →
    (s.req i).st = 2 ∧ (s.req i).phase = .threshold →
    dtLe (dtAdd (s.req i).x 49152000000) s.dt = true →
    (s.req i).fail ≠ none ∨ thrOk (s.diffIn i) (s.req i).level thr = false →
    exec (.applyPhaseStart i thr) s =
      .next (s.setReq i { s.req i with phase := .apply_, fail := some ((s.req i).fail.getD 6), old := none })) ∧
  (∀ (s : State) (i : SpokeId),
    s.clocked = true →
    (s.req i).st = 2 ∧ (s.req i).phase = .apply_ →
    dtLe (dtAdd (s.req i).x 51200000000) s.dt = true →
    (s.req i).fail = none →
    ∃ u, exec (.fullRunEnd i) s = .next u ∧ (u.req i).st = 3 ∧ (u.req i).outcome = 0 ∧
      u.spoke i = { (s.spoke i).put s.dt (s.req i).drvX with capOff := false } ∧
      (u.item (itemOf i)).runCode = 0 ∧ (u.item (itemOf i)).tempRun = some s.temp ∧ u.truing.dirty = true ∧
      (s.evFull 230 = false → ⟨230, causeWord 0 i.val 0, s.dt, false⟩ ∈ u.occs)) ∧
  (∀ (s : State) (i : SpokeId) (c : BitVec 8),
    s.clocked = true →
    (s.req i).st = 2 ∧ (s.req i).phase = .apply_ →
    dtLe (dtAdd (s.req i).x 51200000000) s.dt = true →
    (s.req i).fail = some c →
    ∃ u, exec (.fullRunEnd i) s = .next u ∧ (u.req i).st = 3 ∧ (u.req i).outcome = c ∧
      u.spoke i = { (s.spoke i).put s.dt (s.req i).drvX with capOff := false } ∧
      (u.item (itemOf i)).runCode = c ∧ (u.item (itemOf i)).trims = (s.item (itemOf i)).trims ∧
      u.truing.dirty = s.truing.dirty ∧
      (s.evFull 230 = false → ⟨230, causeWord c.toNat i.val 0, s.dt, false⟩ ∈ u.occs))

/-- A store begins, at GO or by itself at its interval or 60 s after a full run that ended TRUE, with a copy of all trims for the
slot that does not hold the newest data, which it empties, under the next GEN (R222); GO is ignored while one is in progress,
and without AUTOSTORE a full run is not stored. Each page is programmed once Dynamo confirms hold-up, and the store is
abandoned where it does not (R223); the header programmed last makes the slot valid and the newest, counted in SAVED with
STORED (R220 to R222, R224), and a page that fails its verify ends the store with FAILED (R224). -/
def Obligations.TrimStoreCompletes : Prop :=
  (∀ (s : State),
    s.hostReach = true →
    s.truing.job = none →
    ∃ u, exec .storeGo s = .next u ∧ u.truing.storeState = 1 ∧ u.truing.dirty = false ∧ u.truing.lastStore = s.clock ∧
      u.truing.job = some ⟨!s.truing.noSlot && !s.truing.newest, if s.truing.noSlot then 1 else s.truing.gen + 1, 0, copyTrims s⟩ ∧
      u.truing.slotA = (if !s.truing.noSlot && !s.truing.newest then s.truing.slotA else TrimSlot.blank) ∧
      u.truing.slotB = (if !s.truing.noSlot && !s.truing.newest then TrimSlot.blank else s.truing.slotB)) ∧
  (∀ (s : State) (j : StoreJob),
    s.truing.job = some j →
    exec .storeGo s = .next s) ∧
  (∀ (s : State),
    s.clocked = true →
    s.autostore = true →
    s.truing.dirty = true ∧ s.truing.job = none →
    fld (s.act 0x4004) 0 16 ≠ 0 →
    s.truing.lastStore + fld (s.act 0x4004) 0 16 * 60 * ftS ≤ s.clock →
    ∃ u, exec .autostoreInterval s = .next u ∧ u.truing.storeState = 1 ∧ u.truing.dirty = false ∧
      u.truing.lastStore = s.clock ∧
      u.truing.job = some ⟨!s.truing.noSlot && !s.truing.newest, if s.truing.noSlot then 1 else s.truing.gen + 1, 0, copyTrims s⟩) ∧
  (∀ (s : State) (t : Nat) (r : List Nat),
    s.clocked = true →
    s.autostore = true →
    s.truing.afterRun = t :: r ∧ s.truing.job = none →
    t + 60 * ftS ≤ s.clock →
    ∃ u, exec .autostoreAfterRun s = .next u ∧ u.truing.afterRun = [] ∧ u.truing.storeState = 1 ∧
      u.truing.dirty = false ∧ u.truing.lastStore = s.clock ∧
      u.truing.job = some ⟨!s.truing.noSlot && !s.truing.newest, if s.truing.noSlot then 1 else s.truing.gen + 1, 0, copyTrims s⟩) ∧
  (∀ (s : State) (t : Nat) (r : List Nat),
    s.clocked = true →
    s.autostore = false →
    s.truing.afterRun = t :: r ∧ s.truing.job = none →
    t + 60 * ftS ≤ s.clock →
    exec .autostoreAfterRun s = .next { s with truing := { s.truing with afterRun := r } }) ∧
  (∀ (s : State) (j : StoreJob),
    s.truing.job = some j →
    s.clocked = true →
    s.pageBusy = false ∧ j.page < 1093 →
    s.dyn.confirmed = true →
    exec .pageProgram s = .next { s with truing := { s.truing with
      job := some { j with page := j.page + 1 }, pageTo := some (s.clock + 4096000000) } }) ∧
  (∀ (s : State) (j : StoreJob),
    s.truing.job = some j →
    s.clocked = true →
    s.pageBusy = false ∧ j.page < 1093 →
    s.dyn.confirmed = false →
    exec .pageProgram s = .next (raise 232 2 0 0 s.dt { s with truing := { s.truing with
      storeState := 3, job := none, dirty := true, abandonedCnt := s.truing.abandonedCnt + 1 } })) ∧
  (∀ (s : State) (j : StoreJob),
    s.truing.job = some j →
    s.clocked = true →
    1093 ≤ j.page →
    s.dyn.confirmed = true →
    exec (.storeComplete true) s = .next (raise 232 1 0 0 s.dt { s with truing := { s.truing with
      storeState := 2, job := none, newest := j.slot, noSlot := false, gen := j.gen, saved := s.truing.saved + 1
      slotA := if j.slot then s.truing.slotA else s.slotOfStore j.gen j.copy
      slotB := if j.slot then s.slotOfStore j.gen j.copy else s.truing.slotB } }) ∧
      s.slotValid (s.slotOfStore j.gen j.copy) = true) ∧
  (∀ (s : State) (j : StoreJob),
    s.truing.job = some j →
    s.clocked = true →
    exec (.storeComplete false) s = .next (raise 232 3 0 0 s.dt { s with truing := { s.truing with
      storeState := 3, job := none, dirty := true, abandonedCnt := s.truing.abandonedCnt + 1 } }))

/-- A lock goes from its settle step to the band search, from there with its band to a lock wait of 250 us, and is agreed where
both windows that end it lie in range; a count out of range begins another search, or, the third time in a row, a back-off of
10 ms (R233, R235). With the lock agreed the gates open where the holdover counter comes to a DT multiple of 128 ns, in
restart hold (R233, R240, R256), or, on the way to Day, at DT 0, from which DT runs (R13, R394). A loss, by the phase monitor
or by a window of the continuous check whose count is out of range, counts, closes the gates and begins a lock (R236, R237);
the loss of the reference goes back to the TCXO (R230). A waiting change of W is applied at most 50 000 at a time, 10 us after
the one before (R232). -/
def Obligations.HubCompletes : Prop :=
  (∀ (s : State),
    s.hub.lock = .settle →
    s.hub.stepEnd ≤ s.clock →
    exec .settleEnd s = .next { s with hub := { s.hub with lock := .search, stepEnd := s.clock + 81920000 } }) ∧
  (∀ (s : State) (b : BitVec 5),
    s.hub.lock = .search →
    exec (.bandSearchDone b) s = .next { s with hub := { s.hub with
      band := b, lock := .lockWait, stepEnd := s.clock + 1024000000 } }) ∧
  (∀ (s : State) (a b : Nat),
    s.hub.lock = .lockWait →
    s.hub.stepEnd ≤ s.clock →
    39200 ≤ a ∧ a ≤ 40800 ∧ 39200 ≤ b ∧ b ≤ 40800 →
    exec (.lockWaitEnd a b) s = .next { s with hub := { s.hub with lock := .agreed, disagree := 0 } }) ∧
  (∀ (s : State) (a b : Nat),
    s.hub.lock = .lockWait →
    s.hub.stepEnd ≤ s.clock →
    a < 39200 ∨ 40800 < a ∨ b < 39200 ∨ 40800 < b →
    s.hub.disagree < 2 →
    ∃ u, exec (.lockWaitEnd a b) s = .next u ∧ u.hub = { s.hub with
      lock := .search, stepEnd := s.clock + 81920000, ceiling := s.hub.ceiling + 1, disagree := s.hub.disagree + 1 }) ∧
  (∀ (s : State) (a b : Nat),
    s.hub.lock = .lockWait →
    s.hub.stepEnd ≤ s.clock →
    a < 39200 ∨ 40800 < a ∨ b < 39200 ∨ 40800 < b →
    s.hub.disagree = 2 →
    ∃ u, exec (.lockWaitEnd a b) s = .next u ∧ u.hub = { s.hub with
      lock := .backoff, stepEnd := s.clock + 40960000000, ceiling := s.hub.ceiling + 1, disagree := 0 }) ∧
  (∀ (s : State),
    s.hub.lock = .backoff →
    s.hub.stepEnd ≤ s.clock →
    exec .ceilingBackoffEnd s = .next { s with hub := { s.hub with lock := .search, stepEnd := s.clock + 81920000 } }) ∧
  (∀ (s : State) (h : Holdover) (d : DT),
    s.hub.lock = .agreed →
    s.hub.dayLock = false →
    s.hub.ho = some h →
    reaches 524288 (h.fine (s.clock - 1)) (h.fine s.clock) = some d →
    ∃ u, exec .gateOpen s = .next u ∧ u.hub.gatesOpen = true ∧ u.hub.lock = .locked ∧ u.hub.hold = true ∧
      u.hub.openDt = d ∧ u.dt = d ∧ u.hub.ho = none ∧ u.dyn.st = s.dyn.st) ∧
  (∀ (s : State) (h : Holdover),
    s.hub.dayLock = false →
    s.hub.ho = some h →
    reaches 524288 (h.fine (s.clock - 1)) (h.fine s.clock) = none →
    exec .gateOpen s = .next s) ∧
  (∀ (s : State),
    s.hub.lock = .agreed →
    s.hub.dayLock = true →
    ∃ u, exec .gateOpen s = .next u ∧ u.hub.gatesOpen = true ∧ u.hub.lock = .locked ∧ u.hub.hold = true ∧
      u.hub.inDay = true ∧ u.hub.openDt = 0 ∧
      u.hub.dayLock = false ∧ u.dt = 0 ∧ u.dtRuns = true ∧ u.dyn.st = .day) ∧
  (∀ (s : State),
    s.hub.gatesOpen = true ∨ s.hub.lock = .lockWait ∨ s.hub.lock = .agreed →
    ∃ u, exec .phaseMonitorTrip s = .next u ∧ u.hub.gatesOpen = false ∧ (s.hub.gatesOpen = true → u.hub.hold = false) ∧ u.hub.lock = .settle ∧
      u.hub.stepEnd = s.clock + 81920000 ∧ u.hub.losses = s.hub.losses + 1 ∧ u.dt = s.dt) ∧
  (∀ (s : State) (w : Nat),
    s.hub.gatesOpen = true →
    w < 39200 ∨ 40800 < w →
    ∃ u, exec (.ceilingWindow w) s = .next u ∧ u.hub.gatesOpen = false ∧ u.hub.hold = false ∧ u.hub.lock = .settle ∧
      u.hub.stepEnd = s.clock + 81920000 ∧ u.hub.losses = s.hub.losses + 1 ∧ u.dt = s.dt) ∧
  (∀ (s : State) (w : Nat),
    39200 ≤ w ∧ w ≤ 40800 →
    exec (.ceilingWindow w) s = .next s) ∧
  (∀ (s : State),
    s.hub.sel ≠ 0 →
    s.hub.lock ≠ .off →
    ∃ u, exec .referenceLost s = .next u ∧ u.hub.sel = 0 ∧ u.hub.gatesOpen = false ∧ u.hub.lock = .settle ∧
      u.hub.stepEnd = s.clock + 81920000 ∧ u.hub.losses = s.hub.losses + 1 ∧ u.dt = s.dt) ∧
  (∀ (s : State) (w : Int),
    s.hub.wPend = some w →
    s.hub.gatesOpen = true →
    s.hub.wAt.all (fun t => t + 40960000 ≤ s.clock) = true →
    ∃ u, exec .dcoWordApply s = .next u ∧ u.hub.wAt = some s.clock ∧
      u.hub.w = (if w < s.hub.w - 50000 then s.hub.w - 50000 else if s.hub.w + 50000 < w then s.hub.w + 50000 else w) ∧
      u.hub.wPend = if u.hub.w = w then none else some w)

/-- A measurement is noted for its candidate; one of the source sets the error, the first after a selection only starts the
interval, and each later one adds its proportional term to the backlog, unless a step waits, and asks for its change of W,
unless an override holds W (R231, R241, R242, R245). The backlog goes down by 1 ft at a time, in cycles 1 ft longer or shorter
(R238, R244). The comparison counts the same winner's turns and changes the source when it has lost its eligibility or has
been beaten three times running; with none left Noon goes to holdover with the mean W (R243, R246). The count is distributed
while it runs (R239). PPSOUT rises at whole seconds, with EMITTED, and falls after its width, or stays low where it asks for
lock and there is none (R249); an edge of PPSIN is captured and, within a millisecond of the second, measured; a second
without one is MISSING (R248, R250). -/
def Obligations.NoonCompletes : Prop :=
  (∀ (s : State) (m : Meas) (r : List Meas),
    s.noon.inbox = m :: r →
    s.clocked = true →
    m.cand.val ≠ s.noon.src.toNat →
    ∃ u, exec .measurement s = .next u ∧ u.noon.inbox = r ∧ u.noon.err = s.noon.err ∧ u.noon.slew = s.noon.slew ∧
      (u.noon.cands.get m.cand).err = m.e ∧ (u.noon.cands.get m.cand).root = m.root ∧
        (u.noon.cands.get m.cand).hops = m.hops ∧
      (u.noon.cands.get m.cand).qual = m.qual ∧ (u.noon.cands.get m.cand).tai = m.tai ∧ u.hub = s.hub) ∧
  (∀ (s : State) (m : Meas) (r : List Meas),
    s.noon.inbox = m :: r →
    s.clocked = true →
    m.cand.val = s.noon.src.toNat →
    s.noon.first = true →
    ∃ u, exec .measurement s = .next u ∧ u.noon.inbox = r ∧ u.noon.err = clampI 2147483647 m.e ∧
      u.noon.first = false ∧
      u.noon.lastMeas = m.dt ∧ u.noon.slew = s.noon.slew ∧ u.hub = s.hub) ∧
  (∀ (s : State) (m : Meas) (r : List Meas),
    s.noon.inbox = m :: r →
    s.clocked = true →
    m.cand.val = s.noon.src.toNat →
    s.noon.first = false →
    ∃ u, exec .measurement s = .next u ∧ u.noon.inbox = r ∧ u.noon.err = clampI 2147483647 m.e ∧
      u.noon.lastMeas = m.dt ∧
      u.noon.good = (if m.e.natAbs ≤ fld (s.act 0x3010) 10 16 then s.noon.good + 1 else 0) ∧
      u.noon.slew = (if s.noon.stepWait then s.noon.slew
        else clampI 2147483647 (s.noon.slew + propTerm m.e (fld (s.act 0x3010) 0 4))) ∧
      u.hub.wPend = if bit (s.act 0x2008) 26 then s.hub.wPend
        else some (clampI 20000000 (s.hub.w + intTerm m.e (dtDiff m.dt s.noon.lastMeas) (fld (s.act 0x3010) 4 5)))) ∧
  (∀ (s : State) (n : Int),
    s.clocked = true →
    n = 1 ∧ 0 < s.noon.slew ∨ n = -1 ∧ s.noon.slew < 0 →
    s.hub.piStep = 0 →
    s.noon.slewStep.all (fun t => t + 262144 ≤ s.clock) = true →
    ∃ u, exec .phaseStep s = .next u ∧ u.noon.slew = s.noon.slew - n ∧ u.noon.slewStep = some s.clock ∧ u.hub.piStep = n ∧
      u.dt = s.dt) ∧
  (∀ (s : State),
    s.inDay = true →
    s.clocked = true →
    s.noon.cmpAt ≤ s.clock →
    s.bestSource.val = s.noon.src.toNat →
    exec .sourceComparison s = .next { s with noon := { s.noon with
      winner := BitVec.ofNat 4 s.bestSource.val, cmpAt := s.clock + 4096000000
      winRun := if s.noon.winner.toNat = s.bestSource.val then s.noon.winRun + 1 else 1 } }) ∧
  (∀ (s : State) (k : Fin 16),
    s.inDay = true →
    s.clocked = true →
    s.noon.cmpAt ≤ s.clock →
    s.bestSource = k ∧ k.val ≠ s.noon.src.toNat ∧ k.val ≠ 15 →
    s.noon.winner.toNat = k.val ∧ 2 ≤ s.noon.winRun ∨ s.eligible (Fin.ofNat 16 s.noon.src.toNat) = false →
    ∃ u, exec .sourceComparison s = .next u ∧ u.noon.src = BitVec.ofNat 4 k.val ∧ u.noon.first = true ∧
      u.noon.state = 1 ∧
      u.noon.good = 0 ∧ u.noon.bad = 0) ∧
  (∀ (s : State) (k : Fin 16),
    s.inDay = true →
    s.clocked = true →
    s.noon.cmpAt ≤ s.clock →
    s.bestSource = k ∧ k.val ≠ s.noon.src.toNat →
    s.eligible (Fin.ofNat 16 s.noon.src.toNat) = true →
    s.noon.winner.toNat ≠ k.val ∨ s.noon.winRun < 2 →
    ∃ u, exec .sourceComparison s = .next u ∧ u.noon.src = s.noon.src ∧ u.noon.state = s.noon.state ∧
      u.noon.winner = BitVec.ofNat 4 k.val) ∧
  (∀ (s : State),
    s.inDay = true →
    s.clocked = true →
    s.noon.cmpAt ≤ s.clock →
    s.bestSource = 15 ∧ s.noon.src ≠ 15 →
    s.eligible (Fin.ofNat 16 s.noon.src.toNat) = false →
    ∃ u, exec .sourceComparison s = .next u ∧ u.noon.src = 15 ∧ u.noon.state = 3 ∧ u.noon.good = 0 ∧ u.noon.bad = 0 ∧
      u.hub.wPend = if bit (s.act 0x2008) 26 then s.hub.wPend else some (clampI 20000000 s.meanW)) ∧
  (∀ (s : State),
    s.dtRuns = true →
    exec .dtDistribute s = .next { s with noon := { s.noon with distAt := s.count, distClock := s.clock } }) ∧
  (∀ (s : State),
    s.inDay = true →
    s.clocked = true →
    bit (s.act 0x3060) 0 = true ∧ (bit (s.act 0x3060) 1 = false ∨ s.noon.state = 2) →
    ((s.dt.toNat : Int) - signed 30 (fld (s.act 0x3064) 0 30) * 4096) % 4096000000000 = 0 →
    s.noon.ppsNext.toNat ≤ s.dt.toNat →
    ∃ u, exec .ppsoutPulse s = .next u ∧ u.noon.ppsOut = true ∧
      u.noon.ppsEnd = dtAdd s.dt (min 1000 (max 1 (fld (s.act 0x3060) 2 10)) * 4096000) ∧
        (s.evFull 226 = false → ⟨226, causeWord 1 0 0, s.dt, false⟩ ∈ u.occs)) ∧
  (∀ (s : State),
    s.inDay = true →
    s.clocked = true →
    bit (s.act 0x3060) 0 = true ∧ bit (s.act 0x3060) 1 = true ∧ s.noon.state ≠ 2 →
    ((s.dt.toNat : Int) - signed 30 (fld (s.act 0x3064) 0 30) * 4096) % 4096000000000 = 0 →
    s.noon.ppsNext.toNat ≤ s.dt.toNat →
    exec .ppsoutPulse s = .next (raise 226 2 0 0 s.dt { s with noon := { s.noon with ppsNext := s.dt + 1 } })) ∧
  (∀ (s : State),
    s.clocked = true →
    s.noon.ppsOut = true →
    s.noon.ppsEnd.toNat ≤ s.dt.toNat →
    exec .ppsoutPulseEnd s = .next { s with noon := { s.noon with ppsOut := false } }) ∧
  (∀ (s : State) (r : Bool),
    s.inDay = true →
    s.clocked = true →
    bit (s.act 0x3068) 0 = true ∧ bit (s.act 0x3068) 1 = !r →
    s.noon.ppsLast.all (fun p => (modSecond (dtDiff s.dt p)).natAbs ≤ 4096000000) = true →
    ∃ u, exec (.ppsinEdge r) s = .next u ∧ u.noon.ppsDt = s.dt ∧ u.noon.ppsSeen = s.clock ∧
      u.noon.ppsLast = some s.dt ∧
      u.noon.inbox = s.noon.inbox ++ [⟨0xA, modSecond (s.dt.toNat - signed 30 (fld (s.act 0x306C) 0 30) * 4096), s.dt, 0, 0,
        s.candQual 0xA, s.candTai 0xA⟩] ∧
        (s.evFull 224 = false → ⟨224, causeWord 1 0 0, s.dt, false⟩ ∈ u.occs)) ∧
  (∀ (s : State) (r : Bool) (p : DT),
    s.inDay = true →
    s.clocked = true →
    bit (s.act 0x3068) 0 = true ∧ bit (s.act 0x3068) 1 = !r →
    s.noon.ppsLast = some p →
    4096000000 < (modSecond (dtDiff s.dt p)).natAbs →
    ∃ u, exec (.ppsinEdge r) s = .next u ∧ u.noon.ppsDt = s.dt ∧ u.noon.ppsSeen = s.clock ∧
      u.noon.ppsLast = some p ∧ u.noon.inbox = s.noon.inbox ∧
        (s.evFull 224 = false → ⟨224, causeWord 1 0 0, s.dt, false⟩ ∈ u.occs)) ∧
  (∀ (s : State) (r : Bool),
    s.inDay = true →
    s.clocked = true →
    bit (s.act 0x3068) 0 = true ∧ bit (s.act 0x3068) 1 = r →
    exec (.ppsinEdge r) s = .next s) ∧
  (∀ (s : State),
    s.inDay = true →
    s.clocked = true →
    bit (s.act 0x3068) 0 = true →
    s.noon.ppsSeen + 4096000000000 < s.clock →
    exec .ppsinMissing s = .next (raise 225 1 0 0 s.dt { s with noon := { s.noon with
      ppsSeen := s.noon.ppsSeen + 4096000000000 } }))

/-- A step is pending from its request where its lead, no other step, the engines and, for a backward one, the queues allow it,
and is refused with the code of the first that does not (R252); in a stack the request also sets out for the coordinator
(R336). At DT_at it is refused where the checks made then fail, or where it was not confirmed; one of at most 1 us is slewed
(R251); a larger one moves the count by whole barrel rounds and leaves the rest as backlog, empties every axis (R253) and sets
EPOCH where it asked for it (R252). An automatic step that is refused, a step of the host pending among the causes, is
requested again after 1 ms for the error of that moment, and Noon gives it up where that error wants none (R254; the last is
the model's reading: log entry 79). -/
def Obligations.TimeStepsComplete : Prop :=
  (∀ (s : State),
    s.hostReach = true →
    s.stacked = false →
    s.noon.step = none →
    s.enginesIdle = true →
    ((dtAt s.imm 0x304C - dtAt s.imm 0x3040).toInt < 0 → s.queuesIdle = true) →
    (dtAdd (s.replica islNoon) 8192000).toNat ≤ (dtAt s.imm 0x3040).toNat →
    exec .stepRequest s = .next { s with noon := { s.noon with
      stepState := 1, stepCause := 0
      step := some ⟨dtAt s.imm 0x3040, (dtAt s.imm 0x304C - dtAt s.imm 0x3040).toInt, false, false, .alone, true⟩ } }) ∧
  (∀ (s : State),
    s.hostReach = true →
    s.stacked = true →
    s.noon.step = none →
    s.enginesIdle = true →
    ((dtAt s.imm 0x304C - dtAt s.imm 0x3040).toInt < 0 → s.queuesIdle = true) →
    (dtAdd (s.replica islNoon) (leadOf s.reach)).toNat ≤ (dtAt s.imm 0x3040).toNat →
    fits64 (dtAt s.imm 0x304C - dtAt s.imm 0x3040).toInt = true →
    exec .stepRequest s = .next (sendRequest true (dtAt s.imm 0x3040) s.commit.gen
      (stepD (dtAt s.imm 0x304C - dtAt s.imm 0x3040).toInt) { s with noon := { s.noon with
      stepState := 1, stepCause := 0
      step := some ⟨dtAt s.imm 0x3040, (dtAt s.imm 0x304C - dtAt s.imm 0x3040).toInt, false, false, s.reach, false⟩ } })) ∧
  (∀ (s : State),
    s.hostReach = true →
    (dtAt s.imm 0x3040).toNat < (dtAdd (s.replica islNoon) (leadOf s.reach)).toNat ∨ s.noon.step ≠ none ∨
    s.enginesIdle = false ∨ (dtAt s.imm 0x304C - dtAt s.imm 0x3040).toInt < 0 ∧ s.queuesIdle = false →
    ∃ u, exec .stepRequest s = .next u ∧ u.noon.step = s.noon.step ∧ u.noon.stepState = 3 ∧ u.dt = s.dt ∧
      u.noon.stepCause =
        (if (dtAt s.imm 0x3040).toNat < (dtAdd (s.replica islNoon) (leadOf s.reach)).toNat then 1
          else if s.noon.step ≠ none then 2 else if s.enginesIdle = false then 3 else 4)) ∧
  (∀ (s : State) (d : Int) (e : Bool) (x : DT),
    s.noon.autoStep = some (d, e) →
    s.clocked = true →
    s.noon.stepWait = false →
    s.noon.step = none →
    x = dtAddI s.dt (4096000000 - (s.clock - s.noon.autoAt : Nat)) →
    (dtAdd (s.replica islNoon) 8192000).toNat ≤ x.toNat →
    s.stacked = false →
    s.enginesIdle = true →
    (d < 0 → s.queuesIdle = true) →
    exec .autoStepRequest s = .next { s with noon := { s.noon with
      stepState := 1, stepCause := 0
      step := some ⟨x, d, e, true, .alone, true⟩ } }) ∧
  (∀ (s : State) (d : Int) (e : Bool) (q : StepReq) (x : DT),
    s.noon.autoStep = some (d, e) →
    s.clocked = true →
    s.noon.stepWait = false →
    s.noon.step = some q ∧ q.auto = false →
    x = dtAddI s.dt (4096000000 - (s.clock - s.noon.autoAt : Nat)) →
    (dtAdd (s.replica islNoon) (leadOf s.reach)).toNat ≤ x.toNat →
    ∃ u, exec .autoStepRequest s = .next u ∧ u.noon.step = some q ∧ u.noon.stepWait = true ∧
      u.noon.autoStep = some (d, e) ∧ u.noon.autoAt = s.clock + 4096000000 ∧ u.noon.stepState = s.noon.stepState) ∧
  (∀ (s : State) (d : Int) (e : Bool),
    s.noon.autoStep = some (d, e) →
    s.clocked = true →
    s.noon.stepWait = true →
    s.noon.step = none →
    s.noon.autoAt ≤ s.clock →
    s.srcCand.err < 0 →
    s.stacked = false →
    s.enginesIdle = true →
    s.dt.toNat + 4096000000 < 2 ^ 80 →
    exec .stepRetry s = .next { s with noon := { s.noon with
      stepState := 1, stepCause := 0
      step := some ⟨dtAdd s.dt 4096000000, -s.srcCand.err, e, true, .alone, true⟩ } }) ∧
  (∀ (s : State) (d : Int) (e : Bool),
    s.noon.autoStep = some (d, e) →
    s.clocked = true →
    s.noon.stepWait = true →
    s.autoPending = false →
    s.noon.autoAt ≤ s.clock →
    0 ≤ s.srcCand.err →
    exec .stepRetry s = .next { s with noon := { s.noon with autoStep := none, stepWait := false, waitSaid := false } }) ∧
  (∀ (s : State) (q : StepReq),
    s.noon.step = some q →
    s.dtRuns = true →
    s.due islNoon q.at_ = true →
    q.confirmed = true →
    s.stepDueCheck q.d = 0 →
    -4096000 ≤ q.d ∧ q.d ≤ 4096000 →
    ∃ u, exec .stepDue s = .next u ∧ u.noon.step = none ∧ u.noon.stepState = 2 ∧ u.dt = s.dt ∧
      u.noon.slew = clampI 2147483647 (s.noon.slew + q.d) ∧ u.noon.epoch = s.noon.epoch) ∧
  (∀ (s : State) (q : StepReq),
    s.noon.step = some q →
    s.dtRuns = true →
    s.due islNoon q.at_ = true →
    q.confirmed = true →
    s.stepDueCheck q.d = 0 →
    q.d < -4096000 ∨ 4096000 < q.d →
    ∃ u, exec .stepDue s = .next u ∧ u.noon.step = none ∧ u.noon.stepState = 2 ∧
      u.dt = s.dt + BitVec.ofInt 80 ((q.d + 262144) / 524288 * 524288) ∧
      u.noon.slew = clampI 2147483647 (s.noon.slew + (q.d - (q.d + 262144) / 524288 * 524288)) ∧
      u.noon.epoch = (s.noon.epoch || q.epoch || bit (s.immAt 0x3058) 1) ∧
      ∀ a, (u.axis a).segs = [] ∧ (u.axis a).dry = true) ∧
  (∀ (s : State) (q : StepReq),
    s.noon.step = some q →
    s.dtRuns = true →
    s.due islNoon q.at_ = true →
    s.stepDueCheck q.d ≠ 0 ∨ q.confirmed = false →
    ∃ u, exec .stepDue s = .next u ∧ u.noon.step = none ∧ u.noon.stepState = 3 ∧
      u.noon.stepCause = BitVec.ofNat 4 (if s.stepDueCheck q.d = 0 then 7 else s.stepDueCheck q.d) ∧
      u.dt = s.dt ∧ u.noon.slew = s.noon.slew ∧
      (q.auto = true → u.noon.stepWait = true ∧ u.noon.autoAt = s.clock + 4096000000))

/-- Outside Dawn, PORT_OFF and PORT_SIESTA stop the lane (R264), PORT_RUN takes an OFF port to LISTEN and lets a port in SIESTA
wake, which ends in LISTEN 2.5 ms later (R264, R265); in Dawn a write of CP_PWR.MODE changes the field alone. Block lock is
noted, a host lane that is switched off gaining none (R261, R300), its loss counted, and a port above LISTEN goes back there
with BLOCK, while the Pair lane goes down (R261, R268, R342); a lock held for 1 ms ends LISTEN in DISCOVERY (R268), and 50 ms
at a rate without one goes to the other rate where both are left (R269), a rate that a re-step settled being excluded (R277). -/
def Obligations.PortStatesComplete : Prop :=
  (∀ (s : State) (c : PortId),
    s.hostReach = true →
    s.dyn.st ≠ .dawn →
    ∃ u, exec (.portOff c) s = .next u ∧ (u.port c).st = 0 ∧ (u.port c).mode = 0 ∧ (u.port c).rate = 0 ∧
      (u.port c).block = false ∧ (u.port c).peer = 0 ∧ (u.port c).modeR = none ∧ (u.port c).est.valid = false ∧
        ((s.port c).st ≠ 0 → s.evFull (185 + 3 * c.val) = false →
        ⟨Fin.ofNat 256 (185 + 3 * c.val), causeWord 0 0 0, s.now, s.outage⟩ ∈ u.occs)) ∧
  (∀ (s : State) (c : PortId),
    s.hostReach = true →
    s.dyn.st ≠ .dawn →
    ∃ u, exec (.portSiesta c) s = .next u ∧ (u.port c).st = 1 ∧ (u.port c).mode = 2 ∧ (u.port c).rate = 0 ∧
      (u.port c).block = false ∧ (u.port c).peer = 0 ∧ (u.port c).modeR = none ∧ (u.port c).est.valid = false ∧
        ((s.port c).st ≠ 1 → s.evFull (185 + 3 * c.val) = false →
        ⟨Fin.ofNat 256 (185 + 3 * c.val), causeWord 1 0 0, s.now, s.outage⟩ ∈ u.occs)) ∧
  (∀ (s : State) (c : PortId),
    s.hostReach = true →
    s.dyn.st = .dawn →
    exec (.portOff c) s = .next (s.setPort c { s.port c with mode := 0 }) ∧
      exec (.portRun c) s = .next (s.setPort c { s.port c with mode := 1 }) ∧
      exec (.portSiesta c) s = .next (s.setPort c { s.port c with mode := 2 })) ∧
  (∀ (s : State) (c : PortId),
    s.hostReach = true →
    s.dyn.st ≠ .dawn →
    (s.port c).st = 0 ∧ (s.port c).loopb = 0 ∧ (s.port c).gen = false ∧ (s.port c).chk = false →
    ∃ u, exec (.portRun c) s = .next u ∧ (u.port c).st = 2 ∧ (u.port c).mode = 1 ∧ (u.port c).excl = 0 ∧
      (u.port c).rate = BitVec.ofNat 2 (firstRate (ratesOf (s.cpCfg c))) ∧ (u.port c).rateFrom = s.clock ∧
        (u.port c).peer = 0 ∧ (u.port c).modeR = none ∧ (u.port c).est.valid = false ∧
        (s.evFull (185 + 3 * c.val) = false →
        ⟨Fin.ofNat 256 (185 + 3 * c.val), causeWord 2 6 0, s.now, s.outage⟩ ∈ u.occs)) ∧
  (∀ (s : State) (c : PortId),
    s.hostReach = true →
    s.dyn.st ≠ .dawn →
    (s.port c).st = 1 →
    exec (.portRun c) s = .next (s.setPort c { s.port c with
      mode := 1, wakeAt := some ((s.port c).wakeAt.getD (s.clock + 10240000000)) })) ∧
  (∀ (s : State) (c : PortId),
    s.hostReach = true →
    s.dyn.st ≠ .dawn →
    2 ≤ (s.port c).st.toNat →
    exec (.portRun c) s = .next (s.setPort c { s.port c with mode := 1 })) ∧
  (∀ (s : State) (c : PortId) (t : Nat),
    (s.port c).wakeAt = some t →
    (s.port c).st = 1 ∧ (s.port c).loopb = 0 →
    t ≤ s.clock →
    ∃ u, exec (.siestaWakeEnd c) s = .next u ∧ (u.port c).st = 2 ∧ (u.port c).wakeAt = none ∧
      (u.port c).rateFrom = s.clock ∧
      (u.port c).peer = 0 ∧ (u.port c).modeR = none ∧ (u.port c).est.valid = false ∧
        (s.evFull (185 + 3 * c.val) = false →
        ⟨Fin.ofNat 256 (185 + 3 * c.val), causeWord 2 6 0, s.now, s.outage⟩ ∈ u.occs)) ∧
  (∀ (s : State) (c : PortId),
    s.pcieUp = true →
    2 ≤ (s.port c).st.toNat →
    exec (.blockLockGained (.line c)) s = .next (s.setPort c { s.port c with
      block := true, lockFrom := if (s.port c).block then (s.port c).lockFrom else some s.clock })) ∧
  (∀ (s : State) (c : PortId),
    s.pcieUp = true →
    s.hrate c ≠ 0 →
    ∃ u, exec (.blockLockGained (.host c)) s = .next u ∧ u.fw.hblock.get c = true ∧
      (s.evFull 214 = false → ⟨214, causeWord 1 c.val 0, s.now, s.outage⟩ ∈ u.occs)) ∧
  (∀ (s : State) (c : PortId),
    s.hrate c = 0 →
    exec (.blockLockGained (.host c)) s = .next s) ∧
  (∀ (s : State),
    s.pcieUp = true →
    exec (.blockLockGained .pair) s = .next { s with pair := { s.pair with
      block := true, lockFrom := if s.pair.block then s.pair.lockFrom else some s.clock } }) ∧
  (∀ (s : State) (c : PortId),
    s.pcieUp = true →
    3 ≤ (s.port c).st.toNat ∧ (s.port c).st.toNat ≤ 6 →
    (s.port c).block = true ∧ (s.port c).loopb = 0 →
    ∃ u, exec (.blockLockLost (.line c)) s = .next u ∧ (u.port c).st = 2 ∧ (u.port c).block = false ∧
      (u.port c).cnt.blockLoss = (s.port c).cnt.blockLoss + 1 ∧ (u.port c).peer = 0 ∧ (u.port c).modeR = none ∧
        (u.port c).est.valid = false ∧ (s.evFull (185 + 3 * c.val) = false →
        ⟨Fin.ofNat 256 (185 + 3 * c.val), causeWord 2 1 0, s.now, s.outage⟩ ∈ u.occs)) ∧
  (∀ (s : State) (c : PortId),
    s.pcieUp = true →
    (s.port c).st = 2 ∨ (s.port c).st = 7 →
    (s.port c).block = true →
    ∃ u, exec (.blockLockLost (.line c)) s = .next u ∧ (u.port c).st = (s.port c).st ∧ (u.port c).block = false ∧
      (u.port c).lockFrom = none ∧ (u.port c).cnt.blockLoss = (s.port c).cnt.blockLoss + 1) ∧
  (∀ (s : State) (c : PortId),
    s.pcieUp = true →
    ∃ u, exec (.blockLockLost (.host c)) s = .next u ∧ u.fw.hblock.get c = false ∧
      (s.evFull 214 = false → ⟨214, causeWord 2 c.val 0, s.now, s.outage⟩ ∈ u.occs)) ∧
  (∀ (s : State),
    s.pcieUp = true →
    ∃ u, exec (.blockLockLost .pair) s = .next u ∧
      u.pair = { s.pair with lane := false, block := false, lockFrom := none, posOk := false } ∧
      (s.pair.lane = true → s.evFull 241 = false → ⟨241, causeWord 2 0 0, s.now, s.outage⟩ ∈ u.occs)) ∧
  (∀ (s : State) (c : PortId) (t : Nat),
    (s.port c).st = 2 ∧ (s.port c).block = true ∧ (s.port c).prbsHeld = false →
    (s.port c).lockFrom = some t →
    t + 4096000000 ≤ s.clock →
    ∃ u, exec (.listenLockHeld c) s = .next u ∧ (u.port c).st = 3 ∧ (u.port c).bellAt = s.clock ∧
      (u.port c).settled = 0 ∧ (u.port c).own = (s.port c).rate ∧ (s.evFull (185 + 3 * c.val) = false →
        ⟨Fin.ofNat 256 (185 + 3 * c.val), causeWord 3 0 0, s.now, s.outage⟩ ∈ u.occs)) ∧
  (∀ (s : State) (c : PortId),
    (s.port c).st = 2 ∧ (s.port c).block = false ∧ (s.port c).prbsHeld = false →
    (s.port c).rateFrom + 204800000000 ≤ s.clock →
    (s.port c).settled = 0 →
    s.ratesLeft c = 3 →
    (s.port c).rate = 1 ∨ (s.port c).rate = 2 →
    exec (.rateStep c) s = .next (s.setPort c { s.port c with
      rate := if (s.port c).rate = 1 then 2 else 1, rateFrom := s.clock })) ∧
  (∀ (s : State) (c : PortId),
    (s.port c).st = 2 ∧ (s.port c).block = false ∧ (s.port c).prbsHeld = false →
    (s.port c).rateFrom + 204800000000 ≤ s.clock →
    (s.port c).settled = 0 →
    s.ratesLeft c ≠ 3 →
    exec (.rateStep c) s = .next (s.setPort c { s.port c with
      rate := BitVec.ofNat 2 (firstRate (s.ratesLeft c)), rateFrom := s.clock })) ∧
  (∀ (s : State) (c : PortId),
    (s.port c).st = 2 ∧ (s.port c).block = false ∧ (s.port c).prbsHeld = false →
    (s.port c).rateFrom + 204800000000 ≤ s.clock →
    (s.port c).settled = 2 →
    ratesOf (s.cpCfg c) = 3 ∧ (s.port c).excl = 0 →
    ∃ u, exec (.rateStep c) s = .next u ∧
      u.port c = { s.port c with rate := 1, settled := 0, excl := 2, rateFrom := s.clock })

/-- A due Bell leaves, at once where the lane is free, and the next is due 1 ms or 100 ms later (R270, R287). In DISCOVERY a
Bell names the identity heard, one that names this module begins NEGOTIATE, and one that carries this module's own identity is
SELF (R270); an end without Bells for three intervals and 0.5 ms, or with those of another, is gone with PARTNER (R271).
Offers leave every 10 ms in NEGOTIATE and every 1 s in MISMATCH (R274, R278); a partner's Offer is answered with an Accept
where there is a common mode, and with a Reject and MISMATCH where not (R275, R276, R278), and a new one leads back to NEGOTIATE
from UP and, with a common mode, from MISMATCH (R278, R279). Where both Accepts agree the port is UP; an Accept that comes
before the mode is settled is kept for it, one that disagrees is counted and the Offer goes out anew, and one that names an
old Offer is ignored (R276); one second in NEGOTIATE is TIMEOUT (R268), and a re-step takes the port to LISTEN at the settled
rate 1 ms on (R277). In LISTEN these frames change no state; a malformed one is counted and raised (R272). -/
def Obligations.PortDiscoveryCompletes : Prop :=
  (∀ (s : State) (c : PortId) (slow : Bool),
    3 ≤ (s.port c).st.toNat ∧ (s.port c).st.toNat ≤ 6 →
    (s.port c).bellAt ≤ s.clock →
    s.laneBusy c = false ∧ (s.port c).waiting = [] →
    slow = ((s.port c).st == 6 || (s.port c).st == 3 && (s.port c).lastBell + 40960000000000 ≤ s.clock) →
    ∃ u, exec (.bellTimer c) s = .next u ∧ (u.port c).cnt.bellTx = (s.port c).cnt.bellTx + 1 ∧
      (u.port c).txq = (s.port c).txq ++ [(s.now, ethFrame (s.portMac c) 0x88B5 (pduOf s c 1 0 (leOctets 8 (s.port c).heard.toNat ++
        [BitVec.ofNat 8 c.val, if slow then 0x64 else 1, BitVec.ofNat 8 (s.stoker.pos.toNat + 16 * b1 s.pair.side),
          BitVec.ofNat 8 (ratesOf (s.cpCfg c))] ++ List.replicate 4 0)))] ∧
      (u.port c).st = (s.port c).st ∧
      (u.port c).bellAt = s.clock + (if slow then 409600000000 else 4096000000)) ∧
  (∀ (s : State) (c : PortId),
    3 ≤ (s.port c).st.toNat ∧ (s.port c).st.toNat ≤ 6 →
    (s.port c).bellAt ≤ s.clock →
    s.laneBusy c = true →
    ∃ u, exec (.bellTimer c) s = .next u ∧ (u.port c).txq = (s.port c).txq ∧
      (u.port c).waiting.length = (s.port c).waiting.length + 1 ∧ (u.port c).waiting.getLast?.map (·.1) = some 1 ∧
      (u.port c).cnt = (s.port c).cnt) ∧
  (∀ (s : State) (c : PortId) (b : Octets),
    (s.port c).st = 3 →
    bellOk b = true →
    pduId b ≠ s.ident.toNat →
    leAt b 0x10 8 ≠ s.ident.toNat →
    ∃ u, exec (.bell c b) s = .next u ∧ (u.port c).st = 3 ∧ (u.port c).heard = BitVec.ofNat 64 (pduId b) ∧
      (u.port c).cnt.bellRx = (s.port c).cnt.bellRx + 1 ∧ (u.port c).lastBell = s.clock ∧
        (u.port c).peerIvl = leAt b 0x19 1) ∧
  (∀ (s : State) (c : PortId) (b : Octets),
    (s.port c).st = 3 →
    bellOk b = true →
    pduId b ≠ s.ident.toNat →
    leAt b 0x10 8 = s.ident.toNat →
    ∃ u, exec (.bell c b) s = .next u ∧ (u.port c).st = 4 ∧ (u.port c).peer = BitVec.ofNat 64 (pduId b) ∧
      (u.port c).answered = true ∧ (u.port c).offerId = (s.port c).offerId + 1 ∧ (u.port c).negFrom = s.clock ∧
      (u.port c).offerAt = s.clock + 40960000000 ∧
        (bit (s.cpCfg c) 14 = false → s.evFull (185 + 3 * c.val) = false →
        ⟨Fin.ofNat 256 (185 + 3 * c.val), causeWord 4 0 0, s.now, s.outage⟩ ∈ u.occs)) ∧
  (∀ (s : State) (c : PortId) (b : Octets),
    (s.port c).st = 3 →
    bellOk b = true →
    pduId b = s.ident.toNat →
    ∃ u, exec (.bell c b) s = .next u ∧ (u.port c).st = 3 ∧ (u.port c).heard = (s.port c).heard ∧
      (u.port c).selfSaid = true ∧ ((s.port c).selfSaid = false →
        (bit (s.cpCfg c) 14 = false → s.evFull (186 + 3 * c.val) = false →
        ⟨Fin.ofNat 256 (186 + 3 * c.val), causeWord 5 0 0, s.now, s.outage⟩ ∈ u.occs))) ∧
  (∀ (s : State) (c : PortId) (b : Octets),
    4 ≤ (s.port c).st.toNat ∧ (s.port c).st.toNat ≤ 6 →
    bellOk b = true →
    pduId b = (s.port c).peer.toNat →
    bit (s.cpCfg c) 14 = false →
    exec (.bell c b) s = .next (s.setPort c { s.port c with
      lastBell := s.clock, peerIvl := leAt b 0x19 1, heard := (s.port c).peer
      cnt := { (s.port c).cnt with bellRx := (s.port c).cnt.bellRx + 1 } })) ∧
  (∀ (s : State) (c : PortId) (b : Octets),
    4 ≤ (s.port c).st.toNat ∧ (s.port c).st.toNat ≤ 6 →
    bellOk b = true →
    pduId b ≠ (s.port c).peer.toNat →
    (s.port c).loopb = 0 →
    ∃ u, exec (.bell c b) s = .next u ∧ (u.port c).st = 2 ∧ (u.port c).peer = 0 ∧ (u.port c).modeR = none ∧
      (u.port c).cnt.bellRx = (s.port c).cnt.bellRx + 1 ∧
      (bit (s.cpCfg c) 14 = false → s.evFull (185 + 3 * c.val) = false →
        ⟨Fin.ofNat 256 (185 + 3 * c.val), causeWord 2 2 0, s.now, s.outage⟩ ∈ u.occs)) ∧
  (∀ (s : State) (c : PortId) (b : Octets),
    (s.port c).st = 2 ∧ (s.port c).block = true →
    (bellOk b = true → exec (.bell c b) s = .next (mirror c b s.now (s.setPort c { s.port c with
          cnt := { (s.port c).cnt with bellRx := (s.port c).cnt.bellRx + 1 } }))) ∧
      (offerOk b = true → exec (.offer c b) s = .next (mirror c b s.now s)) ∧
      (acceptOk b = true → exec (.accept c b) s = .next (mirror c b s.now s))) ∧
  (∀ (s : State) (c : PortId) (b : Octets),
    (s.port c).hears = true →
    (badPdu c s).port c = { s.port c with cnt := { (s.port c).cnt with badFrame := (s.port c).cnt.badFrame + 1 } } ∧
      (s.evFull (184 + 3 * c.val) = false →
        ⟨Fin.ofNat 256 (184 + 3 * c.val), causeWord 4 0 0, s.now, s.outage⟩ ∈ (badPdu c s).occs) ∧
      (bellOk b = false → exec (.bell c b) s = .next (badPdu c s)) ∧
      (offerOk b = false → exec (.offer c b) s = .next (badPdu c s)) ∧
      (acceptOk b = false → exec (.accept c b) s = .next (badPdu c s)) ∧
      (headOk b 4 24 0 = false ∨ leAt b 0x14 1 = 0 ∨ 3 < leAt b 0x14 1 → exec (.reject c b) s = .next (badPdu c s))) ∧
  (∀ (s : State) (c : PortId),
    3 ≤ (s.port c).st.toNat ∧ (s.port c).st.toNat ≤ 6 →
    (s.port c).answered = true ∧ (s.port c).loopb = 0 →
    (s.port c).lastBell + 3 * (s.port c).peerIvl * 4096000000 + 2048000000 ≤ s.clock →
    ∃ u, exec (.partnerGone c) s = .next u ∧ (u.port c).st = 2 ∧ (u.port c).peer = 0 ∧ (u.port c).modeR = none ∧
      (u.port c).est.valid = false ∧ (s.evFull (185 + 3 * c.val) = false →
        ⟨Fin.ofNat 256 (185 + 3 * c.val), causeWord 2 2 0, s.now, s.outage⟩ ∈ u.occs)) ∧
  (∀ (s : State) (c : PortId),
    (s.port c).st = 4 →
    (s.port c).offerAt ≤ s.clock →
    s.laneBusy c = false ∧ (s.port c).waiting = [] →
    ∃ u, exec (.offerTimer c) s = .next u ∧ (u.port c).txq = (s.port c).txq ++
        [(s.now, ethFrame (s.portMac c) 0x88B5 (pduOf s c 2 0 (offerBody (s.ownOffer c))))] ∧ (u.port c).st = 4 ∧
      (u.port c).offerAt = s.clock + 40960000000 ∧ (u.port c).offerId = (s.port c).offerId) ∧
  (∀ (s : State) (c : PortId),
    (s.port c).st = 6 →
    (s.port c).offerAt ≤ s.clock →
    (match s.outcome c with | some (.inr _) => false | _ => true) = true →
    s.laneBusy c = false ∧ (s.port c).waiting = [] →
    ∃ u, exec (.offerTimer c) s = .next u ∧ (u.port c).txq = (s.port c).txq ++
        [(s.now, ethFrame (s.portMac c) 0x88B5 (pduOf s c 2 0 (offerBody (s.ownOffer c))))] ∧ (u.port c).st = 6 ∧
      (u.port c).offerAt = s.clock + 4096000000000) ∧
  (∀ (s : State) (c : PortId) (m : ModeRec),
    (s.port c).st = 6 →
    (s.port c).offerAt ≤ s.clock →
    s.outcome c = some (.inr m) →
    ∃ u, exec (.offerTimer c) s = .next u ∧ (u.port c).st = 4 ∧ (u.port c).offerId = (s.port c).offerId + 1 ∧
      (u.port c).negFrom = s.clock) ∧
  (∀ (s : State) (c : PortId) (b : Octets) (m : ModeRec),
    (s.port c).st = 4 →
    offerOk b = true →
    settleMode s c (s.ownOffer c) (offerRec b) = .inr m →
    (s.port c).accRecv = none →
    s.laneBusy c = false ∧ (s.port c).waiting = [] →
    ∃ u, exec (.offer c b) s = .next u ∧ (u.port c).st = 4 ∧ (u.port c).modeR = some m ∧
      (u.port c).accSent = some (offerRec b).offerId ∧ (u.port c).peerOffer = some (offerRec b) ∧
      (u.port c).txq = (s.port c).txq ++ [(s.now, ethFrame (s.portMac c) 0x88B5
        (pduOf s c 3 0 (acceptBody (offerRec b).offerId (s.port c).offerId m)))]) ∧
  (∀ (s : State) (c : PortId) (b : Octets) (m : ModeRec) (a : Octets) (k : Bool),
    (s.port c).st = 4 →
    offerOk b = true →
    settleMode s c (s.ownOffer c) (offerRec b) = .inr m →
    (s.port c).accRecv = some (a, k) →
    agrees a m = true ∧ m.restep = false →
    ∃ u, exec (.offer c b) s = .next u ∧ (u.port c).st = 5 ∧ (u.port c).modeR = some m ∧
      (u.port c).accSent = some (offerRec b).offerId ∧ (u.port c).stampAt = s.clock) ∧
  (∀ (s : State) (c : PortId) (b : Octets) (k : Nat),
    (s.port c).st = 4 →
    offerOk b = true →
    settleMode s c (s.ownOffer c) (offerRec b) = .inl k →
    s.laneBusy c = false ∧ (s.port c).waiting = [] →
    ∃ u, exec (.offer c b) s = .next u ∧ (u.port c).st = 6 ∧ (u.port c).modeR = none ∧ (u.port c).accSent = none ∧
      (u.port c).peerOffer = some (offerRec b) ∧ (u.port c).offerAt = s.clock + 4096000000000 ∧
      (u.port c).txq = (s.port c).txq ++ [(s.now, ethFrame (s.portMac c) 0x88B5
        (pduOf s c 4 0 (leOctets 4 (offerRec b).offerId.toNat ++ [BitVec.ofNat 8 k, 0, 0, 0])))] ∧
      (bit (s.cpCfg c) 14 = false → s.evFull (185 + 3 * c.val) = false →
        ⟨Fin.ofNat 256 (185 + 3 * c.val), causeWord 6 0 0, s.now, s.outage⟩ ∈ u.occs)) ∧
  (∀ (s : State) (c : PortId) (b : Octets) (m : ModeRec),
    (s.port c).st = 3 →
    offerOk b = true →
    pduId b ≠ s.ident.toNat →
    settleMode (s.setPort c { s.port c with peer := BitVec.ofNat 64 (pduId b) }) c (s.ownOffer c) (offerRec b) = .inr m →
    ∃ u, exec (.offer c b) s = .next u ∧ (u.port c).st = 4 ∧ (u.port c).peer = BitVec.ofNat 64 (pduId b) ∧
      (u.port c).answered = true ∧ (u.port c).peerOffer = some (offerRec b) ∧ (u.port c).modeR = some m ∧
      (u.port c).accSent = some (offerRec b).offerId ∧ (u.port c).offerId = (s.port c).offerId + 1) ∧
  (∀ (s : State) (c : PortId) (b : Octets) (m : ModeRec),
    (s.port c).st = 5 →
    offerOk b = true →
    (s.port c).accSent ≠ some (offerRec b).offerId →
    settleMode s c (s.ownOffer c) (offerRec b) = .inr m →
    ∃ u, exec (.offer c b) s = .next u ∧ (u.port c).st = 4 ∧ (u.port c).est.frozen = true ∧
      (u.port c).peerOffer = some (offerRec b) ∧ (u.port c).modeR = some m ∧
      (u.port c).accSent = some (offerRec b).offerId ∧ (u.port c).offerId = (s.port c).offerId + 1) ∧
  (∀ (s : State) (c : PortId) (b : Octets) (m : ModeRec),
    (s.port c).st = 6 →
    offerOk b = true →
    settleMode s c (s.ownOffer c) (offerRec b) = .inr m →
    ∃ u, exec (.offer c b) s = .next u ∧ (u.port c).st = 4 ∧ (u.port c).peerOffer = some (offerRec b) ∧
      (u.port c).modeR = some m ∧ (u.port c).accSent = some (offerRec b).offerId ∧
      (u.port c).offerId = (s.port c).offerId + 1) ∧
  (∀ (s : State) (c : PortId) (b : Octets) (m : ModeRec) (o : OfferRec),
    (s.port c).st = 4 →
    acceptOk b = true →
    (s.port c).modeR = some m ∧ m.restep = false →
    (s.port c).peerOffer = some o ∧ (s.port c).accSent = some o.offerId →
    leAt b 0x10 4 = (s.port c).offerId.toNat →
    agrees b m = true →
    ∃ u, exec (.accept c b) s = .next u ∧ (u.port c).st = 5 ∧ (u.port c).accRecv = some (b, true) ∧
      (u.port c).stampAt = s.clock ∧
      (u.port c).est.valid = false ∧ (u.port c).modeR = some m ∧
        (bit (s.cpCfg c) 14 = false → s.evFull (185 + 3 * c.val) = false →
        ⟨Fin.ofNat 256 (185 + 3 * c.val), causeWord 5 0 0, s.now, s.outage⟩ ∈ u.occs)) ∧
  (∀ (s : State) (c : PortId) (b : Octets) (m : ModeRec),
    (s.port c).st = 4 →
    acceptOk b = true →
    (s.port c).modeR = some m →
    leAt b 0x10 4 = (s.port c).offerId.toNat →
    agrees b m = false →
    ∃ u, exec (.accept c b) s = .next u ∧ (u.port c).st = 4 ∧ (u.port c).offerId = (s.port c).offerId + 1 ∧
      (u.port c).cnt.badFrame = (s.port c).cnt.badFrame + 1 ∧ (u.port c).accRecv = none ∧
      (u.port c).offerAt = s.clock + 40960000000) ∧
  (∀ (s : State) (c : PortId) (b : Octets),
    (s.port c).st = 4 →
    acceptOk b = true →
    (s.port c).modeR = none →
    leAt b 0x10 4 = (s.port c).offerId.toNat →
    ∃ u, exec (.accept c b) s = .next u ∧ (u.port c).st = 4 ∧ (u.port c).offerId = (s.port c).offerId ∧
      (u.port c).accRecv = some (b, false)) ∧
  (∀ (s : State) (c : PortId) (b : Octets),
    3 ≤ (s.port c).st.toNat ∧ (s.port c).st.toNat ≤ 6 →
    acceptOk b = true →
    (s.port c).st ≠ 4 ∨ leAt b 0x10 4 ≠ (s.port c).offerId.toNat →
    exec (.accept c b) s = .next (mirror c b s.now s)) ∧
  (∀ (s : State) (c : PortId) (b : Octets),
    (s.port c).hears = true →
    headOk b 4 24 0 = true ∧ 1 ≤ leAt b 0x14 1 ∧ leAt b 0x14 1 ≤ 3 ∧ zeros b 0x15 3 = true →
    exec (.reject c b) s = .next (mirror c b s.now s)) ∧
  (∀ (s : State) (c : PortId) (b : Octets),
    bit (s.cpCfg c) 14 = false →
    mirror c b s.now s = s) ∧
  (∀ (s : State) (c : PortId) (b : Octets),
    bit (s.cpCfg c) 14 = true →
    s.ringTakes (portRing c) true 256 = true →
    mirror c b s.now s = { s with outbox := s.outbox ++ [⟨portRing c, true, none, true, ringEntry 1 s.now (b.take 224)⟩] }) ∧
  (∀ (s : State) (c : PortId),
    (s.port c).st = 4 ∧ (s.port c).loopb = 0 →
    (s.port c).negFrom + 4096000000000 ≤ s.clock →
    ∃ u, exec (.negotiateTimeout c) s = .next u ∧ (u.port c).st = 2 ∧ (u.port c).peer = 0 ∧
      (u.port c).modeR = none ∧ (u.port c).est.valid = false ∧
      (s.evFull (185 + 3 * c.val) = false →
        ⟨Fin.ofNat 256 (185 + 3 * c.val), causeWord 2 3 0, s.now, s.outage⟩ ∈ u.occs)) ∧
  (∀ (s : State) (c : PortId) (t : Nat) (m : ModeRec),
    (s.port c).st = 4 ∧ (s.port c).loopb = 0 →
    (s.port c).restepAt = some t ∧ (s.port c).modeR = some m →
    t ≤ s.clock →
    m.rate ≠ 0 →
    ∃ u, exec (.restepTimer c) s = .next u ∧ (u.port c).st = 2 ∧ (u.port c).rate = m.rate ∧
      (u.port c).settled = m.rate ∧
      (u.port c).peer = 0 ∧ (u.port c).modeR = none ∧ (u.port c).est.valid = false ∧
        (s.evFull (185 + 3 * c.val) = false →
        ⟨Fin.ofNat 256 (185 + 3 * c.val), causeWord 2 4 0, s.now, s.outage⟩ ∈ u.occs))

/-- A Stamp leaves at its interval, at once where the lane is free, and its instant is kept for the exchange (R280, R287); a
received one is kept with its instants, and where it answers one of the port's the exchange is used, or counted as bad where it
is stale, coarse or outside the gate (R281, R283, R285); a Sync message is a Stamp in the IEEE 1588 form (R293). A Trigger frame
that the mode grants goes to Pacer's mailboxes (R288), an Axis frame's records to Crank (R290), and a Host frame to the receive
ring, or is dropped and counted where that does not take it (R291); one without its grant is raised, one out of its place or
form is BADFRAME (R272), and a port that does not hear takes none. 10 ms without a used exchange freezes the estimators (R284).
An entry of the transmit ring leaves as a frame, or is RINGBAD, and waits while the port's channel is full (R291). A test loop
takes a running port to LOOP, and its end back to LISTEN (R294); GEN and CHECK hold a port without a loop in LISTEN, and CHECK
counts bit errors (R295). -/
def Obligations.PortTrafficCompletes : Prop :=
  (∀ (s : State) (c : PortId),
    (s.port c).st = 5 →
    (s.port c).stampAt ≤ s.clock →
    s.laneBusy c = false ∧ (s.port c).waiting = [] →
    ∃ u, exec (.stampTimer c) s = .next u ∧ (u.port c).cnt.stampTx = (s.port c).cnt.stampTx + 1 ∧
      (u.port c).txq = (s.port c).txq ++ [(s.now, (stampFrame s c).1)] ∧
      (u.port c).est.sent.head? = some ((s.port c).seqs.get 5, truncDt (s.port c).res s.now, s.outage) ∧
      (u.port c).stampAt = s.clock + 4096000000 / 2 ^ fld (s.cpCfg c) 12 2) ∧
  (∀ (s : State) (c : PortId),
    (s.port c).st = 5 →
    (s.port c).stampAt ≤ s.clock →
    s.laneBusy c = true →
    exec (.stampTimer c) s = .next (s.setPort c { s.port c with
      waiting := (s.port c).waiting ++ [(5, [])], stampAt := s.clock + 4096000000 / 2 ^ fld (s.cpCfg c) 12 2 })) ∧
  (∀ (s : State) (c : PortId) (b : Octets),
    (s.port c).st = 5 →
    stampOk b = true →
    (s.port c).est.sent.find? (fun e => e.1.toNat == leAt b 0x1A 2 &&
    (bit (s.cpCfg c) 11 || e.2.1 == BitVec.ofNat 80 (leAt b 0x1C 10))) = none ∨ (pduFlags b).testBit 2 = false →
    ∃ u, exec (.stamp c false b) s = .next u ∧ (u.port c).cnt.stampRx = (s.port c).cnt.stampRx + 1 ∧
      (u.port c).est = { (s.port c).est with got := some (BitVec.ofNat 16 (pduSeq b), BitVec.ofNat 80 (leAt b 0x10 10), truncDt (s.port c).res s.now, s.outage) } ∧
      (u.port c).proot = BitVec.ofNat 64 (leAt b 0x30 8) ∧ (u.port c).phops = BitVec.ofNat 8 (leAt b 0x38 1) ∧
      (u.port c).pqual = BitVec.ofNat 8 (leAt b 0x39 1) ∧ (u.port c).cnt.exchBad = (s.port c).cnt.exchBad ∧ u.noon = s.noon) ∧
  (∀ (s : State) (c : PortId) (b : Octets) (e : BitVec 16 × DT × Bool),
    (s.port c).st = 5 →
    stampOk b = true →
    (s.port c).est.sent.find? (fun e => e.1.toNat == leAt b 0x1A 2 &&
    (bit (s.cpCfg c) 11 || e.2.1 == BitVec.ofNat 80 (leAt b 0x1C 10))) = some e →
    (pduFlags b).testBit 2 = true →
    65536000000 < dtDiff (truncDt (s.port c).res s.now) (BitVec.ofNat 80 (leAt b 0x1C 10)) ∨ e.2.2 = true ∨
    (pduFlags b).testBit 1 = true ∨ (pduFlags b).testBit 3 = true ∨ s.outage = true →
    ∃ u, exec (.stamp c false b) s = .next u ∧ (u.port c).cnt.stampRx = (s.port c).cnt.stampRx + 1 ∧
      (u.port c).cnt.exchBad = (s.port c).cnt.exchBad + 1 ∧ (u.port c).cnt.exch = (s.port c).cnt.exch ∧
      (u.port c).est = { (s.port c).est with got := some (BitVec.ofNat 16 (pduSeq b), BitVec.ofNat 80 (leAt b 0x10 10), truncDt (s.port c).res s.now, s.outage) } ∧ u.noon = s.noon) ∧
  (∀ (s : State) (c : PortId) (b : Octets) (e : BitVec 16 × DT × Bool) (x : Exch) (n : Estim) (k : Bool),
    (s.port c).st = 5 →
    stampOk b = true →
    (s.port c).est.sent.find? (fun e => e.1.toNat == leAt b 0x1A 2 &&
    (bit (s.cpCfg c) 11 || e.2.1 == BitVec.ofNat 80 (leAt b 0x1C 10))) = some e →
    (pduFlags b).testBit 2 = true ∧ (pduFlags b).testBit 1 = false ∧ (pduFlags b).testBit 3 = false →
    x = ⟨BitVec.ofNat 80 (leAt b 0x1C 10), BitVec.ofNat 80 (leAt b 0x26 10), BitVec.ofNat 80 (leAt b 0x10 10),
      truncDt (s.port c).res s.now⟩ →
    dtDiff x.d x.a ≤ 65536000000 ∧ e.2.2 = false ∧ s.outage = false →
    estimate { (s.port c).est with got := some (BitVec.ofNat 16 (pduSeq b), BitVec.ofNat 80 (leAt b 0x10 10), truncDt (s.port c).res s.now, s.outage) }
    (fld (s.act (cpBase c + 0x28)) 3 8) (fld (s.act (cpBase c + 0x28)) 0 3) (s.portLats c) x s.clock = (n, k) →
    ∃ u, exec (.stamp c false b) s = .next u ∧ (u.port c).cnt.stampRx = (s.port c).cnt.stampRx + 1 ∧
      (u.port c).cnt.exchBad = (if k then (s.port c).cnt.exchBad else (s.port c).cnt.exchBad + 1) ∧
      (u.port c).cnt.exch = (if k then (s.port c).cnt.exch + 1 else (s.port c).cnt.exch) ∧
      (u.port c).est = (if k then { n with frozen := false } else n) ∧
      u.noon.inbox = s.noon.inbox ++ if k && (s.port c).modeR.any (fun m => m.grant.getLsbD 0) then
        [⟨⟨c.val, by omega⟩, n.err, x.d, BitVec.ofNat 64 (leAt b 0x30 8), leAt b 0x38 1, leAt b 0x39 1,
          pduFlags b % 2 == 1⟩] else []) ∧
  (∀ (s : State) (c : PortId) (m : Octets),
    syncOk m = true →
    exec (.stamp c true m) s = .next (takeStamp c (syncPdu m) s.now s.outage s) ∧
      exec (.stamp c false (syncPdu m)) s = .next (takeStamp c (syncPdu m) s.now s.outage s)) ∧
  (∀ (s : State) (c : PortId) (b : Octets),
    (s.port c).hears = true →
    ((s.port c).st ≠ 5 ∨ stampOk b = false → exec (.stamp c false b) s = .next (badPdu c s)) ∧
      (syncOk b = false → exec (.stamp c true b) s = .next (badPdu c s)) ∧
      ((s.port c).st ≠ 5 ∨ headOk b 6 32 0 = false ∨ 32 ≤ leAt b 0x1A 1 ∨ 16 ≤ leAt b 0x1B 1 →
        exec (.triggerFrame c b) s = .next (badPdu c s)) ∧
      ((s.port c).st ≠ 5 ∨ leAt b 0x11 1 = 0 ∨ 4 < leAt b 0x11 1 → exec (.axisFrame c b) s = .next (badPdu c s)) ∧
      ((s.port c).st ≠ 5 ∨ 224 < b.length → exec (.hostFrame c b) s = .next (badPdu c s))) ∧
  (∀ (s : State) (c : PortId) (b : Octets) (k : Bool),
    (s.port c).hears = false →
    exec (.bell c b) s = .next s ∧ exec (.offer c b) s = .next s ∧ exec (.accept c b) s = .next s ∧
      exec (.reject c b) s = .next s ∧ exec (.stamp c k b) s = .next s ∧ exec (.triggerFrame c b) s = .next s ∧
      exec (.axisFrame c b) s = .next s ∧ exec (.hostFrame c b) s = .next s) ∧
  (∀ (s : State) (c : PortId),
    (s.port c).st = 5 ∧ (s.port c).est.frozen = false →
    (s.port c).est.usedAt + 40960000000 ≤ s.clock →
    ∃ u, exec (.estimatorFreeze c) s = .next u ∧
      u.port c = { s.port c with est := { (s.port c).est with frozen := true } } ∧
        (s.evFull (186 + 3 * c.val) = false →
        ⟨Fin.ofNat 256 (186 + 3 * c.val), causeWord 1 0 0, s.now, s.outage⟩ ∈ u.occs)) ∧
  (∀ (s : State) (c : PortId) (b : Octets),
    (s.port c).st = 5 →
    headOk b 6 32 0 = true ∧ leAt b 0x1A 1 < 32 ∧ leAt b 0x1B 1 < 16 →
    s.granted c 3 = true →
    exec (.triggerFrame c b) s = .next { s.setPort c { s.port c with
      cnt := { (s.port c).cnt with trigRx := (s.port c).cnt.trigRx + 1 } } with
      pacer := { s.pacer with mail := s.pacer.mail ++
      (if leAt b 0x1A 1 < 16 then [Fin.ofNat 16 (leAt b 0x1A 1)] else List.finRange 16).map fun d => ⟨d, .port c,
      ⟨BitVec.ofNat 80 (leAt b 0x10 10), word (leAt b 0x1C 4), BitVec.ofNat 16 (0x4000 + c.val * 1024 + leAt b 0x1B 1)⟩⟩ } }) ∧
  (∀ (s : State) (c : PortId) (b : Octets),
    (s.port c).st = 5 →
    headOk b 6 32 0 = true ∧ leAt b 0x1A 1 < 32 ∧ leAt b 0x1B 1 < 16 →
    s.granted c 3 = false →
    ∃ u, exec (.triggerFrame c b) s = .next u ∧ u.pacer.mail = s.pacer.mail ∧ u.ports = s.ports ∧
      (s.evFull (184 + 3 * c.val) = false →
        ⟨Fin.ofNat 256 (184 + 3 * c.val), causeWord 2 0 0, s.now, s.outage⟩ ∈ u.occs)) ∧
  (∀ (s : State) (c : PortId) (b : Octets) (n : Nat),
    (s.port c).st = 5 →
    n = leAt b 0x11 1 ∧ 1 ≤ n ∧ n ≤ 4 →
    headOk b 7 (24 + 48 * n) 0 = true ∧ zeros b 0x12 6 = true →
    s.granted c 5 = true →
    ∃ u, exec (.axisFrame c b) s = .next u ∧
      u.crank.recIn = s.crank.recIn ++ (List.range n).map (fun k => ⟨0, .frame c (BitVec.ofNat 8 (leAt b 0x10 1)),
        slice b (24 + 48 * k) 48, k == 0, if s.clocked then some s.dt else none, none⟩) ∧
      (u.port c).cnt.axisRx = (s.port c).cnt.axisRx + word n ∧ u.crank.axes = s.crank.axes) ∧
  (∀ (s : State) (c : PortId) (b : Octets) (n : Nat),
    (s.port c).st = 5 →
    n = leAt b 0x11 1 ∧ 1 ≤ n ∧ n ≤ 4 →
    headOk b 7 (24 + 48 * n) 0 = true ∧ zeros b 0x12 6 = true →
    s.granted c 5 = false →
    ∃ u, exec (.axisFrame c b) s = .next u ∧ u.crank = s.crank ∧ u.ports = s.ports ∧
      (s.evFull (184 + 3 * c.val) = false →
        ⟨Fin.ofNat 256 (184 + 3 * c.val), causeWord 3 0 0, s.now, s.outage⟩ ∈ u.occs)) ∧
  (∀ (s : State) (c : PortId) (b : Octets),
    (s.port c).st = 5 →
    headOk b 8 b.length 0 = true ∧ 16 ≤ b.length ∧ b.length ≤ 224 →
    s.ringTakes (portRing c) true 256 = true →
    exec (.hostFrame c b) s = .next { s with
      outbox := s.outbox ++ [⟨portRing c, true, none, true, ringEntry 0 s.now b⟩] }) ∧
  (∀ (s : State) (c : PortId) (b : Octets),
    (s.port c).st = 5 →
    headOk b 8 b.length 0 = true ∧ 16 ≤ b.length ∧ b.length ≤ 224 →
    s.ringTakes (portRing c) true 256 = false →
    ∃ u, exec (.hostFrame c b) s = .next u ∧ u.outbox = s.outbox ∧
      (u.ring (portRing c) true).drops = (s.ring (portRing c) true).drops + 1 ∧
      (u.port c).cnt.hostDrop = (s.port c).cnt.hostDrop + 1 ∧
      (s.evFull (184 + 3 * c.val) = false →
        ⟨Fin.ofNat 256 (184 + 3 * c.val), causeWord 6 0 0, s.now, s.outage⟩ ∈ u.occs)) ∧
  (∀ (s : State) (c : PortId) (b : Octets) (r : List Octets),
    (s.port c).st = 5 →
    (s.port c).msgIn = b :: r →
    msgEntryOk b = true →
    leAt b 0x21 1 = 8 ∨ s.granted c 4 = true →
    s.laneBusy c = false ∧ (s.port c).waiting = [] →
    ∃ u, exec (.messageRingEntry c) s = .next u ∧ (u.port c).msgIn = r ∧
      (u.port c).cnt.hostTx = (s.port c).cnt.hostTx + 1 ∧
      (u.port c).txq = (s.port c).txq ++ [(s.now, ethFrame (s.portMac c) 0x88B5
        (patch (patch (patch (slice b 0x20 (leAt b 0 2)) 0 [1]) 4
          (leOctets 2 ((s.port c).seqs.get (Fin.ofNat 9 (leAt b 0x21 1))).toNat)) 8 (leOctets 8 s.ident.toNat)))]) ∧
  (∀ (s : State) (c : PortId),
    4 ≤ s.waitingOf c (fun ty => ty == 7 || ty == 8) →
    exec (.messageRingEntry c) s = .next s) ∧
  (∀ (s : State) (c : PortId) (b : Octets) (r : List Octets),
    (s.port c).st = 5 →
    (s.port c).msgIn = b :: r →
    msgEntryOk b = false ∨ leAt b 0x21 1 = 7 ∧ s.granted c 4 = false →
    s.waitingOf c (fun ty => ty == 7 || ty == 8) < 4 →
    ∃ u, exec (.messageRingEntry c) s = .next u ∧ (u.port c).msgIn = r ∧ (u.port c).txq = (s.port c).txq ∧
      (u.port c).waiting = (s.port c).waiting ∧
      (s.evFull (184 + 3 * c.val) = false →
        ⟨Fin.ofNat 256 (184 + 3 * c.val), causeWord 5 0 0, s.now, s.outage⟩ ∈ u.occs)) ∧
  (∀ (s : State) (c : PortId),
    s.hostReach = true →
    (s.port c).loopb ≠ 1 →
    (2 ≤ (s.port c).st.toNat ∧ (s.port c).st ≠ 7 → ∃ u, exec (.testLoopNearSerial c) s = .next u ∧ (u.port c).st = 7 ∧
        (u.port c).loopb = 1 ∧ (u.port c).gen = false ∧
        (u.port c).chk = false ∧ (u.port c).peer = 0 ∧ (u.port c).modeR = none ∧ (u.port c).est.valid = false ∧
        (s.evFull (185 + 3 * c.val) = false →
        ⟨Fin.ofNat 256 (185 + 3 * c.val), causeWord 7 0 0, s.now, s.outage⟩ ∈ u.occs)) ∧
      ((s.port c).st.toNat < 2 ∨ (s.port c).st = 7 → exec (.testLoopNearSerial c) s =
        .next (s.setPort c { s.port c with loopb := 1, gen := false, chk := false }))) ∧
  (∀ (s : State) (c : PortId),
    s.hostReach = true →
    (s.port c).loopb ≠ 2 →
    (2 ≤ (s.port c).st.toNat ∧ (s.port c).st ≠ 7 → ∃ u, exec (.testLoopNearParallel c) s = .next u ∧ (u.port c).st = 7 ∧
        (u.port c).loopb = 2 ∧ (u.port c).gen = false ∧
        (u.port c).chk = false ∧ (u.port c).peer = 0 ∧ (u.port c).modeR = none ∧ (u.port c).est.valid = false ∧
        (s.evFull (185 + 3 * c.val) = false →
        ⟨Fin.ofNat 256 (185 + 3 * c.val), causeWord 7 0 0, s.now, s.outage⟩ ∈ u.occs)) ∧
      ((s.port c).st.toNat < 2 ∨ (s.port c).st = 7 → exec (.testLoopNearParallel c) s =
        .next (s.setPort c { s.port c with loopb := 2, gen := false, chk := false }))) ∧
  (∀ (s : State) (c : PortId),
    s.hostReach = true →
    (s.port c).loopb ≠ 3 →
    (2 ≤ (s.port c).st.toNat ∧ (s.port c).st ≠ 7 → ∃ u, exec (.testLoopFarRetimed c) s = .next u ∧ (u.port c).st = 7 ∧
        (u.port c).loopb = 3 ∧ (u.port c).gen = false ∧
        (u.port c).chk = false ∧ (u.port c).peer = 0 ∧ (u.port c).modeR = none ∧ (u.port c).est.valid = false ∧
        (s.evFull (185 + 3 * c.val) = false →
        ⟨Fin.ofNat 256 (185 + 3 * c.val), causeWord 7 0 0, s.now, s.outage⟩ ∈ u.occs)) ∧
      ((s.port c).st.toNat < 2 ∨ (s.port c).st = 7 → exec (.testLoopFarRetimed c) s =
        .next (s.setPort c { s.port c with loopb := 3, gen := false, chk := false }))) ∧
  (∀ (s : State) (c : PortId),
    s.hostReach = true →
    (s.port c).st = 7 ∧ (s.port c).loopb ≠ 0 →
    ∃ u, exec (.testLoopEnd c) s = .next u ∧ (u.port c).st = 2 ∧ (u.port c).loopb = 0 ∧ (u.port c).gen = false ∧
      (u.port c).chk = false ∧ (s.evFull (185 + 3 * c.val) = false →
        ⟨Fin.ofNat 256 (185 + 3 * c.val), causeWord 2 5 0, s.now, s.outage⟩ ∈ u.occs)) ∧
  (∀ (s : State) (c : PortId),
    s.hostReach = true →
    (s.port c).st ≠ 7 ∧ (s.port c).loopb ≠ 0 →
    exec (.testLoopEnd c) s = .next (s.setPort c { s.port c with loopb := 0, gen := false, chk := false })) ∧
  (∀ (s : State) (c : PortId),
    s.hostReach = true →
    (s.port c).loopb ≠ 0 ∨ (s.port c).st.toNat < 3 ∨ (s.port c).st = 7 →
    exec (.prbsGen c) s = .next (s.setPort c { s.port c with gen := true })) ∧
  (∀ (s : State) (c : PortId),
    s.hostReach = true →
    (s.port c).loopb = 0 →
    3 ≤ (s.port c).st.toNat ∧ (s.port c).st.toNat ≤ 6 →
    ∃ u, exec (.prbsGen c) s = .next u ∧ (u.port c).gen = true ∧ (u.port c).st = 2 ∧ (u.port c).peer = 0 ∧
      (u.port c).modeR = none ∧ (u.port c).est.valid = false) ∧
  (∀ (s : State) (c : PortId) (n : Nat),
    s.hostReach = true →
    (s.port c).loopb = 1 ∨ (s.port c).loopb = 2 →
    2 ≤ (s.port c).st.toNat →
    exec (.prbsCheck c n) s = .next (s.setPort c { s.port c with
      chk := true, cnt := { (s.port c).cnt with prbsErr := (s.port c).cnt.prbsErr + word n } })) ∧
  (∀ (s : State) (c : PortId) (n : Nat),
    s.hostReach = true →
    (s.port c).loopb = 0 →
    2 ≤ (s.port c).st.toNat ∧ (s.port c).st.toNat ≤ 6 →
    ∃ u, exec (.prbsCheck c n) s = .next u ∧ (u.port c).chk = true ∧ (u.port c).st = 2 ∧
      (u.port c).cnt.prbsErr = (s.port c).cnt.prbsErr + word n) ∧
  (∀ (s : State) (c : PortId) (n : Nat),
    s.hostReach = true →
    (s.port c).st.toNat < 2 ∨ (s.port c).loopb = 3 →
    exec (.prbsCheck c n) s = .next (s.setPort c { s.port c with chk := true }))

/-- A frame whose lane is up and for which its queue and the buffer have room is admitted with 40 cells under its class, with
what the table gives it (R302, R303, R305, R309 to R311); where its queue is full, or fewer than 40 cells are free, it is
discarded (R302, R305), and one that comes while the clock is gated is counted lost (R317). At its end a bad frame is
discarded, or stomped where it is already in egress (R307, R308); a good one keeps the cells it needs (R302), and goes to the
host, to its port, or in bypass nowhere, as its disposition says (R311, R312, R316). The lane sends the highest class ready
first; a frame aged meanwhile, or whose lane is down, is discarded (R303, R304); a frame sent is counted and its cells are
free, its octets having left as they came or with their residence corrected (R302, R314), and a timestamp record tells of it
where the table asks for one (R313). -/
def Obligations.FreewheelCompletes : Prop :=
  (∀ (s : State) (c : PortId) (d : Bool) (b : Octets) (g : Word) (m : RegMap) (e : Nat),
    s.laneUp c (!d) = true →
    d = true ∨ isSzl b = false →
    s.arriving c d = none →
    s.clocked = true →
    s.fwTable = (g, m) ∧ e = clLookup m c d b →
    s.forwards (clDisp e) = false ∨ s.queueCells c d (classOf m c e b) < min 16384 (fld (regGet m (fwBase c + 8)) 0 15) →
    40 ≤ s.fw.free →
    ∃ u, exec (.frameAdmission c d b) s = .next u ∧ u.fw.free = s.fw.free - 40 ∧
      u.fw.frames = s.fw.frames ++ [{
        pair := c, toLine := d, octets := b, cls := classOf m c e b
        ct := (regGet m (fwBase c + 4)).getLsbD ((if d then 0 else 8) + classOf m c e b) && s.laneRate c d ≤ s.laneRate c (!d)
        gen := g, disp := BitVec.ofNat 2 (clDisp e), ts := e.testBit 98, corr := e.testBit 99
        ingress := s.dt - BitVec.ofNat 80 (octetTime (s.laneRate c (!d)) b.length), egress := none, whole := false
        stomp := false, cells := 40 }]) ∧
  (∀ (s : State) (c : PortId) (d : Bool) (b : Octets) (g : Word) (m : RegMap) (e : Nat),
    s.laneUp c (!d) = true →
    d = true ∨ isSzl b = false →
    s.arriving c d = none →
    s.clocked = true →
    s.fwTable = (g, m) ∧ e = clLookup m c d b →
    s.forwards (clDisp e) = true →
    min 16384 (fld (regGet m (fwBase c + 8)) 0 15) ≤ s.queueCells c d (classOf m c e b) →
    ∃ u, exec (.frameAdmission c d b) s = .next u ∧ u.fw.frames = s.fw.frames ∧ u.fw.free = s.fw.free ∧
      (u.fw.cnt.get c).discard = (s.fw.cnt.get c).discard + 1 ∧
      (s.evFull 208 = false → ⟨208, causeWord 1 (fwDetail c d) 0, s.dt, false⟩ ∈ u.occs)) ∧
  (∀ (s : State) (c : PortId) (d : Bool) (b : Octets) (g : Word) (m : RegMap) (e : Nat),
    s.laneUp c (!d) = true →
    d = true ∨ isSzl b = false →
    s.arriving c d = none →
    s.clocked = true →
    s.fwTable = (g, m) ∧ e = clLookup m c d b →
    s.forwards (clDisp e) = false ∨ s.queueCells c d (classOf m c e b) < min 16384 (fld (regGet m (fwBase c + 8)) 0 15) →
    s.fw.free < 40 →
    ∃ u, exec (.frameAdmission c d b) s = .next u ∧ u.fw.frames = s.fw.frames ∧ u.fw.free = s.fw.free ∧
      (u.fw.cnt.get c).discard = (s.fw.cnt.get c).discard + 1 ∧
      (s.fw.bypass = false ∨ clDisp e ≠ 0 → s.evFull 208 = false →
        ⟨208, causeWord 2 (fwDetail c d) 0, s.dt, false⟩ ∈ u.occs)) ∧
  (∀ (s : State) (c : PortId) (d : Bool) (b : Octets),
    s.laneUp c (!d) = true →
    d = true ∨ isSzl b = false →
    s.arriving c d = none →
    s.clocked = false →
    ∃ u, exec (.frameAdmission c d b) s = .next u ∧ u.fw.frames = s.fw.frames ∧
      (u.fw.cnt.get c).gdrop = (s.fw.cnt.get c).gdrop + 1) ∧
  (∀ (s : State) (c : PortId) (d : Bool) (b : Octets),
    s.laneUp c (!d) = false ∨ d = false ∧ isSzl b = true ∨ s.arriving c d ≠ none →
    exec (.frameAdmission c d b) s = .next s) ∧
  (∀ (s : State) (c : PortId) (d : Bool) (b : Octets) (k : Bool) (f : Frame),
    s.arriving c d = some f ∧ s.clocked = true →
    frameFault (f.octets ++ b) k ≠ 0 →
    f.egress = none →
    ∃ u, exec (.frameEndReceived c d b k) s = .next u ∧ u.fw.frames = s.fw.frames.erase f ∧
      u.fw.free = s.fw.free + f.cells ∧ (u.fw.cnt.get f.pair).discard = (s.fw.cnt.get f.pair).discard + 1) ∧
  (∀ (s : State) (c : PortId) (d : Bool) (b : Octets) (k : Bool) (f : Frame) (t : DT),
    s.arriving c d = some f ∧ s.clocked = true →
    frameFault (f.octets ++ b) k ≠ 0 →
    f.egress = some t →
    ∃ u, exec (.frameEndReceived c d b k) s = .next u ∧ u.fw.frames = s.fw.frames.erase f ∧
      u.fw.free = s.fw.free + f.cells ∧ (u.fw.cnt.get f.pair).stomped = (s.fw.cnt.get f.pair).stomped + 1 ∧
      u.fw.sent = s.fw.sent ++ [{ f with stomp := true }]) ∧
  (∀ (s : State) (c : PortId) (d : Bool) (b : Octets) (k : Bool) (f : Frame) (n : Nat),
    s.arriving c d = some f ∧ s.clocked = true →
    frameFault (f.octets ++ b) k = 0 →
    f.disp = 0 ∧ s.fw.bypass = false →
    n = ((f.octets ++ b).length + 255) / 256 →
    ∃ u, exec (.frameEndReceived c d b k) s = .next u ∧ u.fw.free = s.fw.free + (40 - n) ∧
      u.fw.frames = modFirst (· == f) (fun _ => { f with octets := f.octets ++ b, whole := true, cells := n }) s.fw.frames) ∧
  (∀ (s : State) (c : PortId) (d : Bool) (b : Octets) (k : Bool) (f : Frame) (n : Nat),
    s.arriving c d = some f ∧ s.clocked = true →
    frameFault (f.octets ++ b) k = 0 →
    f.disp = 3 ∧ s.fw.bypass = false →
    s.ringTakes (portRing f.pair) true 256 = true →
    n = ((f.octets ++ b).length + 255) / 256 →
    ∃ u, exec (.frameEndReceived c d b k) s = .next u ∧ u.fw.free = s.fw.free + (40 - n) ∧
      u.fw.frames = modFirst (· == f) (fun _ => { f with octets := f.octets ++ b, whole := true, cells := n }) s.fw.frames ∧
      (u.fw.cnt.get f.pair).extract = (s.fw.cnt.get f.pair).extract + 1 ∧
      u.outbox = s.outbox ++ [⟨portRing f.pair, true, none, true,
        ringEntry (2 + 8 * b1 f.toLine + 16 * b1 (decide (228 < (f.octets ++ b).length))) f.ingress
          ((noFcs (f.octets ++ b)).take 224)⟩]) ∧
  (∀ (s : State) (c : PortId) (d : Bool) (b : Octets) (k : Bool) (f : Frame),
    s.arriving c d = some f ∧ s.clocked = true →
    frameFault (f.octets ++ b) k = 0 →
    f.disp = 2 ∧ (f.ts = false ∨ f.toLine = true) →
    s.ringTakes (portRing f.pair) true 256 = true →
    ∃ u, exec (.frameEndReceived c d b k) s = .next u ∧
      u.outbox = s.outbox ++ [⟨portRing f.pair, true, none, true,
        ringEntry (2 + 8 * b1 f.toLine + 16 * b1 (decide (228 < (f.octets ++ b).length))) f.ingress
          ((noFcs (f.octets ++ b)).take 224)⟩] ∧
      u.fw.frames.length + 1 = s.fw.frames.length ∧
        (u.fw.cnt.get f.pair).extract = (s.fw.cnt.get f.pair).extract + 1) ∧
  (∀ (s : State) (c : PortId) (d : Bool) (b : Octets) (k : Bool) (f : Frame),
    s.arriving c d = some f ∧ s.clocked = true →
    frameFault (f.octets ++ b) k = 0 →
    f.disp = 2 ∧ (f.ts = false ∨ f.toLine = true) →
    s.ringTakes (portRing f.pair) true 256 = false →
    ∃ u, exec (.frameEndReceived c d b k) s = .next u ∧ u.outbox = s.outbox ∧
      u.fw.frames.length + 1 = s.fw.frames.length ∧
        (u.fw.cnt.get f.pair).extract = (s.fw.cnt.get f.pair).extract + 1 ∧
        (u.port f.pair).cnt.hostDrop = (s.port f.pair).cnt.hostDrop + 1) ∧
  (∀ (s : State) (c : PortId) (d : Bool) (b : Octets) (k : Bool) (f g : Frame),
    s.arriving c d = some f ∧ s.clocked = true →
    frameFault (f.octets ++ b) k = 0 →
    f.disp = 1 ∧ (f.ts = false ∨ f.toLine = true) →
    g = { f with octets := f.octets ++ b, whole := true, cells := ((f.octets ++ b).length + 255) / 256 } →
    exec (.frameEndReceived c d b k) s = .next (dropFrame g (chainPdu f.pair g.octets f.ingress
      (modFwCnt f.pair (fun n => { n with extract := n.extract + 1 }) (setFree (s.fw.free + (40 - g.cells))
        { s with fw := { s.fw with frames := modFirst (· == f) (fun _ => g) s.fw.frames } }))))) ∧
  (∀ (s : State) (c : PortId) (o p : Octets) (d : DT),
    tagged o = false ∧ frameType o = 0x88B5 →
    p = ((noFcs o).drop 14).take (max 16 (pduLen ((noFcs o).drop 14))) →
    (pduType p = 1 → chainPdu c o d s = takeBell c p d s) ∧ (pduType p = 2 → chainPdu c o d s = takeOffer c p d s) ∧
      (pduType p = 3 → chainPdu c o d s = takeAccept c p d s) ∧ (pduType p = 4 → chainPdu c o d s = takeReject c p d s) ∧
      (pduType p = 5 → chainPdu c o d s = takeStamp c p d false s) ∧ (pduType p = 6 → chainPdu c o d s = takeTrigger c p s) ∧
      (pduType p = 7 → chainPdu c o d s = takeAxis c p s) ∧ (pduType p = 8 → chainPdu c o d s = takeHost c p d s)) ∧
  (∀ (s : State) (c : PortId) (d : Bool) (b : Octets) (k : Bool) (f : Frame),
    s.arriving c d = some f ∧ s.clocked = true →
    frameFault (f.octets ++ b) k = 0 →
    f.disp = 0 ∧ s.fw.bypass = true ∧ (f.ts = false ∨ f.toLine = true) →
    ∃ u, exec (.frameEndReceived c d b k) s = .next u ∧ u.fw.frames.length + 1 = s.fw.frames.length ∧
      (u.fw.cnt.get f.pair).discard = (s.fw.cnt.get f.pair).discard + 1 ∧ u.outbox = s.outbox ∧ u.fw.sent = s.fw.sent) ∧
  (∀ (s : State) (c : PortId) (d : Bool) (f : Frame),
    s.clocked = true →
    (s.laneFrames c d).any (fun f => f.egress.isSome) = false →
    nextFrame (s.laneFrames c d) = some f →
    dtLe s.dt (dtAdd f.ingress s.fwAge) = true →
    s.laneUp c d = true →
    exec (.egressStart c d) s = .next { s with fw := { s.fw with
      frames := modFirst (· == f) (fun _ => { f with egress := some s.dt }) s.fw.frames } }) ∧
  (∀ (s : State) (c : PortId) (d : Bool) (f : Frame),
    s.clocked = true →
    (s.laneFrames c d).any (fun f => f.egress.isSome) = false →
    nextFrame (s.laneFrames c d) = some f →
    dtLe s.dt (dtAdd f.ingress s.fwAge) = false ∨ s.laneUp c d = false →
    ∃ u, exec (.egressStart c d) s = .next u ∧ u.fw.frames = s.fw.frames.erase f ∧ u.fw.free = s.fw.free + f.cells ∧
      (u.fw.cnt.get f.pair).discard = (s.fw.cnt.get f.pair).discard + 1) ∧
  (∀ (s : State) (c : PortId) (d : Bool) (f : Frame),
    s.clocked = true →
    (s.laneFrames c d).find? (fun f => f.egress.isSome) = some f →
    f.whole = true ∧ f.corr = false ∧ f.ts = false →
    ∃ u, exec (.egressEnd c d) s = .next u ∧ u.fw.frames = s.fw.frames.erase f ∧ u.fw.free = s.fw.free + f.cells ∧
      (u.fw.cnt.get c).fwdHl = (s.fw.cnt.get c).fwdHl + (if d then 1 else 0) ∧
      (u.fw.cnt.get c).fwdLh = (s.fw.cnt.get c).fwdLh + (if d then 0 else 1) ∧ u.outbox = s.outbox ∧
      u.fw.sent = s.fw.sent ++ [f]) ∧
  (∀ (s : State) (c : PortId) (d : Bool) (f : Frame),
    s.clocked = true →
    (s.laneFrames c d).find? (fun f => f.egress.isSome) = some f →
    f.whole = true ∧ f.corr = true ∧ f.ts = false →
    isPtpEvent f.octets = false →
    ∃ u, exec (.egressEnd c d) s = .next u ∧ u.fw.frames = s.fw.frames.erase f ∧ u.fw.sent = s.fw.sent ++ [f] ∧
      (s.evFull 211 = false → ⟨211, causeWord 2 0 0, s.dt, false⟩ ∈ u.occs)) ∧
  (∀ (s : State) (c : PortId) (d : Bool) (f : Frame) (t : DT),
    s.clocked = true →
    (s.laneFrames c d).find? (fun f => f.egress.isSome) = some f →
    f.whole = true ∧ f.corr = true ∧ f.ts = false ∧ f.egress = some t →
    isPtpEvent f.octets = true →
    ∃ u, exec (.egressEnd c d) s = .next u ∧ u.fw.frames = s.fw.frames.erase f ∧
      (u.fw.cnt.get f.pair).corr = (s.fw.cnt.get f.pair).corr + 1 ∧
      u.fw.sent = s.fw.sent ++ [{ f with octets := withCorrection f.octets (min (2 ^ 63 - 1)
        ((BitVec.ofNat 64 (beAt f.octets (payloadAt f.octets + 8) 8)).toInt + dtDiff t f.ingress * 16)) }]) ∧
  (∀ (s : State) (c : PortId) (d : Bool) (f : Frame) (t : DT),
    s.clocked = true →
    (s.laneFrames c d).find? (fun f => f.egress.isSome) = some f →
    f.whole = true ∧ f.corr = false ∧ f.ts = true ∧ f.egress = some t →
    s.ringTakes (portRing f.pair) true 256 = true →
    ∃ u, exec (.egressEnd c d) s = .next u ∧ u.fw.frames = s.fw.frames.erase f ∧ u.fw.sent = s.fw.sent ++ [f] ∧
      (u.fw.cnt.get f.pair).tsrec = (s.fw.cnt.get f.pair).tsrec + 1 ∧
      u.outbox = s.outbox ++ [⟨portRing f.pair, true, none, true,
        ringEntry (4 + 8 * b1 f.toLine) (if d then t else f.ingress) ((noFcs f.octets).take 64)⟩])

/-- A cell that is not whole is counted and raised, and one that is the module's own, or not the first copy, goes no further
(R323). A BEACON of the module's Captain is noted for its ring, whichever copy it is, and the first copy goes on to the next
module (R323, R325); in SEEK it names the Captain to follow, in HOLDOVER it brings the member back, and a Captain or a member
turns to a lower one (R329, R330, R332); the other side's is noted apart (R336, R340), and a lower identity in the module's own
place is DUPPOS (R333). A Captain originates one every 1 us (R324). A HOPSTAMP is kept for the port it came on and goes no
further, and answering one of the module's it is a used exchange, or a bad one (R327); the module sends one each way every
1 ms, and 10 ms without a used exchange freezes an estimator (R327). The loss of the selected ring switches to the other, the
loss of both is HOLDOVER (R325, R326), and the preferred ring is taken back after 1 ms (R325). -/
def Obligations.RingReferenceCompletes : Prop :=
  (∀ (s t : State) (r : RingDir) (b : Octets),
    s.stoker.st ≠ 0 →
    cellOk b = false →
    t = raiseNow 240 2 0 0 (s.modStoker fun k => { k.setClk r true with badCell := k.badCell + 1 }) →
    exec (.ringBeacon r b) s = .next t ∧ exec (.ringHopstamp r b) s = .next t ∧ exec (.ringCandidate r b) s = .next t ∧
      exec (.ringRequest r b) s = .next t ∧ exec (.ringPrepare r b) s = .next t ∧ exec (.ringAnswer r b) s = .next t ∧
      exec (.ringConfirm r b) s = .next t ∧ exec (.ringAbandon r b) s = .next t ∧ exec (.ringTrigger r b) s = .next t) ∧
  (∀ (s t : State) (r : RingDir) (b : Octets),
    s.stoker.st = 0 ∨ cellOk b = true ∧ (s.isOwn b = true ∨ s.firstCopy b = false) →
    t = s.modStoker (·.setClk r true) →
    exec (.ringHopstamp r b) s = .next t ∧ exec (.ringCandidate r b) s = .next t ∧
      exec (.ringRequest r b) s = .next t ∧ exec (.ringPrepare r b) s = .next t ∧ exec (.ringAnswer r b) s = .next t ∧
      exec (.ringConfirm r b) s = .next t ∧ exec (.ringAbandon r b) s = .next t ∧ exec (.ringTrigger r b) s = .next t) ∧
  (∀ (s : State) (r : RingDir) (b : Octets),
    cellOk b = true ∧ cellType b = 1 →
    s.stoker.st ≠ 0 →
    s.isOwn b = true →
    ∃ u, exec (.ringBeacon r b) s = .next u ∧ u.stoker.ok r = true ∧ u.stoker.st = s.stoker.st ∧
      u.stoker.out = s.stoker.out ∧ u.stoker.wait = s.stoker.wait) ∧
  (∀ (s : State) (r : RingDir) (b : Octets),
    cellOk b = true ∧ cellType b = 1 →
    s.isOrigin b = false →
    cellSide b = s.pair.side →
    s.stoker.st = 2 →
    cellId b = s.stoker.captId ∧ cellOrigin b = s.stoker.captPos.toNat →
    ∃ u, exec (.ringBeacon r b) s = .next u ∧ u.stoker.beacon r = some (beaconRec b) ∧ u.stoker.lastBeacon = s.clock ∧
      u.stoker.ok r = true ∧ u.stoker.st = 2 ∧ u.stoker.captPos = s.stoker.captPos ∧
        u.stoker.wait.length + u.stoker.out.length = s.stoker.wait.length + s.stoker.out.length + (if s.firstCopy b = false ∨ cellHops b = 15 then 0 else 1)) ∧
  (∀ (s : State) (r : RingDir) (b : Octets),
    cellOk b = true ∧ cellType b = 1 →
    s.isOrigin b = false →
    cellSide b = s.pair.side →
    s.stoker.st = 1 →
    ∃ u, exec (.ringBeacon r b) s = .next u ∧ u.stoker.beacon r = some (beaconRec b) ∧ u.stoker.st = 1 ∧
      u.stoker.captPos = BitVec.ofNat 4 (cellOrigin b) ∧ u.stoker.captId = cellId b ∧ u.stoker.ok r = true ∧
      u.stoker.lastBeacon = s.clock ∧
      (s.stoker.cwOk = false → s.stoker.ccwOk = false → u.stoker.dir = isCcw r)) ∧
  (∀ (s : State) (r : RingDir) (b : Octets),
    cellOk b = true ∧ cellType b = 1 →
    s.isOrigin b = false →
    cellSide b = s.pair.side →
    s.stoker.st = 4 →
    ∃ u, exec (.ringBeacon r b) s = .next u ∧ u.stoker.st = 2 ∧ u.stoker.dir = isCcw r ∧ u.stoker.ok r = true ∧
      u.stoker.captId = cellId b) ∧
  (∀ (s : State) (r : RingDir) (b : Octets),
    cellOk b = true ∧ cellType b = 1 →
    s.firstCopy b = true ∧ s.isOrigin b = false ∧ s.isDest b = true →
    cellSide b = s.pair.side →
    s.stoker.st = 3 ∨ s.stoker.st = 2 →
    lower (cellOrigin b) (cellId b) s.stoker.captPos.toNat s.stoker.captId = true →
    ∃ u, exec (.ringBeacon r b) s = .next u ∧ u.stoker.st = 1 ∧ u.stoker.captPos = BitVec.ofNat 4 (cellOrigin b) ∧
      u.stoker.captId = cellId b ∧ u.stoker.dir = isCcw r ∧ u.stoker.joinUses = 0) ∧
  (∀ (s : State) (r : RingDir) (b : Octets),
    cellOk b = true ∧ cellType b = 1 →
    s.firstCopy b = true ∧ s.isDest b = true →
    cellSide b ≠ s.pair.side →
    s.stoker.st ≠ 0 →
    ∃ u, exec (.ringBeacon r b) s = .next u ∧ u.stoker.otherBeacon = some (s.clock, cellWord b) ∧
      u.pair.genSplit = (cellWord b != s.commit.gen) ∧ u.stoker.st = s.stoker.st ∧ u.stoker.captId = s.stoker.captId) ∧
  (∀ (s : State) (r : RingDir) (b : Octets),
    cellOk b = true ∧ cellType b = 1 →
    s.firstCopy b = true →
    s.isOrigin b = true ∧ (cellId b).toNat < s.ident.toNat →
    s.stoker.st ≠ 0 ∧ s.stoker.st ≠ 6 ∧ s.inDay = true →
    ∃ u, exec (.ringBeacon r b) s = .next u ∧ u.stoker.st = 6) ∧
  (∀ (s : State) (b : Octets),
    s.stoker.st = 3 →
    s.stoker.beaconAt ≤ s.clock →
    s.stoker.wait = [] ∧ s.stoker.freeN ≤ s.clock ∧ s.stoker.freeP ≤ s.clock →
    b = mkCell s 1 0 true (leOctets 8 s.root.id.toNat ++ [0, 0] ++ leOctets 4 s.commit.gen.toNat ++ leOctets 8 s.ident.toNat ++
    leOctets 4 (min s.root.hops 255 + s.root.qual * 256 + b1 s.root.tai * 65536)) →
    ∃ u, exec .beaconTimer s = .next u ∧ u.stoker.out = s.stoker.out ++ [(.n, b), (.p, b)] ∧
      u.stoker.seq = s.stoker.seq + 1 ∧ u.stoker.freeN = s.clock + 524288 ∧ u.stoker.freeP = s.clock + 524288 ∧
      u.stoker.beaconAt = s.clock + 4096000 ∧ u.stoker.st = 3) ∧
  (∀ (s : State) (b : Octets),
    s.stoker.st = 3 →
    s.stoker.beaconAt ≤ s.clock →
    s.clock < s.stoker.freeN ∧ s.clock < s.stoker.freeP →
    b = mkCell s 1 0 true (leOctets 8 s.root.id.toNat ++ [0, 0] ++ leOctets 4 s.commit.gen.toNat ++ leOctets 8 s.ident.toNat ++
    leOctets 4 (min s.root.hops 255 + s.root.qual * 256 + b1 s.root.tai * 65536)) →
    ∃ u, exec .beaconTimer s = .next u ∧ u.stoker.wait = s.stoker.wait ++ [(.n, some b), (.p, some b)] ∧
      u.stoker.out = s.stoker.out ∧ u.stoker.beaconAt = s.clock + 4096000) ∧
  (∀ (s : State) (r : RingDir) (b : Octets),
    cellOk b = true ∧ cellType b = 2 →
    s.firstCopy b = true ∧ s.isOrigin b = false ∧ s.isDest b = true →
    s.stoker.st ≠ 0 →
    (s.stoker.est (inPort r)).sent.find? (fun e => e.1.toNat == cellAux b % 256 && e.2.1 == restore48 (leAt b 0x0E 6) s.now) = none ∨
    (cellAux b).testBit 8 = false →
    ∃ u, exec (.ringHopstamp r b) s = .next u ∧ u.stoker.out = s.stoker.out ∧ u.stoker.wait = s.stoker.wait ∧
      u.noon = s.noon ∧ u.stoker.est (inPort r) = { s.stoker.est (inPort r) with got := some ((cellSeq b).setWidth 16, cellDt b, s.now, s.outage) } ∧
      (match inPort r with | .n => u.stoker.npos | .p => u.stoker.ppos) = some (BitVec.ofNat 4 (cellOrigin b))) ∧
  (∀ (s : State) (r : RingDir) (b : Octets) (e : BitVec 16 × DT × Bool),
    cellOk b = true ∧ cellType b = 2 →
    s.firstCopy b = true ∧ s.isOrigin b = false ∧ s.isDest b = true →
    s.stoker.st ≠ 0 →
    (s.stoker.est (inPort r)).sent.find? (fun e => e.1.toNat == cellAux b % 256 && e.2.1 == restore48 (leAt b 0x0E 6) s.now) = some e →
    (cellAux b).testBit 8 = true →
    8192000000 < dtDiff s.now (restore48 (leAt b 0x0E 6) s.now) ∨ e.2.2 = true ∨ (cellAux b).testBit 9 = true ∨
    (cellAux b).testBit 10 = true ∨ s.outage = true →
    ∃ u, exec (.ringHopstamp r b) s = .next u ∧ u.stoker.exchBad = s.stoker.exchBad + 1 ∧ u.noon = s.noon ∧
      u.stoker.est (inPort r) = { s.stoker.est (inPort r) with got := some ((cellSeq b).setWidth 16, cellDt b, s.now, s.outage) } ∧
      u.stoker.joinUses = s.stoker.joinUses) ∧
  (∀ (s : State) (r : RingDir) (b : Octets) (e : BitVec 16 × DT × Bool) (x : Exch) (n : Estim) (k : Bool),
    cellOk b = true ∧ cellType b = 2 →
    s.firstCopy b = true ∧ s.isOrigin b = false ∧ s.isDest b = true →
    s.stoker.st ≠ 0 →
    (s.stoker.est (inPort r)).sent.find? (fun e => e.1.toNat == cellAux b % 256 && e.2.1 == restore48 (leAt b 0x0E 6) s.now) = some e →
    (cellAux b).testBit 8 = true ∧ (cellAux b).testBit 9 = false ∧ (cellAux b).testBit 10 = false →
    x = ⟨restore48 (leAt b 0x0E 6) s.now, restore48 (leAt b 0x14 6) s.now, cellDt b, s.now⟩ →
    dtDiff x.d x.a ≤ 8192000000 ∧ e.2.2 = false ∧ s.outage = false →
    estimate { s.stoker.est (inPort r) with got := some ((cellSeq b).setWidth 16, cellDt b, s.now, s.outage) }
    (fld (s.act 0x3C000) 4 8) (fld (s.act 0x3C000) 1 3) (s.hopLats (inPort r)) x s.clock = (n, k) →
    ∃ u, exec (.ringHopstamp r b) s = .next u ∧
      u.stoker.exchBad = (if k then s.stoker.exchBad else s.stoker.exchBad + 1) ∧
      u.stoker.est (inPort r) = (if k then { n with frozen := false } else n) ∧
      u.stoker.joinUses = (if k && ringOf s.stoker.dir == r then s.stoker.joinUses + 1 else s.stoker.joinUses) ∧
      u.noon.inbox = s.noon.inbox ++ (if k && ringOf s.stoker.dir == r then
        match s.stoker.beacon r with
        | some a => [⟨8, n.err, x.d, a.root, a.rootHops + a.hops, a.qual, a.tai⟩]
        | none => [] else [])) ∧
  (∀ (s : State),
    s.stoker.st ≠ 0 ∧ s.stoker.st ≠ 6 →
    s.stoker.hopAt ≤ s.clock →
    s.stoker.wait = [] ∧ s.stoker.freeN ≤ s.clock ∧ s.stoker.freeP ≤ s.clock →
    ∃ u, exec .hopstampTimer s = .next u ∧ u.stoker.out.length = s.stoker.out.length + 2 ∧
      u.stoker.out.take (s.stoker.out.length + 1) = s.stoker.out ++ [(.n, mkCell s 2 0 true (hopstampBody s .n))] ∧
      u.stoker.seq = s.stoker.seq + 2 ∧
      u.stoker.hopAt = s.clock + 4096000000 ∧
      u.stoker.estN.sent.head? = some (s.stoker.seq.setWidth 16, s.now, s.outage) ∧
      u.stoker.estP.sent.head? = some ((s.stoker.seq + 1).setWidth 16, s.now, s.outage)) ∧
  (∀ (s : State),
    s.stoker.st ≠ 0 ∧ s.stoker.st ≠ 6 →
    s.stoker.hopAt ≤ s.clock →
    s.clock < s.stoker.freeN ∧ s.clock < s.stoker.freeP →
    exec .hopstampTimer s = .next (s.modStoker fun k => { k with
      wait := k.wait ++ [(.n, none), (.p, none)], hopAt := s.clock + 4096000000 })) ∧
  (∀ (s : State) (p : RingPort),
    s.stoker.st ≠ 0 →
    (s.stoker.est p).frozen = false →
    (s.stoker.est p).usedAt + 40960000000 ≤ s.clock →
    ∃ u, exec (.hopEstimatorFreeze p) s = .next u ∧ u.stoker.est p = { s.stoker.est p with frozen := true } ∧
      (s.evFull 239 = false → ⟨239, causeWord 1 (portNum p) 0, s.now, s.outage⟩ ∈ u.occs)) ∧
  (∀ (s : State) (r q : RingDir) (k : Bool),
    k = true ∨ s.stoker.heardAt r + 12288000 ≤ s.clock →
    s.stoker.st = 2 →
    s.stoker.ok r = true →
    s.stoker.dir = isCcw r →
    q = ringOf (!s.stoker.dir) ∧ s.stoker.ok q = true →
    ∃ u, exec (.ringLost ⟨r, k⟩) s = .next u ∧ u.stoker.ok r = false ∧ u.stoker.ok q = true ∧
      u.stoker.dir = (!s.stoker.dir) ∧ u.stoker.moved = true ∧
      u.stoker.dirSw = s.stoker.dirSw + 1 ∧ u.stoker.st = 2 ∧
      (s.evFull 236 = false → ⟨236, causeWord 4 (portNum (inPort r)) 0, s.now, s.outage⟩ ∈ u.occs)) ∧
  (∀ (s : State) (r q : RingDir) (k : Bool),
    k = true ∨ s.stoker.heardAt r + 12288000 ≤ s.clock →
    s.stoker.st = 2 →
    s.stoker.ok r = true →
    q = ringOf (r == .cw) ∧ s.stoker.ok q = false →
    ∃ u, exec (.ringLost ⟨r, k⟩) s = .next u ∧ u.stoker.ok r = false ∧ u.stoker.ok q = false ∧ u.stoker.st = 4 ∧
      u.stoker.stFrom = s.clock ∧ u.stoker.dir = s.stoker.dir) ∧
  (∀ (s : State) (r : RingDir) (k : Bool),
    k = true ∨ s.stoker.heardAt r + 12288000 ≤ s.clock →
    s.stoker.st = 2 ∧ s.stoker.cwOk = true ∧ s.stoker.ccwOk = true ∧ s.stoker.dir ≠ isCcw r ∨ s.stoker.st = 3 ∧ s.stoker.ok r = true →
    ∃ u, exec (.ringLost ⟨r, k⟩) s = .next u ∧ u.stoker.ok r = false ∧ u.stoker.st = s.stoker.st ∧
      u.stoker.dir = s.stoker.dir ∧ u.stoker.dirSw = s.stoker.dirSw ∧
      (s.evFull 236 = false → ⟨236, causeWord 4 (portNum (inPort r)) 0, s.now, s.outage⟩ ∈ u.occs)) ∧
  (∀ (s : State) (r : RingDir),
    s.clock < s.stoker.heardAt r + 12288000 →
    exec (.ringLost ⟨r, false⟩) s = .next s) ∧
  (∀ (s : State) (t : Nat),
    s.stoker.st ≠ 0 ∧ s.stoker.st ≠ 3 →
    s.stoker.preferFrom = some t →
    t + 4096000000 ≤ s.clock →
    s.stoker.prefersOther = true →
    ∃ u, exec .ringReturn s = .next u ∧ u.stoker.dir = (!s.stoker.dir) ∧ u.stoker.dirSw = s.stoker.dirSw + 1 ∧
      u.stoker.preferFrom = none ∧ u.stoker.moved = false ∧ (s.evFull 236 = false →
        ⟨236, causeWord 1 0 0, s.now, s.outage⟩ ∈ u.occs))

/-- In SEEK a strapped module becomes Captain after 1 ms without a BEACON, its ring PLL locked to the DCO output unless its
reference is the ring (R329, R334), and another starts an election after 1 s (R329); so does a member after 8 us in HOLDOVER
without one (R329). In ELECT the candidates are collected, and after 20 us the lowest is Captain and every other module seeks
(R331). After 8 used exchanges a module whose count and generation agree joins at once, by slewing; another joins when nothing
is queued or playing, with its count moved by whole barrel rounds, and one that waits for that says so once; with the count it
takes the stack's generation and EPOCH (R330; the EPOCH is the model's reading: log entry 70). A TRIGGER cell puts an entry on
its way to its thread (R335). -/
def Obligations.CaptainsAndJoinComplete : Prop :=
  (∀ (s : State),
    s.stoker.st = 1 →
    s.stoker.capt = true →
    max s.stoker.stFrom s.stoker.lastBeacon + 4096000000 ≤ s.clock →
    ∃ u, exec .seekTimeout s = .next u ∧ u.stoker.st = 3 ∧ u.stoker.captPos = s.stoker.pos ∧
      u.stoker.captId = s.ident ∧ u.stoker.pllDco = (selOf (fld (s.act 0x2004) 0 4) != 2) ∧
      (u.noon.cands.get 8).root = s.ident ∧
      u.stoker.beaconAt = s.clock ∧ (s.evFull 237 = false →
        ⟨237, causeWord 3 0 0, s.now, s.outage⟩ ∈ u.occs)) ∧
  (∀ (s : State),
    s.stoker.st = 1 →
    s.stoker.capt = false →
    max s.stoker.stFrom s.stoker.lastBeacon + 4096000000000 ≤ s.clock →
    ∃ u, exec .seekTimeout s = .next u ∧ u.stoker.st = 5 ∧ u.stoker.elect = s.stoker.elect + 1 ∧
      u.stoker.cands = [(s.stoker.pos, s.ident)] ∧ u.stoker.seq = s.stoker.seq + 1 ∧
      u.stoker.wait.length + u.stoker.out.length = s.stoker.wait.length + s.stoker.out.length + 2 ∧
        (s.evFull 237 = false → ⟨237, causeWord 5 0 0, s.now, s.outage⟩ ∈ u.occs)) ∧
  (∀ (s : State),
    s.stoker.st = 4 →
    s.stoker.lastBeacon + 32768000 ≤ s.clock →
    ∃ u, exec .holdoverTimeout s = .next u ∧ u.stoker.st = 5 ∧ u.stoker.elect = s.stoker.elect + 1 ∧
      u.stoker.cands = [(s.stoker.pos, s.ident)] ∧ u.stoker.seq = s.stoker.seq + 1 ∧
      u.stoker.wait.length + u.stoker.out.length = s.stoker.wait.length + s.stoker.out.length + 2) ∧
  (∀ (s : State) (r : RingDir) (b : Octets),
    cellOk b = true ∧ cellType b = 3 →
    s.firstCopy b = true ∧ s.isOrigin b = false ∧ s.isDest b = true →
    cellSide b = s.pair.side →
    s.stoker.st = 5 →
    ∃ u, exec (.ringCandidate r b) s = .next u ∧
      u.stoker.cands = (BitVec.ofNat 4 (cellOrigin b), cellId b) :: s.stoker.cands ∧ u.stoker.st = 5 ∧
        u.stoker.wait.length + u.stoker.out.length = s.stoker.wait.length + s.stoker.out.length + (if cellHops b = 15 then 0 else 1)) ∧
  (∀ (s : State) (r : RingDir) (b : Octets),
    cellOk b = true ∧ cellType b = 3 →
    s.firstCopy b = true ∧ s.isOrigin b = false ∧ s.isDest b = true →
    s.stoker.st ≠ 0 →
    cellSide b ≠ s.pair.side ∨ s.stoker.st ≠ 5 →
    ∃ u, exec (.ringCandidate r b) s = .next u ∧ u.stoker.cands = s.stoker.cands ∧ u.stoker.st = s.stoker.st ∧
        u.stoker.wait.length + u.stoker.out.length = s.stoker.wait.length + s.stoker.out.length + (if cellHops b = 15 then 0 else 1)) ∧
  (∀ (s : State),
    s.stoker.st = 5 →
    s.stoker.stFrom + 81920000 ≤ s.clock →
    s.stoker.cands.all (fun c => !lower c.1.toNat c.2 s.stoker.pos.toNat s.ident) = true →
    ∃ u, exec .electWindowEnd s = .next u ∧ u.stoker.st = 3 ∧ u.stoker.captPos = s.stoker.pos ∧
      u.stoker.captId = s.ident ∧ u.stoker.cands = [] ∧
      (s.evFull 237 = false → ⟨237, causeWord 9 s.stoker.pos.toNat 0, s.now, s.outage⟩ ∈ u.occs)) ∧
  (∀ (s : State) (p : BitVec 4) (i : BitVec 64),
    s.stoker.st = 5 →
    s.stoker.stFrom + 81920000 ≤ s.clock →
    (p, i) ∈ s.stoker.cands →
    lower p.toNat i s.stoker.pos.toNat s.ident = true →
    ∃ u, exec .electWindowEnd s = .next u ∧ u.stoker.st = 1 ∧ u.stoker.cands = [] ∧ u.stoker.joinUses = 0) ∧
  (∀ (s : State) (b : BeaconRec) (e : Int),
    s.stoker.st = 1 ∧ 8 ≤ s.stoker.joinUses ∧ s.stoker.ok (ringOf s.stoker.dir) = true →
    s.clocked = true →
    s.stoker.beacon (ringOf s.stoker.dir) = some b ∧ b.gen = s.commit.gen →
    s.stoker.err.natAbs ≤ 4096000 →
    e = (s.stoker.est (inPort (ringOf s.stoker.dir))).err →
    ∃ u, exec .join s = .next u ∧ u.stoker.st = 2 ∧ u.stoker.jwait = false ∧ u.dt = s.dt ∧ u.commit = s.commit ∧
      u.noon.slew = clampI 2147483647 (s.noon.slew - e) ∧ u.noon.epoch = b.tai) ∧
  (∀ (s : State) (b : BeaconRec),
    s.stoker.st = 1 ∧ 8 ≤ s.stoker.joinUses ∧ s.stoker.ok (ringOf s.stoker.dir) = true →
    s.clocked = true →
    s.stoker.beacon (ringOf s.stoker.dir) = some b →
    b.gen ≠ s.commit.gen ∨ 4096000 < s.stoker.err.natAbs →
    s.idleToJoin = false →
    s.stoker.jwait = false →
    ∃ u, exec .join s = .next u ∧ u.stoker = { s.stoker with jwait := true } ∧ u.dt = s.dt ∧ u.commit = s.commit ∧
      (s.evFull 237 = false → ⟨237, causeWord 8 0 0, s.now, s.outage⟩ ∈ u.occs)) ∧
  (∀ (s : State) (b : BeaconRec) (e : Int),
    s.stoker.st = 1 ∧ 8 ≤ s.stoker.joinUses ∧ s.stoker.ok (ringOf s.stoker.dir) = true →
    s.clocked = true →
    s.stoker.beacon (ringOf s.stoker.dir) = some b →
    b.gen ≠ s.commit.gen ∨ 4096000 < s.stoker.err.natAbs →
    s.idleToJoin = true →
    e = -(s.stoker.est (inPort (ringOf s.stoker.dir))).err →
    ∃ u, exec .join s = .next u ∧ u.stoker.st = 2 ∧ u.commit.gen = b.gen ∧ u.noon.epoch = b.tai ∧
      u.dt = s.dt + BitVec.ofInt 80 ((e + 262144) / 524288 * 524288) ∧
      u.noon.slew = clampI 2147483647 (s.noon.slew + (e - (e + 262144) / 524288 * 524288)) ∧
      (b.gen ≠ s.commit.gen → ∀ i ∈ commitIslands, (u.island i).gen = b.gen) ∧ u.stoker.jwait = false) ∧
  (∀ (s : State) (r : RingDir) (b : Octets),
    cellOk b = true ∧ cellType b = 9 →
    s.firstCopy b = true ∧ s.isOrigin b = false ∧ s.isDest b = true →
    s.stoker.st ≠ 0 →
    ∃ u, exec (.ringTrigger r b) s = .next u ∧
      u.pacer.mail = s.pacer.mail ++ [⟨Fin.ofNat 16 (cellAux b), .ring, ⟨cellDt b, cellWord b,
      BitVec.ofNat 16 (0x8000 + cellOrigin b * 1024 + cellAux b / 16 % 16)⟩⟩] ∧
        u.stoker.wait.length + u.stoker.out.length = s.stoker.wait.length + s.stoker.out.length + (if cellHops b = 15 then 0 else 1)) ∧
  (∀ (s : State) (r : RingDir) (b : Octets),
    cellOk b = true ∧ cellType b = 9 →
    s.firstCopy b = true ∧ s.isOrigin b = false ∧ s.isDest b = false →
    s.stoker.st ≠ 0 →
    ∃ u, exec (.ringTrigger r b) s = .next u ∧ u.pacer = s.pacer ∧
        u.stoker.wait.length + u.stoker.out.length = s.stoker.wait.length + s.stoker.out.length + (if cellHops b = 15 then 0 else 1))

/-- A REQUEST at the Captain makes it coordinator, floods PREPARE and arms its own islands, and is abandoned with BUSY while it
holds another (R337); a PREPARE arms a module's islands, or is answered BUSY where another commit does not give way (R337,
R338). A step's REQUEST and PREPARE put it to the checks of R252 and make it pending. The coordinator crosses an answer off,
floods CONFIRM once the last has armed in time, and ABANDON at the first that has not, or at its limit (R337). CONFIRM confirms
the commit or step that it names, and ABANDON refuses it with its cause (R337, R339); a module whose request brings no PREPARE
refuses it with LINK (R353). -/
def Obligations.StackCommitsComplete : Prop :=
  (∀ (s : State) (r : RingDir) (b : Octets),
    cellOk b = true ∧ cellType b = 4 →
    s.firstCopy b = true ∧ s.isOrigin b = false ∧ s.isDest b = true →
    cellSide b = s.pair.side →
    s.stoker.st = 3 ∧ s.stoker.coord = none →
    cellStep b = false →
    s.commit.pend = none ∧ s.noon.step = none →
    ∃ u, exec (.ringRequest r b) s = .next u ∧ u.stoker.coord.map (·.dtEff) = some (cellDt b) ∧
      u.stoker.coord.map (·.gen) = some (cellWord b) ∧
        u.stoker.coord.map (·.pos) = some (BitVec.ofNat 4 (cellOrigin b)) ∧
      u.commit.pend.map (·.dtEff) = some (cellDt b) ∧ u.commit.pend.map (·.gen) = some (cellWord b) ∧
        u.commit.state = 1 ∧ u.stoker.armed = some ⟨s.pair.side, s.stoker.pos.toNat, false, cellDt b, cellWord b, cellId b, false, false⟩ ∧
      u.stoker.wait.length + u.stoker.out.length = s.stoker.wait.length + s.stoker.out.length + 2 + (if cellHops b = 15 then 0 else 1)) ∧
  (∀ (s : State) (r : RingDir) (b : Octets),
    cellOk b = true ∧ cellType b = 4 →
    s.firstCopy b = true ∧ s.isOrigin b = false ∧ s.isDest b = true →
    cellSide b = s.pair.side →
    s.stoker.st = 3 ∧ s.stoker.coord = none →
    cellStep b = true →
    s.commit.pend = none ∧ s.noon.step = none →
    s.stepCheck (cellDt b) (cellId b).toInt 8192000 = 0 →
    ∃ u, exec (.ringRequest r b) s = .next u ∧ u.noon.step.map (fun q => (q.at_, q.d)) = some (cellDt b, (cellId b).toInt) ∧
      u.noon.stepState = 1 ∧ u.commit = s.commit) ∧
  (∀ (s : State) (r : RingDir) (b : Octets),
    cellOk b = true ∧ cellType b = 4 →
    s.firstCopy b = true ∧ s.isOrigin b = false ∧ s.isDest b = true →
    cellSide b = s.pair.side →
    s.stoker.st = 3 →
    s.holdsOther (cellStep b) (cellDt b) (cellWord b) = true →
    s.commit.pend.any (·.isFor (cellDt b) (cellWord b)) = false ∧ s.noon.step.any (·.isFor (cellDt b)) = false →
    ∃ u, exec (.ringRequest r b) s = .next u ∧ u.stoker.coord = s.stoker.coord ∧ u.commit = s.commit ∧
      u.noon.step = s.noon.step ∧ u.stoker.wait.length + u.stoker.out.length = s.stoker.wait.length + s.stoker.out.length + 2 + (if cellHops b = 15 then 0 else 1)) ∧
  (∀ (s : State) (r : RingDir) (b : Octets),
    cellOk b = true ∧ cellType b = 4 →
    s.firstCopy b = true ∧ s.isOrigin b = false ∧ s.isDest b = true →
    s.stoker.st ≠ 0 →
    s.stoker.st ≠ 3 ∨ cellSide b ≠ s.pair.side →
    ∃ u, exec (.ringRequest r b) s = .next u ∧ u.stoker.coord = s.stoker.coord ∧ u.commit = s.commit ∧
      u.noon = s.noon ∧ u.stoker.wait.length + u.stoker.out.length = s.stoker.wait.length + s.stoker.out.length + (if cellHops b = 15 then 0 else 1)) ∧
  (∀ (s : State) (r : RingDir) (b : Octets),
    cellOk b = true ∧ cellType b = 5 →
    s.firstCopy b = true ∧ s.isOrigin b = false ∧ s.isDest b = true →
    s.stacked = true ∧ s.stoker.coord = none →
    cellStep b = false →
    s.commit.pend = none →
    ∃ u, exec (.ringPrepare r b) s = .next u ∧
      u.stoker.armed = some ⟨cellSide b, cellOrigin b, false, cellDt b, cellWord b, 0, false, false⟩ ∧
      u.commit.pend.map (·.dtEff) = some (cellDt b) ∧ u.commit.pend.map (·.gen) = some (cellWord b) ∧
        u.commit.state = 1 ∧
      ∀ i ∈ commitIslands, (u.island i).inbox = (s.island i).inbox ++ [.prepare (cellDt b) (cellWord b) s.ownMasks]) ∧
  (∀ (s : State) (r : RingDir) (b : Octets) (p : PendingCommit),
    cellOk b = true ∧ cellType b = 5 →
    s.firstCopy b = true ∧ s.isOrigin b = false ∧ s.isDest b = true →
    s.stacked = true ∧ s.stoker.coord = none ∧ s.stoker.armed = none →
    cellStep b = false →
    s.commit.pend = some p ∧ p.isFor (cellDt b) (cellWord b) = true →
    ∃ u, exec (.ringPrepare r b) s = .next u ∧
      u.stoker.armed = some ⟨cellSide b, cellOrigin b, false, cellDt b, cellWord b, 0, false, false⟩ ∧
      u.commit.pend.map (·.src) = some p.src ∧ u.commit.state = 1 ∧
      ∀ i ∈ commitIslands, (u.island i).inbox = (s.island i).inbox ++ [.prepare (cellDt b) (cellWord b) p.own]) ∧
  (∀ (s : State) (r : RingDir) (b : Octets) (p : PendingCommit),
    cellOk b = true ∧ cellType b = 5 →
    s.firstCopy b = true ∧ s.isOrigin b = false ∧ s.isDest b = true →
    s.stacked = true ∧ s.stoker.coord = none →
    cellStep b = false →
    s.commit.pend = some p ∧ p.isFor (cellDt b) (cellWord b) = false →
    s.yields p ⟨cellSide b, cellOrigin b, false, cellDt b, cellWord b, 0, false, false⟩ = false →
    ∃ u, exec (.ringPrepare r b) s = .next u ∧ u.stoker.armed = s.stoker.armed ∧ u.commit = s.commit ∧
      u.stoker.wait.length + u.stoker.out.length = s.stoker.wait.length + s.stoker.out.length + 2 + (if cellHops b = 15 then 0 else 1)) ∧
  (∀ (s : State) (r : RingDir) (b : Octets) (p : PendingCommit),
    cellOk b = true ∧ cellType b = 5 →
    s.firstCopy b = true ∧ s.isOrigin b = false ∧ s.isDest b = true →
    s.stacked = true ∧ s.stoker.coord = none →
    cellStep b = false →
    s.commit.pend = some p ∧ p.isFor (cellDt b) (cellWord b) = false →
    s.yields p ⟨cellSide b, cellOrigin b, false, cellDt b, cellWord b, 0, false, false⟩ = true →
    ∃ u, exec (.ringPrepare r b) s = .next u ∧
      u.stoker.armed = some ⟨cellSide b, cellOrigin b, false, cellDt b, cellWord b, 0, false, false⟩ ∧
      u.commit.pend.map (·.dtEff) = some (cellDt b) ∧ u.commit.pend.map (·.src) = some .remote ∧ u.commit.state = 1 ∧
      ⟨253, causeWord 3 0xFF p.gen.toNat, p.dtEff, false⟩ ∈ u.occs) ∧
  (∀ (s : State) (r : RingDir) (b : Octets),
    cellOk b = true ∧ cellType b = 5 →
    s.firstCopy b = true ∧ s.isOrigin b = false ∧ s.isDest b = true →
    s.stacked = true ∧ s.stoker.coord = none →
    cellStep b = true →
    s.noon.step = none ∧ s.stepCheck (cellDt b) (cellId b).toInt 8192000 = 0 →
    ∃ u, exec (.ringPrepare r b) s = .next u ∧
      u.stoker.armed = some ⟨cellSide b, cellOrigin b, true, cellDt b, cellWord b, cellId b, true, false⟩ ∧
      u.noon.step = some ⟨cellDt b, (cellId b).toInt, false, false, .stack, false⟩ ∧ u.noon.stepState = 1 ∧
      u.stoker.wait.length + u.stoker.out.length = s.stoker.wait.length + s.stoker.out.length + 2 + (if cellHops b = 15 then 0 else 1)) ∧
  (∀ (s : State) (r : RingDir) (b : Octets) (q : CoordRec),
    cellOk b = true ∧ cellType b = 6 →
    s.firstCopy b = true ∧ s.isOrigin b = false ∧ s.isDest b = true →
    s.stoker.st ≠ 0 →
    s.stoker.coord = some q ∧ q.dtEff = cellDt b →
    (cellOrigin b, cellSide b) ∈ q.awaiting →
    bit (cellWord b) 0 = true →
    dtLe (s.replica islStoker) q.limit = true →
    q.awaiting.filter (· != (cellOrigin b, cellSide b)) ≠ [] →
    ∃ u, exec (.ringAnswer r b) s = .next u ∧
      u.stoker.coord = some { q with awaiting := q.awaiting.filter (· != (cellOrigin b, cellSide b)) } ∧
      u.commit = s.commit) ∧
  (∀ (s : State) (r : RingDir) (b : Octets) (q : CoordRec),
    cellOk b = true ∧ cellType b = 6 →
    s.firstCopy b = true ∧ s.isOrigin b = false ∧ s.isDest b = true →
    s.stoker.st ≠ 0 ∧ s.stoker.st ≠ 6 →
    s.stoker.coord = some q ∧ q.dtEff = cellDt b →
    (cellOrigin b, cellSide b) ∈ q.awaiting →
    bit (cellWord b) 0 = true →
    q.awaiting.filter (· != (cellOrigin b, cellSide b)) = [] →
    dtLe (s.replica islStoker) q.limit = true →
    ∃ u, exec (.ringAnswer r b) s = .next u ∧ u.stoker.coord = none ∧
      u.stoker.wait.length + u.stoker.out.length = s.stoker.wait.length + s.stoker.out.length + 2 + (if cellHops b = 15 then 0 else 1)) ∧
  (∀ (s : State) (r : RingDir) (b : Octets) (q : CoordRec),
    cellOk b = true ∧ cellType b = 6 →
    s.firstCopy b = true ∧ s.isOrigin b = false ∧ s.isDest b = true →
    s.stoker.st ≠ 0 ∧ s.stoker.st ≠ 6 →
    s.stoker.coord = some q ∧ q.dtEff = cellDt b →
    bit (cellWord b) 0 = false →
    ∃ u, exec (.ringAnswer r b) s = .next u ∧ u.stoker.coord = none ∧
      u.stoker.wait.length + u.stoker.out.length = s.stoker.wait.length + s.stoker.out.length + 2 + (if cellHops b = 15 then 0 else 1) ∧
      (s.commit.pend.any (·.isFor q.dtEff q.gen) = true → u.commit.pend = none ∧ u.commit.state = 3 ∧ u.commit.cause = 7 ∧
        u.commit.pos = BitVec.ofNat 4 (cellOrigin b))) ∧
  (∀ (s : State) (r : RingDir) (b : Octets) (a : ArmedRec) (p : PendingCommit),
    cellOk b = true ∧ cellType b = 7 →
    s.firstCopy b = true ∧ s.isOrigin b = false ∧ s.isDest b = true →
    s.stoker.st ≠ 0 →
    s.stoker.armed = some a ∧ a.dtEff = cellDt b ∧ a.gen = cellWord b ∧ a.step = false →
    s.commit.pend = some p ∧ p.isFor (cellDt b) (cellWord b) = true ∧ p.armedAll = true →
    ∃ u, exec (.ringConfirm r b) s = .next u ∧ u.stoker.armed = none ∧
      u.commit.pend = some { p with confirmed := true } ∧
      ∀ i ∈ commitIslands, (u.island i).inbox = (s.island i).inbox ++ [.confirm]) ∧
  (∀ (s : State) (r : RingDir) (b : Octets) (a : ArmedRec) (q : StepReq),
    cellOk b = true ∧ cellType b = 7 →
    s.firstCopy b = true ∧ s.isOrigin b = false ∧ s.isDest b = true →
    s.stoker.st ≠ 0 →
    s.stoker.armed = some a ∧ a.dtEff = cellDt b ∧ a.gen = cellWord b ∧ a.step = true →
    s.noon.step = some q ∧ q.isFor (cellDt b) = true →
    ∃ u, exec (.ringConfirm r b) s = .next u ∧ u.stoker.armed = none ∧
      u.noon.step = some { q with confirmed := true } ∧ u.commit = s.commit) ∧
  (∀ (s : State) (r : RingDir) (b : Octets) (p : PendingCommit),
    cellOk b = true ∧ cellType b = 8 →
    s.firstCopy b = true ∧ s.isOrigin b = false ∧ s.isDest b = true →
    s.stoker.st ≠ 0 →
    s.commit.pend = some p ∧ p.isFor (cellDt b) (cellWord b) = true →
    ∃ u, exec (.ringAbandon r b) s = .next u ∧ u.commit.pend = none ∧ u.commit.state = 3 ∧
      u.commit.cause = BitVec.ofNat 4 (cellAux b % 16) ∧ u.commit.gen = s.commit.gen) ∧
  (∀ (s : State) (r : RingDir) (b : Octets) (q : StepReq),
    cellOk b = true ∧ cellType b = 8 →
    s.firstCopy b = true ∧ s.isOrigin b = false ∧ s.isDest b = true →
    s.stoker.st ≠ 0 →
    s.noon.step = some q ∧ q.isFor (cellDt b) = true ∧ q.confirmed = false ∧ q.auto = false →
    ∃ u, exec (.ringAbandon r b) s = .next u ∧ u.noon.step = none ∧ u.noon.stepState = 3 ∧ u.noon.stepCause = 7) ∧
  (∀ (s : State) (q : CoordRec),
    s.stoker.st ≠ 6 →
    s.stoker.coord = some q →
    dtLe q.limit (s.replica islStoker) = true →
    ∃ u, exec .coordinatorDeadline s = .next u ∧ u.stoker.coord = none ∧
      u.stoker.wait.length + u.stoker.out.length = s.stoker.wait.length + s.stoker.out.length + 2 ∧ u.commit.gen = s.commit.gen) ∧
  (∀ (s : State) (p : PendingCommit),
    s.stoker.coord = none →
    s.commit.pend = some p ∧ p.reach ≠ .alone ∧ p.awaiting = [] ∧ p.armedAll = false →
    dtLe (coordLimit p.reach p.dtEff) (s.replica islStoker) = true →
    ∃ u, exec .coordinatorDeadline s = .next u ∧ u.commit.pend = none ∧ u.commit.state = 3 ∧ u.commit.cause = 8 ∧
      u.commit.pos = s.stoker.captPos)

/-- At a due heartbeat instant a Heartbeat PDU leaves, with the DT of its leaving and the module's token state (R343). One that fits is
noted with its token state; a standby module takes the token from a partner in BRAKE, and the active one of side B gives way to an
active partner (R346); its time part is kept for the next exchange (R343). From another position or side it takes the lane down
(R342), and one that does not fit is counted (R354). A Relay frame's trigger sets out for its thread, its BEACON of the other side
is kept and flooded, and a cell for others is flooded only (R335, R336, R342). Two microseconds without a heartbeat are MISSING,
and where the net is wrong too, a standby module takes the token (R346). A mismatch of an edge or of a level is counted and makes
the net wrong, and its end is reported (R345). A partner in STANDBY for 2 us, 3 us on side B, leaves the token to this module
(R346). A handover is checked and, at its instant, switched (R348). -/
def Obligations.PairTokenCompletes : Prop :=
  (∀ (s : State),
    s.paired = true ∧ s.dtRuns = true ∧ s.pcieUp = true →
    s.due islPair s.pair.hbAt = true →
    ∃ u, exec .heartbeatTimer s = .next u ∧ u.pair.out.length = s.pair.out.length + 1 ∧
      u.pair.out.take s.pair.out.length = s.pair.out ∧
      u.pair.out.getLast?.map (fun f => leAt f 30 10) = some s.now.toNat ∧
      u.pair.out.getLast?.map (fun f => leAt f 40 1) = some (s.pair.token.code + 4 * b1 s.netWrong) ∧
      u.pair.seqHb = s.pair.seqHb + 1 ∧
      u.pair.hbAt = BitVec.ofNat 80 ((s.dt.toNat / 4096000 + 1) * 4096000) ∧ u.pair.token = s.pair.token) ∧
  (∀ (s : State),
    s.paired = false ∨ s.due islPair s.pair.hbAt = false →
    exec .heartbeatTimer s = .next s) ∧
  (∀ (s : State) (b : Octets),
    s.paired = true ∧ s.pair.block = true →
    heartbeatOk b = true →
    leAt b 0x1B 1 = s.stoker.pos.toNat + 16 * b1 (!s.pair.side) →
    pduFlags b = 0 →
    s.inDay = false ∨ ¬ (s.pair.token = .standby ∧ leAt b 0x1A 1 % 4 = 3) ∧
    ¬ (s.pair.token = .active ∧ s.pair.side = true ∧ leAt b 0x1A 1 % 4 = 2) →
    ∃ u, exec (.heartbeat b) s = .next u ∧ u.pair.heard = true ∧ u.pair.hb = true ∧ u.pair.lastHb = s.clock ∧
      u.pair.lastTx = BitVec.ofNat 80 (leAt b 0x10 10) ∧ u.pair.ptoken = BitVec.ofNat 2 (leAt b 0x1A 1 % 4) ∧ u.pair.token = s.pair.token ∧ u.noon = s.noon ∧
      u.pair.lane = (s.pair.lane || s.pair.lockFrom.any fun t => decide (t + ftMs ≤ s.clock))) ∧
  (∀ (s : State) (b : Octets),
    s.paired = true ∧ s.pair.block = true →
    heartbeatOk b = true →
    leAt b 0x1B 1 = s.stoker.pos.toNat + 16 * b1 (!s.pair.side) →
    pduFlags b = 0 →
    s.inDay = true →
    s.pair.token = .standby ∧ leAt b 0x1A 1 % 4 = 3 →
    ∃ u, exec (.heartbeat b) s = .next u ∧ u.pair.heard = true ∧ u.pair.hb = true ∧ u.pair.lastHb = s.clock ∧
      u.pair.lastTx = BitVec.ofNat 80 (leAt b 0x10 10) ∧ u.pair.ptoken = BitVec.ofNat 2 (leAt b 0x1A 1 % 4) ∧ u.pair.token = .active ∧
      u.pair.takes = s.pair.takes + 1) ∧
  (∀ (s : State) (b : Octets),
    s.paired = true ∧ s.pair.block = true →
    heartbeatOk b = true →
    leAt b 0x1B 1 = s.stoker.pos.toNat + 16 * b1 (!s.pair.side) →
    pduFlags b = 0 →
    s.inDay = true →
    s.pair.token = .active ∧ s.pair.side = true ∧ leAt b 0x1A 1 % 4 = 2 →
    ∃ u, exec (.heartbeat b) s = .next u ∧ u.pair.heard = true ∧ u.pair.hb = true ∧ u.pair.lastHb = s.clock ∧
      u.pair.lastTx = BitVec.ofNat 80 (leAt b 0x10 10) ∧ u.pair.ptoken = BitVec.ofNat 2 (leAt b 0x1A 1 % 4) ∧ u.pair.token = .standby ∧
      u.pair.releases = s.pair.releases + 1) ∧
  (∀ (s : State) (b : Octets),
    s.paired = true ∧ s.pair.block = true →
    heartbeatOk b = true →
    leAt b 0x1B 1 = s.stoker.pos.toNat + 16 * b1 (!s.pair.side) →
    pduFlags b = 1 ∧ s.dtRuns = true →
    ∃ u, exec (.heartbeat b) s = .next u ∧ u.pair.heard = true ∧ u.pair.hb = true ∧ u.pair.lastHb = s.clock ∧
      u.pair.lastTx = BitVec.ofNat 80 (leAt b 0x10 10) ∧ u.pair.ptoken = BitVec.ofNat 2 (leAt b 0x1A 1 % 4) ∧
      u.pair.est.got = some (BitVec.ofNat 16 (pduSeq b), BitVec.ofNat 80 (leAt b 0x10 10), s.now, s.outage) ∧
      u.pair.ptxlat = leAt b 0x38 4 ∧ u.pair.prxlat = leAt b 0x3C 4) ∧
  (∀ (s : State) (b : Octets),
    s.paired = true ∧ s.pair.block = true →
    heartbeatOk b = true →
    leAt b 0x1B 1 ≠ s.stoker.pos.toNat + 16 * b1 (!s.pair.side) →
    ∃ u, exec (.heartbeat b) s = .next u ∧ u.pair.lane = false ∧ u.pair.posOk = false ∧ u.pair.token = s.pair.token ∧
      u.pair.hb = s.pair.hb) ∧
  (∀ (s : State) (b : Octets),
    s.paired = true ∧ s.pair.block = true →
    heartbeatOk b = false →
    ∃ u, exec (.heartbeat b) s = .next u ∧ u.pair = { s.pair with badFrame := s.pair.badFrame + 1 } ∧
      (s.evFull 241 = false → ⟨241, causeWord 5 0 0, s.now, s.outage⟩ ∈ u.occs)) ∧
  (∀ (s : State) (b : Octets),
    s.paired = false ∨ s.pair.block = false →
    exec (.heartbeat b) s = .next s) ∧
  (∀ (s : State) (b c : Octets),
    s.paired = true ∧ s.pair.block = true ∧ s.pair.lane = true →
    headOk b 0x11 48 0 = true ∧ c = slice b 16 32 →
    cellOk c = true ∧ cellType c = 9 →
    s.firstCopy c = true ∧ s.isDest c = true →
    ∃ u, exec (.relayFrame b) s = .next u ∧ u.stoker.out = s.stoker.out ∧ u.stoker.wait = s.stoker.wait ∧
      u.pacer.mail = s.pacer.mail ++ [⟨Fin.ofNat 16 (cellAux c), .pair, ⟨cellDt c, cellWord c,
      BitVec.ofNat 16 (0xC000 + cellAux c / 16 % 16)⟩⟩]) ∧
  (∀ (s : State) (b c : Octets),
    s.paired = true ∧ s.pair.block = true ∧ s.pair.lane = true →
    headOk b 0x11 48 0 = true ∧ c = slice b 16 32 →
    cellOk c = true ∧ cellType c = 1 →
    s.firstCopy c = true ∧ s.isDest c = true →
    cellSide c ≠ s.pair.side →
    s.stoker.st ≠ 0 →
    ∃ u, exec (.relayFrame b) s = .next u ∧ u.stoker.wait.length + u.stoker.out.length = s.stoker.wait.length + s.stoker.out.length + 2 ∧
      u.stoker.otherBeacon = some (s.clock, cellWord c)) ∧
  (∀ (s : State) (b c : Octets),
    s.paired = true ∧ s.pair.block = true ∧ s.pair.lane = true →
    headOk b 0x11 48 0 = true ∧ c = slice b 16 32 →
    cellOk c = true ∧ cellType c ≠ 9 →
    s.firstCopy c = true ∧ s.isDest c = false →
    s.stoker.st ≠ 0 →
    ∃ u, exec (.relayFrame b) s = .next u ∧ u.stoker.wait.length + u.stoker.out.length = s.stoker.wait.length + s.stoker.out.length + 2 ∧
      u.stoker.otherBeacon = s.stoker.otherBeacon ∧ u.commit = s.commit ∧ u.pacer = s.pacer) ∧
  (∀ (s : State) (b c : Octets),
    s.paired = true ∧ s.pair.block = true ∧ s.pair.lane = true →
    headOk b 0x11 48 0 = true ∧ c = slice b 16 32 →
    cellOk c = false →
    ∃ u, exec (.relayFrame b) s = .next u ∧ u.stoker = { s.stoker with badCell := s.stoker.badCell + 1 } ∧
      (s.evFull 240 = false → ⟨240, causeWord 2 0 0, s.now, s.outage⟩ ∈ u.occs)) ∧
  (∀ (s : State) (b : Octets),
    s.paired = true ∧ s.pair.block = true →
    headOk b 0x11 48 0 = false →
    ∃ u, exec (.relayFrame b) s = .next u ∧ u.pair = { s.pair with badFrame := s.pair.badFrame + 1 } ∧ u.stoker = s.stoker) ∧
  (∀ (s : State),
    s.pair.hb = true →
    s.pair.lastHb + 8192000 ≤ s.clock →
    s.inDay = false ∨ s.pair.token ≠ .standby ∨ s.netWrong = false ∨ s.pair.heard = false ∧ s.pair.side = true →
    ∃ u, exec .heartbeatMissing s = .next u ∧
      u.pair = { s.pair with hb := false, hbMiss := s.pair.hbMiss + 1, partnerStandbyFrom := none } ∧
      (s.evFull 243 = false → ⟨243, causeWord 1 0 0, s.now, s.outage⟩ ∈ u.occs)) ∧
  (∀ (s : State),
    s.pair.hb = true →
    s.pair.lastHb + 8192000 ≤ s.clock →
    s.inDay = true ∧ s.pair.token = .standby ∧ s.netWrong = true ∧ s.pair.heard = true →
    ∃ u, exec .heartbeatMissing s = .next u ∧ u.pair.token = .active ∧ u.pair.hb = false ∧
      u.pair.hbMiss = s.pair.hbMiss + 1 ∧ u.pair.takes = s.pair.takes + 1 ∧
      u.pair.gapDt = s.pair.lastTx) ∧
  (∀ (s : State),
    s.pair.hb = false ∨ s.clock < s.pair.lastHb + 8192000 →
    exec .heartbeatMissing s = .next s) ∧
  (∀ (s : State) (i : SpokeId),
    s.inDay = true ∧ s.watches i = true →
    s.differsFor i s.evLvl (s.spoke i).evFrom = true →
    (s.pair.token = .active ∨ (s.pair.heard = true → s.pair.hb = true) ∧ (s.pair.heard = false → s.pair.side = true)) →
    ∃ u, exec (.evidenceMismatch i true) s = .next u ∧
      u.pair = { s.pair with mismatch := s.pair.mismatch + 1, lastMis := some s.clock, evid := true } ∧
      (u.spoke i).evFrom = some s.dt ∧
      (s.pair.evid = true ∨ (s.evFull 244 = false → ⟨244, causeWord 1 i.val 0, s.now, s.outage⟩ ∈ u.occs))) ∧
  (∀ (s : State) (i : SpokeId) (e : DT × Bool),
    s.inDay = true ∧ s.watches i = true →
    s.unanswered i = some e →
    (s.pair.token = .active ∨ (s.pair.heard = true → s.pair.hb = true) ∧ (s.pair.heard = false → s.pair.side = true)) →
    ∃ u, exec (.evidenceMismatch i false) s = .next u ∧
      u.pair = { s.pair with mismatch := s.pair.mismatch + 1, lastMis := some s.clock, evid := true } ∧
      (u.spoke i).evOwn = (s.spoke i).evOwn.erase e ∧
      (s.pair.evid = true ∨ (s.evFull 244 = false → ⟨244, causeWord 1 i.val 0, s.now, s.outage⟩ ∈ u.occs))) ∧
  (∀ (s : State) (i : SpokeId),
    s.inDay = true ∧ s.watches i = true →
    s.differsFor i s.evLvl (s.spoke i).evFrom = true →
    s.pair.token = .standby ∧ (if s.pair.heard then s.pair.hb = false else s.pair.side = false) →
    ∃ u, exec (.evidenceMismatch i true) s = .next u ∧ u.pair.mismatch = s.pair.mismatch + 1 ∧
      u.pair.lastMis = some s.clock ∧ u.pair.token = .active ∧ u.pair.takes = s.pair.takes + 1) ∧
  (∀ (s : State) (i : SpokeId),
    s.inDay = true ∧ s.watches i = true →
    (s.unanswered i).isSome = true →
    s.pair.token = .standby ∧ (if s.pair.heard then s.pair.hb = false else s.pair.side = false) →
    ∃ u, exec (.evidenceMismatch i false) s = .next u ∧ u.pair.mismatch = s.pair.mismatch + 1 ∧
      u.pair.lastMis = some s.clock ∧ u.pair.token = .active ∧ u.pair.takes = s.pair.takes + 1) ∧
  (∀ (s : State) (i : SpokeId) (l : Bool),
    s.inDay = false ∨ s.watches i = false ∨ (if l then s.differsFor i s.evLvl (s.spoke i).evFrom = false else s.unanswered i = none) →
    exec (.evidenceMismatch i l) s = .next s) ∧
  (∀ (s : State),
    s.pair.evid = true →
    s.netWrong = false →
    exec .netClear s = .next (raiseNow 244 2 0 0 { s with pair := { s.pair with evid := false } })) ∧
  (∀ (s : State),
    s.pair.evid = false ∨ s.netWrong = true →
    exec .netClear s = .next s) ∧
  (∀ (s : State) (t : Nat),
    s.pair.partnerStandbyFrom = some t →
    s.pair.token = .standby ∧ s.pair.hb = true →
    t + 8192000 + (if s.pair.side = true then 4096000 else 0) ≤ s.clock →
    ∃ u, exec .vacancyTimer s = .next u ∧ u.pair = { s.pair with token := .active, takes := s.pair.takes + 1 } ∧
      (s.evFull 242 = false → ⟨242, causeWord 1 (reasonCode 2) 0, s.now, s.outage⟩ ∈ u.occs)) ∧
  (∀ (s : State),
    s.pair.partnerStandbyFrom.all (fun t => decide (s.clock < t + 8192000 + (if s.pair.side = true then 4096000 else 0))) = true ∨
    s.pair.token ≠ .standby ∨ s.pair.hb = false →
    exec .vacancyTimer s = .next s) ∧
  (∀ (s : State) (h : DT),
    s.pair.hand = some h →
    s.paired = true ∧ s.pair.handOk = false →
    dtLe h (dtAdd s.dt 49152) = true →
    s.quiet h = true →
    exec .handoverCheck s = .next { s with pair := { s.pair with handOk := true } }) ∧
  (∀ (s : State) (h : DT),
    s.pair.hand = some h →
    s.paired = true ∧ s.pair.handOk = false →
    dtLe h (dtAdd s.dt 49152) = true →
    s.quiet h = false →
    exec .handoverCheck s = .next (raiseNow 242 3 0 0 { s with pair := { s.pair with hand := none } })) ∧
  (∀ (s : State),
    s.pair.handOk = true ∨ s.pair.hand.all (fun h => !dtLe h (dtAdd s.dt 49152)) = true →
    exec .handoverCheck s = .next s) ∧
  (∀ (s : State) (h : DT),
    s.pair.hand = some h ∧ s.pair.handOk = true →
    s.pair.token = .active →
    dtLe h (dtAdd s.dt 819) = true →
    ∃ u, exec .handoverSwitch s = .next u ∧
      u.pair = { s.pair with token := .standby, hand := none, handOk := false, releases := s.pair.releases + 1 } ∧
      (s.evFull 242 = false → ⟨242, causeWord 2 (reasonCode 4) 0, s.now, s.outage⟩ ∈ u.occs)) ∧
  (∀ (s : State) (h : DT),
    s.pair.hand = some h ∧ s.pair.handOk = true →
    s.pair.token = .standby →
    dtLe h s.dt = true →
    ∃ u, exec .handoverSwitch s = .next u ∧
      u.pair = { s.pair with token := .active, hand := none, handOk := false, takes := s.pair.takes + 1 } ∧
      (s.evFull 242 = false → ⟨242, causeWord 1 (reasonCode 4) 0, s.now, s.outage⟩ ∈ u.occs)) ∧
  (∀ (s : State) (h : DT),
    s.pair.hand = some h ∧ s.pair.handOk = true →
    s.pair.token ≠ .active ∧ s.pair.token ≠ .standby →
    dtLe h s.dt = true →
    exec .handoverSwitch s = .next { s with pair := { s.pair with hand := none, handOk := false } }) ∧
  (∀ (s : State),
    s.pair.handOk = false ∨ s.pair.hand = none →
    exec .handoverSwitch s = .next s)

/-- A kick is noted (R350). No kick for 2 us, a lost TCXO edge, a write of ENTER and, on the active side with SELFBRAKE, a level of
the net that has differed for 1 us set Brake with their causes, and what stands in Brake stays as it is (R350). EXIT ends Brake
where no cause holds, in STANDBY or NONE, a standby module taking the token at once where R346 has it do so, and is refused where
one does (R351). Block lock of the Pair lane is noted, and its loss takes the lane down (R342). -/
def Obligations.BrakeCompletes : Prop :=
  (∀ (s : State),
    s.pcieUp = true →
    exec .refereeKick s = .next { s with pair := { s.pair with kick := true, lastKick := s.clock } }) ∧
  (∀ (s : State),
    s.pcieUp = true →
    s.pair.lastKick + 8192000 ≤ s.clock →
    s.pair.brakeLine = false →
    ∃ u, exec .watchdogKickTimeout s = .next u ∧ u.pair.kick = false ∧ u.pair.token = .brake ∧ u.pair.brakeLine = true ∧
      u.pair.brakeCause = 1 ∧ u.pair.brakes = s.pair.brakes + 1 ∧
      (s.pair.token = .active → u.pair.releases = s.pair.releases + 1)) ∧
  (∀ (s : State),
    s.pcieUp = true →
    s.pair.lastKick + 8192000 ≤ s.clock →
    s.pair.brakeLine = true →
    exec .watchdogKickTimeout s = .next { s with pair := { s.pair with kick := false } }) ∧
  (∀ (s : State),
    s.clock < s.pair.lastKick + 8192000 →
    exec .watchdogKickTimeout s = .next s) ∧
  (∀ (s : State),
    s.pcieUp = true →
    s.pair.brakeLine = false →
    ∃ u, exec .tcxoLoss s = .next u ∧ u.pair.tcxo = false ∧ u.pair.token = .brake ∧ u.pair.brakeLine = true ∧
      u.pair.brakeCause = 3 ∧ u.pair.brakes = s.pair.brakes + 1 ∧
      (s.pair.token = .active → u.pair.releases = s.pair.releases + 1)) ∧
  (∀ (s : State),
    s.pcieUp = true →
    s.pair.brakeLine = true →
    exec .tcxoLoss s = .next { s with pair := { s.pair with tcxo := false } }) ∧
  (∀ (s : State) (i : SpokeId),
    s.paired = true ∧ s.inDay = true ∧ s.pair.token = .active →
    bit (s.act 0x3E000) 2 = true →
    s.watches i = true →
    s.differsFor i (max 4096000 s.evLvl) none = true →
    s.pair.brakeLine = false →
    ∃ u, exec .netfault s = .next u ∧ u.pair.token = .brake ∧ u.pair.brakeLine = true ∧
      u.pair.brakeCause = 5 ∧ u.pair.brakes = s.pair.brakes + 1 ∧
      (s.pair.token = .active → u.pair.releases = s.pair.releases + 1)) ∧
  (∀ (s : State),
    s.paired = false ∨ s.inDay = false ∨ s.pair.token ≠ .active ∨ bit (s.act 0x3E000) 2 = false →
    exec .netfault s = .next s) ∧
  (∀ (s : State),
    s.hostReach = true →
    s.pair.brakeLine = false →
    ∃ u, exec .brakeEnter s = .next u ∧ u.pair.token = .brake ∧ u.pair.brakeLine = true ∧
      u.pair.brakeCause = 4 ∧ u.pair.brakes = s.pair.brakes + 1 ∧
      (s.pair.token = .active → u.pair.releases = s.pair.releases + 1)) ∧
  (∀ (s : State),
    s.pair.brakeLine = true →
    exec .brakeEnter s = .next s) ∧
  (∀ (s : State),
    s.hostReach = true →
    s.brakeHolds = false ∧ s.pair.brakeLine = true →
    s.paired = false ∨ s.inDay = false ∨ (s.pair.heard = false ∨ s.pair.ptoken ≠ 3) ∧
    (s.netWrong = false ∨ (if s.pair.heard then s.pair.hb = true else s.pair.side = true)) →
    ∃ u, exec .brakeExit s = .next u ∧ u.pair = { s.pair with
        brakeLine := false, brakeCause := 0, token := if s.paired then .standby else .none, hand := s.handAfter
        handOk := s.handAfter.isSome && s.pair.handOk } ∧
      (s.evFull 245 = false → ⟨245, causeWord 2 0 0, s.now, s.outage⟩ ∈ u.occs)) ∧
  (∀ (s : State),
    s.hostReach = true →
    s.brakeHolds = false ∧ s.pair.brakeLine = true →
    s.paired = true ∧ s.inDay = true →
    s.pair.heard = true ∧ s.pair.ptoken = 3 ∨
    s.netWrong = true ∧ (if s.pair.heard then s.pair.hb = false else s.pair.side = false) →
    ∃ u, exec .brakeExit s = .next u ∧ u.pair.token = .active ∧ u.pair.brakeLine = false ∧ u.pair.brakeCause = 0 ∧
      u.pair.takes = s.pair.takes + 1) ∧
  (∀ (s : State),
    s.hostReach = true →
    s.brakeHolds = true →
    ∃ u, exec .brakeExit s = .next u ∧ u.pair = s.pair ∧
      (s.evFull 245 = false → ⟨245, causeWord 3 0 0, s.now, s.outage⟩ ∈ u.occs)) ∧
  (∀ (s : State),
    s.brakeHolds = false ∧ s.pair.brakeLine = false →
    exec .brakeExit s = .next s) ∧
  (∀ (s : State),
    s.pcieUp = true →
    exec (.blockLockGained .pair) s = .next { s with pair := { s.pair with
        block := true, lockFrom := if s.pair.block then s.pair.lockFrom else some s.clock } }) ∧
  (∀ (s : State),
    s.pcieUp = true →
    ∃ u, exec (.blockLockLost .pair) s = .next u ∧
      u.pair = { s.pair with block := false, lockFrom := none, posOk := false, lane := false } ∧
      (s.pair.lane = true → s.evFull 241 = false → ⟨241, causeWord 2 0 0, s.now, s.outage⟩ ∈ u.occs))

/-- A valid doorbell stores its index and an invalid one leaves the ring as it was, counts, and raises BADDB; a doorbell of the
other direction is none (R363). A ring is enabled with both indices 0 where its LOG2 and BASE are valid, an FLR record that waited
for it being its first, and stays disabled with BADCFG where not; one that is enabled takes WBEN only (R358, R364). Disabling
leaves the indices and BASE, and the entries accepted for the ring are still written (R364, R365). A host reset writes what is
accepted, disables every ring, masks every vector, gives EV_CFG and configuration space their reset values, and sets EV_STAT's bit
of Handlebar (R356, R358). -/
def Obligations.DoorbellsAndEnablesComplete : Prop :=
  (∀ (s : State) (q : RingId) (n : BitVec 16),
    s.hostReach = true →
    hostToDevice q false = true →
    (s.ring q false).en = true →
    (n - (s.ring q false).cons).toNat ≤ 2 ^ (s.ring q false).log2.toNat →
    (n - (s.ring q false).prod).toNat ≤ (n - (s.ring q false).cons).toNat →
    exec (.prodDoorbell q n) s = .next (s.setRing q false { s.ring q false with prod := n })) ∧
  (∀ (s : State) (q : RingId) (n : BitVec 16),
    s.hostReach = true →
    hostToDevice q false = true →
    (s.ring q false).en = false ∨ 2 ^ (s.ring q false).log2.toNat < (n - (s.ring q false).cons).toNat ∨
    (n - (s.ring q false).cons).toNat < (n - (s.ring q false).prod).toNat →
    exec (.prodDoorbell q n) s = .next (raiseNow 255 1 (64 + q.val) 0 { s with hb := { s.hb with badDb := s.hb.badDb + 1 } })) ∧
  (∀ (s : State) (q : RingId) (n : BitVec 16),
    hostToDevice q false = false →
    exec (.prodDoorbell q n) s = .next s) ∧
  (∀ (s : State) (q : RingId) (rx : Bool) (n : BitVec 16),
    s.hostReach = true →
    hostToDevice q rx = false ∧ rxOk q rx = true →
    (s.ring q rx).en = true →
    (n - (s.ring q rx).cons).toNat ≤ ((s.ring q rx).prod - (s.ring q rx).cons).toNat →
    exec (.consDoorbell q rx n) s = .next (s.setRing q rx { s.ring q rx with cons := n })) ∧
  (∀ (s : State) (q : RingId) (rx : Bool) (n : BitVec 16),
    s.hostReach = true →
    hostToDevice q rx = false ∧ rxOk q rx = true →
    (s.ring q rx).en = false ∨ ((s.ring q rx).prod - (s.ring q rx).cons).toNat < (n - (s.ring q rx).cons).toNat →
    exec (.consDoorbell q rx n) s = .next (raiseNow 255 1 (64 + q.val) 0 { s with hb := { s.hb with badDb := s.hb.badDb + 1 } })) ∧
  (∀ (s : State) (q : RingId) (rx : Bool) (n : BitVec 16),
    hostToDevice q rx = true ∨ rxOk q rx = false →
    exec (.consDoorbell q rx n) s = .next s) ∧
  (∀ (s : State) (q : RingId) (rx : Bool) (w : Word),
    s.hostReach = true →
    rxOk q rx = true →
    (s.ring q rx).en = false →
    4 ≤ fld w 0 4 ∧ fld w 0 4 ≤ 15 ∧ (s.ring q rx).base.toNat % 4096 = 0 →
    s.hb.flrHeld = none ∨ (s.evCfgNow 255).getLsbD 10 = false ∨ evRing (s.evCfgNow 255) ≠ q →
    ∃ u, exec (.ringEnable q rx w) s = .next u ∧ (u.ring q rx).en = true ∧ (u.ring q rx).prod = 0 ∧
      (u.ring q rx).cons = 0 ∧
      (u.ring q rx).log2 = BitVec.ofNat 4 (fld w 0 4) ∧ (u.ring q rx).wben = bit w 5 ∧ (u.ring q rx).err = false ∧
      (u.ring q rx).base = (s.ring q rx).base ∧ (u.ring q rx).drops = (s.ring q rx).drops) ∧
  (∀ (s : State) (q : RingId) (w : Word),
    s.hostReach = true →
    (s.ring q false).en = false →
    4 ≤ fld w 0 4 ∧ fld w 0 4 ≤ 15 ∧ (s.ring q false).base.toNat % 4096 = 0 →
    s.hb.flrHeld.isSome = true ∧ (s.evCfgNow 255).getLsbD 10 = true ∧ evRing (s.evCfgNow 255) = q →
    s.accepted q false < 16 ∧ s.bufOctets + 16 ≤ 32768 →
    ∃ u, exec (.ringEnable q false w) s = .next u ∧ (u.ring q false).en = true ∧ (u.ring q false).prod = 1 ∧
      (u.ring q false).cons = 0 ∧ u.hb.flrHeld = none ∧ u.posted.length = s.posted.length + 1 ∧
      u.posted.getLast?.map (·.addr) = some (s.ring q false).base) ∧
  (∀ (s : State) (q : RingId) (rx : Bool) (w : Word),
    s.hostReach = true →
    rxOk q rx = true →
    (s.ring q rx).en = false →
    fld w 0 4 < 4 ∨ (s.ring q rx).base.toNat % 4096 ≠ 0 →
    exec (.ringEnable q rx w) s = .next (raiseNow 255 3 (64 + q.val) 0 (s.setRing q rx { s.ring q rx with
        log2 := BitVec.ofNat 4 (fld w 0 4), wben := bit w 5, err := false }))) ∧
  (∀ (s : State) (q : RingId) (rx : Bool) (w : Word),
    s.hostReach = true →
    rxOk q rx = true →
    (s.ring q rx).en = true →
    exec (.ringEnable q rx w) s = .next (s.setRing q rx { s.ring q rx with wben := bit w 5 })) ∧
  (∀ (s : State) (q : RingId) (rx : Bool) (w : Word),
    s.hostReach = true →
    rxOk q rx = true →
    ∃ u, exec (.ringDisable q rx w) s = .next u ∧ (u.ring q rx).en = false ∧ (u.ring q rx).wben = bit w 5 ∧
      (u.ring q rx).base = (s.ring q rx).base ∧ (u.ring q rx).cons = (s.ring q rx).cons ∧
      (u.ring q rx).prod = (s.ring q rx).prod + BitVec.ofNat 16 (s.accepted q rx) ∧
      u.posted.length = s.posted.length + s.accepted q rx ∧ u.accepted q rx = 0 ∧
      (u.ring q rx).log2 = if (s.ring q rx).en then (s.ring q rx).log2 else BitVec.ofNat 4 (fld w 0 4)) ∧
  (∀ (s : State),
    s.pcieUp = true →
    ∃ u, exec .hostReset s = .next u ∧ (∀ q : RingId, (u.ring q false).en = false ∧ (u.ring q false).prod = 0 ∧
      (u.ring q false).cons = 0) ∧ (∀ q : RingId, (u.ring q true).en = false) ∧
      (∀ v : VecId, (u.vec v).mask = true ∧ (u.vec v).pba = false) ∧ (∀ e : EventId, u.evCfgNow e = evCfgReset e.val) ∧
      u.hb.cfg = PciCfg.reset ∧ u.hb.evStat = s.hb.evStat ||| (1#256 <<< 255) ∧
      u.hb.flrHeld = some (s.now, s.outage) ∧ u.spokes = s.spokes ∧ u.isl = s.isl ∧ u.mem = s.mem ∧
      u.posted.length = s.posted.length + (s.outbox.filter (·.taken)).length)

/-- An entry fetched from the next address of its ring reaches its consumer, and one of a command ring is then consumed, unless it
dates from before the ring was enabled again; where the consumer has no room it is not fetched (R362 to R364). A failed fetch of an
entry stops its ring with ERR and DMAERR, and one of a stream fill ends the fill too (R368). An entry for a device-to-host ring is
accepted by the write buffer where the ring is enabled and has room, and is then written at its producer's place, with DROP where a
capture record was dropped before it; else it is dropped and counted (R74, R363, R365). The FLR record is written once it can be
(R358). A writeback puts the index the device owns, and DROPS, at WB (R367). -/
def Obligations.RingTrafficCompletes : Prop :=
  (∀ (s : State) (q : RingId) (a : BitVec 64) (b : Octets) (p : ThreadId),
    s.pcieUp = true →
    q.val = 32 + p.val →
    (s.ring q false).en = true ∧ (s.ring q false).fetched ≠ (s.ring q false).prod →
    a = s.fetchAddr q →
    b.length = 32 →
    s.clocked = true ∧ (s.thread p).cmdIn.length < 4 →
    (s.ring q false).stale = 0 →
    ∃ u, exec (.ringFetch q ⟨a, b⟩) s = .next u ∧ u.thread p = { s.thread p with cmdIn := (s.thread p).cmdIn ++ [b] } ∧
      u.ring q false = { s.ring q false with
      fetched := (s.ring q false).fetched + 1, cons := (s.ring q false).cons + 1
      wbDue := (s.ring q false).wbDue || (s.ring q false).wben }) ∧
  (∀ (s : State) (q : RingId) (a : BitVec 64) (b : Octets) (p : ThreadId),
    s.pcieUp = true →
    q.val = 32 + p.val →
    (s.ring q false).en = true ∧ (s.ring q false).fetched ≠ (s.ring q false).prod →
    a = s.fetchAddr q →
    b.length = 32 →
    s.clocked = true ∧ (s.thread p).cmdIn.length < 4 →
    (s.ring q false).stale ≠ 0 →
    ∃ u, exec (.ringFetch q ⟨a, b⟩) s = .next u ∧ u.thread p = { s.thread p with cmdIn := (s.thread p).cmdIn ++ [b] } ∧
      u.ring q false = { s.ring q false with
      fetched := (s.ring q false).fetched + 1, stale := (s.ring q false).stale - 1 }) ∧
  (∀ (s : State) (q : RingId) (a : BitVec 64) (b : Octets) (c : PortId),
    s.pcieUp = true →
    q.val = 48 + c.val →
    (s.ring q false).en = true ∧ (s.ring q false).fetched ≠ (s.ring q false).prod →
    a = s.fetchAddr q →
    b.length = 256 →
    (s.port c).st = 5 ∧ (s.port c).msgIn.length < 4 →
    ∃ u, exec (.ringFetch q ⟨a, b⟩) s = .next u ∧ u.port c = { s.port c with msgIn := (s.port c).msgIn ++ [b] } ∧
      u.ring q false = { s.ring q false with fetched := (s.ring q false).fetched + 1 }) ∧
  (∀ (s : State) (q : RingId) (a : BitVec 64) (b : Octets) (v : EngineId),
    s.pcieUp = true →
    q.val = 60 + v.val →
    (s.ring q false).en = true ∧ (s.ring q false).fetched ≠ (s.ring q false).prod →
    a = s.fetchAddr q →
    b.length = 32 →
    s.clocked = true ∧ (s.engine v).feedIn.length < 4 →
    ∃ u, exec (.ringFetch q ⟨a, b⟩) s = .next u ∧ u.engine v = { s.engine v with feedIn := (s.engine v).feedIn ++ [b] } ∧
      u.ring q false = { s.ring q false with fetched := (s.ring q false).fetched + 1 }) ∧
  (∀ (s : State) (q : RingId) (a : BitVec 64) (b : Octets),
    hostToDevice q false = false ∨ (s.ring q false).en = false ∨ (s.ring q false).fetched = (s.ring q false).prod ∨
    a ≠ s.fetchAddr q ∨ b.length ≠ (if q.val < 48 ∨ 60 ≤ q.val then 32 else 256) →
    exec (.ringFetch q ⟨a, b⟩) s = .next s) ∧
  (∀ (s : State) (q : RingId),
    s.pcieUp = true →
    hostToDevice q false = true →
    (s.ring q false).en = true ∧ (s.ring q false).fetched ≠ (s.ring q false).prod →
    ∃ u, exec (.dmaReadError q) s = .next u ∧ u.ring q false = { s.ring q false with en := false, err := true } ∧
      u.engines = s.engines ∧ ⟨255, causeWord 2 (64 + q.val) 0, s.now, s.outage⟩ ∈ u.occs) ∧
  (∀ (s : State) (q : RingId) (v : EngineId),
    s.pcieUp = true →
    q.val = 60 + v.val →
    (s.ring q false).en = false ∨ (s.ring q false).fetched = (s.ring q false).prod →
    (s.engine v).fill.isSome = true →
    ∃ u, exec (.dmaReadError q) s = .next u ∧ u.ring q false = { s.ring q false with en := false, err := true } ∧
      u.engine v = { s.engine v with fill := none } ∧ ⟨255, causeWord 2 (64 + q.val) 0, s.now, s.outage⟩ ∈ u.occs) ∧
  (∀ (s : State) (q : RingId),
    hostToDevice q false = false ∨ ((s.ring q false).en = false ∨ (s.ring q false).fetched = (s.ring q false).prod) ∧
    (q.val < 60 ∨ (s.engine (Fin.ofNat 4 (q.val - 60))).fill = none) →
    exec (.dmaReadError q) s = .next s) ∧
  (∀ (s : State) (q : RingId) (rx : Bool) (e : OutEntry),
    s.pcieUp = true →
    hostToDevice q rx = false ∧ rxOk q rx = true →
    s.outbox.find? (fun e => e.q == q && e.rx == rx) = some e ∧ e.taken = true →
    ∃ u, exec (.ringEntryWrite q ⟨rx, true⟩) s = .next u ∧ u.outbox = s.outbox.erase e ∧
      u.posted = s.posted ++ [⟨BitVec.ofNat 64 ((s.ring q rx).base.toNat +
      e.bytes.length * ((s.ring q rx).prod.toNat % 2 ^ (s.ring q rx).log2.toNat)), e.bytes⟩] ∧
      (u.ring q rx).prod = (s.ring q rx).prod + 1 ∧ (u.ring q rx).drops = (s.ring q rx).drops) ∧
  (∀ (s : State) (q : RingId) (rx : Bool) (e : OutEntry),
    s.pcieUp = true →
    hostToDevice q rx = false ∧ rxOk q rx = true →
    s.outbox.find? (fun e => e.q == q && e.rx == rx) = some e ∧ e.taken = false →
    s.ringTakes q rx e.bytes.length = true →
    12 ≤ e.bytes.length →
    ∃ u, exec (.ringEntryWrite q ⟨rx, true⟩) s = .next u ∧ u.outbox = s.outbox.erase e ∧
      u.posted = s.posted ++ [⟨BitVec.ofNat 64 ((s.ring q rx).base.toNat +
      e.bytes.length * ((s.ring q rx).prod.toNat % 2 ^ (s.ring q rx).log2.toNat)), patch e.bytes 11
        (if e.spoke.any (fun i => (s.spoke i).ringDrop) then (slice e.bytes 11 1).map (· ||| 0x10#8) else slice e.bytes 11 1)⟩] ∧
      (u.ring q rx).prod = (s.ring q rx).prod + 1 ∧ (u.ring q rx).drops = (s.ring q rx).drops ∧
      e.spoke.all (fun i => !(u.spoke i).ringDrop) = true) ∧
  (∀ (s : State) (q : RingId) (rx : Bool) (e : OutEntry),
    s.pcieUp = true →
    hostToDevice q rx = false ∧ rxOk q rx = true →
    s.outbox.find? (fun e => e.q == q && e.rx == rx && !e.taken) = some e →
    s.ringTakes q rx e.bytes.length = true →
    12 ≤ e.bytes.length →
    ∃ u, exec (.ringEntryWrite q ⟨rx, false⟩) s = .next u ∧ u.posted = s.posted ∧
      u.outbox = modFirst (· == e) (fun e => { e with
        taken := true
        bytes := patch e.bytes 11
          (if e.spoke.any (fun i => (s.spoke i).ringDrop) then (slice e.bytes 11 1).map (· ||| 0x10#8) else slice e.bytes 11 1) }) s.outbox ∧
      u.ring q rx = s.ring q rx ∧ u.accepted q rx = s.accepted q rx + 1) ∧
  (∀ (s : State) (q : RingId) (rx now : Bool) (e : OutEntry),
    s.pcieUp = true →
    hostToDevice q rx = false ∧ rxOk q rx = true →
    s.outbox.find? (fun e => e.q == q && e.rx == rx && (now || !e.taken)) = some e ∧ e.taken = false →
    s.ringTakes q rx e.bytes.length = false →
    now = false ∨ s.accepted q rx = 0 →
    ∃ u, exec (.ringEntryWrite q ⟨rx, now⟩) s = .next u ∧ u.outbox = s.outbox.erase e ∧ u.posted = s.posted ∧
      u.ring q rx = { s.ring q rx with drops := (s.ring q rx).drops + 1 } ∧
      e.spoke.all (fun i => (u.spoke i).ringDrop) = true) ∧
  (∀ (s : State) (q : RingId) (rx now : Bool),
    s.pcieUp = true →
    hostToDevice q rx = false ∧ rxOk q rx = true →
    s.outbox.find? (fun e => e.q == q && e.rx == rx && (now || !e.taken)) = none →
    s.hb.flrHeld = none →
    exec (.ringEntryWrite q ⟨rx, now⟩) s = .next s) ∧
  (∀ (s : State) (q : RingId) (rx now : Bool),
    s.pcieUp = true →
    hostToDevice q rx = false ∧ rxOk q rx = true →
    s.outbox.find? (fun e => e.q == q && e.rx == rx && (now || !e.taken)) = none →
    s.hb.flrHeld.isSome = true ∧ (s.evCfgNow 255).getLsbD 10 = true ∧ s.ringTakes (evRing (s.evCfgNow 255)) false 16 = true →
    ∃ u, exec (.ringEntryWrite q ⟨rx, now⟩) s = .next u ∧ u.hb.flrHeld = none ∧ u.posted.length = s.posted.length + 1 ∧
      (u.ring (evRing (s.evCfgNow 255)) false).prod = (s.ring (evRing (s.evCfgNow 255)) false).prod + 1) ∧
  (∀ (s : State) (q : RingId) (rx now : Bool),
    hostToDevice q rx = true ∨ rxOk q rx = false →
    exec (.ringEntryWrite q ⟨rx, now⟩) s = .next s) ∧
  (∀ (s : State) (q : RingId) (rx : Bool),
    s.pcieUp = true →
    rxOk q rx = true →
    (s.ring q rx).en = true ∧ (s.ring q rx).wben = true ∧ (s.ring q rx).wbDue = true →
    ∃ u, exec (.writeback q rx) s = .next u ∧ u.ring q rx = { s.ring q rx with wbDue := false } ∧
      u.posted = s.posted ++ [⟨(s.ring q rx).wb, leOctets 4
        ((if hostToDevice q rx then (s.ring q rx).cons else (s.ring q rx).prod).toNat + (s.ring q rx).drops.toNat * 65536)⟩]) ∧
  (∀ (s : State) (q : RingId) (rx : Bool),
    rxOk q rx = false ∨ (s.ring q rx).en = false ∨ (s.ring q rx).wben = false ∨ (s.ring q rx).wbDue = false →
    exec (.writeback q rx) s = .next s)

/-- An occurrence that reaches Handlebar sets its status bit, and where REC is 1 appends its record of 16 octets, with DROP
after a drop, or is dropped where the ring takes none (R365, R370, R371); where SIG is 1 its vector is signalled, after the record
and the writeback that covers it: a message where neither mask stands, its pending bit where one does, and nothing yet in a
hold-off (R371, R374). A spoke that owes OVERRUN raises it once its path has room again (R47). The end of a hold-off and an unmask
send what waits (R374). A write of 1s to EV_STAT clears them unless they are set in the same cycle (R11). -/
def Obligations.EventsAndMsixComplete : Prop :=
  (∀ (s : State) (e : EventId) (o : Occ),
    s.pcieUp = true →
    s.occs.find? (fun o => evChannel o.src.val == evChannel e.val) = some o ∧ o.src = e →
    s.evOwed.get (Fin.ofNat 88 (evChannel e.val)) = none →
    (s.evCfg e o.dt).getLsbD 10 = false ∧ (s.evCfg e o.dt).getLsbD 7 = false →
    exec (.eventOccurrence e) s = .next { s with
      occs := s.occs.erase o, hb := { s.hb with evStat := s.hb.evStat ||| (1#256 <<< e.val) } }) ∧
  (∀ (s : State) (e : EventId) (o : Occ),
    s.pcieUp = true →
    s.occs.find? (fun o => evChannel o.src.val == evChannel e.val) = some o ∧ o.src = e →
    e.val < 128 ∧ (s.occs.filter fun x => evChannel x.src.val == evChannel e.val).length ≤ 16 →
    (s.evCfg e o.dt).getLsbD 10 = false ∧ (s.evCfg e o.dt).getLsbD 7 = false →
    ∃ u, exec (.eventOccurrence e) s = .next u ∧ u.hb.evStat = s.hb.evStat ||| (1#256 <<< e.val) ∧
      u.evOwed.get (Fin.ofNat 88 (e.val / 2)) = none ∧
      u.occs = s.occs.erase o ++ ((s.evOwed.get (Fin.ofNat 88 (e.val / 2))).map fun d =>
        (⟨Fin.ofNat 256 (2 * (e.val / 2) + 1), causeWord 4 0 0, d, false⟩ : Occ)).toList) ∧
  (∀ (s : State) (e : EventId) (o : Occ) (q : RingId),
    s.pcieUp = true →
    s.occs.find? (fun o => evChannel o.src.val == evChannel e.val) = some o ∧ o.src = e →
    s.evOwed.get (Fin.ofNat 88 (evChannel e.val)) = none →
    (s.evCfg e o.dt).getLsbD 10 = true ∧ (s.evCfg e o.dt).getLsbD 7 = false ∧ q = evRing (s.evCfg e o.dt) →
    s.hb.flrHeld = none →
    s.ringTakes q false 16 = true →
    ∃ u, exec (.eventOccurrence e) s = .next u ∧ u.occs = s.occs.erase o ∧
      u.hb.evStat = s.hb.evStat ||| (1#256 <<< e.val) ∧
      u.posted = s.posted ++ [⟨BitVec.ofNat 64 ((s.ring q false).slotAddr 16 (s.ring q false).prod),
      eventRecord o (s.ring q false).dropFlag⟩] ∧
      (u.ring q false).prod = (s.ring q false).prod + 1 ∧ (u.ring q false).dropFlag = false) ∧
  (∀ (s : State) (e : EventId) (o : Occ) (q : RingId),
    s.pcieUp = true →
    s.occs.find? (fun o => evChannel o.src.val == evChannel e.val) = some o ∧ o.src = e →
    s.evOwed.get (Fin.ofNat 88 (evChannel e.val)) = none →
    (s.evCfg e o.dt).getLsbD 10 = true ∧ (s.evCfg e o.dt).getLsbD 7 = false ∧ q = evRing (s.evCfg e o.dt) →
    s.hb.flrHeld = none →
    s.ringTakes q false 16 = false →
    ∃ u, exec (.eventOccurrence e) s = .next u ∧ u.occs = s.occs.erase o ∧
      u.hb.evStat = s.hb.evStat ||| (1#256 <<< e.val) ∧
      u.posted = s.posted ∧ u.ring q false =
        { s.ring q false with drops := (s.ring q false).drops + 1, dropFlag := true }) ∧
  (∀ (s : State) (e : EventId) (o : Occ) (v : VecId),
    s.pcieUp = true →
    s.occs.find? (fun o => evChannel o.src.val == evChannel e.val) = some o ∧ o.src = e →
    s.evOwed.get (Fin.ofNat 88 (evChannel e.val)) = none →
    (s.evCfg e o.dt).getLsbD 10 = false ∧ (s.evCfg e o.dt).getLsbD 7 = true →
    v = Fin.ofNat 128 ((s.evCfg e o.dt).toNat % 128) ∧ (s.ring (evRing (s.evCfg e o.dt)) false).wbDue = false →
    s.held v = false ∧ (s.vec v).mask = false ∧ s.hb.cfg.mask = false →
    ∃ u, exec (.eventOccurrence e) s = .next u ∧ u.occs = s.occs.erase o ∧ (u.vec v).pba = false ∧ (u.vec v).trig = false ∧
      u.posted = s.posted ++ [⟨(s.vec v).addr, leOctets 4 (s.vec v).data.toNat⟩] ∧
      (u.vec v).holdTo =
      if (s.hb.vecHold.get v).toNat = 0 then none else some (s.clock + (s.hb.vecHold.get v).toNat * 4096000)) ∧
  (∀ (s : State) (e : EventId) (o : Occ) (v : VecId),
    s.pcieUp = true →
    s.occs.find? (fun o => evChannel o.src.val == evChannel e.val) = some o ∧ o.src = e →
    s.evOwed.get (Fin.ofNat 88 (evChannel e.val)) = none →
    (s.evCfg e o.dt).getLsbD 10 = false ∧ (s.evCfg e o.dt).getLsbD 7 = true →
    v = Fin.ofNat 128 ((s.evCfg e o.dt).toNat % 128) ∧ (s.ring (evRing (s.evCfg e o.dt)) false).wbDue = false →
    s.held v = false ∧ ((s.vec v).mask = true ∨ s.hb.cfg.mask = true) →
    ∃ u, exec (.eventOccurrence e) s = .next u ∧ u.occs = s.occs.erase o ∧ u.vec v = { s.vec v with pba := true } ∧ u.posted = s.posted) ∧
  (∀ (s : State) (e : EventId) (o : Occ) (v : VecId),
    s.pcieUp = true →
    s.occs.find? (fun o => evChannel o.src.val == evChannel e.val) = some o ∧ o.src = e →
    s.evOwed.get (Fin.ofNat 88 (evChannel e.val)) = none →
    (s.evCfg e o.dt).getLsbD 10 = false ∧ (s.evCfg e o.dt).getLsbD 7 = true →
    v = Fin.ofNat 128 ((s.evCfg e o.dt).toNat % 128) ∧ (s.ring (evRing (s.evCfg e o.dt)) false).wbDue = false →
    s.held v = true →
    ∃ u, exec (.eventOccurrence e) s = .next u ∧ u.occs = s.occs.erase o ∧ u.vec v = { s.vec v with trig := true } ∧ u.posted = s.posted) ∧
  (∀ (s : State) (e : EventId) (o : Occ) (q : RingId) (v : VecId),
    s.pcieUp = true →
    s.occs.find? (fun o => evChannel o.src.val == evChannel e.val) = some o ∧ o.src = e →
    s.evOwed.get (Fin.ofNat 88 (evChannel e.val)) = none →
    (s.evCfg e o.dt).getLsbD 10 = true ∧ (s.evCfg e o.dt).getLsbD 7 = true ∧ q = evRing (s.evCfg e o.dt) →
    s.hb.flrHeld = none →
    s.ringTakes q false 16 = true ∧ (s.ring q false).wben = true →
    v = Fin.ofNat 128 ((s.evCfg e o.dt).toNat % 128) →
    s.held v = false ∧ (s.vec v).mask = false ∧ s.hb.cfg.mask = false →
    ∃ u, exec (.eventOccurrence e) s = .next u ∧
      u.posted = s.posted ++ [⟨BitVec.ofNat 64 ((s.ring q false).slotAddr 16 (s.ring q false).prod),
      eventRecord o (s.ring q false).dropFlag⟩,
        ⟨(s.ring q false).wb, leOctets 4 (((s.ring q false).prod + 1).toNat + (s.ring q false).drops.toNat * 65536)⟩, ⟨(s.vec v).addr, leOctets 4 (s.vec v).data.toNat⟩]) ∧
  (∀ (s : State) (e : EventId),
    (s.occs.find? fun o => evChannel o.src.val == evChannel e.val).all (fun o => o.src != e) = true →
    exec (.eventOccurrence e) s = .next s) ∧
  (∀ (s : State) (v : VecId) (t : Nat),
    s.pcieUp = true →
    (s.vec v).holdTo = some t ∧ t ≤ s.clock →
    (s.vec v).trig = false →
    exec (.holdoffExpiry v) s = .next (s.setVec v { s.vec v with holdTo := none })) ∧
  (∀ (s : State) (v : VecId) (t : Nat),
    s.pcieUp = true →
    (s.vec v).holdTo = some t ∧ t ≤ s.clock →
    (s.vec v).trig = true ∧ (s.vec v).mask = false ∧ s.hb.cfg.mask = false →
    ∃ u, exec (.holdoffExpiry v) s = .next u ∧ (u.vec v).trig = false ∧ (u.vec v).pba = false ∧
      u.posted = s.posted ++ [⟨(s.vec v).addr, leOctets 4 (s.vec v).data.toNat⟩] ∧
      (u.vec v).holdTo =
      if (s.hb.vecHold.get v).toNat = 0 then none else some (s.clock + (s.hb.vecHold.get v).toNat * 4096000)) ∧
  (∀ (s : State) (v : VecId) (t : Nat),
    s.pcieUp = true →
    (s.vec v).holdTo = some t ∧ t ≤ s.clock →
    (s.vec v).trig = true ∧ ((s.vec v).mask = true ∨ s.hb.cfg.mask = true) →
    exec (.holdoffExpiry v) s = .next (s.setVec v { s.vec v with holdTo := none, trig := false, pba := true })) ∧
  (∀ (s : State) (v : VecId),
    (s.vec v).holdTo.all (fun t => decide (s.clock < t)) = true →
    exec (.holdoffExpiry v) s = .next s) ∧
  (∀ (s : State) (v : VecId),
    s.hostReach = true →
    (s.vec v).pba = false ∨ s.hb.cfg.mask = true →
    exec (.vectorUnmask v) s = .next (s.setVec v { s.vec v with mask := false })) ∧
  (∀ (s : State) (v : VecId),
    s.hostReach = true →
    (s.vec v).pba = true ∧ s.hb.cfg.mask = false →
    s.held v = false →
    ∃ u, exec (.vectorUnmask v) s = .next u ∧ (u.vec v).mask = false ∧ (u.vec v).pba = false ∧
      u.posted = s.posted ++ [⟨(s.vec v).addr, leOctets 4 (s.vec v).data.toNat⟩]) ∧
  (∀ (s : State) (v : VecId),
    s.hostReach = true →
    (s.vec v).pba = true ∧ s.hb.cfg.mask = false →
    s.held v = true →
    exec (.vectorUnmask v) s = .next (s.setVec v { s.vec v with mask := false, pba := false, trig := true })) ∧
  (∀ (s : State) (n : Fin 8) (m a : Word),
    s.hostReach = true →
    ∃ u, exec (.eventStatusClear n m a) s = .next u ∧ u.occs = s.occs ∧
      (∀ k : EventId, u.hb.evStat.getLsbD k.val = (s.hb.evStat.getLsbD k.val &&
      !(k.val / 32 == n.val && m.getLsbD (k.val % 32) && !a.getLsbD (k.val % 32)) ||
      (k.val / 32 == n.val && m.getLsbD (k.val % 32) && a.getLsbD (k.val % 32)))))

/-- A flash read fills the buffer; a program or erase at an aligned address begins while hold-up is confirmed, and is refused with
NOHOLD while it is not; each is refused with ALIGN at another address, and with BUSY while one is in progress (R381); it ends with
the flash holding the page or an erased sector, or with FAIL, no other octet being touched (R381). A write to the bank that is not
active stores unless the bank is locked, and one to the active or a locked bank is counted and discarded (R128, R361); one to
vector memory stores what lies in no active region (R156); no write touches an octet that it does not address. Link training and
the loss of the reference clock are noted (R356, R421). -/
def Obligations.FlashAndBar2Complete : Prop :=
  (∀ (s : State),
    s.hostReach = true →
    s.hb.flashJob = none →
    s.flashAddr % 256 = 0 →
    exec .flashRead s =
      .next { s with hb := { s.hb with flashState := 2, flashCause := 0, flashBuf := rdN flashDflt s.flash s.flashAddr 256 } }) ∧
  (∀ (s : State),
    s.hostReach = true →
    s.hb.flashJob = none →
    s.flashAddr % 256 = 0 →
    s.dyn.confirmed = true →
    exec .flashProgram s =
      .next { s with hb := { s.hb with flashState := 1, flashCause := 0, flashJob := some ⟨s.flashAddr, some s.hb.flashBuf⟩ } }) ∧
  (∀ (s : State),
    s.hostReach = true →
    s.hb.flashJob = none →
    s.flashAddr % 256 = 0 →
    s.dyn.confirmed = false →
    exec .flashProgram s =
      .next { s with hb := { s.hb with flashState := 3, flashCause := 2 } }) ∧
  (∀ (s : State),
    s.hostReach = true →
    s.hb.flashJob = none →
    s.flashAddr % 4096 = 0 →
    s.dyn.confirmed = true →
    exec .flashErase s =
      .next { s with hb := { s.hb with flashState := 1, flashCause := 0, flashJob := some ⟨s.flashAddr, none⟩ } }) ∧
  (∀ (s : State),
    s.hostReach = true →
    s.hb.flashJob = none →
    s.flashAddr % 4096 = 0 →
    s.dyn.confirmed = false →
    exec .flashErase s =
      .next { s with hb := { s.hb with flashState := 3, flashCause := 2 } }) ∧
  (∀ (s : State),
    s.hostReach = true →
    s.hb.flashJob = none →
    s.flashAddr % 256 ≠ 0 →
    exec .flashRead s =
      .next { s with hb := { s.hb with flashState := 3, flashCause := 1 } }) ∧
  (∀ (s : State),
    s.hostReach = true →
    s.hb.flashJob.isSome = true →
    exec .flashRead s =
      .next { s with hb := { s.hb with flashState := 3, flashCause := 4 } }) ∧
  (∀ (s : State),
    s.hostReach = true →
    s.hb.flashJob = none →
    s.flashAddr % 256 ≠ 0 →
    exec .flashProgram s =
      .next { s with hb := { s.hb with flashState := 3, flashCause := 1 } }) ∧
  (∀ (s : State),
    s.hostReach = true →
    s.hb.flashJob.isSome = true →
    exec .flashProgram s =
      .next { s with hb := { s.hb with flashState := 3, flashCause := 4 } }) ∧
  (∀ (s : State),
    s.hostReach = true →
    s.hb.flashJob = none →
    s.flashAddr % 4096 ≠ 0 →
    exec .flashErase s =
      .next { s with hb := { s.hb with flashState := 3, flashCause := 1 } }) ∧
  (∀ (s : State),
    s.hostReach = true →
    s.hb.flashJob.isSome = true →
    exec .flashErase s =
      .next { s with hb := { s.hb with flashState := 3, flashCause := 4 } }) ∧
  (∀ (s : State) (n : Nat) (b : Octets),
    s.hb.flashJob = some ⟨n, some b⟩ →
    exec (.flashOpComplete true) s = .next { s with
      flash := wrN flashDflt s.flash n b
      hb := { s.hb with flashState := 2, flashCause := 0, flashJob := none } }) ∧
  (∀ (s : State) (n : Nat),
    s.hb.flashJob = some ⟨n, none⟩ →
    exec (.flashOpComplete true) s = .next { s with
      flash := wrN flashDflt s.flash n (List.replicate 4096 0xFF)
      hb := { s.hb with flashState := 2, flashCause := 0, flashJob := none } }) ∧
  (∀ (s : State) (j : FlashJob),
    s.hb.flashJob = some j →
    ∃ u, exec (.flashOpComplete false) s = .next u ∧
      u.hb = { s.hb with flashState := 3, flashCause := 3, flashJob := none } ∧ u.mem = s.mem ∧
      (∀ x : Nat, x < j.addr ∨ j.addr + (j.page.map List.length).getD 4096 ≤ x →
        look flashDflt u.flash x = look flashDflt s.flash x)) ∧
  (∀ (s : State) (ok : Bool),
    s.hb.flashJob = none →
    exec (.flashOpComplete ok) s = .next s) ∧
  (∀ (s : State) (k : BusPort) (a : BitVec 24) (b : List (Option Byte)) (lo : Nat),
    s.busUp k = true →
    s.pacer.locked = false →
    (lo = if s.pacer.bank then 0x800000 else 0x820000) →
    lo ≤ a.toNat ∧ a.toNat + b.length ≤ lo + 0x20000 ∧ b ≠ [] →
    exec (.bar2Write k a b) s = .next { s with
      mem := wrEn memDflt s.mem a.toNat b
      pacer := { s.pacer with crcDirty := s.pacer.crcDirty || s.pacer.crcBusy, crcValid := false } }) ∧
  (∀ (s : State) (k : BusPort) (a : BitVec 24) (b : List (Option Byte)) (lo : Nat),
    s.busUp k = true →
    (lo = if s.pacer.bank then 0x820000 else 0x800000) ∨ s.pacer.locked = true ∧ (lo = 0x800000 ∨ lo = 0x820000) →
    lo ≤ a.toNat ∧ a.toNat + b.length ≤ lo + 0x20000 ∧ b ≠ [] →
    exec (.bar2Write k a b) s = .next { s with pacer := { s.pacer with wrDrop := s.pacer.wrDrop + 1 } }) ∧
  (∀ (s : State) (k : BusPort) (a : BitVec 24) (b : List (Option Byte)),
    s.busUp k = true →
    a.toNat + b.length ≤ 0x800000 →
    (touched a.toNat b).any s.anyActive = false →
    exec (.bar2Write k a b) s = .next { s with mem := wrEn memDflt s.mem a.toNat b }) ∧
  (∀ (s : State) (k : BusPort) (a : BitVec 24) (b : List (Option Byte)),
    s.busUp k = true →
    a.toNat + b.length ≤ 0x800000 →
    ∃ u, exec (.bar2Write k a b) s = .next u ∧ u.mem = wrEn memDflt s.mem a.toNat (allowed s a.toNat b) ∧
      u.pacer.wrDrop = s.pacer.wrDrop) ∧
  (∀ (s : State) (k : BusPort) (a : BitVec 24) (b : List (Option Byte)),
    s.busUp k = false ∨ 0x840000 ≤ a.toNat →
    exec (.bar2Write k a b) s = .next s) ∧
  (∀ (s : State) (k : BusPort) (a : BitVec 24) (b : List (Option Byte)),
    s.busUp k = true →
    ∃ u, exec (.bar2Write k a b) s = .next u ∧ u.hb = s.hb ∧ u.spokes = s.spokes ∧
      (∀ x : Nat, x < a.toNat ∨ a.toNat + b.length ≤ x → look memDflt u.mem x = look memDflt s.mem x)) ∧
  (∀ (s : State) (g : BitVec 3) (w : BitVec 4),
    s.pcieUp = true →
    exec (.pcieLinkTrained g w) s = .next { s with
      hb := { s.hb with speed := g, width := w, refclk := s.hb.refclk || g != 0 } }) ∧
  (∀ (s : State),
    s.pcieUp = true →
    exec .pcieRefclkLoss s = .next { s with hb := { s.hb with refclk := false, speed := 0, width := 0 } })

/-- VIN brings Night, with cause POWERON (R390, R397). EN is sampled; four highs in a row with VIN in its window leave Night,
after a Dusk by EN, DUSKREQ, THERM or OCP only where EN has been low in between (R391). The soft start charges VBUS and is
followed by the rails in order, each in its time, and the failure of either is Dusk with EN, SOFTSTART, UVLO or RAIL, the lowest
code of one cycle of Dynamo control standing (R392, R393, R397); the soft start after a ride-through ends with the capacitance
measured (R386, R396). With the last rail the straps are read, and the die takes its reset state, the image and the trims (R321,
R392, R415); 5 ms after the TCXO starts the module is in Dawn, which asks for Day where AUTODAY is set (R392, R394). -/
def Obligations.StartUpCompletes : Prop :=
  (∀ (s : State),
    s.dyn.st = .off ∨ s.dyn.st = .night →
    ∃ u, exec .vinApplied s = .next u ∧ u.dyn.st = .night ∧ u.dyn.kept = 0 ∧ u.dyn.highs = 0 ∧ u.dyn.eFuse = .cut ∧
      u.flash = s.flash ∧ u.pending = s.pending ∧ u.hb.fuse = s.hb.fuse) ∧
  (∀ (s : State),
    s.dyn.st ≠ .off ∧ s.dyn.st ≠ .night →
    exec .vinApplied s = .next s) ∧
  (∀ (s : State) (x : BitVec 5),
    s.dyn.st = .night →
    3 ≤ s.dyn.highs →
    needsEnLow s.dyn.kept = false ∨ s.dyn.enFell = true →
    ∃ u, exec (.enSample true ⟨true, x⟩) s = .next u ∧ u.dyn.st = .startUp ∧ u.dyn.soft = false ∧ u.dyn.rails = 0 ∧
      u.dyn.kept = s.dyn.kept ∧ u.dyn.straps = x) ∧
  (∀ (s : State) (v : Bool) (x : BitVec 5),
    s.dyn.st = .night →
    v = false ∨ s.dyn.highs < 3 ∨ needsEnLow s.dyn.kept = true ∧ s.dyn.enFell = false →
    exec (.enSample true ⟨v, x⟩) s = .next { s with dyn := { s.dyn with
      enLevel := true, vinOk := v, straps := x, highs := s.dyn.highs + 1, lows := 0 } }) ∧
  (∀ (s : State) (v : Bool) (x : BitVec 5),
    s.dyn.st = .night →
    exec (.enSample false ⟨v, x⟩) s = .next { s with dyn := { s.dyn with
      enLevel := false, vinOk := v, straps := x, highs := 0, lows := s.dyn.lows + 1
      enFell := s.dyn.enFell || decide (4 ≤ s.dyn.lows + 1) } }) ∧
  (∀ (s : State) (v : Bool) (x : BitVec 5),
    s.dyn.st = .startUp →
    1 ≤ s.dyn.lows →
    ∃ u, exec (.enSample false ⟨v, x⟩) s = .next u ∧ u.dyn.st = .dusk ∧ u.dyn.kept = 1 ∧ u.dyn.duskFrom = s.clock ∧
      u.dyn.gatesShut = false ∧ u.dyn.confirmed = false ∧
      (s.evFull 248 = false → ⟨248, causeWord 3 1 0, s.now, s.outage⟩ ∈ u.occs)) ∧
  (∀ (s : State) (e v : Bool) (x : BitVec 5),
    s.dyn.st = .startUp ∧ (e = true ∨ s.dyn.lows = 0) ∨ s.dyn.st = .dawn ∨ s.dyn.st = .day ∨ s.dyn.st = .dusk ∧ s.duskNow = false →
    exec (.enSample e ⟨v, x⟩) s = .next { s with dyn := { s.dyn with
      enLevel := e, vinOk := v, straps := x, highs := if e then s.dyn.highs + 1 else 0
      lows := if e then 0 else s.dyn.lows + 1
      enFell := s.dyn.enFell || (!e && decide (4 ≤ s.dyn.lows + 1)) } }) ∧
  (∀ (s : State),
    s.dyn.st = .startUp →
    s.dyn.soft = false →
    exec .startUp s = .next { s with dyn := { s.dyn with soft := true, softFrom := s.clock, eFuse := .soft } }) ∧
  (∀ (s : State),
    s.dyn.st ≠ .startUp ∨ s.dyn.soft = true →
    exec .startUp s = .next s) ∧
  (∀ (s : State) (c : BitVec 10),
    s.softStarts = true →
    exec (.softStartEnd c) s = .next { s with dyn := { s.dyn with
      softDone := true, cbus := c, eFuse := .conducts, rails := 0, railFrom := s.clock } }) ∧
  (∀ (s : State) (c : BitVec 10),
    s.softStarts = false ∧ s.onBus = true ∧ s.dyn.eFuse = .soft →
    ∃ u, exec (.softStartEnd c) s = .next u ∧ u.dyn = { s.dyn with cbus := c, eFuse := .conducts } ∧
      (s.alive = true → c.toNat < 100 → s.evFull 249 = false → ⟨249, causeWord 4 0 0, s.now, s.outage⟩ ∈ u.occs)) ∧
  (∀ (s : State),
    s.softStarts = true →
    s.dyn.softFrom + 245760000000 ≤ s.clock →
    ∃ u, exec .softStartTimeout s = .next u ∧ u.dyn.st = .dusk ∧ u.dyn.kept = 8 ∧ u.dyn.duskFrom = s.clock ∧
      u.dyn.gatesShut = false ∧ u.dyn.confirmed = false ∧
      (s.evFull 248 = false → ⟨248, causeWord 3 8 0, s.now, s.outage⟩ ∈ u.occs)) ∧
  (∀ (s : State),
    s.softStarts = true →
    ∃ u, exec .brownout s = .next u ∧ u.dyn.st = .dusk ∧ u.dyn.kept = 9 ∧ u.dyn.duskFrom = s.clock ∧
      u.dyn.gatesShut = false ∧ u.dyn.confirmed = false ∧
      (s.evFull 248 = false → ⟨248, causeWord 3 9 0, s.now, s.outage⟩ ∈ u.occs)) ∧
  (∀ (s : State),
    s.railRises = true →
    s.dyn.railFrom + 4096000000 ≤ s.clock →
    ∃ u, exec .railTimeout s = .next u ∧ u.dyn.st = .dusk ∧ u.dyn.kept = 6 ∧ u.dyn.duskFrom = s.clock ∧
      u.dyn.gatesShut = false ∧ u.dyn.confirmed = false ∧
      (s.evFull 248 = false → ⟨248, causeWord 3 6 0, s.now, s.outage⟩ ∈ u.occs)) ∧
  (∀ (s : State),
    s.duskNow = true ∧ 6 < s.dyn.kept.toNat →
    s.dyn.softDone = true ∧ s.dyn.rails < 7 ∧ s.dyn.railFrom + 4096000000 ≤ s.clock →
    ∃ u, exec .railTimeout s = .next u ∧ u.dyn = { s.dyn with kept := 6 }) ∧
  (∀ (s : State),
    s.clock < s.dyn.softFrom + 245760000000 →
    exec .softStartTimeout s = .next s) ∧
  (∀ (s : State),
    s.clock < s.dyn.railFrom + 4096000000 →
    exec .railTimeout s = .next s) ∧
  (∀ (s : State),
    s.railRises = true →
    s.dyn.rails < 6 →
    exec .railUp s = .next { s with dyn := { s.dyn with
      rails := s.dyn.rails + 1, railFrom := s.clock
      tcxoFrom := if s.dyn.rails = 0 then s.clock else s.dyn.tcxoFrom } }) ∧
  (∀ (s : State),
    s.railRises = true →
    s.dyn.rails = 6 →
    ∃ u, exec .railUp s = .next u ∧ u.dyn.rails = 7 ∧ u.dyn.imageDone = true ∧ u.dyn.st = .startUp ∧
      u.dtRuns = false ∧ u.dt = 0 ∧ u.mem = [] ∧ u.flash = s.flash ∧ u.spokes = State.reset.spokes ∧
      u.stoker.pos = s.dyn.straps.setWidth 4 ∧ u.stoker.capt = s.dyn.straps.getLsbD 4 ∧ u.hb.imageBad = (image s.flash).isNone ∧
      (s.dyn.cbus.toNat < 100 → ⟨249, causeWord 4 0 0, 0, false⟩ ∈ u.occs)) ∧
  (∀ (s : State),
    s.railRises = false →
    exec .railUp s = .next s) ∧
  (∀ (s : State),
    s.dyn.st = .startUp →
    s.dyn.imageDone = true →
    s.dyn.tcxoFrom + 20480000000 ≤ s.clock →
    s.dyn.autoDay = false ∨ s.dyn.dayEntry = true →
    ∃ u, exec .dawnEntry s = .next u ∧ u.dyn = { s.dyn with st := .dawn, lastOff := s.dyn.kept } ∧
      u.pair.lastKick = s.clock ∧ (s.evFull 248 = false → ⟨248, causeWord 1 0 0, s.dt, false⟩ ∈ u.occs)) ∧
  (∀ (s : State),
    s.dyn.st = .startUp →
    s.dyn.imageDone = true →
    s.dyn.tcxoFrom + 20480000000 ≤ s.clock →
    s.dyn.autoDay = true ∧ s.dyn.dayEntry = false ∧ s.fuseBad = false ∧ s.temp ≤ 460 →
    ∃ u, exec .dawnEntry s = .next u ∧ u.dyn = { s.dyn with st := .dawn, lastOff := s.dyn.kept, dayEntry := true } ∧
      u.hub = { s.hub with dayLock := true, lock := .settle, stepEnd := s.clock + 81920000, disagree := 0 } ∧
      (s.evFull 248 = false → ⟨248, causeWord 1 0 0, s.dt, false⟩ ∈ u.occs)) ∧
  (∀ (s : State),
    s.dyn.st ≠ .startUp ∨ s.dyn.imageDone = false ∨ s.clock < s.dyn.tcxoFrom + 20480000000 →
    exec .dawnEntry s = .next s) ∧
  (∀ (s : State),
    s.dyn.st = .startUp →
    s.dyn.imageDone = true →
    s.dyn.tcxoFrom + 20480000000 ≤ s.clock →
    s.dyn.autoDay = true ∧ s.dyn.dayEntry = false ∧ (s.fuseBad = true ∨ 460 < s.temp) →
    ∃ u, exec .dawnEntry s = .next u ∧ u.hub = s.hub ∧
      u.dyn = { s.dyn with st := .dawn, lastOff := s.dyn.kept, refused := if s.fuseBad then 1 else 2 }) ∧
  (∀ (s : State) (c : BitVec 10),
    s.softStarts = false ∧ (s.onBus = false ∨ s.dyn.eFuse ≠ .soft) →
    exec (.softStartEnd c) s = .next s)

/-- In Dawn a request begins Day entry with a lock, or is refused with FUSEBAD or above 115 degrees (R394). Each cause of R397
takes a running module to Dusk and is kept, the lowest code of one cycle of Dynamo control standing (R389, R396, R397); 100 us on,
every island, lane and bus stops (R398); then the rails go down one by one, in reverse, with what they hold, and Night follows
(R393, R398, R399). -/
def Obligations.DayAndDuskComplete : Prop :=
  (∀ (s : State),
    s.dyn.st = .dawn ∧ s.dyn.dayEntry = false →
    s.fuseBad = false →
    s.temp ≤ 460 →
    exec .dayRequest s = .next { s with
      hub := { s.hub with dayLock := true, lock := .settle, stepEnd := s.clock + 81920000, disagree := 0 }
      dyn := { s.dyn with dayEntry := true } }) ∧
  (∀ (s : State),
    s.dyn.st = .dawn ∧ s.dyn.dayEntry = false →
    s.fuseBad = true →
    ∃ u, exec .dayRequest s = .next u ∧ u.dyn = { s.dyn with refused := 1 } ∧ u.hub = s.hub ∧
      (s.evFull 248 = false → ⟨248, causeWord 4 1 0, s.now, s.outage⟩ ∈ u.occs)) ∧
  (∀ (s : State),
    s.dyn.st = .dawn ∧ s.dyn.dayEntry = false →
    s.fuseBad = false →
    460 < s.temp →
    ∃ u, exec .dayRequest s = .next u ∧ u.dyn = { s.dyn with refused := 2 } ∧ u.hub = s.hub ∧
      (s.evFull 248 = false → ⟨248, causeWord 4 2 0, s.now, s.outage⟩ ∈ u.occs)) ∧
  (∀ (s : State),
    s.dyn.st ≠ .dawn ∨ s.dyn.dayEntry = true →
    exec .dayRequest s = .next s) ∧
  (∀ (s : State),
    s.dyn.st = .dawn ∨ s.dyn.st = .day →
    ∃ u, exec .duskRequest s = .next u ∧ u.dyn.st = .dusk ∧ u.dyn.kept = 2 ∧ u.dyn.duskFrom = s.clock ∧
      u.dyn.gatesShut = false ∧ u.dyn.confirmed = false ∧
      (s.evFull 248 = false → ⟨248, causeWord 3 2 0, s.now, s.outage⟩ ∈ u.occs)) ∧
  (∀ (s : State),
    s.dyn.st = .dawn ∨ s.dyn.st = .day →
    ∃ u, exec .enLow s = .next u ∧ u.dyn.st = .dusk ∧ u.dyn.kept = 1 ∧ u.dyn.duskFrom = s.clock ∧
      u.dyn.gatesShut = false ∧ u.dyn.confirmed = false ∧
      (s.evFull 248 = false → ⟨248, causeWord 3 1 0, s.now, s.outage⟩ ∈ u.occs)) ∧
  (∀ (s : State) (c : Nat),
    s.dyn.brown = true ∧ (s.dyn.st = .dawn ∨ s.dyn.st = .day ∨ s.dyn.st = .startUp ∧ s.dyn.softDone = true) →
    s.dyn.brownFrom + 4096000000 ≤ s.clock →
    (c = if s.dyn.brownOv then 4 else 3) →
    ∃ u, exec .brownoutTimeout s = .next u ∧ u.dyn.st = .dusk ∧ u.dyn.kept = BitVec.ofNat 4 c ∧ u.dyn.duskFrom = s.clock ∧
      u.dyn.gatesShut = false ∧ u.dyn.confirmed = false ∧
      (s.evFull 248 = false → ⟨248, causeWord 3 c 0, s.now, s.outage⟩ ∈ u.occs)) ∧
  (∀ (s : State) (c : Nat),
    s.dyn.brown = true ∧ (s.dyn.st = .dawn ∨ s.dyn.st = .day ∨ s.dyn.st = .startUp ∧ s.dyn.softDone = true) →
    (c = if s.dyn.brownOv then 4 else 3) →
    ∃ u, exec .vbusLow s = .next u ∧ u.dyn.st = .dusk ∧ u.dyn.kept = BitVec.ofNat 4 c ∧ u.dyn.duskFrom = s.clock ∧
      u.dyn.gatesShut = false ∧ u.dyn.confirmed = false ∧
      (s.evFull 248 = false → ⟨248, causeWord 3 c 0, s.now, s.outage⟩ ∈ u.occs)) ∧
  (∀ (s : State),
    s.dyn.brown = false →
    exec .brownoutTimeout s = .next s ∧ exec .vbusLow s = .next s) ∧
  (∀ (s : State),
    s.dyn.st = .dawn ∨ s.dyn.st = .day ∨ s.dyn.st = .startUp ∧ s.dyn.soft = true →
    ∃ u, exec .overcurrent s = .next u ∧ u.dyn.st = .dusk ∧ u.dyn.kept = 7 ∧ u.dyn.duskFrom = s.clock ∧
      u.dyn.gatesShut = false ∧ u.dyn.confirmed = false ∧
      (s.evFull 248 = false → ⟨248, causeWord 3 7 0, s.now, s.outage⟩ ∈ u.occs) ∧
      u.dyn.eFuse = .cut) ∧
  (∀ (s : State),
    s.dyn.st = .dawn ∨ s.dyn.st = .day ∨ s.dyn.st = .startUp ∧ s.dyn.rails ≠ 0 →
    ∃ u, exec .railFault s = .next u ∧ u.dyn.st = .dusk ∧ u.dyn.kept = 6 ∧ u.dyn.duskFrom = s.clock ∧
      u.dyn.gatesShut = false ∧ u.dyn.confirmed = false ∧
      (s.evFull 248 = false → ⟨248, causeWord 3 6 0, s.now, s.outage⟩ ∈ u.occs)) ∧
  (∀ (s : State),
    s.dyn.st = .dawn ∨ s.dyn.st = .day →
    s.dyn.hotFrom.any (fun t => decide (t + 4096000000 ≤ s.clock)) = true →
    ∃ u, exec .overtemp s = .next u ∧ u.dyn.st = .dusk ∧ u.dyn.kept = 5 ∧ u.dyn.duskFrom = s.clock ∧
      u.dyn.gatesShut = false ∧ u.dyn.confirmed = false ∧
      (s.evFull 248 = false → ⟨248, causeWord 3 5 0, s.now, s.outage⟩ ∈ u.occs)) ∧
  (∀ (s : State),
    s.dyn.hotFrom.all (fun t => decide (s.clock < t + 4096000000)) = true →
    exec .overtemp s = .next s) ∧
  (∀ (s : State),
    s.duskNow = true ∧ 1 < s.dyn.kept.toNat →
    ∃ u, exec .enLow s = .next u ∧ u.dyn = { s.dyn with kept := 1 } ∧ u.occs.length = s.occs.length) ∧
  (∀ (s : State),
    s.duskNow = true ∧ 2 < s.dyn.kept.toNat →
    ∃ u, exec .duskRequest s = .next u ∧ u.dyn = { s.dyn with kept := 2 } ∧ u.occs.length = s.occs.length) ∧
  (∀ (s : State),
    s.duskNow = true ∧ 5 < s.dyn.kept.toNat →
    s.dyn.hotFrom.any (fun t => decide (t + 4096000000 ≤ s.clock)) = true →
    ∃ u, exec .overtemp s = .next u ∧ u.dyn = { s.dyn with kept := 5 } ∧ u.occs.length = s.occs.length) ∧
  (∀ (s : State),
    s.duskNow = true ∧ 6 < s.dyn.kept.toNat →
    s.dyn.rails ≠ 0 →
    ∃ u, exec .railFault s = .next u ∧ u.dyn = { s.dyn with kept := 6 } ∧ u.occs.length = s.occs.length) ∧
  (∀ (s : State),
    s.duskNow = true ∧ s.dyn.kept.toNat ≤ 5 →
    exec .railFault s = .next s ∧ exec .overtemp s = .next s) ∧
  (∀ (s : State),
    s.dyn.st = .off ∨ s.dyn.st = .night ∨ s.dyn.st = .dusk ∧ s.duskNow = false →
    exec .enLow s = .next s ∧ exec .duskRequest s = .next s ∧ exec .railFault s = .next s ∧ exec .overtemp s = .next s ∧
      exec .overcurrent s = .next s) ∧
  (∀ (s : State),
    s.dyn.st = .dusk ∧ s.dyn.gatesShut = false →
    s.dyn.duskFrom + 409600000 ≤ s.clock →
    ∃ u, exec .duskGateClose s = .next u ∧ u.dyn = { s.dyn with gatesShut := true } ∧ u.hub.gatesOpen = false ∧
      u.hub.lock = .off ∧ u.pcieUp = false ∧ u.pair.lane = false ∧ u.ports = Vector.replicate 8 Port.reset) ∧
  (∀ (s : State),
    s.dyn.st ≠ .dusk ∨ s.dyn.gatesShut = true ∨ s.clock < s.dyn.duskFrom + 409600000 →
    exec .duskGateClose s = .next s) ∧
  (∀ (s : State),
    s.dyn.st = .dusk ∧ s.dyn.gatesShut = true ∧ s.dyn.railsDown = false ∧ s.programming = false →
    2 ≤ s.dyn.rails ∧ s.dyn.rails ≠ 5 →
    exec .duskRailsDown s = .next { s with dyn := { s.dyn with rails := s.dyn.rails - 1 } }) ∧
  (∀ (s : State),
    s.dyn.st = .dusk ∧ s.dyn.gatesShut = true ∧ s.dyn.railsDown = false ∧ s.programming = false →
    s.dyn.rails = 5 →
    ∃ u, exec .duskRailsDown s = .next u ∧ u.dyn = { s.dyn with rails := 4 } ∧ u.hb = { s.hb with flashJob := none } ∧
      (∀ x : Nat, s.hb.flashJob.all (fun j => decide (x < j.addr ∨ j.addr + 4096 ≤ x)) = true →
        look flashDflt u.flash x = look flashDflt s.flash x)) ∧
  (∀ (s : State),
    s.dyn.st = .dusk ∧ s.dyn.gatesShut = true ∧ s.dyn.railsDown = false ∧ s.programming = false →
    s.dyn.rails ≤ 1 →
    ∃ u, exec .duskRailsDown s = .next u ∧ u.dyn.st = .dusk ∧ u.dyn.railsDown = true ∧ u.dyn.rails = 0 ∧
      u.dyn.eFuse = .cut ∧ u.dyn.kept = s.dyn.kept ∧ u.flash = s.flash ∧ u.mem = [] ∧ u.dtRuns = false ∧
      u.pending = s.pending) ∧
  (∀ (s : State),
    s.dyn.st ≠ .dusk ∨ s.dyn.gatesShut = false ∨ s.dyn.railsDown = true ∨ s.programming = true →
    exec .duskRailsDown s = .next s) ∧
  (∀ (s : State),
    s.dyn.st = .dusk ∧ s.dyn.railsDown = true →
    exec .nightEntry s = .next { s with dyn := { s.dyn with st := .night, highs := 0 } }) ∧
  (∀ (s : State),
    s.dyn.st ≠ .dusk ∨ s.dyn.railsDown = false →
    exec .nightEntry s = .next s)

/-- A brown-out or overvoltage of a running module counts, ends the confirmation of hold-up, takes the module off VIN and is raised;
VIN back within 1 ms is a ride-through, by a new soft start (R396). Each refresh takes VIN, VBUS and P_in, projects the hold-up, and
confirms it in Dawn and Day where the charge above 28 V lasts 2 ms at that power (R395). A temperature measured above 115 degrees
sets the warning, and one below 110 clears it, each raised; above 125 degrees the time is kept from which it has been so (R397,
R400). A VEL fault is kept and raised once (R402). -/
def Obligations.SupplyAndTemperatureComplete : Prop :=
  (∀ (s : State),
    s.onBus = true →
    s.dyn.brown = false ∨ s.dyn.brownOv ≠ false →
    ∃ u, exec .brownout s = .next u ∧ u.dyn = { s.dyn with
      brown := true, brownOv := false, eFuse := .blocks, brownFrom := if s.dyn.brown then s.dyn.brownFrom else s.clock
      confirmed := false, brownouts := s.dyn.brownouts + 1 } ∧
      (s.evFull 249 = false → ⟨249, causeWord 1 0 0, s.now, s.outage⟩ ∈ u.occs)) ∧
  (∀ (s : State),
    s.softStarts = false →
    s.onBus = false ∨ s.dyn.brown = true ∧ s.dyn.brownOv = false →
    exec .brownout s = .next s) ∧
  (∀ (s : State),
    s.onBus = true →
    s.dyn.brown = false ∨ s.dyn.brownOv ≠ true →
    ∃ u, exec .overvoltage s = .next u ∧ u.dyn = { s.dyn with
      brown := true, brownOv := true, eFuse := .cut, brownFrom := if s.dyn.brown then s.dyn.brownFrom else s.clock
      confirmed := false, brownouts := s.dyn.brownouts + 1 } ∧
      (s.evFull 249 = false → ⟨249, causeWord 2 0 0, s.now, s.outage⟩ ∈ u.occs)) ∧
  (∀ (s : State),
    s.softStarts = false →
    s.onBus = false ∨ s.dyn.brown = true ∧ s.dyn.brownOv = true →
    exec .overvoltage s = .next s) ∧
  (∀ (s : State),
    s.dyn.brown = true ∧ s.onBus = true →
    s.clock ≤ s.dyn.brownFrom + 4096000000 →
    ∃ u, exec .ridethru s = .next u ∧ u.dyn = { s.dyn with
      brown := false, eFuse := .soft, ridethrus := s.dyn.ridethrus + 1 } ∧
      (s.evFull 249 = false → ⟨249, causeWord 3 0 0, s.now, s.outage⟩ ∈ u.occs)) ∧
  (∀ (s : State),
    s.dyn.brown = false ∨ s.onBus = false ∨ s.dyn.brownFrom + 4096000000 < s.clock →
    exec .ridethru s = .next s) ∧
  (∀ (s : State) (v b p : BitVec 16),
    s.dyn.st = .dawn ∨ s.dyn.st = .day ∨ s.dyn.st = .dusk ∧ s.dyn.railsDown = false →
    ∃ u, exec (.holdupRefresh v b p) s = .next u ∧ u.dyn.vin = v ∧ u.dyn.vbus = b ∧ u.dyn.pin = p ∧
      u.dyn.st = s.dyn.st ∧ u.dyn.holdup = BitVec.ofNat 16 (holdupUs s.dyn.cbus.toNat b.toNat p.toNat) ∧
      (u.dyn.confirmed = true ↔ s.dyn.st ≠ .dusk ∧ s.dyn.brown = false ∧ 100 ≤ s.dyn.cbus.toNat ∧
      0 < busCharge s.dyn.cbus.toNat b.toNat ∧ 40000 * p.toNat ≤ busCharge s.dyn.cbus.toNat b.toNat)) ∧
  (∀ (s : State) (t : BitVec 12),
    s.dyn.st = .dawn ∨ s.dyn.st = .day ∨ s.dyn.st = .dusk ∧ s.dyn.railsDown = false →
    ∃ u, exec (.tempMeasure t) s = .next u ∧ u.dyn.temp = t ∧ u.dyn.st = s.dyn.st ∧
      u.dyn.tWarn = (if 460 < signed 12 t.toNat then true else if signed 12 t.toNat < 440 then false else s.dyn.tWarn) ∧
      u.dyn.hotFrom = (if 500 < signed 12 t.toNat then some (s.dyn.hotFrom.getD s.clock) else none) ∧
      (s.evFull 251 = false → u.dyn.tWarn ≠ s.dyn.tWarn →
        ⟨251, causeWord (if s.dyn.tWarn then 2 else 1) 0 0, s.now, s.outage⟩ ∈ u.occs)) ∧
  (∀ (s : State) (t : BitVec 12),
    s.dyn.st = .startUp ∧ s.dyn.rails ≠ 0 →
    exec (.tempMeasure t) s = .next { s with dyn := { s.dyn with temp := t } }) ∧
  (∀ (s : State),
    s.dyn.st = .dawn ∨ s.dyn.st = .day ∨ s.dyn.st = .dusk ∧ s.dyn.railsDown = false →
    s.dyn.elFault = false →
    exec .velFault s = .next (raiseNow 250 1 0 0 { s with dyn := { s.dyn with elFault := true } })) ∧
  (∀ (s : State),
    s.dynRuns = false ∨ s.dyn.elFault = true →
    exec .velFault s = .next s)

/-- The active generation is 0 after entry to Dawn; a generation is newer than g if it is ahead by 1 to 2^31 - 1 modulo 2^32;
a COMMIT of the host or of a thread whose generation is not newer, none being pending, is refused with cause GEN (0b0010): the
status says so, E253 is raised with DT_effect, and the active generation stands. -/
def Obligations.GenerationRule : Prop :=
  (∀ (gen g : Word),
    State.reset.commit.gen = 0 ∧
      (newer gen g = true ↔ 1 ≤ (gen.toNat + 2 ^ 32 - g.toNat) % 2 ^ 32 ∧
        (gen.toNat + 2 ^ 32 - g.toNat) % 2 ^ 32 ≤ 2 ^ 31 - 1)) ∧
  (∀ (s : State),
    s.hostReach = true →
    s.commit.pend = none →
    newer (s.immAt 0x20C) s.commit.gen = false →
    ∃ u, exec .commitGo s = .next u ∧ u.commit.state = 3 ∧ u.commit.cause = 2 ∧ u.commit.src = false ∧
      u.commit.pend = none ∧
      u.commit.gen = s.commit.gen ∧ u.isl = s.isl ∧
      ⟨253, causeWord 2 0xFF (s.immAt 0x20C).toNat, dtAt s.imm 0x200, false⟩ ∈ u.occs) ∧
  (∀ (s : State) (p : ThreadId) (w : BitVec 64) (t : Thread) (a b c : Fin 8),
    t = s.thread p →
    s.issues p w →
    iOp w = 0x6A →
    iField w 52 4 = 8 + a.val ∧ iField w 48 4 = b.val ∧ iField w 44 4 = c.val ∧ iField w 0 44 = 0 →
    t.ip ≠ 0x3FFF →
    s.commit.pend = none →
    newer (t.g.get b) s.commit.gen = false →
    ∃ u, exec (.commit p) s = .next u ∧ u.commit.state = 3 ∧ u.commit.cause = 2 ∧ u.commit.src = true ∧
      u.commit.thread = BitVec.ofNat 4 p.val ∧ u.commit.pend = none ∧ u.commit.gen = s.commit.gen ∧ u.isl = s.isl ∧
      ⟨253, causeWord 2 0xFF (t.g.get b).toNat, t.t.get a, false⟩ ∈ u.occs)

/-- Where the frame the lane would send next came in more than FW_AGE us ago (0 acts as 1), it is discarded: it leaves the
buffer, its cells are free, its pair counts it, and E208 is raised with cause AGED, its pair and its direction, except for a frame
that bypass passes, where the event channel has room for what the discard may raise (R304, R316, R318). -/
def Obligations.AgedFrameDiscarded : Prop :=
  ∀ (s : State) (c : PortId) (d : Bool) (f : Frame),
    s.clocked = true →
    (s.laneFrames c d).any (fun f => f.egress.isSome) = false →
    nextFrame (s.laneFrames c d) = some f →
    (dtAdd f.ingress (max 1 (fld (s.act 0x38004) 0 16) * 4096000)).toNat < s.dt.toNat →
    (s.occs.filter fun o => evChannel o.src.val == 0x50).length + 3 ≤ 16 →
    ∃ u, exec (.egressStart c d) s = .next u ∧ u.fw.frames = s.fw.frames.erase f ∧ u.fw.free = s.fw.free + f.cells ∧
      (u.fw.cnt.get f.pair).discard = (s.fw.cnt.get f.pair).discard + 1 ∧
      (s.fw.bypass = false ∨ f.disp.toNat ≠ 0 → ⟨208, causeWord 4 (fwDetail f.pair f.toLine) 0, s.dt, false⟩ ∈ u.occs)

/-- ANCHOR issues an ANCHOR descriptor with DT = Ta, tagged with Pacer's generation, whatever Ta is: it sets M(s) to Ta, takes no
queue place, and clears F, in 1 slot. Without room in the channel the thread is held and nothing else changes, and a later try
does the same as the first. A nonzero GW or payload is an ILLEGAL fault. -/
def Obligations.AnchorInstruction : Prop :=
  (∀ (s : State) (p : ThreadId) (w : BitVec 64) (t : Thread) (i : SpokeId) (d : Fin 8) (ta : DT),
    t = s.thread p →
    s.issues p w →
    iOp w = 0x43 →
    iField w 52 4 = 8 + d.val →
    ta = t.t.get d →
    okSpoke w = true ∧ spokeOf t w = i.val →
    iField w 48 4 = 0 ∧ iField w 0 40 = 0 →
    (s.spoke i).chan.length < 4 →
    t.ip ≠ 0x3FFF →
    ∃ u, exec (.anchor p) s = .next u ∧ u.pacer.mirror.get i = ta ∧ u.pacer.used = s.pacer.used ∧
      (u.spoke i).chan = (s.spoke i).chan ++ [.desc ⟨BitVec.ofNat 128 (ta.toNat * 2 ^ 48), (s.island islPacer).gen, p⟩] ∧ u.thread p = (s.completed p { t with f := false, ip := t.ip + 1 }).thread p) ∧
  (∀ (s : State) (p : ThreadId) (w : BitVec 64) (t : Thread) (i : SpokeId) (d : Fin 8) (ta : DT),
    t = s.thread p →
    s.issues p w →
    iOp w = 0x43 →
    iField w 52 4 = 8 + d.val →
    ta = t.t.get d →
    okSpoke w = true ∧ spokeOf t w = i.val →
    iField w 48 4 = 0 ∧ iField w 0 40 = 0 →
    4 ≤ (s.spoke i).chan.length →
    t.ip ≠ 0x3FFF →
    exec (.anchor p) s = .next (s.setThread p { t with
      state := .hold, waitOn := .issue (.anchor i ta), nextSlot := s.slot + 16 })) ∧
  (∀ (s : State) (p : ThreadId) (t : Thread) (i : SpokeId) (ta : DT),
    t = s.thread p →
    s.mayUse p .hold = true →
    t.waitOn = .issue (.anchor i ta) →
    (s.spoke i).chan.length < 4 →
    ∃ u, exec (.issueRetry p) s = .next u ∧ u.pacer.mirror.get i = ta ∧ u.pacer.used = s.pacer.used ∧
      (u.spoke i).chan = (s.spoke i).chan ++ [.desc ⟨BitVec.ofNat 128 (ta.toNat * 2 ^ 48), (s.island islPacer).gen, p⟩] ∧ u.thread p = (s.completed p { t with f := false, ip := t.ip + 1 }).thread p) ∧
  (∀ (s : State) (p : ThreadId) (w : BitVec 64) (t : Thread) (i : SpokeId) (d : Fin 8) (ta : DT),
    t = s.thread p →
    s.issues p w →
    iOp w = 0x43 →
    iField w 52 4 = 8 + d.val →
    ta = t.t.get d →
    okSpoke w = true ∧ spokeOf t w = i.val →
    iField w 48 4 ≠ 0 ∨ iField w 0 40 ≠ 0 →
    exec (.anchor p) s = .next (fault p 1 s))
end

