-- ==== Sys2Proof/Laws/Frames.lean ====
section
/-! SUPPORT. What each shared operation leaves alone: one lemma per operation, `outside_<operation>`, says that what
stands outside the parts it may change is as it was. -/

set_option linter.unusedSimpArgs false
set_option linter.unusedVariables false

namespace Sys2Proof.Laws

open Sys2Proof.Machine

@[simp] theorem outside_with_clock {pt : Parts} (s : State) (x_clock : _) (h_clock : pt.clock = true) :
    ({ s with clock := x_clock } : State).outside pt = s.outside pt := by
  simp [State.outside, h_clock]

@[simp] theorem outside_with_dt {pt : Parts} (s : State) (x_dt : _) (h_dt : pt.dt = true) :
    ({ s with dt := x_dt } : State).outside pt = s.outside pt := by
  simp [State.outside, h_dt]

@[simp] theorem outside_with_dtRuns {pt : Parts} (s : State) (x_dtRuns : _) (h_dtRuns : pt.dtRuns = true) :
    ({ s with dtRuns := x_dtRuns } : State).outside pt = s.outside pt := by
  simp [State.outside, h_dtRuns]

@[simp] theorem outside_with_shadow {pt : Parts} (s : State) (x_shadow : _) (h_shadow : pt.shadow = true) :
    ({ s with shadow := x_shadow } : State).outside pt = s.outside pt := by
  simp [State.outside, h_shadow]

@[simp] theorem outside_with_imm {pt : Parts} (s : State) (x_imm : _) (h_imm : pt.imm = true) :
    ({ s with imm := x_imm } : State).outside pt = s.outside pt := by
  simp [State.outside, h_imm]

@[simp] theorem outside_with_isl {pt : Parts} (s : State) (x_isl : _) (h_isl : pt.isl = true) :
    ({ s with isl := x_isl } : State).outside pt = s.outside pt := by
  simp [State.outside, h_isl]

@[simp] theorem outside_with_commit {pt : Parts} (s : State) (x_commit : _) (h_commit : pt.commit = true) :
    ({ s with commit := x_commit } : State).outside pt = s.outside pt := by
  simp [State.outside, h_commit]

@[simp] theorem outside_with_snap {pt : Parts} (s : State) (x_snap : _) (h_snap : pt.snap = true) :
    ({ s with snap := x_snap } : State).outside pt = s.outside pt := by
  simp [State.outside, h_snap]

@[simp] theorem outside_with_occs {pt : Parts} (s : State) (x_occs : _) (h_occs : pt.occs = true) :
    ({ s with occs := x_occs } : State).outside pt = s.outside pt := by
  simp [State.outside, h_occs]

@[simp] theorem outside_with_outbox {pt : Parts} (s : State) (x_outbox : _) (h_outbox : pt.outbox = true) :
    ({ s with outbox := x_outbox } : State).outside pt = s.outside pt := by
  simp [State.outside, h_outbox]

@[simp] theorem outside_with_posted {pt : Parts} (s : State) (x_posted : _) (h_posted : pt.posted = true) :
    ({ s with posted := x_posted } : State).outside pt = s.outside pt := by
  simp [State.outside, h_posted]

@[simp] theorem outside_with_mem {pt : Parts} (s : State) (x_mem : _) (h_mem : pt.mem = true) :
    ({ s with mem := x_mem } : State).outside pt = s.outside pt := by
  simp [State.outside, h_mem]

@[simp] theorem outside_with_flash {pt : Parts} (s : State) (x_flash : _) (h_flash : pt.flash = true) :
    ({ s with flash := x_flash } : State).outside pt = s.outside pt := by
  simp [State.outside, h_flash]

@[simp] theorem outside_with_spokes {pt : Parts} (s : State) (x_spokes : _) (h_spokes : pt.spokes = true) :
    ({ s with spokes := x_spokes } : State).outside pt = s.outside pt := by
  simp [State.outside, h_spokes]

@[simp] theorem outside_with_pacer {pt : Parts} (s : State) (x_pacer : _) (h_pacer : pt.pacer = true) :
    ({ s with pacer := x_pacer } : State).outside pt = s.outside pt := by
  simp [State.outside, h_pacer]

@[simp] theorem outside_with_latch {pt : Parts} (s : State) (x_latch : _) (h_latch : pt.latch = true) :
    ({ s with pacer := { s.pacer with latch := x_latch } } : State).outside pt = s.outside pt := by
  simp [State.outside, h_latch]

@[simp] theorem outside_with_engines {pt : Parts} (s : State) (x_engines : _) (h_engines : pt.engines = true) :
    ({ s with engines := x_engines } : State).outside pt = s.outside pt := by
  simp [State.outside, h_engines]

@[simp] theorem outside_with_crank {pt : Parts} (s : State) (x_crank : _) (h_crank : pt.crank = true) :
    ({ s with crank := x_crank } : State).outside pt = s.outside pt := by
  simp [State.outside, h_crank]

@[simp] theorem outside_with_truing {pt : Parts} (s : State) (x_truing : _) (h_truing : pt.truing = true) :
    ({ s with truing := x_truing } : State).outside pt = s.outside pt := by
  simp [State.outside, h_truing]

@[simp] theorem outside_with_hub {pt : Parts} (s : State) (x_hub : _) (h_hub : pt.hub = true) :
    ({ s with hub := x_hub } : State).outside pt = s.outside pt := by
  simp [State.outside, h_hub]

@[simp] theorem outside_with_noon {pt : Parts} (s : State) (x_noon : _) (h_noon : pt.noon = true) :
    ({ s with noon := x_noon } : State).outside pt = s.outside pt := by
  simp [State.outside, h_noon]

@[simp] theorem outside_with_ports {pt : Parts} (s : State) (x_ports : _) (h_ports : pt.ports = true) :
    ({ s with ports := x_ports } : State).outside pt = s.outside pt := by
  simp [State.outside, h_ports]

@[simp] theorem outside_with_fw {pt : Parts} (s : State) (x_fw : _) (h_fw : pt.fw = true) :
    ({ s with fw := x_fw } : State).outside pt = s.outside pt := by
  simp [State.outside, h_fw]

@[simp] theorem outside_with_stoker {pt : Parts} (s : State) (x_stoker : _) (h_stoker : pt.stoker = true) :
    ({ s with stoker := x_stoker } : State).outside pt = s.outside pt := by
  simp [State.outside, h_stoker]

@[simp] theorem outside_with_pair {pt : Parts} (s : State) (x_pair : _) (h_pair : pt.pair = true) :
    ({ s with pair := x_pair } : State).outside pt = s.outside pt := by
  simp [State.outside, h_pair]

@[simp] theorem outside_with_hb {pt : Parts} (s : State) (x_hb : _) (h_hb : pt.hb = true) (e : x_hb.fuse =
    s.hb.fuse) :
    ({ s with hb := x_hb } : State).outside pt = s.outside pt := by
  simp [State.outside, h_hb, e]

@[simp] theorem outside_with_dyn {pt : Parts} (s : State) (x_dyn : _) (h_dyn : pt.dyn = true) :
    ({ s with dyn := x_dyn } : State).outside pt = s.outside pt := by
  simp [State.outside, h_dyn]

@[simp] theorem outside_with_pending {pt : Parts} (s : State) (x_pending : _) (h_pending : pt.pending = true) :
    ({ s with pending := x_pending } : State).outside pt = s.outside pt := by
  simp [State.outside, h_pending]

@[simp] theorem outside_with_evDrops {pt : Parts} (s : State) (x_evDrops : _) (h_occs : pt.occs = true) :
    ({ s with evDrops := x_evDrops } : State).outside pt = s.outside pt := by
  simp [State.outside, h_occs]

@[simp] theorem outside_with_evOwed {pt : Parts} (s : State) (x_evOwed : _) (h_occs : pt.occs = true) :
    ({ s with evOwed := x_evOwed } : State).outside pt = s.outside pt := by
  simp [State.outside, h_occs]

@[simp] theorem outside_with_clock_dt {pt : Parts} (s : State) (x_clock : _) (x_dt : _) (h_clock : pt.clock = true)
    (h_dt : pt.dt = true) :
    ({ s with clock := x_clock, dt := x_dt } : State).outside pt = s.outside pt := by
  simp [State.outside, h_clock, h_dt]

@[simp] theorem outside_with_clock_hub {pt : Parts} (s : State) (x_clock : _) (x_hub : _) (h_clock : pt.clock =
    true) (h_hub : pt.hub = true) :
    ({ s with clock := x_clock, hub := x_hub } : State).outside pt = s.outside pt := by
  simp [State.outside, h_clock, h_hub]

@[simp] theorem outside_with_dt_hub {pt : Parts} (s : State) (x_dt : _) (x_hub : _) (h_dt : pt.dt = true) (h_hub :
    pt.hub = true) :
    ({ s with dt := x_dt, hub := x_hub } : State).outside pt = s.outside pt := by
  simp [State.outside, h_dt, h_hub]

@[simp] theorem outside_with_evDrops_evOwed {pt : Parts} (s : State) (x_evDrops : _) (x_evOwed : _) (h_occs :
    pt.occs = true) :
    ({ s with evDrops := x_evDrops, evOwed := x_evOwed } : State).outside pt = s.outside pt := by
  simp [State.outside, h_occs]

@[simp] theorem outside_with_commit_pacer_hub {pt : Parts} (s : State) (x_commit : _) (x_pacer : _) (x_hub : _)
    (h_commit : pt.commit = true) (h_pacer : pt.pacer = true) (h_hub : pt.hub = true) :
    ({ s with commit := x_commit, pacer := x_pacer, hub := x_hub } : State).outside pt = s.outside pt := by
  simp [State.outside, h_commit, h_pacer, h_hub]

@[simp] theorem outside_with_hub_dyn {pt : Parts} (s : State) (x_hub : _) (x_dyn : _) (h_hub : pt.hub = true) (h_dyn
    : pt.dyn = true) :
    ({ s with hub := x_hub, dyn := x_dyn } : State).outside pt = s.outside pt := by
  simp [State.outside, h_hub, h_dyn]

@[simp] theorem outside_with_occs_latch_dyn {pt : Parts} (s : State) (x_occs : _) (x_latch : _) (x_dyn : _) (h_occs
    : pt.occs = true) (h_latch : pt.latch = true) (h_dyn : pt.dyn = true) :
    ({ s with occs := x_occs, pacer := { s.pacer with latch := x_latch }, dyn := x_dyn } : State).outside pt =
      s.outside pt := by
  simp [State.outside, h_occs, h_latch, h_dyn]

@[simp] theorem outside_with_commit_hub {pt : Parts} (s : State) (x_commit : _) (x_hub : _) (h_commit : pt.commit =
    true) (h_hub : pt.hub = true) :
    ({ s with commit := x_commit, hub := x_hub } : State).outside pt = s.outside pt := by
  simp [State.outside, h_commit, h_hub]

@[simp] theorem outside_with_latch_hb {pt : Parts} (s : State) (x_latch : _) (x_hb : _) (h_latch : pt.latch = true)
    (h_hb : pt.hb = true) (e : x_hb.fuse = s.hb.fuse) :
    ({ s with pacer := { s.pacer with latch := x_latch }, hb := x_hb } : State).outside pt = s.outside pt := by
  simp [State.outside, h_latch, h_hb, e]

@[simp] theorem outside_with_pacer_truing_hub_noon_pair_hb {pt : Parts} (s : State) (x_pacer : _) (x_truing : _)
    (x_hub : _) (x_noon : _) (x_pair : _) (x_hb : _) (h_pacer : pt.pacer = true) (h_truing : pt.truing = true)
    (h_hub : pt.hub = true) (h_noon : pt.noon = true) (h_pair : pt.pair = true) (h_hb : pt.hb = true) (e : x_hb.fuse
    = s.hb.fuse) :
    ({ s with pacer := x_pacer, truing := x_truing, hub := x_hub, noon := x_noon, pair := x_pair, hb := x_hb } :
      State).outside pt = s.outside pt := by
  simp [State.outside, h_pacer, h_truing, h_hub, h_noon, h_pair, h_hb, e]

@[simp] theorem outside_with_occs_pacer_truing_hb_dyn {pt : Parts} (s : State) (x_occs : _) (x_pacer : _) (x_truing
    : _) (x_hb : _) (x_dyn : _) (h_occs : pt.occs = true) (h_pacer : pt.pacer = true) (h_truing : pt.truing = true)
    (h_hb : pt.hb = true) (h_dyn : pt.dyn = true) (e : x_hb.fuse = s.hb.fuse) :
    ({ s with occs := x_occs, pacer := x_pacer, truing := x_truing, hb := x_hb, dyn := x_dyn } : State).outside pt =
      s.outside pt := by
  simp [State.outside, h_occs, h_pacer, h_truing, h_hb, h_dyn, e]

@[simp] theorem outside_with_hub_noon {pt : Parts} (s : State) (x_hub : _) (x_noon : _) (h_hub : pt.hub = true)
    (h_noon : pt.noon = true) :
    ({ s with hub := x_hub, noon := x_noon } : State).outside pt = s.outside pt := by
  simp [State.outside, h_hub, h_noon]

@[simp] theorem outside_with_dtRuns_dyn {pt : Parts} (s : State) (x_dtRuns : _) (x_dyn : _) (h_dtRuns : pt.dtRuns =
    true) (h_dyn : pt.dyn = true) :
    ({ s with dtRuns := x_dtRuns, dyn := x_dyn } : State).outside pt = s.outside pt := by
  simp [State.outside, h_dtRuns, h_dyn]

@[simp] theorem outside_with_dt_hub_noon {pt : Parts} (s : State) (x_dt : _) (x_hub : _) (x_noon : _) (h_dt : pt.dt
    = true) (h_hub : pt.hub = true) (h_noon : pt.noon = true) :
    ({ s with dt := x_dt, hub := x_hub, noon := x_noon } : State).outside pt = s.outside pt := by
  simp [State.outside, h_dt, h_hub, h_noon]

@[simp] theorem outside_with_mem_pacer {pt : Parts} (s : State) (x_mem : _) (x_pacer : _) (h_mem : pt.mem = true)
    (h_pacer : pt.pacer = true) :
    ({ s with mem := x_mem, pacer := x_pacer } : State).outside pt = s.outside pt := by
  simp [State.outside, h_mem, h_pacer]

theorem outside_ite {pt : Parts} {c : Prop} [Decidable c] (a b : State) :
    (if c then a else b).outside pt = if c then a.outside pt else b.outside pt := by split <;> rfl

theorem outside_dite {pt : Parts} {c : Prop} [Decidable c] (a : c → State) (b : ¬c → State) (s : State)
    (ha : ∀ h, (a h).outside pt = s.outside pt) (hb : ∀ h, (b h).outside pt = s.outside pt) :
    (if h : c then a h else b h).outside pt = s.outside pt := by split <;> simp only [ha, hb]

theorem outside_foldl {pt : Parts} {α : Type} (f : State → α → State) (h : ∀ s a, (f s a).outside pt = s.outside pt)
    (l : List α) (s : State) : (l.foldl f s).outside pt = s.outside pt := by
  induction l generalizing s with
  | nil => rfl
  | cons a l ih => simp [ih, h]

theorem outside_forEach {pt : Parts} (n : Nat) (f : Fin n → State → State)
    (h : ∀ i s, (f i s).outside pt = s.outside pt) (s : State) : (forEach n f s).outside pt = s.outside pt :=
  outside_foldl _ (fun s a => h a s) _ _

@[simp] theorem outside_State_setThread {pt : Parts} (s : State) (p1 : ThreadId) (x : Thread) (h_pacer : pt.pacer =
    true) :
    (State.setThread s p1 x).outside pt = s.outside pt := by
  unfold State.setThread
  repeat' first
    | simp only [outside_with_pacer, outside_ite, outside_forEach, outside_foldl, ite_self, implies_true, *]
    | split
    | rfl

@[simp] theorem outside_State_completed {pt : Parts} (s : State) (p1 : ThreadId) (t : Thread) (h_pacer : pt.pacer =
    true) :
    (State.completed s p1 t).outside pt = s.outside pt := by
  unfold State.completed
  repeat' first
    | simp only [outside_State_setThread, outside_ite, outside_forEach, outside_foldl, ite_self, implies_true, *]
    | split
    | rfl

@[simp] theorem outside_beginCell {pt : Parts} (m : RingPort × Option Octets) (s : State) (h_stoker : pt.stoker =
    true) :
    (beginCell m s).outside pt = s.outside pt := by
  unfold beginCell
  repeat' first
    | simp only [outside_with_stoker, outside_ite, outside_forEach, outside_foldl, ite_self, implies_true, *]
    | split
    | rfl

@[simp] theorem outside_runLink {pt : Parts} (prt : RingPort) (s : State) (h_stoker : pt.stoker = true) :
    (runLink prt s).outside pt = s.outside pt := by
  unfold runLink
  repeat' first
    | simp only [outside_beginCell, outside_ite, outside_forEach, outside_foldl, ite_self, implies_true, *]
    | split
    | rfl

@[simp] theorem outside_State_tick {pt : Parts} (s : State) (h_clock : pt.clock = true) (h_dt : pt.dt = true) (h_hub
    : pt.hub = true) :
    (State.tick s).outside pt = s.outside pt := by
  unfold State.tick
  repeat' first
    | simp only [outside_with_clock, outside_with_clock_dt, outside_with_clock_hub, outside_with_dt_hub,
        outside_ite, outside_forEach, outside_foldl, ite_self, implies_true, *]
    | split
    | rfl

@[simp] theorem outside_State_idle {pt : Parts} (s : State) (h_clock : pt.clock = true) (h_dt : pt.dt = true) (h_hub
    : pt.hub = true) (h_stoker : pt.stoker = true) :
    (State.idle s).outside pt = s.outside pt := by
  unfold State.idle
  repeat' first
    | simp only [outside_runLink, outside_State_tick, outside_ite, outside_forEach, outside_foldl, ite_self,
        implies_true, *]
    | split
    | rfl

@[simp] theorem outside_State_setAxis {pt : Parts} (s : State) (a : AxisId) (x : Axis) (h_crank : pt.crank = true) :
    (State.setAxis s a x).outside pt = s.outside pt := by
  unfold State.setAxis
  repeat' first
    | simp only [outside_with_crank, outside_ite, outside_forEach, outside_foldl, ite_self, implies_true, *]
    | split
    | rfl

@[simp] theorem outside_State_modAxis {pt : Parts} (s : State) (a : AxisId) (f : Axis → Axis) (h_crank : pt.crank =
    true) :
    (State.modAxis s a f).outside pt = s.outside pt := by
  unfold State.modAxis
  repeat' first
    | simp only [outside_State_setAxis, outside_ite, outside_forEach, outside_foldl, ite_self, implies_true, *]
    | split
    | rfl

@[simp] theorem outside_State_modCand {pt : Parts} (s : State) (k : Fin 16) (f : Cand → Cand) (h_noon : pt.noon =
    true) :
    (State.modCand s k f).outside pt = s.outside pt := by
  unfold State.modCand
  repeat' first
    | simp only [outside_with_noon, outside_ite, outside_forEach, outside_foldl, ite_self, implies_true, *]
    | split
    | rfl

@[simp] theorem outside_State_modDyn {pt : Parts} (s : State) (f : Dynamo → Dynamo) (h_dyn : pt.dyn = true) :
    (State.modDyn s f).outside pt = s.outside pt := by
  unfold State.modDyn
  repeat' first
    | simp only [outside_with_dyn, outside_ite, outside_forEach, outside_foldl, ite_self, implies_true, *]
    | split
    | rfl

@[simp] theorem outside_State_setEngine {pt : Parts} (s : State) (v : EngineId) (x : Engine) (h_engines : pt.engines
    = true) :
    (State.setEngine s v x).outside pt = s.outside pt := by
  unfold State.setEngine
  repeat' first
    | simp only [outside_with_engines, outside_ite, outside_forEach, outside_foldl, ite_self, implies_true, *]
    | split
    | rfl

@[simp] theorem outside_State_modEngine {pt : Parts} (s : State) (v : EngineId) (f : Engine → Engine) (h_engines :
    pt.engines = true) :
    (State.modEngine s v f).outside pt = s.outside pt := by
  unfold State.modEngine
  repeat' first
    | simp only [outside_State_setEngine, outside_ite, outside_forEach, outside_foldl, ite_self, implies_true, *]
    | split
    | rfl

@[simp] theorem outside_State_setIsland {pt : Parts} (s : State) (i : IslandId) (x : Isl) (h_isl : pt.isl = true) :
    (State.setIsland s i x).outside pt = s.outside pt := by
  unfold State.setIsland
  repeat' first
    | simp only [outside_with_isl, outside_ite, outside_forEach, outside_foldl, ite_self, implies_true, *]
    | split
    | rfl

@[simp] theorem outside_State_modIsland {pt : Parts} (s : State) (i : IslandId) (f : Isl → Isl) (h_isl : pt.isl =
    true) :
    (State.modIsland s i f).outside pt = s.outside pt := by
  unfold State.modIsland
  repeat' first
    | simp only [outside_State_setIsland, outside_ite, outside_forEach, outside_foldl, ite_self, implies_true, *]
    | split
    | rfl

@[simp] theorem outside_State_setItem {pt : Parts} (s : State) (i : ItemId) (x : TruItem) (h_truing : pt.truing =
    true) :
    (State.setItem s i x).outside pt = s.outside pt := by
  unfold State.setItem
  repeat' first
    | simp only [outside_with_truing, outside_ite, outside_forEach, outside_foldl, ite_self, implies_true, *]
    | split
    | rfl

@[simp] theorem outside_State_modItem {pt : Parts} (s : State) (i : ItemId) (f : TruItem → TruItem) (h_truing :
    pt.truing = true) :
    (State.modItem s i f).outside pt = s.outside pt := by
  unfold State.modItem
  repeat' first
    | simp only [outside_State_setItem, outside_ite, outside_forEach, outside_foldl, ite_self, implies_true, *]
    | split
    | rfl

@[simp] theorem outside_State_modPair {pt : Parts} (s : State) (f : Pair → Pair) (h_pair : pt.pair = true) :
    (State.modPair s f).outside pt = s.outside pt := by
  unfold State.modPair
  repeat' first
    | simp only [outside_with_pair, outside_ite, outside_forEach, outside_foldl, ite_self, implies_true, *]
    | split
    | rfl

@[simp] theorem outside_State_setPort {pt : Parts} (s : State) (c : PortId) (x : Port) (h_ports : pt.ports = true) :
    (State.setPort s c x).outside pt = s.outside pt := by
  unfold State.setPort
  repeat' first
    | simp only [outside_with_ports, outside_ite, outside_forEach, outside_foldl, ite_self, implies_true, *]
    | split
    | rfl

@[simp] theorem outside_State_modPort {pt : Parts} (s : State) (c : PortId) (f : Port → Port) (h_ports : pt.ports =
    true) :
    (State.modPort s c f).outside pt = s.outside pt := by
  unfold State.modPort
  repeat' first
    | simp only [outside_State_setPort, outside_ite, outside_forEach, outside_foldl, ite_self, implies_true, *]
    | split
    | rfl

@[simp] theorem outside_State_setReq {pt : Parts} (s : State) (i : SpokeId) (x : TruReq) (h_truing : pt.truing =
    true) :
    (State.setReq s i x).outside pt = s.outside pt := by
  unfold State.setReq
  repeat' first
    | simp only [outside_with_truing, outside_ite, outside_forEach, outside_foldl, ite_self, implies_true, *]
    | split
    | rfl

@[simp] theorem outside_State_modReq {pt : Parts} (s : State) (i : SpokeId) (f : TruReq → TruReq) (h_truing :
    pt.truing = true) :
    (State.modReq s i f).outside pt = s.outside pt := by
  unfold State.modReq
  repeat' first
    | simp only [outside_State_setReq, outside_ite, outside_forEach, outside_foldl, ite_self, implies_true, *]
    | split
    | rfl

@[simp] theorem outside_State_setRing {pt : Parts} (s : State) (q : RingId) (rx : Bool) (x : Machine.Ring) (h_hb :
    pt.hb = true) :
    (State.setRing s q rx x).outside pt = s.outside pt := by
  unfold State.setRing
  repeat' first
    | simp only [outside_with_hb, outside_ite, outside_forEach, outside_foldl, ite_self, implies_true, *]
    | split
    | rfl

@[simp] theorem outside_State_modRing {pt : Parts} (s : State) (q : RingId) (rx : Bool) (f : Machine.Ring →
    Machine.Ring) (h_hb : pt.hb = true) :
    (State.modRing s q rx f).outside pt = s.outside pt := by
  unfold State.modRing
  repeat' first
    | simp only [outside_State_setRing, outside_ite, outside_forEach, outside_foldl, ite_self, implies_true, *]
    | split
    | rfl

@[simp] theorem outside_State_modSnap {pt : Parts} (s : State) (f : Snap → Snap) (h_snap : pt.snap = true) :
    (State.modSnap s f).outside pt = s.outside pt := by
  unfold State.modSnap
  repeat' first
    | simp only [outside_with_snap, outside_ite, outside_forEach, outside_foldl, ite_self, implies_true, *]
    | split
    | rfl

@[simp] theorem outside_State_setSpoke {pt : Parts} (s : State) (i : SpokeId) (x : Spoke) (h_spokes : pt.spokes =
    true) :
    (State.setSpoke s i x).outside pt = s.outside pt := by
  unfold State.setSpoke
  repeat' first
    | simp only [outside_with_spokes, outside_ite, outside_forEach, outside_foldl, ite_self, implies_true, *]
    | split
    | rfl

@[simp] theorem outside_State_modSpoke {pt : Parts} (s : State) (i : SpokeId) (f : Spoke → Spoke) (h_spokes :
    pt.spokes = true) :
    (State.modSpoke s i f).outside pt = s.outside pt := by
  unfold State.modSpoke
  repeat' first
    | simp only [outside_State_setSpoke, outside_ite, outside_forEach, outside_foldl, ite_self, implies_true, *]
    | split
    | rfl

@[simp] theorem outside_State_modStoker {pt : Parts} (s : State) (f : Stoker → Stoker) (h_stoker : pt.stoker = true)
    :
    (State.modStoker s f).outside pt = s.outside pt := by
  unfold State.modStoker
  repeat' first
    | simp only [outside_with_stoker, outside_ite, outside_forEach, outside_foldl, ite_self, implies_true, *]
    | split
    | rfl

@[simp] theorem outside_State_modThread {pt : Parts} (s : State) (p1 : ThreadId) (f : Thread → Thread) (h_pacer :
    pt.pacer = true) :
    (State.modThread s p1 f).outside pt = s.outside pt := by
  unfold State.modThread
  repeat' first
    | simp only [outside_State_setThread, outside_ite, outside_forEach, outside_foldl, ite_self, implies_true, *]
    | split
    | rfl

@[simp] theorem outside_State_setVec {pt : Parts} (s : State) (v : VecId) (x : Vec) (h_hb : pt.hb = true) :
    (State.setVec s v x).outside pt = s.outside pt := by
  unfold State.setVec
  repeat' first
    | simp only [outside_with_hb, outside_ite, outside_forEach, outside_foldl, ite_self, implies_true, *]
    | split
    | rfl

@[simp] theorem outside_State_withFetchWord {pt : Parts} (s : State) (nbits : Nat) (w : Nat) (h_pending : pt.pending
    = true) :
    (State.withFetchWord s nbits w).outside pt = s.outside pt := by
  unfold State.withFetchWord
  repeat' first
    | simp only [outside_with_pending, outside_ite, outside_forEach, outside_foldl, ite_self, implies_true, *]
    | split
    | rfl

@[simp] theorem outside_restoreTrims {pt : Parts} (i : SpokeId) (s : State) (h_truing : pt.truing = true) :
    (restoreTrims i s).outside pt = s.outside pt := by
  unfold restoreTrims
  repeat' first
    | simp only [outside_State_modItem, outside_ite, outside_forEach, outside_foldl, ite_self, implies_true, *]
    | split
    | rfl

@[simp] theorem outside_abortRun {pt : Parts} (i : SpokeId) (s : State) (h_truing : pt.truing = true) :
    (abortRun i s).outside pt = s.outside pt := by
  unfold abortRun
  repeat' first
    | simp only [outside_State_modItem, outside_State_modReq, outside_restoreTrims, outside_ite, outside_forEach,
        outside_foldl, ite_self, implies_true, *]
    | split
    | rfl

@[simp] theorem outside_startGap {pt : Parts} (i : SpokeId) (s : State) (h_truing : pt.truing = true) :
    (startGap i s).outside pt = s.outside pt := by
  unfold startGap
  repeat' first
    | simp only [outside_State_modReq, outside_ite, outside_forEach, outside_foldl, ite_self, implies_true, *]
    | split
    | rfl

@[simp] theorem outside_stopHits {pt : Parts} (it : ItemId) (s : State) (h_truing : pt.truing = true) :
    (stopHits it s).outside pt = s.outside pt := by
  unfold stopHits
  repeat' first
    | simp only [outside_State_modItem, outside_ite, outside_forEach, outside_foldl, ite_self, implies_true, *]
    | split
    | rfl

@[simp] theorem outside_dropEvent {pt : Parts} (e : Nat) (d : DT) (s : State) (h_occs : pt.occs = true) :
    (dropEvent e d s).outside pt = s.outside pt := by
  unfold dropEvent
  repeat' first
    | simp only [outside_with_evDrops_evOwed, outside_ite, outside_forEach, outside_foldl, ite_self, implies_true,
        *]
    | split
    | rfl

@[simp] theorem outside_raiseAs {pt : Parts} (coarse : Bool) (e : Nat) (cause : Nat) (detail : Nat) (arg : Nat) (d :
    DT) (s : State) (h_occs : pt.occs = true) (h_latch : pt.latch = true) :
    (raiseAs coarse e cause detail arg d s).outside pt = s.outside pt := by
  unfold raiseAs
  repeat' first
    | simp only [outside_dropEvent, outside_with_occs, outside_with_latch, outside_ite, outside_forEach,
        outside_foldl, ite_self, implies_true, *]
    | split
    | rfl

@[simp] theorem outside_raise {pt : Parts} (e : Nat) (cause : Nat) (detail : Nat) (arg : Nat) (d : DT) (s : State)
    (h_occs : pt.occs = true) (h_latch : pt.latch = true) :
    (raise e cause detail arg d s).outside pt = s.outside pt := by
  unfold raise
  repeat' first
    | simp only [outside_raiseAs, outside_ite, outside_forEach, outside_foldl, ite_self, implies_true, *]
    | split
    | rfl

@[simp] theorem outside_truingWork {pt : Parts} (i : SpokeId) (first : DT) (s : State) (h_occs : pt.occs = true)
    (h_spokes : pt.spokes = true) (h_truing : pt.truing = true) (h_latch : pt.latch = true) :
    (truingWork i first s).outside pt = s.outside pt := by
  unfold truingWork
  repeat' first
    | simp only [outside_startGap, outside_State_setReq, outside_stopHits, outside_raise, outside_State_modSpoke,
        outside_abortRun, outside_ite, outside_forEach, outside_foldl, ite_self, implies_true, *]
    | split
    | rfl

@[simp] theorem outside_releaseRetiring {pt : Parts} (i : SpokeId) (s : State) (h_isl : pt.isl = true) :
    (releaseRetiring i s).outside pt = s.outside pt := by
  unfold releaseRetiring
  repeat' first
    | simp only [outside_State_setIsland, outside_ite, outside_forEach, outside_foldl, ite_self, implies_true, *]
    | split
    | rfl

@[simp] theorem outside_finishDesc {pt : Parts} (i : SpokeId) (e : QDesc) (t : DT) (s : State) (h_isl : pt.isl =
    true) (h_occs : pt.occs = true) (h_spokes : pt.spokes = true) (h_truing : pt.truing = true) (h_latch : pt.latch
    = true) :
    (finishDesc i e t s).outside pt = s.outside pt := by
  unfold finishDesc
  repeat' first
    | simp only [outside_State_modSpoke, outside_raise, outside_releaseRetiring, outside_startGap, outside_ite,
        outside_forEach, outside_foldl, ite_self, implies_true, *]
    | split
    | rfl

@[simp] theorem outside_acceptDesc {pt : Parts} (i : SpokeId) (e : QDesc) (ahead : Option QDesc) (s : State) (h_isl
    : pt.isl = true) (h_occs : pt.occs = true) (h_spokes : pt.spokes = true) (h_truing : pt.truing = true) (h_latch
    : pt.latch = true) :
    (acceptDesc i e ahead s).outside pt = s.outside pt := by
  unfold acceptDesc
  repeat' first
    | simp only [outside_State_modSpoke, outside_truingWork, outside_finishDesc, outside_ite, outside_forEach,
        outside_foldl, ite_self, implies_true, *]
    | split
    | rfl

@[simp] theorem outside_settle {pt : Parts} (it : ItemId) (d : DT) (s : State) (h_occs : pt.occs = true) (h_truing :
    pt.truing = true) (h_latch : pt.latch = true) :
    (settle it d s).outside pt = s.outside pt := by
  unfold settle
  repeat' first
    | simp only [outside_State_setItem, outside_raise, outside_ite, outside_forEach, outside_foldl, ite_self,
        implies_true, *]
    | split
    | rfl

@[simp] theorem outside_acceptPair {pt : Parts} (it : ItemId) (a : List Nat) (b : List Nat) (s : State) (h_occs :
    pt.occs = true) (h_truing : pt.truing = true) (h_latch : pt.latch = true) :
    (acceptPair it a b s).outside pt = s.outside pt := by
  unfold acceptPair
  repeat' first
    | simp only [outside_State_setItem, outside_raise, outside_settle, outside_with_truing, outside_ite,
        outside_forEach, outside_foldl, ite_self, implies_true, *]
    | split
    | rfl

@[simp] theorem outside_raiseAxis {pt : Parts} (a : AxisId) (cause : Nat) (d : DT) (s : State) (h_occs : pt.occs =
    true) (h_crank : pt.crank = true) (h_latch : pt.latch = true) :
    (raiseAxis a cause d s).outside pt = s.outside pt := by
  unfold raiseAxis
  repeat' first
    | simp only [outside_raise, outside_State_modAxis, outside_ite, outside_forEach, outside_foldl, ite_self,
        implies_true, *]
    | split
    | rfl

@[simp] theorem outside_noTime {pt : Parts} (a : AxisId) (g : Target) (cause : Nat) (srch : DT) (s : State) (h_occs
    : pt.occs = true) (h_crank : pt.crank = true) (h_latch : pt.latch = true) :
    (noTime a g cause srch s).outside pt = s.outside pt := by
  unfold noTime
  repeat' first
    | simp only [outside_raiseAxis, outside_State_modAxis, outside_ite, outside_forEach, outside_foldl, ite_self,
        implies_true, *]
    | split
    | rfl

@[simp] theorem outside_searchTarget {pt : Parts} (a : AxisId) (srch : DT) (g : Target) (s : State) (h_occs :
    pt.occs = true) (h_crank : pt.crank = true) (h_latch : pt.latch = true) :
    (searchTarget a srch g s).outside pt = s.outside pt := by
  unfold searchTarget
  repeat' first
    | simp only [outside_State_modAxis, outside_noTime, outside_ite, outside_forEach, outside_foldl, ite_self,
        implies_true, *]
    | split
    | rfl

@[simp] theorem outside_acceptSegment {pt : Parts} (a : AxisId) (g : Segment) (s : State) (h_occs : pt.occs = true)
    (h_crank : pt.crank = true) (h_latch : pt.latch = true) :
    (acceptSegment a g s).outside pt = s.outside pt := by
  unfold acceptSegment
  repeat' first
    | simp only [outside_State_setAxis, outside_raiseAxis, outside_State_modAxis, outside_searchTarget, outside_ite,
        outside_forEach, outside_foldl, ite_self, implies_true, *]
    | split
    | rfl
    | intro _
    | refine (outside_foldl _ (fun _ _ => ?_) _ _).trans ?_
    | refine (outside_forEach _ _ (fun _ _ => ?_) _).trans ?_

@[simp] theorem outside_actionDone {pt : Parts} (p0 : ThreadId) (a : CtlAct) (s : State) (h_occs : pt.occs = true)
    (h_pacer : pt.pacer = true) (h_latch : pt.latch = true) :
    (actionDone p0 a s).outside pt = s.outside pt := by
  unfold actionDone
  repeat' first
    | simp only [outside_State_modThread, outside_raise, outside_ite, outside_forEach, outside_foldl, ite_self,
        implies_true, *]
    | split
    | rfl

@[simp] theorem outside_raiseNow {pt : Parts} (e : Nat) (cause : Nat) (detail : Nat) (arg : Nat) (s : State) (h_occs
    : pt.occs = true) (h_latch : pt.latch = true) :
    (raiseNow e cause detail arg s).outside pt = s.outside pt := by
  unfold raiseNow
  repeat' first
    | simp only [outside_raiseAs, outside_ite, outside_forEach, outside_foldl, ite_self, implies_true, *]
    | split
    | rfl

@[simp] theorem outside_setSlew {pt : Parts} (v : ℤ) (s : State) (h_occs : pt.occs = true) (h_noon : pt.noon = true)
    (h_latch : pt.latch = true) :
    (setSlew v s).outside pt = s.outside pt := by
  unfold setSlew
  repeat' first
    | simp only [outside_raiseNow, outside_with_noon, outside_ite, outside_forEach, outside_foldl, ite_self,
        implies_true, *]
    | split
    | rfl

@[simp] theorem outside_addSlew {pt : Parts} (x : ℤ) (s : State) (h_occs : pt.occs = true) (h_noon : pt.noon = true)
    (h_latch : pt.latch = true) :
    (addSlew x s).outside pt = s.outside pt := by
  unfold addSlew
  repeat' first
    | simp only [outside_setSlew, outside_ite, outside_forEach, outside_foldl, ite_self, implies_true, *]
    | split
    | rfl

@[simp] theorem outside_setEpoch {pt : Parts} (s : State) (h_occs : pt.occs = true) (h_noon : pt.noon = true)
    (h_latch : pt.latch = true) :
    (setEpoch s).outside pt = s.outside pt := by
  unfold setEpoch
  repeat' first
    | simp only [outside_raiseNow, outside_with_noon, outside_ite, outside_forEach, outside_foldl, ite_self,
        implies_true, *]
    | split
    | rfl

@[simp] theorem outside_adoptEpoch {pt : Parts} (tai : Bool) (s : State) (h_occs : pt.occs = true) (h_noon : pt.noon
    = true) (h_latch : pt.latch = true) :
    (adoptEpoch tai s).outside pt = s.outside pt := by
  unfold adoptEpoch
  repeat' first
    | simp only [outside_setEpoch, outside_with_noon, outside_ite, outside_forEach, outside_foldl, ite_self,
        implies_true, *]
    | split
    | rfl

@[simp] theorem outside_answerBusy {pt : Parts} (src : CommitSrc) (s : State) (h_pacer : pt.pacer = true) :
    (answerBusy src s).outside pt = s.outside pt := by
  unfold answerBusy
  repeat' first
    | simp only [outside_State_modThread, outside_ite, outside_forEach, outside_foldl, ite_self, implies_true, *]
    | split
    | rfl

@[simp] theorem outside_overIslands {pt : Parts} (f : IslandId → State → State) (s : State) (h_f : ∀ y0 y1, (f y0
    y1).outside pt = y1.outside pt) :
    (overIslands f s).outside pt = s.outside pt := by
  unfold overIslands
  repeat' first
    | simp only [outside_ite, outside_forEach, outside_foldl, ite_self, implies_true, *]
    | split
    | rfl

@[simp] theorem outside_sendIsl {pt : Parts} (m : CommitMsg) (i : IslandId) (s : State) (h_isl : pt.isl = true) :
    (sendIsl m i s).outside pt = s.outside pt := by
  unfold sendIsl
  repeat' first
    | simp only [outside_State_modIsland, outside_ite, outside_forEach, outside_foldl, ite_self, implies_true, *]
    | split
    | rfl

@[simp] theorem outside_setStatus {pt : Parts} (src : CommitSrc) (st : Nat) (cause : Nat) (island : Nat) (pos : Nat)
    (side : Bool) (s : State) (h_commit : pt.commit = true) :
    (setStatus src st cause island pos side s).outside pt = s.outside pt := by
  unfold setStatus
  repeat' first
    | simp only [outside_with_commit, outside_ite, outside_forEach, outside_foldl, ite_self, implies_true, *]
    | split
    | rfl

@[simp] theorem outside_sayRefused {pt : Parts} (src : CommitSrc) (dtEff : DT) (gen : Word) (cause : Nat) (island :
    Nat) (pos : Nat) (side : Bool) (s : State) (h_commit : pt.commit = true) (h_occs : pt.occs = true) (h_latch :
    pt.latch = true) :
    (sayRefused src dtEff gen cause island pos side s).outside pt = s.outside pt := by
  unfold sayRefused
  repeat' first
    | simp only [outside_raise, outside_setStatus, outside_raiseNow, outside_with_commit, outside_ite,
        outside_forEach, outside_foldl, ite_self, implies_true, *]
    | split
    | rfl

@[simp] theorem outside_refusePending {pt : Parts} (cause : Nat) (island : Nat) (pos : Nat) (side : Bool) (s :
    State) (h_isl : pt.isl = true) (h_commit : pt.commit = true) (h_occs : pt.occs = true) (h_pacer : pt.pacer =
    true) (h_hub : pt.hub = true) (h_latch : pt.latch = true) :
    (refusePending cause island pos side s).outside pt = s.outside pt := by
  unfold refusePending
  repeat' first
    | simp only [outside_overIslands, outside_sendIsl, outside_sayRefused, outside_with_commit_pacer_hub,
        outside_ite, outside_forEach, outside_foldl, ite_self, implies_true, *]
    | split
    | rfl

@[simp] theorem outside_sayStepRefused {pt : Parts} (auto : Bool) (code : Nat) (s : State) (h_occs : pt.occs = true)
    (h_noon : pt.noon = true) (h_latch : pt.latch = true) :
    (sayStepRefused auto code s).outside pt = s.outside pt := by
  unfold sayStepRefused
  repeat' first
    | simp only [outside_raiseNow, outside_with_noon, outside_ite, outside_forEach, outside_foldl, ite_self,
        implies_true, *]
    | split
    | rfl

@[simp] theorem outside_refuseStep {pt : Parts} (auto : Bool) (code : Nat) (s : State) (h_occs : pt.occs = true)
    (h_noon : pt.noon = true) (h_latch : pt.latch = true) :
    (refuseStep auto code s).outside pt = s.outside pt := by
  unfold refuseStep
  repeat' first
    | simp only [outside_sayStepRefused, outside_with_noon, outside_ite, outside_forEach, outside_foldl, ite_self,
        implies_true, *]
    | split
    | rfl

@[simp] theorem outside_onAbandon {pt : Parts} (dtEff : DT) (gen : Word) (cause : Nat) (pos : Nat) (side : Bool) (s
    : State) (h_isl : pt.isl = true) (h_commit : pt.commit = true) (h_occs : pt.occs = true) (h_pacer : pt.pacer =
    true) (h_hub : pt.hub = true) (h_noon : pt.noon = true) (h_stoker : pt.stoker = true) (h_latch : pt.latch =
    true) :
    (onAbandon dtEff gen cause pos side s).outside pt = s.outside pt := by
  unfold onAbandon
  repeat' first
    | simp only [outside_refusePending, outside_refuseStep, outside_with_stoker, outside_ite, outside_forEach,
        outside_foldl, ite_self, implies_true, *]
    | split
    | rfl

@[simp] theorem outside_sendCell {pt : Parts} (prt : RingPort) (m : Option Octets) (s : State) (h_stoker : pt.stoker
    = true) :
    (sendCell prt m s).outside pt = s.outside pt := by
  unfold sendCell
  repeat' first
    | simp only [outside_runLink, outside_State_modStoker, outside_ite, outside_forEach, outside_foldl, ite_self,
        implies_true, *]
    | split
    | rfl

@[simp] theorem outside_relay {pt : Parts} (cell : Octets) (s : State) (h_pair : pt.pair = true) :
    (relay cell s).outside pt = s.outside pt := by
  unfold relay
  repeat' first
    | simp only [outside_with_pair, outside_ite, outside_forEach, outside_foldl, ite_self, implies_true, *]
    | split
    | rfl

@[simp] theorem outside_flood {pt : Parts} (cell : Octets) (s : State) (h_stoker : pt.stoker = true) (h_pair :
    pt.pair = true) :
    (flood cell s).outside pt = s.outside pt := by
  unfold flood
  repeat' first
    | simp only [outside_sendCell, outside_relay, outside_ite, outside_forEach, outside_foldl, ite_self,
        implies_true, *]
    | split
    | rfl

@[simp] theorem outside_originate {pt : Parts} (ty : Nat) (dest : Nat) (all : Bool) (body : Octets) (s : State)
    (h_stoker : pt.stoker = true) (h_pair : pt.pair = true) :
    (originate ty dest all body s).outside pt = s.outside pt := by
  unfold originate
  repeat' first
    | simp only [outside_flood, outside_State_modStoker, outside_ite, outside_forEach, outside_foldl, ite_self,
        implies_true, *]
    | split
    | rfl

@[simp] theorem outside_giveUp {pt : Parts} (dtEff : DT) (gen : Word) (cause : Nat) (pos : Nat) (side : Bool) (s :
    State) (h_isl : pt.isl = true) (h_commit : pt.commit = true) (h_occs : pt.occs = true) (h_pacer : pt.pacer =
    true) (h_hub : pt.hub = true) (h_noon : pt.noon = true) (h_stoker : pt.stoker = true) (h_pair : pt.pair = true)
    (h_latch : pt.latch = true) :
    (giveUp dtEff gen cause pos side s).outside pt = s.outside pt := by
  unfold giveUp
  repeat' first
    | simp only [outside_onAbandon, outside_originate, outside_ite, outside_forEach, outside_foldl, ite_self,
        implies_true, *]
    | split
    | rfl

@[simp] theorem outside_giveUpHeld {pt : Parts} (r : CoordRec) (cause : Nat) (pos : Nat) (side : Bool) (s : State)
    (h_isl : pt.isl = true) (h_commit : pt.commit = true) (h_occs : pt.occs = true) (h_pacer : pt.pacer = true)
    (h_hub : pt.hub = true) (h_noon : pt.noon = true) (h_stoker : pt.stoker = true) (h_pair : pt.pair = true)
    (h_latch : pt.latch = true) :
    (giveUpHeld r cause pos side s).outside pt = s.outside pt := by
  unfold giveUpHeld
  repeat' first
    | simp only [outside_giveUp, outside_with_stoker, outside_ite, outside_forEach, outside_foldl, ite_self,
        implies_true, *]
    | split
    | rfl

@[simp] theorem outside_confirmAll {pt : Parts} (s : State) (h_isl : pt.isl = true) (h_commit : pt.commit = true) :
    (confirmAll s).outside pt = s.outside pt := by
  unfold confirmAll
  repeat' first
    | simp only [outside_overIslands, outside_sendIsl, outside_with_commit, outside_ite, outside_forEach,
        outside_foldl, ite_self, implies_true, *]
    | split
    | rfl

@[simp] theorem outside_onConfirm {pt : Parts} (dtEff : DT) (gen : Word) (s : State) (h_isl : pt.isl = true)
    (h_commit : pt.commit = true) (h_noon : pt.noon = true) (h_stoker : pt.stoker = true) :
    (onConfirm dtEff gen s).outside pt = s.outside pt := by
  have h1 := outside_with_stoker (pt := pt) s { s.stoker with armed := none } (by assumption)
  unfold onConfirm
  repeat' first
    | simp only [outside_confirmAll, outside_with_noon, outside_with_stoker, outside_ite, ite_self, *]
    | split
    | rfl
  all_goals simp_all [State.outside]

@[simp] theorem outside_decide' {pt : Parts} (r : CoordRec) (s : State) (h_isl : pt.isl = true) (h_commit :
    pt.commit = true) (h_noon : pt.noon = true) (h_stoker : pt.stoker = true) (h_pair : pt.pair = true) :
    (decide' r s).outside pt = s.outside pt := by
  unfold decide'
  repeat' first
    | simp only [outside_originate, outside_onConfirm, outside_with_stoker, outside_ite, outside_forEach,
        outside_foldl, ite_self, implies_true, *]
    | split
    | rfl

@[simp] theorem outside_coordAnswer {pt : Parts} (pos : Nat) (side : Bool) (dtEff : DT) (armed : Bool) (s : State)
    (h_isl : pt.isl = true) (h_commit : pt.commit = true) (h_occs : pt.occs = true) (h_pacer : pt.pacer = true)
    (h_hub : pt.hub = true) (h_noon : pt.noon = true) (h_stoker : pt.stoker = true) (h_pair : pt.pair = true)
    (h_latch : pt.latch = true) :
    (coordAnswer pos side dtEff armed s).outside pt = s.outside pt := by
  unfold coordAnswer
  repeat' first
    | simp only [outside_giveUpHeld, outside_decide', outside_with_stoker, outside_ite, outside_forEach,
        outside_foldl, ite_self, implies_true, *]
    | split
    | rfl

@[simp] theorem outside_answerCoord {pt : Parts} (a : ArmedRec) (armed : Bool) (cause : Nat) (island : Nat) (s :
    State) (h_isl : pt.isl = true) (h_commit : pt.commit = true) (h_occs : pt.occs = true) (h_pacer : pt.pacer =
    true) (h_hub : pt.hub = true) (h_noon : pt.noon = true) (h_stoker : pt.stoker = true) (h_pair : pt.pair = true)
    (h_latch : pt.latch = true) :
    (answerCoord a armed cause island s).outside pt = s.outside pt := by
  unfold answerCoord
  repeat' first
    | simp only [outside_coordAnswer, outside_originate, outside_ite, outside_forEach, outside_foldl, ite_self,
        implies_true, *]
    | split
    | rfl

@[simp] theorem outside_leave {pt : Parts} (c : PortId) (m : Nat × Octets) (s : State) (h_ports : pt.ports = true) :
    (leave c m s).outside pt = s.outside pt := by
  unfold leave
  repeat' first
    | simp only [outside_State_modPort, outside_ite, outside_forEach, outside_foldl, ite_self, implies_true, *]
    | split
    | rfl

@[simp] theorem outside_sendWaiting {pt : Parts} (c : PortId) (s : State) (h_ports : pt.ports = true) :
    (sendWaiting c s).outside pt = s.outside pt := by
  unfold sendWaiting
  repeat' first
    | simp only [outside_leave, outside_State_modPort, outside_ite, outside_forEach, outside_foldl, ite_self,
        implies_true, *]
    | split
    | rfl

@[simp] theorem outside_sendFrame {pt : Parts} (c : PortId) (ty : Nat) (pdu : Octets) (s : State) (h_ports :
    pt.ports = true) :
    (sendFrame c ty pdu s).outside pt = s.outside pt := by
  unfold sendFrame
  repeat' first
    | simp only [outside_sendWaiting, outside_State_modPort, outside_ite, outside_forEach, outside_foldl, ite_self,
        implies_true, *]
    | split
    | rfl

@[simp] theorem outside_sendPdu {pt : Parts} (c : PortId) (ty : Nat) (flags : Nat) (body : Octets) (s : State)
    (h_ports : pt.ports = true) :
    (sendPdu c ty flags body s).outside pt = s.outside pt := by
  unfold sendPdu
  repeat' first
    | simp only [outside_sendFrame, outside_State_modPort, outside_ite, outside_forEach, outside_foldl, ite_self,
        implies_true, *]
    | split
    | rfl

@[simp] theorem outside_portTo {pt : Parts} (c : PortId) (st : Nat) (reason : Nat) (s : State) (h_occs : pt.occs =
    true) (h_ports : pt.ports = true) (h_latch : pt.latch = true) :
    (portTo c st reason s).outside pt = s.outside pt := by
  unfold portTo
  repeat' first
    | simp only [outside_State_modPort, outside_raiseNow, outside_ite, outside_forEach, outside_foldl, ite_self,
        implies_true, *]
    | split
    | rfl

@[simp] theorem outside_tryUp {pt : Parts} (c : PortId) (s : State) (h_occs : pt.occs = true) (h_ports : pt.ports =
    true) (h_latch : pt.latch = true) :
    (tryUp c s).outside pt = s.outside pt := by
  unfold tryUp
  repeat' first
    | simp only [outside_portTo, outside_State_setPort, outside_ite, outside_forEach, outside_foldl, ite_self,
        implies_true, *]
    | split
    | rfl

@[simp] theorem outside_sendOffer {pt : Parts} (c : PortId) (s : State) (h_ports : pt.ports = true) :
    (sendOffer c s).outside pt = s.outside pt := by
  unfold sendOffer
  repeat' first
    | simp only [outside_State_modPort, outside_sendPdu, outside_ite, outside_forEach, outside_foldl, ite_self,
        implies_true, *]
    | split
    | rfl

@[simp] theorem outside_newOfferId {pt : Parts} (c : PortId) (s : State) (h_ports : pt.ports = true) :
    (newOfferId c s).outside pt = s.outside pt := by
  unfold newOfferId
  repeat' first
    | simp only [outside_State_modPort, outside_ite, outside_forEach, outside_foldl, ite_self, implies_true, *]
    | split
    | rfl

@[simp] theorem outside_judgeAccept {pt : Parts} (c : PortId) (s : State) (h_occs : pt.occs = true) (h_ports :
    pt.ports = true) (h_latch : pt.latch = true) :
    (judgeAccept c s).outside pt = s.outside pt := by
  unfold judgeAccept
  repeat' first
    | simp only [outside_tryUp, outside_State_setPort, outside_sendOffer, outside_newOfferId, outside_ite,
        outside_forEach, outside_foldl, ite_self, implies_true, *]
    | split
    | rfl

@[simp] theorem outside_answerOffer {pt : Parts} (c : PortId) (s : State) (h_occs : pt.occs = true) (h_ports :
    pt.ports = true) (h_latch : pt.latch = true) :
    (answerOffer c s).outside pt = s.outside pt := by
  unfold answerOffer
  repeat' first
    | simp only [outside_sendPdu, outside_State_modPort, outside_judgeAccept, outside_raiseNow, outside_portTo,
        outside_ite, outside_forEach, outside_foldl, ite_self, implies_true, *]
    | split
    | rfl

@[simp] theorem outside_setBoard {pt : Parts} (k : Nat) (v : Word) (s : State) (h_shadow : pt.shadow = true) (h_isl
    : pt.isl = true) :
    (setBoard k v s).outside pt = s.outside pt := by
  unfold setBoard
  repeat' first
    | simp only [outside_State_modIsland, outside_with_shadow, outside_ite, outside_forEach, outside_foldl,
        ite_self, implies_true, *]
    | split
    | rfl

@[simp] theorem outside_applyLane {pt : Parts} (r : Octets) (s : State) (h_shadow : pt.shadow = true) (h_isl :
    pt.isl = true) (h_pair : pt.pair = true) :
    (applyLane r s).outside pt = s.outside pt := by
  unfold applyLane
  repeat' first
    | simp only [outside_setBoard, outside_with_pair, outside_ite, outside_forEach, outside_foldl, ite_self,
        implies_true, *]
    | split
    | rfl

@[simp] theorem outside_applyPcie {pt : Parts} (r : Octets) (s : State) (h_hb : pt.hb = true) :
    (applyPcie r s).outside pt = s.outside pt := by
  unfold applyPcie
  repeat' first
    | simp only [outside_with_hb, outside_ite, outside_forEach, outside_foldl, ite_self, implies_true, *]
    | split
    | rfl

@[simp] theorem outside_applyReg {pt : Parts} (r : Octets) (s : State) (h_shadow : pt.shadow = true) (h_isl : pt.isl
    = true) (h_ports : pt.ports = true) (h_fw : pt.fw = true) (h_pair : pt.pair = true) (h_hb : pt.hb = true) (h_dyn
    : pt.dyn = true) :
    (applyReg r s).outside pt = s.outside pt := by
  unfold applyReg
  repeat' first
    | simp only [outside_State_modDyn, outside_setBoard, outside_State_modPort, outside_with_fw, outside_with_pair,
        outside_with_hb, outside_ite, outside_forEach, outside_foldl, ite_self, implies_true, *]
    | split
    | rfl

@[simp] theorem outside_applySection {pt : Parts} (sec : Nat × List Octets) (s : State) (h_shadow : pt.shadow =
    true) (h_isl : pt.isl = true) (h_ports : pt.ports = true) (h_fw : pt.fw = true) (h_pair : pt.pair = true) (h_hb
    : pt.hb = true) (h_dyn : pt.dyn = true) :
    (applySection sec s).outside pt = s.outside pt := by
  unfold applySection
  repeat' first
    | simp only [outside_applyReg, outside_applyLane, outside_applyPcie, outside_ite, outside_forEach,
        outside_foldl, ite_self, implies_true, *]
    | split
    | rfl

@[simp] theorem outside_arm {pt : Parts} (i : IslandId) (dtEff : DT) (gen : Word) (own : Vector (BitVec 64) 4) (s :
    State) (h_isl : pt.isl = true) (h_commit : pt.commit = true) (h_pacer : pt.pacer = true) (h_hub : pt.hub = true)
    :
    (arm i dtEff gen own s).outside pt = s.outside pt := by
  unfold arm
  repeat' first
    | simp only [outside_State_modIsland, outside_with_commit, outside_with_pacer, outside_with_hub, outside_ite,
        outside_forEach, outside_foldl, ite_self, implies_true, *]
    | split
    | rfl

@[simp] theorem outside_prepareAll {pt : Parts} (src : CommitSrc) (reach : Reach) (dtEff : DT) (gen : Word) (own :
    Vector (BitVec 64) 4) (s : State) (h_isl : pt.isl = true) (h_commit : pt.commit = true) :
    (prepareAll src reach dtEff gen own s).outside pt = s.outside pt := by
  unfold prepareAll
  repeat' first
    | simp only [outside_overIslands, outside_sendIsl, outside_setStatus, outside_with_commit, outside_ite,
        outside_forEach, outside_foldl, ite_self, implies_true, *]
    | split
    | rfl

@[simp] theorem outside_armCommit {pt : Parts} (a : ArmedRec) (s : State) (h_isl : pt.isl = true) (h_commit :
    pt.commit = true) (h_occs : pt.occs = true) (h_pacer : pt.pacer = true) (h_hub : pt.hub = true) (h_noon :
    pt.noon = true) (h_stoker : pt.stoker = true) (h_pair : pt.pair = true) (h_latch : pt.latch = true) :
    (armCommit a s).outside pt = s.outside pt := by
  unfold armCommit
  repeat' first
    | simp only [outside_prepareAll, outside_refusePending, outside_answerCoord, outside_with_stoker, outside_ite,
        outside_forEach, outside_foldl, ite_self, implies_true, *]
    | split
    | rfl

@[simp] theorem outside_armStep {pt : Parts} (a : ArmedRec) (s : State) (h_isl : pt.isl = true) (h_commit :
    pt.commit = true) (h_occs : pt.occs = true) (h_pacer : pt.pacer = true) (h_hub : pt.hub = true) (h_noon :
    pt.noon = true) (h_stoker : pt.stoker = true) (h_pair : pt.pair = true) (h_latch : pt.latch = true) :
    (armStep a s).outside pt = s.outside pt := by
  unfold armStep
  repeat' first
    | simp only [outside_answerCoord, outside_with_noon, outside_with_stoker, outside_ite, ite_self, *]
    | split
    | rfl
  all_goals simp_all [State.outside]

@[simp] theorem outside_arrive {pt : Parts} (e : EventId) (s : State) (h_pacer : pt.pacer = true) (h_latch :
    pt.latch = true) :
    (arrive e s).outside pt = s.outside pt := by
  unfold arrive
  repeat' first
    | simp only [outside_with_latch, outside_with_pacer, outside_ite, outside_forEach, outside_foldl, ite_self,
        implies_true, *]
    | split
    | rfl

@[simp] theorem outside_setCancel {pt : Parts} (i : SpokeId) (cut : DT) (s : State) (h_spokes : pt.spokes = true) :
    (setCancel i cut s).outside pt = s.outside pt := by
  unfold setCancel
  repeat' first
    | simp only [outside_State_modSpoke, outside_ite, outside_forEach, outside_foldl, ite_self, implies_true, *]
    | split
    | rfl

@[simp] theorem outside_arriveCancel {pt : Parts} (i : SpokeId) (cut : DT) (p2 : ThreadId) (s : State) (h_occs :
    pt.occs = true) (h_spokes : pt.spokes = true) (h_pacer : pt.pacer = true) (h_latch : pt.latch = true) :
    (arriveCancel i cut p2 s).outside pt = s.outside pt := by
  unfold arriveCancel
  repeat' first
    | simp only [outside_setCancel, outside_raise, outside_State_modThread, outside_ite, outside_forEach,
        outside_foldl, ite_self, implies_true, *]
    | split
    | rfl

@[simp] theorem outside_autoOver {pt : Parts} (auto : Bool) (s : State) (h_noon : pt.noon = true) :
    (autoOver auto s).outside pt = s.outside pt := by
  unfold autoOver
  repeat' first
    | simp only [outside_with_noon, outside_ite, outside_forEach, outside_foldl, ite_self, implies_true, *]
    | split
    | rfl

@[simp] theorem outside_withdrawPrepare {pt : Parts} (p0 : PendingCommit) (i : IslandId) (s : State) (h_isl : pt.isl
    = true) :
    (withdrawPrepare p0 i s).outside pt = s.outside pt := by
  unfold withdrawPrepare
  repeat' first
    | simp only [outside_State_modIsland, outside_ite, outside_forEach, outside_foldl, ite_self, implies_true, *]
    | split
    | rfl

@[simp] theorem outside_clearPlace {pt : Parts} (s : State) (h_isl : pt.isl = true) (h_commit : pt.commit = true) :
    (clearPlace s).outside pt = s.outside pt := by
  unfold clearPlace
  repeat' first
    | simp only [outside_overIslands, outside_withdrawPrepare, outside_with_commit, outside_ite, outside_forEach,
        outside_foldl, ite_self, implies_true, *]
    | split
    | rfl

@[simp] theorem outside_refuseDisplaced {pt : Parts} (old : Option PendingCommit) (s : State) (h_commit : pt.commit
    = true) (h_occs : pt.occs = true) (h_pacer : pt.pacer = true) (h_latch : pt.latch = true) :
    (refuseDisplaced old s).outside pt = s.outside pt := by
  unfold refuseDisplaced
  repeat' first
    | simp only [outside_answerBusy, outside_sayRefused, outside_ite, outside_forEach, outside_foldl, ite_self,
        implies_true, *]
    | split
    | rfl

@[simp] theorem outside_onPrepare {pt : Parts} (a : ArmedRec) (s : State) (h_isl : pt.isl = true) (h_commit :
    pt.commit = true) (h_occs : pt.occs = true) (h_pacer : pt.pacer = true) (h_hub : pt.hub = true) (h_noon :
    pt.noon = true) (h_stoker : pt.stoker = true) (h_pair : pt.pair = true) (h_latch : pt.latch = true) :
    (onPrepare a s).outside pt = s.outside pt := by
  unfold onPrepare
  repeat' first
    | simp only [outside_giveUpHeld, outside_armStep, outside_armCommit, outside_ite, outside_forEach,
        outside_foldl, ite_self, implies_true, *]
    | split
    | rfl

@[simp] theorem outside_coordRequest {pt : Parts} (pos : Nat) (step : Bool) (dtEff : DT) (gen : Word) (d : BitVec
    64) (s : State) (h_isl : pt.isl = true) (h_commit : pt.commit = true) (h_occs : pt.occs = true) (h_pacer :
    pt.pacer = true) (h_hub : pt.hub = true) (h_noon : pt.noon = true) (h_stoker : pt.stoker = true) (h_pair :
    pt.pair = true) (h_latch : pt.latch = true) :
    (coordRequest pos step dtEff gen d s).outside pt = s.outside pt := by
  unfold coordRequest
  repeat' first
    | simp only [outside_giveUp, outside_originate, outside_onPrepare, outside_with_stoker, outside_ite,
        outside_forEach, outside_foldl, ite_self, implies_true, *]
    | split
    | rfl

@[simp] theorem outside_sendRequest {pt : Parts} (step : Bool) (dtEff : DT) (gen : Word) (d : BitVec 64) (s : State)
    (h_isl : pt.isl = true) (h_commit : pt.commit = true) (h_occs : pt.occs = true) (h_pacer : pt.pacer = true)
    (h_hub : pt.hub = true) (h_noon : pt.noon = true) (h_stoker : pt.stoker = true) (h_pair : pt.pair = true)
    (h_latch : pt.latch = true) :
    (sendRequest step dtEff gen d s).outside pt = s.outside pt := by
  unfold sendRequest
  repeat' first
    | simp only [outside_coordRequest, outside_originate, outside_ite, outside_forEach, outside_foldl, ite_self,
        implies_true, *]
    | split
    | rfl

@[simp] theorem outside_issueCommit {pt : Parts} (src : CommitSrc) (dtEff : DT) (gen : Word) (s : State) (h_isl :
    pt.isl = true) (h_commit : pt.commit = true) (h_occs : pt.occs = true) (h_pacer : pt.pacer = true) (h_hub :
    pt.hub = true) (h_noon : pt.noon = true) (h_stoker : pt.stoker = true) (h_pair : pt.pair = true) (h_latch :
    pt.latch = true) :
    (issueCommit src dtEff gen s).outside pt = s.outside pt := by
  unfold issueCommit
  repeat' first
    | simp only [outside_sayRefused, outside_clearPlace, outside_refuseDisplaced, outside_prepareAll,
        outside_sendRequest, outside_setStatus, outside_with_commit, outside_ite, outside_forEach, outside_foldl,
        ite_self, implies_true, *]
    | split
    | rfl

@[simp] theorem outside_autoRestart {pt : Parts} (d : DT) (s : State) (h_isl : pt.isl = true) (h_commit : pt.commit
    = true) (h_occs : pt.occs = true) (h_pacer : pt.pacer = true) (h_hub : pt.hub = true) (h_noon : pt.noon = true)
    (h_stoker : pt.stoker = true) (h_pair : pt.pair = true) (h_latch : pt.latch = true) :
    (autoRestart d s).outside pt = s.outside pt := by
  unfold autoRestart
  repeat' first
    | simp only [outside_issueCommit, outside_with_commit, outside_ite, outside_forEach, outside_foldl, ite_self,
        implies_true, *]
    | split
    | rfl

@[simp] theorem outside_queueEvent {pt : Parts} (cause : Nat) (q : RingId) (s : State) (h_occs : pt.occs = true)
    (h_latch : pt.latch = true) :
    (queueEvent cause q s).outside pt = s.outside pt := by
  unfold queueEvent
  repeat' first
    | simp only [outside_raiseNow, outside_ite, outside_forEach, outside_foldl, ite_self, implies_true, *]
    | split
    | rfl

@[simp] theorem outside_badDoorbell {pt : Parts} (q : RingId) (s : State) (h_occs : pt.occs = true) (h_hb : pt.hb =
    true) (h_latch : pt.latch = true) :
    (badDoorbell q s).outside pt = s.outside pt := by
  unfold badDoorbell
  repeat' first
    | simp only [outside_queueEvent, outside_with_hb, outside_ite, outside_forEach, outside_foldl, ite_self,
        implies_true, *]
    | split
    | rfl

@[simp] theorem outside_badExch {pt : Parts} (c : PortId) (s : State) (h_ports : pt.ports = true) :
    (badExch c s).outside pt = s.outside pt := by
  unfold badExch
  repeat' first
    | simp only [outside_State_modPort, outside_ite, outside_forEach, outside_foldl, ite_self, implies_true, *]
    | split
    | rfl

@[simp] theorem outside_modFwCnt {pt : Parts} (c : PortId) (f : FwCnt → FwCnt) (s : State) (h_fw : pt.fw = true) :
    (modFwCnt c f s).outside pt = s.outside pt := by
  unfold modFwCnt
  repeat' first
    | simp only [outside_with_fw, outside_ite, outside_forEach, outside_foldl, ite_self, implies_true, *]
    | split
    | rfl

@[simp] theorem outside_releaseTable {pt : Parts} (s : State) (h_isl : pt.isl = true) (h_occs : pt.occs = true)
    (h_latch : pt.latch = true) :
    (releaseTable s).outside pt = s.outside pt := by
  unfold releaseTable
  repeat' first
    | simp only [outside_raise, outside_State_setIsland, outside_ite, outside_forEach, outside_foldl, ite_self,
        implies_true, *]
    | split
    | rfl

@[simp] theorem outside_setFree {pt : Parts} (n : Nat) (s : State) (h_occs : pt.occs = true) (h_fw : pt.fw = true)
    (h_latch : pt.latch = true) :
    (setFree n s).outside pt = s.outside pt := by
  unfold setFree
  repeat' first
    | simp only [outside_raise, outside_with_fw, outside_ite, outside_forEach, outside_foldl, ite_self,
        implies_true, *]
    | split
    | rfl

@[simp] theorem outside_dropFrame {pt : Parts} (f : Frame) (s : State) (h_isl : pt.isl = true) (h_occs : pt.occs =
    true) (h_fw : pt.fw = true) (h_latch : pt.latch = true) :
    (dropFrame f s).outside pt = s.outside pt := by
  unfold dropFrame
  repeat' first
    | simp only [outside_releaseTable, outside_setFree, outside_with_fw, outside_ite, outside_forEach,
        outside_foldl, ite_self, implies_true, *]
    | split
    | rfl

@[simp] theorem outside_sentFrame {pt : Parts} (f : Frame) (out : Frame) (s : State) (h_isl : pt.isl = true) (h_occs
    : pt.occs = true) (h_ports : pt.ports = true) (h_fw : pt.fw = true) (h_latch : pt.latch = true) :
    (sentFrame f out s).outside pt = s.outside pt := by
  unfold sentFrame
  repeat' first
    | simp only [outside_dropFrame, outside_sendWaiting, outside_with_fw, outside_ite, outside_forEach,
        outside_foldl, ite_self, implies_true, *]
    | split
    | rfl

@[simp] theorem outside_cutEgress {pt : Parts} (f : Frame) (s : State) (h_isl : pt.isl = true) (h_occs : pt.occs =
    true) (h_ports : pt.ports = true) (h_fw : pt.fw = true) (h_latch : pt.latch = true) :
    (cutEgress f s).outside pt = s.outside pt := by
  unfold cutEgress
  repeat' first
    | simp only [outside_modFwCnt, outside_sentFrame, outside_ite, outside_forEach, outside_foldl, ite_self,
        implies_true, *]
    | split
    | rfl

@[simp] theorem outside_stompFrame {pt : Parts} (f : Frame) (cause : Nat) (s : State) (h_isl : pt.isl = true)
    (h_occs : pt.occs = true) (h_ports : pt.ports = true) (h_fw : pt.fw = true) (h_latch : pt.latch = true) :
    (stompFrame f cause s).outside pt = s.outside pt := by
  unfold stompFrame
  repeat' first
    | simp only [outside_raise, outside_cutEgress, outside_ite, outside_forEach, outside_foldl, ite_self,
        implies_true, *]
    | split
    | rfl

@[simp] theorem outside_noteDiscard {pt : Parts} (c : PortId) (toLine : Bool) (disp : Nat) (cause : Nat) (s : State)
    (h_occs : pt.occs = true) (h_fw : pt.fw = true) (h_latch : pt.latch = true) :
    (noteDiscard c toLine disp cause s).outside pt = s.outside pt := by
  unfold noteDiscard
  repeat' first
    | simp only [outside_modFwCnt, outside_raise, outside_ite, outside_forEach, outside_foldl, ite_self,
        implies_true, *]
    | split
    | rfl

@[simp] theorem outside_discardFrame {pt : Parts} (f : Frame) (cause : Nat) (s : State) (h_isl : pt.isl = true)
    (h_occs : pt.occs = true) (h_fw : pt.fw = true) (h_latch : pt.latch = true) :
    (discardFrame f cause s).outside pt = s.outside pt := by
  unfold discardFrame
  repeat' first
    | simp only [outside_noteDiscard, outside_dropFrame, outside_ite, outside_forEach, outside_foldl, ite_self,
        implies_true, *]
    | split
    | rfl

@[simp] theorem outside_badFrame {pt : Parts} (f : Frame) (cause : Nat) (s : State) (h_isl : pt.isl = true) (h_occs
    : pt.occs = true) (h_ports : pt.ports = true) (h_fw : pt.fw = true) (h_latch : pt.latch = true) :
    (badFrame f cause s).outside pt = s.outside pt := by
  unfold badFrame
  repeat' first
    | simp only [outside_stompFrame, outside_discardFrame, outside_ite, outside_forEach, outside_foldl, ite_self,
        implies_true, *]
    | split
    | rfl

@[simp] theorem outside_badHop {pt : Parts} (s : State) (h_stoker : pt.stoker = true) :
    (badHop s).outside pt = s.outside pt := by
  unfold badHop
  repeat' first
    | simp only [outside_State_modStoker, outside_ite, outside_forEach, outside_foldl, ite_self, implies_true, *]
    | split
    | rfl

@[simp] theorem outside_badPair {pt : Parts} (s : State) (h_occs : pt.occs = true) (h_pair : pt.pair = true)
    (h_latch : pt.latch = true) :
    (badPair s).outside pt = s.outside pt := by
  unfold badPair
  repeat' first
    | simp only [outside_raiseNow, outside_State_modPair, outside_ite, outside_forEach, outside_foldl, ite_self,
        implies_true, *]
    | split
    | rfl

@[simp] theorem outside_badPdu {pt : Parts} (c : PortId) (s : State) (h_occs : pt.occs = true) (h_ports : pt.ports =
    true) (h_latch : pt.latch = true) :
    (badPdu c s).outside pt = s.outside pt := by
  unfold badPdu
  repeat' first
    | simp only [outside_raiseNow, outside_State_modPort, outside_ite, outside_forEach, outside_foldl, ite_self,
        implies_true, *]
    | split
    | rfl

@[simp] theorem outside_takeToken {pt : Parts} (reason : Fin 6) (s : State) (h_occs : pt.occs = true) (h_pair :
    pt.pair = true) (h_latch : pt.latch = true) :
    (takeToken reason s).outside pt = s.outside pt := by
  unfold takeToken
  repeat' first
    | simp only [outside_raiseNow, outside_raise, outside_with_pair, outside_ite, outside_forEach, outside_foldl,
        ite_self, implies_true, *]
    | split
    | rfl

@[simp] theorem outside_releaseToken {pt : Parts} (tok : Token) (reason : Fin 6) (s : State) (h_occs : pt.occs =
    true) (h_pair : pt.pair = true) (h_latch : pt.latch = true) :
    (releaseToken tok reason s).outside pt = s.outside pt := by
  unfold releaseToken
  repeat' first
    | simp only [outside_raiseNow, outside_with_pair, outside_ite, outside_forEach, outside_foldl, ite_self,
        implies_true, *]
    | split
    | rfl

@[simp] theorem outside_beatToken {pt : Parts} (s : State) (h_occs : pt.occs = true) (h_pair : pt.pair = true)
    (h_latch : pt.latch = true) :
    (beatToken s).outside pt = s.outside pt := by
  unfold beatToken
  repeat' first
    | simp only [outside_takeToken, outside_releaseToken, outside_ite, outside_forEach, outside_foldl, ite_self,
        implies_true, *]
    | split
    | rfl

@[simp] theorem outside_stokerTo {pt : Parts} (st : Nat) (s : State) (h_occs : pt.occs = true) (h_stoker : pt.stoker
    = true) (h_latch : pt.latch = true) :
    (stokerTo st s).outside pt = s.outside pt := by
  unfold stokerTo
  repeat' first
    | simp only [outside_raiseNow, outside_State_modStoker, outside_ite, outside_forEach, outside_foldl, ite_self,
        implies_true, *]
    | split
    | rfl

@[simp] theorem outside_becomeCaptain {pt : Parts} (s : State) (h_occs : pt.occs = true) (h_noon : pt.noon = true)
    (h_stoker : pt.stoker = true) (h_latch : pt.latch = true) :
    (becomeCaptain s).outside pt = s.outside pt := by
  unfold becomeCaptain
  repeat' first
    | simp only [outside_State_modStoker, outside_stokerTo, outside_with_noon, outside_ite, outside_forEach,
        outside_foldl, ite_self, implies_true, *]
    | split
    | rfl

@[simp] theorem outside_beginBrown {pt : Parts} (ov : Bool) (s : State) (h_occs : pt.occs = true) (h_dyn : pt.dyn =
    true) (h_latch : pt.latch = true) :
    (beginBrown ov s).outside pt = s.outside pt := by
  unfold beginBrown
  repeat' first
    | simp only [outside_raiseNow, outside_State_modDyn, outside_ite, outside_forEach, outside_foldl, ite_self,
        implies_true, *]
    | split
    | rfl

@[simp] theorem outside_beginLock {pt : Parts} (s : State) (h_hub : pt.hub = true) :
    (beginLock s).outside pt = s.outside pt := by
  unfold beginLock
  repeat' first
    | simp only [outside_with_hub, outside_ite, outside_forEach, outside_foldl, ite_self, implies_true, *]
    | split
    | rfl

@[simp] theorem outside_beginSearch {pt : Parts} (s : State) (h_hub : pt.hub = true) :
    (beginSearch s).outside pt = s.outside pt := by
  unfold beginSearch
  repeat' first
    | simp only [outside_with_hub, outside_ite, outside_forEach, outside_foldl, ite_self, implies_true, *]
    | split
    | rfl

@[simp] theorem outside_beginStore {pt : Parts} (s : State) (h_truing : pt.truing = true) :
    (beginStore s).outside pt = s.outside pt := by
  unfold beginStore
  repeat' first
    | simp only [outside_with_truing, outside_ite, outside_forEach, outside_foldl, ite_self, implies_true, *]
    | split
    | rfl

@[simp] theorem outside_freezePort {pt : Parts} (c : PortId) (s : State) (h_occs : pt.occs = true) (h_ports :
    pt.ports = true) (h_latch : pt.latch = true) :
    (freezePort c s).outside pt = s.outside pt := by
  unfold freezePort
  repeat' first
    | simp only [outside_raiseNow, outside_State_setPort, outside_ite, outside_forEach, outside_foldl, ite_self,
        implies_true, *]
    | split
    | rfl

@[simp] theorem outside_toNegotiate {pt : Parts} (c : PortId) (s : State) (h_occs : pt.occs = true) (h_ports :
    pt.ports = true) (h_latch : pt.latch = true) :
    (toNegotiate c s).outside pt = s.outside pt := by
  unfold toNegotiate
  repeat' first
    | simp only [outside_freezePort, outside_State_modPort, outside_newOfferId, outside_sendOffer, outside_portTo,
        outside_ite, outside_forEach, outside_foldl, ite_self, implies_true, *]
    | split
    | rfl

@[simp] theorem outside_bellDiscovery {pt : Parts} (c : PortId) (b : Octets) (s : State) (h_occs : pt.occs = true)
    (h_ports : pt.ports = true) (h_latch : pt.latch = true) :
    (bellDiscovery c b s).outside pt = s.outside pt := by
  unfold bellDiscovery
  repeat' first
    | simp only [outside_State_setPort, outside_raiseNow, outside_toNegotiate, outside_ite, outside_forEach,
        outside_foldl, ite_self, implies_true, *]
    | split
    | rfl

@[simp] theorem outside_syncFills {pt : Parts} (s : State) (h_engines : pt.engines = true) :
    (syncFills s).outside pt = s.outside pt := by
  unfold syncFills
  repeat' first
    | simp only [outside_State_modEngine, outside_ite, outside_forEach, outside_foldl, ite_self, implies_true, *]
    | split
    | rfl
    | intro _
    | refine (outside_foldl _ (fun _ _ => ?_) _ _).trans ?_
    | refine (outside_forEach _ _ (fun _ _ => ?_) _).trans ?_

@[simp] theorem outside_stopEngine {pt : Parts} (v : EngineId) (cause : Nat) (s : State) (h_isl : pt.isl = true)
    (h_engines : pt.engines = true) (h_truing : pt.truing = true) :
    (stopEngine v cause s).outside pt = s.outside pt := by
  unfold stopEngine
  repeat' first
    | simp only [outside_syncFills, outside_startGap, outside_State_modEngine, outside_State_setIsland, outside_ite,
        outside_forEach, outside_foldl, ite_self, implies_true, *]
    | split
    | rfl

@[simp] theorem outside_discardRates {pt : Parts} (v : EngineId) (s : State) (h_engines : pt.engines = true) :
    (discardRates v s).outside pt = s.outside pt := by
  unfold discardRates
  repeat' first
    | simp only [outside_State_modEngine, outside_ite, outside_forEach, outside_foldl, ite_self, implies_true, *]
    | split
    | rfl

@[simp] theorem outside_startPlay {pt : Parts} (v : EngineId) (n : Nat) (idle : Bool) (t : DT) (s : State) (h_occs :
    pt.occs = true) (h_engines : pt.engines = true) (h_latch : pt.latch = true) :
    (startPlay v n idle t s).outside pt = s.outside pt := by
  unfold startPlay
  repeat' first
    | simp only [outside_syncFills, outside_State_modEngine, outside_raise, outside_ite, outside_forEach,
        outside_foldl, ite_self, implies_true, *]
    | split
    | rfl

@[simp] theorem outside_boundary {pt : Parts} (v : EngineId) (s : State) (h_isl : pt.isl = true) (h_occs : pt.occs =
    true) (h_engines : pt.engines = true) (h_truing : pt.truing = true) (h_latch : pt.latch = true) :
    (boundary v s).outside pt = s.outside pt := by
  unfold boundary
  repeat' first
    | simp only [outside_syncFills, outside_State_setEngine, outside_raise, outside_stopEngine,
        outside_discardRates, outside_State_modEngine, outside_startPlay, outside_ite, outside_forEach,
        outside_foldl, ite_self, implies_true, *]
    | split
    | rfl

@[simp] theorem outside_sayRate {pt : Parts} (v : EngineId) (s : State) (h_occs : pt.occs = true) (h_engines :
    pt.engines = true) (h_latch : pt.latch = true) :
    (sayRate v s).outside pt = s.outside pt := by
  unfold sayRate
  repeat' first
    | simp only [outside_raise, outside_State_setEngine, outside_ite, outside_forEach, outside_foldl, ite_self,
        implies_true, *]
    | split
    | rfl

@[simp] theorem outside_boundaryStep {pt : Parts} (v : EngineId) (s : State) (h_isl : pt.isl = true) (h_occs :
    pt.occs = true) (h_engines : pt.engines = true) (h_truing : pt.truing = true) (h_latch : pt.latch = true) :
    (boundaryStep v s).outside pt = s.outside pt := by
  unfold boundaryStep
  repeat' first
    | simp only [outside_boundary, outside_sayRate, outside_ite, outside_forEach, outside_foldl, ite_self,
        implies_true, *]
    | split
    | rfl

@[simp] theorem outside_leaveRing {pt : Parts} (s : State) (h_occs : pt.occs = true) (h_stoker : pt.stoker = true)
    (h_latch : pt.latch = true) :
    (leaveRing s).outside pt = s.outside pt := by
  unfold leaveRing
  repeat' first
    | simp only [outside_stokerTo, outside_ite, outside_forEach, outside_foldl, ite_self, implies_true, *]
    | split
    | rfl

@[simp] theorem outside_duskToken {pt : Parts} (s : State) (h_occs : pt.occs = true) (h_pair : pt.pair = true)
    (h_latch : pt.latch = true) :
    (duskToken s).outside pt = s.outside pt := by
  unfold duskToken
  repeat' first
    | simp only [outside_releaseToken, outside_with_pair, outside_ite, outside_forEach, outside_foldl, ite_self,
        implies_true, *]
    | split
    | rfl

@[simp] theorem outside_enterDusk {pt : Parts} (cause : Nat) (s : State) (h_occs : pt.occs = true) (h_hub : pt.hub =
    true) (h_stoker : pt.stoker = true) (h_pair : pt.pair = true) (h_dyn : pt.dyn = true) (h_latch : pt.latch =
    true) :
    (enterDusk cause s).outside pt = s.outside pt := by
  unfold enterDusk
  repeat' first
    | simp only [outside_leaveRing, outside_raiseNow, outside_duskToken, outside_with_hub_dyn,
        outside_with_occs_latch_dyn, outside_ite, outside_forEach, outside_foldl, ite_self, implies_true, *]
    | split
    | rfl

@[simp] theorem outside_brownDusk {pt : Parts} (s : State) (h_occs : pt.occs = true) (h_hub : pt.hub = true)
    (h_stoker : pt.stoker = true) (h_pair : pt.pair = true) (h_dyn : pt.dyn = true) (h_latch : pt.latch = true) :
    (brownDusk s).outside pt = s.outside pt := by
  unfold brownDusk
  repeat' first
    | simp only [outside_enterDusk, outside_ite, outside_forEach, outside_foldl, ite_self, implies_true, *]
    | split
    | rfl

@[simp] theorem outside_byHost {pt : Parts} (s : State) (f : State → State) (h_f : ∀ y0, (f y0).outside pt =
    y0.outside pt) :
    (byHost s f).outside pt = s.outside pt := by
  unfold byHost
  repeat' first
    | simp only [outside_ite, outside_forEach, outside_foldl, ite_self, implies_true, *]
    | split
    | rfl

@[simp] theorem outside_cbad {pt : Parts} (p0 : ThreadId) (b : Octets) (s : State) (h_occs : pt.occs = true)
    (h_latch : pt.latch = true) :
    (cbad p0 b s).outside pt = s.outside pt := by
  unfold cbad
  repeat' first
    | simp only [outside_raise, outside_ite, outside_forEach, outside_foldl, ite_self, implies_true, *]
    | split
    | rfl

@[simp] theorem outside_cdone {pt : Parts} (p0 : ThreadId) (b : Octets) (s : State) (h_occs : pt.occs = true)
    (h_latch : pt.latch = true) :
    (cdone p0 b s).outside pt = s.outside pt := by
  unfold cdone
  repeat' first
    | simp only [outside_raise, outside_ite, outside_forEach, outside_foldl, ite_self, implies_true, *]
    | split
    | rfl

@[simp] theorem outside_send {pt : Parts} (e : OutEntry) (s : State) (h_outbox : pt.outbox = true) :
    (send e s).outside pt = s.outside pt := by
  unfold send
  repeat' first
    | simp only [outside_with_outbox, outside_ite, outside_forEach, outside_foldl, ite_self, implies_true, *]
    | split
    | rfl

@[simp] theorem outside_putRecord {pt : Parts} (i : SpokeId) (d : DT) (edge : Nat) (typ : Nat) (tag : Nat) (s :
    State) (h_occs : pt.occs = true) (h_outbox : pt.outbox = true) (h_spokes : pt.spokes = true) (h_latch : pt.latch
    = true) :
    (putRecord i d edge typ tag s).outside pt = s.outside pt := by
  unfold putRecord
  repeat' first
    | simp only [outside_State_setSpoke, outside_raise, outside_send, outside_ite, outside_forEach, outside_foldl,
        ite_self, implies_true, *]
    | split
    | rfl

@[simp] theorem outside_ceEdge {pt : Parts} (v : EngineId) (i : SpokeId) (st : Strobe) (rising : Bool) (d : DT) (s :
    State) (h_occs : pt.occs = true) (h_outbox : pt.outbox = true) (h_spokes : pt.spokes = true) (h_engines :
    pt.engines = true) (h_latch : pt.latch = true) :
    (ceEdge v i st rising d s).outside pt = s.outside pt := by
  unfold ceEdge
  repeat' first
    | simp only [outside_putRecord, outside_State_modEngine, outside_ite, outside_forEach, outside_foldl, ite_self,
        implies_true, *]
    | split
    | rfl

@[simp] theorem outside_deliver {pt : Parts} (m : Meas) (s : State) (h_noon : pt.noon = true) :
    (deliver m s).outside pt = s.outside pt := by
  unfold deliver
  repeat' first
    | simp only [outside_with_noon, outside_ite, outside_forEach, outside_foldl, ite_self, implies_true, *]
    | split
    | rfl

@[simp] theorem outside_useExchange {pt : Parts} (c : PortId) (x : Exch) (r : Root) (s : State) (h_occs : pt.occs =
    true) (h_noon : pt.noon = true) (h_ports : pt.ports = true) (h_latch : pt.latch = true) :
    (useExchange c x r s).outside pt = s.outside pt := by
  unfold useExchange
  repeat' first
    | simp only [outside_badExch, outside_State_setPort, outside_raiseNow, outside_deliver, outside_ite,
        outside_forEach, outside_foldl, ite_self, implies_true, *]
    | split
    | rfl

@[simp] theorem outside_takeStamp {pt : Parts} (c : PortId) (pdu : Octets) (at_ : DT) (coarse : Bool) (s : State)
    (h_occs : pt.occs = true) (h_noon : pt.noon = true) (h_ports : pt.ports = true) (h_latch : pt.latch = true) :
    (takeStamp c pdu at_ coarse s).outside pt = s.outside pt := by
  unfold takeStamp
  repeat' first
    | simp only [outside_badPdu, outside_State_setPort, outside_badExch, outside_useExchange, outside_ite,
        outside_forEach, outside_foldl, ite_self, implies_true, *]
    | split
    | rfl

@[simp] theorem outside_takeSync {pt : Parts} (c : PortId) (m : Octets) (at_ : DT) (coarse : Bool) (s : State)
    (h_occs : pt.occs = true) (h_noon : pt.noon = true) (h_ports : pt.ports = true) (h_latch : pt.latch = true) :
    (takeSync c m at_ coarse s).outside pt = s.outside pt := by
  unfold takeSync
  repeat' first
    | simp only [outside_takeStamp, outside_badPdu, outside_ite, outside_forEach, outside_foldl, ite_self,
        implies_true, *]
    | split
    | rfl

@[simp] theorem outside_dropEntry {pt : Parts} (q : RingId) (rx : Bool) (s : State) (h_hb : pt.hb = true) :
    (dropEntry q rx s).outside pt = s.outside pt := by
  unfold dropEntry
  repeat' first
    | simp only [outside_State_modRing, outside_ite, outside_forEach, outside_foldl, ite_self, implies_true, *]
    | split
    | rfl

@[simp] theorem outside_sendToPort {pt : Parts} (c : PortId) (flags : Nat) (d : DT) (pdu : Octets) (s : State)
    (h_occs : pt.occs = true) (h_outbox : pt.outbox = true) (h_ports : pt.ports = true) (h_hb : pt.hb = true)
    (h_latch : pt.latch = true) :
    (sendToPort c flags d pdu s).outside pt = s.outside pt := by
  unfold sendToPort
  repeat' first
    | simp only [outside_send, outside_raiseNow, outside_State_modPort, outside_dropEntry, outside_ite,
        outside_forEach, outside_foldl, ite_self, implies_true, *]
    | split
    | rfl

@[simp] theorem outside_mirror {pt : Parts} (c : PortId) (pdu : Octets) (d : DT) (s : State) (h_occs : pt.occs =
    true) (h_outbox : pt.outbox = true) (h_ports : pt.ports = true) (h_hb : pt.hb = true) (h_latch : pt.latch =
    true) :
    (mirror c pdu d s).outside pt = s.outside pt := by
  unfold mirror
  repeat' first
    | simp only [outside_sendToPort, outside_ite, outside_forEach, outside_foldl, ite_self, implies_true, *]
    | split
    | rfl

@[simp] theorem outside_cutIngress {pt : Parts} (c : PortId) (line : Bool) (s : State) (h_isl : pt.isl = true)
    (h_occs : pt.occs = true) (h_ports : pt.ports = true) (h_fw : pt.fw = true) (h_latch : pt.latch = true) :
    (cutIngress c line s).outside pt = s.outside pt := by
  unfold cutIngress
  repeat' first
    | simp only [outside_badFrame, outside_ite, outside_forEach, outside_foldl, ite_self, implies_true, *]
    | split
    | rfl

@[simp] theorem outside_toListen {pt : Parts} (c : PortId) (reason : Nat) (settled : Nat) (s0 : State) (h_isl :
    pt.isl = true) (h_occs : pt.occs = true) (h_ports : pt.ports = true) (h_fw : pt.fw = true) (h_latch : pt.latch =
    true) :
    (toListen c reason settled s0).outside pt = s0.outside pt := by
  unfold toListen
  repeat' first
    | simp only [outside_State_modPort, outside_cutIngress, outside_State_setPort, outside_portTo, outside_ite,
        outside_forEach, outside_foldl, ite_self, implies_true, *]
    | split
    | rfl

@[simp] theorem outside_takeBell {pt : Parts} (c : PortId) (pdu : Octets) (d : DT) (s : State) (h_isl : pt.isl =
    true) (h_occs : pt.occs = true) (h_outbox : pt.outbox = true) (h_ports : pt.ports = true) (h_fw : pt.fw = true)
    (h_hb : pt.hb = true) (h_latch : pt.latch = true) :
    (takeBell c pdu d s).outside pt = s.outside pt := by
  unfold takeBell
  repeat' first
    | simp only [outside_badPdu, outside_mirror, outside_State_setPort, outside_bellDiscovery, outside_toListen,
        outside_State_modPort, outside_ite, outside_forEach, outside_foldl, ite_self, implies_true, *]
    | split
    | rfl

@[simp] theorem outside_keepOffer {pt : Parts} (c : PortId) (o : OfferRec) (s : State) (h_ports : pt.ports = true) :
    (keepOffer c o s).outside pt = s.outside pt := by
  unfold keepOffer
  repeat' first
    | simp only [outside_State_modPort, outside_ite, outside_forEach, outside_foldl, ite_self, implies_true, *]
    | split
    | rfl

@[simp] theorem outside_takeOffer {pt : Parts} (c : PortId) (pdu : Octets) (d : DT) (s : State) (h_occs : pt.occs =
    true) (h_outbox : pt.outbox = true) (h_ports : pt.ports = true) (h_hb : pt.hb = true) (h_latch : pt.latch =
    true) :
    (takeOffer c pdu d s).outside pt = s.outside pt := by
  unfold takeOffer
  repeat' first
    | simp only [outside_badPdu, outside_mirror, outside_State_modPort, outside_answerOffer, outside_keepOffer,
        outside_toNegotiate, outside_ite, outside_forEach, outside_foldl, ite_self, implies_true, *]
    | split
    | rfl

@[simp] theorem outside_takeAccept {pt : Parts} (c : PortId) (pdu : Octets) (d : DT) (s : State) (h_occs : pt.occs =
    true) (h_outbox : pt.outbox = true) (h_ports : pt.ports = true) (h_hb : pt.hb = true) (h_latch : pt.latch =
    true) :
    (takeAccept c pdu d s).outside pt = s.outside pt := by
  unfold takeAccept
  repeat' first
    | simp only [outside_badPdu, outside_mirror, outside_judgeAccept, outside_State_modPort, outside_ite,
        outside_forEach, outside_foldl, ite_self, implies_true, *]
    | split
    | rfl

@[simp] theorem outside_takeReject {pt : Parts} (c : PortId) (pdu : Octets) (d : DT) (s : State) (h_occs : pt.occs =
    true) (h_outbox : pt.outbox = true) (h_ports : pt.ports = true) (h_hb : pt.hb = true) (h_latch : pt.latch =
    true) :
    (takeReject c pdu d s).outside pt = s.outside pt := by
  unfold takeReject
  repeat' first
    | simp only [outside_mirror, outside_badPdu, outside_ite, outside_forEach, outside_foldl, ite_self,
        implies_true, *]
    | split
    | rfl

@[simp] theorem outside_mailFor {pt : Parts} (all : Bool) (p1 : ThreadId) (via : MailVia) (e : MailEnt) (s : State)
    (h_pacer : pt.pacer = true) :
    (mailFor all p1 via e s).outside pt = s.outside pt := by
  unfold mailFor
  repeat' first
    | simp only [outside_with_pacer, outside_ite, outside_forEach, outside_foldl, ite_self, implies_true, *]
    | split
    | rfl

@[simp] theorem outside_takeTrigger {pt : Parts} (c : PortId) (pdu : Octets) (s : State) (h_occs : pt.occs = true)
    (h_pacer : pt.pacer = true) (h_ports : pt.ports = true) (h_latch : pt.latch = true) :
    (takeTrigger c pdu s).outside pt = s.outside pt := by
  unfold takeTrigger
  repeat' first
    | simp only [outside_badPdu, outside_raiseNow, outside_mailFor, outside_State_setPort, outside_ite,
        outside_forEach, outside_foldl, ite_self, implies_true, *]
    | split
    | rfl

@[simp] theorem outside_takeAxis {pt : Parts} (c : PortId) (pdu : Octets) (s : State) (h_occs : pt.occs = true)
    (h_crank : pt.crank = true) (h_ports : pt.ports = true) (h_latch : pt.latch = true) :
    (takeAxis c pdu s).outside pt = s.outside pt := by
  unfold takeAxis
  repeat' first
    | simp only [outside_badPdu, outside_raiseNow, outside_State_setPort, outside_with_crank, outside_ite,
        outside_forEach, outside_foldl, ite_self, implies_true, *]
    | split
    | rfl

@[simp] theorem outside_takeHost {pt : Parts} (c : PortId) (pdu : Octets) (d : DT) (s : State) (h_occs : pt.occs =
    true) (h_outbox : pt.outbox = true) (h_ports : pt.ports = true) (h_hb : pt.hb = true) (h_latch : pt.latch =
    true) :
    (takeHost c pdu d s).outside pt = s.outside pt := by
  unfold takeHost
  repeat' first
    | simp only [outside_badPdu, outside_sendToPort, outside_ite, outside_forEach, outside_foldl, ite_self,
        implies_true, *]
    | split
    | rfl

@[simp] theorem outside_chainPdu {pt : Parts} (c : PortId) (o : Octets) (d : DT) (s : State) (h_isl : pt.isl = true)
    (h_occs : pt.occs = true) (h_outbox : pt.outbox = true) (h_pacer : pt.pacer = true) (h_crank : pt.crank = true)
    (h_noon : pt.noon = true) (h_ports : pt.ports = true) (h_fw : pt.fw = true) (h_hb : pt.hb = true) (h_latch :
    pt.latch = true) :
    (chainPdu c o d s).outside pt = s.outside pt := by
  unfold chainPdu
  repeat' first
    | simp only [outside_badPdu, outside_takeSync, outside_takeBell, outside_takeOffer, outside_takeAccept,
        outside_takeReject, outside_takeStamp, outside_takeTrigger, outside_takeAxis, outside_takeHost, outside_ite,
        outside_forEach, outside_foldl, ite_self, implies_true, *]
    | split
    | rfl

@[simp] theorem outside_clate {pt : Parts} (p0 : ThreadId) (b : Octets) (s : State) (h_occs : pt.occs = true)
    (h_pacer : pt.pacer = true) (h_latch : pt.latch = true) :
    (clate p0 b s).outside pt = s.outside pt := by
  unfold clate
  repeat' first
    | simp only [outside_raise, outside_State_modThread, outside_ite, outside_forEach, outside_foldl, ite_self,
        implies_true, *]
    | split
    | rfl

@[simp] theorem outside_clearAxis {pt : Parts} (cycle : Option Nat) (a : AxisId) (s : State) (h_occs : pt.occs =
    true) (h_crank : pt.crank = true) (h_latch : pt.latch = true) :
    (clearAxis cycle a s).outside pt = s.outside pt := by
  unfold clearAxis
  repeat' first
    | simp only [outside_searchTarget, outside_noTime, outside_State_modAxis, outside_ite, outside_forEach,
        outside_foldl, ite_self, implies_true, *]
    | split
    | rfl
    | intro _
    | refine (outside_foldl _ (fun _ _ => ?_) _ _).trans ?_
    | refine (outside_forEach _ _ (fun _ _ => ?_) _).trans ?_

@[simp] theorem outside_gateEngine {pt : Parts} (v : EngineId) (s : State) (h_isl : pt.isl = true) (h_engines :
    pt.engines = true) (h_truing : pt.truing = true) :
    (gateEngine v s).outside pt = s.outside pt := by
  unfold gateEngine
  repeat' first
    | simp only [outside_State_modEngine, outside_stopEngine, outside_ite, outside_forEach, outside_foldl, ite_self,
        implies_true, *]
    | split
    | rfl

@[simp] theorem outside_gateFreewheel {pt : Parts} (s : State) (h_isl : pt.isl = true) (h_occs : pt.occs = true)
    (h_ports : pt.ports = true) (h_fw : pt.fw = true) (h_latch : pt.latch = true) :
    (gateFreewheel s).outside pt = s.outside pt := by
  unfold gateFreewheel
  repeat' first
    | simp only [outside_cutEgress, outside_modFwCnt, outside_dropFrame, outside_with_fw, outside_ite,
        outside_forEach, outside_foldl, ite_self, implies_true, *]
    | split
    | rfl

@[simp] theorem outside_gateTruing {pt : Parts} (s : State) (h_spokes : pt.spokes = true) (h_truing : pt.truing =
    true) :
    (gateTruing s).outside pt = s.outside pt := by
  unfold gateTruing
  repeat' first
    | simp only [outside_State_modReq, outside_State_modSpoke, outside_abortRun, outside_with_truing, outside_ite,
        outside_forEach, outside_foldl, ite_self, implies_true, *]
    | split
    | rfl

@[simp] theorem outside_holdReads {pt : Parts} (s : State) (h_spokes : pt.spokes = true) (h_fw : pt.fw = true) :
    (holdReads s).outside pt = s.outside pt := by
  unfold holdReads
  repeat' first
    | simp only [outside_State_modSpoke, outside_with_fw, outside_ite, outside_forEach, outside_foldl, ite_self,
        implies_true, *]
    | split
    | rfl

@[simp] theorem outside_enterBrake {pt : Parts} (cause : Nat) (s : State) (h_occs : pt.occs = true) (h_pair :
    pt.pair = true) (h_latch : pt.latch = true) :
    (enterBrake cause s).outside pt = s.outside pt := by
  unfold enterBrake
  repeat' first
    | simp only [outside_releaseToken, outside_raiseNow, outside_with_pair, outside_ite, outside_forEach,
        outside_foldl, ite_self, implies_true, *]
    | split
    | rfl

@[simp] theorem outside_closeGates {pt : Parts} (s : State) (h_isl : pt.isl = true) (h_occs : pt.occs = true)
    (h_spokes : pt.spokes = true) (h_engines : pt.engines = true) (h_truing : pt.truing = true) (h_hub : pt.hub =
    true) (h_ports : pt.ports = true) (h_fw : pt.fw = true) (h_pair : pt.pair = true) (h_latch : pt.latch = true) :
    (closeGates s).outside pt = s.outside pt := by
  unfold closeGates
  repeat' first
    | simp only [outside_gateEngine, outside_gateFreewheel, outside_gateTruing, outside_holdReads,
        outside_enterBrake, outside_with_hub, outside_ite, outside_forEach, outside_foldl, ite_self, implies_true,
        *]
    | split
    | rfl

@[simp] theorem outside_settleWindows {pt : Parts} (i : SpokeId) (s : State) (h_occs : pt.occs = true) (h_outbox :
    pt.outbox = true) (h_spokes : pt.spokes = true) (h_latch : pt.latch = true) :
    (settleWindows i s).outside pt = s.outside pt := by
  unfold settleWindows
  repeat' first
    | simp only [outside_raise, outside_putRecord, outside_State_modSpoke, outside_ite, outside_forEach,
        outside_foldl, ite_self, implies_true, *]
    | split
    | rfl

@[simp] theorem outside_closeWindow {pt : Parts} (i : SpokeId) (e : QDesc) (t : DT) (cancelled : Bool) (s : State)
    (h_isl : pt.isl = true) (h_occs : pt.occs = true) (h_outbox : pt.outbox = true) (h_spokes : pt.spokes = true)
    (h_truing : pt.truing = true) (h_latch : pt.latch = true) :
    (closeWindow i e t cancelled s).outside pt = s.outside pt := by
  unfold closeWindow
  repeat' first
    | simp only [outside_State_modSpoke, outside_raise, outside_finishDesc, outside_settleWindows, outside_ite,
        outside_forEach, outside_foldl, ite_self, implies_true, *]
    | split
    | rfl

@[simp] theorem outside_compareFail {pt : Parts} (v : EngineId) (i : SpokeId) (st : Strobe) (high : Bool) (s :
    State) (h_occs : pt.occs = true) (h_outbox : pt.outbox = true) (h_spokes : pt.spokes = true) (h_engines :
    pt.engines = true) (h_latch : pt.latch = true) :
    (compareFail v i st high s).outside pt = s.outside pt := by
  unfold compareFail
  repeat' first
    | simp only [outside_State_setEngine, outside_raise, outside_putRecord, outside_ite, outside_forEach,
        outside_foldl, ite_self, implies_true, *]
    | split
    | rfl

@[simp] theorem outside_complete {pt : Parts} (p0 : ThreadId) (f : Thread → Thread) (s : State) (h_pacer : pt.pacer
    = true) :
    (complete p0 f s).outside pt = s.outside pt := by
  unfold complete
  repeat' first
    | simp only [outside_State_setThread, outside_ite, outside_forEach, outside_foldl, ite_self, implies_true, *]
    | split
    | rfl

@[simp] theorem outside_completeSnap {pt : Parts} (s : State) (h_snap : pt.snap = true) (h_occs : pt.occs = true)
    (h_latch : pt.latch = true) :
    (completeSnap s).outside pt = s.outside pt := by
  unfold completeSnap
  repeat' first
    | simp only [outside_raise, outside_State_modSnap, outside_ite, outside_forEach, outside_foldl, ite_self,
        implies_true, *]
    | split
    | rfl

@[simp] theorem outside_connectPi {pt : Parts} (s : State) (h_truing : pt.truing = true) :
    (connectPi s).outside pt = s.outside pt := by
  unfold connectPi
  repeat' first
    | simp only [outside_State_modItem, outside_ite, outside_forEach, outside_foldl, ite_self, implies_true, *]
    | split
    | rfl

@[simp] theorem outside_noonTo {pt : Parts} (st : Nat) (s : State) (h_occs : pt.occs = true) (h_noon : pt.noon =
    true) (h_latch : pt.latch = true) :
    (noonTo st s).outside pt = s.outside pt := by
  unfold noonTo
  repeat' first
    | simp only [outside_raiseNow, outside_with_noon, outside_ite, outside_forEach, outside_foldl, ite_self,
        implies_true, *]
    | split
    | rfl

@[simp] theorem outside_countLock {pt : Parts} (e : ℤ) (s : State) (h_occs : pt.occs = true) (h_noon : pt.noon =
    true) (h_latch : pt.latch = true) :
    (countLock e s).outside pt = s.outside pt := by
  unfold countLock
  repeat' first
    | simp only [outside_noonTo, outside_with_noon, outside_ite, outside_forEach, outside_foldl, ite_self,
        implies_true, *]
    | split
    | rfl

@[simp] theorem outside_markSeen {pt : Parts} (i : SpokeId) (e : QDesc) (s : State) (h_spokes : pt.spokes = true) :
    (markSeen i e s).outside pt = s.outside pt := by
  unfold markSeen
  repeat' first
    | simp only [outside_State_modSpoke, outside_ite, outside_forEach, outside_foldl, ite_self, implies_true, *]
    | split
    | rfl

@[simp] theorem outside_windowEdge {pt : Parts} (i : SpokeId) (e : QDesc) (rising : Bool) (d : DT) (s : State)
    (h_occs : pt.occs = true) (h_outbox : pt.outbox = true) (h_spokes : pt.spokes = true) (h_latch : pt.latch =
    true) :
    (windowEdge i e rising d s).outside pt = s.outside pt := by
  unfold windowEdge
  repeat' first
    | simp only [outside_markSeen, outside_putRecord, outside_State_modSpoke, outside_raise, outside_ite,
        outside_forEach, outside_foldl, ite_self, implies_true, *]
    | split
    | rfl

@[simp] theorem outside_recordCrossing {pt : Parts} (i : SpokeId) (rising : Bool) (s : State) (h_occs : pt.occs =
    true) (h_outbox : pt.outbox = true) (h_spokes : pt.spokes = true) (h_engines : pt.engines = true) (h_latch :
    pt.latch = true) :
    (recordCrossing i rising s).outside pt = s.outside pt := by
  unfold recordCrossing
  repeat' first
    | simp only [outside_windowEdge, outside_ceEdge, outside_putRecord, outside_ite, outside_forEach, outside_foldl,
        ite_self, implies_true, *]
    | split
    | rfl

@[simp] theorem outside_crossing {pt : Parts} (i : SpokeId) (rising : Bool) (s : State) (h_occs : pt.occs = true)
    (h_outbox : pt.outbox = true) (h_spokes : pt.spokes = true) (h_engines : pt.engines = true) (h_latch : pt.latch
    = true) :
    (crossing i rising s).outside pt = s.outside pt := by
  unfold crossing
  repeat' first
    | simp only [outside_State_modSpoke, outside_recordCrossing, outside_ite, outside_forEach, outside_foldl,
        ite_self, implies_true, *]
    | split
    | rfl

@[simp] theorem outside_cutPulses {pt : Parts} (i : SpokeId) (cut : DT) (e : QDesc) (s : State) (h_isl : pt.isl =
    true) (h_occs : pt.occs = true) (h_spokes : pt.spokes = true) (h_truing : pt.truing = true) (h_latch : pt.latch
    = true) :
    (cutPulses i cut e s).outside pt = s.outside pt := by
  unfold cutPulses
  repeat' first
    | simp only [outside_State_modSpoke, outside_finishDesc, outside_ite, outside_forEach, outside_foldl, ite_self,
        implies_true, *]
    | split
    | rfl

@[simp] theorem outside_cutDesc {pt : Parts} (i : SpokeId) (cut : DT) (e : QDesc) (s : State) (h_isl : pt.isl =
    true) (h_occs : pt.occs = true) (h_outbox : pt.outbox = true) (h_spokes : pt.spokes = true) (h_truing :
    pt.truing = true) (h_latch : pt.latch = true) :
    (cutDesc i cut e s).outside pt = s.outside pt := by
  unfold cutDesc
  repeat' first
    | simp only [outside_State_modSpoke, outside_releaseRetiring, outside_startGap, outside_closeWindow,
        outside_cutPulses, outside_ite, outside_forEach, outside_foldl, ite_self, implies_true, *]
    | split
    | rfl

@[simp] theorem outside_cutErase {pt : Parts} (s : State) (h_flash : pt.flash = true) :
    (cutErase s).outside pt = s.outside pt := by
  unfold cutErase
  repeat' first
    | simp only [outside_with_flash, outside_ite, outside_forEach, outside_foldl, ite_self, implies_true, *]
    | split
    | rfl

@[simp] theorem outside_decideRecord {pt : Parts} (a : AxisId) (axes : List AxisId) (src : RecSrc) (b : Octets) (s :
    State) (h_occs : pt.occs = true) (h_crank : pt.crank = true) (h_latch : pt.latch = true) :
    (decideRecord a axes src b s).outside pt = s.outside pt := by
  unfold decideRecord
  repeat' first
    | simp only [outside_State_modAxis, outside_raise, outside_raiseAxis, outside_acceptSegment, outside_with_crank,
        outside_ite, outside_forEach, outside_foldl, ite_self, implies_true, *]
    | split
    | rfl

@[simp] theorem outside_distribute {pt : Parts} (s : State) (h_noon : pt.noon = true) :
    (distribute s).outside pt = s.outside pt := by
  unfold distribute
  repeat' first
    | simp only [outside_with_noon, outside_ite, outside_forEach, outside_foldl, ite_self, implies_true, *]
    | split
    | rfl

@[simp] theorem outside_takeAction {pt : Parts} (p0 : ThreadId) (a : CtlAct) (s : State) (h_occs : pt.occs = true)
    (h_pacer : pt.pacer = true) (h_latch : pt.latch = true) :
    (takeAction p0 a s).outside pt = s.outside pt := by
  unfold takeAction
  repeat' first
    | simp only [outside_State_setThread, outside_raiseNow, outside_ite, outside_forEach, outside_foldl, ite_self,
        implies_true, *]
    | split
    | rfl

@[simp] theorem outside_refuseAction {pt : Parts} (p0 : ThreadId) (s : State) (h_pacer : pt.pacer = true) :
    (refuseAction p0 s).outside pt = s.outside pt := by
  unfold refuseAction
  repeat' first
    | simp only [outside_State_modThread, outside_ite, outside_forEach, outside_foldl, ite_self, implies_true, *]
    | split
    | rfl

@[simp] theorem outside_issueAction {pt : Parts} (p0 : ThreadId) (op : CtlOp) (d : DT) (s : State) (h_occs : pt.occs
    = true) (h_pacer : pt.pacer = true) (h_latch : pt.latch = true) :
    (issueAction p0 op d s).outside pt = s.outside pt := by
  unfold issueAction
  repeat' first
    | simp only [outside_takeAction, outside_refuseAction, outside_ite, outside_forEach, outside_foldl, ite_self,
        implies_true, *]
    | split
    | rfl

@[simp] theorem outside_drainActions {pt : Parts} (s : State) (h_occs : pt.occs = true) (h_pacer : pt.pacer = true)
    (h_latch : pt.latch = true) :
    (drainActions s).outside pt = s.outside pt := by
  unfold drainActions
  repeat' first
    | simp only [outside_issueAction, outside_with_pacer, outside_ite, outside_forEach, outside_foldl, ite_self,
        implies_true, *]
    | split
    | rfl

@[simp] theorem outside_takeCancels {pt : Parts} (i : SpokeId) (p1 : List SpokeMsg) (p2 : State) (h_occs : pt.occs =
    true) (h_spokes : pt.spokes = true) (h_pacer : pt.pacer = true) (h_latch : pt.latch = true) :
    (takeCancels i p1 p2).outside pt = p2.outside pt := by
  induction p1 generalizing p2 with
  | nil => rw [takeCancels]; simp
  | cons m rest ih =>
    cases m with
    | cancel cut p => rw [takeCancels, ih]; simp only [outside_arriveCancel, outside_State_modSpoke, *]
    | _ => rw [takeCancels]; simp

@[simp] theorem outside_drainCancels {pt : Parts} (i : SpokeId) (s : State) (h_occs : pt.occs = true) (h_spokes :
    pt.spokes = true) (h_pacer : pt.pacer = true) (h_latch : pt.latch = true) :
    (drainCancels i s).outside pt = s.outside pt := by
  unfold drainCancels
  repeat' first
    | simp only [outside_takeCancels, outside_ite, outside_forEach, outside_foldl, ite_self, implies_true, *]
    | split
    | rfl

@[simp] theorem outside_issueHostCancel {pt : Parts} (i : SpokeId) (cut : DT) (s : State) (h_spokes : pt.spokes =
    true) :
    (issueHostCancel i cut s).outside pt = s.outside pt := by
  unfold issueHostCancel
  repeat' first
    | simp only [outside_setCancel, outside_State_modSpoke, outside_ite, outside_forEach, outside_foldl, ite_self,
        implies_true, *]
    | split
    | rfl

@[simp] theorem outside_drainHost {pt : Parts} (i : SpokeId) (s : State) (h_spokes : pt.spokes = true) :
    (drainHost i s).outside pt = s.outside pt := by
  unfold drainHost
  repeat' first
    | simp only [outside_issueHostCancel, outside_State_modSpoke, outside_ite, outside_forEach, outside_foldl,
        ite_self, implies_true, *]
    | split
    | rfl

@[simp] theorem outside_post {pt : Parts} (addr : Nat) (bytes : Octets) (s : State) (h_posted : pt.posted = true) :
    (post addr bytes s).outside pt = s.outside pt := by
  unfold post
  repeat' first
    | simp only [outside_with_posted, outside_ite, outside_forEach, outside_foldl, ite_self, implies_true, *]
    | split
    | rfl

@[simp] theorem outside_writeEntry {pt : Parts} (q : RingId) (rx : Bool) (bytes : Octets) (s : State) (h_posted :
    pt.posted = true) (h_hb : pt.hb = true) :
    (writeEntry q rx bytes s).outside pt = s.outside pt := by
  unfold writeEntry
  repeat' first
    | simp only [outside_post, outside_State_setRing, outside_ite, outside_forEach, outside_foldl, ite_self,
        implies_true, *]
    | split
    | rfl

@[simp] theorem outside_writeTaken {pt : Parts} (e : OutEntry) (s : State) (h_outbox : pt.outbox = true) (h_posted :
    pt.posted = true) (h_ports : pt.ports = true) (h_hb : pt.hb = true) :
    (writeTaken e s).outside pt = s.outside pt := by
  unfold writeTaken
  repeat' first
    | simp only [outside_State_modPort, outside_writeEntry, outside_with_outbox, outside_ite, outside_forEach,
        outside_foldl, ite_self, implies_true, *]
    | split
    | rfl

@[simp] theorem outside_drainRing {pt : Parts} (q : RingId) (rx : Bool) (s : State) (h_outbox : pt.outbox = true)
    (h_posted : pt.posted = true) (h_ports : pt.ports = true) (h_hb : pt.hb = true) :
    (drainRing q rx s).outside pt = s.outside pt := by
  unfold drainRing
  repeat' first
    | simp only [outside_writeTaken, outside_ite, outside_forEach, outside_foldl, ite_self, implies_true, *]
    | split
    | rfl

@[simp] theorem outside_dropMsg {pt : Parts} (v : EngineId) (m : EngMsg) (s : State) (h_engines : pt.engines = true)
    :
    (dropMsg v m s).outside pt = s.outside pt := by
  unfold dropMsg
  repeat' first
    | simp only [outside_State_modEngine, outside_ite, outside_forEach, outside_foldl, ite_self, implies_true, *]
    | split
    | rfl

@[simp] theorem outside_duppos {pt : Parts} (b : Octets) (s : State) (h_occs : pt.occs = true) (h_stoker : pt.stoker
    = true) (h_latch : pt.latch = true) :
    (duppos b s).outside pt = s.outside pt := by
  unfold duppos
  repeat' first
    | simp only [outside_stokerTo, outside_ite, outside_forEach, outside_foldl, ite_self, implies_true, *]
    | split
    | rfl

@[simp] theorem outside_endHist {pt : Parts} (it : ItemId) (s : State) (h_truing : pt.truing = true) :
    (endHist it s).outside pt = s.outside pt := by
  unfold endHist
  repeat' first
    | simp only [outside_State_modItem, outside_connectPi, outside_with_truing, outside_ite, outside_forEach,
        outside_foldl, ite_self, implies_true, *]
    | split
    | rfl

@[simp] theorem outside_sayLost {pt : Parts} (i : SpokeId) (s : State) (h_occs : pt.occs = true) (h_spokes :
    pt.spokes = true) (h_latch : pt.latch = true) :
    (sayLost i s).outside pt = s.outside pt := by
  unfold sayLost
  repeat' first
    | simp only [outside_raise, outside_State_modSpoke, outside_ite, outside_forEach, outside_foldl, ite_self,
        implies_true, *]
    | split
    | rfl

@[simp] theorem outside_endHoldSpoke {pt : Parts} (i : SpokeId) (s : State) (h_isl : pt.isl = true) (h_occs :
    pt.occs = true) (h_spokes : pt.spokes = true) (h_latch : pt.latch = true) :
    (endHoldSpoke i s).outside pt = s.outside pt := by
  unfold endHoldSpoke
  repeat' first
    | simp only [outside_State_setSpoke, outside_releaseRetiring, outside_sayLost, outside_ite, outside_forEach,
        outside_foldl, ite_self, implies_true, *]
    | split
    | rfl

@[simp] theorem outside_endHold {pt : Parts} (s : State) (h_isl : pt.isl = true) (h_commit : pt.commit = true)
    (h_occs : pt.occs = true) (h_spokes : pt.spokes = true) (h_hub : pt.hub = true) (h_latch : pt.latch = true) :
    (endHold s).outside pt = s.outside pt := by
  unfold endHold
  repeat' first
    | simp only [outside_endHoldSpoke, outside_raiseNow, outside_with_commit_hub, outside_ite, outside_forEach,
        outside_foldl, ite_self, implies_true, *]
    | split
    | rfl

@[simp] theorem outside_endHoldIfDue {pt : Parts} (s : State) (h_isl : pt.isl = true) (h_commit : pt.commit = true)
    (h_occs : pt.occs = true) (h_spokes : pt.spokes = true) (h_hub : pt.hub = true) (h_latch : pt.latch = true) :
    (endHoldIfDue s).outside pt = s.outside pt := by
  unfold endHoldIfDue
  repeat' first
    | simp only [outside_endHold, outside_ite, outside_forEach, outside_foldl, ite_self, implies_true, *]
    | split
    | rfl

@[simp] theorem outside_endStore {pt : Parts} (cause : Nat) (s : State) (h_occs : pt.occs = true) (h_truing :
    pt.truing = true) (h_latch : pt.latch = true) :
    (endStore cause s).outside pt = s.outside pt := by
  unfold endStore
  repeat' first
    | simp only [outside_raise, outside_with_truing, outside_ite, outside_forEach, outside_foldl, ite_self,
        implies_true, *]
    | split
    | rfl

@[simp] theorem outside_endTrains {pt : Parts} (i : SpokeId) (s : State) (h_isl : pt.isl = true) (h_occs : pt.occs =
    true) (h_spokes : pt.spokes = true) (h_truing : pt.truing = true) (h_latch : pt.latch = true) :
    (endTrains i s).outside pt = s.outside pt := by
  unfold endTrains
  repeat' first
    | simp only [outside_cutPulses, outside_ite, outside_forEach, outside_foldl, ite_self, implies_true, *]
    | split
    | rfl

@[simp] theorem outside_sendDescs {pt : Parts} (p0 : ThreadId) (i : SpokeId) (l : List (BitVec 128)) (s : State)
    (h_spokes : pt.spokes = true) :
    (sendDescs p0 i l s).outside pt = s.outside pt := by
  unfold sendDescs
  repeat' first
    | simp only [outside_State_modSpoke, outside_ite, outside_forEach, outside_foldl, ite_self, implies_true, *]
    | split
    | rfl

@[simp] theorem outside_setMirror {pt : Parts} (i : SpokeId) (d : DT) (s : State) (h_pacer : pt.pacer = true) :
    (setMirror i d s).outside pt = s.outside pt := by
  unfold setMirror
  repeat' first
    | simp only [outside_with_pacer, outside_ite, outside_forEach, outside_foldl, ite_self, implies_true, *]
    | split
    | rfl

@[simp] theorem outside_enterChan {pt : Parts} (p0 : ThreadId) (i : SpokeId) (raw : BitVec 128) (ta : DT) (s :
    State) (h_spokes : pt.spokes = true) (h_pacer : pt.pacer = true) :
    (enterChan p0 i raw ta s).outside pt = s.outside pt := by
  unfold enterChan
  repeat' first
    | simp only [outside_sendDescs, outside_setMirror, outside_with_pacer, outside_ite, outside_forEach,
        outside_foldl, ite_self, implies_true, *]
    | split
    | rfl

@[simp] theorem outside_sendCancel {pt : Parts} (i : SpokeId) (cut : DT) (p2 : ThreadId) (s : State) (h_occs :
    pt.occs = true) (h_spokes : pt.spokes = true) (h_pacer : pt.pacer = true) (h_latch : pt.latch = true) :
    (sendCancel i cut p2 s).outside pt = s.outside pt := by
  unfold sendCancel
  repeat' first
    | simp only [outside_arriveCancel, outside_State_modSpoke, outside_ite, outside_forEach, outside_foldl,
        ite_self, implies_true, *]
    | split
    | rfl

@[simp] theorem outside_sendTrigger {pt : Parts} (c : PortId) (dest : BitVec 16) (src : ThreadId) (ta : DT) (w :
    Word) (s : State) (h_ports : pt.ports = true) :
    (sendTrigger c dest src ta w s).outside pt = s.outside pt := by
  unfold sendTrigger
  repeat' first
    | simp only [outside_sendPdu, outside_ite, outside_forEach, outside_foldl, ite_self, implies_true, *]
    | split
    | rfl

@[simp] theorem outside_sendRingTrigger {pt : Parts} (dest : BitVec 16) (src : ThreadId) (ta : DT) (w : Word) (s :
    State) (h_stoker : pt.stoker = true) (h_pair : pt.pair = true) :
    (sendRingTrigger dest src ta w s).outside pt = s.outside pt := by
  unfold sendRingTrigger
  repeat' first
    | simp only [outside_originate, outside_ite, outside_forEach, outside_foldl, ite_self, implies_true, *]
    | split
    | rfl

@[simp] theorem outside_sendPairTrigger {pt : Parts} (dest : BitVec 16) (src : ThreadId) (ta : DT) (w : Word) (s :
    State) (h_stoker : pt.stoker = true) (h_pair : pt.pair = true) :
    (sendPairTrigger dest src ta w s).outside pt = s.outside pt := by
  unfold sendPairTrigger
  repeat' first
    | simp only [outside_relay, outside_State_modStoker, outside_ite, outside_forEach, outside_foldl, ite_self,
        implies_true, *]
    | split
    | rfl

@[simp] theorem outside_enterTrig {pt : Parts} (p0 : ThreadId) (dest : BitVec 16) (ta : DT) (x : Word) (s : State)
    (h_pacer : pt.pacer = true) (h_ports : pt.ports = true) (h_stoker : pt.stoker = true) (h_pair : pt.pair = true)
    :
    (enterTrig p0 dest ta x s).outside pt = s.outside pt := by
  unfold enterTrig
  repeat' first
    | simp only [outside_mailFor, outside_sendTrigger, outside_sendRingTrigger, outside_sendPairTrigger,
        outside_ite, outside_forEach, outside_foldl, ite_self, implies_true, *]
    | split
    | rfl

@[simp] theorem outside_enter {pt : Parts} (p0 : ThreadId) (m : Issue) (s : State) (h_occs : pt.occs = true)
    (h_spokes : pt.spokes = true) (h_pacer : pt.pacer = true) (h_engines : pt.engines = true) (h_ports : pt.ports =
    true) (h_stoker : pt.stoker = true) (h_pair : pt.pair = true) (h_latch : pt.latch = true) :
    (enter p0 m s).outside pt = s.outside pt := by
  unfold enter
  repeat' first
    | simp only [outside_State_modEngine, outside_enterChan, outside_setMirror, outside_sendDescs,
        outside_sendCancel, outside_enterTrig, outside_ite, outside_forEach, outside_foldl, ite_self, implies_true,
        *]
    | split
    | rfl

@[simp] theorem outside_settleAll {pt : Parts} (s : State) (h_occs : pt.occs = true) (h_truing : pt.truing = true)
    (h_latch : pt.latch = true) :
    (settleAll s).outside pt = s.outside pt := by
  unfold settleAll
  repeat' first
    | simp only [outside_settle, outside_ite, outside_forEach, outside_foldl, ite_self, implies_true, *]
    | split
    | rfl

@[simp] theorem outside_ungateTruing {pt : Parts} (again : Bool) (s : State) (h_occs : pt.occs = true) (h_truing :
    pt.truing = true) (h_latch : pt.latch = true) :
    (ungateTruing again s).outside pt = s.outside pt := by
  unfold ungateTruing
  repeat' first
    | simp only [outside_startGap, outside_raise, outside_settleAll, outside_connectPi, outside_ite,
        outside_forEach, outside_foldl, ite_self, implies_true, *]
    | split
    | rfl

@[simp] theorem outside_laneOff {pt : Parts} (c : PortId) (mode : Nat) (st : Nat) (s : State) (h_isl : pt.isl =
    true) (h_occs : pt.occs = true) (h_ports : pt.ports = true) (h_fw : pt.fw = true) (h_latch : pt.latch = true) :
    (laneOff c mode st s).outside pt = s.outside pt := by
  unfold laneOff
  repeat' first
    | simp only [outside_State_setPort, outside_cutIngress, outside_portTo, outside_ite, outside_forEach,
        outside_foldl, ite_self, implies_true, *]
    | split
    | rfl

@[simp] theorem outside_portRun {pt : Parts} (c : PortId) (s : State) (h_isl : pt.isl = true) (h_occs : pt.occs =
    true) (h_ports : pt.ports = true) (h_fw : pt.fw = true) (h_latch : pt.latch = true) :
    (portRun c s).outside pt = s.outside pt := by
  unfold portRun
  repeat' first
    | simp only [outside_State_setPort, outside_toListen, outside_ite, outside_forEach, outside_foldl, ite_self,
        implies_true, *]
    | split
    | rfl

@[simp] theorem outside_portDay {pt : Parts} (c : PortId) (s : State) (h_isl : pt.isl = true) (h_occs : pt.occs =
    true) (h_ports : pt.ports = true) (h_fw : pt.fw = true) (h_latch : pt.latch = true) :
    (portDay c s).outside pt = s.outside pt := by
  unfold portDay
  repeat' first
    | simp only [outside_laneOff, outside_portRun, outside_ite, outside_forEach, outside_foldl, ite_self,
        implies_true, *]
    | split
    | rfl

@[simp] theorem outside_enterSeek {pt : Parts} (s : State) (h_occs : pt.occs = true) (h_stoker : pt.stoker = true)
    (h_latch : pt.latch = true) :
    (enterSeek s).outside pt = s.outside pt := by
  unfold enterSeek
  repeat' first
    | simp only [outside_stokerTo, outside_State_modStoker, outside_ite, outside_forEach, outside_foldl, ite_self,
        implies_true, *]
    | split
    | rfl

@[simp] theorem outside_enterDay {pt : Parts} (s : State) (h_isl : pt.isl = true) (h_occs : pt.occs = true)
    (h_spokes : pt.spokes = true) (h_pacer : pt.pacer = true) (h_truing : pt.truing = true) (h_ports : pt.ports =
    true) (h_fw : pt.fw = true) (h_stoker : pt.stoker = true) (h_pair : pt.pair = true) (h_latch : pt.latch = true)
    :
    (enterDay s).outside pt = s.outside pt := by
  unfold enterDay
  repeat' first
    | simp only [outside_ungateTruing, outside_drainActions, outside_drainHost, outside_portDay, outside_enterSeek,
        outside_with_truing, outside_with_pair, outside_ite, outside_forEach, outside_foldl, ite_self, implies_true,
        *]
    | split
    | rfl

@[simp] theorem outside_takeDesc {pt : Parts} (i : SpokeId) (wanted : BitVec 128 → Bool) (f : ChanDesc → State →
    State) (s : State) (h_f : ∀ y0 y1, (f y0 y1).outside pt = y1.outside pt) (h_occs : pt.occs = true) (h_spokes :
    pt.spokes = true) (h_pacer : pt.pacer = true) (h_latch : pt.latch = true) :
    (takeDesc i wanted f s).outside pt = s.outside pt := by
  unfold takeDesc
  repeat' first
    | simp only [outside_drainCancels, outside_State_modSpoke, outside_ite, outside_forEach, outside_foldl,
        ite_self, implies_true, *]
    | split
    | rfl

@[simp] theorem outside_rejectDesc {pt : Parts} (i : SpokeId) (d : ChanDesc) (start : DT) (cause : Nat) (place :
    Bool) (s : State) (h_occs : pt.occs = true) (h_spokes : pt.spokes = true) (h_pacer : pt.pacer = true) (h_latch :
    pt.latch = true) :
    (rejectDesc i d start cause place s).outside pt = s.outside pt := by
  unfold rejectDesc
  repeat' first
    | simp only [outside_State_modSpoke, outside_raise, outside_State_modThread, outside_ite, outside_forEach,
        outside_foldl, ite_self, implies_true, *]
    | split
    | rfl

@[simp] theorem outside_enterDesc {pt : Parts} (i : SpokeId) (k : Kind) (s : State) (h_isl : pt.isl = true) (h_occs
    : pt.occs = true) (h_spokes : pt.spokes = true) (h_pacer : pt.pacer = true) (h_truing : pt.truing = true)
    (h_latch : pt.latch = true) :
    (enterDesc i k s).outside pt = s.outside pt := by
  unfold enterDesc
  repeat' first
    | simp only [outside_takeDesc, outside_rejectDesc, outside_acceptDesc, outside_ite, outside_forEach,
        outside_foldl, ite_self, implies_true, *]
    | split
    | rfl
    | intro _
    | refine (outside_foldl _ (fun _ _ => ?_) _ _).trans ?_
    | refine (outside_forEach _ _ (fun _ _ => ?_) _).trans ?_
    | refine (outside_takeDesc _ _ _ _ (fun _ _ => ?_) (by assumption) (by assumption) (by assumption) (by assumption)).trans ?_

@[simp] theorem outside_enterElect {pt : Parts} (s : State) (h_occs : pt.occs = true) (h_stoker : pt.stoker = true)
    (h_pair : pt.pair = true) (h_latch : pt.latch = true) :
    (enterElect s).outside pt = s.outside pt := by
  unfold enterElect
  repeat' first
    | simp only [outside_stokerTo, outside_State_modStoker, outside_originate, outside_ite, outside_forEach,
        outside_foldl, ite_self, implies_true, *]
    | split
    | rfl

@[simp] theorem outside_execAxisClear {pt : Parts} (a : AxisId) (s : State) (h_occs : pt.occs = true) (h_crank :
    pt.crank = true) (h_latch : pt.latch = true) :
    (after (execAxisClear a) s).outside pt = s.outside pt := by
  unfold after execAxisClear
  repeat' first
    | simp only [outside_byHost, outside_clearAxis, outside_ite, outside_forEach, outside_foldl, ite_self,
        implies_true, *]
    | split
    | rfl

@[simp] theorem outside_execBankCrcGo {pt : Parts} (s : State) (h_pacer : pt.pacer = true) :
    (after (execBankCrcGo) s).outside pt = s.outside pt := by
  unfold after execBankCrcGo
  repeat' first
    | simp only [outside_byHost, outside_with_pacer, outside_ite, outside_forEach, outside_foldl, ite_self,
        implies_true, *]
    | split
    | rfl

@[simp] theorem outside_execBrakeEnter {pt : Parts} (s : State) (h_occs : pt.occs = true) (h_pair : pt.pair = true)
    (h_latch : pt.latch = true) :
    (after (execBrakeEnter) s).outside pt = s.outside pt := by
  unfold after execBrakeEnter
  repeat' first
    | simp only [outside_byHost, outside_enterBrake, outside_ite, outside_forEach, outside_foldl, ite_self,
        implies_true, *]
    | split
    | rfl

@[simp] theorem outside_refuseExit {pt : Parts} (s : State) (h_occs : pt.occs = true) (h_latch : pt.latch = true) :
    (refuseExit s).outside pt = s.outside pt := by
  unfold refuseExit
  repeat' first
    | simp only [outside_raiseNow, outside_ite, outside_forEach, outside_foldl, ite_self, implies_true, *]
    | split
    | rfl

@[simp] theorem outside_netTake {pt : Parts} (s : State) (h_occs : pt.occs = true) (h_pair : pt.pair = true)
    (h_latch : pt.latch = true) :
    (netTake s).outside pt = s.outside pt := by
  unfold netTake
  repeat' first
    | simp only [outside_takeToken, outside_ite, outside_forEach, outside_foldl, ite_self, implies_true, *]
    | split
    | rfl

@[simp] theorem outside_settleToken {pt : Parts} (s : State) (h_occs : pt.occs = true) (h_pair : pt.pair = true)
    (h_latch : pt.latch = true) :
    (settleToken s).outside pt = s.outside pt := by
  unfold settleToken
  repeat' first
    | simp only [outside_netTake, outside_beatToken, outside_ite, outside_forEach, outside_foldl, ite_self,
        implies_true, *]
    | split
    | rfl

@[simp] theorem outside_execBrakeExit {pt : Parts} (s : State) (h_occs : pt.occs = true) (h_pair : pt.pair = true)
    (h_latch : pt.latch = true) :
    (after (execBrakeExit) s).outside pt = s.outside pt := by
  unfold after execBrakeExit
  repeat' first
    | simp only [outside_byHost, outside_refuseExit, outside_settleToken, outside_raiseNow, outside_State_modPair,
        outside_ite, outside_forEach, outside_foldl, ite_self, implies_true, *]
    | split
    | rfl

@[simp] theorem outside_execCommitGo {pt : Parts} (s : State) (h_isl : pt.isl = true) (h_commit : pt.commit = true)
    (h_occs : pt.occs = true) (h_pacer : pt.pacer = true) (h_hub : pt.hub = true) (h_noon : pt.noon = true)
    (h_stoker : pt.stoker = true) (h_pair : pt.pair = true) (h_latch : pt.latch = true) :
    (after (execCommitGo) s).outside pt = s.outside pt := by
  unfold after execCommitGo
  repeat' first
    | simp only [outside_byHost, outside_issueCommit, outside_ite, outside_forEach, outside_foldl, ite_self,
        implies_true, *]
    | split
    | rfl

@[simp] theorem outside_execConsDoorbell {pt : Parts} (q : RingId) (rx : Bool) (n : BitVec 16) (s : State) (h_occs :
    pt.occs = true) (h_hb : pt.hb = true) (h_latch : pt.latch = true) :
    (after (execConsDoorbell q rx n) s).outside pt = s.outside pt := by
  unfold after execConsDoorbell
  repeat' first
    | simp only [outside_byHost, outside_State_setRing, outside_badDoorbell, outside_ite, outside_forEach,
        outside_foldl, ite_self, implies_true, *]
    | split
    | rfl

@[simp] theorem outside_refuseDay {pt : Parts} (reason : Nat) (s : State) (h_occs : pt.occs = true) (h_dyn : pt.dyn
    = true) (h_latch : pt.latch = true) :
    (refuseDay reason s).outside pt = s.outside pt := by
  unfold refuseDay
  repeat' first
    | simp only [outside_raiseNow, outside_State_modDyn, outside_ite, outside_forEach, outside_foldl, ite_self,
        implies_true, *]
    | split
    | rfl

@[simp] theorem outside_requestDay {pt : Parts} (s : State) (h_occs : pt.occs = true) (h_hub : pt.hub = true) (h_dyn
    : pt.dyn = true) (h_latch : pt.latch = true) :
    (requestDay s).outside pt = s.outside pt := by
  unfold requestDay
  repeat' first
    | simp only [outside_refuseDay, outside_beginLock, outside_with_hub_dyn, outside_ite, outside_forEach,
        outside_foldl, ite_self, implies_true, *]
    | split
    | rfl

@[simp] theorem outside_execDayRequest {pt : Parts} (s : State) (h_occs : pt.occs = true) (h_hub : pt.hub = true)
    (h_dyn : pt.dyn = true) (h_latch : pt.latch = true) :
    (after (execDayRequest) s).outside pt = s.outside pt := by
  unfold after execDayRequest
  repeat' first
    | simp only [outside_requestDay, outside_ite, outside_forEach, outside_foldl, ite_self, implies_true, *]
    | split
    | rfl

@[simp] theorem outside_execDuskRequest {pt : Parts} (s : State) (h_occs : pt.occs = true) (h_hub : pt.hub = true)
    (h_stoker : pt.stoker = true) (h_pair : pt.pair = true) (h_dyn : pt.dyn = true) (h_latch : pt.latch = true) :
    (after (execDuskRequest) s).outside pt = s.outside pt := by
  unfold after execDuskRequest
  repeat' first
    | simp only [outside_enterDusk, outside_ite, outside_forEach, outside_foldl, ite_self, implies_true, *]
    | split
    | rfl

@[simp] theorem outside_execEventStatusClear {pt : Parts} (n : Fin 8) (mask : Word) (again : Word) (s : State) (h_hb
    : pt.hb = true) :
    (after (execEventStatusClear n mask again) s).outside pt = s.outside pt := by
  unfold after execEventStatusClear
  repeat' first
    | simp only [outside_byHost, outside_with_hb, outside_ite, outside_forEach, outside_foldl, ite_self,
        implies_true, *]
    | split
    | rfl

@[simp] theorem outside_execFailFirstRearm {pt : Parts} (v : EngineId) (s : State) (h_engines : pt.engines = true) :
    (after (execFailFirstRearm v) s).outside pt = s.outside pt := by
  unfold after execFailFirstRearm
  repeat' first
    | simp only [outside_byHost, outside_State_modEngine, outside_ite, outside_forEach, outside_foldl, ite_self,
        implies_true, *]
    | split
    | rfl

@[simp] theorem outside_flashSay {pt : Parts} (st : Nat) (cause : Nat) (s : State) (h_hb : pt.hb = true) :
    (flashSay st cause s).outside pt = s.outside pt := by
  unfold flashSay
  repeat' first
    | simp only [outside_with_hb, outside_ite, outside_forEach, outside_foldl, ite_self, implies_true, *]
    | split
    | rfl

@[simp] theorem outside_flashCmd {pt : Parts} (align : Nat) (f : State → State) (s : State) (h_f : ∀ y0, (f
    y0).outside pt = y0.outside pt) (h_hb : pt.hb = true) :
    (flashCmd align f s).outside pt = s.outside pt := by
  unfold flashCmd
  repeat' first
    | simp only [outside_flashSay, outside_ite, outside_forEach, outside_foldl, ite_self, implies_true, *]
    | split
    | rfl

@[simp] theorem outside_flashStart {pt : Parts} (page : Option Octets) (s : State) (h_hb : pt.hb = true) :
    (flashStart page s).outside pt = s.outside pt := by
  unfold flashStart
  repeat' first
    | simp only [outside_flashSay, outside_with_hb, outside_ite, outside_forEach, outside_foldl, ite_self,
        implies_true, *]
    | split
    | rfl

@[simp] theorem outside_execFlashErase {pt : Parts} (s : State) (h_hb : pt.hb = true) :
    (after (execFlashErase) s).outside pt = s.outside pt := by
  unfold after execFlashErase
  repeat' first
    | simp only [outside_byHost, outside_flashCmd, outside_flashStart, outside_ite, outside_forEach, outside_foldl,
        ite_self, implies_true, *]
    | split
    | rfl
    | intro _
    | refine (outside_foldl _ (fun _ _ => ?_) _ _).trans ?_
    | refine (outside_forEach _ _ (fun _ _ => ?_) _).trans ?_
    | refine (outside_byHost _ _ (fun _ => ?_)).trans ?_
    | refine (outside_flashCmd _ _ _ (by assumption) (fun _ => ?_)).trans ?_

@[simp] theorem outside_execFlashProgram {pt : Parts} (s : State) (h_hb : pt.hb = true) :
    (after (execFlashProgram) s).outside pt = s.outside pt := by
  unfold after execFlashProgram
  repeat' first
    | simp only [outside_byHost, outside_flashCmd, outside_flashStart, outside_ite, outside_forEach, outside_foldl,
        ite_self, implies_true, *]
    | split
    | rfl
    | intro _
    | refine (outside_foldl _ (fun _ _ => ?_) _ _).trans ?_
    | refine (outside_forEach _ _ (fun _ _ => ?_) _).trans ?_
    | refine (outside_byHost _ _ (fun _ => ?_)).trans ?_
    | refine (outside_flashCmd _ _ _ (by assumption) (fun _ => ?_)).trans ?_

@[simp] theorem outside_execFlashRead {pt : Parts} (s : State) (h_hb : pt.hb = true) :
    (after (execFlashRead) s).outside pt = s.outside pt := by
  unfold after execFlashRead
  repeat' first
    | simp only [outside_byHost, outside_flashCmd, outside_flashSay, outside_with_hb, outside_ite, outside_forEach,
        outside_foldl, ite_self, implies_true, *]
    | split
    | rfl
    | intro _
    | refine (outside_foldl _ (fun _ _ => ?_) _ _).trans ?_
    | refine (outside_forEach _ _ (fun _ _ => ?_) _).trans ?_
    | refine (outside_byHost _ _ (fun _ => ?_)).trans ?_
    | refine (outside_flashCmd _ _ _ (by assumption) (fun _ => ?_)).trans ?_

@[simp] theorem outside_execFullRunRequest {pt : Parts} (i : SpokeId) (dl : BitVec 20) (s : State) (h_imm : pt.imm =
    true) (h_occs : pt.occs = true) (h_truing : pt.truing = true) (h_latch : pt.latch = true) :
    (after (execFullRunRequest i dl) s).outside pt = s.outside pt := by
  unfold after execFullRunRequest
  repeat' first
    | simp only [outside_byHost, outside_raiseNow, outside_State_setReq, outside_with_imm, outside_ite,
        outside_forEach, outside_foldl, ite_self, implies_true, *]
    | split
    | rfl

@[simp] theorem outside_execFullRunWithdraw {pt : Parts} (i : SpokeId) (s : State) (h_occs : pt.occs = true)
    (h_truing : pt.truing = true) (h_latch : pt.latch = true) :
    (after (execFullRunWithdraw i) s).outside pt = s.outside pt := by
  unfold after execFullRunWithdraw
  repeat' first
    | simp only [outside_byHost, outside_raiseNow, outside_State_setReq, outside_ite, outside_forEach,
        outside_foldl, ite_self, implies_true, *]
    | split
    | rfl

@[simp] theorem outside_powerWrite {pt : Parts} (c : PortId) (mode : Nat) (act : State → State) (s : State) (h_act :
    ∀ y0, (act y0).outside pt = y0.outside pt) (h_ports : pt.ports = true) :
    (powerWrite c mode act s).outside pt = s.outside pt := by
  unfold powerWrite
  repeat' first
    | simp only [outside_State_modPort, outside_ite, outside_forEach, outside_foldl, ite_self, implies_true, *]
    | split
    | rfl

@[simp] theorem outside_execPortOff {pt : Parts} (c : PortId) (s : State) (h_isl : pt.isl = true) (h_occs : pt.occs
    = true) (h_ports : pt.ports = true) (h_fw : pt.fw = true) (h_latch : pt.latch = true) :
    (after (execPortOff c) s).outside pt = s.outside pt := by
  unfold after execPortOff
  repeat' first
    | simp only [outside_byHost, outside_powerWrite, outside_laneOff, outside_ite, outside_forEach, outside_foldl,
        ite_self, implies_true, *]
    | split
    | rfl
    | intro _
    | refine (outside_foldl _ (fun _ _ => ?_) _ _).trans ?_
    | refine (outside_forEach _ _ (fun _ _ => ?_) _).trans ?_
    | refine (outside_byHost _ _ (fun _ => ?_)).trans ?_
    | refine (outside_powerWrite _ _ _ _ (fun _ => ?_) (by assumption)).trans ?_

@[simp] theorem outside_execPortRun {pt : Parts} (c : PortId) (s : State) (h_isl : pt.isl = true) (h_occs : pt.occs
    = true) (h_ports : pt.ports = true) (h_fw : pt.fw = true) (h_latch : pt.latch = true) :
    (after (execPortRun c) s).outside pt = s.outside pt := by
  unfold after execPortRun
  repeat' first
    | simp only [outside_byHost, outside_powerWrite, outside_portRun, outside_ite, outside_forEach, outside_foldl,
        ite_self, implies_true, *]
    | split
    | rfl
    | intro _
    | refine (outside_foldl _ (fun _ _ => ?_) _ _).trans ?_
    | refine (outside_forEach _ _ (fun _ _ => ?_) _).trans ?_
    | refine (outside_byHost _ _ (fun _ => ?_)).trans ?_
    | refine (outside_powerWrite _ _ _ _ (fun _ => ?_) (by assumption)).trans ?_

@[simp] theorem outside_execPortSiesta {pt : Parts} (c : PortId) (s : State) (h_isl : pt.isl = true) (h_occs :
    pt.occs = true) (h_ports : pt.ports = true) (h_fw : pt.fw = true) (h_latch : pt.latch = true) :
    (after (execPortSiesta c) s).outside pt = s.outside pt := by
  unfold after execPortSiesta
  repeat' first
    | simp only [outside_byHost, outside_powerWrite, outside_laneOff, outside_ite, outside_forEach, outside_foldl,
        ite_self, implies_true, *]
    | split
    | rfl
    | intro _
    | refine (outside_foldl _ (fun _ _ => ?_) _ _).trans ?_
    | refine (outside_forEach _ _ (fun _ _ => ?_) _).trans ?_
    | refine (outside_byHost _ _ (fun _ => ?_)).trans ?_
    | refine (outside_powerWrite _ _ _ _ (fun _ => ?_) (by assumption)).trans ?_

@[simp] theorem outside_holdListen {pt : Parts} (c : PortId) (s : State) (h_isl : pt.isl = true) (h_occs : pt.occs =
    true) (h_ports : pt.ports = true) (h_fw : pt.fw = true) (h_latch : pt.latch = true) :
    (holdListen c s).outside pt = s.outside pt := by
  unfold holdListen
  repeat' first
    | simp only [outside_toListen, outside_ite, outside_forEach, outside_foldl, ite_self, implies_true, *]
    | split
    | rfl

@[simp] theorem outside_execPrbsCheck {pt : Parts} (c : PortId) (errs : Nat) (s : State) (h_isl : pt.isl = true)
    (h_occs : pt.occs = true) (h_ports : pt.ports = true) (h_fw : pt.fw = true) (h_latch : pt.latch = true) :
    (after (execPrbsCheck c errs) s).outside pt = s.outside pt := by
  unfold after execPrbsCheck
  repeat' first
    | simp only [outside_byHost, outside_holdListen, outside_State_modPort, outside_ite, outside_forEach,
        outside_foldl, ite_self, implies_true, *]
    | split
    | rfl

@[simp] theorem outside_execPrbsGen {pt : Parts} (c : PortId) (s : State) (h_isl : pt.isl = true) (h_occs : pt.occs
    = true) (h_ports : pt.ports = true) (h_fw : pt.fw = true) (h_latch : pt.latch = true) :
    (after (execPrbsGen c) s).outside pt = s.outside pt := by
  unfold after execPrbsGen
  repeat' first
    | simp only [outside_byHost, outside_holdListen, outside_State_modPort, outside_ite, outside_forEach,
        outside_foldl, ite_self, implies_true, *]
    | split
    | rfl

@[simp] theorem outside_execProdDoorbell {pt : Parts} (q : RingId) (n : BitVec 16) (s : State) (h_occs : pt.occs =
    true) (h_hb : pt.hb = true) (h_latch : pt.latch = true) :
    (after (execProdDoorbell q n) s).outside pt = s.outside pt := by
  unfold after execProdDoorbell
  repeat' first
    | simp only [outside_byHost, outside_State_setRing, outside_badDoorbell, outside_ite, outside_forEach,
        outside_foldl, ite_self, implies_true, *]
    | split
    | rfl

@[simp] theorem outside_execRingDisable {pt : Parts} (q : RingId) (rx : Bool) (cfg : Word) (s : State) (h_outbox :
    pt.outbox = true) (h_posted : pt.posted = true) (h_ports : pt.ports = true) (h_hb : pt.hb = true) :
    (after (execRingDisable q rx cfg) s).outside pt = s.outside pt := by
  unfold after execRingDisable
  repeat' first
    | simp only [outside_byHost, outside_State_modRing, outside_drainRing, outside_ite, outside_forEach,
        outside_foldl, ite_self, implies_true, *]
    | split
    | rfl

@[simp] theorem outside_writeRecord {pt : Parts} (q : RingId) (o : Occ) (s : State) (h_posted : pt.posted = true)
    (h_hb : pt.hb = true) :
    (writeRecord q o s).outside pt = s.outside pt := by
  unfold writeRecord
  repeat' first
    | simp only [outside_State_modRing, outside_writeEntry, outside_dropEntry, outside_ite, outside_forEach,
        outside_foldl, ite_self, implies_true, *]
    | split
    | rfl

@[simp] theorem outside_flushFlr {pt : Parts} (s : State) (h_posted : pt.posted = true) (h_hb : pt.hb = true) :
    (flushFlr s).outside pt = s.outside pt := by
  unfold flushFlr
  repeat' first
    | simp only [outside_writeRecord, outside_with_hb, outside_ite, outside_forEach, outside_foldl, ite_self,
        implies_true, *]
    | split
    | rfl

@[simp] theorem outside_execRingEnable {pt : Parts} (q : RingId) (rx : Bool) (cfg : Word) (s : State) (h_occs :
    pt.occs = true) (h_posted : pt.posted = true) (h_hb : pt.hb = true) (h_latch : pt.latch = true) :
    (after (execRingEnable q rx cfg) s).outside pt = s.outside pt := by
  unfold after execRingEnable
  repeat' first
    | simp only [outside_byHost, outside_State_setRing, outside_flushFlr, outside_queueEvent, outside_ite,
        outside_forEach, outside_foldl, ite_self, implies_true, *]
    | split
    | rfl

@[simp] theorem outside_execSegmentGo {pt : Parts} (a : AxisId) (s : State) (h_crank : pt.crank = true) :
    (after (execSegmentGo a) s).outside pt = s.outside pt := by
  unfold after execSegmentGo
  repeat' first
    | simp only [outside_byHost, outside_with_crank, outside_ite, outside_forEach, outside_foldl, ite_self,
        implies_true, *]
    | split
    | rfl

@[simp] theorem outside_requestSnap {pt : Parts} (s : State) (h_snap : pt.snap = true) :
    (requestSnap s).outside pt = s.outside pt := by
  unfold requestSnap
  repeat' first
    | simp only [outside_State_modSnap, outside_ite, outside_forEach, outside_foldl, ite_self, implies_true, *]
    | split
    | rfl

@[simp] theorem outside_execSnapshotRequest {pt : Parts} (s : State) (h_snap : pt.snap = true) :
    (after (execSnapshotRequest) s).outside pt = s.outside pt := by
  unfold after execSnapshotRequest
  repeat' first
    | simp only [outside_byHost, outside_requestSnap, outside_ite, outside_forEach, outside_foldl, ite_self,
        implies_true, *]
    | split
    | rfl

@[simp] theorem outside_execSpokeCancelGo {pt : Parts} (i : SpokeId) (s : State) (h_spokes : pt.spokes = true) :
    (after (execSpokeCancelGo i) s).outside pt = s.outside pt := by
  unfold after execSpokeCancelGo
  repeat' first
    | simp only [outside_byHost, outside_issueHostCancel, outside_State_modSpoke, outside_ite, outside_forEach,
        outside_foldl, ite_self, implies_true, *]
    | split
    | rfl

@[simp] theorem outside_requestStep {pt : Parts} (at_ : DT) (d : ℤ) (epoch : Bool) (auto : Bool) (s : State) (h_isl
    : pt.isl = true) (h_commit : pt.commit = true) (h_occs : pt.occs = true) (h_pacer : pt.pacer = true) (h_hub :
    pt.hub = true) (h_noon : pt.noon = true) (h_stoker : pt.stoker = true) (h_pair : pt.pair = true) (h_latch :
    pt.latch = true) :
    (requestStep at_ d epoch auto s).outside pt = s.outside pt := by
  unfold requestStep
  repeat' first
    | simp only [outside_sayStepRefused, outside_sendRequest, outside_with_noon, outside_ite, outside_forEach,
        outside_foldl, ite_self, implies_true, *]
    | split
    | rfl

@[simp] theorem outside_execStepRequest {pt : Parts} (s : State) (h_isl : pt.isl = true) (h_commit : pt.commit =
    true) (h_occs : pt.occs = true) (h_pacer : pt.pacer = true) (h_hub : pt.hub = true) (h_noon : pt.noon = true)
    (h_stoker : pt.stoker = true) (h_pair : pt.pair = true) (h_latch : pt.latch = true) :
    (after (execStepRequest) s).outside pt = s.outside pt := by
  unfold after execStepRequest
  repeat' first
    | simp only [outside_byHost, outside_requestStep, outside_ite, outside_forEach, outside_foldl, ite_self,
        implies_true, *]
    | split
    | rfl

@[simp] theorem outside_execStoreGo {pt : Parts} (s : State) (h_truing : pt.truing = true) :
    (after (execStoreGo) s).outside pt = s.outside pt := by
  unfold after execStoreGo
  repeat' first
    | simp only [outside_byHost, outside_beginStore, outside_ite, outside_forEach, outside_foldl, ite_self,
        implies_true, *]
    | split
    | rfl

@[simp] theorem outside_execTestLoopEnd {pt : Parts} (c : PortId) (s : State) (h_isl : pt.isl = true) (h_occs :
    pt.occs = true) (h_ports : pt.ports = true) (h_fw : pt.fw = true) (h_latch : pt.latch = true) :
    (after (execTestLoopEnd c) s).outside pt = s.outside pt := by
  unfold after execTestLoopEnd
  repeat' first
    | simp only [outside_byHost, outside_State_setPort, outside_toListen, outside_ite, outside_forEach,
        outside_foldl, ite_self, implies_true, *]
    | split
    | rfl

@[simp] theorem outside_testLoop {pt : Parts} (c : PortId) (n : Nat) (s : State) (h_occs : pt.occs = true) (h_ports
    : pt.ports = true) (h_latch : pt.latch = true) :
    (testLoop c n s).outside pt = s.outside pt := by
  unfold testLoop
  repeat' first
    | simp only [outside_State_setPort, outside_portTo, outside_State_modPort, outside_ite, outside_forEach,
        outside_foldl, ite_self, implies_true, *]
    | split
    | rfl

@[simp] theorem outside_execTestLoopFarRetimed {pt : Parts} (c : PortId) (s : State) (h_occs : pt.occs = true)
    (h_ports : pt.ports = true) (h_latch : pt.latch = true) :
    (after (execTestLoopFarRetimed c) s).outside pt = s.outside pt := by
  unfold after execTestLoopFarRetimed
  repeat' first
    | simp only [outside_byHost, outside_testLoop, outside_ite, outside_forEach, outside_foldl, ite_self,
        implies_true, *]
    | split
    | rfl

@[simp] theorem outside_execTestLoopNearParallel {pt : Parts} (c : PortId) (s : State) (h_occs : pt.occs = true)
    (h_ports : pt.ports = true) (h_latch : pt.latch = true) :
    (after (execTestLoopNearParallel c) s).outside pt = s.outside pt := by
  unfold after execTestLoopNearParallel
  repeat' first
    | simp only [outside_byHost, outside_testLoop, outside_ite, outside_forEach, outside_foldl, ite_self,
        implies_true, *]
    | split
    | rfl

@[simp] theorem outside_execTestLoopNearSerial {pt : Parts} (c : PortId) (s : State) (h_occs : pt.occs = true)
    (h_ports : pt.ports = true) (h_latch : pt.latch = true) :
    (after (execTestLoopNearSerial c) s).outside pt = s.outside pt := by
  unfold after execTestLoopNearSerial
  repeat' first
    | simp only [outside_byHost, outside_testLoop, outside_ite, outside_forEach, outside_foldl, ite_self,
        implies_true, *]
    | split
    | rfl

@[simp] theorem outside_regAction {pt : Parts} (p0 : ThreadId) (op : CtlOp) (s : State) (h_occs : pt.occs = true)
    (h_pacer : pt.pacer = true) (h_latch : pt.latch = true) :
    (regAction p0 op s).outside pt = s.outside pt := by
  unfold regAction
  repeat' first
    | simp only [outside_issueAction, outside_with_pacer, outside_ite, outside_forEach, outside_foldl, ite_self,
        implies_true, *]
    | split
    | rfl

@[simp] theorem outside_execThResume {pt : Parts} (p0 : ThreadId) (s : State) (h_occs : pt.occs = true) (h_pacer :
    pt.pacer = true) (h_latch : pt.latch = true) :
    (after (execThResume p0) s).outside pt = s.outside pt := by
  unfold after execThResume
  repeat' first
    | simp only [outside_byHost, outside_regAction, outside_ite, outside_forEach, outside_foldl, ite_self,
        implies_true, *]
    | split
    | rfl

@[simp] theorem outside_execThStart {pt : Parts} (p0 : ThreadId) (s : State) (h_occs : pt.occs = true) (h_pacer :
    pt.pacer = true) (h_latch : pt.latch = true) :
    (after (execThStart p0) s).outside pt = s.outside pt := by
  unfold after execThStart
  repeat' first
    | simp only [outside_byHost, outside_regAction, outside_ite, outside_forEach, outside_foldl, ite_self,
        implies_true, *]
    | split
    | rfl

@[simp] theorem outside_execThStop {pt : Parts} (p0 : ThreadId) (s : State) (h_occs : pt.occs = true) (h_pacer :
    pt.pacer = true) (h_latch : pt.latch = true) :
    (after (execThStop p0) s).outside pt = s.outside pt := by
  unfold after execThStop
  repeat' first
    | simp only [outside_byHost, outside_regAction, outside_ite, outside_forEach, outside_foldl, ite_self,
        implies_true, *]
    | split
    | rfl

@[simp] theorem outside_sendMsi {pt : Parts} (v : VecId) (s : State) (h_posted : pt.posted = true) (h_hb : pt.hb =
    true) :
    (sendMsi v s).outside pt = s.outside pt := by
  unfold sendMsi
  repeat' first
    | simp only [outside_State_setVec, outside_post, outside_ite, outside_forEach, outside_foldl, ite_self,
        implies_true, *]
    | split
    | rfl

@[simp] theorem outside_sendPending {pt : Parts} (v : VecId) (s : State) (h_posted : pt.posted = true) (h_hb : pt.hb
    = true) :
    (sendPending v s).outside pt = s.outside pt := by
  unfold sendPending
  repeat' first
    | simp only [outside_State_setVec, outside_sendMsi, outside_ite, outside_forEach, outside_foldl, ite_self,
        implies_true, *]
    | split
    | rfl

@[simp] theorem outside_execVectorUnmask {pt : Parts} (v : VecId) (s : State) (h_posted : pt.posted = true) (h_hb :
    pt.hb = true) :
    (after (execVectorUnmask v) s).outside pt = s.outside pt := by
  unfold after execVectorUnmask
  repeat' first
    | simp only [outside_byHost, outside_sendPending, outside_State_setVec, outside_ite, outside_forEach,
        outside_foldl, ite_self, implies_true, *]
    | split
    | rfl

@[simp] theorem outside_expire {pt : Parts} (p0 : ThreadId) (s : State) (h_pacer : pt.pacer = true) :
    (expire p0 s).outside pt = s.outside pt := by
  unfold expire
  repeat' first
    | simp only [outside_complete, outside_ite, outside_forEach, outside_foldl, ite_self, implies_true, *]
    | split
    | rfl

@[simp] theorem outside_fault {pt : Parts} (p0 : ThreadId) (cause : Nat) (s : State) (h_occs : pt.occs = true)
    (h_pacer : pt.pacer = true) (h_latch : pt.latch = true) :
    (fault p0 cause s).outside pt = s.outside pt := by
  unfold fault
  repeat' first
    | simp only [outside_raise, outside_State_setThread, outside_ite, outside_forEach, outside_foldl, ite_self,
        implies_true, *]
    | split
    | rfl

@[simp] theorem outside_firstMeas {pt : Parts} (m : Meas) (s : State) (h_noon : pt.noon = true) :
    (firstMeas m s).outside pt = s.outside pt := by
  unfold firstMeas
  repeat' first
    | simp only [outside_with_noon, outside_ite, outside_forEach, outside_foldl, ite_self, implies_true, *]
    | split
    | rfl

@[simp] theorem outside_fixIdle {pt : Parts} (v : EngineId) (s : State) (h_engines : pt.engines = true) :
    (fixIdle v s).outside pt = s.outside pt := by
  unfold fixIdle
  repeat' first
    | simp only [outside_State_modEngine, outside_ite, outside_forEach, outside_foldl, ite_self, implies_true, *]
    | split
    | rfl

@[simp] theorem outside_fixSeg {pt : Parts} (v : EngineId) (n : Nat) (plays : Nat) (jumped : Bool) (s : State)
    (h_occs : pt.occs = true) (h_engines : pt.engines = true) (h_latch : pt.latch = true) :
    (fixSeg v n plays jumped s).outside pt = s.outside pt := by
  unfold fixSeg
  repeat' first
    | simp only [outside_raise, outside_State_setEngine, outside_ite, outside_forEach, outside_foldl, ite_self,
        implies_true, *]
    | split
    | rfl

@[simp] theorem outside_follow {pt : Parts} (b : Octets) (s : State) (h_stoker : pt.stoker = true) :
    (follow b s).outside pt = s.outside pt := by
  unfold follow
  repeat' first
    | simp only [outside_State_modStoker, outside_ite, outside_forEach, outside_foldl, ite_self, implies_true, *]
    | split
    | rfl

@[simp] theorem outside_relock {pt : Parts} (s : State) (h_isl : pt.isl = true) (h_occs : pt.occs = true) (h_spokes
    : pt.spokes = true) (h_engines : pt.engines = true) (h_truing : pt.truing = true) (h_hub : pt.hub = true)
    (h_ports : pt.ports = true) (h_fw : pt.fw = true) (h_pair : pt.pair = true) (h_latch : pt.latch = true) :
    (relock s).outside pt = s.outside pt := by
  unfold relock
  repeat' first
    | simp only [outside_closeGates, outside_beginLock, outside_raiseAs, outside_with_hub, outside_ite,
        outside_forEach, outside_foldl, ite_self, implies_true, *]
    | split
    | rfl

@[simp] theorem outside_switchRef {pt : Parts} (sel : Nat) (s : State) (h_occs : pt.occs = true) (h_hub : pt.hub =
    true) (h_latch : pt.latch = true) :
    (switchRef sel s).outside pt = s.outside pt := by
  unfold switchRef
  repeat' first
    | simp only [outside_raiseNow, outside_with_hub, outside_ite, outside_forEach, outside_foldl, ite_self,
        implies_true, *]
    | split
    | rfl

@[simp] theorem outside_followRef {pt : Parts} (k : Nat) (s : State) (h_isl : pt.isl = true) (h_occs : pt.occs =
    true) (h_spokes : pt.spokes = true) (h_engines : pt.engines = true) (h_truing : pt.truing = true) (h_hub :
    pt.hub = true) (h_ports : pt.ports = true) (h_fw : pt.fw = true) (h_pair : pt.pair = true) (h_latch : pt.latch =
    true) :
    (followRef k s).outside pt = s.outside pt := by
  unfold followRef
  repeat' first
    | simp only [outside_relock, outside_switchRef, outside_ite, outside_forEach, outside_foldl, ite_self,
        implies_true, *]
    | split
    | rfl

@[simp] theorem outside_forget {pt : Parts} (l : List (Nat × Bool)) (s : State) (h_stoker : pt.stoker = true) :
    (forget l s).outside pt = s.outside pt := by
  unfold forget
  repeat' first
    | simp only [outside_with_stoker, outside_ite, outside_forEach, outside_foldl, ite_self, implies_true, *]
    | split
    | rfl

@[simp] theorem outside_forward {pt : Parts} (r : RingDir) (b : Octets) (s : State) (h_stoker : pt.stoker = true)
    (h_pair : pt.pair = true) :
    (forward r b s).outside pt = s.outside pt := by
  unfold forward
  repeat' first
    | simp only [outside_sendCell, outside_relay, outside_ite, outside_forEach, outside_foldl, ite_self,
        implies_true, *]
    | split
    | rfl

@[simp] theorem outside_foundMismatch {pt : Parts} (i : SpokeId) (s : State) (h_occs : pt.occs = true) (h_pair :
    pt.pair = true) (h_latch : pt.latch = true) :
    (foundMismatch i s).outside pt = s.outside pt := by
  unfold foundMismatch
  repeat' first
    | simp only [outside_State_modPair, outside_netTake, outside_raiseNow, outside_ite, outside_forEach,
        outside_foldl, ite_self, implies_true, *]
    | split
    | rfl

@[simp] theorem outside_freeTargets {pt : Parts} (p0 : ThreadId) (s : State) (h_crank : pt.crank = true) :
    (freeTargets p0 s).outside pt = s.outside pt := by
  unfold freeTargets
  repeat' first
    | simp only [outside_with_crank, outside_ite, outside_forEach, outside_foldl, ite_self, implies_true, *]
    | split
    | rfl

@[simp] theorem outside_freezePair {pt : Parts} (s : State) (h_occs : pt.occs = true) (h_pair : pt.pair = true)
    (h_latch : pt.latch = true) :
    (freezePair s).outside pt = s.outside pt := by
  unfold freezePair
  repeat' first
    | simp only [outside_raiseNow, outside_State_modPair, outside_ite, outside_forEach, outside_foldl, ite_self,
        implies_true, *]
    | split
    | rfl

@[simp] theorem outside_goOn {pt : Parts} (p0 : ThreadId) (f : Thread → Thread) (s : State) (h_occs : pt.occs =
    true) (h_pacer : pt.pacer = true) (h_latch : pt.latch = true) :
    (goOn p0 f s).outside pt = s.outside pt := by
  unfold goOn
  repeat' first
    | simp only [outside_fault, outside_complete, outside_ite, outside_forEach, outside_foldl, ite_self,
        implies_true, *]
    | split
    | rfl

@[simp] theorem outside_hostCopy {pt : Parts} (f : Frame) (s : State) (h_occs : pt.occs = true) (h_outbox :
    pt.outbox = true) (h_ports : pt.ports = true) (h_fw : pt.fw = true) (h_hb : pt.hb = true) (h_latch : pt.latch =
    true) :
    (hostCopy f s).outside pt = s.outside pt := by
  unfold hostCopy
  repeat' first
    | simp only [outside_sendToPort, outside_modFwCnt, outside_raise, outside_ite, outside_forEach, outside_foldl,
        ite_self, implies_true, *]
    | split
    | rfl

@[simp] theorem outside_tsRecord {pt : Parts} (f : Frame) (d : DT) (o : Octets) (s : State) (h_occs : pt.occs =
    true) (h_outbox : pt.outbox = true) (h_ports : pt.ports = true) (h_fw : pt.fw = true) (h_hb : pt.hb = true)
    (h_latch : pt.latch = true) :
    (tsRecord f d o s).outside pt = s.outside pt := by
  unfold tsRecord
  repeat' first
    | simp only [outside_modFwCnt, outside_sendToPort, outside_ite, outside_forEach, outside_foldl, ite_self,
        implies_true, *]
    | split
    | rfl

@[simp] theorem outside_goodFrame {pt : Parts} (f : Frame) (s : State) (h_isl : pt.isl = true) (h_occs : pt.occs =
    true) (h_outbox : pt.outbox = true) (h_pacer : pt.pacer = true) (h_crank : pt.crank = true) (h_noon : pt.noon =
    true) (h_ports : pt.ports = true) (h_fw : pt.fw = true) (h_hb : pt.hb = true) (h_latch : pt.latch = true) :
    (goodFrame f s).outside pt = s.outside pt := by
  unfold goodFrame
  repeat' first
    | simp only [outside_hostCopy, outside_chainPdu, outside_modFwCnt, outside_tsRecord, outside_dropFrame,
        outside_ite, outside_forEach, outside_foldl, ite_self, implies_true, *]
    | split
    | rfl

@[simp] theorem outside_ringEvent {pt : Parts} (cause : Nat) (detail : Nat) (s : State) (h_occs : pt.occs = true)
    (h_latch : pt.latch = true) :
    (ringEvent cause detail s).outside pt = s.outside pt := by
  unfold ringEvent
  repeat' first
    | simp only [outside_raiseNow, outside_ite, outside_forEach, outside_foldl, ite_self, implies_true, *]
    | split
    | rfl

@[simp] theorem outside_ringPresent {pt : Parts} (r : RingDir) (s : State) (h_occs : pt.occs = true) (h_stoker :
    pt.stoker = true) (h_latch : pt.latch = true) :
    (ringPresent r s).outside pt = s.outside pt := by
  unfold ringPresent
  repeat' first
    | simp only [outside_ringEvent, outside_State_modStoker, outside_ite, outside_forEach, outside_foldl, ite_self,
        implies_true, *]
    | split
    | rfl

@[simp] theorem outside_switchRing {pt : Parts} (lost : Bool) (s : State) (h_occs : pt.occs = true) (h_stoker :
    pt.stoker = true) (h_latch : pt.latch = true) :
    (switchRing lost s).outside pt = s.outside pt := by
  unfold switchRing
  repeat' first
    | simp only [outside_ringEvent, outside_State_modStoker, outside_ite, outside_forEach, outside_foldl, ite_self,
        implies_true, *]
    | split
    | rfl

@[simp] theorem outside_notePrefer {pt : Parts} (s : State) (h_occs : pt.occs = true) (h_stoker : pt.stoker = true)
    (h_latch : pt.latch = true) :
    (notePrefer s).outside pt = s.outside pt := by
  unfold notePrefer
  repeat' first
    | simp only [outside_State_modStoker, outside_switchRing, outside_ite, outside_forEach, outside_foldl, ite_self,
        implies_true, *]
    | split
    | rfl

@[simp] theorem outside_noteBeacon {pt : Parts} (r : RingDir) (b : Octets) (s : State) (h_occs : pt.occs = true)
    (h_stoker : pt.stoker = true) (h_latch : pt.latch = true) :
    (noteBeacon r b s).outside pt = s.outside pt := by
  unfold noteBeacon
  repeat' first
    | simp only [outside_ringPresent, outside_State_modStoker, outside_ite, outside_forEach, outside_foldl,
        ite_self, implies_true, *]
    | split
    | rfl

@[simp] theorem outside_hearBeacon {pt : Parts} (r : RingDir) (b : Octets) (s : State) (h_occs : pt.occs = true)
    (h_stoker : pt.stoker = true) (h_latch : pt.latch = true) :
    (hearBeacon r b s).outside pt = s.outside pt := by
  unfold hearBeacon
  repeat' first
    | simp only [outside_ringPresent, outside_State_modStoker, outside_notePrefer, outside_noteBeacon,
        outside_follow, outside_stokerTo, outside_ringEvent, outside_ite, outside_forEach, outside_foldl, ite_self,
        implies_true, *]
    | split
    | rfl

@[simp] theorem outside_hostReset {pt : Parts} (s : State) (h_outbox : pt.outbox = true) (h_posted : pt.posted =
    true) (h_ports : pt.ports = true) (h_hb : pt.hb = true) (h_latch : pt.latch = true) :
    (hostReset s).outside pt = s.outside pt := by
  unfold hostReset
  repeat' first
    | simp only [outside_writeTaken, outside_with_latch_hb, outside_ite, outside_forEach, outside_foldl, ite_self,
        implies_true, *]
    | split
    | rfl

@[simp] theorem outside_shiftHeld {pt : Parts} (n : ℤ) (mv : DT → DT) (s : State) (h_pacer : pt.pacer = true)
    (h_truing : pt.truing = true) (h_hub : pt.hub = true) (h_noon : pt.noon = true) (h_pair : pt.pair = true) (h_hb
    : pt.hb = true) :
    (shiftHeld n mv s).outside pt = s.outside pt := by
  unfold shiftHeld
  repeat' first
    | simp only [outside_with_pacer_truing_hub_noon_pair_hb, outside_ite, outside_forEach, outside_foldl, ite_self,
        implies_true, *]
    | split
    | rfl

@[simp] theorem outside_stepDesc {pt : Parts} (i : SpokeId) (dtAt : DT) (dtTo : DT) (e : QDesc) (s : State) (h_isl :
    pt.isl = true) (h_occs : pt.occs = true) (h_outbox : pt.outbox = true) (h_spokes : pt.spokes = true) (h_truing :
    pt.truing = true) (h_latch : pt.latch = true) :
    (stepDesc i dtAt dtTo e s).outside pt = s.outside pt := by
  unfold stepDesc
  repeat' first
    | simp only [outside_closeWindow, outside_State_modSpoke, outside_releaseRetiring, outside_startGap,
        outside_raise, outside_finishDesc, outside_ite, outside_forEach, outside_foldl, ite_self, implies_true, *]
    | split
    | rfl

@[simp] theorem outside_stepSpoke {pt : Parts} (dtAt : DT) (dtTo : DT) (mv : DT → DT) (i : SpokeId) (s : State)
    (h_isl : pt.isl = true) (h_occs : pt.occs = true) (h_outbox : pt.outbox = true) (h_spokes : pt.spokes = true)
    (h_truing : pt.truing = true) (h_latch : pt.latch = true) :
    (stepSpoke dtAt dtTo mv i s).outside pt = s.outside pt := by
  unfold stepSpoke
  repeat' first
    | simp only [outside_stepDesc, outside_State_modSpoke, outside_ite, outside_forEach, outside_foldl, ite_self,
        implies_true, *]
    | split
    | rfl

@[simp] theorem outside_moveCount {pt : Parts} (q : ℤ) (dtAt : DT) (dtTo : DT) (s : State) (h_dt : pt.dt = true)
    (h_isl : pt.isl = true) (h_occs : pt.occs = true) (h_outbox : pt.outbox = true) (h_spokes : pt.spokes = true)
    (h_pacer : pt.pacer = true) (h_crank : pt.crank = true) (h_truing : pt.truing = true) (h_hub : pt.hub = true)
    (h_noon : pt.noon = true) (h_pair : pt.pair = true) (h_hb : pt.hb = true) (h_latch : pt.latch = true) :
    (moveCount q dtAt dtTo s).outside pt = s.outside pt := by
  unfold moveCount
  repeat' first
    | simp only [outside_shiftHeld, outside_distribute, outside_stepSpoke, outside_clearAxis, outside_with_dt,
        outside_ite, outside_forEach, outside_foldl, ite_self, implies_true, *]
    | split
    | rfl

@[simp] theorem outside_joinStack {pt : Parts} (near : Bool) (b : BeaconRec) (s : State) (h_dt : pt.dt = true)
    (h_isl : pt.isl = true) (h_commit : pt.commit = true) (h_occs : pt.occs = true) (h_outbox : pt.outbox = true)
    (h_spokes : pt.spokes = true) (h_pacer : pt.pacer = true) (h_crank : pt.crank = true) (h_truing : pt.truing =
    true) (h_hub : pt.hub = true) (h_noon : pt.noon = true) (h_stoker : pt.stoker = true) (h_pair : pt.pair = true)
    (h_hb : pt.hb = true) (h_latch : pt.latch = true) :
    (joinStack near b s).outside pt = s.outside pt := by
  unfold joinStack
  repeat' first
    | simp only [outside_addSlew, outside_moveCount, outside_adoptEpoch, outside_overIslands,
        outside_State_modIsland, outside_stokerTo, outside_raiseNow, outside_State_modStoker, outside_with_commit,
        outside_ite, outside_forEach, outside_foldl, ite_self, implies_true, *]
    | split
    | rfl

@[simp] theorem outside_keepOfs {pt : Parts} (i : SpokeId) (net : DT) (own : DT) (s : State) (h_pair : pt.pair =
    true) :
    (keepOfs i net own s).outside pt = s.outside pt := by
  unfold keepOfs
  repeat' first
    | simp only [outside_with_pair, outside_ite, outside_forEach, outside_foldl, ite_self, implies_true, *]
    | split
    | rfl

@[simp] theorem outside_laneDown {pt : Parts} (s : State) (h_occs : pt.occs = true) (h_pair : pt.pair = true)
    (h_latch : pt.latch = true) :
    (laneDown s).outside pt = s.outside pt := by
  unfold laneDown
  repeat' first
    | simp only [outside_raiseNow, outside_State_modPair, outside_ite, outside_forEach, outside_foldl, ite_self,
        implies_true, *]
    | split
    | rfl

@[simp] theorem outside_laneUp {pt : Parts} (s : State) (h_occs : pt.occs = true) (h_pair : pt.pair = true) (h_latch
    : pt.latch = true) :
    (laneUp s).outside pt = s.outside pt := by
  unfold laneUp
  repeat' first
    | simp only [outside_raiseNow, outside_State_modPair, outside_ite, outside_forEach, outside_foldl, ite_self,
        implies_true, *]
    | split
    | rfl

@[simp] theorem outside_latch {pt : Parts} (v : EngineId) (s : State) (h_occs : pt.occs = true) (h_engines :
    pt.engines = true) (h_latch : pt.latch = true) :
    (latch v s).outside pt = s.outside pt := by
  unfold latch
  repeat' first
    | simp only [outside_State_modEngine, outside_syncFills, outside_fixSeg, outside_State_setEngine,
        outside_fixIdle, outside_ite, outside_forEach, outside_foldl, ite_self, implies_true, *]
    | split
    | rfl

@[simp] theorem outside_latchSnap {pt : Parts} (d : DT) (periodic : Bool) (s : State) (h_snap : pt.snap = true)
    (h_occs : pt.occs = true) (h_latch : pt.latch = true) :
    (latchSnap d periodic s).outside pt = s.outside pt := by
  unfold latchSnap
  repeat' first
    | simp only [outside_completeSnap, outside_State_modSnap, outside_ite, outside_forEach, outside_foldl, ite_self,
        implies_true, *]
    | split
    | rfl

@[simp] theorem outside_latchStep {pt : Parts} (v : EngineId) (s : State) (h_occs : pt.occs = true) (h_engines :
    pt.engines = true) (h_latch : pt.latch = true) :
    (latchStep v s).outside pt = s.outside pt := by
  unfold latchStep
  repeat' first
    | simp only [outside_latch, outside_ite, outside_forEach, outside_foldl, ite_self, implies_true, *]
    | split
    | rfl

@[simp] theorem outside_latchUpper {pt : Parts} (bus : BusPort) (k : Nat) (s : State) (h_hb : pt.hb = true) :
    (latchUpper bus k s).outside pt = s.outside pt := by
  unfold latchUpper
  repeat' first
    | simp only [outside_with_hb, outside_ite, outside_forEach, outside_foldl, ite_self, implies_true, *]
    | split
    | rfl

@[simp] theorem outside_lateAt {pt : Parts} (v : MailVia) (d : DT) (s : State) (h_occs : pt.occs = true) (h_latch :
    pt.latch = true) :
    (lateAt v d s).outside pt = s.outside pt := by
  unfold lateAt
  repeat' first
    | simp only [outside_raise, outside_ite, outside_forEach, outside_foldl, ite_self, implies_true, *]
    | split
    | rfl

@[simp] theorem outside_lineGained {pt : Parts} (c : PortId) (s : State) (h_ports : pt.ports = true) :
    (lineGained c s).outside pt = s.outside pt := by
  unfold lineGained
  repeat' first
    | simp only [outside_State_setPort, outside_ite, outside_forEach, outside_foldl, ite_self, implies_true, *]
    | split
    | rfl

@[simp] theorem outside_lineLost {pt : Parts} (c : PortId) (s : State) (h_isl : pt.isl = true) (h_occs : pt.occs =
    true) (h_ports : pt.ports = true) (h_fw : pt.fw = true) (h_latch : pt.latch = true) :
    (lineLost c s).outside pt = s.outside pt := by
  unfold lineLost
  repeat' first
    | simp only [outside_cutIngress, outside_State_modPort, outside_toListen, outside_ite, outside_forEach,
        outside_foldl, ite_self, implies_true, *]
    | split
    | rfl

@[simp] theorem outside_sayDefaults {pt : Parts} (secs : List (Nat × List Octets)) (s : State) (h_occs : pt.occs =
    true) (h_latch : pt.latch = true) :
    (sayDefaults secs s).outside pt = s.outside pt := by
  unfold sayDefaults
  repeat' first
    | simp only [outside_raise, outside_ite, outside_forEach, outside_foldl, ite_self, implies_true, *]
    | split
    | rfl

@[simp] theorem outside_loadImage {pt : Parts} (s : State) (h_shadow : pt.shadow = true) (h_isl : pt.isl = true)
    (h_occs : pt.occs = true) (h_ports : pt.ports = true) (h_fw : pt.fw = true) (h_pair : pt.pair = true) (h_hb :
    pt.hb = true) (h_dyn : pt.dyn = true) (h_latch : pt.latch = true) :
    (loadImage s).outside pt = s.outside pt := by
  unfold loadImage
  repeat' first
    | simp only [outside_sayDefaults, outside_applySection, outside_with_hb, outside_with_pair, outside_ite,
        outside_forEach, outside_foldl, ite_self, implies_true, *]
    | split
    | rfl

@[simp] theorem outside_loadTrims {pt : Parts} (s : State) (h_occs : pt.occs = true) (h_truing : pt.truing = true)
    (h_latch : pt.latch = true) :
    (loadTrims s).outside pt = s.outside pt := by
  unfold loadTrims
  repeat' first
    | simp only [outside_raise, outside_State_modItem, outside_settleAll, outside_with_truing, outside_ite,
        outside_forEach, outside_foldl, ite_self, implies_true, *]
    | split
    | rfl
    | intro _
    | refine (outside_foldl _ (fun _ _ => ?_) _ _).trans ?_
    | refine (outside_forEach _ _ (fun _ _ => ?_) _).trans ?_

@[simp] theorem outside_loseLock {pt : Parts} (s : State) (h_isl : pt.isl = true) (h_occs : pt.occs = true)
    (h_spokes : pt.spokes = true) (h_engines : pt.engines = true) (h_truing : pt.truing = true) (h_hub : pt.hub =
    true) (h_ports : pt.ports = true) (h_fw : pt.fw = true) (h_pair : pt.pair = true) (h_latch : pt.latch = true) :
    (loseLock s).outside pt = s.outside pt := by
  unfold loseLock
  repeat' first
    | simp only [outside_closeGates, outside_beginLock, outside_raiseAs, outside_with_hub, outside_ite,
        outside_forEach, outside_foldl, ite_self, implies_true, *]
    | split
    | rfl

@[simp] theorem outside_loseRing {pt : Parts} (r : RingDir) (s : State) (h_occs : pt.occs = true) (h_stoker :
    pt.stoker = true) (h_latch : pt.latch = true) :
    (loseRing r s).outside pt = s.outside pt := by
  unfold loseRing
  repeat' first
    | simp only [outside_ringEvent, outside_State_modStoker, outside_stokerTo, outside_switchRing,
        outside_notePrefer, outside_ite, outside_forEach, outside_foldl, ite_self, implies_true, *]
    | split
    | rfl

@[simp] theorem outside_noteBeat {pt : Parts} (b : Octets) (s : State) (h_occs : pt.occs = true) (h_spokes :
    pt.spokes = true) (h_pair : pt.pair = true) (h_latch : pt.latch = true) :
    (noteBeat b s).outside pt = s.outside pt := by
  unfold noteBeat
  repeat' first
    | simp only [outside_State_modPair, outside_State_modSpoke, outside_raiseNow, outside_ite, outside_forEach,
        outside_foldl, ite_self, implies_true, *]
    | split
    | rfl

@[simp] theorem outside_noteOwn {pt : Parts} (i : SpokeId) (own : DT) (rising : Bool) (s : State) (h_spokes :
    pt.spokes = true) (h_pair : pt.pair = true) :
    (noteOwn i own rising s).outside pt = s.outside pt := by
  unfold noteOwn
  repeat' first
    | simp only [outside_keepOfs, outside_State_modSpoke, outside_ite, outside_forEach, outside_foldl, ite_self,
        implies_true, *]
    | split
    | rfl

@[simp] theorem outside_noteDrive {pt : Parts} (i : SpokeId) (sp : Spoke) (lvl : Drv) (own : DT) (s : State)
    (h_spokes : pt.spokes = true) (h_pair : pt.pair = true) :
    (noteDrive i sp lvl own s).outside pt = s.outside pt := by
  unfold noteDrive
  repeat' first
    | simp only [outside_noteOwn, outside_ite, outside_forEach, outside_foldl, ite_self, implies_true, *]
    | split
    | rfl

@[simp] theorem outside_noteMeas {pt : Parts} (m : Meas) (s : State) (h_noon : pt.noon = true) :
    (noteMeas m s).outside pt = s.outside pt := by
  unfold noteMeas
  repeat' first
    | simp only [outside_State_modCand, outside_ite, outside_forEach, outside_foldl, ite_self, implies_true, *]
    | split
    | rfl

@[simp] theorem outside_noteNet {pt : Parts} (i : SpokeId) (net : DT) (rising : Bool) (s : State) (h_spokes :
    pt.spokes = true) (h_pair : pt.pair = true) :
    (noteNet i net rising s).outside pt = s.outside pt := by
  unfold noteNet
  repeat' first
    | simp only [outside_keepOfs, outside_State_modSpoke, outside_ite, outside_forEach, outside_foldl, ite_self,
        implies_true, *]
    | split
    | rfl

@[simp] theorem outside_onBit {pt : Parts} (v : Word) (k : Nat) (f : State → Out) (s : State) (h_f : ∀ y0, (after f
    y0).outside pt = y0.outside pt) :
    (onBit v k f s).outside pt = s.outside pt := by
  unfold onBit
  repeat' first
    | simp only [outside_ite, outside_forEach, outside_foldl, ite_self, implies_true, *]
    | split
    | rfl

@[simp] theorem outside_otherSide {pt : Parts} (b : Octets) (s : State) (h_occs : pt.occs = true) (h_stoker :
    pt.stoker = true) (h_pair : pt.pair = true) (h_latch : pt.latch = true) :
    (otherSide b s).outside pt = s.outside pt := by
  unfold otherSide
  repeat' first
    | simp only [outside_State_modStoker, outside_raiseNow, outside_with_pair, outside_ite, outside_forEach,
        outside_foldl, ite_self, implies_true, *]
    | split
    | rfl

@[simp] theorem outside_ownBeacon {pt : Parts} (r : RingDir) (b : Octets) (s : State) (h_occs : pt.occs = true)
    (h_stoker : pt.stoker = true) (h_latch : pt.latch = true) :
    (ownBeacon r b s).outside pt = s.outside pt := by
  unfold ownBeacon
  repeat' first
    | simp only [outside_enterSeek, outside_noteBeacon, outside_follow, outside_State_modStoker, outside_raiseNow,
        outside_ite, outside_forEach, outside_foldl, ite_self, implies_true, *]
    | split
    | rfl

@[simp] theorem outside_payOverrun {pt : Parts} (ch : Nat) (s : State) (h_occs : pt.occs = true) (h_latch : pt.latch
    = true) :
    (payOverrun ch s).outside pt = s.outside pt := by
  unfold payOverrun
  repeat' first
    | simp only [outside_raise, outside_with_evOwed, outside_ite, outside_forEach, outside_foldl, ite_self,
        implies_true, *]
    | split
    | rfl

@[simp] theorem outside_skipOffset {pt : Parts} (v : EngineId) (t : DT) (s : State) (h_occs : pt.occs = true)
    (h_engines : pt.engines = true) (h_latch : pt.latch = true) :
    (skipOffset v t s).outside pt = s.outside pt := by
  unfold skipOffset
  repeat' first
    | simp only [outside_State_setEngine, outside_raise, outside_ite, outside_forEach, outside_foldl, ite_self,
        implies_true, *]
    | split
    | rfl

@[simp] theorem outside_playDrive {pt : Parts} (v : EngineId) (t : DT) (i : SpokeId) (st : Nat) (edge : Nat) (s :
    State) (h_occs : pt.occs = true) (h_spokes : pt.spokes = true) (h_engines : pt.engines = true) (h_truing :
    pt.truing = true) (h_latch : pt.latch = true) :
    (playDrive v t i st edge s).outside pt = s.outside pt := by
  unfold playDrive
  repeat' first
    | simp only [outside_skipOffset, outside_State_modEngine, outside_truingWork, outside_ite, outside_forEach,
        outside_foldl, ite_self, implies_true, *]
    | split
    | rfl

@[simp] theorem outside_playStrobe {pt : Parts} (v : EngineId) (t : DT) (i : SpokeId) (st : Nat) (edge : Nat)
    (strobe : Nat) (s : State) (h_occs : pt.occs = true) (h_spokes : pt.spokes = true) (h_engines : pt.engines =
    true) (h_truing : pt.truing = true) (h_latch : pt.latch = true) :
    (playStrobe v t i st edge strobe s).outside pt = s.outside pt := by
  unfold playStrobe
  repeat' first
    | simp only [outside_skipOffset, outside_State_modEngine, outside_truingWork, outside_ite, outside_forEach,
        outside_foldl, ite_self, implies_true, *]
    | split
    | rfl

@[simp] theorem outside_playSlot {pt : Parts} (v : EngineId) (t : DT) (vec : Nat) (i : SpokeId) (s : State) (h_occs
    : pt.occs = true) (h_spokes : pt.spokes = true) (h_engines : pt.engines = true) (h_truing : pt.truing = true)
    (h_latch : pt.latch = true) :
    (playSlot v t vec i s).outside pt = s.outside pt := by
  unfold playSlot
  repeat' first
    | simp only [outside_playStrobe, outside_playDrive, outside_ite, outside_forEach, outside_foldl, ite_self,
        implies_true, *]
    | split
    | rfl

@[simp] theorem outside_popChannel {pt : Parts} (i : IslandId) (s : State) (h_isl : pt.isl = true) :
    (popChannel i s).outside pt = s.outside pt := by
  unfold popChannel
  repeat' first
    | simp only [outside_State_modIsland, outside_ite, outside_forEach, outside_foldl, ite_self, implies_true, *]
    | split
    | rfl

@[simp] theorem outside_powerOff {pt : Parts} (s : State) (h_dt : pt.dt = true) (h_dtRuns : pt.dtRuns = true)
    (h_phase : pt.phase = true) (h_shadow : pt.shadow = true) (h_imm : pt.imm = true) (h_isl : pt.isl = true)
    (h_commit : pt.commit = true) (h_snap : pt.snap = true) (h_occs : pt.occs = true) (h_outbox : pt.outbox = true)
    (h_posted : pt.posted = true) (h_mem : pt.mem = true) (h_spokes : pt.spokes = true) (h_pacer : pt.pacer = true)
    (h_engines : pt.engines = true) (h_crank : pt.crank = true) (h_truing : pt.truing = true) (h_hub : pt.hub =
    true) (h_noon : pt.noon = true) (h_ports : pt.ports = true) (h_fw : pt.fw = true) (h_stoker : pt.stoker = true)
    (h_pair : pt.pair = true) (h_hb : pt.hb = true) (h_dyn : pt.dyn = true) :
    (powerOff s).outside pt = s.outside pt := by
  simp [powerOff, State.outside, *]

@[simp] theorem outside_putReg {pt : Parts} (k : Nat) (v : Word) (s : State) (h_shadow : pt.shadow = true) (h_imm :
    pt.imm = true) :
    (putReg k v s).outside pt = s.outside pt := by
  unfold putReg
  repeat' first
    | simp only [outside_with_imm, outside_with_shadow, outside_ite, outside_forEach, outside_foldl, ite_self,
        implies_true, *]
    | split
    | rfl

@[simp] theorem outside_railDown {pt : Parts} (s : State) (h_dt : pt.dt = true) (h_dtRuns : pt.dtRuns = true)
    (h_phase : pt.phase = true) (h_shadow : pt.shadow = true) (h_imm : pt.imm = true) (h_isl : pt.isl = true)
    (h_commit : pt.commit = true) (h_snap : pt.snap = true) (h_occs : pt.occs = true) (h_outbox : pt.outbox = true)
    (h_posted : pt.posted = true) (h_mem : pt.mem = true) (h_flash : pt.flash = true) (h_spokes : pt.spokes = true)
    (h_pacer : pt.pacer = true) (h_engines : pt.engines = true) (h_crank : pt.crank = true) (h_truing : pt.truing =
    true) (h_hub : pt.hub = true) (h_noon : pt.noon = true) (h_ports : pt.ports = true) (h_fw : pt.fw = true)
    (h_stoker : pt.stoker = true) (h_pair : pt.pair = true) (h_hb : pt.hb = true) (h_dyn : pt.dyn = true) :
    (railDown s).outside pt = s.outside pt := by
  unfold railDown
  simp only [outside_ite, outside_State_modDyn, outside_powerOff, outside_cutErase, *]
  split
  · rfl
  · split
    · exact (outside_with_hb (cutErase s) { s.hb with flashJob := none } (by assumption) (by
        unfold cutErase; split <;> rfl)).trans (by simp only [outside_cutErase, *])
    · rfl

@[simp] theorem outside_rateStep {pt : Parts} (v : EngineId) (s : State) (h_occs : pt.occs = true) (h_engines :
    pt.engines = true) (h_latch : pt.latch = true) :
    (rateStep v s).outside pt = s.outside pt := by
  unfold rateStep
  repeat' first
    | simp only [outside_State_modEngine, outside_dropMsg, outside_sayRate, outside_raise, outside_ite,
        outside_forEach, outside_foldl, ite_self, implies_true, *]
    | split
    | rfl

@[simp] theorem outside_refuseState {pt : Parts} (p0 : ThreadId) (a : CtlAct) (s : State) (h_occs : pt.occs = true)
    (h_pacer : pt.pacer = true) (h_latch : pt.latch = true) :
    (refuseState p0 a s).outside pt = s.outside pt := by
  unfold refuseState
  repeat' first
    | simp only [outside_State_modThread, outside_raise, outside_ite, outside_forEach, outside_foldl, ite_self,
        implies_true, *]
    | split
    | rfl

@[simp] theorem outside_rejectHist {pt : Parts} (it : ItemId) (cause : Nat) (s : State) (h_occs : pt.occs = true)
    (h_truing : pt.truing = true) (h_latch : pt.latch = true) :
    (rejectHist it cause s).outside pt = s.outside pt := by
  unfold rejectHist
  repeat' first
    | simp only [outside_State_modItem, outside_raise, outside_ite, outside_forEach, outside_foldl, ite_self,
        implies_true, *]
    | split
    | rfl

@[simp] theorem outside_releaseEvent {pt : Parts} (p0 : ThreadId) (e : EventId) (dst : Option (Fin 8 × Fin 8)) (s :
    State) (h_pacer : pt.pacer = true) :
    (releaseEvent p0 e dst s).outside pt = s.outside pt := by
  unfold releaseEvent
  repeat' first
    | simp only [outside_complete, outside_ite, outside_forEach, outside_foldl, ite_self, implies_true, *]
    | split
    | rfl

@[simp] theorem outside_releaseReset {pt : Parts} (s : State) (h_dt : pt.dt = true) (h_dtRuns : pt.dtRuns = true)
    (h_phase : pt.phase = true) (h_shadow : pt.shadow = true) (h_imm : pt.imm = true) (h_isl : pt.isl = true)
    (h_commit : pt.commit = true) (h_snap : pt.snap = true) (h_occs : pt.occs = true) (h_outbox : pt.outbox = true)
    (h_posted : pt.posted = true) (h_mem : pt.mem = true) (h_spokes : pt.spokes = true) (h_pacer : pt.pacer = true)
    (h_engines : pt.engines = true) (h_crank : pt.crank = true) (h_truing : pt.truing = true) (h_hub : pt.hub =
    true) (h_noon : pt.noon = true) (h_ports : pt.ports = true) (h_fw : pt.fw = true) (h_stoker : pt.stoker = true)
    (h_pair : pt.pair = true) (h_hb : pt.hb = true) (h_dyn : pt.dyn = true) (h_latch : pt.latch = true) :
    (releaseReset s).outside pt = s.outside pt := by
  unfold releaseReset
  repeat' first
    | simp only [outside_State_modStoker, outside_powerOff, outside_loadTrims, outside_loadImage, outside_raise,
        outside_State_modDyn, outside_ite, outside_forEach, outside_foldl, ite_self, implies_true, *]
    | split
    | rfl

@[simp] theorem outside_remember {pt : Parts} (b : Octets) (s : State) (h_stoker : pt.stoker = true) :
    (remember b s).outside pt = s.outside pt := by
  unfold remember
  repeat' first
    | simp only [outside_with_stoker, outside_ite, outside_forEach, outside_foldl, ite_self, implies_true, *]
    | split
    | rfl

@[simp] theorem outside_reportDone {pt : Parts} (s : State) (h_commit : pt.commit = true) (h_occs : pt.occs = true)
    (h_latch : pt.latch = true) :
    (reportDone s).outside pt = s.outside pt := by
  unfold reportDone
  repeat' first
    | simp only [outside_raise, outside_setStatus, outside_with_commit, outside_ite, outside_forEach, outside_foldl,
        ite_self, implies_true, *]
    | split
    | rfl

@[simp] theorem outside_limitW {pt : Parts} (w : Int) (s : State) (h_occs : pt.occs = true) (h_latch : pt.latch = true) :
    (limitW w s).2.outside pt = s.outside pt := by
  simp only [limitW, outside_raiseNow, outside_ite, ite_self, *]

@[simp] theorem outside_requestW {pt : Parts} (w : ℤ) (s : State) (h_occs : pt.occs = true) (h_hub : pt.hub = true)
    (h_latch : pt.latch = true) :
    (requestW w s).outside pt = s.outside pt := by
  simp only [requestW, outside_with_hub, outside_limitW, *]

@[simp] theorem outside_swapCopies {pt : Parts} (i : IslandId) (s : State) (h_isl : pt.isl = true) :
    (swapCopies i s).outside pt = s.outside pt := by
  unfold swapCopies
  repeat' first
    | simp only [outside_State_modIsland, outside_ite, outside_forEach, outside_foldl, ite_self, implies_true, *]
    | split
    | rfl

@[simp] theorem outside_swapSpoke {pt : Parts} (i : SpokeId) (old : RegMap) (s : State) (h_isl : pt.isl = true)
    (h_occs : pt.occs = true) (h_spokes : pt.spokes = true) (h_engines : pt.engines = true) (h_truing : pt.truing =
    true) (h_latch : pt.latch = true) :
    (swapSpoke i old s).outside pt = s.outside pt := by
  unfold swapSpoke
  repeat' first
    | simp only [outside_State_setSpoke, outside_raise, outside_State_modEngine, outside_endTrains,
        outside_startGap, outside_truingWork, outside_ite, outside_forEach, outside_foldl, ite_self, implies_true,
        *]
    | split
    | rfl

@[simp] theorem outside_swapPort {pt : Parts} (c : PortId) (old : RegMap) (before : OfferRec) (s : State) (h_occs :
    pt.occs = true) (h_ports : pt.ports = true) (h_latch : pt.latch = true) :
    (swapPort c old before s).outside pt = s.outside pt := by
  unfold swapPort
  repeat' first
    | simp only [outside_State_modPort, outside_toNegotiate, outside_newOfferId, outside_ite, outside_forEach,
        outside_foldl, ite_self, implies_true, *]
    | split
    | rfl

@[simp] theorem outside_swapBank {pt : Parts} (s : State) (h_pacer : pt.pacer = true) :
    (swapBank s).outside pt = s.outside pt := by
  unfold swapBank
  repeat' first
    | simp only [outside_State_modThread, outside_with_pacer, outside_ite, outside_forEach, outside_foldl, ite_self,
        implies_true, *]
    | split
    | rfl

@[simp] theorem outside_swapPacer {pt : Parts} (s : State) (h_pacer : pt.pacer = true) :
    (swapPacer s).outside pt = s.outside pt := by
  unfold swapPacer
  repeat' first
    | simp only [outside_swapBank, outside_with_pacer, outside_ite, outside_forEach, outside_foldl, ite_self,
        implies_true, *]
    | split
    | rfl

@[simp] theorem outside_swapEngine {pt : Parts} (v : EngineId) (old : RegMap) (s : State) (h_isl : pt.isl = true)
    (h_occs : pt.occs = true) (h_engines : pt.engines = true) (h_latch : pt.latch = true) :
    (swapEngine v old s).outside pt = s.outside pt := by
  unfold swapEngine
  repeat' first
    | simp only [outside_State_setIsland, outside_State_modEngine, outside_raise, outside_ite, outside_forEach,
        outside_foldl, ite_self, implies_true, *]
    | split
    | rfl

@[simp] theorem outside_swapCrank {pt : Parts} (old : RegMap) (dtEff : DT) (s : State) (h_crank : pt.crank = true) :
    (swapCrank old dtEff s).outside pt = s.outside pt := by
  unfold swapCrank
  repeat' first
    | simp only [outside_with_crank, outside_ite, outside_forEach, outside_foldl, ite_self, implies_true, *]
    | split
    | rfl

@[simp] theorem outside_swapNoon {pt : Parts} (old : RegMap) (s : State) (h_noon : pt.noon = true) :
    (swapNoon old s).outside pt = s.outside pt := by
  unfold swapNoon
  repeat' first
    | simp only [outside_with_noon, outside_ite, outside_forEach, outside_foldl, ite_self, implies_true, *]
    | split
    | rfl

@[simp] theorem outside_setW {pt : Parts} (w : ℤ) (s : State) (h_hub : pt.hub = true) (h_noon : pt.noon = true) :
    (setW w s).outside pt = s.outside pt := by
  unfold setW
  repeat' first
    | simp only [outside_with_hub_noon, outside_ite, outside_forEach, outside_foldl, ite_self, implies_true, *]
    | split
    | rfl

@[simp] theorem outside_swapHub {pt : Parts} (old : RegMap) (s : State) (h_isl : pt.isl = true) (h_occs : pt.occs =
    true) (h_spokes : pt.spokes = true) (h_engines : pt.engines = true) (h_truing : pt.truing = true) (h_hub :
    pt.hub = true) (h_noon : pt.noon = true) (h_ports : pt.ports = true) (h_fw : pt.fw = true) (h_pair : pt.pair =
    true) (h_latch : pt.latch = true) :
    (swapHub old s).outside pt = s.outside pt := by
  unfold swapHub
  repeat' first
    | simp only [outside_limitW, outside_relock, outside_switchRef, outside_setW, outside_with_hub, outside_ite,
        outside_forEach, outside_foldl, ite_self, implies_true, *]
    | split
    | rfl

@[simp] theorem outside_setHostBlock {pt : Parts} (c : PortId) (up : Bool) (s : State) (h_isl : pt.isl = true)
    (h_occs : pt.occs = true) (h_ports : pt.ports = true) (h_fw : pt.fw = true) (h_latch : pt.latch = true) :
    (setHostBlock c up s).outside pt = s.outside pt := by
  unfold setHostBlock
  repeat' first
    | simp only [outside_raiseNow, outside_cutIngress, outside_with_fw, outside_ite, outside_forEach, outside_foldl,
        ite_self, implies_true, *]
    | split
    | rfl

@[simp] theorem outside_swapFreewheel {pt : Parts} (old : RegMap) (s : State) (h_isl : pt.isl = true) (h_occs :
    pt.occs = true) (h_ports : pt.ports = true) (h_fw : pt.fw = true) (h_latch : pt.latch = true) :
    (swapFreewheel old s).outside pt = s.outside pt := by
  unfold swapFreewheel
  repeat' first
    | simp only [outside_State_setIsland, outside_raise, outside_setHostBlock, outside_with_fw, outside_ite,
        outside_forEach, outside_foldl, ite_self, implies_true, *]
    | split
    | rfl

@[simp] theorem outside_swapStoker {pt : Parts} (old : RegMap) (s : State) (h_occs : pt.occs = true) (h_stoker :
    pt.stoker = true) (h_latch : pt.latch = true) :
    (swapStoker old s).outside pt = s.outside pt := by
  unfold swapStoker
  repeat' first
    | simp only [outside_enterSeek, outside_stokerTo, outside_ite, outside_forEach, outside_foldl, ite_self,
        implies_true, *]
    | split
    | rfl

@[simp] theorem outside_swapPair {pt : Parts} (old : RegMap) (dtEff : DT) (s : State) (h_occs : pt.occs = true)
    (h_pair : pt.pair = true) (h_latch : pt.latch = true) :
    (swapPair old dtEff s).outside pt = s.outside pt := by
  unfold swapPair
  repeat' first
    | simp only [outside_settleToken, outside_with_pair, outside_ite, outside_forEach, outside_foldl, ite_self,
        implies_true, *]
    | split
    | rfl

@[simp] theorem outside_stopBurst {pt : Parts} (i : SpokeId) (s : State) (h_truing : pt.truing = true) :
    (stopBurst i s).outside pt = s.outside pt := by
  unfold stopBurst
  repeat' first
    | simp only [outside_State_modReq, outside_stopHits, outside_ite, outside_forEach, outside_foldl, ite_self,
        implies_true, *]
    | split
    | rfl

@[simp] theorem outside_swapTruing {pt : Parts} (s : State) (h_truing : pt.truing = true) :
    (swapTruing s).outside pt = s.outside pt := by
  unfold swapTruing
  repeat' first
    | simp only [outside_stopBurst, outside_connectPi, outside_stopHits, outside_ite, outside_forEach,
        outside_foldl, ite_self, implies_true, *]
    | split
    | rfl

@[simp] theorem outside_swapIsland {pt : Parts} (dtEff : DT) (i : IslandId) (s : State) (h_isl : pt.isl = true)
    (h_occs : pt.occs = true) (h_spokes : pt.spokes = true) (h_pacer : pt.pacer = true) (h_engines : pt.engines =
    true) (h_crank : pt.crank = true) (h_truing : pt.truing = true) (h_hub : pt.hub = true) (h_noon : pt.noon =
    true) (h_ports : pt.ports = true) (h_fw : pt.fw = true) (h_stoker : pt.stoker = true) (h_pair : pt.pair = true)
    (h_latch : pt.latch = true) :
    (swapIsland dtEff i s).outside pt = s.outside pt := by
  have hc : (swapCopies i (if 0x49 ≤ i.val && i.val ≤ 0x4C then syncFills s else s)).outside pt = s.outside pt := by
    simp only [outside_swapCopies, outside_syncFills, outside_ite, ite_self, *]
  unfold swapIsland
  by_cases h0 : (s.island i).pending.isNone
  · rw [if_pos h0]
  rw [if_neg h0]
  generalize swapCopies i (if 0x49 ≤ i.val && i.val ≤ 0x4C then syncFills s else s) = s1 at hc ⊢
  simp only []
  by_cases h1 : i.val < 0x40
  · rw [dif_pos h1]; simp only [outside_swapSpoke, *]
  rw [dif_neg h1]
  by_cases h2 : i.val < 0x48
  · rw [dif_pos h2]; simp only [outside_swapPort, *]
  rw [dif_neg h2]
  by_cases h3 : i = islPacer
  · rw [if_pos h3]; simp only [outside_swapPacer, *]
  rw [if_neg h3]
  by_cases h4 : 0x49 ≤ i.val ∧ i.val ≤ 0x4C
  · rw [dif_pos h4]; simp only [outside_swapEngine, *]
  rw [dif_neg h4]
  by_cases h5 : i = islCrank
  · rw [if_pos h5]; simp only [outside_swapCrank, *]
  rw [if_neg h5]
  by_cases h6 : i = islNoon
  · rw [if_pos h6]; simp only [outside_swapNoon, *]
  rw [if_neg h6]
  by_cases h7 : i = islHub
  · rw [if_pos h7]; simp only [outside_swapHub, *]
  rw [if_neg h7]
  by_cases h8 : i = islFreewheel
  · rw [if_pos h8]; simp only [outside_swapFreewheel, *]
  rw [if_neg h8]
  by_cases h9 : i = islStoker
  · rw [if_pos h9]; simp only [outside_swapStoker, *]
  rw [if_neg h9]
  by_cases h10 : i = islPair
  · rw [if_pos h10]; simp only [outside_swapPair, *]
  rw [if_neg h10]
  by_cases h11 : i = islTruing
  · rw [if_pos h11]; simp only [outside_swapTruing, *]
  rw [if_neg h11]
  exact hc

@[simp] theorem outside_swapConfirmed {pt : Parts} (dtEff : DT) (i : IslandId) (s : State) (h_isl : pt.isl = true)
    (h_occs : pt.occs = true) (h_spokes : pt.spokes = true) (h_pacer : pt.pacer = true) (h_engines : pt.engines =
    true) (h_crank : pt.crank = true) (h_truing : pt.truing = true) (h_hub : pt.hub = true) (h_noon : pt.noon =
    true) (h_ports : pt.ports = true) (h_fw : pt.fw = true) (h_stoker : pt.stoker = true) (h_pair : pt.pair = true)
    (h_latch : pt.latch = true) :
    (swapConfirmed dtEff i s).outside pt = s.outside pt := by
  unfold swapConfirmed
  repeat' first
    | simp only [outside_swapIsland, outside_State_modIsland, outside_ite, outside_forEach, outside_foldl, ite_self,
        implies_true, *]
    | split
    | rfl

@[simp] theorem outside_ungateCopies {pt : Parts} (i : IslandId) (s : State) (h_isl : pt.isl = true) (h_occs :
    pt.occs = true) (h_spokes : pt.spokes = true) (h_pacer : pt.pacer = true) (h_engines : pt.engines = true)
    (h_crank : pt.crank = true) (h_truing : pt.truing = true) (h_hub : pt.hub = true) (h_noon : pt.noon = true)
    (h_ports : pt.ports = true) (h_fw : pt.fw = true) (h_stoker : pt.stoker = true) (h_pair : pt.pair = true)
    (h_latch : pt.latch = true) :
    (ungateCopies i s).outside pt = s.outside pt := by
  unfold ungateCopies
  repeat' first
    | simp only [outside_State_setIsland, outside_swapConfirmed, outside_ite, outside_forEach, outside_foldl,
        ite_self, implies_true, *]
    | split
    | rfl

@[simp] theorem outside_ungateSpoke {pt : Parts} (i : SpokeId) (s : State) (h_occs : pt.occs = true) (h_spokes :
    pt.spokes = true) (h_pacer : pt.pacer = true) (h_latch : pt.latch = true) :
    (ungateSpoke i s).outside pt = s.outside pt := by
  unfold ungateSpoke
  repeat' first
    | simp only [outside_drainHost, outside_drainCancels, outside_sayLost, outside_State_setSpoke, outside_ite,
        outside_forEach, outside_foldl, ite_self, implies_true, *]
    | split
    | rfl

@[simp] theorem outside_ungateFreewheel {pt : Parts} (s : State) (h_isl : pt.isl = true) (h_occs : pt.occs = true)
    (h_fw : pt.fw = true) (h_latch : pt.latch = true) :
    (ungateFreewheel s).outside pt = s.outside pt := by
  unfold ungateFreewheel
  repeat' first
    | simp only [outside_raise, outside_discardFrame, outside_with_fw, outside_ite, outside_forEach, outside_foldl,
        ite_self, implies_true, *]
    | split
    | rfl

@[simp] theorem outside_ungateAxis {pt : Parts} (a : AxisId) (s : State) (h_occs : pt.occs = true) (h_crank :
    pt.crank = true) (h_latch : pt.latch = true) :
    (ungateAxis a s).outside pt = s.outside pt := by
  unfold ungateAxis
  repeat' first
    | simp only [outside_raiseAxis, outside_State_setAxis, outside_ite, outside_forEach, outside_foldl, ite_self,
        implies_true, *]
    | split
    | rfl

@[simp] theorem outside_ungateEngine {pt : Parts} (v : EngineId) (s : State) (h_occs : pt.occs = true) (h_pacer :
    pt.pacer = true) (h_engines : pt.engines = true) (h_latch : pt.latch = true) :
    (ungateEngine v s).outside pt = s.outside pt := by
  unfold ungateEngine
  repeat' first
    | simp only [outside_State_setEngine, outside_raise, outside_State_modThread, outside_ite, outside_forEach,
        outside_foldl, ite_self, implies_true, *]
    | split
    | rfl

@[simp] theorem outside_resumeIslands {pt : Parts} (s : State) (h_isl : pt.isl = true) (h_occs : pt.occs = true)
    (h_spokes : pt.spokes = true) (h_pacer : pt.pacer = true) (h_engines : pt.engines = true) (h_crank : pt.crank =
    true) (h_truing : pt.truing = true) (h_hub : pt.hub = true) (h_noon : pt.noon = true) (h_ports : pt.ports =
    true) (h_fw : pt.fw = true) (h_stoker : pt.stoker = true) (h_pair : pt.pair = true) (h_latch : pt.latch = true)
    :
    (resumeIslands s).outside pt = s.outside pt := by
  unfold resumeIslands
  repeat' first
    | simp only [outside_arrive, outside_ungateCopies, outside_ungateSpoke, outside_ungateFreewheel,
        outside_ungateTruing, outside_ungateAxis, outside_ungateEngine, outside_drainActions, outside_ite,
        outside_forEach, outside_foldl, ite_self, implies_true, *]
    | split
    | rfl

@[simp] theorem outside_ringAction {pt : Parts} (p0 : ThreadId) (op : CtlOp) (b : Octets) (s : State) (h_occs :
    pt.occs = true) (h_pacer : pt.pacer = true) (h_latch : pt.latch = true) :
    (ringAction p0 op b s).outside pt = s.outside pt := by
  unfold ringAction
  repeat' first
    | simp only [outside_takeAction, outside_clate, outside_refuseAction, outside_ite, outside_forEach,
        outside_foldl, ite_self, implies_true, *]
    | split
    | rfl

@[simp] theorem outside_suppressEdge {pt : Parts} (i : SpokeId) (t : DT) (s : State) (h_spokes : pt.spokes = true) :
    (suppressEdge i t s).outside pt = s.outside pt := by
  unfold suppressEdge
  repeat' first
    | simp only [outside_State_modSpoke, outside_ite, outside_forEach, outside_foldl, ite_self, implies_true, *]
    | split
    | rfl

@[simp] theorem outside_spokeEdge {pt : Parts} (i : SpokeId) (lvl : Drv) (t : DT) (tx : Nat) (s : State) (h_occs :
    pt.occs = true) (h_spokes : pt.spokes = true) (h_pair : pt.pair = true) (h_latch : pt.latch = true) :
    (spokeEdge i lvl t tx s).outside pt = s.outside pt := by
  unfold spokeEdge
  repeat' first
    | simp only [outside_State_setSpoke, outside_raise, outside_noteDrive, outside_suppressEdge, outside_ite,
        outside_forEach, outside_foldl, ite_self, implies_true, *]
    | split
    | rfl

@[simp] theorem outside_runEdge {pt : Parts} (i : SpokeId) (e : QDesc) (lvl : Drv) (s : State) (h_isl : pt.isl =
    true) (h_occs : pt.occs = true) (h_spokes : pt.spokes = true) (h_truing : pt.truing = true) (h_pair : pt.pair =
    true) (h_latch : pt.latch = true) :
    (runEdge i e lvl s).outside pt = s.outside pt := by
  unfold runEdge
  repeat' first
    | simp only [outside_State_modSpoke, outside_spokeEdge, outside_finishDesc, outside_ite, outside_forEach,
        outside_foldl, ite_self, implies_true, *]
    | split
    | rfl

@[simp] theorem outside_runHist {pt : Parts} (i : SpokeId) (counts : List Nat) (late : Bool) (s : State) (h_truing :
    pt.truing = true) :
    (runHist i counts late s).outside pt = s.outside pt := by
  unfold runHist
  repeat' first
    | simp only [outside_State_setReq, outside_State_modItem, outside_ite, outside_forEach, outside_foldl, ite_self,
        implies_true, *]
    | split
    | rfl

@[simp] theorem outside_sayLate {pt : Parts} (p0 : ThreadId) (ta : DT) (s : State) (h_occs : pt.occs = true)
    (h_pacer : pt.pacer = true) (h_latch : pt.latch = true) :
    (sayLate p0 ta s).outside pt = s.outside pt := by
  unfold sayLate
  repeat' first
    | simp only [outside_raise, outside_State_modThread, outside_ite, outside_forEach, outside_foldl, ite_self,
        implies_true, *]
    | split
    | rfl

@[simp] theorem outside_sayRateLow {pt : Parts} (it : ItemId) (s : State) (h_occs : pt.occs = true) (h_latch :
    pt.latch = true) :
    (sayRateLow it s).outside pt = s.outside pt := by
  unfold sayRateLow
  repeat' first
    | simp only [outside_raise, outside_ite, outside_forEach, outside_foldl, ite_self, implies_true, *]
    | split
    | rfl

@[simp] theorem outside_seamAt {pt : Parts} (a : AxisId) (pa : ℤ × Nat) (g : Segment) (s : State) (h_occs : pt.occs
    = true) (h_crank : pt.crank = true) (h_latch : pt.latch = true) :
    (seamAt a pa g s).outside pt = s.outside pt := by
  unfold seamAt
  repeat' first
    | simp only [outside_raiseAxis, outside_State_modAxis, outside_ite, outside_forEach, outside_foldl, ite_self,
        implies_true, *]
    | split
    | rfl

@[simp] theorem outside_secondSlot {pt : Parts} (p0 : ThreadId) (f : State → State) (s : State) (h_f : ∀ y0, (f
    y0).outside pt = y0.outside pt) :
    (secondSlot p0 f s).outside pt = s.outside pt := by
  unfold secondSlot
  repeat' first
    | simp only [outside_ite, outside_forEach, outside_foldl, ite_self, implies_true, *]
    | split
    | rfl

@[simp] theorem outside_segWr {pt : Parts} (lost : List Nat) (s : State) (h_occs : pt.occs = true) (h_engines :
    pt.engines = true) (h_latch : pt.latch = true) :
    (segWr lost s).outside pt = s.outside pt := by
  unfold segWr
  repeat' first
    | simp only [outside_raise, outside_State_modEngine, outside_ite, outside_forEach, outside_foldl, ite_self,
        implies_true, *]
    | split
    | rfl

@[simp] theorem outside_steerW {pt : Parts} (w : ℤ) (s : State) (h_occs : pt.occs = true) (h_hub : pt.hub = true)
    (h_latch : pt.latch = true) :
    (steerW w s).outside pt = s.outside pt := by
  unfold steerW
  repeat' first
    | simp only [outside_requestW, outside_ite, outside_forEach, outside_foldl, ite_self, implies_true, *]
    | split
    | rfl

@[simp] theorem outside_selectSource {pt : Parts} (k : Fin 16) (s : State) (h_isl : pt.isl = true) (h_occs : pt.occs
    = true) (h_spokes : pt.spokes = true) (h_engines : pt.engines = true) (h_truing : pt.truing = true) (h_hub :
    pt.hub = true) (h_noon : pt.noon = true) (h_ports : pt.ports = true) (h_fw : pt.fw = true) (h_pair : pt.pair =
    true) (h_latch : pt.latch = true) :
    (selectSource k s).outside pt = s.outside pt := by
  unfold selectSource
  repeat' first
    | simp only [outside_raiseNow, outside_noonTo, outside_steerW, outside_followRef, outside_with_noon,
        outside_ite, outside_forEach, outside_foldl, ite_self, implies_true, *]
    | split
    | rfl

@[simp] theorem outside_sendBell {pt : Parts} (c : PortId) (s : State) (h_ports : pt.ports = true) :
    (sendBell c s).outside pt = s.outside pt := by
  unfold sendBell
  repeat' first
    | simp only [outside_sendPdu, outside_State_modPort, outside_ite, outside_forEach, outside_foldl, ite_self,
        implies_true, *]
    | split
    | rfl

@[simp] theorem outside_servo {pt : Parts} (m : Meas) (s : State) (h_occs : pt.occs = true) (h_hub : pt.hub = true)
    (h_noon : pt.noon = true) (h_latch : pt.latch = true) :
    (servo m s).outside pt = s.outside pt := by
  unfold servo
  repeat' first
    | simp only [outside_addSlew, outside_countLock, outside_steerW, outside_with_noon, outside_ite,
        outside_forEach, outside_foldl, ite_self, implies_true, *]
    | split
    | rfl

@[simp] theorem outside_signal {pt : Parts} (v : VecId) (s : State) (h_posted : pt.posted = true) (h_hb : pt.hb =
    true) :
    (signal v s).outside pt = s.outside pt := by
  unfold signal
  repeat' first
    | simp only [outside_State_setVec, outside_sendMsi, outside_ite, outside_forEach, outside_foldl, ite_self,
        implies_true, *]
    | split
    | rfl

@[simp] theorem outside_skipGuard {pt : Parts} (v : EngineId) (t : DT) (s : State) (h_occs : pt.occs = true)
    (h_engines : pt.engines = true) (h_latch : pt.latch = true) :
    (skipGuard v t s).outside pt = s.outside pt := by
  unfold skipGuard
  repeat' first
    | simp only [outside_State_setEngine, outside_raise, outside_ite, outside_forEach, outside_foldl, ite_self,
        implies_true, *]
    | split
    | rfl

@[simp] theorem outside_slotDrive {pt : Parts} (i : SpokeId) (d : Drv) (t : DT) (s : State) (h_occs : pt.occs =
    true) (h_spokes : pt.spokes = true) (h_pair : pt.pair = true) (h_latch : pt.latch = true) :
    (slotDrive i d t s).outside pt = s.outside pt := by
  unfold slotDrive
  repeat' first
    | simp only [outside_State_setSpoke, outside_raise, outside_noteDrive, outside_suppressEdge, outside_ite,
        outside_forEach, outside_foldl, ite_self, implies_true, *]
    | split
    | rfl

@[simp] theorem outside_spiAccess {pt : Parts} (op : BitVec 8) (addr : BitVec 24) (out : Octets) (s : State) (h_hb :
    pt.hb = true) :
    (spiAccess op addr out s).outside pt = s.outside pt := by
  unfold spiAccess
  repeat' first
    | simp only [outside_with_hb, outside_ite, outside_forEach, outside_foldl, ite_self, implies_true, *]
    | split
    | rfl

@[simp] theorem outside_startCount {pt : Parts} (d : DT) (s : State) (h_dt : pt.dt = true) (h_dtRuns : pt.dtRuns =
    true) (h_hub : pt.hub = true) (h_noon : pt.noon = true) (h_dyn : pt.dyn = true) :
    (startCount d s).outside pt = s.outside pt := by
  unfold startCount
  repeat' first
    | simp only [outside_with_dtRuns_dyn, outside_with_dt_hub_noon, outside_ite, outside_forEach, outside_foldl,
        ite_self, implies_true, *]
    | split
    | rfl

@[simp] theorem outside_startWait {pt : Parts} (p0 : ThreadId) (f : State → State) (s : State) (h_f : ∀ y0, (f
    y0).outside pt = y0.outside pt) (h_occs : pt.occs = true) (h_pacer : pt.pacer = true) (h_latch : pt.latch =
    true) :
    (startWait p0 f s).outside pt = s.outside pt := by
  unfold startWait
  repeat' first
    | simp only [outside_fault, outside_ite, outside_forEach, outside_foldl, ite_self, implies_true, *]
    | split
    | rfl

@[simp] theorem outside_tryIssue {pt : Parts} (p0 : ThreadId) (m : Issue) (s : State) (h_occs : pt.occs = true)
    (h_spokes : pt.spokes = true) (h_pacer : pt.pacer = true) (h_engines : pt.engines = true) (h_ports : pt.ports =
    true) (h_stoker : pt.stoker = true) (h_pair : pt.pair = true) (h_latch : pt.latch = true) :
    (tryIssue p0 m s).outside pt = s.outside pt := by
  unfold tryIssue
  repeat' first
    | simp only [outside_complete, outside_State_modThread, outside_enter, outside_sayLate, outside_ite,
        outside_forEach, outside_foldl, ite_self, implies_true, *]
    | split
    | rfl

@[simp] theorem outside_startIssue {pt : Parts} (p0 : ThreadId) (m : Issue) (s : State) (h_occs : pt.occs = true)
    (h_spokes : pt.spokes = true) (h_pacer : pt.pacer = true) (h_engines : pt.engines = true) (h_ports : pt.ports =
    true) (h_stoker : pt.stoker = true) (h_pair : pt.pair = true) (h_latch : pt.latch = true) :
    (startIssue p0 m s).outside pt = s.outside pt := by
  unfold startIssue
  repeat' first
    | simp only [outside_startWait, outside_tryIssue, outside_ite, outside_forEach, outside_foldl, ite_self,
        implies_true, *]
    | split
    | rfl

@[simp] theorem outside_stopStep {pt : Parts} (v : EngineId) (s : State) (h_isl : pt.isl = true) (h_occs : pt.occs =
    true) (h_engines : pt.engines = true) (h_truing : pt.truing = true) (h_latch : pt.latch = true) :
    (stopStep v s).outside pt = s.outside pt := by
  unfold stopStep
  repeat' first
    | simp only [outside_raise, outside_stopEngine, outside_discardRates, outside_dropMsg, outside_sayRate,
        outside_ite, outside_forEach, outside_foldl, ite_self, implies_true, *]
    | split
    | rfl

@[simp] theorem outside_swapIfDue {pt : Parts} (i : IslandId) (s : State) (h_isl : pt.isl = true) (h_occs : pt.occs
    = true) (h_spokes : pt.spokes = true) (h_pacer : pt.pacer = true) (h_engines : pt.engines = true) (h_crank :
    pt.crank = true) (h_truing : pt.truing = true) (h_hub : pt.hub = true) (h_noon : pt.noon = true) (h_ports :
    pt.ports = true) (h_fw : pt.fw = true) (h_stoker : pt.stoker = true) (h_pair : pt.pair = true) (h_latch :
    pt.latch = true) :
    (swapIfDue i s).outside pt = s.outside pt := by
  unfold swapIfDue
  repeat' first
    | simp only [outside_swapConfirmed, outside_ite, outside_forEach, outside_foldl, ite_self, implies_true, *]
    | split
    | rfl

@[simp] theorem outside_takeAbandon {pt : Parts} (cell : Octets) (s : State) (h_isl : pt.isl = true) (h_commit :
    pt.commit = true) (h_occs : pt.occs = true) (h_pacer : pt.pacer = true) (h_hub : pt.hub = true) (h_noon :
    pt.noon = true) (h_stoker : pt.stoker = true) (h_latch : pt.latch = true) :
    (takeAbandon cell s).outside pt = s.outside pt := by
  unfold takeAbandon
  repeat' first
    | simp only [outside_onAbandon, outside_ite, outside_forEach, outside_foldl, ite_self, implies_true, *]
    | split
    | rfl

@[simp] theorem outside_takeAnswer {pt : Parts} (cell : Octets) (s : State) (h_isl : pt.isl = true) (h_commit :
    pt.commit = true) (h_occs : pt.occs = true) (h_pacer : pt.pacer = true) (h_hub : pt.hub = true) (h_noon :
    pt.noon = true) (h_stoker : pt.stoker = true) (h_pair : pt.pair = true) (h_latch : pt.latch = true) :
    (takeAnswer cell s).outside pt = s.outside pt := by
  unfold takeAnswer
  repeat' first
    | simp only [outside_coordAnswer, outside_ite, outside_forEach, outside_foldl, ite_self, implies_true, *]
    | split
    | rfl

@[simp] theorem outside_takeBeacon {pt : Parts} (r : RingDir) (b : Octets) (s : State) (h_occs : pt.occs = true)
    (h_stoker : pt.stoker = true) (h_pair : pt.pair = true) (h_latch : pt.latch = true) :
    (takeBeacon r b s).outside pt = s.outside pt := by
  unfold takeBeacon
  repeat' first
    | simp only [outside_otherSide, outside_ownBeacon, outside_ite, outside_forEach, outside_foldl, ite_self,
        implies_true, *]
    | split
    | rfl

@[simp] theorem outside_takeCellTrigger {pt : Parts} (route : Nat) (wher : Nat) (via : MailVia) (b : Octets) (s :
    State) (h_pacer : pt.pacer = true) :
    (takeCellTrigger route wher via b s).outside pt = s.outside pt := by
  unfold takeCellTrigger
  repeat' first
    | simp only [outside_mailFor, outside_ite, outside_forEach, outside_foldl, ite_self, implies_true, *]
    | split
    | rfl

@[simp] theorem outside_takeConfirm {pt : Parts} (cell : Octets) (s : State) (h_isl : pt.isl = true) (h_commit :
    pt.commit = true) (h_noon : pt.noon = true) (h_stoker : pt.stoker = true) :
    (takeConfirm cell s).outside pt = s.outside pt := by
  unfold takeConfirm
  repeat' first
    | simp only [outside_onConfirm, outside_ite, outside_forEach, outside_foldl, ite_self, implies_true, *]
    | split
    | rfl

@[simp] theorem outside_takeEntry {pt : Parts} (e : OutEntry) (s : State) (h_outbox : pt.outbox = true) (h_spokes :
    pt.spokes = true) (h_hb : pt.hb = true) :
    (takeEntry e s).outside pt = s.outside pt := by
  unfold takeEntry
  repeat' first
    | simp only [outside_State_modSpoke, outside_dropEntry, outside_with_outbox, outside_ite, outside_forEach,
        outside_foldl, ite_self, implies_true, *]
    | split
    | rfl

@[simp] theorem outside_useHop {pt : Parts} (r : RingDir) (x : Exch) (s : State) (h_occs : pt.occs = true) (h_noon :
    pt.noon = true) (h_stoker : pt.stoker = true) (h_latch : pt.latch = true) :
    (useHop r x s).outside pt = s.outside pt := by
  unfold useHop
  repeat' first
    | simp only [outside_badHop, outside_State_modStoker, outside_raiseNow, outside_deliver, outside_ite,
        outside_forEach, outside_foldl, ite_self, implies_true, *]
    | split
    | rfl

@[simp] theorem outside_takeHopstamp {pt : Parts} (r : RingDir) (b : Octets) (s : State) (h_occs : pt.occs = true)
    (h_noon : pt.noon = true) (h_stoker : pt.stoker = true) (h_latch : pt.latch = true) :
    (takeHopstamp r b s).outside pt = s.outside pt := by
  unfold takeHopstamp
  repeat' first
    | simp only [outside_State_modStoker, outside_badHop, outside_useHop, outside_ite, outside_forEach,
        outside_foldl, ite_self, implies_true, *]
    | split
    | rfl

@[simp] theorem outside_takeMail {pt : Parts} (p0 : ThreadId) (td : Fin 8) (ge : Fin 8) (s : State) (h_pacer :
    pt.pacer = true) :
    (takeMail p0 td ge s).outside pt = s.outside pt := by
  unfold takeMail
  repeat' first
    | simp only [outside_complete, outside_ite, outside_forEach, outside_foldl, ite_self, implies_true, *]
    | split
    | rfl

@[simp] theorem outside_takePrepare {pt : Parts} (cell : Octets) (s : State) (h_isl : pt.isl = true) (h_commit :
    pt.commit = true) (h_occs : pt.occs = true) (h_pacer : pt.pacer = true) (h_hub : pt.hub = true) (h_noon :
    pt.noon = true) (h_stoker : pt.stoker = true) (h_pair : pt.pair = true) (h_latch : pt.latch = true) :
    (takePrepare cell s).outside pt = s.outside pt := by
  unfold takePrepare
  repeat' first
    | simp only [outside_onPrepare, outside_ite, outside_forEach, outside_foldl, ite_self, implies_true, *]
    | split
    | rfl

@[simp] theorem outside_takeStart {pt : Parts} (v : EngineId) (seg : BitVec 10) (ta : DT) (s : State) (h_occs :
    pt.occs = true) (h_engines : pt.engines = true) (h_latch : pt.latch = true) :
    (takeStart v seg ta s).outside pt = s.outside pt := by
  unfold takeStart
  repeat' first
    | simp only [outside_raise, outside_State_modEngine, outside_startPlay, outside_ite, outside_forEach,
        outside_foldl, ite_self, implies_true, *]
    | split
    | rfl

@[simp] theorem outside_usePair {pt : Parts} (b : Octets) (x : Exch) (s : State) (h_occs : pt.occs = true) (h_noon :
    pt.noon = true) (h_pair : pt.pair = true) (h_latch : pt.latch = true) :
    (usePair b x s).outside pt = s.outside pt := by
  unfold usePair
  repeat' first
    | simp only [outside_State_modPair, outside_raiseNow, outside_deliver, outside_ite, outside_forEach,
        outside_foldl, ite_self, implies_true, *]
    | split
    | rfl

@[simp] theorem outside_timeBeat {pt : Parts} (b : Octets) (s : State) (h_occs : pt.occs = true) (h_noon : pt.noon =
    true) (h_pair : pt.pair = true) (h_latch : pt.latch = true) :
    (timeBeat b s).outside pt = s.outside pt := by
  unfold timeBeat
  repeat' first
    | simp only [outside_State_modPair, outside_usePair, outside_ite, outside_forEach, outside_foldl, ite_self,
        implies_true, *]
    | split
    | rfl

@[simp] theorem outside_tookEntry {pt : Parts} (q : RingId) (s : State) (h_hb : pt.hb = true) :
    (tookEntry q s).outside pt = s.outside pt := by
  unfold tookEntry
  repeat' first
    | simp only [outside_State_modRing, outside_ite, outside_forEach, outside_foldl, ite_self, implies_true, *]
    | split
    | rfl

@[simp] theorem outside_twoSlots {pt : Parts} (p0 : ThreadId) (f : State → State) (s : State) (h_f : ∀ y0, (f
    y0).outside pt = y0.outside pt) (h_occs : pt.occs = true) (h_pacer : pt.pacer = true) (h_latch : pt.latch =
    true) :
    (twoSlots p0 f s).outside pt = s.outside pt := by
  unfold twoSlots
  repeat' first
    | simp only [outside_fault, outside_secondSlot, outside_ite, outside_forEach, outside_foldl, ite_self,
        implies_true, *]
    | split
    | rfl

@[simp] theorem outside_vectorStep {pt : Parts} (v : EngineId) (s : State) (h_isl : pt.isl = true) (h_occs : pt.occs
    = true) (h_spokes : pt.spokes = true) (h_engines : pt.engines = true) (h_truing : pt.truing = true) (h_latch :
    pt.latch = true) :
    (vectorStep v s).outside pt = s.outside pt := by
  unfold vectorStep
  repeat' first
    | simp only [outside_State_setIsland, outside_sayRate, outside_State_modEngine, outside_playSlot, outside_ite,
        outside_forEach, outside_foldl, ite_self, implies_true, *]
    | split
    | rfl

@[simp] theorem outside_waitFor {pt : Parts} (p0 : ThreadId) (on : WaitOn) (s : State) (h_pacer : pt.pacer = true) :
    (waitFor p0 on s).outside pt = s.outside pt := by
  unfold waitFor
  repeat' first
    | simp only [outside_State_modThread, outside_ite, outside_forEach, outside_foldl, ite_self, implies_true, *]
    | split
    | rfl

@[simp] theorem outside_writeBack {pt : Parts} (q : RingId) (rx : Bool) (s : State) (h_posted : pt.posted = true)
    (h_hb : pt.hb = true) :
    (writeBack q rx s).outside pt = s.outside pt := by
  unfold writeBack
  repeat' first
    | simp only [outside_post, outside_State_setRing, outside_ite, outside_forEach, outside_foldl, ite_self,
        implies_true, *]
    | split
    | rfl

@[simp] theorem outside_writeBank {pt : Parts} (bank : Bool) (addr : Nat) (data : List (Option Byte)) (s : State)
    (h_mem : pt.mem = true) (h_pacer : pt.pacer = true) :
    (writeBank bank addr data s).outside pt = s.outside pt := by
  unfold writeBank
  repeat' first
    | simp only [outside_with_pacer, outside_with_mem_pacer, outside_ite, outside_forEach, outside_foldl, ite_self,
        implies_true, *]
    | split
    | rfl

@[simp] theorem outside_writeVectors {pt : Parts} (addr : Nat) (data : List (Option Byte)) (s : State) (h_occs :
    pt.occs = true) (h_mem : pt.mem = true) (h_engines : pt.engines = true) (h_latch : pt.latch = true) :
    (writeVectors addr data s).outside pt = s.outside pt := by
  unfold writeVectors
  repeat' first
    | simp only [outside_segWr, outside_with_mem, outside_ite, outside_forEach, outside_foldl, ite_self,
        implies_true, *]
    | split
    | rfl

@[simp] theorem outside_writeBar2 {pt : Parts} (addr : Nat) (data : List (Option Byte)) (s : State) (h_occs :
    pt.occs = true) (h_mem : pt.mem = true) (h_pacer : pt.pacer = true) (h_engines : pt.engines = true) (h_latch :
    pt.latch = true) :
    (writeBar2 addr data s).outside pt = s.outside pt := by
  unfold writeBar2
  repeat' first
    | simp only [outside_writeVectors, outside_writeBank, outside_ite, outside_forEach, outside_foldl, ite_self,
        implies_true, *]
    | split
    | rfl

@[simp] theorem outside_writeChainring {pt : Parts} (e : EngineId) (o : Nat) (v : Word) (s : State) (h_shadow :
    pt.shadow = true) (h_imm : pt.imm = true) (h_engines : pt.engines = true) :
    (writeChainring e o v s).outside pt = s.outside pt := by
  unfold writeChainring
  repeat' first
    | simp only [outside_putReg, outside_onBit, outside_execFailFirstRearm, outside_ite, outside_forEach,
        outside_foldl, ite_self, implies_true, *]
    | split
    | rfl

@[simp] theorem outside_writeConfig {pt : Parts} (o : Nat) (v : Word) (s : State) (h_outbox : pt.outbox = true)
    (h_posted : pt.posted = true) (h_ports : pt.ports = true) (h_hb : pt.hb = true) (h_latch : pt.latch = true) :
    (writeConfig o v s).outside pt = s.outside pt := by
  unfold writeConfig
  repeat' first
    | simp only [outside_sendPending, outside_hostReset, outside_with_hb, outside_ite, outside_forEach,
        outside_foldl, ite_self, implies_true, *]
    | split
    | rfl

@[simp] theorem outside_writeCrank {pt : Parts} (o : Nat) (v : Word) (s : State) (h_shadow : pt.shadow = true)
    (h_imm : pt.imm = true) (h_occs : pt.occs = true) (h_crank : pt.crank = true) (h_latch : pt.latch = true) :
    (writeCrank o v s).outside pt = s.outside pt := by
  unfold writeCrank
  repeat' first
    | simp only [outside_onBit, outside_execAxisClear, outside_putReg, outside_execSegmentGo, outside_ite,
        outside_forEach, outside_foldl, ite_self, implies_true, *]
    | split
    | rfl

@[simp] theorem outside_writeDynamo {pt : Parts} (o : Nat) (v : Word) (s : State) (h_occs : pt.occs = true) (h_hub :
    pt.hub = true) (h_stoker : pt.stoker = true) (h_pair : pt.pair = true) (h_dyn : pt.dyn = true) (h_latch :
    pt.latch = true) :
    (writeDynamo o v s).outside pt = s.outside pt := by
  unfold writeDynamo
  repeat' first
    | simp only [outside_execDuskRequest, outside_onBit, outside_execDayRequest, outside_with_dyn, outside_ite,
        outside_forEach, outside_foldl, ite_self, implies_true, *]
    | split
    | rfl

@[simp] theorem outside_writeEvCfg {pt : Parts} (e : EventId) (x : BitVec 12) (s : State) (h_posted : pt.posted =
    true) (h_hb : pt.hb = true) :
    (writeEvCfg e x s).outside pt = s.outside pt := by
  unfold writeEvCfg
  repeat' first
    | simp only [outside_flushFlr, outside_with_hb, outside_ite, outside_forEach, outside_foldl, ite_self,
        implies_true, *]
    | split
    | rfl

@[simp] theorem outside_writeEvents {pt : Parts} (o : Nat) (v : Word) (s : State) (h_posted : pt.posted = true)
    (h_hb : pt.hb = true) :
    (writeEvents o v s).outside pt = s.outside pt := by
  unfold writeEvents
  repeat' first
    | simp only [outside_execEventStatusClear, outside_writeEvCfg, outside_with_hb, outside_ite, outside_forEach,
        outside_foldl, ite_self, implies_true, *]
    | split
    | rfl

@[simp] theorem outside_writeFreewheel {pt : Parts} (o : Nat) (v : Word) (s : State) (h_shadow : pt.shadow = true)
    (h_imm : pt.imm = true) :
    (writeFreewheel o v s).outside pt = s.outside pt := by
  unfold writeFreewheel
  repeat' first
    | simp only [outside_putReg, outside_ite, outside_forEach, outside_foldl, ite_self, implies_true, *]
    | split
    | rfl

@[simp] theorem outside_writeHandlebar {pt : Parts} (o : Nat) (v : Word) (s : State) (h_shadow : pt.shadow = true)
    (h_imm : pt.imm = true) (h_isl : pt.isl = true) (h_commit : pt.commit = true) (h_occs : pt.occs = true)
    (h_posted : pt.posted = true) (h_pacer : pt.pacer = true) (h_hub : pt.hub = true) (h_noon : pt.noon = true)
    (h_stoker : pt.stoker = true) (h_pair : pt.pair = true) (h_hb : pt.hb = true) (h_latch : pt.latch = true) :
    (writeHandlebar o v s).outside pt = s.outside pt := by
  unfold writeHandlebar
  repeat' first
    | simp only [outside_execFlashRead, outside_execFlashProgram, outside_execFlashErase, outside_onBit,
        outside_execCommitGo, outside_State_setVec, outside_execVectorUnmask, outside_putReg, outside_with_hb,
        outside_ite, outside_forEach, outside_foldl, ite_self, implies_true, *]
    | split
    | rfl

@[simp] theorem outside_writeHub {pt : Parts} (o : Nat) (v : Word) (s : State) (h_shadow : pt.shadow = true) (h_imm
    : pt.imm = true) (h_hub : pt.hub = true) :
    (writeHub o v s).outside pt = s.outside pt := by
  unfold writeHub
  repeat' first
    | simp only [outside_putReg, outside_with_hub, outside_ite, outside_forEach, outside_foldl, ite_self,
        implies_true, *]
    | split
    | rfl

@[simp] theorem outside_writeNoon {pt : Parts} (o : Nat) (v : Word) (s : State) (h_shadow : pt.shadow = true) (h_imm
    : pt.imm = true) (h_isl : pt.isl = true) (h_commit : pt.commit = true) (h_occs : pt.occs = true) (h_pacer :
    pt.pacer = true) (h_hub : pt.hub = true) (h_noon : pt.noon = true) (h_stoker : pt.stoker = true) (h_pair :
    pt.pair = true) (h_latch : pt.latch = true) :
    (writeNoon o v s).outside pt = s.outside pt := by
  unfold writeNoon
  repeat' first
    | simp only [outside_putReg, outside_onBit, outside_execStepRequest, outside_ite, outside_forEach,
        outside_foldl, ite_self, implies_true, *]
    | split
    | rfl

@[simp] theorem outside_writePacer {pt : Parts} (o : Nat) (v : Word) (s : State) (h_shadow : pt.shadow = true)
    (h_imm : pt.imm = true) (h_occs : pt.occs = true) (h_pacer : pt.pacer = true) (h_latch : pt.latch = true) :
    (writePacer o v s).outside pt = s.outside pt := by
  unfold writePacer
  repeat' first
    | simp only [outside_execThStart, outside_execThStop, outside_execThResume, outside_onBit,
        outside_execBankCrcGo, outside_putReg, outside_ite, outside_forEach, outside_foldl, ite_self, implies_true,
        *]
    | split
    | rfl

@[simp] theorem outside_writePair {pt : Parts} (o : Nat) (v : Word) (s : State) (h_shadow : pt.shadow = true) (h_imm
    : pt.imm = true) (h_occs : pt.occs = true) (h_pair : pt.pair = true) (h_latch : pt.latch = true) :
    (writePair o v s).outside pt = s.outside pt := by
  unfold writePair
  repeat' first
    | simp only [outside_onBit, outside_execBrakeEnter, outside_refuseExit, outside_execBrakeExit, outside_putReg,
        outside_ite, outside_forEach, outside_foldl, ite_self, implies_true, *]
    | split
    | rfl

@[simp] theorem outside_writePower {pt : Parts} (c : PortId) (v : Word) (s : State) (h_isl : pt.isl = true) (h_occs
    : pt.occs = true) (h_ports : pt.ports = true) (h_fw : pt.fw = true) (h_latch : pt.latch = true) :
    (writePower c v s).outside pt = s.outside pt := by
  unfold writePower
  repeat' first
    | simp only [outside_State_modPort, outside_execPortOff, outside_execPortRun, outside_execPortSiesta,
        outside_ite, outside_forEach, outside_foldl, ite_self, implies_true, *]
    | split
    | rfl

@[simp] theorem outside_writeTest {pt : Parts} (c : PortId) (v : Word) (s : State) (h_isl : pt.isl = true) (h_occs :
    pt.occs = true) (h_ports : pt.ports = true) (h_fw : pt.fw = true) (h_latch : pt.latch = true) :
    (writeTest c v s).outside pt = s.outside pt := by
  unfold writeTest
  repeat' first
    | simp only [outside_execTestLoopEnd, outside_execTestLoopNearSerial, outside_execTestLoopNearParallel,
        outside_execTestLoopFarRetimed, outside_execPrbsGen, outside_State_modPort, outside_execPrbsCheck,
        outside_ite, outside_forEach, outside_foldl, ite_self, implies_true, *]
    | split
    | rfl

@[simp] theorem outside_writePort {pt : Parts} (c : PortId) (o : Nat) (v : Word) (s : State) (h_shadow : pt.shadow =
    true) (h_imm : pt.imm = true) (h_isl : pt.isl = true) (h_occs : pt.occs = true) (h_ports : pt.ports = true)
    (h_fw : pt.fw = true) (h_latch : pt.latch = true) :
    (writePort c o v s).outside pt = s.outside pt := by
  unfold writePort
  repeat' first
    | simp only [outside_writePower, outside_writeTest, outside_putReg, outside_ite, outside_forEach, outside_foldl,
        ite_self, implies_true, *]
    | split
    | rfl

@[simp] theorem outside_writeTruing {pt : Parts} (o : Nat) (v : Word) (s : State) (h_shadow : pt.shadow = true)
    (h_imm : pt.imm = true) (h_occs : pt.occs = true) (h_truing : pt.truing = true) (h_latch : pt.latch = true) :
    (writeTruing o v s).outside pt = s.outside pt := by
  unfold writeTruing
  repeat' first
    | simp only [outside_onBit, outside_execStoreGo, outside_putReg, outside_execFullRunWithdraw,
        outside_execFullRunRequest, outside_ite, outside_forEach, outside_foldl, ite_self, implies_true, *]
    | split
    | rfl

@[simp] theorem outside_writeSpoke {pt : Parts} (i : SpokeId) (o : Nat) (v : Word) (s : State) (h_shadow : pt.shadow
    = true) (h_imm : pt.imm = true) (h_spokes : pt.spokes = true) :
    (writeSpoke i o v s).outside pt = s.outside pt := by
  unfold writeSpoke
  repeat' first
    | simp only [outside_onBit, outside_execSpokeCancelGo, outside_putReg, outside_ite, outside_forEach,
        outside_foldl, ite_self, implies_true, *]
    | split
    | rfl

@[simp] theorem outside_writeRing {pt : Parts} (q : RingId) (rx : Bool) (o : Nat) (v : Word) (s : State) (h_occs :
    pt.occs = true) (h_outbox : pt.outbox = true) (h_posted : pt.posted = true) (h_ports : pt.ports = true) (h_hb :
    pt.hb = true) (h_latch : pt.latch = true) :
    (writeRing q rx o v s).outside pt = s.outside pt := by
  unfold writeRing
  repeat' first
    | simp only [outside_State_modRing, outside_execRingEnable, outside_execRingDisable, outside_execProdDoorbell,
        outside_execConsDoorbell, outside_ite, outside_forEach, outside_foldl, ite_self, implies_true, *]
    | split
    | rfl

@[simp] theorem outside_writeRings {pt : Parts} (o : Nat) (v : Word) (s : State) (h_occs : pt.occs = true) (h_outbox
    : pt.outbox = true) (h_posted : pt.posted = true) (h_ports : pt.ports = true) (h_hb : pt.hb = true) (h_latch :
    pt.latch = true) :
    (writeRings o v s).outside pt = s.outside pt := by
  unfold writeRings
  repeat' first
    | simp only [outside_writeRing, outside_ite, outside_forEach, outside_foldl, ite_self, implies_true, *]
    | split
    | rfl

@[simp] theorem outside_writeSnapshot {pt : Parts} (o : Nat) (v : Word) (s : State) (h_shadow : pt.shadow = true)
    (h_imm : pt.imm = true) (h_snap : pt.snap = true) :
    (writeSnapshot o v s).outside pt = s.outside pt := by
  unfold writeSnapshot
  repeat' first
    | simp only [outside_onBit, outside_execSnapshotRequest, outside_putReg, outside_ite, outside_forEach,
        outside_foldl, ite_self, implies_true, *]
    | split
    | rfl

@[simp] theorem outside_writeReg {pt : Parts} (k : Nat) (v : Word) (s : State) (h_shadow : pt.shadow = true) (h_imm
    : pt.imm = true) (h_isl : pt.isl = true) (h_commit : pt.commit = true) (h_snap : pt.snap = true) (h_occs :
    pt.occs = true) (h_outbox : pt.outbox = true) (h_posted : pt.posted = true) (h_spokes : pt.spokes = true)
    (h_pacer : pt.pacer = true) (h_engines : pt.engines = true) (h_crank : pt.crank = true) (h_truing : pt.truing =
    true) (h_hub : pt.hub = true) (h_noon : pt.noon = true) (h_ports : pt.ports = true) (h_fw : pt.fw = true)
    (h_stoker : pt.stoker = true) (h_pair : pt.pair = true) (h_hb : pt.hb = true) (h_dyn : pt.dyn = true) (h_latch :
    pt.latch = true) :
    (writeReg k v s).outside pt = s.outside pt := by
  unfold writeReg
  repeat' first
    | simp only [outside_writeHandlebar, outside_writeDynamo, outside_writeHub, outside_writeNoon,
        outside_writeTruing, outside_writePacer, outside_writeCrank, outside_writeChainring, outside_writeSpoke,
        outside_writePort, outside_writeFreewheel, outside_putReg, outside_writePair, outside_writeEvents,
        outside_writeRings, outside_writeSnapshot, outside_ite, outside_forEach, outside_foldl, ite_self,
        implies_true, *]
    | split
    | rfl

end Sys2Proof.Laws
end

