-- ==== Sys2Proof/Laws/Maps.lean ====
section
/-! SUPPORT. Sparse maps: a read after a write, and that every write keeps the canonical form. -/

namespace Sys2Proof.Laws

open Sys2Proof.Machine

variable {w : Nat} (d : Nat → BitVec w)

/-- Every key of a map is larger than `k`. -/
def above (k : Nat) (m : List (Nat × BitVec w)) : Prop := ∀ e ∈ m, k < e.1

/-- The canonical form, said of every entry: no default value, and all later keys larger. -/
theorem canon_cons (k : Nat) (v : BitVec w) (m : List (Nat × BitVec w)) :
    canon d ((k, v) :: m) = true ↔ v ≠ d k ∧ above k m ∧ canon d m = true := by
  induction m generalizing k v with
  | nil => simp [canon, above]
  | cons e m ih =>
    obtain ⟨k', v'⟩ := e
    have h := ih k' v'
    simp only [canon, Bool.and_eq_true, bne_iff_ne, ne_eq, decide_eq_true_eq, above, List.mem_cons,
      forall_eq_or_imp] at h ⊢
    constructor
    · rintro ⟨⟨h1, h2⟩, h3⟩
      exact ⟨h1, ⟨h2, fun x hx => Nat.lt_trans h2 ((h.1 h3).2.1 x hx)⟩, h3⟩
    · rintro ⟨h1, ⟨h2, _⟩, h3⟩
      exact ⟨⟨h1, h2⟩, h3⟩

@[simp] theorem canon_nil : canon d [] = true := rfl

theorem look_above (k : Nat) (m : List (Nat × BitVec w)) (h : above k m) : look d m k = d k := by
  cases m with
  | nil => rfl
  | cons e m =>
    have := h e (by simp)
    simp only [look]
    rw [if_neg (by omega), if_pos this]

theorem above_store (k k' : Nat) (v : BitVec w) (m : List (Nat × BitVec w)) (h : above k m) (hk : k < k') :
    above k (store d m k' v) := by
  induction m with
  | nil =>
    simp only [store, consNew]
    split <;> simp [above, hk]
  | cons e m ih =>
    obtain ⟨a, x⟩ := e
    have ha : k < a := h (a, x) (by simp)
    have hm : above k m := fun y hy => h y (by simp [hy])
    simp only [store, consNew]
    split
    · split
      · exact hm
      · intro y hy
        rcases List.mem_cons.1 hy with rfl | hy
        · exact hk
        · exact hm y hy
    · split
      · split
        · exact h
        · intro y hy
          rcases List.mem_cons.1 hy with rfl | hy
          · exact hk
          · exact h y hy
      · intro y hy
        rcases List.mem_cons.1 hy with rfl | hy
        · exact ha
        · exact ih hm y hy

/-- A write keeps the canonical form. -/
theorem canon_store (m : List (Nat × BitVec w)) (k : Nat) (v : BitVec w) (h : canon d m = true) :
    canon d (store d m k v) = true := by
  induction m with
  | nil =>
    simp only [store, consNew]
    split
    · rfl
    · simp [canon_cons, above, *]
  | cons e m ih =>
    obtain ⟨a, x⟩ := e
    obtain ⟨h1, h2, h3⟩ := (canon_cons d a x m).1 h
    simp only [store, consNew]
    split
    · rename_i e; subst e
      split
      · exact h3
      · exact (canon_cons d a v m).2 ⟨by assumption, h2, h3⟩
    · split
      · split
        · exact h
        · refine (canon_cons d k v _).2 ⟨by assumption, ?_, h⟩
          intro y hy
          rcases List.mem_cons.1 hy with rfl | hy
          · assumption
          · exact Nat.lt_trans (by assumption) (h2 y hy)
      · exact (canon_cons d a x _).2 ⟨h1, above_store d a k v m h2 (by omega), ih h3⟩

/-- A read of what was written. -/
theorem look_store (m : List (Nat × BitVec w)) (k : Nat) (v : BitVec w) (h : canon d m = true) :
    look d (store d m k v) k = v := by
  induction m with
  | nil => simp only [store, consNew]; split <;> simp [look, *]
  | cons e m ih =>
    obtain ⟨a, x⟩ := e
    obtain ⟨_, h2, h3⟩ := (canon_cons d a x m).1 h
    simp only [store, consNew]
    split
    · rename_i e; subst e
      split
      · rename_i e; rw [e]; exact look_above d a m h2
      · simp [look]
    · split
      · split
        · rename_i e; rw [e]; simp [look, *]
        · simp [look]
      · simp [look, *]

/-- A write changes no other key. -/
theorem look_store_ne (m : List (Nat × BitVec w)) (k j : Nat) (v : BitVec w) (h : canon d m = true) (hj : j ≠ k) :
    look d (store d m k v) j = look d m j := by
  induction m with
  | nil =>
    simp only [store, consNew]
    split
    · rfl
    · simp only [look]; rw [if_neg (by omega)]; split <;> rfl
  | cons e m ih =>
    obtain ⟨a, x⟩ := e
    obtain ⟨_, h2, h3⟩ := (canon_cons d a x m).1 h
    simp only [store, consNew]
    split
    · rename_i e; subst e
      have hm : j < a → look d m j = d j := fun hl =>
        look_above d j m (fun y hy => Nat.lt_trans hl (h2 y hy))
      split
      · simp only [look]; rw [if_neg (by omega)]
        split
        · exact hm (by assumption)
        · rfl
      · simp only [look]
        rw [if_neg (Ne.symm hj), if_neg (Ne.symm hj)]
    · split
      · split
        · rfl
        · simp only [look]
          rw [if_neg (by omega)]
          split
          · rw [if_neg (by omega), if_pos (by omega)]
          · rfl
      · simp only [look, ih h3]

theorem canon_storeAll (m l : List (Nat × BitVec w)) (h : canon d m = true) : canon d (storeAll d m l) = true := by
  unfold storeAll
  induction l generalizing m with
  | nil => exact h
  | cons e l ih => exact ih _ (canon_store d m e.1 e.2 h)

theorem canon_wrN (d : Nat → Byte) (m : List (Nat × Byte)) (a : Nat) (bs : Octets) (h : canon d m = true) :
    canon d (wrN d m a bs) = true := by
  induction bs generalizing m a with
  | nil => exact h
  | cons b bs ih => exact ih _ _ (canon_store d m a b h)

theorem canon_wrEn (d : Nat → Byte) (m : List (Nat × Byte)) (a : Nat) (bs : List (Option Byte)) (h : canon d m = true) :
    canon d (wrEn d m a bs) = true := by
  induction bs generalizing m a with
  | nil => exact h
  | cons b bs ih =>
    cases b with
    | none => exact ih _ _ h
    | some b => exact ih _ _ (canon_store d m a b h)

/-- Octets outside those written read as before. -/
theorem rd8_wrN_out (d : Nat → Byte) (m : List (Nat × Byte)) (a : Nat) (bs : Octets) (j : Nat) (h : canon d m = true)
    (hj : j < a ∨ a + bs.length ≤ j) : rd8 d (wrN d m a bs) j = rd8 d m j := by
  induction bs generalizing m a with
  | nil => rfl
  | cons b bs ih =>
    have hl : a + (bs.length + 1) = a + 1 + bs.length := by omega
    simp only [List.length_cons, hl] at hj
    rw [wrN, ih _ _ (canon_store d m a b h) (by omega)]
    exact look_store_ne d m a j b h (by omega)

/-- An octet written reads as written. -/
theorem rd8_wrN_in (d : Nat → Byte) (m : List (Nat × Byte)) (a : Nat) (bs : Octets) (i : Nat) (h : canon d m = true)
    (hi : i < bs.length) : rd8 d (wrN d m a bs) (a + i) = bs[i] := by
  induction bs generalizing m a i with
  | nil => simp at hi
  | cons b bs ih =>
    cases i with
    | zero =>
      rw [wrN, Nat.add_zero, rd8_wrN_out d _ _ _ _ (canon_store d m a b h) (by omega)]
      exact look_store d m a b h
    | succ i =>
      have := ih (store d m a b) (a + 1) i (canon_store d m a b h) (by simpa using hi)
      rw [wrN, show a + (i + 1) = a + 1 + i by omega, this]
      simp

/-- Octets outside those written, or with their byte enable off, read as before. -/
theorem rd8_wrEn_out (d : Nat → Byte) (m : List (Nat × Byte)) (a : Nat) (bs : List (Option Byte)) (j : Nat)
    (h : canon d m = true) (hj : ∀ i x, bs[i]? = some (some x) → j ≠ a + i) : rd8 d (wrEn d m a bs) j = rd8 d m j := by
  induction bs generalizing m a with
  | nil => rfl
  | cons b bs ih =>
    have ht : ∀ i x, bs[i]? = some (some x) → j ≠ a + 1 + i := fun i x hx => by
      have := hj (i + 1) x (by simpa using hx); omega
    cases b with
    | none => exact ih _ _ h ht
    | some b =>
      rw [wrEn, ih _ _ (canon_store d m a b h) ht]
      exact look_store_ne d m a j b h (by have := hj 0 b (by simp); omega)

/-- An octet written with its byte enable on reads as written. -/
theorem rd8_wrEn_in (d : Nat → Byte) (m : List (Nat × Byte)) (a : Nat) (bs : List (Option Byte)) (i : Nat) (x : Byte)
    (h : canon d m = true) (hi : bs[i]? = some (some x)) : rd8 d (wrEn d m a bs) (a + i) = x := by
  induction bs generalizing m a i with
  | nil => simp at hi
  | cons b bs ih =>
    cases i with
    | zero =>
      have : b = some x := by simpa using hi
      subst this
      rw [wrEn, Nat.add_zero, rd8_wrEn_out d _ _ _ _ (canon_store d m a x h) (fun i y _ => by omega)]
      exact look_store d m a x h
    | succ i =>
      have hb : bs[i]? = some (some x) := by simpa using hi
      rw [show a + (i + 1) = a + 1 + i by omega]
      cases b with
      | none => exact ih _ _ _ h hb
      | some b => exact ih _ _ _ (canon_store d m a b h) hb

end Sys2Proof.Laws
end

