-- ==== Sys2Proof/Laws/State.lean ====
section
/-! SUPPORT. What each update of an instance, and each event raised or message sent, leaves as it was: one lemma per
field, so that no proof unfolds a record update. -/

namespace Sys2Proof.Laws

open Sys2Proof.Machine

theorem get_set {α : Type} {n : Nat} (v : Vector α n) (i : Fin n) (x : α) : (v.set i.val x i.isLt).get i = x := by
  show (v.set i.val x i.isLt)[i.val] = x
  simp

theorem get_set_ne {α : Type} {n : Nat} (v : Vector α n) (i j : Fin n) (x : α) (h : j ≠ i) :
    (v.set i.val x i.isLt).get j = v.get j := by
  have h' : i.val ≠ j.val := fun e => h (Fin.ext e.symm)
  show (v.set i.val x i.isLt)[j.val] = v[j.val]
  simp [h']

/-! ### Instances -/

@[simp] theorem modSpoke_eq (s : State) (i : SpokeId) (f : Spoke → Spoke) : s.modSpoke i f = s.setSpoke i (f (s.spoke i)) := rfl
@[simp] theorem setSpoke_pending (s : State) (i : SpokeId) (x : Spoke) : (s.setSpoke i x).pending = s.pending := rfl
@[simp] theorem setSpoke_clock (s : State) (i : SpokeId) (x : Spoke) : (s.setSpoke i x).clock = s.clock := rfl
@[simp] theorem setSpoke_dt (s : State) (i : SpokeId) (x : Spoke) : (s.setSpoke i x).dt = s.dt := rfl
@[simp] theorem setSpoke_dtRuns (s : State) (i : SpokeId) (x : Spoke) : (s.setSpoke i x).dtRuns = s.dtRuns := rfl
@[simp] theorem setSpoke_shadow (s : State) (i : SpokeId) (x : Spoke) : (s.setSpoke i x).shadow = s.shadow := rfl
@[simp] theorem setSpoke_phase (s : State) (i : SpokeId) (x : Spoke) : (s.setSpoke i x).phase = s.phase := rfl
@[simp] theorem setSpoke_evDrops (s : State) (i : SpokeId) (x : Spoke) : (s.setSpoke i x).evDrops = s.evDrops := rfl
@[simp] theorem setSpoke_evOwed (s : State) (i : SpokeId) (x : Spoke) : (s.setSpoke i x).evOwed = s.evOwed := rfl
@[simp] theorem setSpoke_imm (s : State) (i : SpokeId) (x : Spoke) : (s.setSpoke i x).imm = s.imm := rfl
@[simp] theorem setSpoke_isl (s : State) (i : SpokeId) (x : Spoke) : (s.setSpoke i x).isl = s.isl := rfl
@[simp] theorem setSpoke_commit (s : State) (i : SpokeId) (x : Spoke) : (s.setSpoke i x).commit = s.commit := rfl
@[simp] theorem setSpoke_snap (s : State) (i : SpokeId) (x : Spoke) : (s.setSpoke i x).snap = s.snap := rfl
@[simp] theorem setSpoke_occs (s : State) (i : SpokeId) (x : Spoke) : (s.setSpoke i x).occs = s.occs := rfl
@[simp] theorem setSpoke_outbox (s : State) (i : SpokeId) (x : Spoke) : (s.setSpoke i x).outbox = s.outbox := rfl
@[simp] theorem setSpoke_posted (s : State) (i : SpokeId) (x : Spoke) : (s.setSpoke i x).posted = s.posted := rfl
@[simp] theorem setSpoke_mem (s : State) (i : SpokeId) (x : Spoke) : (s.setSpoke i x).mem = s.mem := rfl
@[simp] theorem setSpoke_flash (s : State) (i : SpokeId) (x : Spoke) : (s.setSpoke i x).flash = s.flash := rfl
@[simp] theorem setSpoke_pacer (s : State) (i : SpokeId) (x : Spoke) : (s.setSpoke i x).pacer = s.pacer := rfl
@[simp] theorem setSpoke_engines (s : State) (i : SpokeId) (x : Spoke) : (s.setSpoke i x).engines = s.engines := rfl
@[simp] theorem setSpoke_crank (s : State) (i : SpokeId) (x : Spoke) : (s.setSpoke i x).crank = s.crank := rfl
@[simp] theorem setSpoke_truing (s : State) (i : SpokeId) (x : Spoke) : (s.setSpoke i x).truing = s.truing := rfl
@[simp] theorem setSpoke_hub (s : State) (i : SpokeId) (x : Spoke) : (s.setSpoke i x).hub = s.hub := rfl
@[simp] theorem setSpoke_noon (s : State) (i : SpokeId) (x : Spoke) : (s.setSpoke i x).noon = s.noon := rfl
@[simp] theorem setSpoke_ports (s : State) (i : SpokeId) (x : Spoke) : (s.setSpoke i x).ports = s.ports := rfl
@[simp] theorem setSpoke_fw (s : State) (i : SpokeId) (x : Spoke) : (s.setSpoke i x).fw = s.fw := rfl
@[simp] theorem setSpoke_stoker (s : State) (i : SpokeId) (x : Spoke) : (s.setSpoke i x).stoker = s.stoker := rfl
@[simp] theorem setSpoke_pair (s : State) (i : SpokeId) (x : Spoke) : (s.setSpoke i x).pair = s.pair := rfl
@[simp] theorem setSpoke_hb (s : State) (i : SpokeId) (x : Spoke) : (s.setSpoke i x).hb = s.hb := rfl
@[simp] theorem setSpoke_dyn (s : State) (i : SpokeId) (x : Spoke) : (s.setSpoke i x).dyn = s.dyn := rfl
@[simp] theorem setSpoke_thread (s : State) (i : SpokeId) (x : Spoke) (j : ThreadId) : (s.setSpoke i x).thread j = s.thread j := rfl
@[simp] theorem setSpoke_engine (s : State) (i : SpokeId) (x : Spoke) (j : EngineId) : (s.setSpoke i x).engine j = s.engine j := rfl
@[simp] theorem setSpoke_axis (s : State) (i : SpokeId) (x : Spoke) (j : AxisId) : (s.setSpoke i x).axis j = s.axis j := rfl
@[simp] theorem setSpoke_item (s : State) (i : SpokeId) (x : Spoke) (j : ItemId) : (s.setSpoke i x).item j = s.item j := rfl
@[simp] theorem setSpoke_req (s : State) (i : SpokeId) (x : Spoke) (j : SpokeId) : (s.setSpoke i x).req j = s.req j := rfl
@[simp] theorem setSpoke_port (s : State) (i : SpokeId) (x : Spoke) (j : PortId) : (s.setSpoke i x).port j = s.port j := rfl
@[simp] theorem setSpoke_island (s : State) (i : SpokeId) (x : Spoke) (j : IslandId) : (s.setSpoke i x).island j = s.island j := rfl
@[simp] theorem setSpoke_vec (s : State) (i : SpokeId) (x : Spoke) (j : VecId) : (s.setSpoke i x).vec j = s.vec j := rfl
@[simp] theorem setSpoke_act (s : State) (i : SpokeId) (x : Spoke) (j : Nat) : (s.setSpoke i x).act j = s.act j := rfl
@[simp] theorem setSpoke_inDay (s : State) (i : SpokeId) (x : Spoke) : (s.setSpoke i x).inDay = s.inDay := rfl
@[simp] theorem setSpoke_alive (s : State) (i : SpokeId) (x : Spoke) : (s.setSpoke i x).alive = s.alive := rfl
@[simp] theorem setSpoke_pcieUp (s : State) (i : SpokeId) (x : Spoke) : (s.setSpoke i x).pcieUp = s.pcieUp := rfl
@[simp] theorem setSpoke_clocked (s : State) (i : SpokeId) (x : Spoke) : (s.setSpoke i x).clocked = s.clocked := rfl
@[simp] theorem setSpoke_outage (s : State) (i : SpokeId) (x : Spoke) : (s.setSpoke i x).outage = s.outage := rfl
@[simp] theorem setSpoke_count (s : State) (i : SpokeId) (x : Spoke) : (s.setSpoke i x).count = s.count := rfl
@[simp] theorem setSpoke_hostReach (s : State) (i : SpokeId) (x : Spoke) : (s.setSpoke i x).hostReach = s.hostReach := rfl
@[simp] theorem setSpoke_due (s : State) (i : SpokeId) (x : Spoke) (k : IslandId) (d : DT) : (s.setSpoke i x).due k d = s.due k d := rfl
@[simp] theorem setSpoke_now (s : State) (i : SpokeId) (x : Spoke) : (s.setSpoke i x).now = s.now := rfl
@[simp] theorem setSpoke_frozen (s : State) (i : SpokeId) (x : Spoke) : (s.setSpoke i x).frozen = s.frozen := rfl
@[simp] theorem setSpoke_slot (s : State) (i : SpokeId) (x : Spoke) : (s.setSpoke i x).slot = s.slot := rfl
@[simp] theorem setSpoke_suppressed (s : State) (i : SpokeId) (x : Spoke) : (s.setSpoke i x).suppressed = s.suppressed := rfl
@[simp] theorem setSpoke_get (s : State) (i : SpokeId) (x : Spoke) : (s.setSpoke i x).spoke i = x := get_set _ _ _
@[simp] theorem setSpoke_get_ne (s : State) (i : SpokeId) (x : Spoke) (j : SpokeId) (h : j ≠ i) : (s.setSpoke i x).spoke j = s.spoke j :=
  get_set_ne _ _ _ _ h

@[simp] theorem modThread_eq (s : State) (p : ThreadId) (f : Thread → Thread) : s.modThread p f = s.setThread p (f (s.thread p)) := rfl
@[simp] theorem setThread_pending (s : State) (p : ThreadId) (x : Thread) : (s.setThread p x).pending = s.pending := rfl
@[simp] theorem setThread_clock (s : State) (p : ThreadId) (x : Thread) : (s.setThread p x).clock = s.clock := rfl
@[simp] theorem setThread_dt (s : State) (p : ThreadId) (x : Thread) : (s.setThread p x).dt = s.dt := rfl
@[simp] theorem setThread_dtRuns (s : State) (p : ThreadId) (x : Thread) : (s.setThread p x).dtRuns = s.dtRuns := rfl
@[simp] theorem setThread_shadow (s : State) (p : ThreadId) (x : Thread) : (s.setThread p x).shadow = s.shadow := rfl
@[simp] theorem setThread_phase (s : State) (p : ThreadId) (x : Thread) : (s.setThread p x).phase = s.phase := rfl
@[simp] theorem setThread_evDrops (s : State) (p : ThreadId) (x : Thread) : (s.setThread p x).evDrops = s.evDrops := rfl
@[simp] theorem setThread_evOwed (s : State) (p : ThreadId) (x : Thread) : (s.setThread p x).evOwed = s.evOwed := rfl
@[simp] theorem setThread_imm (s : State) (p : ThreadId) (x : Thread) : (s.setThread p x).imm = s.imm := rfl
@[simp] theorem setThread_isl (s : State) (p : ThreadId) (x : Thread) : (s.setThread p x).isl = s.isl := rfl
@[simp] theorem setThread_commit (s : State) (p : ThreadId) (x : Thread) : (s.setThread p x).commit = s.commit := rfl
@[simp] theorem setThread_snap (s : State) (p : ThreadId) (x : Thread) : (s.setThread p x).snap = s.snap := rfl
@[simp] theorem setThread_occs (s : State) (p : ThreadId) (x : Thread) : (s.setThread p x).occs = s.occs := rfl
@[simp] theorem setThread_outbox (s : State) (p : ThreadId) (x : Thread) : (s.setThread p x).outbox = s.outbox := rfl
@[simp] theorem setThread_posted (s : State) (p : ThreadId) (x : Thread) : (s.setThread p x).posted = s.posted := rfl
@[simp] theorem setThread_mem (s : State) (p : ThreadId) (x : Thread) : (s.setThread p x).mem = s.mem := rfl
@[simp] theorem setThread_flash (s : State) (p : ThreadId) (x : Thread) : (s.setThread p x).flash = s.flash := rfl
@[simp] theorem setThread_spokes (s : State) (p : ThreadId) (x : Thread) : (s.setThread p x).spokes = s.spokes := rfl
@[simp] theorem setThread_engines (s : State) (p : ThreadId) (x : Thread) : (s.setThread p x).engines = s.engines := rfl
@[simp] theorem setThread_crank (s : State) (p : ThreadId) (x : Thread) : (s.setThread p x).crank = s.crank := rfl
@[simp] theorem setThread_truing (s : State) (p : ThreadId) (x : Thread) : (s.setThread p x).truing = s.truing := rfl
@[simp] theorem setThread_hub (s : State) (p : ThreadId) (x : Thread) : (s.setThread p x).hub = s.hub := rfl
@[simp] theorem setThread_noon (s : State) (p : ThreadId) (x : Thread) : (s.setThread p x).noon = s.noon := rfl
@[simp] theorem setThread_ports (s : State) (p : ThreadId) (x : Thread) : (s.setThread p x).ports = s.ports := rfl
@[simp] theorem setThread_fw (s : State) (p : ThreadId) (x : Thread) : (s.setThread p x).fw = s.fw := rfl
@[simp] theorem setThread_stoker (s : State) (p : ThreadId) (x : Thread) : (s.setThread p x).stoker = s.stoker := rfl
@[simp] theorem setThread_pair (s : State) (p : ThreadId) (x : Thread) : (s.setThread p x).pair = s.pair := rfl
@[simp] theorem setThread_hb (s : State) (p : ThreadId) (x : Thread) : (s.setThread p x).hb = s.hb := rfl
@[simp] theorem setThread_dyn (s : State) (p : ThreadId) (x : Thread) : (s.setThread p x).dyn = s.dyn := rfl
@[simp] theorem setThread_pacer_mirror (s : State) (p : ThreadId) (x : Thread) : (s.setThread p x).pacer.mirror = s.pacer.mirror := rfl
@[simp] theorem setThread_pacer_used (s : State) (p : ThreadId) (x : Thread) : (s.setThread p x).pacer.used = s.pacer.used := rfl
@[simp] theorem setThread_pacer_bank (s : State) (p : ThreadId) (x : Thread) : (s.setThread p x).pacer.bank = s.pacer.bank := rfl
@[simp] theorem setThread_pacer_locked (s : State) (p : ThreadId) (x : Thread) : (s.setThread p x).pacer.locked = s.pacer.locked := rfl
@[simp] theorem setThread_pacer_wrDrop (s : State) (p : ThreadId) (x : Thread) : (s.setThread p x).pacer.wrDrop = s.pacer.wrDrop := rfl
@[simp] theorem setThread_pacer_crcBusy (s : State) (p : ThreadId) (x : Thread) : (s.setThread p x).pacer.crcBusy = s.pacer.crcBusy := rfl
@[simp] theorem setThread_pacer_crcDirty (s : State) (p : ThreadId) (x : Thread) : (s.setThread p x).pacer.crcDirty = s.pacer.crcDirty := rfl
@[simp] theorem setThread_pacer_crcValid (s : State) (p : ThreadId) (x : Thread) : (s.setThread p x).pacer.crcValid = s.pacer.crcValid := rfl
@[simp] theorem setThread_pacer_crc (s : State) (p : ThreadId) (x : Thread) : (s.setThread p x).pacer.crc = s.pacer.crc := rfl
@[simp] theorem setThread_pacer_evMem (s : State) (p : ThreadId) (x : Thread) : (s.setThread p x).pacer.evMem = s.pacer.evMem := rfl
@[simp] theorem setThread_pacer_latch (s : State) (p : ThreadId) (x : Thread) : (s.setThread p x).pacer.latch = s.pacer.latch := rfl
@[simp] theorem setThread_pacer_mail (s : State) (p : ThreadId) (x : Thread) : (s.setThread p x).pacer.mail = s.pacer.mail := rfl
@[simp] theorem setThread_spoke (s : State) (p : ThreadId) (x : Thread) (j : SpokeId) : (s.setThread p x).spoke j = s.spoke j := rfl
@[simp] theorem setThread_engine (s : State) (p : ThreadId) (x : Thread) (j : EngineId) : (s.setThread p x).engine j = s.engine j := rfl
@[simp] theorem setThread_axis (s : State) (p : ThreadId) (x : Thread) (j : AxisId) : (s.setThread p x).axis j = s.axis j := rfl
@[simp] theorem setThread_item (s : State) (p : ThreadId) (x : Thread) (j : ItemId) : (s.setThread p x).item j = s.item j := rfl
@[simp] theorem setThread_req (s : State) (p : ThreadId) (x : Thread) (j : SpokeId) : (s.setThread p x).req j = s.req j := rfl
@[simp] theorem setThread_port (s : State) (p : ThreadId) (x : Thread) (j : PortId) : (s.setThread p x).port j = s.port j := rfl
@[simp] theorem setThread_island (s : State) (p : ThreadId) (x : Thread) (j : IslandId) : (s.setThread p x).island j = s.island j := rfl
@[simp] theorem setThread_vec (s : State) (p : ThreadId) (x : Thread) (j : VecId) : (s.setThread p x).vec j = s.vec j := rfl
@[simp] theorem setThread_act (s : State) (p : ThreadId) (x : Thread) (j : Nat) : (s.setThread p x).act j = s.act j := rfl
@[simp] theorem setThread_inDay (s : State) (p : ThreadId) (x : Thread) : (s.setThread p x).inDay = s.inDay := rfl
@[simp] theorem setThread_alive (s : State) (p : ThreadId) (x : Thread) : (s.setThread p x).alive = s.alive := rfl
@[simp] theorem setThread_pcieUp (s : State) (p : ThreadId) (x : Thread) : (s.setThread p x).pcieUp = s.pcieUp := rfl
@[simp] theorem setThread_clocked (s : State) (p : ThreadId) (x : Thread) : (s.setThread p x).clocked = s.clocked := rfl
@[simp] theorem setThread_outage (s : State) (p : ThreadId) (x : Thread) : (s.setThread p x).outage = s.outage := rfl
@[simp] theorem setThread_count (s : State) (p : ThreadId) (x : Thread) : (s.setThread p x).count = s.count := rfl
@[simp] theorem setThread_hostReach (s : State) (p : ThreadId) (x : Thread) : (s.setThread p x).hostReach = s.hostReach := rfl
@[simp] theorem setThread_due (s : State) (p : ThreadId) (x : Thread) (k : IslandId) (d : DT) : (s.setThread p x).due k d = s.due k d := rfl
@[simp] theorem setThread_now (s : State) (p : ThreadId) (x : Thread) : (s.setThread p x).now = s.now := rfl
@[simp] theorem setThread_frozen (s : State) (p : ThreadId) (x : Thread) : (s.setThread p x).frozen = s.frozen := rfl
@[simp] theorem setThread_slot (s : State) (p : ThreadId) (x : Thread) : (s.setThread p x).slot = s.slot := rfl
@[simp] theorem setThread_suppressed (s : State) (p : ThreadId) (x : Thread) : (s.setThread p x).suppressed = s.suppressed := rfl
@[simp] theorem setThread_get (s : State) (p : ThreadId) (x : Thread) : (s.setThread p x).thread p = x := get_set _ _ _
@[simp] theorem setThread_get_ne (s : State) (p : ThreadId) (x : Thread) (j : ThreadId) (h : j ≠ p) : (s.setThread p x).thread j = s.thread j :=
  get_set_ne _ _ _ _ h

@[simp] theorem modEngine_eq (s : State) (v : EngineId) (f : Engine → Engine) : s.modEngine v f = s.setEngine v (f (s.engine v)) := rfl
@[simp] theorem setEngine_pending (s : State) (v : EngineId) (x : Engine) : (s.setEngine v x).pending = s.pending := rfl
@[simp] theorem setEngine_clock (s : State) (v : EngineId) (x : Engine) : (s.setEngine v x).clock = s.clock := rfl
@[simp] theorem setEngine_dt (s : State) (v : EngineId) (x : Engine) : (s.setEngine v x).dt = s.dt := rfl
@[simp] theorem setEngine_dtRuns (s : State) (v : EngineId) (x : Engine) : (s.setEngine v x).dtRuns = s.dtRuns := rfl
@[simp] theorem setEngine_shadow (s : State) (v : EngineId) (x : Engine) : (s.setEngine v x).shadow = s.shadow := rfl
@[simp] theorem setEngine_phase (s : State) (v : EngineId) (x : Engine) : (s.setEngine v x).phase = s.phase := rfl
@[simp] theorem setEngine_evDrops (s : State) (v : EngineId) (x : Engine) : (s.setEngine v x).evDrops = s.evDrops := rfl
@[simp] theorem setEngine_evOwed (s : State) (v : EngineId) (x : Engine) : (s.setEngine v x).evOwed = s.evOwed := rfl
@[simp] theorem setEngine_imm (s : State) (v : EngineId) (x : Engine) : (s.setEngine v x).imm = s.imm := rfl
@[simp] theorem setEngine_isl (s : State) (v : EngineId) (x : Engine) : (s.setEngine v x).isl = s.isl := rfl
@[simp] theorem setEngine_commit (s : State) (v : EngineId) (x : Engine) : (s.setEngine v x).commit = s.commit := rfl
@[simp] theorem setEngine_snap (s : State) (v : EngineId) (x : Engine) : (s.setEngine v x).snap = s.snap := rfl
@[simp] theorem setEngine_occs (s : State) (v : EngineId) (x : Engine) : (s.setEngine v x).occs = s.occs := rfl
@[simp] theorem setEngine_outbox (s : State) (v : EngineId) (x : Engine) : (s.setEngine v x).outbox = s.outbox := rfl
@[simp] theorem setEngine_posted (s : State) (v : EngineId) (x : Engine) : (s.setEngine v x).posted = s.posted := rfl
@[simp] theorem setEngine_mem (s : State) (v : EngineId) (x : Engine) : (s.setEngine v x).mem = s.mem := rfl
@[simp] theorem setEngine_flash (s : State) (v : EngineId) (x : Engine) : (s.setEngine v x).flash = s.flash := rfl
@[simp] theorem setEngine_spokes (s : State) (v : EngineId) (x : Engine) : (s.setEngine v x).spokes = s.spokes := rfl
@[simp] theorem setEngine_pacer (s : State) (v : EngineId) (x : Engine) : (s.setEngine v x).pacer = s.pacer := rfl
@[simp] theorem setEngine_crank (s : State) (v : EngineId) (x : Engine) : (s.setEngine v x).crank = s.crank := rfl
@[simp] theorem setEngine_truing (s : State) (v : EngineId) (x : Engine) : (s.setEngine v x).truing = s.truing := rfl
@[simp] theorem setEngine_hub (s : State) (v : EngineId) (x : Engine) : (s.setEngine v x).hub = s.hub := rfl
@[simp] theorem setEngine_noon (s : State) (v : EngineId) (x : Engine) : (s.setEngine v x).noon = s.noon := rfl
@[simp] theorem setEngine_ports (s : State) (v : EngineId) (x : Engine) : (s.setEngine v x).ports = s.ports := rfl
@[simp] theorem setEngine_fw (s : State) (v : EngineId) (x : Engine) : (s.setEngine v x).fw = s.fw := rfl
@[simp] theorem setEngine_stoker (s : State) (v : EngineId) (x : Engine) : (s.setEngine v x).stoker = s.stoker := rfl
@[simp] theorem setEngine_pair (s : State) (v : EngineId) (x : Engine) : (s.setEngine v x).pair = s.pair := rfl
@[simp] theorem setEngine_hb (s : State) (v : EngineId) (x : Engine) : (s.setEngine v x).hb = s.hb := rfl
@[simp] theorem setEngine_dyn (s : State) (v : EngineId) (x : Engine) : (s.setEngine v x).dyn = s.dyn := rfl
@[simp] theorem setEngine_spoke (s : State) (v : EngineId) (x : Engine) (j : SpokeId) : (s.setEngine v x).spoke j = s.spoke j := rfl
@[simp] theorem setEngine_thread (s : State) (v : EngineId) (x : Engine) (j : ThreadId) : (s.setEngine v x).thread j = s.thread j := rfl
@[simp] theorem setEngine_axis (s : State) (v : EngineId) (x : Engine) (j : AxisId) : (s.setEngine v x).axis j = s.axis j := rfl
@[simp] theorem setEngine_item (s : State) (v : EngineId) (x : Engine) (j : ItemId) : (s.setEngine v x).item j = s.item j := rfl
@[simp] theorem setEngine_req (s : State) (v : EngineId) (x : Engine) (j : SpokeId) : (s.setEngine v x).req j = s.req j := rfl
@[simp] theorem setEngine_port (s : State) (v : EngineId) (x : Engine) (j : PortId) : (s.setEngine v x).port j = s.port j := rfl
@[simp] theorem setEngine_island (s : State) (v : EngineId) (x : Engine) (j : IslandId) : (s.setEngine v x).island j = s.island j := rfl
@[simp] theorem setEngine_vec (s : State) (v : EngineId) (x : Engine) (j : VecId) : (s.setEngine v x).vec j = s.vec j := rfl
@[simp] theorem setEngine_act (s : State) (v : EngineId) (x : Engine) (j : Nat) : (s.setEngine v x).act j = s.act j := rfl
@[simp] theorem setEngine_inDay (s : State) (v : EngineId) (x : Engine) : (s.setEngine v x).inDay = s.inDay := rfl
@[simp] theorem setEngine_alive (s : State) (v : EngineId) (x : Engine) : (s.setEngine v x).alive = s.alive := rfl
@[simp] theorem setEngine_pcieUp (s : State) (v : EngineId) (x : Engine) : (s.setEngine v x).pcieUp = s.pcieUp := rfl
@[simp] theorem setEngine_clocked (s : State) (v : EngineId) (x : Engine) : (s.setEngine v x).clocked = s.clocked := rfl
@[simp] theorem setEngine_outage (s : State) (v : EngineId) (x : Engine) : (s.setEngine v x).outage = s.outage := rfl
@[simp] theorem setEngine_count (s : State) (v : EngineId) (x : Engine) : (s.setEngine v x).count = s.count := rfl
@[simp] theorem setEngine_hostReach (s : State) (v : EngineId) (x : Engine) : (s.setEngine v x).hostReach = s.hostReach := rfl
@[simp] theorem setEngine_due (s : State) (v : EngineId) (x : Engine) (k : IslandId) (d : DT) : (s.setEngine v x).due k d = s.due k d := rfl
@[simp] theorem setEngine_now (s : State) (v : EngineId) (x : Engine) : (s.setEngine v x).now = s.now := rfl
@[simp] theorem setEngine_frozen (s : State) (v : EngineId) (x : Engine) : (s.setEngine v x).frozen = s.frozen := rfl
@[simp] theorem setEngine_slot (s : State) (v : EngineId) (x : Engine) : (s.setEngine v x).slot = s.slot := rfl
@[simp] theorem setEngine_suppressed (s : State) (v : EngineId) (x : Engine) : (s.setEngine v x).suppressed = s.suppressed := rfl
@[simp] theorem setEngine_get (s : State) (v : EngineId) (x : Engine) : (s.setEngine v x).engine v = x := get_set _ _ _
@[simp] theorem setEngine_get_ne (s : State) (v : EngineId) (x : Engine) (j : EngineId) (h : j ≠ v) : (s.setEngine v x).engine j = s.engine j :=
  get_set_ne _ _ _ _ h

@[simp] theorem modAxis_eq (s : State) (a : AxisId) (f : Axis → Axis) : s.modAxis a f = s.setAxis a (f (s.axis a)) := rfl
@[simp] theorem setAxis_pending (s : State) (a : AxisId) (x : Axis) : (s.setAxis a x).pending = s.pending := rfl
@[simp] theorem setAxis_clock (s : State) (a : AxisId) (x : Axis) : (s.setAxis a x).clock = s.clock := rfl
@[simp] theorem setAxis_dt (s : State) (a : AxisId) (x : Axis) : (s.setAxis a x).dt = s.dt := rfl
@[simp] theorem setAxis_dtRuns (s : State) (a : AxisId) (x : Axis) : (s.setAxis a x).dtRuns = s.dtRuns := rfl
@[simp] theorem setAxis_shadow (s : State) (a : AxisId) (x : Axis) : (s.setAxis a x).shadow = s.shadow := rfl
@[simp] theorem setAxis_phase (s : State) (a : AxisId) (x : Axis) : (s.setAxis a x).phase = s.phase := rfl
@[simp] theorem setAxis_evDrops (s : State) (a : AxisId) (x : Axis) : (s.setAxis a x).evDrops = s.evDrops := rfl
@[simp] theorem setAxis_evOwed (s : State) (a : AxisId) (x : Axis) : (s.setAxis a x).evOwed = s.evOwed := rfl
@[simp] theorem setAxis_imm (s : State) (a : AxisId) (x : Axis) : (s.setAxis a x).imm = s.imm := rfl
@[simp] theorem setAxis_isl (s : State) (a : AxisId) (x : Axis) : (s.setAxis a x).isl = s.isl := rfl
@[simp] theorem setAxis_commit (s : State) (a : AxisId) (x : Axis) : (s.setAxis a x).commit = s.commit := rfl
@[simp] theorem setAxis_snap (s : State) (a : AxisId) (x : Axis) : (s.setAxis a x).snap = s.snap := rfl
@[simp] theorem setAxis_occs (s : State) (a : AxisId) (x : Axis) : (s.setAxis a x).occs = s.occs := rfl
@[simp] theorem setAxis_outbox (s : State) (a : AxisId) (x : Axis) : (s.setAxis a x).outbox = s.outbox := rfl
@[simp] theorem setAxis_posted (s : State) (a : AxisId) (x : Axis) : (s.setAxis a x).posted = s.posted := rfl
@[simp] theorem setAxis_mem (s : State) (a : AxisId) (x : Axis) : (s.setAxis a x).mem = s.mem := rfl
@[simp] theorem setAxis_flash (s : State) (a : AxisId) (x : Axis) : (s.setAxis a x).flash = s.flash := rfl
@[simp] theorem setAxis_spokes (s : State) (a : AxisId) (x : Axis) : (s.setAxis a x).spokes = s.spokes := rfl
@[simp] theorem setAxis_pacer (s : State) (a : AxisId) (x : Axis) : (s.setAxis a x).pacer = s.pacer := rfl
@[simp] theorem setAxis_engines (s : State) (a : AxisId) (x : Axis) : (s.setAxis a x).engines = s.engines := rfl
@[simp] theorem setAxis_truing (s : State) (a : AxisId) (x : Axis) : (s.setAxis a x).truing = s.truing := rfl
@[simp] theorem setAxis_hub (s : State) (a : AxisId) (x : Axis) : (s.setAxis a x).hub = s.hub := rfl
@[simp] theorem setAxis_noon (s : State) (a : AxisId) (x : Axis) : (s.setAxis a x).noon = s.noon := rfl
@[simp] theorem setAxis_ports (s : State) (a : AxisId) (x : Axis) : (s.setAxis a x).ports = s.ports := rfl
@[simp] theorem setAxis_fw (s : State) (a : AxisId) (x : Axis) : (s.setAxis a x).fw = s.fw := rfl
@[simp] theorem setAxis_stoker (s : State) (a : AxisId) (x : Axis) : (s.setAxis a x).stoker = s.stoker := rfl
@[simp] theorem setAxis_pair (s : State) (a : AxisId) (x : Axis) : (s.setAxis a x).pair = s.pair := rfl
@[simp] theorem setAxis_hb (s : State) (a : AxisId) (x : Axis) : (s.setAxis a x).hb = s.hb := rfl
@[simp] theorem setAxis_dyn (s : State) (a : AxisId) (x : Axis) : (s.setAxis a x).dyn = s.dyn := rfl
@[simp] theorem setAxis_crank_recIn (s : State) (a : AxisId) (x : Axis) : (s.setAxis a x).crank.recIn = s.crank.recIn := rfl
@[simp] theorem setAxis_crank_segwState (s : State) (a : AxisId) (x : Axis) : (s.setAxis a x).crank.segwState = s.crank.segwState := rfl
@[simp] theorem setAxis_crank_segwCause (s : State) (a : AxisId) (x : Axis) : (s.setAxis a x).crank.segwCause = s.crank.segwCause := rfl
@[simp] theorem setAxis_crank_unmapped (s : State) (a : AxisId) (x : Axis) : (s.setAxis a x).crank.unmapped = s.crank.unmapped := rfl
@[simp] theorem setAxis_spoke (s : State) (a : AxisId) (x : Axis) (j : SpokeId) : (s.setAxis a x).spoke j = s.spoke j := rfl
@[simp] theorem setAxis_thread (s : State) (a : AxisId) (x : Axis) (j : ThreadId) : (s.setAxis a x).thread j = s.thread j := rfl
@[simp] theorem setAxis_engine (s : State) (a : AxisId) (x : Axis) (j : EngineId) : (s.setAxis a x).engine j = s.engine j := rfl
@[simp] theorem setAxis_item (s : State) (a : AxisId) (x : Axis) (j : ItemId) : (s.setAxis a x).item j = s.item j := rfl
@[simp] theorem setAxis_req (s : State) (a : AxisId) (x : Axis) (j : SpokeId) : (s.setAxis a x).req j = s.req j := rfl
@[simp] theorem setAxis_port (s : State) (a : AxisId) (x : Axis) (j : PortId) : (s.setAxis a x).port j = s.port j := rfl
@[simp] theorem setAxis_island (s : State) (a : AxisId) (x : Axis) (j : IslandId) : (s.setAxis a x).island j = s.island j := rfl
@[simp] theorem setAxis_vec (s : State) (a : AxisId) (x : Axis) (j : VecId) : (s.setAxis a x).vec j = s.vec j := rfl
@[simp] theorem setAxis_act (s : State) (a : AxisId) (x : Axis) (j : Nat) : (s.setAxis a x).act j = s.act j := rfl
@[simp] theorem setAxis_inDay (s : State) (a : AxisId) (x : Axis) : (s.setAxis a x).inDay = s.inDay := rfl
@[simp] theorem setAxis_alive (s : State) (a : AxisId) (x : Axis) : (s.setAxis a x).alive = s.alive := rfl
@[simp] theorem setAxis_pcieUp (s : State) (a : AxisId) (x : Axis) : (s.setAxis a x).pcieUp = s.pcieUp := rfl
@[simp] theorem setAxis_clocked (s : State) (a : AxisId) (x : Axis) : (s.setAxis a x).clocked = s.clocked := rfl
@[simp] theorem setAxis_outage (s : State) (a : AxisId) (x : Axis) : (s.setAxis a x).outage = s.outage := rfl
@[simp] theorem setAxis_count (s : State) (a : AxisId) (x : Axis) : (s.setAxis a x).count = s.count := rfl
@[simp] theorem setAxis_hostReach (s : State) (a : AxisId) (x : Axis) : (s.setAxis a x).hostReach = s.hostReach := rfl
@[simp] theorem setAxis_due (s : State) (a : AxisId) (x : Axis) (k : IslandId) (d : DT) : (s.setAxis a x).due k d = s.due k d := rfl
@[simp] theorem setAxis_now (s : State) (a : AxisId) (x : Axis) : (s.setAxis a x).now = s.now := rfl
@[simp] theorem setAxis_frozen (s : State) (a : AxisId) (x : Axis) : (s.setAxis a x).frozen = s.frozen := rfl
@[simp] theorem setAxis_slot (s : State) (a : AxisId) (x : Axis) : (s.setAxis a x).slot = s.slot := rfl
@[simp] theorem setAxis_suppressed (s : State) (a : AxisId) (x : Axis) : (s.setAxis a x).suppressed = s.suppressed := rfl
@[simp] theorem setAxis_get (s : State) (a : AxisId) (x : Axis) : (s.setAxis a x).axis a = x := get_set _ _ _
@[simp] theorem setAxis_get_ne (s : State) (a : AxisId) (x : Axis) (j : AxisId) (h : j ≠ a) : (s.setAxis a x).axis j = s.axis j :=
  get_set_ne _ _ _ _ h

@[simp] theorem modItem_eq (s : State) (i : ItemId) (f : TruItem → TruItem) : s.modItem i f = s.setItem i (f (s.item i)) := rfl
@[simp] theorem setItem_pending (s : State) (i : ItemId) (x : TruItem) : (s.setItem i x).pending = s.pending := rfl
@[simp] theorem setItem_clock (s : State) (i : ItemId) (x : TruItem) : (s.setItem i x).clock = s.clock := rfl
@[simp] theorem setItem_dt (s : State) (i : ItemId) (x : TruItem) : (s.setItem i x).dt = s.dt := rfl
@[simp] theorem setItem_dtRuns (s : State) (i : ItemId) (x : TruItem) : (s.setItem i x).dtRuns = s.dtRuns := rfl
@[simp] theorem setItem_shadow (s : State) (i : ItemId) (x : TruItem) : (s.setItem i x).shadow = s.shadow := rfl
@[simp] theorem setItem_phase (s : State) (i : ItemId) (x : TruItem) : (s.setItem i x).phase = s.phase := rfl
@[simp] theorem setItem_evDrops (s : State) (i : ItemId) (x : TruItem) : (s.setItem i x).evDrops = s.evDrops := rfl
@[simp] theorem setItem_evOwed (s : State) (i : ItemId) (x : TruItem) : (s.setItem i x).evOwed = s.evOwed := rfl
@[simp] theorem setItem_imm (s : State) (i : ItemId) (x : TruItem) : (s.setItem i x).imm = s.imm := rfl
@[simp] theorem setItem_isl (s : State) (i : ItemId) (x : TruItem) : (s.setItem i x).isl = s.isl := rfl
@[simp] theorem setItem_commit (s : State) (i : ItemId) (x : TruItem) : (s.setItem i x).commit = s.commit := rfl
@[simp] theorem setItem_snap (s : State) (i : ItemId) (x : TruItem) : (s.setItem i x).snap = s.snap := rfl
@[simp] theorem setItem_occs (s : State) (i : ItemId) (x : TruItem) : (s.setItem i x).occs = s.occs := rfl
@[simp] theorem setItem_outbox (s : State) (i : ItemId) (x : TruItem) : (s.setItem i x).outbox = s.outbox := rfl
@[simp] theorem setItem_posted (s : State) (i : ItemId) (x : TruItem) : (s.setItem i x).posted = s.posted := rfl
@[simp] theorem setItem_mem (s : State) (i : ItemId) (x : TruItem) : (s.setItem i x).mem = s.mem := rfl
@[simp] theorem setItem_flash (s : State) (i : ItemId) (x : TruItem) : (s.setItem i x).flash = s.flash := rfl
@[simp] theorem setItem_spokes (s : State) (i : ItemId) (x : TruItem) : (s.setItem i x).spokes = s.spokes := rfl
@[simp] theorem setItem_pacer (s : State) (i : ItemId) (x : TruItem) : (s.setItem i x).pacer = s.pacer := rfl
@[simp] theorem setItem_engines (s : State) (i : ItemId) (x : TruItem) : (s.setItem i x).engines = s.engines := rfl
@[simp] theorem setItem_crank (s : State) (i : ItemId) (x : TruItem) : (s.setItem i x).crank = s.crank := rfl
@[simp] theorem setItem_hub (s : State) (i : ItemId) (x : TruItem) : (s.setItem i x).hub = s.hub := rfl
@[simp] theorem setItem_noon (s : State) (i : ItemId) (x : TruItem) : (s.setItem i x).noon = s.noon := rfl
@[simp] theorem setItem_ports (s : State) (i : ItemId) (x : TruItem) : (s.setItem i x).ports = s.ports := rfl
@[simp] theorem setItem_fw (s : State) (i : ItemId) (x : TruItem) : (s.setItem i x).fw = s.fw := rfl
@[simp] theorem setItem_stoker (s : State) (i : ItemId) (x : TruItem) : (s.setItem i x).stoker = s.stoker := rfl
@[simp] theorem setItem_pair (s : State) (i : ItemId) (x : TruItem) : (s.setItem i x).pair = s.pair := rfl
@[simp] theorem setItem_hb (s : State) (i : ItemId) (x : TruItem) : (s.setItem i x).hb = s.hb := rfl
@[simp] theorem setItem_dyn (s : State) (i : ItemId) (x : TruItem) : (s.setItem i x).dyn = s.dyn := rfl
@[simp] theorem setItem_truing_reqs (s : State) (i : ItemId) (x : TruItem) : (s.setItem i x).truing.reqs = s.truing.reqs := rfl
@[simp] theorem setItem_truing_turn (s : State) (i : ItemId) (x : TruItem) : (s.setItem i x).truing.turn = s.truing.turn := rfl
@[simp] theorem setItem_truing_storeState (s : State) (i : ItemId) (x : TruItem) : (s.setItem i x).truing.storeState = s.truing.storeState := rfl
@[simp] theorem setItem_truing_newest (s : State) (i : ItemId) (x : TruItem) : (s.setItem i x).truing.newest = s.truing.newest := rfl
@[simp] theorem setItem_truing_noSlot (s : State) (i : ItemId) (x : TruItem) : (s.setItem i x).truing.noSlot = s.truing.noSlot := rfl
@[simp] theorem setItem_truing_gen (s : State) (i : ItemId) (x : TruItem) : (s.setItem i x).truing.gen = s.truing.gen := rfl
@[simp] theorem setItem_truing_saved (s : State) (i : ItemId) (x : TruItem) : (s.setItem i x).truing.saved = s.truing.saved := rfl
@[simp] theorem setItem_truing_abandonedCnt (s : State) (i : ItemId) (x : TruItem) : (s.setItem i x).truing.abandonedCnt = s.truing.abandonedCnt := rfl
@[simp] theorem setItem_truing_job (s : State) (i : ItemId) (x : TruItem) : (s.setItem i x).truing.job = s.truing.job := rfl
@[simp] theorem setItem_truing_pageTo (s : State) (i : ItemId) (x : TruItem) : (s.setItem i x).truing.pageTo = s.truing.pageTo := rfl
@[simp] theorem setItem_truing_lastStore (s : State) (i : ItemId) (x : TruItem) : (s.setItem i x).truing.lastStore = s.truing.lastStore := rfl
@[simp] theorem setItem_truing_dirty (s : State) (i : ItemId) (x : TruItem) : (s.setItem i x).truing.dirty = s.truing.dirty := rfl
@[simp] theorem setItem_truing_afterRun (s : State) (i : ItemId) (x : TruItem) : (s.setItem i x).truing.afterRun = s.truing.afterRun := rfl
@[simp] theorem setItem_truing_slotA (s : State) (i : ItemId) (x : TruItem) : (s.setItem i x).truing.slotA = s.truing.slotA := rfl
@[simp] theorem setItem_truing_slotB (s : State) (i : ItemId) (x : TruItem) : (s.setItem i x).truing.slotB = s.truing.slotB := rfl
@[simp] theorem setItem_spoke (s : State) (i : ItemId) (x : TruItem) (j : SpokeId) : (s.setItem i x).spoke j = s.spoke j := rfl
@[simp] theorem setItem_thread (s : State) (i : ItemId) (x : TruItem) (j : ThreadId) : (s.setItem i x).thread j = s.thread j := rfl
@[simp] theorem setItem_engine (s : State) (i : ItemId) (x : TruItem) (j : EngineId) : (s.setItem i x).engine j = s.engine j := rfl
@[simp] theorem setItem_axis (s : State) (i : ItemId) (x : TruItem) (j : AxisId) : (s.setItem i x).axis j = s.axis j := rfl
@[simp] theorem setItem_req (s : State) (i : ItemId) (x : TruItem) (j : SpokeId) : (s.setItem i x).req j = s.req j := rfl
@[simp] theorem setItem_port (s : State) (i : ItemId) (x : TruItem) (j : PortId) : (s.setItem i x).port j = s.port j := rfl
@[simp] theorem setItem_island (s : State) (i : ItemId) (x : TruItem) (j : IslandId) : (s.setItem i x).island j = s.island j := rfl
@[simp] theorem setItem_vec (s : State) (i : ItemId) (x : TruItem) (j : VecId) : (s.setItem i x).vec j = s.vec j := rfl
@[simp] theorem setItem_act (s : State) (i : ItemId) (x : TruItem) (j : Nat) : (s.setItem i x).act j = s.act j := rfl
@[simp] theorem setItem_inDay (s : State) (i : ItemId) (x : TruItem) : (s.setItem i x).inDay = s.inDay := rfl
@[simp] theorem setItem_alive (s : State) (i : ItemId) (x : TruItem) : (s.setItem i x).alive = s.alive := rfl
@[simp] theorem setItem_pcieUp (s : State) (i : ItemId) (x : TruItem) : (s.setItem i x).pcieUp = s.pcieUp := rfl
@[simp] theorem setItem_clocked (s : State) (i : ItemId) (x : TruItem) : (s.setItem i x).clocked = s.clocked := rfl
@[simp] theorem setItem_outage (s : State) (i : ItemId) (x : TruItem) : (s.setItem i x).outage = s.outage := rfl
@[simp] theorem setItem_count (s : State) (i : ItemId) (x : TruItem) : (s.setItem i x).count = s.count := rfl
@[simp] theorem setItem_hostReach (s : State) (i : ItemId) (x : TruItem) : (s.setItem i x).hostReach = s.hostReach := rfl
@[simp] theorem setItem_due (s : State) (i : ItemId) (x : TruItem) (k : IslandId) (d : DT) : (s.setItem i x).due k d = s.due k d := rfl
@[simp] theorem setItem_now (s : State) (i : ItemId) (x : TruItem) : (s.setItem i x).now = s.now := rfl
@[simp] theorem setItem_frozen (s : State) (i : ItemId) (x : TruItem) : (s.setItem i x).frozen = s.frozen := rfl
@[simp] theorem setItem_slot (s : State) (i : ItemId) (x : TruItem) : (s.setItem i x).slot = s.slot := rfl
@[simp] theorem setItem_suppressed (s : State) (i : ItemId) (x : TruItem) : (s.setItem i x).suppressed = s.suppressed := rfl
@[simp] theorem setItem_get (s : State) (i : ItemId) (x : TruItem) : (s.setItem i x).item i = x := get_set _ _ _
@[simp] theorem setItem_get_ne (s : State) (i : ItemId) (x : TruItem) (j : ItemId) (h : j ≠ i) : (s.setItem i x).item j = s.item j :=
  get_set_ne _ _ _ _ h

@[simp] theorem modReq_eq (s : State) (i : SpokeId) (f : TruReq → TruReq) : s.modReq i f = s.setReq i (f (s.req i)) := rfl
@[simp] theorem setReq_pending (s : State) (i : SpokeId) (x : TruReq) : (s.setReq i x).pending = s.pending := rfl
@[simp] theorem setReq_clock (s : State) (i : SpokeId) (x : TruReq) : (s.setReq i x).clock = s.clock := rfl
@[simp] theorem setReq_dt (s : State) (i : SpokeId) (x : TruReq) : (s.setReq i x).dt = s.dt := rfl
@[simp] theorem setReq_dtRuns (s : State) (i : SpokeId) (x : TruReq) : (s.setReq i x).dtRuns = s.dtRuns := rfl
@[simp] theorem setReq_shadow (s : State) (i : SpokeId) (x : TruReq) : (s.setReq i x).shadow = s.shadow := rfl
@[simp] theorem setReq_phase (s : State) (i : SpokeId) (x : TruReq) : (s.setReq i x).phase = s.phase := rfl
@[simp] theorem setReq_evDrops (s : State) (i : SpokeId) (x : TruReq) : (s.setReq i x).evDrops = s.evDrops := rfl
@[simp] theorem setReq_evOwed (s : State) (i : SpokeId) (x : TruReq) : (s.setReq i x).evOwed = s.evOwed := rfl
@[simp] theorem setReq_imm (s : State) (i : SpokeId) (x : TruReq) : (s.setReq i x).imm = s.imm := rfl
@[simp] theorem setReq_isl (s : State) (i : SpokeId) (x : TruReq) : (s.setReq i x).isl = s.isl := rfl
@[simp] theorem setReq_commit (s : State) (i : SpokeId) (x : TruReq) : (s.setReq i x).commit = s.commit := rfl
@[simp] theorem setReq_snap (s : State) (i : SpokeId) (x : TruReq) : (s.setReq i x).snap = s.snap := rfl
@[simp] theorem setReq_occs (s : State) (i : SpokeId) (x : TruReq) : (s.setReq i x).occs = s.occs := rfl
@[simp] theorem setReq_outbox (s : State) (i : SpokeId) (x : TruReq) : (s.setReq i x).outbox = s.outbox := rfl
@[simp] theorem setReq_posted (s : State) (i : SpokeId) (x : TruReq) : (s.setReq i x).posted = s.posted := rfl
@[simp] theorem setReq_mem (s : State) (i : SpokeId) (x : TruReq) : (s.setReq i x).mem = s.mem := rfl
@[simp] theorem setReq_flash (s : State) (i : SpokeId) (x : TruReq) : (s.setReq i x).flash = s.flash := rfl
@[simp] theorem setReq_spokes (s : State) (i : SpokeId) (x : TruReq) : (s.setReq i x).spokes = s.spokes := rfl
@[simp] theorem setReq_pacer (s : State) (i : SpokeId) (x : TruReq) : (s.setReq i x).pacer = s.pacer := rfl
@[simp] theorem setReq_engines (s : State) (i : SpokeId) (x : TruReq) : (s.setReq i x).engines = s.engines := rfl
@[simp] theorem setReq_crank (s : State) (i : SpokeId) (x : TruReq) : (s.setReq i x).crank = s.crank := rfl
@[simp] theorem setReq_hub (s : State) (i : SpokeId) (x : TruReq) : (s.setReq i x).hub = s.hub := rfl
@[simp] theorem setReq_noon (s : State) (i : SpokeId) (x : TruReq) : (s.setReq i x).noon = s.noon := rfl
@[simp] theorem setReq_ports (s : State) (i : SpokeId) (x : TruReq) : (s.setReq i x).ports = s.ports := rfl
@[simp] theorem setReq_fw (s : State) (i : SpokeId) (x : TruReq) : (s.setReq i x).fw = s.fw := rfl
@[simp] theorem setReq_stoker (s : State) (i : SpokeId) (x : TruReq) : (s.setReq i x).stoker = s.stoker := rfl
@[simp] theorem setReq_pair (s : State) (i : SpokeId) (x : TruReq) : (s.setReq i x).pair = s.pair := rfl
@[simp] theorem setReq_hb (s : State) (i : SpokeId) (x : TruReq) : (s.setReq i x).hb = s.hb := rfl
@[simp] theorem setReq_dyn (s : State) (i : SpokeId) (x : TruReq) : (s.setReq i x).dyn = s.dyn := rfl
@[simp] theorem setReq_truing_items (s : State) (i : SpokeId) (x : TruReq) : (s.setReq i x).truing.items = s.truing.items := rfl
@[simp] theorem setReq_truing_turn (s : State) (i : SpokeId) (x : TruReq) : (s.setReq i x).truing.turn = s.truing.turn := rfl
@[simp] theorem setReq_truing_storeState (s : State) (i : SpokeId) (x : TruReq) : (s.setReq i x).truing.storeState = s.truing.storeState := rfl
@[simp] theorem setReq_truing_newest (s : State) (i : SpokeId) (x : TruReq) : (s.setReq i x).truing.newest = s.truing.newest := rfl
@[simp] theorem setReq_truing_noSlot (s : State) (i : SpokeId) (x : TruReq) : (s.setReq i x).truing.noSlot = s.truing.noSlot := rfl
@[simp] theorem setReq_truing_gen (s : State) (i : SpokeId) (x : TruReq) : (s.setReq i x).truing.gen = s.truing.gen := rfl
@[simp] theorem setReq_truing_saved (s : State) (i : SpokeId) (x : TruReq) : (s.setReq i x).truing.saved = s.truing.saved := rfl
@[simp] theorem setReq_truing_abandonedCnt (s : State) (i : SpokeId) (x : TruReq) : (s.setReq i x).truing.abandonedCnt = s.truing.abandonedCnt := rfl
@[simp] theorem setReq_truing_job (s : State) (i : SpokeId) (x : TruReq) : (s.setReq i x).truing.job = s.truing.job := rfl
@[simp] theorem setReq_truing_pageTo (s : State) (i : SpokeId) (x : TruReq) : (s.setReq i x).truing.pageTo = s.truing.pageTo := rfl
@[simp] theorem setReq_truing_lastStore (s : State) (i : SpokeId) (x : TruReq) : (s.setReq i x).truing.lastStore = s.truing.lastStore := rfl
@[simp] theorem setReq_truing_dirty (s : State) (i : SpokeId) (x : TruReq) : (s.setReq i x).truing.dirty = s.truing.dirty := rfl
@[simp] theorem setReq_truing_afterRun (s : State) (i : SpokeId) (x : TruReq) : (s.setReq i x).truing.afterRun = s.truing.afterRun := rfl
@[simp] theorem setReq_truing_slotA (s : State) (i : SpokeId) (x : TruReq) : (s.setReq i x).truing.slotA = s.truing.slotA := rfl
@[simp] theorem setReq_truing_slotB (s : State) (i : SpokeId) (x : TruReq) : (s.setReq i x).truing.slotB = s.truing.slotB := rfl
@[simp] theorem setReq_spoke (s : State) (i : SpokeId) (x : TruReq) (j : SpokeId) : (s.setReq i x).spoke j = s.spoke j := rfl
@[simp] theorem setReq_thread (s : State) (i : SpokeId) (x : TruReq) (j : ThreadId) : (s.setReq i x).thread j = s.thread j := rfl
@[simp] theorem setReq_engine (s : State) (i : SpokeId) (x : TruReq) (j : EngineId) : (s.setReq i x).engine j = s.engine j := rfl
@[simp] theorem setReq_axis (s : State) (i : SpokeId) (x : TruReq) (j : AxisId) : (s.setReq i x).axis j = s.axis j := rfl
@[simp] theorem setReq_item (s : State) (i : SpokeId) (x : TruReq) (j : ItemId) : (s.setReq i x).item j = s.item j := rfl
@[simp] theorem setReq_port (s : State) (i : SpokeId) (x : TruReq) (j : PortId) : (s.setReq i x).port j = s.port j := rfl
@[simp] theorem setReq_island (s : State) (i : SpokeId) (x : TruReq) (j : IslandId) : (s.setReq i x).island j = s.island j := rfl
@[simp] theorem setReq_vec (s : State) (i : SpokeId) (x : TruReq) (j : VecId) : (s.setReq i x).vec j = s.vec j := rfl
@[simp] theorem setReq_act (s : State) (i : SpokeId) (x : TruReq) (j : Nat) : (s.setReq i x).act j = s.act j := rfl
@[simp] theorem setReq_inDay (s : State) (i : SpokeId) (x : TruReq) : (s.setReq i x).inDay = s.inDay := rfl
@[simp] theorem setReq_alive (s : State) (i : SpokeId) (x : TruReq) : (s.setReq i x).alive = s.alive := rfl
@[simp] theorem setReq_pcieUp (s : State) (i : SpokeId) (x : TruReq) : (s.setReq i x).pcieUp = s.pcieUp := rfl
@[simp] theorem setReq_clocked (s : State) (i : SpokeId) (x : TruReq) : (s.setReq i x).clocked = s.clocked := rfl
@[simp] theorem setReq_outage (s : State) (i : SpokeId) (x : TruReq) : (s.setReq i x).outage = s.outage := rfl
@[simp] theorem setReq_count (s : State) (i : SpokeId) (x : TruReq) : (s.setReq i x).count = s.count := rfl
@[simp] theorem setReq_hostReach (s : State) (i : SpokeId) (x : TruReq) : (s.setReq i x).hostReach = s.hostReach := rfl
@[simp] theorem setReq_due (s : State) (i : SpokeId) (x : TruReq) (k : IslandId) (d : DT) : (s.setReq i x).due k d = s.due k d := rfl
@[simp] theorem setReq_now (s : State) (i : SpokeId) (x : TruReq) : (s.setReq i x).now = s.now := rfl
@[simp] theorem setReq_frozen (s : State) (i : SpokeId) (x : TruReq) : (s.setReq i x).frozen = s.frozen := rfl
@[simp] theorem setReq_slot (s : State) (i : SpokeId) (x : TruReq) : (s.setReq i x).slot = s.slot := rfl
@[simp] theorem setReq_suppressed (s : State) (i : SpokeId) (x : TruReq) : (s.setReq i x).suppressed = s.suppressed := rfl
@[simp] theorem setReq_get (s : State) (i : SpokeId) (x : TruReq) : (s.setReq i x).req i = x := get_set _ _ _
@[simp] theorem setReq_get_ne (s : State) (i : SpokeId) (x : TruReq) (j : SpokeId) (h : j ≠ i) : (s.setReq i x).req j = s.req j :=
  get_set_ne _ _ _ _ h

@[simp] theorem modPort_eq (s : State) (c : PortId) (f : Port → Port) : s.modPort c f = s.setPort c (f (s.port c)) := rfl
@[simp] theorem setPort_pending (s : State) (c : PortId) (x : Port) : (s.setPort c x).pending = s.pending := rfl
@[simp] theorem setPort_clock (s : State) (c : PortId) (x : Port) : (s.setPort c x).clock = s.clock := rfl
@[simp] theorem setPort_dt (s : State) (c : PortId) (x : Port) : (s.setPort c x).dt = s.dt := rfl
@[simp] theorem setPort_dtRuns (s : State) (c : PortId) (x : Port) : (s.setPort c x).dtRuns = s.dtRuns := rfl
@[simp] theorem setPort_shadow (s : State) (c : PortId) (x : Port) : (s.setPort c x).shadow = s.shadow := rfl
@[simp] theorem setPort_phase (s : State) (c : PortId) (x : Port) : (s.setPort c x).phase = s.phase := rfl
@[simp] theorem setPort_evDrops (s : State) (c : PortId) (x : Port) : (s.setPort c x).evDrops = s.evDrops := rfl
@[simp] theorem setPort_evOwed (s : State) (c : PortId) (x : Port) : (s.setPort c x).evOwed = s.evOwed := rfl
@[simp] theorem setPort_imm (s : State) (c : PortId) (x : Port) : (s.setPort c x).imm = s.imm := rfl
@[simp] theorem setPort_isl (s : State) (c : PortId) (x : Port) : (s.setPort c x).isl = s.isl := rfl
@[simp] theorem setPort_commit (s : State) (c : PortId) (x : Port) : (s.setPort c x).commit = s.commit := rfl
@[simp] theorem setPort_snap (s : State) (c : PortId) (x : Port) : (s.setPort c x).snap = s.snap := rfl
@[simp] theorem setPort_occs (s : State) (c : PortId) (x : Port) : (s.setPort c x).occs = s.occs := rfl
@[simp] theorem setPort_outbox (s : State) (c : PortId) (x : Port) : (s.setPort c x).outbox = s.outbox := rfl
@[simp] theorem setPort_posted (s : State) (c : PortId) (x : Port) : (s.setPort c x).posted = s.posted := rfl
@[simp] theorem setPort_mem (s : State) (c : PortId) (x : Port) : (s.setPort c x).mem = s.mem := rfl
@[simp] theorem setPort_flash (s : State) (c : PortId) (x : Port) : (s.setPort c x).flash = s.flash := rfl
@[simp] theorem setPort_spokes (s : State) (c : PortId) (x : Port) : (s.setPort c x).spokes = s.spokes := rfl
@[simp] theorem setPort_pacer (s : State) (c : PortId) (x : Port) : (s.setPort c x).pacer = s.pacer := rfl
@[simp] theorem setPort_engines (s : State) (c : PortId) (x : Port) : (s.setPort c x).engines = s.engines := rfl
@[simp] theorem setPort_crank (s : State) (c : PortId) (x : Port) : (s.setPort c x).crank = s.crank := rfl
@[simp] theorem setPort_truing (s : State) (c : PortId) (x : Port) : (s.setPort c x).truing = s.truing := rfl
@[simp] theorem setPort_hub (s : State) (c : PortId) (x : Port) : (s.setPort c x).hub = s.hub := rfl
@[simp] theorem setPort_noon (s : State) (c : PortId) (x : Port) : (s.setPort c x).noon = s.noon := rfl
@[simp] theorem setPort_fw (s : State) (c : PortId) (x : Port) : (s.setPort c x).fw = s.fw := rfl
@[simp] theorem setPort_stoker (s : State) (c : PortId) (x : Port) : (s.setPort c x).stoker = s.stoker := rfl
@[simp] theorem setPort_pair (s : State) (c : PortId) (x : Port) : (s.setPort c x).pair = s.pair := rfl
@[simp] theorem setPort_hb (s : State) (c : PortId) (x : Port) : (s.setPort c x).hb = s.hb := rfl
@[simp] theorem setPort_dyn (s : State) (c : PortId) (x : Port) : (s.setPort c x).dyn = s.dyn := rfl
@[simp] theorem setPort_spoke (s : State) (c : PortId) (x : Port) (j : SpokeId) : (s.setPort c x).spoke j = s.spoke j := rfl
@[simp] theorem setPort_thread (s : State) (c : PortId) (x : Port) (j : ThreadId) : (s.setPort c x).thread j = s.thread j := rfl
@[simp] theorem setPort_engine (s : State) (c : PortId) (x : Port) (j : EngineId) : (s.setPort c x).engine j = s.engine j := rfl
@[simp] theorem setPort_axis (s : State) (c : PortId) (x : Port) (j : AxisId) : (s.setPort c x).axis j = s.axis j := rfl
@[simp] theorem setPort_item (s : State) (c : PortId) (x : Port) (j : ItemId) : (s.setPort c x).item j = s.item j := rfl
@[simp] theorem setPort_req (s : State) (c : PortId) (x : Port) (j : SpokeId) : (s.setPort c x).req j = s.req j := rfl
@[simp] theorem setPort_island (s : State) (c : PortId) (x : Port) (j : IslandId) : (s.setPort c x).island j = s.island j := rfl
@[simp] theorem setPort_vec (s : State) (c : PortId) (x : Port) (j : VecId) : (s.setPort c x).vec j = s.vec j := rfl
@[simp] theorem setPort_act (s : State) (c : PortId) (x : Port) (j : Nat) : (s.setPort c x).act j = s.act j := rfl
@[simp] theorem setPort_inDay (s : State) (c : PortId) (x : Port) : (s.setPort c x).inDay = s.inDay := rfl
@[simp] theorem setPort_alive (s : State) (c : PortId) (x : Port) : (s.setPort c x).alive = s.alive := rfl
@[simp] theorem setPort_pcieUp (s : State) (c : PortId) (x : Port) : (s.setPort c x).pcieUp = s.pcieUp := rfl
@[simp] theorem setPort_clocked (s : State) (c : PortId) (x : Port) : (s.setPort c x).clocked = s.clocked := rfl
@[simp] theorem setPort_outage (s : State) (c : PortId) (x : Port) : (s.setPort c x).outage = s.outage := rfl
@[simp] theorem setPort_count (s : State) (c : PortId) (x : Port) : (s.setPort c x).count = s.count := rfl
@[simp] theorem setPort_hostReach (s : State) (c : PortId) (x : Port) : (s.setPort c x).hostReach = s.hostReach := rfl
@[simp] theorem setPort_now (s : State) (c : PortId) (x : Port) : (s.setPort c x).now = s.now := rfl
@[simp] theorem setPort_frozen (s : State) (c : PortId) (x : Port) : (s.setPort c x).frozen = s.frozen := rfl
@[simp] theorem setPort_slot (s : State) (c : PortId) (x : Port) : (s.setPort c x).slot = s.slot := rfl
@[simp] theorem setPort_suppressed (s : State) (c : PortId) (x : Port) : (s.setPort c x).suppressed = s.suppressed := rfl
@[simp] theorem setPort_get (s : State) (c : PortId) (x : Port) : (s.setPort c x).port c = x := get_set _ _ _
@[simp] theorem setPort_get_ne (s : State) (c : PortId) (x : Port) (j : PortId) (h : j ≠ c) : (s.setPort c x).port j = s.port j :=
  get_set_ne _ _ _ _ h

@[simp] theorem modIsland_eq (s : State) (i : IslandId) (f : Isl → Isl) : s.modIsland i f = s.setIsland i (f (s.island i)) := rfl
@[simp] theorem setIsland_pending (s : State) (i : IslandId) (x : Isl) : (s.setIsland i x).pending = s.pending := rfl
@[simp] theorem setIsland_clock (s : State) (i : IslandId) (x : Isl) : (s.setIsland i x).clock = s.clock := rfl
@[simp] theorem setIsland_dt (s : State) (i : IslandId) (x : Isl) : (s.setIsland i x).dt = s.dt := rfl
@[simp] theorem setIsland_dtRuns (s : State) (i : IslandId) (x : Isl) : (s.setIsland i x).dtRuns = s.dtRuns := rfl
@[simp] theorem setIsland_shadow (s : State) (i : IslandId) (x : Isl) : (s.setIsland i x).shadow = s.shadow := rfl
@[simp] theorem setIsland_phase (s : State) (i : IslandId) (x : Isl) : (s.setIsland i x).phase = s.phase := rfl
@[simp] theorem setIsland_evDrops (s : State) (i : IslandId) (x : Isl) : (s.setIsland i x).evDrops = s.evDrops := rfl
@[simp] theorem setIsland_evOwed (s : State) (i : IslandId) (x : Isl) : (s.setIsland i x).evOwed = s.evOwed := rfl
@[simp] theorem setIsland_imm (s : State) (i : IslandId) (x : Isl) : (s.setIsland i x).imm = s.imm := rfl
@[simp] theorem setIsland_commit (s : State) (i : IslandId) (x : Isl) : (s.setIsland i x).commit = s.commit := rfl
@[simp] theorem setIsland_snap (s : State) (i : IslandId) (x : Isl) : (s.setIsland i x).snap = s.snap := rfl
@[simp] theorem setIsland_occs (s : State) (i : IslandId) (x : Isl) : (s.setIsland i x).occs = s.occs := rfl
@[simp] theorem setIsland_outbox (s : State) (i : IslandId) (x : Isl) : (s.setIsland i x).outbox = s.outbox := rfl
@[simp] theorem setIsland_posted (s : State) (i : IslandId) (x : Isl) : (s.setIsland i x).posted = s.posted := rfl
@[simp] theorem setIsland_mem (s : State) (i : IslandId) (x : Isl) : (s.setIsland i x).mem = s.mem := rfl
@[simp] theorem setIsland_flash (s : State) (i : IslandId) (x : Isl) : (s.setIsland i x).flash = s.flash := rfl
@[simp] theorem setIsland_spokes (s : State) (i : IslandId) (x : Isl) : (s.setIsland i x).spokes = s.spokes := rfl
@[simp] theorem setIsland_pacer (s : State) (i : IslandId) (x : Isl) : (s.setIsland i x).pacer = s.pacer := rfl
@[simp] theorem setIsland_engines (s : State) (i : IslandId) (x : Isl) : (s.setIsland i x).engines = s.engines := rfl
@[simp] theorem setIsland_crank (s : State) (i : IslandId) (x : Isl) : (s.setIsland i x).crank = s.crank := rfl
@[simp] theorem setIsland_truing (s : State) (i : IslandId) (x : Isl) : (s.setIsland i x).truing = s.truing := rfl
@[simp] theorem setIsland_hub (s : State) (i : IslandId) (x : Isl) : (s.setIsland i x).hub = s.hub := rfl
@[simp] theorem setIsland_noon (s : State) (i : IslandId) (x : Isl) : (s.setIsland i x).noon = s.noon := rfl
@[simp] theorem setIsland_ports (s : State) (i : IslandId) (x : Isl) : (s.setIsland i x).ports = s.ports := rfl
@[simp] theorem setIsland_fw (s : State) (i : IslandId) (x : Isl) : (s.setIsland i x).fw = s.fw := rfl
@[simp] theorem setIsland_stoker (s : State) (i : IslandId) (x : Isl) : (s.setIsland i x).stoker = s.stoker := rfl
@[simp] theorem setIsland_pair (s : State) (i : IslandId) (x : Isl) : (s.setIsland i x).pair = s.pair := rfl
@[simp] theorem setIsland_hb (s : State) (i : IslandId) (x : Isl) : (s.setIsland i x).hb = s.hb := rfl
@[simp] theorem setIsland_dyn (s : State) (i : IslandId) (x : Isl) : (s.setIsland i x).dyn = s.dyn := rfl
@[simp] theorem setIsland_spoke (s : State) (i : IslandId) (x : Isl) (j : SpokeId) : (s.setIsland i x).spoke j = s.spoke j := rfl
@[simp] theorem setIsland_thread (s : State) (i : IslandId) (x : Isl) (j : ThreadId) : (s.setIsland i x).thread j = s.thread j := rfl
@[simp] theorem setIsland_engine (s : State) (i : IslandId) (x : Isl) (j : EngineId) : (s.setIsland i x).engine j = s.engine j := rfl
@[simp] theorem setIsland_axis (s : State) (i : IslandId) (x : Isl) (j : AxisId) : (s.setIsland i x).axis j = s.axis j := rfl
@[simp] theorem setIsland_item (s : State) (i : IslandId) (x : Isl) (j : ItemId) : (s.setIsland i x).item j = s.item j := rfl
@[simp] theorem setIsland_req (s : State) (i : IslandId) (x : Isl) (j : SpokeId) : (s.setIsland i x).req j = s.req j := rfl
@[simp] theorem setIsland_port (s : State) (i : IslandId) (x : Isl) (j : PortId) : (s.setIsland i x).port j = s.port j := rfl
@[simp] theorem setIsland_vec (s : State) (i : IslandId) (x : Isl) (j : VecId) : (s.setIsland i x).vec j = s.vec j := rfl
@[simp] theorem setIsland_inDay (s : State) (i : IslandId) (x : Isl) : (s.setIsland i x).inDay = s.inDay := rfl
@[simp] theorem setIsland_alive (s : State) (i : IslandId) (x : Isl) : (s.setIsland i x).alive = s.alive := rfl
@[simp] theorem setIsland_pcieUp (s : State) (i : IslandId) (x : Isl) : (s.setIsland i x).pcieUp = s.pcieUp := rfl
@[simp] theorem setIsland_clocked (s : State) (i : IslandId) (x : Isl) : (s.setIsland i x).clocked = s.clocked := rfl
@[simp] theorem setIsland_outage (s : State) (i : IslandId) (x : Isl) : (s.setIsland i x).outage = s.outage := rfl
@[simp] theorem setIsland_count (s : State) (i : IslandId) (x : Isl) : (s.setIsland i x).count = s.count := rfl
@[simp] theorem setIsland_hostReach (s : State) (i : IslandId) (x : Isl) : (s.setIsland i x).hostReach = s.hostReach := rfl
@[simp] theorem setIsland_due (s : State) (i : IslandId) (x : Isl) (k : IslandId) (d : DT) : (s.setIsland i x).due k d = s.due k d := rfl
@[simp] theorem setIsland_now (s : State) (i : IslandId) (x : Isl) : (s.setIsland i x).now = s.now := rfl
@[simp] theorem setIsland_frozen (s : State) (i : IslandId) (x : Isl) : (s.setIsland i x).frozen = s.frozen := rfl
@[simp] theorem setIsland_slot (s : State) (i : IslandId) (x : Isl) : (s.setIsland i x).slot = s.slot := rfl
@[simp] theorem setIsland_suppressed (s : State) (i : IslandId) (x : Isl) : (s.setIsland i x).suppressed = s.suppressed := rfl
@[simp] theorem setIsland_get (s : State) (i : IslandId) (x : Isl) : (s.setIsland i x).island i = x := get_set _ _ _
@[simp] theorem setIsland_get_ne (s : State) (i : IslandId) (x : Isl) (j : IslandId) (h : j ≠ i) : (s.setIsland i x).island j = s.island j :=
  get_set_ne _ _ _ _ h

@[simp] theorem setVec_pending (s : State) (v : VecId) (x : Vec) : (s.setVec v x).pending = s.pending := rfl
@[simp] theorem setVec_clock (s : State) (v : VecId) (x : Vec) : (s.setVec v x).clock = s.clock := rfl
@[simp] theorem setVec_dt (s : State) (v : VecId) (x : Vec) : (s.setVec v x).dt = s.dt := rfl
@[simp] theorem setVec_dtRuns (s : State) (v : VecId) (x : Vec) : (s.setVec v x).dtRuns = s.dtRuns := rfl
@[simp] theorem setVec_shadow (s : State) (v : VecId) (x : Vec) : (s.setVec v x).shadow = s.shadow := rfl
@[simp] theorem setVec_phase (s : State) (v : VecId) (x : Vec) : (s.setVec v x).phase = s.phase := rfl
@[simp] theorem setVec_evDrops (s : State) (v : VecId) (x : Vec) : (s.setVec v x).evDrops = s.evDrops := rfl
@[simp] theorem setVec_evOwed (s : State) (v : VecId) (x : Vec) : (s.setVec v x).evOwed = s.evOwed := rfl
@[simp] theorem setVec_imm (s : State) (v : VecId) (x : Vec) : (s.setVec v x).imm = s.imm := rfl
@[simp] theorem setVec_isl (s : State) (v : VecId) (x : Vec) : (s.setVec v x).isl = s.isl := rfl
@[simp] theorem setVec_commit (s : State) (v : VecId) (x : Vec) : (s.setVec v x).commit = s.commit := rfl
@[simp] theorem setVec_snap (s : State) (v : VecId) (x : Vec) : (s.setVec v x).snap = s.snap := rfl
@[simp] theorem setVec_occs (s : State) (v : VecId) (x : Vec) : (s.setVec v x).occs = s.occs := rfl
@[simp] theorem setVec_outbox (s : State) (v : VecId) (x : Vec) : (s.setVec v x).outbox = s.outbox := rfl
@[simp] theorem setVec_posted (s : State) (v : VecId) (x : Vec) : (s.setVec v x).posted = s.posted := rfl
@[simp] theorem setVec_mem (s : State) (v : VecId) (x : Vec) : (s.setVec v x).mem = s.mem := rfl
@[simp] theorem setVec_flash (s : State) (v : VecId) (x : Vec) : (s.setVec v x).flash = s.flash := rfl
@[simp] theorem setVec_spokes (s : State) (v : VecId) (x : Vec) : (s.setVec v x).spokes = s.spokes := rfl
@[simp] theorem setVec_pacer (s : State) (v : VecId) (x : Vec) : (s.setVec v x).pacer = s.pacer := rfl
@[simp] theorem setVec_engines (s : State) (v : VecId) (x : Vec) : (s.setVec v x).engines = s.engines := rfl
@[simp] theorem setVec_crank (s : State) (v : VecId) (x : Vec) : (s.setVec v x).crank = s.crank := rfl
@[simp] theorem setVec_truing (s : State) (v : VecId) (x : Vec) : (s.setVec v x).truing = s.truing := rfl
@[simp] theorem setVec_hub (s : State) (v : VecId) (x : Vec) : (s.setVec v x).hub = s.hub := rfl
@[simp] theorem setVec_noon (s : State) (v : VecId) (x : Vec) : (s.setVec v x).noon = s.noon := rfl
@[simp] theorem setVec_ports (s : State) (v : VecId) (x : Vec) : (s.setVec v x).ports = s.ports := rfl
@[simp] theorem setVec_fw (s : State) (v : VecId) (x : Vec) : (s.setVec v x).fw = s.fw := rfl
@[simp] theorem setVec_stoker (s : State) (v : VecId) (x : Vec) : (s.setVec v x).stoker = s.stoker := rfl
@[simp] theorem setVec_pair (s : State) (v : VecId) (x : Vec) : (s.setVec v x).pair = s.pair := rfl
@[simp] theorem setVec_dyn (s : State) (v : VecId) (x : Vec) : (s.setVec v x).dyn = s.dyn := rfl
@[simp] theorem setVec_hb_fuse (s : State) (v : VecId) (x : Vec) : (s.setVec v x).hb.fuse = s.hb.fuse := rfl
@[simp] theorem setVec_hb_imageBad (s : State) (v : VecId) (x : Vec) : (s.setVec v x).hb.imageBad = s.hb.imageBad := rfl
@[simp] theorem setVec_hb_speed (s : State) (v : VecId) (x : Vec) : (s.setVec v x).hb.speed = s.hb.speed := rfl
@[simp] theorem setVec_hb_width (s : State) (v : VecId) (x : Vec) : (s.setVec v x).hb.width = s.hb.width := rfl
@[simp] theorem setVec_hb_imgSkip (s : State) (v : VecId) (x : Vec) : (s.setVec v x).hb.imgSkip = s.hb.imgSkip := rfl
@[simp] theorem setVec_hb_subVendor (s : State) (v : VecId) (x : Vec) : (s.setVec v x).hb.subVendor = s.hb.subVendor := rfl
@[simp] theorem setVec_hb_subId (s : State) (v : VecId) (x : Vec) : (s.setVec v x).hb.subId = s.hb.subId := rfl
@[simp] theorem setVec_hb_flashState (s : State) (v : VecId) (x : Vec) : (s.setVec v x).hb.flashState = s.hb.flashState := rfl
@[simp] theorem setVec_hb_flashCause (s : State) (v : VecId) (x : Vec) : (s.setVec v x).hb.flashCause = s.hb.flashCause := rfl
@[simp] theorem setVec_hb_flashJob (s : State) (v : VecId) (x : Vec) : (s.setVec v x).hb.flashJob = s.hb.flashJob := rfl
@[simp] theorem setVec_hb_flashBuf (s : State) (v : VecId) (x : Vec) : (s.setVec v x).hb.flashBuf = s.hb.flashBuf := rfl
@[simp] theorem setVec_hb_partialCnt (s : State) (v : VecId) (x : Vec) : (s.setVec v x).hb.partialCnt = s.hb.partialCnt := rfl
@[simp] theorem setVec_hb_badDb (s : State) (v : VecId) (x : Vec) : (s.setVec v x).hb.badDb = s.hb.badDb := rfl
@[simp] theorem setVec_hb_evCfg (s : State) (v : VecId) (x : Vec) : (s.setVec v x).hb.evCfg = s.hb.evCfg := rfl
@[simp] theorem setVec_hb_evStat (s : State) (v : VecId) (x : Vec) : (s.setVec v x).hb.evStat = s.hb.evStat := rfl
@[simp] theorem setVec_hb_vecHold (s : State) (v : VecId) (x : Vec) : (s.setVec v x).hb.vecHold = s.hb.vecHold := rfl
@[simp] theorem setVec_hb_flrHeld (s : State) (v : VecId) (x : Vec) : (s.setVec v x).hb.flrHeld = s.hb.flrHeld := rfl
@[simp] theorem setVec_hb_rings (s : State) (v : VecId) (x : Vec) : (s.setVec v x).hb.rings = s.hb.rings := rfl
@[simp] theorem setVec_hb_rxRings (s : State) (v : VecId) (x : Vec) : (s.setVec v x).hb.rxRings = s.hb.rxRings := rfl
@[simp] theorem setVec_hb_latchP (s : State) (v : VecId) (x : Vec) : (s.setVec v x).hb.latchP = s.hb.latchP := rfl
@[simp] theorem setVec_hb_latchS (s : State) (v : VecId) (x : Vec) : (s.setVec v x).hb.latchS = s.hb.latchS := rfl
@[simp] theorem setVec_hb_rdata (s : State) (v : VecId) (x : Vec) : (s.setVec v x).hb.rdata = s.hb.rdata := rfl
@[simp] theorem setVec_hb_spi (s : State) (v : VecId) (x : Vec) : (s.setVec v x).hb.spi = s.hb.spi := rfl
@[simp] theorem setVec_hb_spiOut (s : State) (v : VecId) (x : Vec) : (s.setVec v x).hb.spiOut = s.hb.spiOut := rfl
@[simp] theorem setVec_hb_refclk (s : State) (v : VecId) (x : Vec) : (s.setVec v x).hb.refclk = s.hb.refclk := rfl
@[simp] theorem setVec_hb_cfg (s : State) (v : VecId) (x : Vec) : (s.setVec v x).hb.cfg = s.hb.cfg := rfl
@[simp] theorem setVec_spoke (s : State) (v : VecId) (x : Vec) (j : SpokeId) : (s.setVec v x).spoke j = s.spoke j := rfl
@[simp] theorem setVec_thread (s : State) (v : VecId) (x : Vec) (j : ThreadId) : (s.setVec v x).thread j = s.thread j := rfl
@[simp] theorem setVec_engine (s : State) (v : VecId) (x : Vec) (j : EngineId) : (s.setVec v x).engine j = s.engine j := rfl
@[simp] theorem setVec_axis (s : State) (v : VecId) (x : Vec) (j : AxisId) : (s.setVec v x).axis j = s.axis j := rfl
@[simp] theorem setVec_item (s : State) (v : VecId) (x : Vec) (j : ItemId) : (s.setVec v x).item j = s.item j := rfl
@[simp] theorem setVec_req (s : State) (v : VecId) (x : Vec) (j : SpokeId) : (s.setVec v x).req j = s.req j := rfl
@[simp] theorem setVec_port (s : State) (v : VecId) (x : Vec) (j : PortId) : (s.setVec v x).port j = s.port j := rfl
@[simp] theorem setVec_island (s : State) (v : VecId) (x : Vec) (j : IslandId) : (s.setVec v x).island j = s.island j := rfl
@[simp] theorem setVec_act (s : State) (v : VecId) (x : Vec) (j : Nat) : (s.setVec v x).act j = s.act j := rfl
@[simp] theorem setVec_inDay (s : State) (v : VecId) (x : Vec) : (s.setVec v x).inDay = s.inDay := rfl
@[simp] theorem setVec_alive (s : State) (v : VecId) (x : Vec) : (s.setVec v x).alive = s.alive := rfl
@[simp] theorem setVec_pcieUp (s : State) (v : VecId) (x : Vec) : (s.setVec v x).pcieUp = s.pcieUp := rfl
@[simp] theorem setVec_clocked (s : State) (v : VecId) (x : Vec) : (s.setVec v x).clocked = s.clocked := rfl
@[simp] theorem setVec_outage (s : State) (v : VecId) (x : Vec) : (s.setVec v x).outage = s.outage := rfl
@[simp] theorem setVec_count (s : State) (v : VecId) (x : Vec) : (s.setVec v x).count = s.count := rfl
@[simp] theorem setVec_hostReach (s : State) (v : VecId) (x : Vec) : (s.setVec v x).hostReach = s.hostReach := rfl
@[simp] theorem setVec_due (s : State) (v : VecId) (x : Vec) (k : IslandId) (d : DT) : (s.setVec v x).due k d = s.due k d := rfl
@[simp] theorem setVec_now (s : State) (v : VecId) (x : Vec) : (s.setVec v x).now = s.now := rfl
@[simp] theorem setVec_frozen (s : State) (v : VecId) (x : Vec) : (s.setVec v x).frozen = s.frozen := rfl
@[simp] theorem setVec_slot (s : State) (v : VecId) (x : Vec) : (s.setVec v x).slot = s.slot := rfl
@[simp] theorem setVec_suppressed (s : State) (v : VecId) (x : Vec) : (s.setVec v x).suppressed = s.suppressed := rfl
@[simp] theorem setVec_get (s : State) (v : VecId) (x : Vec) : (s.setVec v x).vec v = x := get_set _ _ _
@[simp] theorem setVec_get_ne (s : State) (v : VecId) (x : Vec) (j : VecId) (h : j ≠ v) : (s.setVec v x).vec j = s.vec j :=
  get_set_ne _ _ _ _ h

@[simp] theorem setSpoke_setSpoke (s : State) (i : SpokeId) (x y : Spoke) : (s.setSpoke i x).setSpoke i y = s.setSpoke i y := by
  simp [State.setSpoke]
@[simp] theorem setThread_setThread (s : State) (p : ThreadId) (x y : Thread) : (s.setThread p x).setThread p y = s.setThread p y := by
  simp [State.setThread]
@[simp] theorem setEngine_setEngine (s : State) (v : EngineId) (x y : Engine) : (s.setEngine v x).setEngine v y = s.setEngine v y := by
  simp [State.setEngine]
@[simp] theorem setAxis_setAxis (s : State) (a : AxisId) (x y : Axis) : (s.setAxis a x).setAxis a y = s.setAxis a y := by
  simp [State.setAxis]
@[simp] theorem setItem_setItem (s : State) (i : ItemId) (x y : TruItem) : (s.setItem i x).setItem i y = s.setItem i y := by
  simp [State.setItem]
@[simp] theorem setReq_setReq (s : State) (i : SpokeId) (x y : TruReq) : (s.setReq i x).setReq i y = s.setReq i y := by
  simp [State.setReq]
@[simp] theorem setPort_setPort (s : State) (c : PortId) (x y : Port) : (s.setPort c x).setPort c y = s.setPort c y := by
  simp [State.setPort]
@[simp] theorem setIsland_setIsland (s : State) (i : IslandId) (x y : Isl) : (s.setIsland i x).setIsland i y = s.setIsland i y := by
  simp [State.setIsland]
@[simp] theorem setVec_setVec (s : State) (v : VecId) (x y : Vec) : (s.setVec v x).setVec v y = s.setVec v y := by
  simp [State.setVec]

/-! ### Events and messages -/

@[simp] theorem raiseAs_pending (co : Bool) (e c d a : Nat) (dt : DT) (s : State) : (raiseAs co e c d a dt s).pending = s.pending := by
  unfold raiseAs dropEvent; dsimp only; split <;> rfl
@[simp] theorem raiseAs_clock (co : Bool) (e c d a : Nat) (dt : DT) (s : State) : (raiseAs co e c d a dt s).clock = s.clock := by
  unfold raiseAs dropEvent; dsimp only; split <;> rfl
@[simp] theorem raiseAs_dt (co : Bool) (e c d a : Nat) (dt : DT) (s : State) : (raiseAs co e c d a dt s).dt = s.dt := by
  unfold raiseAs dropEvent; dsimp only; split <;> rfl
@[simp] theorem raiseAs_dtRuns (co : Bool) (e c d a : Nat) (dt : DT) (s : State) : (raiseAs co e c d a dt s).dtRuns = s.dtRuns := by
  unfold raiseAs dropEvent; dsimp only; split <;> rfl
@[simp] theorem raiseAs_shadow (co : Bool) (e c d a : Nat) (dt : DT) (s : State) : (raiseAs co e c d a dt s).shadow = s.shadow := by
  unfold raiseAs dropEvent; dsimp only; split <;> rfl
@[simp] theorem raiseAs_phase (co : Bool) (e c d a : Nat) (dt : DT) (s : State) : (raiseAs co e c d a dt s).phase = s.phase := by
  unfold raiseAs dropEvent; dsimp only; split <;> rfl
@[simp] theorem raiseAs_imm (co : Bool) (e c d a : Nat) (dt : DT) (s : State) : (raiseAs co e c d a dt s).imm = s.imm := by
  unfold raiseAs dropEvent; dsimp only; split <;> rfl
@[simp] theorem raiseAs_isl (co : Bool) (e c d a : Nat) (dt : DT) (s : State) : (raiseAs co e c d a dt s).isl = s.isl := by
  unfold raiseAs dropEvent; dsimp only; split <;> rfl
@[simp] theorem raiseAs_commit (co : Bool) (e c d a : Nat) (dt : DT) (s : State) : (raiseAs co e c d a dt s).commit = s.commit := by
  unfold raiseAs dropEvent; dsimp only; split <;> rfl
@[simp] theorem raiseAs_snap (co : Bool) (e c d a : Nat) (dt : DT) (s : State) : (raiseAs co e c d a dt s).snap = s.snap := by
  unfold raiseAs dropEvent; dsimp only; split <;> rfl
@[simp] theorem raiseAs_outbox (co : Bool) (e c d a : Nat) (dt : DT) (s : State) : (raiseAs co e c d a dt s).outbox = s.outbox := by
  unfold raiseAs dropEvent; dsimp only; split <;> rfl
@[simp] theorem raiseAs_posted (co : Bool) (e c d a : Nat) (dt : DT) (s : State) : (raiseAs co e c d a dt s).posted = s.posted := by
  unfold raiseAs dropEvent; dsimp only; split <;> rfl
@[simp] theorem raiseAs_mem (co : Bool) (e c d a : Nat) (dt : DT) (s : State) : (raiseAs co e c d a dt s).mem = s.mem := by
  unfold raiseAs dropEvent; dsimp only; split <;> rfl
@[simp] theorem raiseAs_flash (co : Bool) (e c d a : Nat) (dt : DT) (s : State) : (raiseAs co e c d a dt s).flash = s.flash := by
  unfold raiseAs dropEvent; dsimp only; split <;> rfl
@[simp] theorem raiseAs_spokes (co : Bool) (e c d a : Nat) (dt : DT) (s : State) : (raiseAs co e c d a dt s).spokes = s.spokes := by
  unfold raiseAs dropEvent; dsimp only; split <;> rfl
@[simp] theorem raiseAs_engines (co : Bool) (e c d a : Nat) (dt : DT) (s : State) : (raiseAs co e c d a dt s).engines = s.engines := by
  unfold raiseAs dropEvent; dsimp only; split <;> rfl
@[simp] theorem raiseAs_crank (co : Bool) (e c d a : Nat) (dt : DT) (s : State) : (raiseAs co e c d a dt s).crank = s.crank := by
  unfold raiseAs dropEvent; dsimp only; split <;> rfl
@[simp] theorem raiseAs_truing (co : Bool) (e c d a : Nat) (dt : DT) (s : State) : (raiseAs co e c d a dt s).truing = s.truing := by
  unfold raiseAs dropEvent; dsimp only; split <;> rfl
@[simp] theorem raiseAs_hub (co : Bool) (e c d a : Nat) (dt : DT) (s : State) : (raiseAs co e c d a dt s).hub = s.hub := by
  unfold raiseAs dropEvent; dsimp only; split <;> rfl
@[simp] theorem raiseAs_noon (co : Bool) (e c d a : Nat) (dt : DT) (s : State) : (raiseAs co e c d a dt s).noon = s.noon := by
  unfold raiseAs dropEvent; dsimp only; split <;> rfl
@[simp] theorem raiseAs_ports (co : Bool) (e c d a : Nat) (dt : DT) (s : State) : (raiseAs co e c d a dt s).ports = s.ports := by
  unfold raiseAs dropEvent; dsimp only; split <;> rfl
@[simp] theorem raiseAs_fw (co : Bool) (e c d a : Nat) (dt : DT) (s : State) : (raiseAs co e c d a dt s).fw = s.fw := by
  unfold raiseAs dropEvent; dsimp only; split <;> rfl
@[simp] theorem raiseAs_stoker (co : Bool) (e c d a : Nat) (dt : DT) (s : State) : (raiseAs co e c d a dt s).stoker = s.stoker := by
  unfold raiseAs dropEvent; dsimp only; split <;> rfl
@[simp] theorem raiseAs_pair (co : Bool) (e c d a : Nat) (dt : DT) (s : State) : (raiseAs co e c d a dt s).pair = s.pair := by
  unfold raiseAs dropEvent; dsimp only; split <;> rfl
@[simp] theorem raiseAs_hb (co : Bool) (e c d a : Nat) (dt : DT) (s : State) : (raiseAs co e c d a dt s).hb = s.hb := by
  unfold raiseAs dropEvent; dsimp only; split <;> rfl
@[simp] theorem raiseAs_dyn (co : Bool) (e c d a : Nat) (dt : DT) (s : State) : (raiseAs co e c d a dt s).dyn = s.dyn := by
  unfold raiseAs dropEvent; dsimp only; split <;> rfl
@[simp] theorem raiseAs_pacer_th (co : Bool) (e c d a : Nat) (dt : DT) (s : State) : (raiseAs co e c d a dt s).pacer.th = s.pacer.th := by
  unfold raiseAs dropEvent; dsimp only; split <;> rfl
@[simp] theorem raiseAs_pacer_mirror (co : Bool) (e c d a : Nat) (dt : DT) (s : State) : (raiseAs co e c d a dt s).pacer.mirror = s.pacer.mirror := by
  unfold raiseAs dropEvent; dsimp only; split <;> rfl
@[simp] theorem raiseAs_pacer_used (co : Bool) (e c d a : Nat) (dt : DT) (s : State) : (raiseAs co e c d a dt s).pacer.used = s.pacer.used := by
  unfold raiseAs dropEvent; dsimp only; split <;> rfl
@[simp] theorem raiseAs_pacer_bank (co : Bool) (e c d a : Nat) (dt : DT) (s : State) : (raiseAs co e c d a dt s).pacer.bank = s.pacer.bank := by
  unfold raiseAs dropEvent; dsimp only; split <;> rfl
@[simp] theorem raiseAs_pacer_locked (co : Bool) (e c d a : Nat) (dt : DT) (s : State) : (raiseAs co e c d a dt s).pacer.locked = s.pacer.locked := by
  unfold raiseAs dropEvent; dsimp only; split <;> rfl
@[simp] theorem raiseAs_pacer_wrDrop (co : Bool) (e c d a : Nat) (dt : DT) (s : State) : (raiseAs co e c d a dt s).pacer.wrDrop = s.pacer.wrDrop := by
  unfold raiseAs dropEvent; dsimp only; split <;> rfl
@[simp] theorem raiseAs_pacer_crcBusy (co : Bool) (e c d a : Nat) (dt : DT) (s : State) : (raiseAs co e c d a dt s).pacer.crcBusy = s.pacer.crcBusy := by
  unfold raiseAs dropEvent; dsimp only; split <;> rfl
@[simp] theorem raiseAs_pacer_crcDirty (co : Bool) (e c d a : Nat) (dt : DT) (s : State) : (raiseAs co e c d a dt s).pacer.crcDirty = s.pacer.crcDirty := by
  unfold raiseAs dropEvent; dsimp only; split <;> rfl
@[simp] theorem raiseAs_pacer_crcValid (co : Bool) (e c d a : Nat) (dt : DT) (s : State) : (raiseAs co e c d a dt s).pacer.crcValid = s.pacer.crcValid := by
  unfold raiseAs dropEvent; dsimp only; split <;> rfl
@[simp] theorem raiseAs_pacer_crc (co : Bool) (e c d a : Nat) (dt : DT) (s : State) : (raiseAs co e c d a dt s).pacer.crc = s.pacer.crc := by
  unfold raiseAs dropEvent; dsimp only; split <;> rfl
@[simp] theorem raiseAs_pacer_evMem (co : Bool) (e c d a : Nat) (dt : DT) (s : State) : (raiseAs co e c d a dt s).pacer.evMem = s.pacer.evMem := by
  unfold raiseAs dropEvent; dsimp only; split <;> rfl
@[simp] theorem raiseAs_pacer_mail (co : Bool) (e c d a : Nat) (dt : DT) (s : State) : (raiseAs co e c d a dt s).pacer.mail = s.pacer.mail := by
  unfold raiseAs dropEvent; dsimp only; split <;> rfl
@[simp] theorem raiseAs_spoke (co : Bool) (e c d a : Nat) (dt : DT) (s : State) (j : SpokeId) : (raiseAs co e c d a dt s).spoke j = s.spoke j := by simp [State.spoke]
@[simp] theorem raiseAs_thread (co : Bool) (e c d a : Nat) (dt : DT) (s : State) (j : ThreadId) : (raiseAs co e c d a dt s).thread j = s.thread j := by simp [State.thread]
@[simp] theorem raiseAs_engine (co : Bool) (e c d a : Nat) (dt : DT) (s : State) (j : EngineId) : (raiseAs co e c d a dt s).engine j = s.engine j := by simp [State.engine]
@[simp] theorem raiseAs_axis (co : Bool) (e c d a : Nat) (dt : DT) (s : State) (j : AxisId) : (raiseAs co e c d a dt s).axis j = s.axis j := by simp [State.axis]
@[simp] theorem raiseAs_item (co : Bool) (e c d a : Nat) (dt : DT) (s : State) (j : ItemId) : (raiseAs co e c d a dt s).item j = s.item j := by simp [State.item]
@[simp] theorem raiseAs_req (co : Bool) (e c d a : Nat) (dt : DT) (s : State) (j : SpokeId) : (raiseAs co e c d a dt s).req j = s.req j := by simp [State.req]
@[simp] theorem raiseAs_port (co : Bool) (e c d a : Nat) (dt : DT) (s : State) (j : PortId) : (raiseAs co e c d a dt s).port j = s.port j := by simp [State.port]
@[simp] theorem raiseAs_island (co : Bool) (e c d a : Nat) (dt : DT) (s : State) (j : IslandId) : (raiseAs co e c d a dt s).island j = s.island j := by simp [State.island]
@[simp] theorem raiseAs_vec (co : Bool) (e c d a : Nat) (dt : DT) (s : State) (j : VecId) : (raiseAs co e c d a dt s).vec j = s.vec j := by simp [State.vec]
@[simp] theorem raiseAs_act (co : Bool) (e c d a : Nat) (dt : DT) (s : State) (j : Nat) : (raiseAs co e c d a dt s).act j = s.act j := by simp [State.act, State.island]
@[simp] theorem raiseAs_inDay (co : Bool) (e c d a : Nat) (dt : DT) (s : State) : (raiseAs co e c d a dt s).inDay = s.inDay := by simp [State.inDay]
@[simp] theorem raiseAs_alive (co : Bool) (e c d a : Nat) (dt : DT) (s : State) : (raiseAs co e c d a dt s).alive = s.alive := by simp [State.alive]
@[simp] theorem raiseAs_pcieUp (co : Bool) (e c d a : Nat) (dt : DT) (s : State) : (raiseAs co e c d a dt s).pcieUp = s.pcieUp := by simp [State.pcieUp, State.alive]
@[simp] theorem raiseAs_clocked (co : Bool) (e c d a : Nat) (dt : DT) (s : State) : (raiseAs co e c d a dt s).clocked = s.clocked := by simp [State.clocked]
@[simp] theorem raiseAs_outage (co : Bool) (e c d a : Nat) (dt : DT) (s : State) : (raiseAs co e c d a dt s).outage = s.outage := by simp [State.outage]
@[simp] theorem raiseAs_count (co : Bool) (e c d a : Nat) (dt : DT) (s : State) : (raiseAs co e c d a dt s).count = s.count := by simp [State.count]
@[simp] theorem raiseAs_hostReach (co : Bool) (e c d a : Nat) (dt : DT) (s : State) : (raiseAs co e c d a dt s).hostReach = s.hostReach := by simp [State.hostReach, State.busUp]
@[simp] theorem raiseAs_now (co : Bool) (e c d a : Nat) (dt : DT) (s : State) : (raiseAs co e c d a dt s).now = s.now := by simp [State.now, State.outage]
@[simp] theorem raiseAs_frozen (co : Bool) (e c d a : Nat) (dt : DT) (s : State) : (raiseAs co e c d a dt s).frozen = s.frozen := by simp [State.frozen]
@[simp] theorem raiseAs_slot (co : Bool) (e c d a : Nat) (dt : DT) (s : State) : (raiseAs co e c d a dt s).slot = s.slot := by simp [State.slot]
@[simp] theorem raiseAs_suppressed (co : Bool) (e c d a : Nat) (dt : DT) (s : State) : (raiseAs co e c d a dt s).suppressed = s.suppressed := by simp [State.suppressed]

@[simp] theorem raise_pending (e c d a : Nat) (dt : DT) (s : State) : (raise e c d a dt s).pending = s.pending := by simp [raise]
@[simp] theorem raise_clock (e c d a : Nat) (dt : DT) (s : State) : (raise e c d a dt s).clock = s.clock := by simp [raise]
@[simp] theorem raise_dt (e c d a : Nat) (dt : DT) (s : State) : (raise e c d a dt s).dt = s.dt := by simp [raise]
@[simp] theorem raise_dtRuns (e c d a : Nat) (dt : DT) (s : State) : (raise e c d a dt s).dtRuns = s.dtRuns := by simp [raise]
@[simp] theorem raise_shadow (e c d a : Nat) (dt : DT) (s : State) : (raise e c d a dt s).shadow = s.shadow := by simp [raise]
@[simp] theorem raise_phase (e c d a : Nat) (dt : DT) (s : State) : (raise e c d a dt s).phase = s.phase := by simp [raise]
@[simp] theorem raise_imm (e c d a : Nat) (dt : DT) (s : State) : (raise e c d a dt s).imm = s.imm := by simp [raise]
@[simp] theorem raise_isl (e c d a : Nat) (dt : DT) (s : State) : (raise e c d a dt s).isl = s.isl := by simp [raise]
@[simp] theorem raise_commit (e c d a : Nat) (dt : DT) (s : State) : (raise e c d a dt s).commit = s.commit := by simp [raise]
@[simp] theorem raise_snap (e c d a : Nat) (dt : DT) (s : State) : (raise e c d a dt s).snap = s.snap := by simp [raise]
@[simp] theorem raise_outbox (e c d a : Nat) (dt : DT) (s : State) : (raise e c d a dt s).outbox = s.outbox := by simp [raise]
@[simp] theorem raise_posted (e c d a : Nat) (dt : DT) (s : State) : (raise e c d a dt s).posted = s.posted := by simp [raise]
@[simp] theorem raise_mem (e c d a : Nat) (dt : DT) (s : State) : (raise e c d a dt s).mem = s.mem := by simp [raise]
@[simp] theorem raise_flash (e c d a : Nat) (dt : DT) (s : State) : (raise e c d a dt s).flash = s.flash := by simp [raise]
@[simp] theorem raise_spokes (e c d a : Nat) (dt : DT) (s : State) : (raise e c d a dt s).spokes = s.spokes := by simp [raise]
@[simp] theorem raise_engines (e c d a : Nat) (dt : DT) (s : State) : (raise e c d a dt s).engines = s.engines := by simp [raise]
@[simp] theorem raise_crank (e c d a : Nat) (dt : DT) (s : State) : (raise e c d a dt s).crank = s.crank := by simp [raise]
@[simp] theorem raise_truing (e c d a : Nat) (dt : DT) (s : State) : (raise e c d a dt s).truing = s.truing := by simp [raise]
@[simp] theorem raise_hub (e c d a : Nat) (dt : DT) (s : State) : (raise e c d a dt s).hub = s.hub := by simp [raise]
@[simp] theorem raise_noon (e c d a : Nat) (dt : DT) (s : State) : (raise e c d a dt s).noon = s.noon := by simp [raise]
@[simp] theorem raise_ports (e c d a : Nat) (dt : DT) (s : State) : (raise e c d a dt s).ports = s.ports := by simp [raise]
@[simp] theorem raise_fw (e c d a : Nat) (dt : DT) (s : State) : (raise e c d a dt s).fw = s.fw := by simp [raise]
@[simp] theorem raise_stoker (e c d a : Nat) (dt : DT) (s : State) : (raise e c d a dt s).stoker = s.stoker := by simp [raise]
@[simp] theorem raise_pair (e c d a : Nat) (dt : DT) (s : State) : (raise e c d a dt s).pair = s.pair := by simp [raise]
@[simp] theorem raise_hb (e c d a : Nat) (dt : DT) (s : State) : (raise e c d a dt s).hb = s.hb := by simp [raise]
@[simp] theorem raise_dyn (e c d a : Nat) (dt : DT) (s : State) : (raise e c d a dt s).dyn = s.dyn := by simp [raise]
@[simp] theorem raise_pacer_th (e c d a : Nat) (dt : DT) (s : State) : (raise e c d a dt s).pacer.th = s.pacer.th := by simp [raise]
@[simp] theorem raise_pacer_mirror (e c d a : Nat) (dt : DT) (s : State) : (raise e c d a dt s).pacer.mirror = s.pacer.mirror := by simp [raise]
@[simp] theorem raise_pacer_used (e c d a : Nat) (dt : DT) (s : State) : (raise e c d a dt s).pacer.used = s.pacer.used := by simp [raise]
@[simp] theorem raise_pacer_bank (e c d a : Nat) (dt : DT) (s : State) : (raise e c d a dt s).pacer.bank = s.pacer.bank := by simp [raise]
@[simp] theorem raise_pacer_locked (e c d a : Nat) (dt : DT) (s : State) : (raise e c d a dt s).pacer.locked = s.pacer.locked := by simp [raise]
@[simp] theorem raise_pacer_wrDrop (e c d a : Nat) (dt : DT) (s : State) : (raise e c d a dt s).pacer.wrDrop = s.pacer.wrDrop := by simp [raise]
@[simp] theorem raise_pacer_crcBusy (e c d a : Nat) (dt : DT) (s : State) : (raise e c d a dt s).pacer.crcBusy = s.pacer.crcBusy := by simp [raise]
@[simp] theorem raise_pacer_crcDirty (e c d a : Nat) (dt : DT) (s : State) : (raise e c d a dt s).pacer.crcDirty = s.pacer.crcDirty := by simp [raise]
@[simp] theorem raise_pacer_crcValid (e c d a : Nat) (dt : DT) (s : State) : (raise e c d a dt s).pacer.crcValid = s.pacer.crcValid := by simp [raise]
@[simp] theorem raise_pacer_crc (e c d a : Nat) (dt : DT) (s : State) : (raise e c d a dt s).pacer.crc = s.pacer.crc := by simp [raise]
@[simp] theorem raise_pacer_evMem (e c d a : Nat) (dt : DT) (s : State) : (raise e c d a dt s).pacer.evMem = s.pacer.evMem := by simp [raise]
@[simp] theorem raise_pacer_mail (e c d a : Nat) (dt : DT) (s : State) : (raise e c d a dt s).pacer.mail = s.pacer.mail := by simp [raise]
@[simp] theorem raise_spoke (e c d a : Nat) (dt : DT) (s : State) (j : SpokeId) : (raise e c d a dt s).spoke j = s.spoke j := by simp [State.spoke]
@[simp] theorem raise_thread (e c d a : Nat) (dt : DT) (s : State) (j : ThreadId) : (raise e c d a dt s).thread j = s.thread j := by simp [State.thread]
@[simp] theorem raise_engine (e c d a : Nat) (dt : DT) (s : State) (j : EngineId) : (raise e c d a dt s).engine j = s.engine j := by simp [State.engine]
@[simp] theorem raise_axis (e c d a : Nat) (dt : DT) (s : State) (j : AxisId) : (raise e c d a dt s).axis j = s.axis j := by simp [State.axis]
@[simp] theorem raise_item (e c d a : Nat) (dt : DT) (s : State) (j : ItemId) : (raise e c d a dt s).item j = s.item j := by simp [State.item]
@[simp] theorem raise_req (e c d a : Nat) (dt : DT) (s : State) (j : SpokeId) : (raise e c d a dt s).req j = s.req j := by simp [State.req]
@[simp] theorem raise_port (e c d a : Nat) (dt : DT) (s : State) (j : PortId) : (raise e c d a dt s).port j = s.port j := by simp [State.port]
@[simp] theorem raise_island (e c d a : Nat) (dt : DT) (s : State) (j : IslandId) : (raise e c d a dt s).island j = s.island j := by simp [State.island]
@[simp] theorem raise_vec (e c d a : Nat) (dt : DT) (s : State) (j : VecId) : (raise e c d a dt s).vec j = s.vec j := by simp [State.vec]
@[simp] theorem raise_act (e c d a : Nat) (dt : DT) (s : State) (j : Nat) : (raise e c d a dt s).act j = s.act j := by simp [State.act, State.island]
@[simp] theorem raise_inDay (e c d a : Nat) (dt : DT) (s : State) : (raise e c d a dt s).inDay = s.inDay := by simp [State.inDay]
@[simp] theorem raise_alive (e c d a : Nat) (dt : DT) (s : State) : (raise e c d a dt s).alive = s.alive := by simp [State.alive]
@[simp] theorem raise_pcieUp (e c d a : Nat) (dt : DT) (s : State) : (raise e c d a dt s).pcieUp = s.pcieUp := by simp [State.pcieUp, State.alive]
@[simp] theorem raise_clocked (e c d a : Nat) (dt : DT) (s : State) : (raise e c d a dt s).clocked = s.clocked := by simp [State.clocked]
@[simp] theorem raise_outage (e c d a : Nat) (dt : DT) (s : State) : (raise e c d a dt s).outage = s.outage := by simp [State.outage]
@[simp] theorem raise_count (e c d a : Nat) (dt : DT) (s : State) : (raise e c d a dt s).count = s.count := by simp [State.count]
@[simp] theorem raise_hostReach (e c d a : Nat) (dt : DT) (s : State) : (raise e c d a dt s).hostReach = s.hostReach := by simp [State.hostReach, State.busUp]
@[simp] theorem raise_now (e c d a : Nat) (dt : DT) (s : State) : (raise e c d a dt s).now = s.now := by simp [State.now, State.outage]
@[simp] theorem raise_frozen (e c d a : Nat) (dt : DT) (s : State) : (raise e c d a dt s).frozen = s.frozen := by simp [State.frozen]
@[simp] theorem raise_slot (e c d a : Nat) (dt : DT) (s : State) : (raise e c d a dt s).slot = s.slot := by simp [State.slot]
@[simp] theorem raise_suppressed (e c d a : Nat) (dt : DT) (s : State) : (raise e c d a dt s).suppressed = s.suppressed := by simp [State.suppressed]

@[simp] theorem raiseNow_pending (e c d a : Nat) (s : State) : (raiseNow e c d a s).pending = s.pending := by simp [raiseNow]
@[simp] theorem raiseNow_clock (e c d a : Nat) (s : State) : (raiseNow e c d a s).clock = s.clock := by simp [raiseNow]
@[simp] theorem raiseNow_dt (e c d a : Nat) (s : State) : (raiseNow e c d a s).dt = s.dt := by simp [raiseNow]
@[simp] theorem raiseNow_dtRuns (e c d a : Nat) (s : State) : (raiseNow e c d a s).dtRuns = s.dtRuns := by simp [raiseNow]
@[simp] theorem raiseNow_shadow (e c d a : Nat) (s : State) : (raiseNow e c d a s).shadow = s.shadow := by simp [raiseNow]
@[simp] theorem raiseNow_phase (e c d a : Nat) (s : State) : (raiseNow e c d a s).phase = s.phase := by simp [raiseNow]
@[simp] theorem raiseNow_imm (e c d a : Nat) (s : State) : (raiseNow e c d a s).imm = s.imm := by simp [raiseNow]
@[simp] theorem raiseNow_isl (e c d a : Nat) (s : State) : (raiseNow e c d a s).isl = s.isl := by simp [raiseNow]
@[simp] theorem raiseNow_commit (e c d a : Nat) (s : State) : (raiseNow e c d a s).commit = s.commit := by simp [raiseNow]
@[simp] theorem raiseNow_snap (e c d a : Nat) (s : State) : (raiseNow e c d a s).snap = s.snap := by simp [raiseNow]
@[simp] theorem raiseNow_outbox (e c d a : Nat) (s : State) : (raiseNow e c d a s).outbox = s.outbox := by simp [raiseNow]
@[simp] theorem raiseNow_posted (e c d a : Nat) (s : State) : (raiseNow e c d a s).posted = s.posted := by simp [raiseNow]
@[simp] theorem raiseNow_mem (e c d a : Nat) (s : State) : (raiseNow e c d a s).mem = s.mem := by simp [raiseNow]
@[simp] theorem raiseNow_flash (e c d a : Nat) (s : State) : (raiseNow e c d a s).flash = s.flash := by simp [raiseNow]
@[simp] theorem raiseNow_spokes (e c d a : Nat) (s : State) : (raiseNow e c d a s).spokes = s.spokes := by simp [raiseNow]
@[simp] theorem raiseNow_engines (e c d a : Nat) (s : State) : (raiseNow e c d a s).engines = s.engines := by simp [raiseNow]
@[simp] theorem raiseNow_crank (e c d a : Nat) (s : State) : (raiseNow e c d a s).crank = s.crank := by simp [raiseNow]
@[simp] theorem raiseNow_truing (e c d a : Nat) (s : State) : (raiseNow e c d a s).truing = s.truing := by simp [raiseNow]
@[simp] theorem raiseNow_hub (e c d a : Nat) (s : State) : (raiseNow e c d a s).hub = s.hub := by simp [raiseNow]
@[simp] theorem raiseNow_noon (e c d a : Nat) (s : State) : (raiseNow e c d a s).noon = s.noon := by simp [raiseNow]
@[simp] theorem raiseNow_ports (e c d a : Nat) (s : State) : (raiseNow e c d a s).ports = s.ports := by simp [raiseNow]
@[simp] theorem raiseNow_fw (e c d a : Nat) (s : State) : (raiseNow e c d a s).fw = s.fw := by simp [raiseNow]
@[simp] theorem raiseNow_stoker (e c d a : Nat) (s : State) : (raiseNow e c d a s).stoker = s.stoker := by simp [raiseNow]
@[simp] theorem raiseNow_pair (e c d a : Nat) (s : State) : (raiseNow e c d a s).pair = s.pair := by simp [raiseNow]
@[simp] theorem raiseNow_hb (e c d a : Nat) (s : State) : (raiseNow e c d a s).hb = s.hb := by simp [raiseNow]
@[simp] theorem raiseNow_dyn (e c d a : Nat) (s : State) : (raiseNow e c d a s).dyn = s.dyn := by simp [raiseNow]
@[simp] theorem raiseNow_pacer_th (e c d a : Nat) (s : State) : (raiseNow e c d a s).pacer.th = s.pacer.th := by simp [raiseNow]
@[simp] theorem raiseNow_pacer_mirror (e c d a : Nat) (s : State) : (raiseNow e c d a s).pacer.mirror = s.pacer.mirror := by simp [raiseNow]
@[simp] theorem raiseNow_pacer_used (e c d a : Nat) (s : State) : (raiseNow e c d a s).pacer.used = s.pacer.used := by simp [raiseNow]
@[simp] theorem raiseNow_pacer_bank (e c d a : Nat) (s : State) : (raiseNow e c d a s).pacer.bank = s.pacer.bank := by simp [raiseNow]
@[simp] theorem raiseNow_pacer_locked (e c d a : Nat) (s : State) : (raiseNow e c d a s).pacer.locked = s.pacer.locked := by simp [raiseNow]
@[simp] theorem raiseNow_pacer_wrDrop (e c d a : Nat) (s : State) : (raiseNow e c d a s).pacer.wrDrop = s.pacer.wrDrop := by simp [raiseNow]
@[simp] theorem raiseNow_pacer_crcBusy (e c d a : Nat) (s : State) : (raiseNow e c d a s).pacer.crcBusy = s.pacer.crcBusy := by simp [raiseNow]
@[simp] theorem raiseNow_pacer_crcDirty (e c d a : Nat) (s : State) : (raiseNow e c d a s).pacer.crcDirty = s.pacer.crcDirty := by simp [raiseNow]
@[simp] theorem raiseNow_pacer_crcValid (e c d a : Nat) (s : State) : (raiseNow e c d a s).pacer.crcValid = s.pacer.crcValid := by simp [raiseNow]
@[simp] theorem raiseNow_pacer_crc (e c d a : Nat) (s : State) : (raiseNow e c d a s).pacer.crc = s.pacer.crc := by simp [raiseNow]
@[simp] theorem raiseNow_pacer_evMem (e c d a : Nat) (s : State) : (raiseNow e c d a s).pacer.evMem = s.pacer.evMem := by simp [raiseNow]
@[simp] theorem raiseNow_pacer_mail (e c d a : Nat) (s : State) : (raiseNow e c d a s).pacer.mail = s.pacer.mail := by simp [raiseNow]
@[simp] theorem raiseNow_spoke (e c d a : Nat) (s : State) (j : SpokeId) : (raiseNow e c d a s).spoke j = s.spoke j := by simp [State.spoke]
@[simp] theorem raiseNow_thread (e c d a : Nat) (s : State) (j : ThreadId) : (raiseNow e c d a s).thread j = s.thread j := by simp [State.thread]
@[simp] theorem raiseNow_engine (e c d a : Nat) (s : State) (j : EngineId) : (raiseNow e c d a s).engine j = s.engine j := by simp [State.engine]
@[simp] theorem raiseNow_axis (e c d a : Nat) (s : State) (j : AxisId) : (raiseNow e c d a s).axis j = s.axis j := by simp [State.axis]
@[simp] theorem raiseNow_item (e c d a : Nat) (s : State) (j : ItemId) : (raiseNow e c d a s).item j = s.item j := by simp [State.item]
@[simp] theorem raiseNow_req (e c d a : Nat) (s : State) (j : SpokeId) : (raiseNow e c d a s).req j = s.req j := by simp [State.req]
@[simp] theorem raiseNow_port (e c d a : Nat) (s : State) (j : PortId) : (raiseNow e c d a s).port j = s.port j := by simp [State.port]
@[simp] theorem raiseNow_island (e c d a : Nat) (s : State) (j : IslandId) : (raiseNow e c d a s).island j = s.island j := by simp [State.island]
@[simp] theorem raiseNow_vec (e c d a : Nat) (s : State) (j : VecId) : (raiseNow e c d a s).vec j = s.vec j := by simp [State.vec]
@[simp] theorem raiseNow_act (e c d a : Nat) (s : State) (j : Nat) : (raiseNow e c d a s).act j = s.act j := by simp [State.act, State.island]
@[simp] theorem raiseNow_inDay (e c d a : Nat) (s : State) : (raiseNow e c d a s).inDay = s.inDay := by simp [State.inDay]
@[simp] theorem raiseNow_alive (e c d a : Nat) (s : State) : (raiseNow e c d a s).alive = s.alive := by simp [State.alive]
@[simp] theorem raiseNow_pcieUp (e c d a : Nat) (s : State) : (raiseNow e c d a s).pcieUp = s.pcieUp := by simp [State.pcieUp, State.alive]
@[simp] theorem raiseNow_clocked (e c d a : Nat) (s : State) : (raiseNow e c d a s).clocked = s.clocked := by simp [State.clocked]
@[simp] theorem raiseNow_outage (e c d a : Nat) (s : State) : (raiseNow e c d a s).outage = s.outage := by simp [State.outage]
@[simp] theorem raiseNow_count (e c d a : Nat) (s : State) : (raiseNow e c d a s).count = s.count := by simp [State.count]
@[simp] theorem raiseNow_hostReach (e c d a : Nat) (s : State) : (raiseNow e c d a s).hostReach = s.hostReach := by simp [State.hostReach, State.busUp]
@[simp] theorem raiseNow_now (e c d a : Nat) (s : State) : (raiseNow e c d a s).now = s.now := by simp [State.now, State.outage]
@[simp] theorem raiseNow_frozen (e c d a : Nat) (s : State) : (raiseNow e c d a s).frozen = s.frozen := by simp [State.frozen]
@[simp] theorem raiseNow_slot (e c d a : Nat) (s : State) : (raiseNow e c d a s).slot = s.slot := by simp [State.slot]
@[simp] theorem raiseNow_suppressed (e c d a : Nat) (s : State) : (raiseNow e c d a s).suppressed = s.suppressed := by simp [State.suppressed]

@[simp] theorem post_pending (a : Nat) (bs : Octets) (s : State) : (post a bs s).pending = s.pending := rfl
@[simp] theorem post_clock (a : Nat) (bs : Octets) (s : State) : (post a bs s).clock = s.clock := rfl
@[simp] theorem post_dt (a : Nat) (bs : Octets) (s : State) : (post a bs s).dt = s.dt := rfl
@[simp] theorem post_dtRuns (a : Nat) (bs : Octets) (s : State) : (post a bs s).dtRuns = s.dtRuns := rfl
@[simp] theorem post_shadow (a : Nat) (bs : Octets) (s : State) : (post a bs s).shadow = s.shadow := rfl
@[simp] theorem post_phase (a : Nat) (bs : Octets) (s : State) : (post a bs s).phase = s.phase := rfl
@[simp] theorem post_evDrops (a : Nat) (bs : Octets) (s : State) : (post a bs s).evDrops = s.evDrops := rfl
@[simp] theorem post_evOwed (a : Nat) (bs : Octets) (s : State) : (post a bs s).evOwed = s.evOwed := rfl
@[simp] theorem post_imm (a : Nat) (bs : Octets) (s : State) : (post a bs s).imm = s.imm := rfl
@[simp] theorem post_isl (a : Nat) (bs : Octets) (s : State) : (post a bs s).isl = s.isl := rfl
@[simp] theorem post_commit (a : Nat) (bs : Octets) (s : State) : (post a bs s).commit = s.commit := rfl
@[simp] theorem post_snap (a : Nat) (bs : Octets) (s : State) : (post a bs s).snap = s.snap := rfl
@[simp] theorem post_occs (a : Nat) (bs : Octets) (s : State) : (post a bs s).occs = s.occs := rfl
@[simp] theorem post_outbox (a : Nat) (bs : Octets) (s : State) : (post a bs s).outbox = s.outbox := rfl
@[simp] theorem post_mem (a : Nat) (bs : Octets) (s : State) : (post a bs s).mem = s.mem := rfl
@[simp] theorem post_flash (a : Nat) (bs : Octets) (s : State) : (post a bs s).flash = s.flash := rfl
@[simp] theorem post_spokes (a : Nat) (bs : Octets) (s : State) : (post a bs s).spokes = s.spokes := rfl
@[simp] theorem post_pacer (a : Nat) (bs : Octets) (s : State) : (post a bs s).pacer = s.pacer := rfl
@[simp] theorem post_engines (a : Nat) (bs : Octets) (s : State) : (post a bs s).engines = s.engines := rfl
@[simp] theorem post_crank (a : Nat) (bs : Octets) (s : State) : (post a bs s).crank = s.crank := rfl
@[simp] theorem post_truing (a : Nat) (bs : Octets) (s : State) : (post a bs s).truing = s.truing := rfl
@[simp] theorem post_hub (a : Nat) (bs : Octets) (s : State) : (post a bs s).hub = s.hub := rfl
@[simp] theorem post_noon (a : Nat) (bs : Octets) (s : State) : (post a bs s).noon = s.noon := rfl
@[simp] theorem post_ports (a : Nat) (bs : Octets) (s : State) : (post a bs s).ports = s.ports := rfl
@[simp] theorem post_fw (a : Nat) (bs : Octets) (s : State) : (post a bs s).fw = s.fw := rfl
@[simp] theorem post_stoker (a : Nat) (bs : Octets) (s : State) : (post a bs s).stoker = s.stoker := rfl
@[simp] theorem post_pair (a : Nat) (bs : Octets) (s : State) : (post a bs s).pair = s.pair := rfl
@[simp] theorem post_hb (a : Nat) (bs : Octets) (s : State) : (post a bs s).hb = s.hb := rfl
@[simp] theorem post_dyn (a : Nat) (bs : Octets) (s : State) : (post a bs s).dyn = s.dyn := rfl
@[simp] theorem post_spoke (a : Nat) (bs : Octets) (s : State) (j : SpokeId) : (post a bs s).spoke j = s.spoke j := rfl
@[simp] theorem post_thread (a : Nat) (bs : Octets) (s : State) (j : ThreadId) : (post a bs s).thread j = s.thread j := rfl
@[simp] theorem post_engine (a : Nat) (bs : Octets) (s : State) (j : EngineId) : (post a bs s).engine j = s.engine j := rfl
@[simp] theorem post_axis (a : Nat) (bs : Octets) (s : State) (j : AxisId) : (post a bs s).axis j = s.axis j := rfl
@[simp] theorem post_item (a : Nat) (bs : Octets) (s : State) (j : ItemId) : (post a bs s).item j = s.item j := rfl
@[simp] theorem post_req (a : Nat) (bs : Octets) (s : State) (j : SpokeId) : (post a bs s).req j = s.req j := rfl
@[simp] theorem post_port (a : Nat) (bs : Octets) (s : State) (j : PortId) : (post a bs s).port j = s.port j := rfl
@[simp] theorem post_island (a : Nat) (bs : Octets) (s : State) (j : IslandId) : (post a bs s).island j = s.island j := rfl
@[simp] theorem post_vec (a : Nat) (bs : Octets) (s : State) (j : VecId) : (post a bs s).vec j = s.vec j := rfl
@[simp] theorem post_act (a : Nat) (bs : Octets) (s : State) (j : Nat) : (post a bs s).act j = s.act j := rfl
@[simp] theorem post_inDay (a : Nat) (bs : Octets) (s : State) : (post a bs s).inDay = s.inDay := rfl
@[simp] theorem post_alive (a : Nat) (bs : Octets) (s : State) : (post a bs s).alive = s.alive := rfl
@[simp] theorem post_pcieUp (a : Nat) (bs : Octets) (s : State) : (post a bs s).pcieUp = s.pcieUp := rfl
@[simp] theorem post_clocked (a : Nat) (bs : Octets) (s : State) : (post a bs s).clocked = s.clocked := rfl
@[simp] theorem post_outage (a : Nat) (bs : Octets) (s : State) : (post a bs s).outage = s.outage := rfl
@[simp] theorem post_count (a : Nat) (bs : Octets) (s : State) : (post a bs s).count = s.count := rfl
@[simp] theorem post_hostReach (a : Nat) (bs : Octets) (s : State) : (post a bs s).hostReach = s.hostReach := rfl
@[simp] theorem post_due (a : Nat) (bs : Octets) (s : State) (k : IslandId) (d : DT) : (post a bs s).due k d = s.due k d := rfl
@[simp] theorem post_now (a : Nat) (bs : Octets) (s : State) : (post a bs s).now = s.now := rfl
@[simp] theorem post_frozen (a : Nat) (bs : Octets) (s : State) : (post a bs s).frozen = s.frozen := rfl
@[simp] theorem post_slot (a : Nat) (bs : Octets) (s : State) : (post a bs s).slot = s.slot := rfl
@[simp] theorem post_suppressed (a : Nat) (bs : Octets) (s : State) : (post a bs s).suppressed = s.suppressed := rfl

@[simp] theorem send_pending (e : OutEntry) (s : State) : (send e s).pending = s.pending := rfl
@[simp] theorem send_clock (e : OutEntry) (s : State) : (send e s).clock = s.clock := rfl
@[simp] theorem send_dt (e : OutEntry) (s : State) : (send e s).dt = s.dt := rfl
@[simp] theorem send_dtRuns (e : OutEntry) (s : State) : (send e s).dtRuns = s.dtRuns := rfl
@[simp] theorem send_shadow (e : OutEntry) (s : State) : (send e s).shadow = s.shadow := rfl
@[simp] theorem send_phase (e : OutEntry) (s : State) : (send e s).phase = s.phase := rfl
@[simp] theorem send_evDrops (e : OutEntry) (s : State) : (send e s).evDrops = s.evDrops := rfl
@[simp] theorem send_evOwed (e : OutEntry) (s : State) : (send e s).evOwed = s.evOwed := rfl
@[simp] theorem send_imm (e : OutEntry) (s : State) : (send e s).imm = s.imm := rfl
@[simp] theorem send_isl (e : OutEntry) (s : State) : (send e s).isl = s.isl := rfl
@[simp] theorem send_commit (e : OutEntry) (s : State) : (send e s).commit = s.commit := rfl
@[simp] theorem send_snap (e : OutEntry) (s : State) : (send e s).snap = s.snap := rfl
@[simp] theorem send_occs (e : OutEntry) (s : State) : (send e s).occs = s.occs := rfl
@[simp] theorem send_posted (e : OutEntry) (s : State) : (send e s).posted = s.posted := rfl
@[simp] theorem send_mem (e : OutEntry) (s : State) : (send e s).mem = s.mem := rfl
@[simp] theorem send_flash (e : OutEntry) (s : State) : (send e s).flash = s.flash := rfl
@[simp] theorem send_spokes (e : OutEntry) (s : State) : (send e s).spokes = s.spokes := rfl
@[simp] theorem send_pacer (e : OutEntry) (s : State) : (send e s).pacer = s.pacer := rfl
@[simp] theorem send_engines (e : OutEntry) (s : State) : (send e s).engines = s.engines := rfl
@[simp] theorem send_crank (e : OutEntry) (s : State) : (send e s).crank = s.crank := rfl
@[simp] theorem send_truing (e : OutEntry) (s : State) : (send e s).truing = s.truing := rfl
@[simp] theorem send_hub (e : OutEntry) (s : State) : (send e s).hub = s.hub := rfl
@[simp] theorem send_noon (e : OutEntry) (s : State) : (send e s).noon = s.noon := rfl
@[simp] theorem send_ports (e : OutEntry) (s : State) : (send e s).ports = s.ports := rfl
@[simp] theorem send_fw (e : OutEntry) (s : State) : (send e s).fw = s.fw := rfl
@[simp] theorem send_stoker (e : OutEntry) (s : State) : (send e s).stoker = s.stoker := rfl
@[simp] theorem send_pair (e : OutEntry) (s : State) : (send e s).pair = s.pair := rfl
@[simp] theorem send_hb (e : OutEntry) (s : State) : (send e s).hb = s.hb := rfl
@[simp] theorem send_dyn (e : OutEntry) (s : State) : (send e s).dyn = s.dyn := rfl
@[simp] theorem send_spoke (e : OutEntry) (s : State) (j : SpokeId) : (send e s).spoke j = s.spoke j := rfl
@[simp] theorem send_thread (e : OutEntry) (s : State) (j : ThreadId) : (send e s).thread j = s.thread j := rfl
@[simp] theorem send_engine (e : OutEntry) (s : State) (j : EngineId) : (send e s).engine j = s.engine j := rfl
@[simp] theorem send_axis (e : OutEntry) (s : State) (j : AxisId) : (send e s).axis j = s.axis j := rfl
@[simp] theorem send_item (e : OutEntry) (s : State) (j : ItemId) : (send e s).item j = s.item j := rfl
@[simp] theorem send_req (e : OutEntry) (s : State) (j : SpokeId) : (send e s).req j = s.req j := rfl
@[simp] theorem send_port (e : OutEntry) (s : State) (j : PortId) : (send e s).port j = s.port j := rfl
@[simp] theorem send_island (e : OutEntry) (s : State) (j : IslandId) : (send e s).island j = s.island j := rfl
@[simp] theorem send_vec (e : OutEntry) (s : State) (j : VecId) : (send e s).vec j = s.vec j := rfl
@[simp] theorem send_act (e : OutEntry) (s : State) (j : Nat) : (send e s).act j = s.act j := rfl
@[simp] theorem send_inDay (e : OutEntry) (s : State) : (send e s).inDay = s.inDay := rfl
@[simp] theorem send_alive (e : OutEntry) (s : State) : (send e s).alive = s.alive := rfl
@[simp] theorem send_pcieUp (e : OutEntry) (s : State) : (send e s).pcieUp = s.pcieUp := rfl
@[simp] theorem send_clocked (e : OutEntry) (s : State) : (send e s).clocked = s.clocked := rfl
@[simp] theorem send_outage (e : OutEntry) (s : State) : (send e s).outage = s.outage := rfl
@[simp] theorem send_count (e : OutEntry) (s : State) : (send e s).count = s.count := rfl
@[simp] theorem send_hostReach (e : OutEntry) (s : State) : (send e s).hostReach = s.hostReach := rfl
@[simp] theorem send_due (e : OutEntry) (s : State) (k : IslandId) (d : DT) : (send e s).due k d = s.due k d := rfl
@[simp] theorem send_now (e : OutEntry) (s : State) : (send e s).now = s.now := rfl
@[simp] theorem send_frozen (e : OutEntry) (s : State) : (send e s).frozen = s.frozen := rfl
@[simp] theorem send_slot (e : OutEntry) (s : State) : (send e s).slot = s.slot := rfl
@[simp] theorem send_suppressed (e : OutEntry) (s : State) : (send e s).suppressed = s.suppressed := rfl

end Sys2Proof.Laws
end

