-- ==== Sys2Proof/Laws/Ops.lean ====
section
/-! SUPPORT. What operations over every instance do to one instance, and what stands outside some parts of the state. -/

namespace Sys2Proof.Laws

open Sys2Proof.Machine

/-! ### Islands -/

theorem foldl_modIsland (g : IslandId → Isl → Isl) (l : List IslandId) (hl : l.Nodup) (s : State) (j : IslandId) :
    (l.foldl (fun s i => s.modIsland i (g i)) s).island j = if j ∈ l then g j (s.island j) else s.island j := by
  induction l generalizing s with
  | nil => simp
  | cons a l ih =>
    obtain ⟨ha, hn⟩ := List.nodup_cons.1 hl
    rw [List.foldl_cons, ih hn]
    by_cases hj : j = a
    · subst hj; simp [ha]
    · simp [hj]

theorem commitIslands_nodup : commitIslands.Nodup := List.Nodup.filter _ (List.nodup_finRange 88)

/-- The islands of R49: 0x00 to 0x55, Handlebar (0x53) apart. -/
@[simp] theorem mem_commitIslands (i : IslandId) : i ∈ commitIslands ↔ i.val ≠ 0x53 ∧ i.val < 0x56 := by
  simp [commitIslands]

/-- A message sent to every island of R49 stands last in each of their channels, and nowhere else. -/
@[simp] theorem overIslands_sendIsl_island (m : CommitMsg) (s : State) (j : IslandId) :
    (overIslands (sendIsl m) s).island j =
      if j.val ≠ 0x53 ∧ j.val < 0x56 then { s.island j with inbox := (s.island j).inbox ++ [m] } else s.island j := by
  have h := foldl_modIsland (fun _ x => { x with inbox := x.inbox ++ [m] }) commitIslands commitIslands_nodup s j
  simp only [mem_commitIslands] at h
  exact h

/-! ### One part of the state as it was -/

section
variable {q : Parts} {s t : State}

theorem eq_of_outside (h : t.outside q = s.outside q) :
    (q.pending = false → t.pending = s.pending) ∧ (q.clock = false → t.clock = s.clock) ∧
    (q.dt = false → t.dt = s.dt) ∧ (q.dtRuns = false → t.dtRuns = s.dtRuns) ∧ (q.phase = false → t.phase = s.phase) ∧
    (q.shadow = false → t.shadow = s.shadow) ∧ (q.imm = false → t.imm = s.imm) ∧ (q.isl = false → t.isl = s.isl) ∧
    (q.commit = false → t.commit = s.commit) ∧ (q.snap = false → t.snap = s.snap) ∧
    (q.occs = false → t.occs = s.occs) ∧ (q.occs = false → t.evDrops = s.evDrops) ∧
    (q.occs = false → t.evOwed = s.evOwed) ∧ (q.outbox = false → t.outbox = s.outbox) ∧
    (q.posted = false → t.posted = s.posted) ∧ (q.mem = false → t.mem = s.mem) ∧
    (q.flash = false → t.flash = s.flash) ∧ (q.spokes = false → t.spokes = s.spokes) ∧
    (q.pacer = false → t.pacer = if q.latch then { s.pacer with latch := t.pacer.latch } else s.pacer) ∧
    (q.engines = false → t.engines = s.engines) ∧ (q.crank = false → t.crank = s.crank) ∧
    (q.truing = false → t.truing = s.truing) ∧ (q.hub = false → t.hub = s.hub) ∧ (q.noon = false → t.noon = s.noon) ∧
    (q.ports = false → t.ports = s.ports) ∧ (q.fw = false → t.fw = s.fw) ∧ (q.stoker = false → t.stoker = s.stoker) ∧
    (q.pair = false → t.pair = s.pair) ∧ (q.hb = false → t.hb = s.hb) ∧ (q.dyn = false → t.dyn = s.dyn) ∧
    t.hb.fuse = s.hb.fuse := by
  simp only [State.outside, State.mk.injEq] at h
  obtain ⟨h1, h2, h3, h4, h5, h6, h7, h8, h9, h10, h11, h12, h13, h14, h15, h16,
    h17, h18, h19, h20, h21, h22, h23, h24, h25, h26, h27, h28, h29, h30⟩ := h
  refine ⟨?_, ?_, ?_, ?_, ?_, ?_, ?_, ?_, ?_, ?_, ?_, ?_, ?_, ?_, ?_, ?_, ?_, ?_, ?_, ?_, ?_, ?_, ?_, ?_, ?_, ?_, ?_, ?_, ?_, ?_, ?_⟩
  case refine_31 =>
    cases hq : q.hb
    · simp [hq] at h29; rw [h29]
    · simp [hq] at h29; exact h29
  case refine_19 =>
    intro hq
    cases hl : q.latch
    · simp [hq, hl] at h19; simp [h19]
    · simp only [hq, hl, Bool.false_eq_true, if_false, if_true] at h19 ⊢
      have h := congrArg (fun p : Pacer => { p with latch := t.pacer.latch }) h19
      exact h
  all_goals intro hq; simp_all

/-- A state that differs from another in some parts only, written out. -/
theorem with_eq (h : t.outside q = s.outside q) :
    t = { s with
      pending := if q.pending then t.pending else s.pending, clock := if q.clock then t.clock else s.clock
      dt := if q.dt then t.dt else s.dt, dtRuns := if q.dtRuns then t.dtRuns else s.dtRuns
      phase := if q.phase then t.phase else s.phase, shadow := if q.shadow then t.shadow else s.shadow
      imm := if q.imm then t.imm else s.imm, isl := if q.isl then t.isl else s.isl
      commit := if q.commit then t.commit else s.commit, snap := if q.snap then t.snap else s.snap
      occs := if q.occs then t.occs else s.occs, evDrops := if q.occs then t.evDrops else s.evDrops
      evOwed := if q.occs then t.evOwed else s.evOwed, outbox := if q.outbox then t.outbox else s.outbox
      posted := if q.posted then t.posted else s.posted, mem := if q.mem then t.mem else s.mem
      flash := if q.flash then t.flash else s.flash, spokes := if q.spokes then t.spokes else s.spokes
      pacer := if q.pacer then t.pacer else if q.latch then { s.pacer with latch := t.pacer.latch } else s.pacer
      engines := if q.engines then t.engines else s.engines, crank := if q.crank then t.crank else s.crank
      truing := if q.truing then t.truing else s.truing, hub := if q.hub then t.hub else s.hub
      noon := if q.noon then t.noon else s.noon, ports := if q.ports then t.ports else s.ports
      fw := if q.fw then t.fw else s.fw, stoker := if q.stoker then t.stoker else s.stoker
      pair := if q.pair then t.pair else s.pair, hb := if q.hb then t.hb else s.hb
      dyn := if q.dyn then t.dyn else s.dyn } := by
  obtain ⟨h1, h2, h3, h4, h5, h6, h7, h8, h9, h10, h11, h12, h13, h14, h15, h16, h17, h18, h19, h20, h21, h22, h23, h24, h25, h26, h27, h28, h29, h30, _⟩ := eq_of_outside h
  cases t; cases s
  simp only [State.mk.injEq] at *
  refine ⟨?_, ?_, ?_, ?_, ?_, ?_, ?_, ?_, ?_, ?_, ?_, ?_, ?_, ?_, ?_, ?_, ?_, ?_, ?_, ?_, ?_, ?_, ?_, ?_, ?_, ?_, ?_, ?_, ?_, ?_⟩
  case refine_19 =>
    cases hq : q.pacer
    · exact h19 hq
    · rfl
  all_goals (clear h19; split <;> simp_all)

end

end Sys2Proof.Laws
end

