-- ==== Sys2Proof/Laws/Pacer.lean ====
section
/-! SUPPORT. What issuing and completing a Pacer instruction comes to, and registers named by their numbers. -/

namespace Sys2Proof.Laws

open Sys2Proof.Machine

/-- An instruction of opcode `op` in its slot: its effect, or ILLEGAL. -/
theorem issueOp_issues {s : State} {p : ThreadId} {w : BitVec 64} {op : Nat} {ok : BitVec 64 → Bool}
    {f : BitVec 64 → State → State} (h : s.issues p w) (ho : iOp w = op) :
    issueOp p op ok f s = .next (if ok w then f w s else fault p 1 s) := by
  obtain ⟨hm, hw⟩ := h
  simp [issueOp, hm, hw, ho]

/-- The command of one opcode does nothing while another instruction stands at IP. -/
theorem issueOp_other {s : State} {p : ThreadId} {op : Nat} {ok : BitVec 64 → Bool} {f : BitVec 64 → State → State}
    (h : iOp (s.instrAt p) ≠ op) : issueOp p op ok f s = .next s := by
  simp [issueOp, h]

theorem goOn_eq {s : State} {p : ThreadId} (f : Thread → Thread) (h : (s.thread p).ip ≠ 0x3FFF) :
    goOn p f s = complete p (fun t => (f t).step) s := by rw [goOn, if_neg h]

theorem goOn_top {s : State} {p : ThreadId} (f : Thread → Thread) (h : (s.thread p).ip = 0x3FFF) :
    goOn p f s = fault p 2 s := by rw [goOn, if_pos h]

/-- An instruction of two slots does nothing in its first (R88, R126). -/
theorem twoSlots_first {s : State} {p : ThreadId} (f : State → State) (h : (s.thread p).ip ≠ 0x3FFF)
    (h1 : s.slot < (s.thread p).nextSlot + 16) : twoSlots p f s = s := by
  rw [twoSlots, if_neg h, secondSlot, if_neg (by omega)]

/-- It has its effect in its second. -/
theorem twoSlots_second {s : State} {p : ThreadId} (f : State → State) (h : (s.thread p).ip ≠ 0x3FFF)
    (h1 : (s.thread p).nextSlot + 16 ≤ s.slot) : twoSlots p f s = f s := by
  rw [twoSlots, if_neg h, secondSlot, if_pos h1]

@[simp] theorem thread_gr (t : Thread) (a : Fin 8) : t.gr a.val = t.g.get a := by simp [Thread.gr]

@[simp] theorem thread_tr (t : Thread) (a : Fin 8) : t.tr (8 + a.val) = t.t.get a := by
  have h : Fin.ofNat 8 (8 + a.val) = a := Fin.ext (by simp [Fin.ofNat])
  rw [Thread.tr, h]

@[simp] theorem thread_setG (t : Thread) (d : Fin 8) (x : Word) : t.setG d.val x = { t with g := t.g.set d.val x d.isLt } := by
  have h : d.val % 8 = d.val := Nat.mod_eq_of_lt d.isLt
  simp only [Thread.setG, h]

@[simp] theorem thread_setT (t : Thread) (d : Fin 8) (x : DT) :
    t.setT (8 + d.val) x = { t with t := t.t.set d.val x d.isLt } := by
  have h : (8 + d.val) % 8 = d.val := by omega
  simp only [Thread.setT, h]

@[simp] theorem isG_val (d : Fin 8) : isG d.val = true := by simp [isG]
@[simp] theorem isT_val (d : Fin 8) : isT (8 + d.val) = true := by simp [isT]; omega

end Sys2Proof.Laws
end

