-- ==== Sys2Proof/Laws/PerInstr.lean ====
section
/-! SUPPORT. Per command: no word spells it, since the operation table gives its rows no bits. -/

namespace Sys2Proof.Laws.Spelling

/-- No word of any length spells the command. -/
def Statement (i : Instr) : Prop := ∀ nbits w : Nat, decodeTableWord nbits w ≠ some i

theorem commitGo : Statement (.commitGo) := fun _ _ h => nomatch h
theorem prepare (i : IslandId) : Statement (.prepare i) := fun _ _ h => nomatch h
theorem armed (i : IslandId) : Statement (.armed i) := fun _ _ h => nomatch h
theorem notArmed (i : IslandId) : Statement (.notArmed i) := fun _ _ h => nomatch h
theorem noarmDeadline : Statement (.noarmDeadline) := fun _ _ h => nomatch h
theorem confirm (i : IslandId) : Statement (.confirm i) := fun _ _ h => nomatch h
theorem abandon (i : IslandId) : Statement (.abandon i) := fun _ _ h => nomatch h
theorem pendingCopyDiscard (i : IslandId) : Statement (.pendingCopyDiscard i) := fun _ _ h => nomatch h
theorem commitSwap : Statement (.commitSwap) := fun _ _ h => nomatch h
theorem retireHoldExpiry (s : SpokeId) : Statement (.retireHoldExpiry s) := fun _ _ h => nomatch h
theorem multiwordReadLatch (bus : BusPort) (off : BitVec 20) : Statement (.multiwordReadLatch bus off) := fun _ _ h => nomatch h
theorem registerWrite (bus : BusPort) (off : BitVec 20) (val : Word) : Statement (.registerWrite bus off val) := fun _ _ h => nomatch h
theorem partialWrite (off : BitVec 20) (val : Word) (be : BitVec 4) : Statement (.partialWrite off val be) := fun _ _ h => nomatch h
theorem periodicSnapshot : Statement (.periodicSnapshot) := fun _ _ h => nomatch h
theorem snapshotRequest : Statement (.snapshotRequest) := fun _ _ h => nomatch h
theorem snapshotLatch : Statement (.snapshotLatch) := fun _ _ h => nomatch h
theorem snapshotComplete : Statement (.snapshotComplete) := fun _ _ h => nomatch h
theorem anchorDescriptor (s : SpokeId) : Statement (.anchorDescriptor s) := fun _ _ h => nomatch h
theorem pulseDescriptor (s : SpokeId) : Statement (.pulseDescriptor s) := fun _ _ h => nomatch h
theorem burstDescriptor (s : SpokeId) : Statement (.burstDescriptor s) := fun _ _ h => nomatch h
theorem trainDescriptor (s : SpokeId) : Statement (.trainDescriptor s) := fun _ _ h => nomatch h
theorem levelDescriptor (s : SpokeId) : Statement (.levelDescriptor s) := fun _ _ h => nomatch h
theorem windowDescriptor (s : SpokeId) : Statement (.windowDescriptor s) := fun _ _ h => nomatch h
theorem descriptorKindInvalid (s : SpokeId) : Statement (.descriptorKindInvalid s) := fun _ _ h => nomatch h
theorem leadingEdge (s : SpokeId) : Statement (.leadingEdge s) := fun _ _ h => nomatch h
theorem trailingEdge (s : SpokeId) : Statement (.trailingEdge s) := fun _ _ h => nomatch h
theorem levelChange (s : SpokeId) : Statement (.levelChange s) := fun _ _ h => nomatch h
theorem windowOpen (s : SpokeId) : Statement (.windowOpen s) := fun _ _ h => nomatch h
theorem windowClose (s : SpokeId) : Statement (.windowClose s) := fun _ _ h => nomatch h
theorem pinCrossing (s : SpokeId) (uv : Int) : Statement (.pinCrossing s uv) := fun _ _ h => nomatch h
theorem modeChange (s : SpokeId) : Statement (.modeChange s) := fun _ _ h => nomatch h
theorem modeChangeIntervalEnd (s : SpokeId) : Statement (.modeChangeIntervalEnd s) := fun _ _ h => nomatch h
theorem spokeCancelGo (s : SpokeId) : Statement (.spokeCancelGo s) := fun _ _ h => nomatch h
theorem cancelDue (s : SpokeId) : Statement (.cancelDue s) := fun _ _ h => nomatch h
theorem nop (p : ThreadId) : Statement (.nop p) := fun _ _ h => nomatch h
theorem halt (p : ThreadId) : Statement (.halt p) := fun _ _ h => nomatch h
theorem b (p : ThreadId) : Statement (.b p) := fun _ _ h => nomatch h
theorem call (p : ThreadId) : Statement (.call p) := fun _ _ h => nomatch h
theorem ret (p : ThreadId) : Statement (.ret p) := fun _ _ h => nomatch h
theorem loop (p : ThreadId) : Statement (.loop p) := fun _ _ h => nomatch h
theorem endl (p : ThreadId) : Statement (.endl p) := fun _ _ h => nomatch h
theorem add (p : ThreadId) : Statement (.add p) := fun _ _ h => nomatch h
theorem sub (p : ThreadId) : Statement (.sub p) := fun _ _ h => nomatch h
theorem and (p : ThreadId) : Statement (.and p) := fun _ _ h => nomatch h
theorem or (p : ThreadId) : Statement (.or p) := fun _ _ h => nomatch h
theorem xor (p : ThreadId) : Statement (.xor p) := fun _ _ h => nomatch h
theorem shl (p : ThreadId) : Statement (.shl p) := fun _ _ h => nomatch h
theorem shr (p : ThreadId) : Statement (.shr p) := fun _ _ h => nomatch h
theorem mul (p : ThreadId) : Statement (.mul p) := fun _ _ h => nomatch h
theorem cmp (p : ThreadId) : Statement (.cmp p) := fun _ _ h => nomatch h
theorem mov (p : ThreadId) : Statement (.mov p) := fun _ _ h => nomatch h
theorem movi (p : ThreadId) : Statement (.movi p) := fun _ _ h => nomatch h
theorem addi (p : ThreadId) : Statement (.addi p) := fun _ _ h => nomatch h
theorem andi (p : ThreadId) : Statement (.andi p) := fun _ _ h => nomatch h
theorem cmpi (p : ThreadId) : Statement (.cmpi p) := fun _ _ h => nomatch h
theorem shli (p : ThreadId) : Statement (.shli p) := fun _ _ h => nomatch h
theorem shri (p : ThreadId) : Statement (.shri p) := fun _ _ h => nomatch h
theorem tmov (p : ThreadId) : Statement (.tmov p) := fun _ _ h => nomatch h
theorem tadd (p : ThreadId) : Statement (.tadd p) := fun _ _ h => nomatch h
theorem tsub (p : ThreadId) : Statement (.tsub p) := fun _ _ h => nomatch h
theorem tcmp (p : ThreadId) : Statement (.tcmp p) := fun _ _ h => nomatch h
theorem taddi (p : ThreadId) : Statement (.taddi p) := fun _ _ h => nomatch h
theorem taddg (p : ThreadId) : Statement (.taddg p) := fun _ _ h => nomatch h
theorem tmac (p : ThreadId) : Statement (.tmac p) := fun _ _ h => nomatch h
theorem tdiff (p : ThreadId) : Statement (.tdiff p) := fun _ _ h => nomatch h
theorem tldl (p : ThreadId) : Statement (.tldl p) := fun _ _ h => nomatch h
theorem tldh (p : ThreadId) : Statement (.tldh p) := fun _ _ h => nomatch h
theorem tget (p : ThreadId) : Statement (.tget p) := fun _ _ h => nomatch h
theorem tput (p : ThreadId) : Statement (.tput p) := fun _ _ h => nomatch h
theorem now (p : ThreadId) : Statement (.now p) := fun _ _ h => nomatch h
theorem ldd (p : ThreadId) : Statement (.ldd p) := fun _ _ h => nomatch h
theorem tld (p : ThreadId) : Statement (.tld p) := fun _ _ h => nomatch h
theorem info (p : ThreadId) : Statement (.info p) := fun _ _ h => nomatch h
theorem pulse (p : ThreadId) : Statement (.pulse p) := fun _ _ h => nomatch h
theorem level (p : ThreadId) : Statement (.level p) := fun _ _ h => nomatch h
theorem emit (p : ThreadId) : Statement (.emit p) := fun _ _ h => nomatch h
theorem anchor (p : ThreadId) : Statement (.anchor p) := fun _ _ h => nomatch h
theorem cancel (p : ThreadId) : Statement (.cancel p) := fun _ _ h => nomatch h
theorem waitq (p : ThreadId) : Statement (.waitq p) := fun _ _ h => nomatch h
theorem vstart (p : ThreadId) : Statement (.vstart p) := fun _ _ h => nomatch h
theorem vjump (p : ThreadId) : Statement (.vjump p) := fun _ _ h => nomatch h
theorem vrate (p : ThreadId) : Statement (.vrate p) := fun _ _ h => nomatch h
theorem vstop (p : ThreadId) : Statement (.vstop p) := fun _ _ h => nomatch h
theorem kpost (p : ThreadId) : Statement (.kpost p) := fun _ _ h => nomatch h
theorem ktake (p : ThreadId) : Statement (.ktake p) := fun _ _ h => nomatch h
theorem waitt (p : ThreadId) : Statement (.waitt p) := fun _ _ h => nomatch h
theorem waite (p : ThreadId) : Statement (.waite p) := fun _ _ h => nomatch h
theorem recv (p : ThreadId) : Statement (.recv p) := fun _ _ h => nomatch h
theorem trig (p : ThreadId) : Statement (.trig p) := fun _ _ h => nomatch h
theorem raise (p : ThreadId) : Statement (.raise p) := fun _ _ h => nomatch h
theorem commit (p : ThreadId) : Statement (.commit p) := fun _ _ h => nomatch h
theorem undefinedOp (p : ThreadId) : Statement (.undefinedOp p) := fun _ _ h => nomatch h
theorem issueRetry (p : ThreadId) : Statement (.issueRetry p) := fun _ _ h => nomatch h
theorem waittExpiry (p : ThreadId) : Statement (.waittExpiry p) := fun _ _ h => nomatch h
theorem waitDeadlineExpiry (p : ThreadId) : Statement (.waitDeadlineExpiry p) := fun _ _ h => nomatch h
theorem waiteRelease (p : ThreadId) : Statement (.waiteRelease p) := fun _ _ h => nomatch h
theorem recvRelease (p : ThreadId) : Statement (.recvRelease p) := fun _ _ h => nomatch h
theorem ktakeRelease (p : ThreadId) : Statement (.ktakeRelease p) := fun _ _ h => nomatch h
theorem waitqRelease (p : ThreadId) : Statement (.waitqRelease p) := fun _ _ h => nomatch h
theorem commitAnswer (p : ThreadId) : Statement (.commitAnswer p) := fun _ _ h => nomatch h
theorem pacerEventArrival (e : EventId) : Statement (.pacerEventArrival e) := fun _ _ h => nomatch h
theorem placeFreed (s : SpokeId) : Statement (.placeFreed s) := fun _ _ h => nomatch h
theorem mailboxEntry (p : ThreadId) : Statement (.mailboxEntry p) := fun _ _ h => nomatch h
theorem thStart (p : ThreadId) : Statement (.thStart p) := fun _ _ h => nomatch h
theorem thStop (p : ThreadId) : Statement (.thStop p) := fun _ _ h => nomatch h
theorem thResume (p : ThreadId) : Statement (.thResume p) := fun _ _ h => nomatch h
theorem threadActionDue (p : ThreadId) : Statement (.threadActionDue p) := fun _ _ h => nomatch h
theorem cmdNop (p : ThreadId) : Statement (.cmdNop p) := fun _ _ h => nomatch h
theorem cmdPost (p : ThreadId) : Statement (.cmdPost p) := fun _ _ h => nomatch h
theorem cmdStart (p : ThreadId) : Statement (.cmdStart p) := fun _ _ h => nomatch h
theorem cmdStop (p : ThreadId) : Statement (.cmdStop p) := fun _ _ h => nomatch h
theorem cmdResume (p : ThreadId) : Statement (.cmdResume p) := fun _ _ h => nomatch h
theorem bankCrcGo : Statement (.bankCrcGo) := fun _ _ h => nomatch h
theorem bankCrcDone : Statement (.bankCrcDone) := fun _ _ h => nomatch h
theorem engineStart (v : EngineId) : Statement (.engineStart v) := fun _ _ h => nomatch h
theorem vectorStart (v : EngineId) : Statement (.vectorStart v) := fun _ _ h => nomatch h
theorem slotDriveAction (v : EngineId) (s : SpokeId) : Statement (.slotDriveAction v s) := fun _ _ h => nomatch h
theorem slotStrobe (v : EngineId) (s : SpokeId) : Statement (.slotStrobe v s) := fun _ _ h => nomatch h
theorem latchPoint (v : EngineId) : Statement (.latchPoint v) := fun _ _ h => nomatch h
theorem segmentBoundary (v : EngineId) : Statement (.segmentBoundary v) := fun _ _ h => nomatch h
theorem jumpArrival (v : EngineId) : Statement (.jumpArrival v) := fun _ _ h => nomatch h
theorem engineStop (v : EngineId) : Statement (.engineStop v) := fun _ _ h => nomatch h
theorem rateChange (v : EngineId) : Statement (.rateChange v) := fun _ _ h => nomatch h
theorem streamFeedEntry (v : EngineId) : Statement (.streamFeedEntry v) := fun _ _ h => nomatch h
theorem fillComplete (v : EngineId) (data : Octets) : Statement (.fillComplete v data) := fun _ _ h => nomatch h
theorem vectorMemoryWrite (addr : BitVec 23) (data : List (Option (BitVec 8))) : Statement (.vectorMemoryWrite addr data) := fun _ _ h => nomatch h
theorem failFirstRearm (v : EngineId) : Statement (.failFirstRearm v) := fun _ _ h => nomatch h
theorem segmentGo (a : AxisId) : Statement (.segmentGo a) := fun _ _ h => nomatch h
theorem segmentRecord : Statement (.segmentRecord) := fun _ _ h => nomatch h
theorem segstart (a : AxisId) : Statement (.segstart a) := fun _ _ h => nomatch h
theorem seam (a : AxisId) : Statement (.seam a) := fun _ _ h => nomatch h
theorem dry (a : AxisId) : Statement (.dry a) := fun _ _ h => nomatch h
theorem targetEntry (a : AxisId) : Statement (.targetEntry a) := fun _ _ h => nomatch h
theorem solveComplete (a : AxisId) : Statement (.solveComplete a) := fun _ _ h => nomatch h
theorem targetTimeout (a : AxisId) : Statement (.targetTimeout a) := fun _ _ h => nomatch h
theorem axisClear (a : AxisId) : Statement (.axisClear a) := fun _ _ h => nomatch h
theorem burstStart (s : SpokeId) : Statement (.burstStart s) := fun _ _ h => nomatch h
theorem burstEnd (s : SpokeId) : Statement (.burstEnd s) := fun _ _ h => nomatch h
theorem histogramComplete (it : ItemId) (counts : List Nat) : Statement (.histogramComplete it counts) := fun _ _ h => nomatch h
theorem histogramTimeout (it : ItemId) : Statement (.histogramTimeout it) := fun _ _ h => nomatch h
theorem trimStep (it : ItemId) (tap : Fin 4096) : Statement (.trimStep it tap) := fun _ _ h => nomatch h
theorem fullRunRequest (s : SpokeId) (dl : BitVec 20) : Statement (.fullRunRequest s dl) := fun _ _ h => nomatch h
theorem fullRunWithdraw (s : SpokeId) : Statement (.fullRunWithdraw s) := fun _ _ h => nomatch h
theorem fullRunStart (s : SpokeId) : Statement (.fullRunStart s) := fun _ _ h => nomatch h
theorem delayPhaseStart (s : SpokeId) : Statement (.delayPhaseStart s) := fun _ _ h => nomatch h
theorem thresholdPhaseStart (s : SpokeId) (uv : Int) : Statement (.thresholdPhaseStart s uv) := fun _ _ h => nomatch h
theorem thresholdSample (s : SpokeId) (uv : Int) : Statement (.thresholdSample s uv) := fun _ _ h => nomatch h
theorem applyPhaseStart (s : SpokeId) (thr : Int) : Statement (.applyPhaseStart s thr) := fun _ _ h => nomatch h
theorem fullRunEnd (s : SpokeId) : Statement (.fullRunEnd s) := fun _ _ h => nomatch h
theorem requestExpired (s : SpokeId) : Statement (.requestExpired s) := fun _ _ h => nomatch h
theorem storeGo : Statement (.storeGo) := fun _ _ h => nomatch h
theorem autostoreInterval : Statement (.autostoreInterval) := fun _ _ h => nomatch h
theorem autostoreAfterRun : Statement (.autostoreAfterRun) := fun _ _ h => nomatch h
theorem pageProgram : Statement (.pageProgram) := fun _ _ h => nomatch h
theorem storeComplete (ok : Bool) : Statement (.storeComplete ok) := fun _ _ h => nomatch h
theorem settleEnd : Statement (.settleEnd) := fun _ _ h => nomatch h
theorem bandSearchDone (band : BitVec 5) : Statement (.bandSearchDone band) := fun _ _ h => nomatch h
theorem lockWaitEnd (w1 : Nat) (w2 : Nat) : Statement (.lockWaitEnd w1 w2) := fun _ _ h => nomatch h
theorem ceilingBackoffEnd : Statement (.ceilingBackoffEnd) := fun _ _ h => nomatch h
theorem gateOpen : Statement (.gateOpen) := fun _ _ h => nomatch h
theorem phaseMonitorTrip : Statement (.phaseMonitorTrip) := fun _ _ h => nomatch h
theorem ceilingWindow (w : Nat) : Statement (.ceilingWindow w) := fun _ _ h => nomatch h
theorem referenceLost : Statement (.referenceLost) := fun _ _ h => nomatch h
theorem dcoWordApply : Statement (.dcoWordApply) := fun _ _ h => nomatch h
theorem measurement : Statement (.measurement) := fun _ _ h => nomatch h
theorem phaseStep : Statement (.phaseStep) := fun _ _ h => nomatch h
theorem sourceComparison : Statement (.sourceComparison) := fun _ _ h => nomatch h
theorem dtDistribute : Statement (.dtDistribute) := fun _ _ h => nomatch h
theorem ppsoutPulse : Statement (.ppsoutPulse) := fun _ _ h => nomatch h
theorem ppsoutPulseEnd : Statement (.ppsoutPulseEnd) := fun _ _ h => nomatch h
theorem ppsinEdge (rising : Bool) : Statement (.ppsinEdge rising) := fun _ _ h => nomatch h
theorem ppsinMissing : Statement (.ppsinMissing) := fun _ _ h => nomatch h
theorem stepRequest : Statement (.stepRequest) := fun _ _ h => nomatch h
theorem autoStepRequest : Statement (.autoStepRequest) := fun _ _ h => nomatch h
theorem stepRetry : Statement (.stepRetry) := fun _ _ h => nomatch h
theorem stepDue : Statement (.stepDue) := fun _ _ h => nomatch h
theorem autorestartRetry : Statement (.autorestartRetry) := fun _ _ h => nomatch h
theorem portOff (c : PortId) : Statement (.portOff c) := fun _ _ h => nomatch h
theorem portRun (c : PortId) : Statement (.portRun c) := fun _ _ h => nomatch h
theorem portSiesta (c : PortId) : Statement (.portSiesta c) := fun _ _ h => nomatch h
theorem siestaWakeEnd (c : PortId) : Statement (.siestaWakeEnd c) := fun _ _ h => nomatch h
theorem blockLockGained (lane : Lane) : Statement (.blockLockGained lane) := fun _ _ h => nomatch h
theorem blockLockLost (lane : Lane) : Statement (.blockLockLost lane) := fun _ _ h => nomatch h
theorem listenLockHeld (c : PortId) : Statement (.listenLockHeld c) := fun _ _ h => nomatch h
theorem rateStep (c : PortId) : Statement (.rateStep c) := fun _ _ h => nomatch h
theorem bellTimer (c : PortId) : Statement (.bellTimer c) := fun _ _ h => nomatch h
theorem bell (c : PortId) (pdu : Octets) : Statement (.bell c pdu) := fun _ _ h => nomatch h
theorem partnerGone (c : PortId) : Statement (.partnerGone c) := fun _ _ h => nomatch h
theorem offer (c : PortId) (pdu : Octets) : Statement (.offer c pdu) := fun _ _ h => nomatch h
theorem offerTimer (c : PortId) : Statement (.offerTimer c) := fun _ _ h => nomatch h
theorem accept (c : PortId) (pdu : Octets) : Statement (.accept c pdu) := fun _ _ h => nomatch h
theorem reject (c : PortId) (pdu : Octets) : Statement (.reject c pdu) := fun _ _ h => nomatch h
theorem negotiateTimeout (c : PortId) : Statement (.negotiateTimeout c) := fun _ _ h => nomatch h
theorem restepTimer (c : PortId) : Statement (.restepTimer c) := fun _ _ h => nomatch h
theorem stampTimer (c : PortId) : Statement (.stampTimer c) := fun _ _ h => nomatch h
theorem stamp (c : PortId) (sync : Bool) (msg : Octets) : Statement (.stamp c sync msg) :=
  fun _ _ h => nomatch h
theorem estimatorFreeze (c : PortId) : Statement (.estimatorFreeze c) := fun _ _ h => nomatch h
theorem triggerFrame (c : PortId) (pdu : Octets) : Statement (.triggerFrame c pdu) := fun _ _ h => nomatch h
theorem axisFrame (c : PortId) (pdu : Octets) : Statement (.axisFrame c pdu) := fun _ _ h => nomatch h
theorem hostFrame (c : PortId) (pdu : Octets) : Statement (.hostFrame c pdu) := fun _ _ h => nomatch h
theorem messageRingEntry (c : PortId) : Statement (.messageRingEntry c) := fun _ _ h => nomatch h
theorem testLoopNearSerial (c : PortId) : Statement (.testLoopNearSerial c) := fun _ _ h => nomatch h
theorem testLoopNearParallel (c : PortId) : Statement (.testLoopNearParallel c) := fun _ _ h => nomatch h
theorem testLoopFarRetimed (c : PortId) : Statement (.testLoopFarRetimed c) := fun _ _ h => nomatch h
theorem testLoopEnd (c : PortId) : Statement (.testLoopEnd c) := fun _ _ h => nomatch h
theorem prbsGen (c : PortId) : Statement (.prbsGen c) := fun _ _ h => nomatch h
theorem prbsCheck (c : PortId) (errs : Nat) : Statement (.prbsCheck c errs) := fun _ _ h => nomatch h
theorem frameAdmission (c : PortId) (fromHost : Bool) (head : Octets) : Statement (.frameAdmission c fromHost head) := fun _ _ h => nomatch h
theorem frameEndReceived (c : PortId) (fromHost : Bool) (tail : Octets) (codeErr : Bool) : Statement (.frameEndReceived c fromHost tail codeErr) := fun _ _ h => nomatch h
theorem egressStart (c : PortId) (toLine : Bool) : Statement (.egressStart c toLine) := fun _ _ h => nomatch h
theorem egressEnd (c : PortId) (toLine : Bool) : Statement (.egressEnd c toLine) := fun _ _ h => nomatch h
theorem ringBeacon (r : RingDir) (cell : Octets) : Statement (.ringBeacon r cell) := fun _ _ h => nomatch h
theorem ringHopstamp (r : RingDir) (cell : Octets) : Statement (.ringHopstamp r cell) := fun _ _ h => nomatch h
theorem ringCandidate (r : RingDir) (cell : Octets) : Statement (.ringCandidate r cell) := fun _ _ h => nomatch h
theorem ringRequest (r : RingDir) (cell : Octets) : Statement (.ringRequest r cell) := fun _ _ h => nomatch h
theorem ringPrepare (r : RingDir) (cell : Octets) : Statement (.ringPrepare r cell) := fun _ _ h => nomatch h
theorem ringAnswer (r : RingDir) (cell : Octets) : Statement (.ringAnswer r cell) := fun _ _ h => nomatch h
theorem ringConfirm (r : RingDir) (cell : Octets) : Statement (.ringConfirm r cell) := fun _ _ h => nomatch h
theorem ringAbandon (r : RingDir) (cell : Octets) : Statement (.ringAbandon r cell) := fun _ _ h => nomatch h
theorem ringTrigger (r : RingDir) (cell : Octets) : Statement (.ringTrigger r cell) := fun _ _ h => nomatch h
theorem coordinatorDeadline : Statement (.coordinatorDeadline) := fun _ _ h => nomatch h
theorem beaconTimer : Statement (.beaconTimer) := fun _ _ h => nomatch h
theorem hopstampTimer : Statement (.hopstampTimer) := fun _ _ h => nomatch h
theorem hopEstimatorFreeze (port : RingPort) : Statement (.hopEstimatorFreeze port) := fun _ _ h => nomatch h
theorem ringLost (x : RingLoss) : Statement (.ringLost x) := fun _ _ h => nomatch h
theorem ringReturn : Statement (.ringReturn) := fun _ _ h => nomatch h
theorem seekTimeout : Statement (.seekTimeout) := fun _ _ h => nomatch h
theorem holdoverTimeout : Statement (.holdoverTimeout) := fun _ _ h => nomatch h
theorem electWindowEnd : Statement (.electWindowEnd) := fun _ _ h => nomatch h
theorem join : Statement (.join) := fun _ _ h => nomatch h
theorem heartbeatTimer : Statement (.heartbeatTimer) := fun _ _ h => nomatch h
theorem heartbeat (pdu : Octets) : Statement (.heartbeat pdu) := fun _ _ h => nomatch h
theorem relayFrame (pdu : Octets) : Statement (.relayFrame pdu) := fun _ _ h => nomatch h
theorem heartbeatMissing : Statement (.heartbeatMissing) := fun _ _ h => nomatch h
theorem evidenceMismatch (s : SpokeId) (levelMismatch : Bool) : Statement (.evidenceMismatch s levelMismatch) := fun _ _ h => nomatch h
theorem netClear : Statement (.netClear) := fun _ _ h => nomatch h
theorem vacancyTimer : Statement (.vacancyTimer) := fun _ _ h => nomatch h
theorem handoverCheck : Statement (.handoverCheck) := fun _ _ h => nomatch h
theorem handoverSwitch : Statement (.handoverSwitch) := fun _ _ h => nomatch h
theorem refereeKick : Statement (.refereeKick) := fun _ _ h => nomatch h
theorem watchdogKickTimeout : Statement (.watchdogKickTimeout) := fun _ _ h => nomatch h
theorem tcxoLoss : Statement (.tcxoLoss) := fun _ _ h => nomatch h
theorem netfault : Statement (.netfault) := fun _ _ h => nomatch h
theorem brakeEnter : Statement (.brakeEnter) := fun _ _ h => nomatch h
theorem brakeExit : Statement (.brakeExit) := fun _ _ h => nomatch h
theorem hostReset : Statement (.hostReset) := fun _ _ h => nomatch h
theorem bar2Write (bus : BusPort) (addr : BitVec 24) (data : List (Option (BitVec 8))) : Statement (.bar2Write bus addr data) := fun _ _ h => nomatch h
theorem prodDoorbell (q : RingId) (n : BitVec 16) : Statement (.prodDoorbell q n) := fun _ _ h => nomatch h
theorem consDoorbell (q : RingId) (rx : Bool) (n : BitVec 16) : Statement (.consDoorbell q rx n) := fun _ _ h => nomatch h
theorem ringEnable (q : RingId) (rx : Bool) (cfg : Word) : Statement (.ringEnable q rx cfg) := fun _ _ h => nomatch h
theorem ringDisable (q : RingId) (rx : Bool) (cfg : Word) : Statement (.ringDisable q rx cfg) := fun _ _ h => nomatch h
theorem ringFetch (q : RingId) (x : HostRead) : Statement (.ringFetch q x) := fun _ _ h => nomatch h
theorem dmaReadError (q : RingId) : Statement (.dmaReadError q) := fun _ _ h => nomatch h
theorem ringEntryWrite (q : RingId) (x : RingWrite) : Statement (.ringEntryWrite q x) := fun _ _ h => nomatch h
theorem writeback (q : RingId) (rx : Bool) : Statement (.writeback q rx) := fun _ _ h => nomatch h
theorem eventOccurrence (e : EventId) : Statement (.eventOccurrence e) := fun _ _ h => nomatch h
theorem holdoffExpiry (v : VecId) : Statement (.holdoffExpiry v) := fun _ _ h => nomatch h
theorem vectorUnmask (v : VecId) : Statement (.vectorUnmask v) := fun _ _ h => nomatch h
theorem eventStatusClear (n : Fin 8) (mask : Word) (again : Word) : Statement (.eventStatusClear n mask again) := fun _ _ h => nomatch h
theorem spiReadStatus : Statement (.spiReadStatus) := fun _ _ h => nomatch h
theorem spiReadBar0 (addr : BitVec 24) (slow : Bool) : Statement (.spiReadBar0 addr slow) := fun _ _ h => nomatch h
theorem spiWriteBar0 (addr : BitVec 24) (val : Word) : Statement (.spiWriteBar0 addr val) := fun _ _ h => nomatch h
theorem spiReadBar2 (addr : BitVec 24) (slow : Bool) : Statement (.spiReadBar2 addr slow) := fun _ _ h => nomatch h
theorem spiWriteBar2 (addr : BitVec 24) (val : Word) : Statement (.spiWriteBar2 addr val) := fun _ _ h => nomatch h
theorem spiUnknownOpcode (op : BitVec 8) : Statement (.spiUnknownOpcode op) := fun _ _ h => nomatch h
theorem spiFrameEnd : Statement (.spiFrameEnd) := fun _ _ h => nomatch h
theorem flashRead : Statement (.flashRead) := fun _ _ h => nomatch h
theorem flashProgram : Statement (.flashProgram) := fun _ _ h => nomatch h
theorem flashErase : Statement (.flashErase) := fun _ _ h => nomatch h
theorem flashOpComplete (ok : Bool) : Statement (.flashOpComplete ok) := fun _ _ h => nomatch h
theorem pcieRefclkLoss : Statement (.pcieRefclkLoss) := fun _ _ h => nomatch h
theorem vinApplied : Statement (.vinApplied) := fun _ _ h => nomatch h
theorem enSample (en : Bool) (pins : PinSample) : Statement (.enSample en pins) := fun _ _ h => nomatch h
theorem startUp : Statement (.startUp) := fun _ _ h => nomatch h
theorem softStartEnd (cbus : BitVec 10) : Statement (.softStartEnd cbus) := fun _ _ h => nomatch h
theorem softStartTimeout : Statement (.softStartTimeout) := fun _ _ h => nomatch h
theorem railUp : Statement .railUp := fun _ _ h => nomatch h
theorem railTimeout : Statement (.railTimeout) := fun _ _ h => nomatch h
theorem dawnEntry : Statement (.dawnEntry) := fun _ _ h => nomatch h
theorem dayRequest : Statement (.dayRequest) := fun _ _ h => nomatch h
theorem duskRequest : Statement (.duskRequest) := fun _ _ h => nomatch h
theorem enLow : Statement (.enLow) := fun _ _ h => nomatch h
theorem brownout : Statement (.brownout) := fun _ _ h => nomatch h
theorem overvoltage : Statement (.overvoltage) := fun _ _ h => nomatch h
theorem ridethru : Statement (.ridethru) := fun _ _ h => nomatch h
theorem brownoutTimeout : Statement (.brownoutTimeout) := fun _ _ h => nomatch h
theorem vbusLow : Statement (.vbusLow) := fun _ _ h => nomatch h
theorem overcurrent : Statement (.overcurrent) := fun _ _ h => nomatch h
theorem railFault : Statement (.railFault) := fun _ _ h => nomatch h
theorem tempMeasure (temp : BitVec 12) : Statement (.tempMeasure temp) := fun _ _ h => nomatch h
theorem overtemp : Statement (.overtemp) := fun _ _ h => nomatch h
theorem duskGateClose : Statement (.duskGateClose) := fun _ _ h => nomatch h
theorem duskRailsDown : Statement (.duskRailsDown) := fun _ _ h => nomatch h
theorem nightEntry : Statement (.nightEntry) := fun _ _ h => nomatch h
theorem holdupRefresh (vin : BitVec 16) (vbus : BitVec 16) (pin : BitVec 16) : Statement (.holdupRefresh vin vbus pin) := fun _ _ h => nomatch h
theorem velFault : Statement (.velFault) := fun _ _ h => nomatch h
theorem pcieLinkTrained (speed : BitVec 3) (width : BitVec 4) : Statement (.pcieLinkTrained speed width) := fun _ _ h => nomatch h

end Sys2Proof.Laws.Spelling
end

