-- ==== Sys2Proof/Tests/Slice0.lean ====
section
/-! SUPPORT. Tests: each check of well-formedness refuses an ill-formed command; single steps on small states; and, for
every statement with hypotheses, a state and operands that meet them all. -/

set_option Elab.async false
set_option linter.unusedVariables false

namespace Sys2Proof.Tests

open Sys2Proof.Machine

/-! ### Ill-formed commands -/

theorem test_wf_multiwordReadLatch : (Instr.multiwordReadLatch .pcie 2).wf = false := by decide
theorem test_wf_registerWrite : (Instr.registerWrite .spi 0x1001 0).wf = false := by decide
theorem test_wf_partialWrite : (Instr.partialWrite 0x1002 0 1).wf = false := by decide
theorem test_wf_partialWrite_whole : (Instr.partialWrite 0x1000 0 0xF).wf = false := by decide
theorem test_wf_vectorMemoryWrite : (Instr.vectorMemoryWrite 0x7FFFFF [none, none]).wf = false := by decide
theorem test_wf_bar2Write : (Instr.bar2Write .pcie 0xFFFFFF [none, none]).wf = false := by decide
theorem test_wf_fillComplete : (Instr.fillComplete 0 [0]).wf = false := by decide
theorem test_wf_histogramComplete : (Instr.histogramComplete 0 [1, 2]).wf = false := by decide
theorem test_wf_frameAdmission : (Instr.frameAdmission 0 true []).wf = false := by decide
theorem test_wf_frameAdmission_long : (Instr.frameAdmission 0 true (List.replicate 65 0)).wf = false := by decide
theorem test_wf_ringBeacon : (Instr.ringBeacon .cw []).wf = false := by decide
theorem test_wf_ringHopstamp : (Instr.ringHopstamp .cw []).wf = false := by decide
theorem test_wf_ringCandidate : (Instr.ringCandidate .cw []).wf = false := by decide
theorem test_wf_ringRequest : (Instr.ringRequest .cw []).wf = false := by decide
theorem test_wf_ringPrepare : (Instr.ringPrepare .cw []).wf = false := by decide
theorem test_wf_ringAnswer : (Instr.ringAnswer .cw []).wf = false := by decide
theorem test_wf_ringConfirm : (Instr.ringConfirm .cw []).wf = false := by decide
theorem test_wf_ringAbandon : (Instr.ringAbandon .cw []).wf = false := by decide
theorem test_wf_ringTrigger : (Instr.ringTrigger .cw []).wf = false := by decide
theorem test_wf_prodDoorbell : (Instr.prodDoorbell 0 1).wf = false := by decide
theorem test_wf_consDoorbell : (Instr.consDoorbell 32 false 1).wf = false := by decide
theorem test_wf_consDoorbell_rx : (Instr.consDoorbell 32 true 1).wf = false := by decide
theorem test_wf_ringEnable : (Instr.ringEnable 0 false 0).wf = false := by decide
theorem test_wf_ringDisable : (Instr.ringDisable 0 false 0x10).wf = false := by decide
theorem test_wf_ringFetch : (Instr.ringFetch 32 ⟨0, [0]⟩).wf = false := by decide
theorem test_wf_dmaReadError : (Instr.dmaReadError 0).wf = false := by decide
theorem test_wf_ringEntryWrite : (Instr.ringEntryWrite 32 ⟨false, true⟩).wf = false := by decide
theorem test_wf_pcieLinkTrained : (Instr.pcieLinkTrained 0 1).wf = false := by decide
theorem test_wf_writeback : (Instr.writeback 0 true).wf = false := by decide
theorem test_wf_holds : (Instr.registerWrite .pcie 0x2004 7).wf = true := by decide

/-! ### Reset values: the Reset columns of the registers named (R12) -/

/-- DY_STAT.STATE 0b01 (Dawn); HB_COMMIT_STATUS.ISLAND 0xFF; FW_AGE.US 0x07D0; CP_PWR.MODE 0b10 (SIESTA). -/
theorem test_reset_reads : fld (State.reset.readLive 0x1000) 0 2 = 1 ∧
    fld (State.reset.readLive 0x38004) 0 16 = 0x7D0 ∧ fld (State.reset.readLive 0x30000) 0 2 = 2 := by decide +kernel

/-! ### Numbers -/

/-- The CRC-32 of R131 and R375 over the nine digits, as its published check value has it. -/
theorem test_crc32 : crc32 [0x31, 0x32, 0x33, 0x34, 0x35, 0x36, 0x37, 0x38, 0x39] = 0xCBF43926 := by decide +kernel

/-- The CRC-16 of R322 over the nine digits, as its published check value has it. -/
theorem test_crc16 : crc16 [0x31, 0x32, 0x33, 0x34, 0x35, 0x36, 0x37, 0x38, 0x39] = 0x29B1 := by decide +kernel

/-- R24: 0 is newer than 0xFFFFFFFF, and nothing is newer than itself. -/
theorem test_newer : newer 0 0xFFFFFFFF = true ∧ newer 5 5 = false ∧ newer 0x80000000 0 = false := by decide

/-! ### Single steps -/

theorem test_step_fault : step { State.reset with pending := [.registerWrite .pcie 2 0] } = .fault .unaligned := rfl


/-! ### Witnesses: states and operands that meet the hypotheses of each statement together -/

/-- In Day, clocked, 10 ms of Device Time counted. -/
def day : State :=
  { State.reset with
    dtRuns := true, dt := 40960000000, clock := 40960000000
    hub := { Hub.reset with gatesOpen := true, inDay := true, lock := .agreed }
    dyn := { Dynamo.reset with st := .day } }

/-- A spoke of `day` with SP_MODE and a content of its own. -/
def spokeWith (mode : Word) (x : Spoke) : State :=
  (day.setIsland 3 { Isl.reset with active := [(0x20300, mode)] }).setSpoke 3 { x with out := BitVec.ofNat 2 (fld mode 0 2) }

/-- The 128 bits of a descriptor, from KIND, further bits, WIDTH, PERIOD or LENGTH, and START. -/
def rawOf (kind more width period start : Nat) : BitVec 128 :=
  BitVec.ofNat 128 (kind + more + width * 2 ^ 18 + period * 2 ^ 44 + start * 2 ^ 72)

/-- A descriptor queued under anchor 0 and generation 0. -/
def qd (k : Kind) (raw : BitVec 128) : QDesc := enterAs Spoke.reset ⟨raw, 0, 2⟩ k

/-- A Pacer instruction word from OP, D, A, B and bits [43:0] (R91). -/
def iw (op d a b low : Nat) : BitVec 64 := BitVec.ofNat 64 (op * 2 ^ 56 + d * 2 ^ 52 + a * 2 ^ 48 + b * 2 ^ 44 + low)

/-- `day`, in a slot of P0, with P0 as given and words at its addresses 0 and 1. -/
def running (t : Thread) (w : BitVec 64) (w1 : BitVec 64 := 0) : State :=
  { day.setThread 0 t with mem := wrN memDflt (wrN memDflt [] 0x800000 (leOctets 8 w.toNat)) 0x800008 (leOctets 8 w1.toNat) }

/-- A thread in RUN at address 0. -/
def runT : Thread := { Thread.reset with state := .run }

/-- `day` with thread P3 as given. -/
def withP3 (t : Thread) : State := day.setThread 3 t

/-- `day` with engine V0 as given, segments 0 (idle) and 1 of 256 vectors each, and further words of its configuration. -/
def engDay (en : Engine) (more : RegMap := []) : State :=
  (day.setIsland 0x49 { Isl.reset with
    active := [(0x100000, 0x4000), (0x100004, 0x1000000), (0x100008, 0x4004), (0x10000C, 0x1000000)] ++ more }).setEngine 0 en

/-- V0 in segment 1 at a vector, its next vector start being now. -/
def playing (pos : Nat) : Engine :=
  { Engine.reset with state := .play, seg := 1, pos := pos, ref := 40959000000, period := 20480, nextVec := 40960000000 }

/-- The 32 octets of a ring entry: CMD, FLAGS, SEQ, ARG, DT. -/
def cmdEnt (cmd fl seq arg dt : Nat) : Octets :=
  leOctets 1 cmd ++ leOctets 1 fl ++ leOctets 2 seq ++ leOctets 4 arg ++ leOctets 10 dt ++ leOctets 14 0

/-- `day` with port 2 as given. -/
def withPort (p : Port) : State := day.setPort 2 p

/-- A link PDU or Pair PDU: TYPE, FLAGS, ID and body, SEQ 0. -/
def szl (ty flags id : Nat) (body : Octets) : Octets :=
  [1, BitVec.ofNat 8 ty] ++ leOctets 2 (16 + body.length) ++ [0, 0] ++ leOctets 2 flags ++ leOctets 8 id ++ body

/-- The identity of `day`. -/
def me : Nat := 0x10100000001

/-- The Offer a partner like `day` sends, and a settled mode with every grant, at 25.78125 Gb/s. -/
def peerOffer : OfferRec := ⟨9, 1, 1, 3, 7, 0x3F, 0, 0, 0, 0, 0⟩
def fullMode : ModeRec := ⟨1, 2, 1, 0x3F, false, 0, 0, 0⟩

/-- A port UP with a partner of identity 5. -/
def upPort : Port :=
  { Port.reset with
    mode := 1, st := 5, rate := 2, block := true, lockFrom := some 0, peer := 5, heard := 5, answered := true
    modeR := some fullMode, peerOffer := some peerOffer, accSent := some 9, accRecv := some ([], true) }

/-- A ring cell from position 3 on side A, to all, SEQ 7, with octets 0x04 to 0x1D. -/
def cellOf (ty : Nat) (body : Octets) : Octets := withCrc ([BitVec.ofNat 8 ty, 3, 0x10, 7] ++ body)

/-- `day` with Stoker as given. -/
def ringDay (k : Stoker) : State := { day with stoker := k }

/-- A MEMBER of the stack whose Captain is at position 3 with identity 5, both rings present. -/
def member : Stoker :=
  { Stoker.reset with st := 2, captPos := 3, captId := 5, cwOk := true, ccwOk := true, lastBeacon := 40960000000 }

/-- A 64-octet frame of zeros but for its EtherType, without its FCS or with it. -/
def rawFrame : Octets := leOctets 12 0 ++ [0x08, 0x00] ++ leOctets 46 0
def fcsFrame : Octets := rawFrame ++ leOctets 4 (crc32 rawFrame).toNat

/-- A frame of pair 2 toward the line that still arrives, and one that is whole. -/
def comingIn : Frame := ⟨2, true, fcsFrame, 0, false, 0, 0, false, false, 40959000000, none, false, false, 40⟩
def wholeFrame : Frame := { comingIn with whole := true, cells := 1 }

/-- `day` with pair 2 UP on both sides, its host lane at 25.78125 Gb/s, and frames in the buffer. -/
def fwDay (l : List Frame) : State :=
  { (withPort upPort).setIsland 0x50 { Isl.reset with active := [(0x38180, 2)] } with
    fw := { Freewheel.reset with frames := l, free := 16000, hblock := Vector.replicate 8 true } }

/-- `day`, one of a redundant pair, with its referee as given. -/
def pairDay (x : Pair) : State :=
  { day.setIsland 0x52 { Isl.reset with active := [(0x3E000, 5), (0x3E004, 8)] } with pair := x }

/-- A referee in STANDBY with its lane UP and heartbeats coming. -/
def standby : Pair :=
  { Pair.reset with token := .standby, block := true, lane := true, lockFrom := some 0, posOk := true, heard := true, hb := true }

/-- A heartbeat from side B at position 0 with a token state. -/
def beat (st : Nat) : Octets := szl 0x10 0 5 (leOctets 10 77 ++ [BitVec.ofNat 8 st, 16] ++ leOctets 52 0)

/-- `day` with one host ring as given. -/
def hostDay (q : RingId) (rx : Bool) (r : Ring) : State := day.setRing q rx r

/-- A ring of 16 entries at host address 0x1000, enabled, with writeback. -/
def ringUp : Ring := { Ring.reset with base := 0x1000, log2 := 4, en := true, wben := true, wb := 0x9000 }

/-- `day` with Dynamo as given, and a module on the way up from Night. -/
def dynDay (d : Dynamo) : State := { day with dyn := d }
def rising (d : Dynamo) : State := { State.reset with clock := 40960000000000, dyn := { d with st := .startUp } }


/-- A flat histogram agrees with itself. -/
theorem agree_flat (n x : Nat) : agree (List.replicate n x) (List.replicate n x) = true := by
  simp [agree]

/-- A day in which Truing's island has words of its own. -/
def truDay (m : RegMap := []) : State := day.setIsland 0x54 { Isl.reset with active := m }

/-- `day` at a DT, with the full-run request of spoke 3 as given. -/
def runDay (r : TruReq) : State := { day with
  dt := 100000000000
  truing := { Truing.reset with reqs := Truing.reset.reqs.set 3 r } }

/-! On an empty queue one ft passes -/

theorem wit_StepIdleTick : ∃ s : State, s.pending = [] := ⟨day, rfl⟩

theorem wit_StepIdleTick_tick : ∃ (s : State) (h : Holdover), s.pending = [] ∧ s.dtRuns = true ∧ s.hub.ho = some h :=
  ⟨{ day with hub := { day.hub with ho := some ⟨0, 0, 0⟩ } }, ⟨0, 0, 0⟩, by decide +kernel⟩

theorem wit_StepIdleTick_steps : ∃ (s t : State), s.pending = [] ∧ s.dtRuns = true ∧ s.hub.ho = none ∧ s.hub.piStep < 0 ∧
    t.pending = [] ∧ t.dtRuns = true ∧ t.hub.ho = none ∧ 0 < t.hub.piStep :=
  ⟨{ day with hub := { day.hub with piStep := -1 } }, { day with hub := { day.hub with piStep := 1 } }, by decide +kernel⟩

theorem wit_StepIdleTick_link : ∃ (s : State) (m : RingPort × Option Octets), s.pending = [] ∧
    (s.tick.clock < s.stoker.freeP ∨ s.stoker.nextCell .p = none) ∧ s.stoker.freeN ≤ s.tick.clock ∧
    s.stoker.nextCell .n = some m :=
  ⟨ringDay { member with wait := [(.n, none)] }, (.n, none), by decide +kernel⟩

/-! Every step keeps the memories in canonical form -/

theorem wit_MemoryWfKept : ∃ s t : State, Memory.wf s = true ∧ step s = .next t :=
  ⟨{ day with pending := [.snapshotRequest] }, _, by decide +kernel, rfl⟩

/-! Every step keeps stacks within 4 entries and mailboxes within 8 -/

theorem wit_ThreadBoundsKept : ∃ s t : State, s.threadsBounded ∧ step s = .next t :=
  ⟨{ day with pending := [.snapshotRequest] }, _, by decide +kernel, rfl⟩

/-! Only a misaligned access to BAR0 stops the machine -/

theorem wit_StopsExactly : misaligned (.registerWrite .pcie 2 0) = true ∧
  misaligned (.registerWrite .pcie 4 0) = false := by decide

/-! What no command changes -/

theorem wit_CommandFrames : ∃ (i : Instr) (s t : State), exec i s = .next t := ⟨.snapshotRequest, day, _, rfl⟩

/-! A command about one instance leaves the others alone -/

theorem wit_OtherInstances : ∃ (i : Instr) (s t : State) (w : Which), exec i s = .next t ∧ w ∈ actsOn i :=
  ⟨.slotStrobe 1 3, day, _, .spoke 3, rfl, by decide⟩

/-! Every octet a command does not store to reads as before -/

theorem wit_ByteStores : ∃ (s t : State) (a b : Nat), Memory.wf s = true ∧
    exec (.bar2Write .pcie 0x81FFFF [some 1, some 2]) s = .next t ∧
    storesTo (.bar2Write .pcie 0x81FFFF [some 1, some 2]) s a = false ∧
    storesTo (.bar2Write .pcie 0x81FFFF [some 1, some 2]) s b = true :=
  ⟨day, _, 0x81FFFF, 0x820000, by decide +kernel, rfl, by decide +kernel, by decide +kernel⟩

/-! A commit that may be issued prepares every island -/

theorem wit_CommitIssueCompletes_1 : ∃ (s : State),
      s.hostReach = true ∧
      s.reach = .alone ∧
      s.commit.pend = none ∧
      newer (s.immAt 0x20C) s.commit.gen = true ∧
      (dtAdd (s.replica islHandlebar) 8192000).toNat ≤ (dtAt s.imm 0x200).toNat :=
  ⟨{ day with imm := [(0x200, 0xFFFFFFFF), (0x204, 0xFF), (0x20C, 1)] }, by decide +kernel⟩

theorem wit_CommitIssueCompletes_2 : ∃ (s : State),
      s.hostReach = true ∧
      s.stoker.st = 2 ∧
      s.commit.pend = none ∧
      newer (s.immAt 0x20C) s.commit.gen = true ∧
      (dtAdd (s.replica islHandlebar) (leadOf s.reach)).toNat ≤ (dtAt s.imm 0x200).toNat :=
  ⟨{ ringDay member with imm := [(0x200, 0xFFFFFFFF), (0x204, 0xFF), (0x20C, 1)] }, by decide +kernel⟩

theorem wit_CommitIssueCompletes_3 : ∃ (s : State),
      s.hostReach = true ∧
      s.stoker.st = 3 ∧
      (s.stoker.coord = none ∧ s.stoker.armed = none ∧ s.noon.step = none) ∧
      s.commit.pend = none ∧
      newer (s.immAt 0x20C) s.commit.gen = true ∧
      (dtAdd (s.replica islHandlebar) (leadOf s.reach)).toNat ≤ (dtAt s.imm 0x200).toNat :=
  ⟨{ ringDay { member with st := 3 } with imm := [(0x200, 0xFFFFFFFF), (0x204, 0xFF), (0x20C, 1)] }, by decide +kernel⟩

theorem wit_CommitIssueCompletes_4 : ∃ (s : State) (p : PendingCommit) (q : ThreadId) (gr : Fin 8) (ans : Option (BitVec 4)),
      s.hostReach = true ∧
      s.reach = .alone ∧
      s.commit.pend = some p ∧
      (p.src = .thread q ∧ p.reach = .alone ∧ p.armedAll = false ∧ p.cycle = s.commitCycle ∧ s.commit.answers = []) ∧
      (s.thread q).waitOn = .commit gr ans ∧
      newer (s.immAt 0x20C) s.commit.gen = true ∧
      (dtAdd (s.replica islHandlebar) 8192000).toNat ≤ (dtAt s.imm 0x200).toNat :=
  ⟨{ withP3 { Thread.reset with state := .wait, waitOn := .commit 2 (some 0) } with imm := [(0x200, 0xFFFFFFFF), (0x204, 0xFF), (0x20C, 1)], commit := { CommitUnit.reset with pend := some ⟨.thread 3, .alone, 90000000000, 1, Vector.replicate 4 0, [0], false, false, day.commitCycle⟩ } }, ⟨.thread 3, .alone, 90000000000, 1, Vector.replicate 4 0, [0], false, false, day.commitCycle⟩, 3, 2, some 0, by decide +kernel⟩

theorem wit_CommitIssueCompletes_5 : ∃ (s : State) (i : IslandId) (p : PendingCommit),
      s.commit.pend = some p ∧
      s.commit.answers.any (·.armedBy i.val) = true ∧
      dtLe (s.replica islHandlebar) (dtSub p.dtEff 2048000) = true ∧
      p.awaiting.filter (· != i.val) ≠ [] :=
  ⟨{ day with commit := { CommitUnit.reset with pend := some ⟨.host, .alone, 50000000000, 1, Vector.replicate 4 0, [0, 7], false, false, 1⟩, answers := [⟨0, none, 2⟩] } }, 0, ⟨.host, .alone, 50000000000, 1, Vector.replicate 4 0, [0, 7], false, false, 1⟩, by decide +kernel⟩

theorem wit_CommitIssueCompletes_6 : ∃ (s : State) (i : IslandId) (p : PendingCommit),
      s.commit.pend = some p ∧
      s.commit.answers.any (·.armedBy i.val) = true ∧
      dtLe (s.replica islHandlebar) (dtSub p.dtEff 2048000) = true ∧
      p.awaiting.filter (· != i.val) = [] ∧
      p.reach = .alone :=
  ⟨{ day with commit := { CommitUnit.reset with pend := some ⟨.host, .alone, 50000000000, 1, Vector.replicate 4 0, [0], false, false, 1⟩, answers := [⟨0, none, 2⟩] } }, 0, ⟨.host, .alone, 50000000000, 1, Vector.replicate 4 0, [0], false, false, 1⟩, by decide +kernel⟩

theorem wit_CommitIssueCompletes_7 : ∃ (s : State) (i : IslandId) (p : PendingCommit) (a : ArmedRec),
      s.commit.pend = some p ∧
      s.commit.answers.any (·.armedBy i.val) = true ∧
      dtLe (s.replica islHandlebar) (dtSub p.dtEff 2048000) = true ∧
      p.awaiting.filter (· != i.val) = [] ∧
      p.reach ≠ .alone ∧
      s.stoker.armed = some a :=
  ⟨{ ringDay { member with armed := some ⟨false, 3, false, 50000000000, 1, 0, false, false⟩ } with commit := { CommitUnit.reset with pend := some ⟨.remote, .stack, 50000000000, 1, Vector.replicate 4 0, [0], false, false, 1⟩, answers := [⟨0, none, 2⟩] } }, 0, ⟨.remote, .stack, 50000000000, 1, Vector.replicate 4 0, [0], false, false, 1⟩, ⟨false, 3, false, 50000000000, 1, 0, false, false⟩, by decide +kernel⟩

theorem wit_CommitIssueCompletes_8 : ∃ (s : State) (i : IslandId) (p : PendingCommit) (a : CommitAns),
      s.commit.pend = some p ∧
      s.commit.answers.find? (·.refusedBy i.val) = some a ∧
      p.reach = .alone ∧
      p.awaiting ≠ [] :=
  ⟨{ day with commit := { CommitUnit.reset with pend := some ⟨.host, .alone, 50000000000, 1, Vector.replicate 4 0, [0, 5], false, false, 1⟩, answers := [⟨5, some 5, 2⟩, ⟨0, some 4, 2⟩] } }, 5, ⟨.host, .alone, 50000000000, 1, Vector.replicate 4 0, [0, 5], false, false, 1⟩, ⟨5, some 5, 2⟩, by decide +kernel⟩

theorem wit_CommitIssueCompletes_9 : ∃ (s : State) (i : IslandId) (p : PendingCommit) (a : CommitAns) (r : ArmedRec) (u : State),
      s.commit.pend = some p ∧
      s.commit.answers.find? (·.refusedBy i.val) = some a ∧
      p.reach ≠ .alone ∧
      s.stoker.armed = some r ∧
      u = refusePending ((s.firstRefusal a).cause.getD 0).toNat (s.firstRefusal a).island 0 false s :=
  ⟨{ ringDay { member with armed := some ⟨false, 3, false, 50000000000, 1, 0, false, false⟩ } with commit := { CommitUnit.reset with pend := some ⟨.remote, .stack, 50000000000, 1, Vector.replicate 4 0, [0], false, false, 1⟩, answers := [⟨0, some 4, 2⟩] } }, 0, ⟨.remote, .stack, 50000000000, 1, Vector.replicate 4 0, [0], false, false, 1⟩, ⟨0, some 4, 2⟩, ⟨false, 3, false, 50000000000, 1, 0, false, false⟩, _, by decide +kernel, by decide +kernel, by decide +kernel, by decide +kernel, rfl⟩

theorem wit_CommitIssueCompletes_10 : ∃ (s : State) (i : Nat) (p : PendingCommit),
      s.commit.pend = some p ∧
      p.awaiting.min? = some i ∧
      p.confirmed = false ∧
      dtLe (dtSub p.dtEff 2048000) (s.replica islHandlebar) = true :=
  ⟨{ day with commit := { CommitUnit.reset with pend := some ⟨.host, .alone, 40960000100, 1, Vector.replicate 4 0, [7, 3], false, false, 1⟩ } }, 3, ⟨.host, .alone, 40960000100, 1, Vector.replicate 4 0, [7, 3], false, false, 1⟩, by decide +kernel⟩

theorem wit_CommitIssueCompletes_11 : ∃ (s : State) (a : Nat),
      s.commit.autoAt = some a ∧
      a ≤ s.clock ∧
      s.hub.hold = true ∧
      s.commit.pend = none ∧
      s.reach = .alone :=
  ⟨{ day with hub := { day.hub with hold := true }, commit := { CommitUnit.reset with autoAt := some 5 } }, 5, by decide +kernel⟩

/-! What a commit does at each island, and the swap at DT_effect -/

theorem wit_IslandEndCompletes_1 : ∃ (s : State) (i : IslandId) (d : DT) (g : Word) (own : Vector (BitVec 64) 4),
      s.channel i = some (.prepare d g own) ∧
      s.commit.pend.any (fun p => p.dtEff == d && p.gen == g) = true ∧
      s.armCause i own = none ∧
      ((s.island i).pending = none ∨ (s.island i).decided = false) :=
  ⟨{ (day.setIsland 0x4D { Isl.reset with inbox := [.prepare 50000000000 1 (Vector.replicate 4 0)] }) with commit := { CommitUnit.reset with pend := some ⟨.host, .alone, 50000000000, 1, Vector.replicate 4 0, [0x4D], false, false, 1⟩ } }, 0x4D, 50000000000, 1, Vector.replicate 4 0, by decide +kernel⟩

theorem wit_IslandEndCompletes_2 : ∃ (s : State) (i : IslandId) (d : DT) (g : Word) (own : Vector (BitVec 64) 4) (c : BitVec 4),
      s.channel i = some (.prepare d g own) ∧
      s.commit.pend.any (fun p => p.dtEff == d && p.gen == g) = true ∧
      s.armCause i own = some c ∧
      (s.gated i = true ∨ (s.island i).pending = none ∨ (s.island i).decided = false) :=
  ⟨{ (State.reset.setIsland 0x4D { Isl.reset with inbox := [.prepare 50000000000 1 (Vector.replicate 4 0)] }) with commit := { CommitUnit.reset with pend := some ⟨.host, .alone, 50000000000, 1, Vector.replicate 4 0, [0x4D], false, false, 1⟩ } }, 0x4D, 50000000000, 1, Vector.replicate 4 0, 4, by decide +kernel⟩

theorem wit_IslandEndCompletes_3 : ∃ (s : State) (i : IslandId) (d : DT) (g : Word) (own : Vector (BitVec 64) 4),
      s.channel i = some (.prepare d g own) :=
  ⟨day.setIsland 0x4D { Isl.reset with inbox := [.prepare 50000000000 1 (Vector.replicate 4 0)], pending := some [], confirmed := true }, 0x4D, 50000000000, 1, Vector.replicate 4 0, by decide +kernel⟩

theorem wit_IslandEndCompletes_4 : ∃ (s : State) (i : IslandId),
      s.channel i = some .confirm :=
  ⟨day.setIsland 2 { Isl.reset with inbox := [.confirm], pending := some [] }, 2, by decide +kernel⟩

theorem wit_IslandEndCompletes_5a : ∃ (s : State) (i : IslandId),
      s.channel i = some .abandon :=
  ⟨day.setIsland 2 { Isl.reset with inbox := [.abandon], pending := some [] }, 2, by decide +kernel⟩

theorem wit_IslandEndCompletes_5b : ∃ (s : State) (i : IslandId),
      s.channel i = some .abandon :=
  ⟨State.reset.setIsland 2 { Isl.reset with inbox := [.abandon], pending := some [] }, 2, by decide +kernel⟩

theorem wit_IslandEndCompletes_5c : ∃ (s : State) (i : IslandId),
      s.channel i = some .abandon :=
  ⟨State.reset.setIsland 2 { Isl.reset with inbox := [.abandon], pending := some [], confirmed := true }, 2, by decide +kernel⟩

theorem wit_IslandEndCompletes_6 : ∃ (s : State) (i : IslandId),
      (s.island i).pending.isSome = true ∧
      (s.island i).decided = false ∧
      (s.island i).abandoned = false ∧
      (s.island i).inbox.contains .abandon = false ∧
      dtLe (dtSub (s.island i).pendDt 409600) (s.replica i) = true ∧
      s.commit.pend.all (fun p => p.reach == .alone || p.dtEff != (s.island i).pendDt || p.gen != (s.island i).pendGen) = true :=
  ⟨{ (day.setIsland 2 { Isl.reset with pending := some [], pendDt := 40960409600, pendGen := 1 }) with commit := { CommitUnit.reset with pend := some ⟨.host, .alone, 40960409600, 1, Vector.replicate 4 0, [2], false, false, 1⟩ } }, 2, by decide +kernel⟩

theorem wit_IslandEndCompletes_7 : ∃ (s : State) (i : IslandId) (p : PendingCommit),
      (s.island i).pending.isSome = true ∧
      (s.island i).decided = false ∧
      (s.island i).abandoned = false ∧
      (s.island i).inbox.contains .abandon = false ∧
      dtLe (dtSub (s.island i).pendDt 409600) (s.replica i) = true ∧
      s.commit.pend = some p ∧
      (p.reach ≠ .alone ∧ p.dtEff = (s.island i).pendDt ∧ p.gen = (s.island i).pendGen) :=
  ⟨{ (day.setIsland 2 { Isl.reset with pending := some [], pendDt := 40960409600, pendGen := 1 }) with commit := { CommitUnit.reset with pend := some ⟨.remote, .stack, 40960409600, 1, Vector.replicate 4 0, [2], false, false, 1⟩ } }, 2, ⟨.remote, .stack, 40960409600, 1, Vector.replicate 4 0, [2], false, false, 1⟩, by decide +kernel⟩

theorem wit_IslandEndCompletes_8 : ∃ (s : State) (i : SpokeId) (d : DT),
      (s.spoke i).retainTo = some d ∧
      s.clocked = true ∧
      d.toNat ≤ s.dt.toNat :=
  ⟨(day.setSpoke 5 { Spoke.reset with retainTo := some 40960000000 }).setIsland 5 { Isl.reset with retiring := some [] }, 5, 40960000000, by decide +kernel⟩

theorem wit_IslandEndCompletes_9 : ∃ (s : State) (i : IslandId) (m : RegMap),
      (i.val < 0x56 ∧ i.val ≠ 0x53) ∧
      s.gated i = false ∧
      (s.island i).pending = some m ∧
      (s.island i).decided = true ∧
      s.due i (s.island i).pendDt = true :=
  ⟨day.setIsland 0x4D { Isl.reset with pending := some [(0x7000, 0)], confirmed := true, pendGen := 1, pendDt := 40959990000 }, 0x4D, [(0x7000, 0)], by decide +kernel⟩

theorem wit_IslandEndCompletes_10 : ∃ (s : State) (i : SpokeId) (m : RegMap),
      s.clocked = true ∧
      (s.island (islSpoke i)).pending = some m ∧
      (s.island (islSpoke i)).decided = true ∧
      (s.island (islSpoke i)).pendDt.toNat ≤ s.dt.toNat :=
  ⟨day.setIsland 2 { Isl.reset with pending := some [(0x20200, 0)], confirmed := true, pendGen := 1 }, 2, [(0x20200, 0)], by decide +kernel⟩

theorem wit_IslandEndCompletes_11 : ∃ (s : State) (i : IslandId),
      (s.gated i = true ∨ s.swapDue i = false) :=
  ⟨day, 2, by decide +kernel⟩

theorem wit_IslandEndCompletes_12 : ∃ (s : State) (p : PendingCommit),
      s.commit.pend = some p ∧
      p.confirmed = true ∧
      s.due islHandlebar p.dtEff = true :=
  ⟨{ day with commit := { CommitUnit.reset with pend := some ⟨.host, .alone, 40959000000, 1, Vector.replicate 4 0, [], true, true, 1⟩ }, noon := { Noon.reset with distAt := 40960000000, distClock := 40960000000 } }, ⟨.host, .alone, 40959000000, 1, Vector.replicate 4 0, [], true, true, 1⟩, by decide +kernel⟩

theorem wit_IslandEndCompletes_13 : ∃ (s : State) (p : PendingCommit),
      s.hub.hold = true ∧
      s.commit.pend = some p ∧
      p.confirmed = true ∧
      p.dtEff.toNat ≤ s.dt.toNat ∧
      s.hub.openDt.toNat < p.dtEff.toNat :=
  ⟨{ day with hub := { day.hub with hold := true }, commit := { CommitUnit.reset with pend := some ⟨.auto, .alone, 40959000000, 1, Vector.replicate 4 0, [], true, true, 1⟩ } }, ⟨.auto, .alone, 40959000000, 1, Vector.replicate 4 0, [], true, true, 1⟩, by decide +kernel⟩

/-! Reads, writes and partial writes of BAR0 -/

theorem wit_RegisterAccessCompletes_1 : ∃ (s : State) (bus : BusPort) (off : BitVec 20),
      off.toNat % 4 = 0 ∧
      s.busUp bus = true ∧
      upperWords off.toNat = 0 :=
  ⟨day, .pcie, 0x1014, by decide +kernel⟩

theorem wit_RegisterAccessCompletes_2 : ∃ (s : State) (bus : BusPort) (off : BitVec 20),
      off.toNat % 4 = 0 ∧
      s.busUp bus = true ∧
      upperWords off.toNat ≠ 0 :=
  ⟨day, .spi, 0x3004, by decide +kernel⟩

theorem wit_RegisterAccessCompletes_3 : ∃ (s : State) (off : BitVec 20),
      off.toNat % 4 = 0 ∧
      s.pcieUp = true :=
  ⟨day, 8, by decide +kernel⟩

theorem wit_RegisterAccessCompletes_4 : ∃ (s : State) (bus : BusPort) (off : BitVec 20) (v : Word),
      off.toNat % 4 = 0 ∧
      s.busUp bus = true :=
  ⟨day, .pcie, 0x60000, 1, by decide +kernel⟩

theorem wit_RegisterAccessCompletes_5a : ∃ (s : State) (bus : BusPort) (off : BitVec 20) (v : Word),
      off.toNat % 4 = 0 ∧
      s.busUp bus = true ∧
      (regInfo off.toNat).imm = false :=
  ⟨day, .pcie, 0x2004, 0x10, by decide +kernel⟩

theorem wit_RegisterAccessCompletes_5b : ∃ (s : State) (bus : BusPort) (off : BitVec 20) (v : Word),
      off.toNat % 4 = 0 ∧
      s.busUp bus = true ∧
      (regInfo off.toNat).imm = false :=
  ⟨day, .spi, 0x2000C, 5, by decide +kernel⟩

theorem wit_RegisterAccessCompletes_6 : ∃ (s : State) (v : Word),
      s.pcieUp = true :=
  ⟨day, 3, by decide +kernel⟩

theorem wit_RegisterAccessCompletes_7 : ∃ (s : State) (off : BitVec 20) (v : Word),
      off.toNat % 4 = 0 ∧
      s.pcieUp = true :=
  ⟨day, 0x60, 0, by decide +kernel⟩

theorem wit_RegisterAccessCompletes_8 : ∃ (s : State) (off : BitVec 20) (v : Word) (be : BitVec 4),
      off.toNat % 4 = 0 ∧
      s.busUp .pcie = true :=
  ⟨{ day with occs := [] }, 0x20000, 7, 1, by decide +kernel⟩

/-! Snapshots are requested, taken and completed -/

theorem wit_SnapshotCompletes_1 : ∃ (s : State),
      s.hostReach = true ∧
      (dtAdd (s.replica islHandlebar) 8192000).toNat ≤ (dtAt s.imm 0x60004).toNat ∧
      s.snap.busy = false ∧
      s.snap.lastTaken.any (tooNear (dtAt s.imm 0x60004)) = false ∧
      (s.periodicOn && nearPeriodic (dtAt s.imm 0x60004)) = false :=
  ⟨{ day with imm := [(0x60000, 0), (0x60004, 0), (0x60008, 0x100)] }, by decide +kernel⟩

theorem wit_SnapshotCompletes_2 : ∃ (s : State) (c : BitVec 2),
      s.hostReach = true ∧
      s.snapCause (dtAt s.imm 0x60004) = c ∧
      c ≠ 0 :=
  ⟨day, 1, by decide +kernel⟩

theorem wit_SnapshotCompletes_3 : ∃ (s : State) (d : DT),
      s.snap.req = some d ∧
      s.alive = true ∧
      s.dtRuns = true ∧
      d.toNat ≤ s.now.toNat ∧
      s.beforeLatch = false ∧
      s.snap.writing = none :=
  ⟨{ day with snap := { Snap.reset with req := some 40950000000 } }, 40950000000, by decide +kernel⟩

theorem wit_SnapshotCompletes_4 : ∃ (s : State) (d : DT) (w : SnapWrite),
      s.snap.req = some d ∧
      s.alive = true ∧
      s.dtRuns = true ∧
      d.toNat ≤ s.now.toNat ∧
      s.beforeLatch = false ∧
      s.snap.writing = some w :=
  ⟨{ day with snap := { Snap.reset with req := some 40950000000, writing := some ⟨true, 0, 40900000000, true, [(4, 1)]⟩ } }, 40950000000, ⟨true, 0, 40900000000, true, [(4, 1)]⟩, by decide +kernel⟩

theorem wit_SnapshotCompletes_5 : ∃ (s : State) (d : DT),
      s.alive = true ∧
      s.dtRuns = true ∧
      s.periodicOn = true ∧
      s.periodicDt = some d ∧
      s.snap.tickAt ≠ some s.clock ∧
      s.beforeLatch = false ∧
      s.snap.req.any (tooNear d) = false ∧
      s.snap.lastTaken.any (tooNear d) = false ∧
      s.snap.writing = none :=
  ⟨{ day with dt := 0x700000000 }, 0x700000000, by decide +kernel⟩

theorem wit_SnapshotCompletes_6 : ∃ (s : State) (d : DT) (w : SnapWrite),
      s.alive = true ∧
      s.dtRuns = true ∧
      s.periodicOn = true ∧
      s.periodicDt = some d ∧
      s.snap.tickAt ≠ some s.clock ∧
      s.beforeLatch = false ∧
      s.snap.req.any (tooNear d) = false ∧
      s.snap.lastTaken.any (tooNear d) = false ∧
      s.snap.writing = some w :=
  ⟨{ day with dt := 0x700000000, snap := { Snap.reset with writing := some ⟨true, 0, 25769803776, true, [(4, 1)]⟩ } }, 0x700000000, ⟨true, 0, 25769803776, true, [(4, 1)]⟩, by decide +kernel⟩

theorem wit_SnapshotCompletes_7 : ∃ (s : State) (w : SnapWrite),
      s.alive = true ∧
      s.snap.writing = some w :=
  ⟨{ day with snap := { Snap.reset with writing := some ⟨true, 0, 40950000000, true, [(4, 1)]⟩ } }, ⟨true, 0, 40950000000, true, [(4, 1)]⟩, by decide +kernel⟩

/-! SPI frames read and write BAR0 and BAR2 -/

theorem wit_SpiFrameCompletes_1 : ∃ (s : State),
      s.alive = true ∧
      s.hb.spi = .idle :=
  ⟨day, by decide +kernel⟩

theorem wit_SpiFrameCompletes_2a : ∃ (s : State) (addr : BitVec 24),
      s.alive = true ∧
      (s.hb.spi = .idle ∨ s.hb.spi = .inFrame 0x0B addr) ∧
      addr.toNat < 2 ^ 20 ∧
      addr.toNat % 4 = 0 :=
  ⟨day, 0x1014, by decide +kernel⟩

theorem wit_SpiFrameCompletes_2b : ∃ (s : State) (addr : BitVec 24),
      s.alive = true ∧
      (s.hb.spi = .idle ∨ s.hb.spi = .inFrame 0x0B addr) ∧
      addr.toNat < 2 ^ 20 ∧
      addr.toNat % 4 = 0 :=
  ⟨{ day with hb := { day.hb with spi := .inFrame 0x0B 0x1018 } }, 0x1018, by decide +kernel⟩

theorem wit_SpiFrameCompletes_3 : ∃ (s : State) (addr : BitVec 24),
      s.alive = true ∧
      (s.hb.spi = .idle ∨ s.hb.spi = .inFrame 0x0B addr) ∧
      addr.toNat < 2 ^ 20 ∧
      addr.toNat % 4 = 0 :=
  ⟨day, 0x1014, by decide +kernel⟩

theorem wit_SpiFrameCompletes_4 : ∃ (s : State) (addr : BitVec 24) (slow : Bool),
      s.alive = true ∧
      (s.hb.spi = .idle ∨ s.hb.spi = .inFrame 0x0B addr) ∧
      2 ^ 20 ≤ addr.toNat :=
  ⟨day, 0x100000, false, by decide +kernel⟩

theorem wit_SpiFrameCompletes_5 : ∃ (s : State) (addr : BitVec 24) (v : Word),
      s.alive = true ∧
      (s.hb.spi = .idle ∨ s.hb.spi = .inFrame 0x02 addr) ∧
      addr.toNat < 2 ^ 20 ∧
      addr.toNat % 4 = 0 :=
  ⟨day, 0x20308, 7, by decide +kernel⟩

theorem wit_SpiFrameCompletes_6 : ∃ (s : State) (addr : BitVec 24) (v : Word),
      s.alive = true ∧
      (s.hb.spi = .idle ∨ s.hb.spi = .inFrame 0x02 addr) ∧
      2 ^ 20 ≤ addr.toNat :=
  ⟨day, 0x100000, 7, by decide +kernel⟩

theorem wit_SpiFrameCompletes_7 : ∃ (s : State) (addr : BitVec 24) (slow : Bool),
      s.alive = true ∧
      (s.hb.spi = .idle ∨ s.hb.spi = .inFrame 0x1B addr) :=
  ⟨day, 0x1014, false, by decide +kernel⟩

theorem wit_SpiFrameCompletes_8 : ∃ (s : State) (addr : BitVec 24) (v : Word),
      s.alive = true ∧
      (s.hb.spi = .idle ∨ s.hb.spi = .inFrame 0x12 addr) :=
  ⟨day, 0x1014, 8, by decide +kernel⟩

theorem wit_SpiFrameCompletes_9 : ∃ (s : State) (op : BitVec 8),
      s.alive = true ∧
      s.hb.spi = .idle ∧
      (op ≠ 0x05 ∧ op ≠ 0x0B ∧ op ≠ 0x02 ∧ op ≠ 0x1B ∧ op ≠ 0x12) :=
  ⟨day, 0x99, by decide +kernel⟩

theorem wit_SpiFrameCompletes_10 : ∃ (s : State),
      s.alive = true :=
  ⟨day, by decide +kernel⟩

/-! A descriptor that passes the checks enters the queue -/

theorem wit_DescriptorEntryCompletes_1a : ∃ (s : State) (i : SpokeId) (k : Kind) (d : ChanDesc) (rest : List SpokeMsg) (m : RegMap),
      (s.spoke i).chan = .desc d :: rest ∧
      s.clocked = true ∧
      kindOf d.raw = some k ∧
      formatOk d.raw = true ∧
      s.genRegs (islSpoke i) d.tag = some m ∧
      ownerIn m i.val = none ∧
      limitsOk d.raw (s.outIn m i) = true ∧
      dtLe (dtAdd s.dt 65536) (startOf (s.spoke i) d.raw) = true ∧
      (s.spoke i).queue = [] :=
  ⟨spokeWith 1 { Spoke.reset with chan := [.desc ⟨rawOf 1 0 200000 0 41000000000, 0, 2⟩], queue := [] }, 3, .pulse, ⟨rawOf 1 0 200000 0 41000000000, 0, 2⟩, [], [(0x20300, 1)], by decide +kernel⟩

theorem wit_DescriptorEntryCompletes_1b : ∃ (s : State) (i : SpokeId) (k : Kind) (d : ChanDesc) (rest : List SpokeMsg) (m : RegMap),
      (s.spoke i).chan = .desc d :: rest ∧
      s.clocked = true ∧
      kindOf d.raw = some k ∧
      formatOk d.raw = true ∧
      s.genRegs (islSpoke i) d.tag = some m ∧
      ownerIn m i.val = none ∧
      limitsOk d.raw (s.outIn m i) = true ∧
      dtLe (dtAdd s.dt 65536) (startOf (s.spoke i) d.raw) = true ∧
      (s.spoke i).queue = [] :=
  ⟨spokeWith 1 { Spoke.reset with chan := [.desc ⟨rawOf 2 64 200000 500000 41000000000, 0, 2⟩], queue := [] }, 3, .burst, ⟨rawOf 2 64 200000 500000 41000000000, 0, 2⟩, [], [(0x20300, 1)], by decide +kernel⟩

theorem wit_DescriptorEntryCompletes_1c : ∃ (s : State) (i : SpokeId) (k : Kind) (d : ChanDesc) (rest : List SpokeMsg) (m : RegMap),
      (s.spoke i).chan = .desc d :: rest ∧
      s.clocked = true ∧
      kindOf d.raw = some k ∧
      formatOk d.raw = true ∧
      s.genRegs (islSpoke i) d.tag = some m ∧
      ownerIn m i.val = none ∧
      limitsOk d.raw (s.outIn m i) = true ∧
      dtLe (dtAdd s.dt 65536) (startOf (s.spoke i) d.raw) = true ∧
      (s.spoke i).queue = [] :=
  ⟨spokeWith 1 { Spoke.reset with chan := [.desc ⟨rawOf 3 0 200000 500000 41000000000, 0, 2⟩], queue := [] }, 3, .train, ⟨rawOf 3 0 200000 500000 41000000000, 0, 2⟩, [], [(0x20300, 1)], by decide +kernel⟩

theorem wit_DescriptorEntryCompletes_1d : ∃ (s : State) (i : SpokeId) (k : Kind) (d : ChanDesc) (rest : List SpokeMsg) (m : RegMap),
      (s.spoke i).chan = .desc d :: rest ∧
      s.clocked = true ∧
      kindOf d.raw = some k ∧
      formatOk d.raw = true ∧
      s.genRegs (islSpoke i) d.tag = some m ∧
      ownerIn m i.val = none ∧
      limitsOk d.raw (s.outIn m i) = true ∧
      dtLe (dtAdd s.dt 65536) (startOf (s.spoke i) d.raw) = true ∧
      (s.spoke i).queue = [] :=
  ⟨spokeWith 1 { Spoke.reset with chan := [.desc ⟨rawOf 4 0 0 0 41000000000, 0, 2⟩], queue := [] }, 3, .level, ⟨rawOf 4 0 0 0 41000000000, 0, 2⟩, [], [(0x20300, 1)], by decide +kernel⟩

theorem wit_DescriptorEntryCompletes_1e : ∃ (s : State) (i : SpokeId) (k : Kind) (d : ChanDesc) (rest : List SpokeMsg) (m : RegMap),
      (s.spoke i).chan = .desc d :: rest ∧
      s.clocked = true ∧
      kindOf d.raw = some k ∧
      formatOk d.raw = true ∧
      s.genRegs (islSpoke i) d.tag = some m ∧
      ownerIn m i.val = none ∧
      limitsOk d.raw (s.outIn m i) = true ∧
      dtLe (dtAdd s.dt 65536) (startOf (s.spoke i) d.raw) = true ∧
      (s.spoke i).queue = [] :=
  ⟨spokeWith 1 { Spoke.reset with chan := [.desc ⟨rawOf 5 96 0 100000 41000000000, 0, 2⟩], queue := [] }, 3, .window, ⟨rawOf 5 96 0 100000 41000000000, 0, 2⟩, [], [(0x20300, 1)], by decide +kernel⟩

theorem wit_DescriptorEntryCompletes_2a : ∃ (s : State) (i : SpokeId) (k : Kind) (d : ChanDesc) (rest : List SpokeMsg) (m : RegMap) (a : QDesc) (q : List QDesc),
      (s.spoke i).chan = .desc d :: rest ∧
      s.clocked = true ∧
      kindOf d.raw = some k ∧
      formatOk d.raw = true ∧
      s.genRegs (islSpoke i) d.tag = some m ∧
      ownerIn m i.val = none ∧
      limitsOk d.raw (s.outIn m i) = true ∧
      dtLe (dtAdd s.dt 65536) (startOf (s.spoke i) d.raw) = true ∧
      (s.spoke i).queue = q ++ [a] ∧
      (a.kind ≠ .train ∨ a.pulses.isSome = true) ∧
      dtLe (dtAdd a.last (s.deskew i a + guardOf a.kind k (s.outIn (s.tagRegs i a.tag) i) (s.outIn (s.tagRegs i d.tag) i)))
        (dtAdd (startOf (s.spoke i) d.raw) (s.deskew i (enterAs (s.spoke i) d k))) = true ∧
      a.done = false :=
  ⟨spokeWith 1 { Spoke.reset with chan := [.desc ⟨rawOf 1 0 200000 0 41000000000, 0, 2⟩], queue := [qd .pulse (rawOf 1 0 200000 0 40961000000)] }, 3, .pulse, ⟨rawOf 1 0 200000 0 41000000000, 0, 2⟩, [], [(0x20300, 1)], qd .pulse (rawOf 1 0 200000 0 40961000000), [], by decide +kernel⟩

theorem wit_DescriptorEntryCompletes_2b : ∃ (s : State) (i : SpokeId) (k : Kind) (d : ChanDesc) (rest : List SpokeMsg) (m : RegMap) (a : QDesc) (q : List QDesc),
      (s.spoke i).chan = .desc d :: rest ∧
      s.clocked = true ∧
      kindOf d.raw = some k ∧
      formatOk d.raw = true ∧
      s.genRegs (islSpoke i) d.tag = some m ∧
      ownerIn m i.val = none ∧
      limitsOk d.raw (s.outIn m i) = true ∧
      dtLe (dtAdd s.dt 65536) (startOf (s.spoke i) d.raw) = true ∧
      (s.spoke i).queue = q ++ [a] ∧
      (a.kind ≠ .train ∨ a.pulses.isSome = true) ∧
      dtLe (dtAdd a.last (s.deskew i a + guardOf a.kind k (s.outIn (s.tagRegs i a.tag) i) (s.outIn (s.tagRegs i d.tag) i)))
        (dtAdd (startOf (s.spoke i) d.raw) (s.deskew i (enterAs (s.spoke i) d k))) = true ∧
      a.done = false :=
  ⟨spokeWith 1 { Spoke.reset with chan := [.desc ⟨rawOf 2 64 200000 500000 41000000000, 0, 2⟩], queue := [qd .pulse (rawOf 1 0 200000 0 40961000000)] }, 3, .burst, ⟨rawOf 2 64 200000 500000 41000000000, 0, 2⟩, [], [(0x20300, 1)], qd .pulse (rawOf 1 0 200000 0 40961000000), [], by decide +kernel⟩

theorem wit_DescriptorEntryCompletes_2c : ∃ (s : State) (i : SpokeId) (k : Kind) (d : ChanDesc) (rest : List SpokeMsg) (m : RegMap) (a : QDesc) (q : List QDesc),
      (s.spoke i).chan = .desc d :: rest ∧
      s.clocked = true ∧
      kindOf d.raw = some k ∧
      formatOk d.raw = true ∧
      s.genRegs (islSpoke i) d.tag = some m ∧
      ownerIn m i.val = none ∧
      limitsOk d.raw (s.outIn m i) = true ∧
      dtLe (dtAdd s.dt 65536) (startOf (s.spoke i) d.raw) = true ∧
      (s.spoke i).queue = q ++ [a] ∧
      (a.kind ≠ .train ∨ a.pulses.isSome = true) ∧
      dtLe (dtAdd a.last (s.deskew i a + guardOf a.kind k (s.outIn (s.tagRegs i a.tag) i) (s.outIn (s.tagRegs i d.tag) i)))
        (dtAdd (startOf (s.spoke i) d.raw) (s.deskew i (enterAs (s.spoke i) d k))) = true ∧
      a.done = false :=
  ⟨spokeWith 1 { Spoke.reset with chan := [.desc ⟨rawOf 3 0 200000 500000 41000000000, 0, 2⟩], queue := [qd .pulse (rawOf 1 0 200000 0 40961000000)] }, 3, .train, ⟨rawOf 3 0 200000 500000 41000000000, 0, 2⟩, [], [(0x20300, 1)], qd .pulse (rawOf 1 0 200000 0 40961000000), [], by decide +kernel⟩

theorem wit_DescriptorEntryCompletes_2d : ∃ (s : State) (i : SpokeId) (k : Kind) (d : ChanDesc) (rest : List SpokeMsg) (m : RegMap) (a : QDesc) (q : List QDesc),
      (s.spoke i).chan = .desc d :: rest ∧
      s.clocked = true ∧
      kindOf d.raw = some k ∧
      formatOk d.raw = true ∧
      s.genRegs (islSpoke i) d.tag = some m ∧
      ownerIn m i.val = none ∧
      limitsOk d.raw (s.outIn m i) = true ∧
      dtLe (dtAdd s.dt 65536) (startOf (s.spoke i) d.raw) = true ∧
      (s.spoke i).queue = q ++ [a] ∧
      (a.kind ≠ .train ∨ a.pulses.isSome = true) ∧
      dtLe (dtAdd a.last (s.deskew i a + guardOf a.kind k (s.outIn (s.tagRegs i a.tag) i) (s.outIn (s.tagRegs i d.tag) i)))
        (dtAdd (startOf (s.spoke i) d.raw) (s.deskew i (enterAs (s.spoke i) d k))) = true ∧
      a.done = false :=
  ⟨spokeWith 1 { Spoke.reset with chan := [.desc ⟨rawOf 4 0 0 0 41000000000, 0, 2⟩], queue := [qd .pulse (rawOf 1 0 200000 0 40961000000)] }, 3, .level, ⟨rawOf 4 0 0 0 41000000000, 0, 2⟩, [], [(0x20300, 1)], qd .pulse (rawOf 1 0 200000 0 40961000000), [], by decide +kernel⟩

theorem wit_DescriptorEntryCompletes_2e : ∃ (s : State) (i : SpokeId) (k : Kind) (d : ChanDesc) (rest : List SpokeMsg) (m : RegMap) (a : QDesc) (q : List QDesc),
      (s.spoke i).chan = .desc d :: rest ∧
      s.clocked = true ∧
      kindOf d.raw = some k ∧
      formatOk d.raw = true ∧
      s.genRegs (islSpoke i) d.tag = some m ∧
      ownerIn m i.val = none ∧
      limitsOk d.raw (s.outIn m i) = true ∧
      dtLe (dtAdd s.dt 65536) (startOf (s.spoke i) d.raw) = true ∧
      (s.spoke i).queue = q ++ [a] ∧
      (a.kind ≠ .train ∨ a.pulses.isSome = true) ∧
      dtLe (dtAdd a.last (s.deskew i a + guardOf a.kind k (s.outIn (s.tagRegs i a.tag) i) (s.outIn (s.tagRegs i d.tag) i)))
        (dtAdd (startOf (s.spoke i) d.raw) (s.deskew i (enterAs (s.spoke i) d k))) = true ∧
      a.done = false :=
  ⟨spokeWith 1 { Spoke.reset with chan := [.desc ⟨rawOf 5 96 0 100000 41000000000, 0, 2⟩], queue := [qd .pulse (rawOf 1 0 200000 0 40961000000)] }, 3, .window, ⟨rawOf 5 96 0 100000 41000000000, 0, 2⟩, [], [(0x20300, 1)], qd .pulse (rawOf 1 0 200000 0 40961000000), [], by decide +kernel⟩

theorem wit_DescriptorEntryCompletes_3 : ∃ (s : State) (i : SpokeId) (k : Kind) (d : ChanDesc) (rest : List SpokeMsg) (m : RegMap) (a : QDesc) (q : List QDesc) (n : Nat),
      (s.spoke i).chan = .desc d :: rest ∧
      s.clocked = true ∧
      kindOf d.raw = some k ∧
      formatOk d.raw = true ∧
      s.genRegs (islSpoke i) d.tag = some m ∧
      ownerIn m i.val = none ∧
      limitsOk d.raw (s.outIn m i) = true ∧
      dtLe (dtAdd s.dt 65536) (startOf (s.spoke i) d.raw) = true ∧
      (s.spoke i).queue = q ++ [a] ∧
      (a.kind = .train ∧ a.pulses = none) ∧
      n = keptPulses a (s.deskew i a) (dtAdd (startOf (s.spoke i) d.raw) (s.deskew i (enterAs (s.spoke i) d k)))
        (guardOf .train k (s.outIn (s.tagRegs i a.tag) i) (s.outIn (s.tagRegs i d.tag) i)) ∧
      (n ≠ 0 ∧ dtLe (dtAdd s.dt 65536) (dtAdd a.start (n * dPeriod a.raw)) = true ∧ a.edges < 2 * n) :=
  ⟨spokeWith 1 { Spoke.reset with chan := [.desc ⟨rawOf 1 0 200000 0 41000000000, 0, 2⟩], queue := [{ qd .train (rawOf 3 0 200000 500000 40961000000) with pulses := none }] }, 3, .pulse, ⟨rawOf 1 0 200000 0 41000000000, 0, 2⟩, [], [(0x20300, 1)], { qd .train (rawOf 3 0 200000 500000 40961000000) with pulses := none }, [], 78, by decide +kernel⟩

/-! The checks of entry, in their order -/

theorem wit_DescriptorRejected_1 : ∃ (s : State) (i : SpokeId) (k : Kind) (d : ChanDesc) (rest : List SpokeMsg),
      (s.spoke i).chan = .desc d :: rest ∧
      s.clocked = true ∧
      kindOf d.raw = some k ∧
      formatOk d.raw = false :=
  ⟨spokeWith 1 { Spoke.reset with chan := [.desc ⟨rawOf 1 64 200000 0 41000000000, 0, 2⟩], queue := [] }, 3, .pulse, ⟨rawOf 1 64 200000 0 41000000000, 0, 2⟩, [], by decide +kernel⟩

theorem wit_DescriptorRejected_2 : ∃ (s : State) (i : SpokeId) (k : Kind) (d : ChanDesc) (rest : List SpokeMsg),
      (s.spoke i).chan = .desc d :: rest ∧
      s.clocked = true ∧
      kindOf d.raw = some k ∧
      formatOk d.raw = true ∧
      s.genRegs (islSpoke i) d.tag = none :=
  ⟨spokeWith 1 { Spoke.reset with chan := [.desc ⟨rawOf 1 0 200000 0 41000000000, 9, 2⟩], queue := [] }, 3, .pulse, ⟨rawOf 1 0 200000 0 41000000000, 9, 2⟩, [], by decide +kernel⟩

theorem wit_DescriptorRejected_3 : ∃ (s : State) (i : SpokeId) (k : Kind) (d : ChanDesc) (rest : List SpokeMsg) (m : RegMap) (v : EngineId),
      (s.spoke i).chan = .desc d :: rest ∧
      s.clocked = true ∧
      kindOf d.raw = some k ∧
      formatOk d.raw = true ∧
      s.genRegs (islSpoke i) d.tag = some m ∧
      ownerIn m i.val = some v :=
  ⟨(spokeWith 1 { Spoke.reset with chan := [.desc ⟨rawOf 1 0 200000 0 41000000000, 0, 2⟩], queue := [] }).setIsland 3 { Isl.reset with active := [(0x10028, 8), (0x20300, 1)] }, 3, .pulse, ⟨rawOf 1 0 200000 0 41000000000, 0, 2⟩, [], [(0x10028, 8), (0x20300, 1)], 0, by decide +kernel⟩

theorem wit_DescriptorRejected_4 : ∃ (s : State) (i : SpokeId) (k : Kind) (d : ChanDesc) (rest : List SpokeMsg) (m : RegMap),
      (s.spoke i).chan = .desc d :: rest ∧
      s.clocked = true ∧
      kindOf d.raw = some k ∧
      formatOk d.raw = true ∧
      s.genRegs (islSpoke i) d.tag = some m ∧
      ownerIn m i.val = none ∧
      limitsOk d.raw (s.outIn m i) = false :=
  ⟨spokeWith 1 { Spoke.reset with chan := [.desc ⟨rawOf 1 0 1638 0 41000000000, 0, 2⟩], queue := [] }, 3, .pulse, ⟨rawOf 1 0 1638 0 41000000000, 0, 2⟩, [], [(0x20300, 1)], by decide +kernel⟩

theorem wit_DescriptorRejected_5 : ∃ (s : State) (i : SpokeId) (k : Kind) (d : ChanDesc) (rest : List SpokeMsg) (m : RegMap),
      (s.spoke i).chan = .desc d :: rest ∧
      s.clocked = true ∧
      kindOf d.raw = some k ∧
      formatOk d.raw = true ∧
      s.genRegs (islSpoke i) d.tag = some m ∧
      ownerIn m i.val = none ∧
      limitsOk d.raw (s.outIn m i) = true ∧
      dtLe (dtAdd s.dt 65536) (startOf (s.spoke i) d.raw) = false :=
  ⟨spokeWith 1 { Spoke.reset with chan := [.desc ⟨rawOf 1 0 200000 0 40960065535, 0, 2⟩], queue := [] }, 3, .pulse, ⟨rawOf 1 0 200000 0 40960065535, 0, 2⟩, [], [(0x20300, 1)], by decide +kernel⟩

theorem wit_DescriptorRejected_6 : ∃ (s : State) (i : SpokeId) (k : Kind) (d : ChanDesc) (rest : List SpokeMsg) (m : RegMap) (a : QDesc) (q : List QDesc),
      (s.spoke i).chan = .desc d :: rest ∧
      s.clocked = true ∧
      kindOf d.raw = some k ∧
      formatOk d.raw = true ∧
      s.genRegs (islSpoke i) d.tag = some m ∧
      ownerIn m i.val = none ∧
      limitsOk d.raw (s.outIn m i) = true ∧
      dtLe (dtAdd s.dt 65536) (startOf (s.spoke i) d.raw) = true ∧
      (s.spoke i).queue = q ++ [a] ∧
      (a.kind ≠ .train ∨ a.pulses.isSome = true) ∧
      dtLe (dtAdd a.last (s.deskew i a + guardOf a.kind k (s.outIn (s.tagRegs i a.tag) i) (s.outIn (s.tagRegs i d.tag) i)))
        (dtAdd (startOf (s.spoke i) d.raw) (s.deskew i (enterAs (s.spoke i) d k))) = false :=
  ⟨spokeWith 1 { Spoke.reset with chan := [.desc ⟨rawOf 1 0 200000 0 40961200000, 0, 2⟩], queue := [qd .pulse (rawOf 1 0 200000 0 40961000000)] }, 3, .pulse, ⟨rawOf 1 0 200000 0 40961200000, 0, 2⟩, [], [(0x20300, 1)], qd .pulse (rawOf 1 0 200000 0 40961000000), [], by decide +kernel⟩

theorem wit_DescriptorRejected_7 : ∃ (s : State) (i : SpokeId) (k : Kind) (d : ChanDesc) (rest : List SpokeMsg) (m : RegMap) (a : QDesc) (q : List QDesc) (n : Nat),
      (s.spoke i).chan = .desc d :: rest ∧
      s.clocked = true ∧
      kindOf d.raw = some k ∧
      formatOk d.raw = true ∧
      s.genRegs (islSpoke i) d.tag = some m ∧
      ownerIn m i.val = none ∧
      limitsOk d.raw (s.outIn m i) = true ∧
      dtLe (dtAdd s.dt 65536) (startOf (s.spoke i) d.raw) = true ∧
      (s.spoke i).queue = q ++ [a] ∧
      (a.kind = .train ∧ a.pulses = none) ∧
      n = keptPulses a (s.deskew i a) (dtAdd (startOf (s.spoke i) d.raw) (s.deskew i (enterAs (s.spoke i) d k)))
        (guardOf .train k (s.outIn (s.tagRegs i a.tag) i) (s.outIn (s.tagRegs i d.tag) i)) ∧
      (n = 0 ∨ dtLe (dtAdd s.dt 65536) (dtAdd a.start (n * dPeriod a.raw)) = false) :=
  ⟨spokeWith 1 { Spoke.reset with chan := [.desc ⟨rawOf 1 0 200000 0 40961000000, 0, 2⟩], queue := [{ qd .train (rawOf 3 0 200000 500000 40961000000) with pulses := none }] }, 3, .pulse, ⟨rawOf 1 0 200000 0 40961000000, 0, 2⟩, [], [(0x20300, 1)], { qd .train (rawOf 3 0 200000 500000 40961000000) with pulses := none }, [], 0, by decide +kernel⟩

theorem wit_DescriptorRejected_8a : ∃ (s : State) (i : SpokeId) (d : ChanDesc) (rest : List SpokeMsg),
      (s.spoke i).chan = .desc d :: rest ∧
      s.clocked = true ∧
      6 ≤ dKind d.raw :=
  ⟨spokeWith 1 { Spoke.reset with chan := [.desc ⟨rawOf 6 0 200000 0 41000000000, 0, 2⟩], queue := [] }, 3, ⟨rawOf 6 0 200000 0 41000000000, 0, 2⟩, [], by decide +kernel⟩

theorem wit_DescriptorRejected_8b : ∃ (s : State) (i : SpokeId) (d : ChanDesc) (rest : List SpokeMsg),
      (s.spoke i).chan = .desc d :: rest ∧
      s.clocked = true ∧
      6 ≤ dKind d.raw :=
  ⟨spokeWith 1 { Spoke.reset with chan := [.desc ⟨rawOf 7 0 200000 0 41000000000, 0, 2⟩], queue := [] }, 3, ⟨rawOf 7 0 200000 0 41000000000, 0, 2⟩, [], by decide +kernel⟩

theorem wit_DescriptorRejected_9a : ∃ (s : State) (i : SpokeId) (d : ChanDesc) (rest : List SpokeMsg),
      (s.spoke i).chan = .desc d :: rest ∧
      s.clocked = true ∧
      dKind d.raw = 0 :=
  ⟨spokeWith 1 { Spoke.reset with chan := [.desc ⟨0x12345000000000000, 0, 2⟩], queue := [] }, 3, ⟨0x12345000000000000, 0, 2⟩, [], by decide +kernel⟩

theorem wit_DescriptorRejected_9b : ∃ (s : State) (i : SpokeId) (d : ChanDesc) (rest : List SpokeMsg),
      (s.spoke i).chan = .desc d :: rest ∧
      s.clocked = true ∧
      dKind d.raw = 0 :=
  ⟨spokeWith 1 { Spoke.reset with chan := [.desc ⟨0x1000, 0, 2⟩], queue := [] }, 3, ⟨0x1000, 0, 2⟩, [], by decide +kernel⟩

/-! Edges and level changes run when they fall due -/

theorem wit_EdgesComplete_1 : ∃ (s : State) (i : SpokeId) (e : QDesc),
      s.clocked = true ∧
      s.hub.hold = false ∧
      s.suppressed = false ∧
      (s.spoke i).nextEmit = some e ∧
      dtLe e.due s.dt = true ∧
      s.clearTo i e.due = true ∧
      (s.spoke i).inModeGap e.due = false ∧
      (e.kind ≠ .level ∧ e.edges % 2 = 0) :=
  ⟨spokeWith 1 { Spoke.reset with queue := [qd .pulse (rawOf 1 32 200000 0 40960000000)] }, 3, qd .pulse (rawOf 1 32 200000 0 40960000000), by decide +kernel⟩

theorem wit_EdgesComplete_2 : ∃ (s : State) (i : SpokeId) (e : QDesc),
      s.clocked = true ∧
      s.hub.hold = false ∧
      s.suppressed = false ∧
      (s.spoke i).nextEmit = some e ∧
      dtLe e.due s.dt = true ∧
      s.clearTo i e.due = true ∧
      (s.spoke i).inModeGap e.due = false ∧
      (e.kind ≠ .level ∧ e.edges % 2 = 1) ∧
      e.pulses ≠ some (e.edges / 2 + 1) :=
  ⟨spokeWith 1 { Spoke.reset with queue := [{ qd .burst (rawOf 2 64 200000 400000 40959000000) with edges := 1, pulses := some 2 }] }, 3, { qd .burst (rawOf 2 64 200000 400000 40959000000) with edges := 1, pulses := some 2 }, by decide +kernel⟩

theorem wit_EdgesComplete_3 : ∃ (s : State) (i : SpokeId) (e : QDesc) (q : List QDesc),
      s.clocked = true ∧
      s.hub.hold = false ∧
      s.suppressed = false ∧
      (s.spoke i).nextEmit = some e ∧
      dtLe e.due s.dt = true ∧
      s.clearTo i e.due = true ∧
      (s.spoke i).inModeGap e.due = false ∧
      (e.kind ≠ .level ∧ e.edges % 2 = 1) ∧
      e.pulses = some (e.edges / 2 + 1) ∧
      (s.spoke i).queue = e :: q :=
  ⟨spokeWith 1 { Spoke.reset with queue := [{ qd .pulse (rawOf 1 32 200000 0 40959000000) with edges := 1 }] }, 3, { qd .pulse (rawOf 1 32 200000 0 40959000000) with edges := 1 }, [], by decide +kernel⟩

theorem wit_EdgesComplete_4 : ∃ (s : State) (i : SpokeId) (e : QDesc) (q : List QDesc),
      s.clocked = true ∧
      s.hub.hold = false ∧
      s.suppressed = false ∧
      (s.spoke i).nextEmit = some e ∧
      dtLe e.due s.dt = true ∧
      s.clearTo i e.due = true ∧
      (s.spoke i).inModeGap e.due = false ∧
      e.kind = .level ∧
      (s.spoke i).queue = e :: q :=
  ⟨spokeWith 1 { Spoke.reset with queue := [qd .level (rawOf 4 8 0 0 40960000000)] }, 3, qd .level (rawOf 4 8 0 0 40960000000), [], by decide +kernel⟩

theorem wit_EdgesComplete_5a : ∃ (s : State) (i : SpokeId) (e : QDesc) (c : Instr),
      s.clocked = true ∧
      s.hub.hold = false ∧
      (s.spoke i).nextEmit = some e ∧
      dtLe e.due s.dt = true ∧
      s.clearTo i e.due = true ∧
      (s.spoke i).inModeGap e.due = true ∧
      c = (if e.kind = .level then .levelChange i else if e.edges % 2 = 0 then .leadingEdge i else .trailingEdge i) :=
  ⟨spokeWith 1 { Spoke.reset with queue := [qd .pulse (rawOf 1 32 200000 0 40960000000)], modeEnd := some 40960000001 }, 3, qd .pulse (rawOf 1 32 200000 0 40960000000), .leadingEdge 3, by decide +kernel⟩

theorem wit_EdgesComplete_5b : ∃ (s : State) (i : SpokeId) (e : QDesc) (c : Instr),
      s.clocked = true ∧
      s.hub.hold = false ∧
      (s.spoke i).nextEmit = some e ∧
      dtLe e.due s.dt = true ∧
      s.clearTo i e.due = true ∧
      (s.spoke i).inModeGap e.due = true ∧
      c = (if e.kind = .level then .levelChange i else if e.edges % 2 = 0 then .leadingEdge i else .trailingEdge i) :=
  ⟨spokeWith 1 { Spoke.reset with queue := [{ qd .pulse (rawOf 1 32 200000 0 40959000000) with edges := 1 }], modeEnd := some 40960000001 }, 3, { qd .pulse (rawOf 1 32 200000 0 40959000000) with edges := 1 }, .trailingEdge 3, by decide +kernel⟩

theorem wit_EdgesComplete_5c : ∃ (s : State) (i : SpokeId) (e : QDesc) (c : Instr),
      s.clocked = true ∧
      s.hub.hold = false ∧
      (s.spoke i).nextEmit = some e ∧
      dtLe e.due s.dt = true ∧
      s.clearTo i e.due = true ∧
      (s.spoke i).inModeGap e.due = true ∧
      c = (if e.kind = .level then .levelChange i else if e.edges % 2 = 0 then .leadingEdge i else .trailingEdge i) :=
  ⟨spokeWith 1 { Spoke.reset with queue := [qd .level (rawOf 4 8 0 0 40960000000)], modeEnd := some 40960000001 }, 3, qd .level (rawOf 4 8 0 0 40960000000), .levelChange 3, by decide +kernel⟩

theorem wit_EdgesComplete_6a : ∃ (s : State) (i : SpokeId) (e : QDesc) (c : Instr) (lvl : Drv),
      s.clocked = true ∧
      s.hub.hold = false ∧
      s.suppressed = true ∧
      s.watches i = false ∧
      (s.spoke i).nextEmit = some e ∧
      dtLe e.due s.dt = true ∧
      s.clearTo i e.due = true ∧
      (s.spoke i).inModeGap e.due = false ∧
      c = (if e.kind = .level then .levelChange i else if e.edges % 2 = 0 then .leadingEdge i else .trailingEdge i) ∧
      lvl = (if e.kind = .level then lvlOf (dLvl e.raw) else edgeLevel e.raw (e.edges % 2 == 0)) :=
  ⟨{ spokeWith 1 { Spoke.reset with queue := [qd .pulse (rawOf 1 32 200000 0 40960000000)] } with pair := { Pair.reset with brakeLine := true } }, 3, qd .pulse (rawOf 1 32 200000 0 40960000000), .leadingEdge 3, .high, by decide +kernel⟩

theorem wit_EdgesComplete_6b : ∃ (s : State) (i : SpokeId) (e : QDesc) (c : Instr) (lvl : Drv),
      s.clocked = true ∧
      s.hub.hold = false ∧
      s.suppressed = true ∧
      s.watches i = false ∧
      (s.spoke i).nextEmit = some e ∧
      dtLe e.due s.dt = true ∧
      s.clearTo i e.due = true ∧
      (s.spoke i).inModeGap e.due = false ∧
      c = (if e.kind = .level then .levelChange i else if e.edges % 2 = 0 then .leadingEdge i else .trailingEdge i) ∧
      lvl = (if e.kind = .level then lvlOf (dLvl e.raw) else edgeLevel e.raw (e.edges % 2 == 0)) :=
  ⟨{ spokeWith 1 { Spoke.reset with queue := [{ qd .pulse (rawOf 1 32 200000 0 40959000000) with edges := 1 }] } with pair := { Pair.reset with brakeLine := true } }, 3, { qd .pulse (rawOf 1 32 200000 0 40959000000) with edges := 1 }, .trailingEdge 3, .low, by decide +kernel⟩

theorem wit_EdgesComplete_6c : ∃ (s : State) (i : SpokeId) (e : QDesc) (c : Instr) (lvl : Drv),
      s.clocked = true ∧
      s.hub.hold = false ∧
      s.suppressed = true ∧
      s.watches i = false ∧
      (s.spoke i).nextEmit = some e ∧
      dtLe e.due s.dt = true ∧
      s.clearTo i e.due = true ∧
      (s.spoke i).inModeGap e.due = false ∧
      c = (if e.kind = .level then .levelChange i else if e.edges % 2 = 0 then .leadingEdge i else .trailingEdge i) ∧
      lvl = (if e.kind = .level then lvlOf (dLvl e.raw) else edgeLevel e.raw (e.edges % 2 == 0)) :=
  ⟨{ spokeWith 1 { Spoke.reset with queue := [qd .level (rawOf 4 8 0 0 40960000000)] } with pair := { Pair.reset with brakeLine := true } }, 3, qd .level (rawOf 4 8 0 0 40960000000), .levelChange 3, .high, by decide +kernel⟩

theorem wit_EdgesComplete_7a : ∃ (s : State) (i : SpokeId) (e : QDesc) (c : Instr),
      s.clocked = true ∧
      s.hub.hold = true ∧
      (s.spoke i).nextEmit = some e ∧
      dtLe e.due s.dt = true ∧
      s.clearTo i e.due = true ∧
      c = (if e.kind = .level then .levelChange i else if e.edges % 2 = 0 then .leadingEdge i else .trailingEdge i) :=
  ⟨{ spokeWith 1 { Spoke.reset with queue := [qd .pulse (rawOf 1 32 200000 0 40960000000)] } with hub := { day.hub with hold := true } }, 3, qd .pulse (rawOf 1 32 200000 0 40960000000), .leadingEdge 3, by decide +kernel⟩

theorem wit_EdgesComplete_7b : ∃ (s : State) (i : SpokeId) (e : QDesc) (c : Instr),
      s.clocked = true ∧
      s.hub.hold = true ∧
      (s.spoke i).nextEmit = some e ∧
      dtLe e.due s.dt = true ∧
      s.clearTo i e.due = true ∧
      c = (if e.kind = .level then .levelChange i else if e.edges % 2 = 0 then .leadingEdge i else .trailingEdge i) :=
  ⟨{ spokeWith 1 { Spoke.reset with queue := [{ qd .pulse (rawOf 1 32 200000 0 40959000000) with edges := 1 }] } with hub := { day.hub with hold := true } }, 3, { qd .pulse (rawOf 1 32 200000 0 40959000000) with edges := 1 }, .trailingEdge 3, by decide +kernel⟩

theorem wit_EdgesComplete_7c : ∃ (s : State) (i : SpokeId) (e : QDesc) (c : Instr),
      s.clocked = true ∧
      s.hub.hold = true ∧
      (s.spoke i).nextEmit = some e ∧
      dtLe e.due s.dt = true ∧
      s.clearTo i e.due = true ∧
      c = (if e.kind = .level then .levelChange i else if e.edges % 2 = 0 then .leadingEdge i else .trailingEdge i) :=
  ⟨{ spokeWith 1 { Spoke.reset with queue := [qd .level (rawOf 4 8 0 0 40960000000)] } with hub := { day.hub with hold := true } }, 3, qd .level (rawOf 4 8 0 0 40960000000), .levelChange 3, by decide +kernel⟩

/-! Windows open and close, and crossings are recorded -/

theorem wit_WindowsAndCaptureComplete_1 : ∃ (s : State) (i : SpokeId) (e : QDesc),
      s.frozen = false ∧
      (s.spoke i).queue.find? (fun e => e.kind == .window && !e.opened && !e.done) = some e ∧
      dtLe e.due s.dt = true ∧
      s.clearTo i e.due = true :=
  ⟨spokeWith 1 { Spoke.reset with queue := [qd .window (rawOf 5 96 0 100000 40960000000)] }, 3, qd .window (rawOf 5 96 0 100000 40960000000), by decide +kernel⟩

theorem wit_WindowsAndCaptureComplete_2 : ∃ (s : State) (i : SpokeId) (e : QDesc) (q : List QDesc),
      s.clocked = true ∧
      s.hub.hold = false ∧
      (s.spoke i).queue = e :: q ∧
      (e.kind = .window ∧ e.opened = true ∧ e.done = false) ∧
      dtLe e.last s.dt = true ∧
      s.clearTo i e.last = true :=
  ⟨spokeWith 1 { Spoke.reset with queue := [{ qd .window (rawOf 5 97 0 100000 40959000000) with opened := true }] }, 3, { qd .window (rawOf 5 97 0 100000 40959000000) with opened := true }, [], by decide +kernel⟩

theorem wit_WindowsAndCaptureComplete_3 : ∃ (s : State) (i : SpokeId) (e : QDesc) (q : List QDesc),
      s.clocked = true ∧
      s.hub.hold = false ∧
      (s.spoke i).queue = e :: q ∧
      (s.spoke i).ending = [] ∧
      (e.kind = .window ∧ e.opened = true ∧ e.done = false) ∧
      dtLe e.last s.dt = true ∧
      s.clearTo i e.last = true ∧
      (dMode e.raw ≠ 2 ∨ e.seen = true) :=
  ⟨spokeWith 1 { Spoke.reset with queue := [{ qd .window (rawOf 5 96 0 100000 40959000000) with opened := true }] }, 3, { qd .window (rawOf 5 96 0 100000 40959000000) with opened := true }, [], by decide +kernel⟩

theorem wit_WindowsAndCaptureComplete_4 : ∃ (s : State) (i : SpokeId) (e : QDesc) (q : List QDesc),
      s.clocked = true ∧
      s.hub.hold = false ∧
      (s.spoke i).queue = e :: q ∧
      (s.spoke i).ending = [] ∧
      (e.kind = .window ∧ e.opened = true ∧ e.done = false) ∧
      dtLe e.last s.dt = true ∧
      dtLe (dtAdd e.last (s.deskew i e)) s.dt = true ∧
      s.clearTo i e.last = true ∧
      (dMode e.raw = 2 ∧ e.seen = false) ∧
      s.recFull i = false :=
  ⟨spokeWith 1 { Spoke.reset with queue := [{ qd .window (rawOf 5 112 0 100000 40959000000) with opened := true }] }, 3, { qd .window (rawOf 5 112 0 100000 40959000000) with opened := true }, [], by decide +kernel⟩

theorem wit_WindowsAndCaptureComplete_5 : ∃ (s : State) (i : SpokeId) (w : EndWin),
      s.clocked = true ∧
      (s.spoke i).queue.find? (fun e => e.kind == .window && e.opened && !e.done) = none ∧
      (s.spoke i).ending = [w] ∧
      (w.over s.dt = true ∧ w.miss = true ∧ w.d.seen = false) ∧
      s.recFull i = false :=
  ⟨spokeWith 1 { Spoke.reset with ending := [⟨qd .window (rawOf 5 112 0 100000 40959000000), 40959100000, 5000, true⟩] }, 3, ⟨qd .window (rawOf 5 112 0 100000 40959000000), 40959100000, 5000, true⟩, by decide +kernel⟩

theorem wit_WindowsAndCaptureComplete_6a : ∃ (s : State) (i : SpokeId) (uv : Int) (rising : Bool),
      s.sees i uv = rising ∧
      (s.spoke i).pin = !rising ∧
      s.captures i = true ∧
      s.blanked i s.dt = false ∧
      s.inDeadTime i = false ∧
      s.windowAt i s.dt = none ∧
      s.ceAt i s.dt = none ∧
      s.freeTakes i rising = true ∧
      s.recFull i = false :=
  ⟨(spokeWith 1 Spoke.reset).setIsland 3 { Isl.reset with active := [(0x20308, 7)] }, 3, 100000, true, by decide +kernel⟩

theorem wit_WindowsAndCaptureComplete_6b : ∃ (s : State) (i : SpokeId) (uv : Int) (rising : Bool),
      s.sees i uv = rising ∧
      (s.spoke i).pin = !rising ∧
      s.captures i = true ∧
      s.blanked i s.dt = false ∧
      s.inDeadTime i = false ∧
      s.windowAt i s.dt = none ∧
      s.ceAt i s.dt = none ∧
      s.freeTakes i rising = true ∧
      s.recFull i = false :=
  ⟨(spokeWith 1 { Spoke.reset with lastStamp := some 40959991808, pin := true }).setIsland 3 { Isl.reset with active := [(0x20308, 7)] }, 3, -100000, false, by decide +kernel⟩

theorem wit_WindowsAndCaptureComplete_7 : ∃ (s : State) (i : SpokeId) (uv : Int) (rising : Bool) (e : QDesc) (rx : Nat),
      s.sees i uv = rising ∧
      (s.spoke i).pin = !rising ∧
      s.captures i = true ∧
      s.blanked i s.dt = false ∧
      s.inDeadTime i = false ∧
      s.windowAt i s.dt = some (e, rx) ∧
      takes e rising = true ∧
      dMode e.raw = 0 ∧
      s.recFull i = false :=
  ⟨spokeWith 1 { Spoke.reset with queue := [{ qd .window (rawOf 5 96 0 100000 40959950000) with opened := true }] }, 3, 100000, true, { qd .window (rawOf 5 96 0 100000 40959950000) with opened := true }, 0, by decide +kernel⟩

theorem wit_WindowsAndCaptureComplete_8 : ∃ (s : State) (i : SpokeId) (uv : Int) (rising : Bool),
      s.sees i uv = rising ∧
      (s.spoke i).pin = !rising ∧
      s.captures i = true ∧
      s.blanked i s.dt = false ∧
      s.inDeadTime i = true ∧
      s.wanted i rising = true :=
  ⟨(spokeWith 1 { Spoke.reset with lastStamp := some 40959991809 }).setIsland 3 { Isl.reset with active := [(0x20308, 7)] }, 3, 100000, true, by decide +kernel⟩

theorem wit_WindowsAndCaptureComplete_9a : ∃ (s : State) (i : SpokeId) (uv : Int) (rising : Bool),
      s.sees i uv = rising ∧
      (s.spoke i).pin = !rising ∧
      (s.captures i = false ∨ s.blanked i s.dt = true) :=
  ⟨State.reset, 3, 100000, true, by decide +kernel⟩

theorem wit_WindowsAndCaptureComplete_9b : ∃ (s : State) (i : SpokeId) (uv : Int) (rising : Bool),
      s.sees i uv = rising ∧
      (s.spoke i).pin = !rising ∧
      (s.captures i = false ∨ s.blanked i s.dt = true) :=
  ⟨spokeWith 1 { Spoke.reset with ownEdges := [40959991808] }, 3, 100000, true, by decide +kernel⟩

theorem wit_WindowsAndCaptureComplete_10 : ∃ (s : State) (i : SpokeId) (uv : Int),
      s.sees i uv = (s.spoke i).pin :=
  ⟨State.reset, 3, -100000, by decide +kernel⟩

/-! Mode changes and cancels of a spoke -/

theorem wit_ModeAndCancelComplete_1 : ∃ (s : State) (i : SpokeId),
      s.clocked = true ∧
      (s.spoke i).modePend = true ∧
      (s.spoke i).queue.any (fun e => e.tag != (s.island (islSpoke i)).gen) = false ∧
      (s.spoke i).launches.all (fun l => dtLe l.1 s.dt) = true ∧
      (s.wantedMode i).1 ≠ (s.spoke i).out :=
  ⟨(day.setIsland 3 { Isl.reset with active := [(0x20300, 2)] }).setSpoke 3 { Spoke.reset with modePend := true, out := 1 }, 3, by decide +kernel⟩

theorem wit_ModeAndCancelComplete_2 : ∃ (s : State) (i : SpokeId),
      s.clocked = true ∧
      (s.spoke i).modePend = true ∧
      (s.spoke i).queue.any (fun e => e.tag != (s.island (islSpoke i)).gen) = false ∧
      (s.spoke i).launches.all (fun l => dtLe l.1 s.dt) = true ∧
      (s.wantedMode i).1 = (s.spoke i).out :=
  ⟨(day.setIsland 3 { Isl.reset with active := [(0x20300, 6)] }).setSpoke 3 { Spoke.reset with modePend := true, out := 2 }, 3, by decide +kernel⟩

theorem wit_ModeAndCancelComplete_3 : ∃ (s : State) (i : SpokeId) (d : DT),
      (s.spoke i).modeEnd = some d ∧
      s.clocked = true ∧
      dtLe d s.dt = true ∧
      (s.req i).st ≠ 2 :=
  ⟨spokeWith 0x11 { Spoke.reset with modeEnd := some 40960000000 }, 3, 40960000000, by decide +kernel⟩

theorem wit_ModeAndCancelComplete_4 : ∃ (s : State) (i : SpokeId) (d : DT),
      (s.spoke i).modeEnd = some d ∧
      s.clocked = true ∧
      dtLe d s.dt = true ∧
      (s.req i).st = 2 :=
  ⟨(spokeWith 0x11 { Spoke.reset with modeEnd := some 40960000000 }).setReq 3 { TruReq.reset with st := 2 }, 3, 40960000000, by decide +kernel⟩

theorem wit_ModeAndCancelComplete_5 : ∃ (s : State) (i : SpokeId),
      s.hostReach = true ∧
      s.clocked = true ∧
      dtLe (dtAdd (s.replica islHandlebar) 4096000) (dtAt s.imm (spBase i + 0x30)) = true :=
  ⟨{ day with imm := [(0x20330, 0), (0x20334, 0x100)] }, 3, by decide +kernel⟩

theorem wit_ModeAndCancelComplete_6 : ∃ (s : State) (i : SpokeId),
      s.hostReach = true ∧
      s.clocked = true ∧
      dtLe (dtAdd (s.replica islHandlebar) 4096000) (dtAt s.imm (spBase i + 0x30)) = false :=
  ⟨{ day with noon := { Noon.reset with distAt := 40960000000, distClock := 40960000000 } }, 3, by decide +kernel⟩

theorem wit_ModeAndCancelComplete_7 : ∃ (s : State) (i : SpokeId),
      s.hostReach = true ∧
      s.clocked = false :=
  ⟨{ day with hub := { day.hub with gatesOpen := false } }, 3, by decide +kernel⟩

theorem wit_ModeAndCancelComplete_8 : ∃ (s : State) (i : SpokeId) (cut : DT),
      (s.spoke i).cancel = some cut ∧
      s.clocked = true ∧
      dtLe cut s.dt = true ∧
      s.swapBefore (islSpoke i) cut = false :=
  ⟨spokeWith 1 { Spoke.reset with cancel := some 40960000000, queue := [qd .pulse (rawOf 1 32 200000 0 40959900000)] }, 3, 40960000000, by decide +kernel⟩

theorem wit_ModeAndCancelComplete_9 : ∃ (s : State) (i : SpokeId) (cut : DT),
      (s.spoke i).cancel = some cut ∧
      s.clocked = true ∧
      dtLe cut s.dt = true ∧
      s.swapBefore (islSpoke i) cut = false ∧
      ((∀ e ∈ (s.spoke i).queue, dtLe cut e.start = true)) :=
  ⟨spokeWith 1 { Spoke.reset with cancel := some 40960000000, queue := [qd .pulse (rawOf 1 32 200000 0 40960000000)] }, 3, 40960000000, by decide +kernel⟩

/-! Control instructions -/

theorem wit_PacerControlCompletes_1 : ∃ (s : State) (p : ThreadId) (w : BitVec 64) (t : Thread),
      t = s.thread p ∧
      s.issues p w ∧
      iOp w = 0x00 ∧
      iField w 0 56 = 0 ∧
      t.ip ≠ 0x3FFF :=
  ⟨running (runT) (iw 0 0 0 0 0), 0, iw 0 0 0 0 0, runT, by decide +kernel⟩

theorem wit_PacerControlCompletes_2 : ∃ (s : State) (p : ThreadId) (w : BitVec 64) (t : Thread),
      t = s.thread p ∧
      s.issues p w ∧
      iOp w = 0x01 ∧
      iField w 0 56 = 0 :=
  ⟨running (runT) (iw 1 0 0 0 0), 0, iw 1 0 0 0 0, runT, by decide +kernel⟩

theorem wit_PacerControlCompletes_3 : ∃ (s : State) (p : ThreadId) (w : BitVec 64) (t : Thread),
      t = s.thread p ∧
      s.issues p w ∧
      iOp w = 0x02 ∧
      iField w 14 38 = 0 ∧
      condHolds t (iField w 52 4) = true :=
  ⟨running (runT) (iw 2 0 0 0 16383), 0, iw 2 0 0 0 16383, runT, by decide +kernel⟩

theorem wit_PacerControlCompletes_4 : ∃ (s : State) (p : ThreadId) (w : BitVec 64) (t : Thread),
      t = s.thread p ∧
      s.issues p w ∧
      iOp w = 0x02 ∧
      iField w 14 38 = 0 ∧
      condHolds t (iField w 52 4) = false ∧
      t.ip ≠ 0x3FFF :=
  ⟨running (runT) (iw 2 1 0 0 7), 0, iw 2 1 0 0 7, runT, by decide +kernel⟩

theorem wit_PacerControlCompletes_5 : ∃ (s : State) (p : ThreadId) (w : BitVec 64) (t : Thread),
      t = s.thread p ∧
      s.issues p w ∧
      iOp w = 0x03 ∧
      iField w 14 38 = 0 ∧
      condHolds t (iField w 52 4) = true ∧
      t.stack.length < 4 :=
  ⟨running ({ runT with stack := [.call 1, .call 2, .loop 3 1] }) (iw 3 0 0 0 7), 0, iw 3 0 0 0 7, { runT with stack := [.call 1, .call 2, .loop 3 1] }, by decide +kernel⟩

theorem wit_PacerControlCompletes_6 : ∃ (s : State) (p : ThreadId) (w : BitVec 64) (t : Thread),
      t = s.thread p ∧
      s.issues p w ∧
      iOp w = 0x03 ∧
      iField w 14 38 = 0 ∧
      condHolds t (iField w 52 4) = true ∧
      4 ≤ t.stack.length :=
  ⟨running ({ runT with stack := [.call 1, .call 2, .call 3, .call 4] }) (iw 3 0 0 0 7), 0, iw 3 0 0 0 7, { runT with stack := [.call 1, .call 2, .call 3, .call 4] }, by decide +kernel⟩

theorem wit_PacerControlCompletes_7 : ∃ (s : State) (p : ThreadId) (w : BitVec 64) (t : Thread),
      t = s.thread p ∧
      s.issues p w ∧
      iOp w = 0x03 ∧
      iField w 14 38 = 0 ∧
      condHolds t (iField w 52 4) = false ∧
      t.ip ≠ 0x3FFF :=
  ⟨running (runT) (iw 3 1 0 0 7), 0, iw 3 1 0 0 7, runT, by decide +kernel⟩

theorem wit_PacerControlCompletes_8 : ∃ (s : State) (p : ThreadId) (w : BitVec 64) (t : Thread) (a : BitVec 14) (r : List StackEnt),
      t = s.thread p ∧
      s.issues p w ∧
      iOp w = 0x04 ∧
      iField w 0 52 = 0 ∧
      condHolds t (iField w 52 4) = true ∧
      t.stack = r ++ [.call a] :=
  ⟨running ({ runT with stack := [.loop 3 1, .call 9] }) (iw 4 0 0 0 0), 0, iw 4 0 0 0 0, { runT with stack := [.loop 3 1, .call 9] }, 9, [.loop 3 1], by decide +kernel⟩

theorem wit_PacerControlCompletes_9 : ∃ (s : State) (p : ThreadId) (w : BitVec 64) (t : Thread) (a : BitVec 14) (c : Word) (r : List StackEnt),
      t = s.thread p ∧
      s.issues p w ∧
      iOp w = 0x04 ∧
      iField w 0 52 = 0 ∧
      condHolds t (iField w 52 4) = true ∧
      (t.stack = [] ∨ t.stack = r ++ [.loop a c]) :=
  ⟨running (runT) (iw 4 0 0 0 0), 0, iw 4 0 0 0 0, runT, 9, 1, [], by decide +kernel⟩

theorem wit_PacerControlCompletes_10 : ∃ (s : State) (p : ThreadId) (w : BitVec 64) (t : Thread),
      t = s.thread p ∧
      s.issues p w ∧
      iOp w = 0x04 ∧
      iField w 0 52 = 0 ∧
      condHolds t (iField w 52 4) = false ∧
      t.ip ≠ 0x3FFF :=
  ⟨running (runT) (iw 4 1 0 0 0), 0, iw 4 1 0 0 0, runT, by decide +kernel⟩

theorem wit_PacerControlCompletes_11 : ∃ (s : State) (p : ThreadId) (w : BitVec 64) (t : Thread) (c : Word),
      t = s.thread p ∧
      s.issues p w ∧
      iOp w = 0x05 ∧
      (iField w 52 4 = 0 ∧ iField w 14 1 = 0) ∧
      (iField w 15 1 = 0 ∧ iField w 48 4 = 0 ∧ c = BitVec.ofNat 32 (iField w 16 32) ∨
        iField w 15 1 = 1 ∧ iField w 48 4 < 8 ∧ iField w 16 32 = 0 ∧ c = t.gr (iField w 48 4)) ∧
      c ≠ 0 ∧
      t.stack.length < 4 ∧
      t.ip ≠ 0x3FFF :=
  ⟨running (runT) (iw 5 0 0 0 0x50007), 0, iw 5 0 0 0 0x50007, runT, 5, by decide +kernel⟩

theorem wit_PacerControlCompletes_12 : ∃ (s : State) (p : ThreadId) (w : BitVec 64) (t : Thread),
      t = s.thread p ∧
      s.issues p w ∧
      iOp w = 0x05 ∧
      (iField w 52 4 = 0 ∧ iField w 14 1 = 0) ∧
      (iField w 15 1 = 0 ∧ iField w 48 4 = 0 ∧ iField w 16 32 = 0 ∨
        iField w 15 1 = 1 ∧ iField w 48 4 < 8 ∧ iField w 16 32 = 0 ∧ t.gr (iField w 48 4) = 0) :=
  ⟨running (runT) (iw 5 0 2 0 0x8007), 0, iw 5 0 2 0 0x8007, runT, by decide +kernel⟩

theorem wit_PacerControlCompletes_13 : ∃ (s : State) (p : ThreadId) (w : BitVec 64) (t : Thread),
      t = s.thread p ∧
      s.issues p w ∧
      iOp w = 0x05 ∧
      (iField w 52 4 = 0 ∧ iField w 14 1 = 0) ∧
      (iField w 15 1 = 0 ∧ iField w 48 4 = 0 ∧ iField w 16 32 ≠ 0 ∨
        iField w 15 1 = 1 ∧ iField w 48 4 < 8 ∧ iField w 16 32 = 0 ∧ t.gr (iField w 48 4) ≠ 0) ∧
      4 ≤ t.stack.length :=
  ⟨running ({ runT with stack := [.call 1, .call 2, .call 3, .call 4] }) (iw 5 0 0 0 0x10007), 0, iw 5 0 0 0 0x10007, { runT with stack := [.call 1, .call 2, .call 3, .call 4] }, by decide +kernel⟩

theorem wit_PacerControlCompletes_14 : ∃ (s : State) (p : ThreadId) (w : BitVec 64) (t : Thread) (a : BitVec 14) (c : Word) (r : List StackEnt),
      t = s.thread p ∧
      s.issues p w ∧
      iOp w = 0x06 ∧
      iField w 0 56 = 0 ∧
      t.stack = r ++ [.loop a c] ∧
      c ≠ 1 :=
  ⟨running ({ runT with stack := [.loop 3 2] }) (iw 6 0 0 0 0), 0, iw 6 0 0 0 0, { runT with stack := [.loop 3 2] }, 3, 2, [], by decide +kernel⟩

theorem wit_PacerControlCompletes_15 : ∃ (s : State) (p : ThreadId) (w : BitVec 64) (t : Thread) (a : BitVec 14) (r : List StackEnt),
      t = s.thread p ∧
      s.issues p w ∧
      iOp w = 0x06 ∧
      iField w 0 56 = 0 ∧
      t.stack = r ++ [.loop a 1] ∧
      t.ip ≠ 0x3FFF :=
  ⟨running ({ runT with stack := [.call 4, .loop 3 1] }) (iw 6 0 0 0 0), 0, iw 6 0 0 0 0, { runT with stack := [.call 4, .loop 3 1] }, 3, [.call 4], by decide +kernel⟩

theorem wit_PacerControlCompletes_16 : ∃ (s : State) (p : ThreadId) (w : BitVec 64) (t : Thread) (a : BitVec 14) (r : List StackEnt),
      t = s.thread p ∧
      s.issues p w ∧
      iOp w = 0x06 ∧
      iField w 0 56 = 0 ∧
      (t.stack = [] ∨ t.stack = r ++ [.call a]) :=
  ⟨running ({ runT with stack := [.call 4] }) (iw 6 0 0 0 0), 0, iw 6 0 0 0 0, { runT with stack := [.call 4] }, 4, [], by decide +kernel⟩

theorem wit_PacerControlCompletes_17 : ∃ (s : State) (p : ThreadId) (w : BitVec 64) (t : Thread),
      t = s.thread p ∧
      s.issues p w ∧
      opDefined (iOp w) = false :=
  ⟨running (runT) (iw 7 0 0 0 0), 0, iw 7 0 0 0 0, runT, by decide +kernel⟩

theorem wit_PacerControlCompletes_18 : ∃ (s : State) (p : ThreadId) (w : BitVec 64) (c : Instr),
      s.issues p w ∧
      ((c, iOp w) ∈ [(.nop p, 0x00), (.halt p, 0x01), (.endl p, 0x06)] ∧ iField w 0 56 ≠ 0 ∨
        (c, iOp w) ∈ [(.b p, 0x02), (.call p, 0x03)] ∧ iField w 14 38 ≠ 0 ∨ (c, iOp w) = (.ret p, 0x04) ∧ iField w 0 52 ≠ 0) :=
  ⟨running (runT) (iw 2 0 1 0 0), 0, iw 2 0 1 0 0, .b 0, by decide +kernel⟩

theorem wit_PacerControlCompletes_19 : ∃ (s : State) (p : ThreadId) (w : BitVec 64) (t : Thread) (c : Instr),
      t = s.thread p ∧
      s.issues p w ∧
      t.ip = 0x3FFF ∧
      ((c, w) = (.nop p, 0) ∨
        (c, iOp w) ∈ [(.b p, 0x02), (.call p, 0x03)] ∧ iField w 14 38 = 0 ∧ condHolds t (iField w 52 4) = false ∨
        (c, iOp w) = (.ret p, 0x04) ∧ iField w 0 52 = 0 ∧ condHolds t (iField w 52 4) = false) :=
  ⟨{ day.setThread 0 { runT with ip := 0x3FFF } with mem := [] }, 0, 0, { runT with ip := 0x3FFF }, .nop 0, by decide +kernel⟩

/-! Arithmetic on G registers -/

theorem wit_GArithmeticCompletes_1 : ∃ (s : State) (p : ThreadId) (w : BitVec 64) (t : Thread) (d a b : Fin 8) (x y : Word),
      t = s.thread p ∧
      s.issues p w ∧
      iOp w = 0x10 ∧
      iField w 52 4 = d.val ∧
      iField w 48 4 = a.val ∧
      iField w 44 4 = b.val ∧
      iField w 0 44 = 0 ∧
      x = t.g.get a ∧
      y = t.g.get b ∧
      t.ip ≠ 0x3FFF :=
  ⟨running ({ runT with g := #v[0x80000000, 0x80000001, 3, 0xFFFFFFFF, 0, 33, 7, 9] }) (iw 0x10 2 0 1 0), 0, iw 0x10 2 0 1 0, { runT with g := #v[0x80000000, 0x80000001, 3, 0xFFFFFFFF, 0, 33, 7, 9] }, 2, 0, 1, ({ runT with g := #v[0x80000000, 0x80000001, 3, 0xFFFFFFFF, 0, 33, 7, 9] }).g.get 0, ({ runT with g := #v[0x80000000, 0x80000001, 3, 0xFFFFFFFF, 0, 33, 7, 9] }).g.get 1, by decide +kernel⟩

theorem wit_GArithmeticCompletes_2 : ∃ (s : State) (p : ThreadId) (w : BitVec 64) (t : Thread) (d a b : Fin 8) (x y : Word),
      t = s.thread p ∧
      s.issues p w ∧
      iOp w = 0x11 ∧
      iField w 52 4 = d.val ∧
      iField w 48 4 = a.val ∧
      iField w 44 4 = b.val ∧
      iField w 0 44 = 0 ∧
      x = t.g.get a ∧
      y = t.g.get b ∧
      t.ip ≠ 0x3FFF :=
  ⟨running ({ runT with g := #v[0x80000000, 0x80000001, 3, 0xFFFFFFFF, 0, 33, 7, 9] }) (iw 0x11 2 0 1 0), 0, iw 0x11 2 0 1 0, { runT with g := #v[0x80000000, 0x80000001, 3, 0xFFFFFFFF, 0, 33, 7, 9] }, 2, 0, 1, ({ runT with g := #v[0x80000000, 0x80000001, 3, 0xFFFFFFFF, 0, 33, 7, 9] }).g.get 0, ({ runT with g := #v[0x80000000, 0x80000001, 3, 0xFFFFFFFF, 0, 33, 7, 9] }).g.get 1, by decide +kernel⟩

theorem wit_GArithmeticCompletes_3 : ∃ (s : State) (p : ThreadId) (w : BitVec 64) (t : Thread) (d a b : Fin 8) (x y : Word),
      t = s.thread p ∧
      s.issues p w ∧
      iOp w = 0x12 ∧
      iField w 52 4 = d.val ∧
      iField w 48 4 = a.val ∧
      iField w 44 4 = b.val ∧
      iField w 0 44 = 0 ∧
      x = t.g.get a ∧
      y = t.g.get b ∧
      t.ip ≠ 0x3FFF :=
  ⟨running ({ runT with g := #v[0x80000000, 0x80000001, 3, 0xFFFFFFFF, 0, 33, 7, 9] }) (iw 0x12 2 0 1 0), 0, iw 0x12 2 0 1 0, { runT with g := #v[0x80000000, 0x80000001, 3, 0xFFFFFFFF, 0, 33, 7, 9] }, 2, 0, 1, ({ runT with g := #v[0x80000000, 0x80000001, 3, 0xFFFFFFFF, 0, 33, 7, 9] }).g.get 0, ({ runT with g := #v[0x80000000, 0x80000001, 3, 0xFFFFFFFF, 0, 33, 7, 9] }).g.get 1, by decide +kernel⟩

theorem wit_GArithmeticCompletes_4 : ∃ (s : State) (p : ThreadId) (w : BitVec 64) (t : Thread) (d a b : Fin 8) (x y : Word),
      t = s.thread p ∧
      s.issues p w ∧
      iOp w = 0x13 ∧
      iField w 52 4 = d.val ∧
      iField w 48 4 = a.val ∧
      iField w 44 4 = b.val ∧
      iField w 0 44 = 0 ∧
      x = t.g.get a ∧
      y = t.g.get b ∧
      t.ip ≠ 0x3FFF :=
  ⟨running ({ runT with g := #v[0x80000000, 0x80000001, 3, 0xFFFFFFFF, 0, 33, 7, 9] }) (iw 0x13 2 0 1 0), 0, iw 0x13 2 0 1 0, { runT with g := #v[0x80000000, 0x80000001, 3, 0xFFFFFFFF, 0, 33, 7, 9] }, 2, 0, 1, ({ runT with g := #v[0x80000000, 0x80000001, 3, 0xFFFFFFFF, 0, 33, 7, 9] }).g.get 0, ({ runT with g := #v[0x80000000, 0x80000001, 3, 0xFFFFFFFF, 0, 33, 7, 9] }).g.get 1, by decide +kernel⟩

theorem wit_GArithmeticCompletes_5 : ∃ (s : State) (p : ThreadId) (w : BitVec 64) (t : Thread) (d a b : Fin 8) (x y : Word),
      t = s.thread p ∧
      s.issues p w ∧
      iOp w = 0x14 ∧
      iField w 52 4 = d.val ∧
      iField w 48 4 = a.val ∧
      iField w 44 4 = b.val ∧
      iField w 0 44 = 0 ∧
      x = t.g.get a ∧
      y = t.g.get b ∧
      t.ip ≠ 0x3FFF :=
  ⟨running ({ runT with g := #v[0x80000000, 0x80000001, 3, 0xFFFFFFFF, 0, 33, 7, 9] }) (iw 0x14 2 1 1 0), 0, iw 0x14 2 1 1 0, { runT with g := #v[0x80000000, 0x80000001, 3, 0xFFFFFFFF, 0, 33, 7, 9] }, 2, 1, 1, ({ runT with g := #v[0x80000000, 0x80000001, 3, 0xFFFFFFFF, 0, 33, 7, 9] }).g.get 1, ({ runT with g := #v[0x80000000, 0x80000001, 3, 0xFFFFFFFF, 0, 33, 7, 9] }).g.get 1, by decide +kernel⟩

theorem wit_GArithmeticCompletes_6 : ∃ (s : State) (p : ThreadId) (w : BitVec 64) (t : Thread) (d a b : Fin 8) (x y : Word),
      t = s.thread p ∧
      s.issues p w ∧
      iOp w = 0x15 ∧
      iField w 52 4 = d.val ∧
      iField w 48 4 = a.val ∧
      iField w 44 4 = b.val ∧
      iField w 0 44 = 0 ∧
      x = t.g.get a ∧
      y = t.g.get b ∧
      t.ip ≠ 0x3FFF :=
  ⟨running ({ runT with g := #v[0x80000000, 0x80000001, 3, 0xFFFFFFFF, 0, 33, 7, 9] }) (iw 0x15 2 1 3 0), 0, iw 0x15 2 1 3 0, { runT with g := #v[0x80000000, 0x80000001, 3, 0xFFFFFFFF, 0, 33, 7, 9] }, 2, 1, 3, ({ runT with g := #v[0x80000000, 0x80000001, 3, 0xFFFFFFFF, 0, 33, 7, 9] }).g.get 1, ({ runT with g := #v[0x80000000, 0x80000001, 3, 0xFFFFFFFF, 0, 33, 7, 9] }).g.get 3, by decide +kernel⟩

theorem wit_GArithmeticCompletes_7 : ∃ (s : State) (p : ThreadId) (w : BitVec 64) (t : Thread) (d a b : Fin 8) (x y : Word),
      t = s.thread p ∧
      s.issues p w ∧
      iOp w = 0x16 ∧
      iField w 52 4 = d.val ∧
      iField w 48 4 = a.val ∧
      iField w 44 4 = b.val ∧
      iField w 0 44 = 0 ∧
      x = t.g.get a ∧
      y = t.g.get b ∧
      t.ip ≠ 0x3FFF :=
  ⟨running ({ runT with g := #v[0x80000000, 0x80000001, 3, 0xFFFFFFFF, 0, 33, 7, 9] }) (iw 0x16 2 1 5 0), 0, iw 0x16 2 1 5 0, { runT with g := #v[0x80000000, 0x80000001, 3, 0xFFFFFFFF, 0, 33, 7, 9] }, 2, 1, 5, ({ runT with g := #v[0x80000000, 0x80000001, 3, 0xFFFFFFFF, 0, 33, 7, 9] }).g.get 1, ({ runT with g := #v[0x80000000, 0x80000001, 3, 0xFFFFFFFF, 0, 33, 7, 9] }).g.get 5, by decide +kernel⟩

theorem wit_GArithmeticCompletes_8 : ∃ (s : State) (p : ThreadId) (w : BitVec 64) (t : Thread) (d a b : Fin 8) (x y : Word),
      t = s.thread p ∧
      s.issues p w ∧
      iOp w = 0x17 ∧
      iField w 52 4 = d.val ∧
      iField w 48 4 = a.val ∧
      iField w 44 4 = b.val ∧
      iField w 0 44 = 0 ∧
      x = t.g.get a ∧
      y = t.g.get b ∧
      t.ip ≠ 0x3FFF :=
  ⟨running ({ runT with g := #v[0x80000000, 0x80000001, 3, 0xFFFFFFFF, 0, 33, 7, 9] }) (iw 0x17 2 0 1 0), 0, iw 0x17 2 0 1 0, { runT with g := #v[0x80000000, 0x80000001, 3, 0xFFFFFFFF, 0, 33, 7, 9] }, 2, 0, 1, ({ runT with g := #v[0x80000000, 0x80000001, 3, 0xFFFFFFFF, 0, 33, 7, 9] }).g.get 0, ({ runT with g := #v[0x80000000, 0x80000001, 3, 0xFFFFFFFF, 0, 33, 7, 9] }).g.get 1, by decide +kernel⟩

theorem wit_GArithmeticCompletes_9 : ∃ (s : State) (p : ThreadId) (w : BitVec 64) (t : Thread) (a b : Fin 8) (x y : Word),
      t = s.thread p ∧
      s.issues p w ∧
      iOp w = 0x18 ∧
      iField w 52 4 = 0 ∧
      iField w 48 4 = a.val ∧
      iField w 44 4 = b.val ∧
      iField w 0 44 = 0 ∧
      x = t.g.get a ∧
      y = t.g.get b ∧
      t.ip ≠ 0x3FFF :=
  ⟨running ({ runT with g := #v[0x80000000, 0x80000001, 3, 0xFFFFFFFF, 0, 33, 7, 9] }) (iw 0x18 0 2 1 0), 0, iw 0x18 0 2 1 0, { runT with g := #v[0x80000000, 0x80000001, 3, 0xFFFFFFFF, 0, 33, 7, 9] }, 2, 1, 3, 0x80000001, by decide +kernel⟩

theorem wit_GArithmeticCompletes_10 : ∃ (s : State) (p : ThreadId) (w : BitVec 64) (t : Thread) (d a : Fin 8),
      t = s.thread p ∧
      s.issues p w ∧
      iOp w = 0x19 ∧
      iField w 52 4 = d.val ∧
      iField w 48 4 = a.val ∧
      iField w 0 48 = 0 ∧
      t.ip ≠ 0x3FFF :=
  ⟨running ({ runT with g := #v[0x80000000, 0x80000001, 3, 0xFFFFFFFF, 0, 33, 7, 9] }) (iw 0x19 7 3 0 0), 0, iw 0x19 7 3 0 0, { runT with g := #v[0x80000000, 0x80000001, 3, 0xFFFFFFFF, 0, 33, 7, 9] }, 7, 3, by decide +kernel⟩

theorem wit_GArithmeticCompletes_11 : ∃ (s : State) (p : ThreadId) (w : BitVec 64) (t : Thread) (d : Fin 8),
      t = s.thread p ∧
      s.issues p w ∧
      iOp w = 0x1A ∧
      iField w 52 4 = d.val ∧
      iField w 32 20 = 0 ∧
      t.ip ≠ 0x3FFF :=
  ⟨running ({ runT with g := #v[0x80000000, 0x80000001, 3, 0xFFFFFFFF, 0, 33, 7, 9] }) (iw 0x1A 7 0 0 0xFFFFFFFF), 0, iw 0x1A 7 0 0 0xFFFFFFFF, { runT with g := #v[0x80000000, 0x80000001, 3, 0xFFFFFFFF, 0, 33, 7, 9] }, 7, by decide +kernel⟩

theorem wit_GArithmeticCompletes_12 : ∃ (s : State) (p : ThreadId) (w : BitVec 64) (t : Thread) (d a : Fin 8) (x y : Word),
      t = s.thread p ∧
      s.issues p w ∧
      iOp w = 0x1B ∧
      iField w 52 4 = d.val ∧
      iField w 48 4 = a.val ∧
      iField w 32 16 = 0 ∧
      x = t.g.get a ∧
      y = w.setWidth 32 ∧
      t.ip ≠ 0x3FFF :=
  ⟨running ({ runT with g := #v[0x80000000, 0x80000001, 3, 0xFFFFFFFF, 0, 33, 7, 9] }) (iw 0x1B 2 0 0 0x80000000), 0, iw 0x1B 2 0 0 0x80000000, { runT with g := #v[0x80000000, 0x80000001, 3, 0xFFFFFFFF, 0, 33, 7, 9] }, 2, 0, ({ runT with g := #v[0x80000000, 0x80000001, 3, 0xFFFFFFFF, 0, 33, 7, 9] }).g.get 0, 0x80000000, by decide +kernel⟩

theorem wit_GArithmeticCompletes_13 : ∃ (s : State) (p : ThreadId) (w : BitVec 64) (t : Thread) (d a : Fin 8) (x y : Word),
      t = s.thread p ∧
      s.issues p w ∧
      iOp w = 0x1C ∧
      iField w 52 4 = d.val ∧
      iField w 48 4 = a.val ∧
      iField w 32 16 = 0 ∧
      x = t.g.get a ∧
      y = w.setWidth 32 ∧
      t.ip ≠ 0x3FFF :=
  ⟨running ({ runT with g := #v[0x80000000, 0x80000001, 3, 0xFFFFFFFF, 0, 33, 7, 9] }) (iw 0x1C 2 0 0 0x7FFFFFFF), 0, iw 0x1C 2 0 0 0x7FFFFFFF, { runT with g := #v[0x80000000, 0x80000001, 3, 0xFFFFFFFF, 0, 33, 7, 9] }, 2, 0, ({ runT with g := #v[0x80000000, 0x80000001, 3, 0xFFFFFFFF, 0, 33, 7, 9] }).g.get 0, 0x7FFFFFFF, by decide +kernel⟩

theorem wit_GArithmeticCompletes_14 : ∃ (s : State) (p : ThreadId) (w : BitVec 64) (t : Thread) (a : Fin 8) (x y : Word),
      t = s.thread p ∧
      s.issues p w ∧
      iOp w = 0x1D ∧
      iField w 52 4 = 0 ∧
      iField w 48 4 = a.val ∧
      iField w 32 16 = 0 ∧
      x = t.g.get a ∧
      y = w.setWidth 32 ∧
      t.ip ≠ 0x3FFF :=
  ⟨running ({ runT with g := #v[0x80000000, 0x80000001, 3, 0xFFFFFFFF, 0, 33, 7, 9] }) (iw 0x1D 0 0 0 1), 0, iw 0x1D 0 0 0 1, { runT with g := #v[0x80000000, 0x80000001, 3, 0xFFFFFFFF, 0, 33, 7, 9] }, 0, 0x80000000, 1, by decide +kernel⟩

theorem wit_GArithmeticCompletes_15 : ∃ (s : State) (p : ThreadId) (w : BitVec 64) (t : Thread) (d a : Fin 8) (x : Word) (k : Nat),
      t = s.thread p ∧
      s.issues p w ∧
      iOp w = 0x1E ∧
      iField w 52 4 = d.val ∧
      iField w 48 4 = a.val ∧
      iField w 5 43 = 0 ∧
      x = t.g.get a ∧
      k = iField w 0 5 ∧
      t.ip ≠ 0x3FFF :=
  ⟨running ({ runT with g := #v[0x80000000, 0x80000001, 3, 0xFFFFFFFF, 0, 33, 7, 9] }) (iw 0x1E 2 0 0 1), 0, iw 0x1E 2 0 0 1, { runT with g := #v[0x80000000, 0x80000001, 3, 0xFFFFFFFF, 0, 33, 7, 9] }, 2, 0, ({ runT with g := #v[0x80000000, 0x80000001, 3, 0xFFFFFFFF, 0, 33, 7, 9] }).g.get 0, 1, by decide +kernel⟩

theorem wit_GArithmeticCompletes_16 : ∃ (s : State) (p : ThreadId) (w : BitVec 64) (t : Thread) (d a : Fin 8) (x : Word) (k : Nat),
      t = s.thread p ∧
      s.issues p w ∧
      iOp w = 0x1F ∧
      iField w 52 4 = d.val ∧
      iField w 48 4 = a.val ∧
      iField w 5 43 = 0 ∧
      x = t.g.get a ∧
      k = iField w 0 5 ∧
      t.ip ≠ 0x3FFF :=
  ⟨running ({ runT with g := #v[0x80000000, 0x80000001, 3, 0xFFFFFFFF, 0, 33, 7, 9] }) (iw 0x1F 2 0 0 0), 0, iw 0x1F 2 0 0 0, { runT with g := #v[0x80000000, 0x80000001, 3, 0xFFFFFFFF, 0, 33, 7, 9] }, 2, 0, ({ runT with g := #v[0x80000000, 0x80000001, 3, 0xFFFFFFFF, 0, 33, 7, 9] }).g.get 0, 0, by decide +kernel⟩

theorem wit_GArithmeticCompletes_17 : ∃ (s : State) (p : ThreadId) (w : BitVec 64) (c : Instr) (ok : Bool),
      s.issues p w ∧
      (c, iOp w, ok) ∈ [(.add p, 0x10, okR isG isG isG w),
        (.sub p, 0x11, okR isG isG isG w),
        (.and p, 0x12, okR isG isG isG w),
        (.or p, 0x13, okR isG isG isG w),
        (.xor p, 0x14, okR isG isG isG w),
        (.shl p, 0x15, okR isG isG isG w),
        (.shr p, 0x16, okR isG isG isG w),
        (.mul p, 0x17, okR isG isG isG w),
        (.cmp p, 0x18, okR none' isG isG w),
        (.mov p, 0x19, okR isG isG none' w),
        (.movi p, 0x1A, okI isG none' w),
        (.addi p, 0x1B, okI isG isG w),
        (.andi p, 0x1C, okI isG isG w),
        (.cmpi p, 0x1D, okI none' isG w),
        (.shli p, 0x1E, (isG (fD w) && isG (fA w) && zero w 5 43)),
        (.shri p, 0x1F, (isG (fD w) && isG (fA w) && zero w 5 43))] ∧
      ok = false :=
  ⟨running runT (iw 0x10 8 0 1 0), 0, iw 0x10 8 0 1 0, .add 0, false, by decide +kernel⟩

theorem wit_GArithmeticCompletes_18 : ∃ (s : State) (p : ThreadId) (w : BitVec 64) (c : Instr) (ok : Bool),
      s.issues p w ∧
      (s.thread p).ip = 0x3FFF ∧
      (c, iOp w, ok) ∈ [(.add p, 0x10, okR isG isG isG w),
        (.sub p, 0x11, okR isG isG isG w),
        (.and p, 0x12, okR isG isG isG w),
        (.or p, 0x13, okR isG isG isG w),
        (.xor p, 0x14, okR isG isG isG w),
        (.shl p, 0x15, okR isG isG isG w),
        (.shr p, 0x16, okR isG isG isG w),
        (.mul p, 0x17, okR isG isG isG w),
        (.cmp p, 0x18, okR none' isG isG w),
        (.mov p, 0x19, okR isG isG none' w),
        (.movi p, 0x1A, okI isG none' w),
        (.addi p, 0x1B, okI isG isG w),
        (.andi p, 0x1C, okI isG isG w),
        (.cmpi p, 0x1D, okI none' isG w),
        (.shli p, 0x1E, (isG (fD w) && isG (fA w) && zero w 5 43)),
        (.shri p, 0x1F, (isG (fD w) && isG (fA w) && zero w 5 43))] ∧
      ok = true :=
  ⟨{ day.setThread 0 { runT with ip := 0x3FFF } with mem := wrN memDflt [] 0x81FFF8 (leOctets 8 (iw 0x1A 3 0 0 5).toNat) }, 0, iw 0x1A 3 0 0 5, .movi 0, true, by decide +kernel⟩

/-! Arithmetic on times -/

theorem wit_TimeInstructionsComplete_1 : ∃ (s : State) (p : ThreadId) (w : BitVec 64) (t : Thread) (d a : Fin 8),
      t = s.thread p ∧
      s.issues p w ∧
      iOp w = 0x20 ∧
      iField w 52 4 = 8 + d.val ∧
      iField w 48 4 = 8 + a.val ∧
      iField w 0 48 = 0 ∧
      t.ip ≠ 0x3FFF :=
  ⟨running ({ runT with g := #v[0xFFFFFFFF, 1, 2, 3, 4, 5, 6, 7], t := #v[0, 5, 0x100000000000, 0xFFFFFFFFFFFFFFFFFFFF, 9, 0x80000000000000000000, 1, 2] }) (iw 0x20 8 10 0 0), 0, iw 0x20 8 10 0 0, { runT with g := #v[0xFFFFFFFF, 1, 2, 3, 4, 5, 6, 7], t := #v[0, 5, 0x100000000000, 0xFFFFFFFFFFFFFFFFFFFF, 9, 0x80000000000000000000, 1, 2] }, 0, 2, by decide +kernel⟩

theorem wit_TimeInstructionsComplete_2 : ∃ (s : State) (p : ThreadId) (w : BitVec 64) (t : Thread) (d a b : Fin 8) (x y : DT),
      t = s.thread p ∧
      s.issues p w ∧
      iOp w = 0x21 ∧
      iField w 52 4 = 8 + d.val ∧
      iField w 48 4 = 8 + a.val ∧
      iField w 44 4 = 8 + b.val ∧
      iField w 0 44 = 0 ∧
      x = t.t.get a ∧
      y = t.t.get b ∧
      t.ip ≠ 0x3FFF :=
  ⟨running ({ runT with g := #v[0xFFFFFFFF, 1, 2, 3, 4, 5, 6, 7], t := #v[0, 5, 0x100000000000, 0xFFFFFFFFFFFFFFFFFFFF, 9, 0x80000000000000000000, 1, 2] }) (iw 0x21 8 11 9 0), 0, iw 0x21 8 11 9 0, { runT with g := #v[0xFFFFFFFF, 1, 2, 3, 4, 5, 6, 7], t := #v[0, 5, 0x100000000000, 0xFFFFFFFFFFFFFFFFFFFF, 9, 0x80000000000000000000, 1, 2] }, 0, 3, 1, ({ runT with g := #v[0xFFFFFFFF, 1, 2, 3, 4, 5, 6, 7], t := #v[0, 5, 0x100000000000, 0xFFFFFFFFFFFFFFFFFFFF, 9, 0x80000000000000000000, 1, 2] }).t.get 3, ({ runT with g := #v[0xFFFFFFFF, 1, 2, 3, 4, 5, 6, 7], t := #v[0, 5, 0x100000000000, 0xFFFFFFFFFFFFFFFFFFFF, 9, 0x80000000000000000000, 1, 2] }).t.get 1, by decide +kernel⟩

theorem wit_TimeInstructionsComplete_3 : ∃ (s : State) (p : ThreadId) (w : BitVec 64) (t : Thread) (d a b : Fin 8) (x y : DT),
      t = s.thread p ∧
      s.issues p w ∧
      iOp w = 0x22 ∧
      iField w 52 4 = 8 + d.val ∧
      iField w 48 4 = 8 + a.val ∧
      iField w 44 4 = 8 + b.val ∧
      iField w 0 44 = 0 ∧
      x = t.t.get a ∧
      y = t.t.get b ∧
      t.ip ≠ 0x3FFF :=
  ⟨running ({ runT with g := #v[0xFFFFFFFF, 1, 2, 3, 4, 5, 6, 7], t := #v[0, 5, 0x100000000000, 0xFFFFFFFFFFFFFFFFFFFF, 9, 0x80000000000000000000, 1, 2] }) (iw 0x22 15 8 9 0), 0, iw 0x22 15 8 9 0, { runT with g := #v[0xFFFFFFFF, 1, 2, 3, 4, 5, 6, 7], t := #v[0, 5, 0x100000000000, 0xFFFFFFFFFFFFFFFFFFFF, 9, 0x80000000000000000000, 1, 2] }, 7, 0, 1, ({ runT with g := #v[0xFFFFFFFF, 1, 2, 3, 4, 5, 6, 7], t := #v[0, 5, 0x100000000000, 0xFFFFFFFFFFFFFFFFFFFF, 9, 0x80000000000000000000, 1, 2] }).t.get 0, ({ runT with g := #v[0xFFFFFFFF, 1, 2, 3, 4, 5, 6, 7], t := #v[0, 5, 0x100000000000, 0xFFFFFFFFFFFFFFFFFFFF, 9, 0x80000000000000000000, 1, 2] }).t.get 1, by decide +kernel⟩

theorem wit_TimeInstructionsComplete_4 : ∃ (s : State) (p : ThreadId) (w : BitVec 64) (t : Thread) (a b : Fin 8) (x y : DT),
      t = s.thread p ∧
      s.issues p w ∧
      iOp w = 0x26 ∧
      iField w 52 4 = 0 ∧
      iField w 48 4 = 8 + a.val ∧
      iField w 44 4 = 8 + b.val ∧
      iField w 0 44 = 0 ∧
      x = t.t.get a ∧
      y = t.t.get b ∧
      t.ip ≠ 0x3FFF :=
  ⟨running ({ runT with g := #v[0xFFFFFFFF, 1, 2, 3, 4, 5, 6, 7], t := #v[0, 5, 0x100000000000, 0xFFFFFFFFFFFFFFFFFFFF, 9, 0x80000000000000000000, 1, 2] }) (iw 0x26 0 9 9 0), 0, iw 0x26 0 9 9 0, { runT with g := #v[0xFFFFFFFF, 1, 2, 3, 4, 5, 6, 7], t := #v[0, 5, 0x100000000000, 0xFFFFFFFFFFFFFFFFFFFF, 9, 0x80000000000000000000, 1, 2] }, 1, 1, ({ runT with g := #v[0xFFFFFFFF, 1, 2, 3, 4, 5, 6, 7], t := #v[0, 5, 0x100000000000, 0xFFFFFFFFFFFFFFFFFFFF, 9, 0x80000000000000000000, 1, 2] }).t.get 1, ({ runT with g := #v[0xFFFFFFFF, 1, 2, 3, 4, 5, 6, 7], t := #v[0, 5, 0x100000000000, 0xFFFFFFFFFFFFFFFFFFFF, 9, 0x80000000000000000000, 1, 2] }).t.get 1, by decide +kernel⟩

theorem wit_TimeInstructionsComplete_5 : ∃ (s : State) (p : ThreadId) (w : BitVec 64) (t : Thread) (d a : Fin 8),
      t = s.thread p ∧
      s.issues p w ∧
      iOp w = 0x23 ∧
      iField w 52 4 = 8 + d.val ∧
      iField w 48 4 = 8 + a.val ∧
      t.ip ≠ 0x3FFF :=
  ⟨running ({ runT with g := #v[0xFFFFFFFF, 1, 2, 3, 4, 5, 6, 7], t := #v[0, 5, 0x100000000000, 0xFFFFFFFFFFFFFFFFFFFF, 9, 0x80000000000000000000, 1, 2] }) (iw 0x23 8 8 0 0 + 0xFFFFFFFFFFFF), 0, iw 0x23 8 8 0 0 + 0xFFFFFFFFFFFF, { runT with g := #v[0xFFFFFFFF, 1, 2, 3, 4, 5, 6, 7], t := #v[0, 5, 0x100000000000, 0xFFFFFFFFFFFFFFFFFFFF, 9, 0x80000000000000000000, 1, 2] }, 0, 0, by decide +kernel⟩

theorem wit_TimeInstructionsComplete_6 : ∃ (s : State) (p : ThreadId) (w : BitVec 64) (t : Thread) (d a b : Fin 8) (n : Nat),
      t = s.thread p ∧
      s.issues p w ∧
      iOp w = 0x24 ∧
      iField w 52 4 = 8 + d.val ∧
      iField w 48 4 = 8 + a.val ∧
      iField w 44 4 = b.val ∧
      (iField w 42 2 < 3 ∧ iField w 0 42 = 0) ∧
      (n = if iField w 42 2 = 0 then 1 else if iField w 42 2 = 1 then 4096 else 4096000) ∧
      t.ip ≠ 0x3FFF :=
  ⟨running ({ runT with g := #v[0xFFFFFFFF, 1, 2, 3, 4, 5, 6, 7], t := #v[0, 5, 0x100000000000, 0xFFFFFFFFFFFFFFFFFFFF, 9, 0x80000000000000000000, 1, 2] }) (iw 0x24 8 11 0 0x80000000000), 0, iw 0x24 8 11 0 0x80000000000, { runT with g := #v[0xFFFFFFFF, 1, 2, 3, 4, 5, 6, 7], t := #v[0, 5, 0x100000000000, 0xFFFFFFFFFFFFFFFFFFFF, 9, 0x80000000000000000000, 1, 2] }, 0, 3, 0, 4096000, by decide +kernel⟩

theorem wit_TimeInstructionsComplete_7 : ∃ (s : State) (p : ThreadId) (w : BitVec 64) (t : Thread) (d a b : Fin 8),
      t = s.thread p ∧
      s.issues p w ∧
      iOp w = 0x25 ∧
      iField w 52 4 = 8 + d.val ∧
      iField w 48 4 = 8 + a.val ∧
      iField w 44 4 = b.val ∧
      iField w 32 12 = 0 ∧
      t.nextSlot + 16 ≤ s.slot ∧
      t.ip ≠ 0x3FFF :=
  ⟨running ({ runT with g := #v[0xFFFFFFFF, 1, 2, 3, 4, 5, 6, 7], t := #v[0, 5, 0x100000000000, 0xFFFFFFFFFFFFFFFFFFFF, 9, 0x80000000000000000000, 1, 2] }) (iw 0x25 8 11 0 0xFFFFFFFF), 0, iw 0x25 8 11 0 0xFFFFFFFF, { runT with g := #v[0xFFFFFFFF, 1, 2, 3, 4, 5, 6, 7], t := #v[0, 5, 0x100000000000, 0xFFFFFFFFFFFFFFFFFFFF, 9, 0x80000000000000000000, 1, 2] }, 0, 3, 0, by decide +kernel⟩

theorem wit_TimeInstructionsComplete_8 : ∃ (s : State) (p : ThreadId) (w : BitVec 64) (t : Thread) (d : Fin 8) (a b : Fin 8) (n x y : Nat) (r : Word),
      t = s.thread p ∧
      s.issues p w ∧
      iOp w = 0x27 ∧
      iField w 52 4 = d.val ∧
      iField w 48 4 = 8 + a.val ∧
      iField w 44 4 = 8 + b.val ∧
      (iField w 42 2 < 3 ∧ iField w 0 42 = 0) ∧
      (n = if iField w 42 2 = 0 then 1 else if iField w 42 2 = 1 then 4096 else 4096000) ∧
      x = (t.t.get a).toNat ∧
      y = (t.t.get b).toNat ∧
      (r.toNat = if x < y then 0 else if (x - y) / n < 2 ^ 32 then (x - y) / n else 2 ^ 32 - 1) ∧
      t.nextSlot + 16 ≤ s.slot ∧
      t.ip ≠ 0x3FFF :=
  ⟨running ({ runT with g := #v[0xFFFFFFFF, 1, 2, 3, 4, 5, 6, 7], t := #v[0, 5, 0x100000000000, 0xFFFFFFFFFFFFFFFFFFFF, 9, 0x80000000000000000000, 1, 2] }) (iw 0x27 3 10 9 0), 0, iw 0x27 3 10 9 0, { runT with g := #v[0xFFFFFFFF, 1, 2, 3, 4, 5, 6, 7], t := #v[0, 5, 0x100000000000, 0xFFFFFFFFFFFFFFFFFFFF, 9, 0x80000000000000000000, 1, 2] }, 3, 2, 1, 1, 0x100000000000, 5, 0xFFFFFFFF, by decide +kernel⟩

theorem wit_TimeInstructionsComplete_9 : ∃ (s : State) (p : ThreadId) (w : BitVec 64) (t : Thread) (d : Fin 8),
      t = s.thread p ∧
      s.issues p w ∧
      iOp w = 0x28 ∧
      iField w 52 4 = 8 + d.val ∧
      iField w 48 4 = 0 ∧
      t.ip ≠ 0x3FFF :=
  ⟨running ({ runT with g := #v[0xFFFFFFFF, 1, 2, 3, 4, 5, 6, 7], t := #v[0, 5, 0x100000000000, 0xFFFFFFFFFFFFFFFFFFFF, 9, 0x80000000000000000000, 1, 2] }) (iw 0x28 8 0 0 0xF00000000001), 0, iw 0x28 8 0 0 0xF00000000001, { runT with g := #v[0xFFFFFFFF, 1, 2, 3, 4, 5, 6, 7], t := #v[0, 5, 0x100000000000, 0xFFFFFFFFFFFFFFFFFFFF, 9, 0x80000000000000000000, 1, 2] }, 0, by decide +kernel⟩

theorem wit_TimeInstructionsComplete_10 : ∃ (s : State) (p : ThreadId) (w : BitVec 64) (t : Thread) (d : Fin 8),
      t = s.thread p ∧
      s.issues p w ∧
      iOp w = 0x29 ∧
      iField w 52 4 = 8 + d.val ∧
      iField w 32 20 = 0 ∧
      t.ip ≠ 0x3FFF :=
  ⟨running ({ runT with g := #v[0xFFFFFFFF, 1, 2, 3, 4, 5, 6, 7], t := #v[0, 5, 0x100000000000, 0xFFFFFFFFFFFFFFFFFFFF, 9, 0x80000000000000000000, 1, 2] }) (iw 0x29 13 0 0 0xFFFFFFFF), 0, iw 0x29 13 0 0 0xFFFFFFFF, { runT with g := #v[0xFFFFFFFF, 1, 2, 3, 4, 5, 6, 7], t := #v[0, 5, 0x100000000000, 0xFFFFFFFFFFFFFFFFFFFF, 9, 0x80000000000000000000, 1, 2] }, 5, by decide +kernel⟩

theorem wit_TimeInstructionsComplete_11 : ∃ (s : State) (p : ThreadId) (w : BitVec 64) (t : Thread) (d a : Fin 8),
      t = s.thread p ∧
      s.issues p w ∧
      iOp w = 0x2A ∧
      iField w 52 4 = d.val ∧
      iField w 48 4 = 8 + a.val ∧
      (iField w 2 46 = 0 ∧ iField w 0 2 < 3) ∧
      t.ip ≠ 0x3FFF :=
  ⟨running ({ runT with g := #v[0xFFFFFFFF, 1, 2, 3, 4, 5, 6, 7], t := #v[0, 5, 0x100000000000, 0xFFFFFFFFFFFFFFFFFFFF, 9, 0x80000000000000000000, 1, 2] }) (iw 0x2A 3 11 0 2), 0, iw 0x2A 3 11 0 2, { runT with g := #v[0xFFFFFFFF, 1, 2, 3, 4, 5, 6, 7], t := #v[0, 5, 0x100000000000, 0xFFFFFFFFFFFFFFFFFFFF, 9, 0x80000000000000000000, 1, 2] }, 3, 3, by decide +kernel⟩

theorem wit_TimeInstructionsComplete_12 : ∃ (s : State) (p : ThreadId) (w : BitVec 64) (t : Thread) (d a : Fin 8) (r x : DT),
      t = s.thread p ∧
      s.issues p w ∧
      iOp w = 0x2B ∧
      iField w 52 4 = 8 + d.val ∧
      iField w 48 4 = a.val ∧
      (iField w 2 46 = 0 ∧ iField w 0 2 < 3) ∧
      x = t.t.get d ∧
      (r.toNat =
        (if iField w 0 2 = 0 then (t.g.get a).toNat else x.toNat % 2 ^ 32) +
        (if iField w 0 2 = 1 then (t.g.get a).toNat else x.toNat / 2 ^ 32 % 2 ^ 32) * 2 ^ 32 +
        (if iField w 0 2 = 2 then (t.g.get a).toNat % 2 ^ 16 else x.toNat / 2 ^ 64) * 2 ^ 64) ∧
      t.ip ≠ 0x3FFF :=
  ⟨running ({ runT with g := #v[0xFFFFFFFF, 1, 2, 3, 4, 5, 6, 7], t := #v[0, 5, 0x100000000000, 0xFFFFFFFFFFFFFFFFFFFF, 9, 0x80000000000000000000, 1, 2] }) (iw 0x2B 11 0 0 2), 0, iw 0x2B 11 0 0 2, { runT with g := #v[0xFFFFFFFF, 1, 2, 3, 4, 5, 6, 7], t := #v[0, 5, 0x100000000000, 0xFFFFFFFFFFFFFFFFFFFF, 9, 0x80000000000000000000, 1, 2] }, 3, 0, 0xFFFFFFFFFFFFFFFFFFFF, 0xFFFFFFFFFFFFFFFFFFFF, by decide +kernel⟩

theorem wit_TimeInstructionsComplete_13 : ∃ (s : State) (p : ThreadId) (w : BitVec 64) (t : Thread) (d : Fin 8) (r : DT),
      t = s.thread p ∧
      s.issues p w ∧
      iOp w = 0x2C ∧
      iField w 52 4 = 8 + d.val ∧
      iField w 0 52 = 0 ∧
      r.toNat = (32768 * s.slot + 4) / 5 ∧
      t.ip ≠ 0x3FFF :=
  ⟨running ({ runT with g := #v[0xFFFFFFFF, 1, 2, 3, 4, 5, 6, 7], t := #v[0, 5, 0x100000000000, 0xFFFFFFFFFFFFFFFFFFFF, 9, 0x80000000000000000000, 1, 2] }) (iw 0x2C 8 0 0 0), 0, iw 0x2C 8 0 0 0, { runT with g := #v[0xFFFFFFFF, 1, 2, 3, 4, 5, 6, 7], t := #v[0, 5, 0x100000000000, 0xFFFFFFFFFFFFFFFFFFFF, 9, 0x80000000000000000000, 1, 2] }, 0, 40960000000, by decide +kernel⟩

theorem wit_TimeInstructionsComplete_14 : ∃ (s : State) (p : ThreadId) (w : BitVec 64) (c : Instr) (ok : Bool),
      s.issues p w ∧
      (c, iOp w, ok) ∈ [(.tmov p, 0x20, okR isT isT none' w),
        (.tadd p, 0x21, okR isT isT isT w),
        (.tsub p, 0x22, okR isT isT isT w),
        (.taddi p, 0x23, (isT (fD w) && isT (fA w))),
        (.taddg p, 0x24, (isT (fD w) && isT (fA w) && isG (fB w) && fSC w != 3 && zero w 0 42)),
        (.tmac p, 0x25, (isT (fD w) && isT (fA w) && isG (fB w) && zero w 32 12)),
        (.tcmp p, 0x26, okR none' isT isT w),
        (.tdiff p, 0x27, (isG (fD w) && isT (fA w) && isT (fB w) && fSC w != 3 && zero w 0 42)),
        (.tldl p, 0x28, (isT (fD w) && none' (fA w))),
        (.tldh p, 0x29, okI isT none' w),
        (.tget p, 0x2A, (isG (fD w) && isT (fA w) && zero w 2 46 && iField w 0 2 != 3)),
        (.tput p, 0x2B, (isT (fD w) && isG (fA w) && zero w 2 46 && iField w 0 2 != 3)),
        (.now p, 0x2C, okR isT none' none' w)] ∧
      ok = false :=
  ⟨running runT (iw 0x2C 1 0 0 0), 0, iw 0x2C 1 0 0 0, .now 0, false, by decide +kernel⟩

theorem wit_TimeInstructionsComplete_15 : ∃ (s : State) (p : ThreadId) (w : BitVec 64) (c : Instr) (ok : Bool),
      s.issues p w ∧
      (s.thread p).ip = 0x3FFF ∧
      (c, iOp w, ok) ∈ [(.tmov p, 0x20, okR isT isT none' w),
        (.tadd p, 0x21, okR isT isT isT w),
        (.tsub p, 0x22, okR isT isT isT w),
        (.taddi p, 0x23, (isT (fD w) && isT (fA w))),
        (.taddg p, 0x24, (isT (fD w) && isT (fA w) && isG (fB w) && fSC w != 3 && zero w 0 42)),
        (.tmac p, 0x25, (isT (fD w) && isT (fA w) && isG (fB w) && zero w 32 12)),
        (.tcmp p, 0x26, okR none' isT isT w),
        (.tdiff p, 0x27, (isG (fD w) && isT (fA w) && isT (fB w) && fSC w != 3 && zero w 0 42)),
        (.tldl p, 0x28, (isT (fD w) && none' (fA w))),
        (.tldh p, 0x29, okI isT none' w),
        (.tget p, 0x2A, (isG (fD w) && isT (fA w) && zero w 2 46 && iField w 0 2 != 3)),
        (.tput p, 0x2B, (isT (fD w) && isG (fA w) && zero w 2 46 && iField w 0 2 != 3)),
        (.now p, 0x2C, okR isT none' none' w)] ∧
      ok = true :=
  ⟨{ day.setThread 0 { runT with ip := 0x3FFF } with mem := wrN memDflt [] 0x81FFF8 (leOctets 8 (iw 0x25 8 9 1 5).toNat) }, 0, iw 0x25 8 9 1 5, .tmac 0, true, by decide +kernel⟩

theorem wit_TimeInstructionsComplete_16 : ∃ (s : State) (p : ThreadId) (w : BitVec 64) (c : Instr) (ok : Bool),
      s.issues p w ∧
      s.slot < (s.thread p).nextSlot + 16 ∧
      (s.thread p).ip ≠ 0x3FFF ∧
      (c, iOp w, ok) ∈ [(.tmac p, 0x25, (isT (fD w) && isT (fA w) && isG (fB w) && zero w 32 12)),
        (.tdiff p, 0x27, (isG (fD w) && isT (fA w) && isT (fB w) && fSC w != 3 && zero w 0 42))] ∧
      ok = true :=
  ⟨running { runT with nextSlot := day.slot } (iw 0x25 8 9 1 5), 0, iw 0x25 8 9 1 5, .tmac 0, true, by decide +kernel⟩

/-! Table loads and INFO -/

theorem wit_TablesAndInfoComplete_1 : ∃ (s : State) (p : ThreadId) (w : BitVec 64) (t : Thread) (d : Fin 8) (a : Nat),
      t = s.thread p ∧
      s.issues p w ∧
      iOp w = 0x2D ∧
      iField w 52 4 = d.val ∧
      iField w 14 32 = 0 ∧
      (iField w 47 1 = 0 ∧ iField w 48 4 = 0 ∧ a = iField w 0 14 ∨
        iField w 47 1 = 1 ∧ iField w 48 4 < 8 ∧ a = iField w 0 14 + (t.gr (iField w 48 4)).toNat) ∧
      a ≤ 16383 ∧
      t.nextSlot + 16 ≤ s.slot ∧
      t.ip ≠ 0x3FFF :=
  ⟨running ({ runT with g := #v[0xFFFFFFFF, 1, 2, 3, 4, 5, 6, 7], t := #v[0, 5, 0x100000000000, 0xFFFFFFFFFFFFFFFFFFFF, 9, 0x80000000000000000000, 1, 2] }) (iw 0x2D 3 1 12 0) (0x1234567800000000), 0, iw 0x2D 3 1 12 0, { runT with g := #v[0xFFFFFFFF, 1, 2, 3, 4, 5, 6, 7], t := #v[0, 5, 0x100000000000, 0xFFFFFFFFFFFFFFFFFFFF, 9, 0x80000000000000000000, 1, 2] }, 3, 1, by decide +kernel⟩

theorem wit_TablesAndInfoComplete_2 : ∃ (s : State) (p : ThreadId) (w : BitVec 64) (t : Thread) (a : Nat),
      t = s.thread p ∧
      s.issues p w ∧
      iOp w = 0x2D ∧
      iField w 52 4 < 8 ∧
      iField w 14 32 = 0 ∧
      (iField w 47 1 = 1 ∧ iField w 48 4 < 8 ∧ a = iField w 0 14 + (t.gr (iField w 48 4)).toNat) ∧
      16383 < a :=
  ⟨running ({ runT with g := #v[0xFFFFFFFF, 1, 2, 3, 4, 5, 6, 7], t := #v[0, 5, 0x100000000000, 0xFFFFFFFFFFFFFFFFFFFF, 9, 0x80000000000000000000, 1, 2] }) (iw 0x2D 3 1 8 0x3FFF), 0, iw 0x2D 3 1 8 0x3FFF, { runT with g := #v[0xFFFFFFFF, 1, 2, 3, 4, 5, 6, 7], t := #v[0, 5, 0x100000000000, 0xFFFFFFFFFFFFFFFFFFFF, 9, 0x80000000000000000000, 1, 2] }, 16384, by decide +kernel⟩

theorem wit_TablesAndInfoComplete_3 : ∃ (s : State) (p : ThreadId) (w : BitVec 64) (t : Thread) (d : Fin 8) (a : Nat),
      t = s.thread p ∧
      s.issues p w ∧
      iOp w = 0x2E ∧
      iField w 52 4 = 8 + d.val ∧
      iField w 14 33 = 0 ∧
      (iField w 47 1 = 0 ∧ iField w 48 4 = 0 ∧ a = iField w 0 14 ∨
        iField w 47 1 = 1 ∧ iField w 48 4 < 8 ∧ a = iField w 0 14 + (t.gr (iField w 48 4)).toNat) ∧
      a < 16383 ∧
      t.nextSlot + 16 ≤ s.slot ∧
      t.ip ≠ 0x3FFF :=
  ⟨running ({ runT with g := #v[0xFFFFFFFF, 1, 2, 3, 4, 5, 6, 7], t := #v[0, 5, 0x100000000000, 0xFFFFFFFFFFFFFFFFFFFF, 9, 0x80000000000000000000, 1, 2] }) (iw 0x2E 9 0 0 0) (0x12345), 0, iw 0x2E 9 0 0 0, { runT with g := #v[0xFFFFFFFF, 1, 2, 3, 4, 5, 6, 7], t := #v[0, 5, 0x100000000000, 0xFFFFFFFFFFFFFFFFFFFF, 9, 0x80000000000000000000, 1, 2] }, 1, 0, by decide +kernel⟩

theorem wit_TablesAndInfoComplete_4 : ∃ (s : State) (p : ThreadId) (w : BitVec 64) (t : Thread),
      t = s.thread p ∧
      s.issues p w ∧
      iOp w = 0x2E ∧
      8 ≤ iField w 52 4 ∧
      iField w 14 33 = 0 ∧
      (iField w 47 1 = 0 ∧ iField w 48 4 = 0) ∧
      iField w 0 14 = 16383 :=
  ⟨running ({ runT with g := #v[0xFFFFFFFF, 1, 2, 3, 4, 5, 6, 7], t := #v[0, 5, 0x100000000000, 0xFFFFFFFFFFFFFFFFFFFF, 9, 0x80000000000000000000, 1, 2] }) (iw 0x2E 9 0 0 16383), 0, iw 0x2E 9 0 0 16383, { runT with g := #v[0xFFFFFFFF, 1, 2, 3, 4, 5, 6, 7], t := #v[0, 5, 0x100000000000, 0xFFFFFFFFFFFFFFFFFFFF, 9, 0x80000000000000000000, 1, 2] }, by decide +kernel⟩

theorem wit_TablesAndInfoComplete_5 : ∃ (s : State) (p : ThreadId) (w : BitVec 64) (t : Thread) (d : Fin 8) (r : Word),
      t = s.thread p ∧
      s.issues p w ∧
      iOp w = 0x2F ∧
      iField w 52 4 = d.val ∧
      iField w 4 48 = 0 ∧
      ((iField w 0 4, r.toNat) ∈ [(0, p.val), (1, s.stoker.pos.toNat), (2, if s.pair.side then 1 else 0), (3, s.commit.gen.toNat),
        (4, s.commitStatus.toNat), (5, t.mbox.length % 2 ^ 32), (7, t.lastSrc.toNat), (8, if s.noon.epoch then 1 else 0)]) ∧
      t.ip ≠ 0x3FFF :=
  ⟨running ({ runT with mbox := [⟨1, 2, 3⟩] }) (iw 0x2F 3 0 0 5), 0, iw 0x2F 3 0 0 5, { runT with mbox := [⟨1, 2, 3⟩] }, 3, 1, by decide +kernel⟩

theorem wit_TablesAndInfoComplete_6 : ∃ (s : State) (p : ThreadId) (w : BitVec 64) (t : Thread) (d a : Fin 8) (i : SpokeId),
      t = s.thread p ∧
      s.issues p w ∧
      iOp w = 0x2F ∧
      iField w 52 4 = d.val ∧
      iField w 48 4 = a.val ∧
      iField w 0 48 = 6 ∧
      (t.g.get a).toNat = i.val ∧
      t.ip ≠ 0x3FFF :=
  ⟨running ({ runT with g := #v[0xFFFFFFFF, 1, 2, 3, 4, 5, 6, 7], t := #v[0, 5, 0x100000000000, 0xFFFFFFFFFFFFFFFFFFFF, 9, 0x80000000000000000000, 1, 2] }) (iw 0x2F 3 5 0 6), 0, iw 0x2F 3 5 0 6, { runT with g := #v[0xFFFFFFFF, 1, 2, 3, 4, 5, 6, 7], t := #v[0, 5, 0x100000000000, 0xFFFFFFFFFFFFFFFFFFFF, 9, 0x80000000000000000000, 1, 2] }, 3, 5, 5, by decide +kernel⟩

theorem wit_TablesAndInfoComplete_7 : ∃ (s : State) (p : ThreadId) (w : BitVec 64) (t : Thread) (a : Fin 8),
      t = s.thread p ∧
      s.issues p w ∧
      iOp w = 0x2F ∧
      iField w 52 4 < 8 ∧
      iField w 48 4 = a.val ∧
      iField w 0 48 = 6 ∧
      63 < (t.g.get a).toNat :=
  ⟨running ({ runT with g := #v[0xFFFFFFFF, 1, 2, 3, 4, 5, 6, 7], t := #v[0, 5, 0x100000000000, 0xFFFFFFFFFFFFFFFFFFFF, 9, 0x80000000000000000000, 1, 2] }) (iw 0x2F 3 0 0 6), 0, iw 0x2F 3 0 0 6, { runT with g := #v[0xFFFFFFFF, 1, 2, 3, 4, 5, 6, 7], t := #v[0, 5, 0x100000000000, 0xFFFFFFFFFFFFFFFFFFFF, 9, 0x80000000000000000000, 1, 2] }, 0, by decide +kernel⟩

theorem wit_TablesAndInfoComplete_8 : ∃ (s : State) (p : ThreadId) (w : BitVec 64) (t : Thread) (c : Instr) (a : Nat),
      t = s.thread p ∧
      s.issues p w ∧
      s.slot < t.nextSlot + 16 ∧
      t.ip ≠ 0x3FFF ∧
      (iField w 47 1 = 0 ∧ iField w 48 4 = 0 ∧ a = iField w 0 14 ∨
        iField w 47 1 = 1 ∧ iField w 48 4 < 8 ∧ a = iField w 0 14 + (t.gr (iField w 48 4)).toNat) ∧
      ((c, iOp w) = (.ldd p, 0x2D) ∧ iField w 52 4 < 8 ∧ iField w 14 32 = 0 ∧ a ≤ 16383 ∨
        (c, iOp w) = (.tld p, 0x2E) ∧ 8 ≤ iField w 52 4 ∧ iField w 14 33 = 0 ∧ a < 16383) :=
  ⟨running { runT with nextSlot := day.slot } (iw 0x2D 3 0 0 7), 0, iw 0x2D 3 0 0 7, { runT with nextSlot := day.slot }, .ldd 0, 7, by decide +kernel⟩

theorem wit_TablesAndInfoComplete_9 : ∃ (s : State) (p : ThreadId) (w : BitVec 64) (c : Instr),
      s.issues p w ∧
      ((c, iOp w) = (.ldd p, 0x2D) ∧ (isG (fD w) && okX w && zero w 14 32) = false ∨
        (c, iOp w) = (.tld p, 0x2E) ∧ (isT (fD w) && okX w && zero w 14 33) = false ∨
        (c, iOp w) = (.info p, 0x2F) ∧ (isG (fD w) && zero w 4 44 && iField w 0 4 ≤ 8) = false) :=
  ⟨running runT (iw 0x2F 3 0 0 9), 0, iw 0x2F 3 0 0 9, .info 0, by decide +kernel⟩

/-! Issue instructions with room and lead place what they issue -/

theorem wit_IssueCompletes_1 : ∃ (s : State) (p : ThreadId) (w : BitVec 64) (t : Thread) (i : SpokeId) (d : Fin 8) (ta : DT),
      t = s.thread p ∧
      s.issues p w ∧
      iOp w = 0x40 ∧
      iField w 52 4 = 8 + d.val ∧
      ta = t.t.get d ∧
      (okSpoke w = true ∧ spokeOf t w = i.val) ∧
      (iField w 48 4 = 0 ∧ iField w 26 11 = 0) ∧
      ((s.spoke i).chan.length < 4 ∧ s.pacer.used.get i < 64) ∧
      (ta - s.pacer.mirror.get i).toNat < 2 ^ 56 ∧
      dtLe (dtAdd (slotDt s.slot) 131072) ta = true ∧
      t.ip ≠ 0x3FFF :=
  ⟨running ({ runT with g := #v[5, 1000, 20480, 3, 0, 0, 0, 0], t := #v[40961000000, 0xFFFFFFFFFFFFFFFFFFFF, 0, 0, 0, 0, 0, 40960000000], f := true }) (iw 0x40 8 0 0 0x5A000030D40), 0, iw 0x40 8 0 0 0x5A000030D40, { runT with g := #v[5, 1000, 20480, 3, 0, 0, 0, 0], t := #v[40961000000, 0xFFFFFFFFFFFFFFFFFFFF, 0, 0, 0, 0, 0, 40960000000], f := true }, 5, 0, 40961000000, by decide +kernel⟩

theorem wit_IssueCompletes_2 : ∃ (s : State) (p : ThreadId) (w : BitVec 64) (t : Thread) (i : SpokeId) (d : Fin 8) (ta : DT),
      t = s.thread p ∧
      s.issues p w ∧
      iOp w = 0x40 ∧
      iField w 52 4 = 8 + d.val ∧
      ta = t.t.get d ∧
      (okSpoke w = true ∧ spokeOf t w = i.val) ∧
      (iField w 48 4 = 0 ∧ iField w 26 11 = 0) ∧
      ((s.spoke i).chan.length + 2 ≤ 4 ∧ s.pacer.used.get i < 64) ∧
      2 ^ 56 ≤ (ta - s.pacer.mirror.get i).toNat ∧
      dtLe (dtAdd (slotDt s.slot) 131072) ta = true ∧
      t.ip ≠ 0x3FFF :=
  ⟨running ({ runT with g := #v[5, 1000, 20480, 3, 0, 0, 0, 0], t := #v[40961000000, 0xFFFFFFFFFFFFFFFFFFFF, 0, 0, 0, 0, 0, 40960000000], f := true }) (iw 0x40 9 0 0 0x5A000030D40), 0, iw 0x40 9 0 0 0x5A000030D40, { runT with g := #v[5, 1000, 20480, 3, 0, 0, 0, 0], t := #v[40961000000, 0xFFFFFFFFFFFFFFFFFFFF, 0, 0, 0, 0, 0, 40960000000], f := true }, 5, 1, 0xFFFFFFFFFFFFFFFFFFFF, by decide +kernel⟩

theorem wit_IssueCompletes_3 : ∃ (s : State) (p : ThreadId) (w : BitVec 64) (t : Thread) (i : SpokeId) (d : Fin 8) (ta : DT),
      t = s.thread p ∧
      s.issues p w ∧
      iOp w = 0x41 ∧
      iField w 52 4 = 8 + d.val ∧
      ta = t.t.get d ∧
      (okSpoke w = true ∧ spokeOf t w = i.val) ∧
      (iField w 48 4 = 0 ∧ iField w 38 2 < 3 ∧ iField w 0 37 = 0) ∧
      ((s.spoke i).chan.length < 4 ∧ s.pacer.used.get i < 64) ∧
      (ta - s.pacer.mirror.get i).toNat < 2 ^ 56 ∧
      dtLe (dtAdd (slotDt s.slot) 131072) ta = true ∧
      t.ip ≠ 0x3FFF :=
  ⟨running ({ runT with g := #v[5, 1000, 20480, 3, 0, 0, 0, 0], t := #v[40961000000, 0xFFFFFFFFFFFFFFFFFFFF, 0, 0, 0, 0, 0, 40960000000], f := true }) (iw 0x41 8 0 0 0x5A000000000), 0, iw 0x41 8 0 0 0x5A000000000, { runT with g := #v[5, 1000, 20480, 3, 0, 0, 0, 0], t := #v[40961000000, 0xFFFFFFFFFFFFFFFFFFFF, 0, 0, 0, 0, 0, 40960000000], f := true }, 5, 0, 40961000000, by decide +kernel⟩

theorem wit_IssueCompletes_4 : ∃ (s : State) (p : ThreadId) (w : BitVec 64) (t : Thread) (i : SpokeId) (d : Fin 8) (ta : DT) (raw : BitVec 128),
      t = s.thread p ∧
      s.issues p w ∧
      iOp w = 0x42 ∧
      iField w 52 4 = 8 + d.val ∧
      ta = t.t.get d ∧
      (okSpoke w = true ∧ spokeOf t w = i.val) ∧
      (iField w 39 1 = 0 ∧ iField w 48 4 = 0 ∧ iField w 14 25 = 0) ∧
      t.nextSlot + 16 ≤ s.slot ∧
      raw = s.template p (iField w 0 14) ∧
      (iField w 0 14 ≠ 16383 ∧ dKind raw ≠ 0 ∧ dStart raw = 0) ∧
      ((s.spoke i).chan.length < 4 ∧ s.pacer.used.get i < 64) ∧
      (ta - s.pacer.mirror.get i).toNat < 2 ^ 56 ∧
      dtLe (dtAdd (slotDt s.slot) 131072) ta = true ∧
      t.ip ≠ 0x3FFF :=
  ⟨running ({ runT with g := #v[5, 1000, 20480, 3, 0, 0, 0, 0], t := #v[40961000000, 0xFFFFFFFFFFFFFFFFFFFF, 0, 0, 0, 0, 0, 40960000000], f := true }) (iw 0x42 8 0 0 0x50000000001) (4), 0, iw 0x42 8 0 0 0x50000000001, { runT with g := #v[5, 1000, 20480, 3, 0, 0, 0, 0], t := #v[40961000000, 0xFFFFFFFFFFFFFFFFFFFF, 0, 0, 0, 0, 0, 40960000000], f := true }, 5, 0, 40961000000, 4, by decide +kernel⟩

theorem wit_IssueCompletes_5 : ∃ (s : State) (p : ThreadId) (w : BitVec 64) (t : Thread) (i : SpokeId) (d : Fin 8) (ta : DT) (raw : BitVec 128),
      t = s.thread p ∧
      s.issues p w ∧
      iOp w = 0x42 ∧
      iField w 52 4 = 8 + d.val ∧
      ta = t.t.get d ∧
      (okSpoke w = true ∧ spokeOf t w = i.val) ∧
      (iField w 39 1 = 1 ∧ iField w 48 4 < 8 ∧ iField w 14 25 = 0) ∧
      t.nextSlot + 16 ≤ s.slot ∧
      raw = s.template p (iField w 0 14) ∧
      (iField w 0 14 ≠ 16383 ∧ dKind raw ≠ 0 ∧ dStart raw = 0) ∧
      (t.gr (iField w 48 4)).toNat < 2 ^ 26 ∧
      ((s.spoke i).chan.length < 4 ∧ s.pacer.used.get i < 64) ∧
      (ta - s.pacer.mirror.get i).toNat < 2 ^ 56 ∧
      dtLe (dtAdd (slotDt s.slot) 131072) ta = true ∧
      t.ip ≠ 0x3FFF :=
  ⟨running ({ runT with g := #v[5, 1000, 20480, 3, 0, 0, 0, 0], t := #v[40961000000, 0xFFFFFFFFFFFFFFFFFFFF, 0, 0, 0, 0, 0, 40960000000], f := true }) (iw 0x42 8 1 0 0x58000000001) (1), 0, iw 0x42 8 1 0 0x58000000001, { runT with g := #v[5, 1000, 20480, 3, 0, 0, 0, 0], t := #v[40961000000, 0xFFFFFFFFFFFFFFFFFFFF, 0, 0, 0, 0, 0, 40960000000], f := true }, 5, 0, 40961000000, 1, by decide +kernel⟩

theorem wit_IssueCompletes_6 : ∃ (s : State) (p : ThreadId) (w : BitVec 64) (t : Thread) (i : SpokeId) (d : Fin 8) (ta : DT),
      t = s.thread p ∧
      s.issues p w ∧
      iOp w = 0x43 ∧
      iField w 52 4 = 8 + d.val ∧
      ta = t.t.get d ∧
      (okSpoke w = true ∧ spokeOf t w = i.val) ∧
      (iField w 48 4 = 0 ∧ iField w 0 40 = 0) ∧
      (s.spoke i).chan.length < 4 ∧
      t.ip ≠ 0x3FFF :=
  ⟨running ({ runT with g := #v[5, 1000, 20480, 3, 0, 0, 0, 0], t := #v[40961000000, 0xFFFFFFFFFFFFFFFFFFFF, 0, 0, 0, 0, 0, 40960000000], f := true }) (iw 0x43 8 0 0 0x50000000000), 0, iw 0x43 8 0 0 0x50000000000, { runT with g := #v[5, 1000, 20480, 3, 0, 0, 0, 0], t := #v[40961000000, 0xFFFFFFFFFFFFFFFFFFFF, 0, 0, 0, 0, 0, 40960000000], f := true }, 5, 0, 40961000000, by decide +kernel⟩

theorem wit_IssueCompletes_7 : ∃ (s : State) (p : ThreadId) (w : BitVec 64) (t : Thread) (i : SpokeId) (d : Fin 8) (ta : DT),
      t = s.thread p ∧
      s.issues p w ∧
      iOp w = 0x44 ∧
      iField w 52 4 = 8 + d.val ∧
      ta = t.t.get d ∧
      (okSpoke w = true ∧ spokeOf t w = i.val) ∧
      (iField w 48 4 = 0 ∧ iField w 0 40 = 0) ∧
      (s.clocked = true ∧ (s.spoke i).chan = []) ∧
      dtLe (dtAdd s.dt 65536) ta = true ∧
      dtLe (dtAdd (slotDt s.slot) 131072) ta = true ∧
      t.ip ≠ 0x3FFF :=
  ⟨running ({ runT with g := #v[5, 1000, 20480, 3, 0, 0, 0, 0], t := #v[40961000000, 0xFFFFFFFFFFFFFFFFFFFF, 0, 0, 0, 0, 0, 40960000000], f := true }) (iw 0x44 8 0 0 0x50000000000), 0, iw 0x44 8 0 0 0x50000000000, { runT with g := #v[5, 1000, 20480, 3, 0, 0, 0, 0], t := #v[40961000000, 0xFFFFFFFFFFFFFFFFFFFF, 0, 0, 0, 0, 0, 40960000000], f := true }, 5, 0, 40961000000, by decide +kernel⟩

theorem wit_IssueCompletes_8 : ∃ (s : State) (p : ThreadId) (w : BitVec 64) (t : Thread) (i : SpokeId) (d : Fin 8) (ta : DT),
      t = s.thread p ∧
      s.issues p w ∧
      iOp w = 0x44 ∧
      iField w 52 4 = 8 + d.val ∧
      ta = t.t.get d ∧
      (okSpoke w = true ∧ spokeOf t w = i.val) ∧
      (iField w 48 4 = 0 ∧ iField w 0 40 = 0) ∧
      ((s.spoke i).chan.length < 4 ∧ (s.spoke i).chan ≠ []) ∧
      dtLe (dtAdd (slotDt s.slot) 131072) ta = true ∧
      t.ip ≠ 0x3FFF :=
  ⟨(running ({ runT with g := #v[5, 1000, 20480, 3, 0, 0, 0, 0], t := #v[40961000000, 0xFFFFFFFFFFFFFFFFFFFF, 0, 0, 0, 0, 0, 40960000000], f := true }) (iw 0x44 8 0 0 0x50000000000)).setSpoke 5 { Spoke.reset with chan := [.cancel 50000000000 1] }, 0, iw 0x44 8 0 0 0x50000000000, { runT with g := #v[5, 1000, 20480, 3, 0, 0, 0, 0], t := #v[40961000000, 0xFFFFFFFFFFFFFFFFFFFF, 0, 0, 0, 0, 0, 40960000000], f := true }, 5, 0, 40961000000, by decide +kernel⟩

theorem wit_IssueCompletes_9 : ∃ (s : State) (p : ThreadId) (w : BitVec 64) (t : Thread) (v : EngineId) (d : Fin 8) (ta : DT) (n : Nat),
      t = s.thread p ∧
      s.issues p w ∧
      iOp w = 0x50 ∧
      iField w 52 4 = 8 + d.val ∧
      ta = t.t.get d ∧
      (iField w 43 4 = 0 ∧ iField w 32 8 = 0 ∧ iField w 40 3 = v.val) ∧
      (iField w 47 1 = 1 ∧ iField w 48 4 = 0 ∧ n = iField w 0 32 ∨
        iField w 47 1 = 0 ∧ iField w 48 4 < 8 ∧ iField w 0 32 = 0 ∧ n = (t.gr (iField w 48 4)).toNat) ∧
      n ≤ 1023 ∧
      (s.engine v).jumpsIn.length < 4 ∧
      dtLe (dtAdd (slotDt s.slot) 409600) ta = true ∧
      t.ip ≠ 0x3FFF :=
  ⟨running ({ runT with g := #v[5, 1000, 20480, 3, 0, 0, 0, 0], t := #v[40961000000, 0xFFFFFFFFFFFFFFFFFFFF, 0, 0, 0, 0, 0, 40960000000], f := true }) (iw 0x50 8 0 8 0x203 - 0x200 + 0x20000000000), 0, iw 0x50 8 0 8 0x203 - 0x200 + 0x20000000000, { runT with g := #v[5, 1000, 20480, 3, 0, 0, 0, 0], t := #v[40961000000, 0xFFFFFFFFFFFFFFFFFFFF, 0, 0, 0, 0, 0, 40960000000], f := true }, 2, 0, 40961000000, 3, by decide +kernel⟩

theorem wit_IssueCompletes_10 : ∃ (s : State) (p : ThreadId) (w : BitVec 64) (t : Thread) (v : EngineId) (d : Fin 8) (ta : DT) (n : Nat),
      t = s.thread p ∧
      s.issues p w ∧
      iOp w = 0x52 ∧
      iField w 52 4 = 8 + d.val ∧
      ta = t.t.get d ∧
      (iField w 43 4 = 0 ∧ iField w 32 8 = 0 ∧ iField w 40 3 = v.val) ∧
      (iField w 47 1 = 1 ∧ iField w 48 4 = 0 ∧ n = iField w 0 32 ∨
        iField w 47 1 = 0 ∧ iField w 48 4 < 8 ∧ iField w 0 32 = 0 ∧ n = (t.gr (iField w 48 4)).toNat) ∧
      (n = 0 ∨ 20480 ≤ n) ∧
      (s.engine v).jumpsIn.length < 4 ∧
      dtLe (dtAdd (slotDt s.slot) 409600) ta = true ∧
      t.ip ≠ 0x3FFF :=
  ⟨running ({ runT with g := #v[5, 1000, 20480, 3, 0, 0, 0, 0], t := #v[40961000000, 0xFFFFFFFFFFFFFFFFFFFF, 0, 0, 0, 0, 0, 40960000000], f := true }) (iw 0x52 8 2 0 0x20000000000), 0, iw 0x52 8 2 0 0x20000000000, { runT with g := #v[5, 1000, 20480, 3, 0, 0, 0, 0], t := #v[40961000000, 0xFFFFFFFFFFFFFFFFFFFF, 0, 0, 0, 0, 0, 40960000000], f := true }, 2, 0, 40961000000, 20480, by decide +kernel⟩

theorem wit_IssueCompletes_11 : ∃ (s : State) (p : ThreadId) (w : BitVec 64) (t : Thread) (v : EngineId) (n : Nat),
      t = s.thread p ∧
      s.issues p w ∧
      iOp w = 0x51 ∧
      iField w 52 4 = 0 ∧
      (iField w 43 4 = 0 ∧ iField w 32 8 = 0 ∧ iField w 40 3 = v.val) ∧
      (iField w 47 1 = 1 ∧ iField w 48 4 = 0 ∧ n = iField w 0 32 ∨
        iField w 47 1 = 0 ∧ iField w 48 4 < 8 ∧ iField w 0 32 = 0 ∧ n = (t.gr (iField w 48 4)).toNat) ∧
      n ≤ 1023 ∧
      (s.engine v).jumpsIn.length < 4 ∧
      t.ip ≠ 0x3FFF :=
  ⟨running ({ runT with g := #v[5, 1000, 20480, 3, 0, 0, 0, 0], t := #v[40961000000, 0xFFFFFFFFFFFFFFFFFFFF, 0, 0, 0, 0, 0, 40960000000], f := true }) (iw 0x51 0 1 0 0x20000000000), 0, iw 0x51 0 1 0 0x20000000000, { runT with g := #v[5, 1000, 20480, 3, 0, 0, 0, 0], t := #v[40961000000, 0xFFFFFFFFFFFFFFFFFFFF, 0, 0, 0, 0, 0, 40960000000], f := true }, 2, 1000, by decide +kernel⟩

theorem wit_IssueCompletes_12 : ∃ (s : State) (p : ThreadId) (w : BitVec 64) (t : Thread) (v : EngineId) (d : Fin 8) (ta : DT),
      t = s.thread p ∧
      s.issues p w ∧
      iOp w = 0x53 ∧
      iField w 52 4 = 8 + d.val ∧
      ta = t.t.get d ∧
      (iField w 43 4 = 0 ∧ iField w 32 8 = 0 ∧ iField w 40 3 = v.val) ∧
      (iField w 47 5 = 0 ∧ iField w 0 32 = 0) ∧
      (s.engine v).jumpsIn.length < 4 ∧
      dtLe (dtAdd (slotDt s.slot) 409600) ta = true ∧
      t.ip ≠ 0x3FFF :=
  ⟨running ({ runT with g := #v[5, 1000, 20480, 3, 0, 0, 0, 0], t := #v[40961000000, 0xFFFFFFFFFFFFFFFFFFFF, 0, 0, 0, 0, 0, 40960000000], f := true }) (iw 0x53 8 0 0 0x20000000000), 0, iw 0x53 8 0 0 0x20000000000, { runT with g := #v[5, 1000, 20480, 3, 0, 0, 0, 0], t := #v[40961000000, 0xFFFFFFFFFFFFFFFFFFFF, 0, 0, 0, 0, 0, 40960000000], f := true }, 2, 0, 40961000000, by decide +kernel⟩

theorem wit_IssueCompletes_13 : ∃ (s : State) (p : ThreadId) (w : BitVec 64) (t : Thread) (a : AxisId) (d : Fin 8),
      t = s.thread p ∧
      s.issues p w ∧
      iOp w = 0x54 ∧
      iField w 52 4 = 8 + d.val ∧
      (iField w 43 9 = 0 ∧ iField w 0 40 = 0 ∧ iField w 40 3 = a.val) ∧
      (s.axis a).tgts.length < 256 ∧
      t.ip ≠ 0x3FFF :=
  ⟨running ({ runT with g := #v[5, 1000, 20480, 3, 0, 0, 0, 0], t := #v[40961000000, 0xFFFFFFFFFFFFFFFFFFFF, 0, 0, 0, 0, 0, 40960000000], f := true }) (iw 0x54 9 0 0 0x30000000000), 0, iw 0x54 9 0 0 0x30000000000, { runT with g := #v[5, 1000, 20480, 3, 0, 0, 0, 0], t := #v[40961000000, 0xFFFFFFFFFFFFFFFFFFFF, 0, 0, 0, 0, 0, 40960000000], f := true }, 3, 1, by decide +kernel⟩

theorem wit_IssueCompletes_14 : ∃ (s : State) (p : ThreadId) (w : BitVec 64) (t : Thread) (a : AxisId),
      t = s.thread p ∧
      s.issues p w ∧
      iOp w = 0x54 ∧
      8 ≤ iField w 52 4 ∧
      (iField w 43 9 = 0 ∧ iField w 0 40 = 0 ∧ iField w 40 3 = a.val) ∧
      256 ≤ (s.axis a).tgts.length ∧
      t.ip ≠ 0x3FFF :=
  ⟨(running ({ runT with g := #v[5, 1000, 20480, 3, 0, 0, 0, 0], t := #v[40961000000, 0xFFFFFFFFFFFFFFFFFFFF, 0, 0, 0, 0, 0, 40960000000], f := true }) (iw 0x54 9 0 0 0x30000000000)).setAxis 3 { Axis.reset with tgts := List.replicate 256 ⟨0, 5, .posted⟩ }, 0, iw 0x54 9 0 0 0x30000000000, { runT with g := #v[5, 1000, 20480, 3, 0, 0, 0, 0], t := #v[40961000000, 0xFFFFFFFFFFFFFFFFFFFF, 0, 0, 0, 0, 0, 40960000000], f := true }, 3, by decide +kernel⟩

theorem wit_IssueCompletes_15 : ∃ (s : State) (p : ThreadId) (w : BitVec 64) (t : Thread) (c : Instr),
      t = s.thread p ∧
      s.issues p w ∧
      (8 ≤ iField w 52 4 ∧ iField w 48 4 = 0 ∧ okSpoke w = true) ∧
      ((c, iOp w) = (.pulse p, 0x40) ∧ iField w 26 11 = 0 ∨
        (c, iOp w) = (.level p, 0x41) ∧ iField w 38 2 ≠ 3 ∧ iField w 0 37 = 0 ∨
        (c, iOp w) = (.emit p, 0x42) ∧ iField w 39 1 = 0 ∧ iField w 14 25 = 0 ∨
        (c, iOp w) ∈ [(.anchor p, 0x43), (.cancel p, 0x44)] ∧ iField w 0 40 = 0) ∧
      63 < spokeOf t w :=
  ⟨running ({ runT with g := #v[5, 64, 20480, 3, 1024, 0, 0x4000000, 0], t := #v[40961000000, 0xFFFFFFFFFFFFFFFFFFFF, 0, 0, 0, 0, 0, 40960000000] }) (iw 0x44 8 0 8 0x10000000000), 0, iw 0x44 8 0 8 0x10000000000, { runT with g := #v[5, 64, 20480, 3, 1024, 0, 0x4000000, 0], t := #v[40961000000, 0xFFFFFFFFFFFFFFFFFFFF, 0, 0, 0, 0, 0, 40960000000] }, .cancel 0, by decide +kernel⟩

theorem wit_IssueCompletes_16a : ∃ (s : State) (p : ThreadId) (w : BitVec 64) (t : Thread) (i : SpokeId) (raw : BitVec 128) (cause : Nat),
      t = s.thread p ∧
      s.issues p w ∧
      iOp w = 0x42 ∧
      8 ≤ iField w 52 4 ∧
      (okSpoke w = true ∧ spokeOf t w = i.val) ∧
      (iField w 14 25 = 0 ∧ (if iField w 39 1 = 1 then iField w 48 4 < 8 else iField w 48 4 = 0)) ∧
      t.nextSlot + 16 ≤ s.slot ∧
      raw = s.template p (iField w 0 14) ∧
      (iField w 0 14 = 16383 ∧ cause = 2 ∨ iField w 0 14 ≠ 16383 ∧ (dKind raw = 0 ∨ dStart raw ≠ 0) ∧ cause = 5 ∨
        iField w 0 14 ≠ 16383 ∧ dKind raw ≠ 0 ∧ dStart raw = 0 ∧ iField w 39 1 = 1 ∧
        2 ^ 26 ≤ (t.gr (iField w 48 4)).toNat ∧ cause = 4) :=
  ⟨running ({ runT with g := #v[5, 64, 20480, 3, 1024, 0, 0x4000000, 0], t := #v[40961000000, 0xFFFFFFFFFFFFFFFFFFFF, 0, 0, 0, 0, 0, 40960000000] }) (iw 0x42 8 0 0 0x50000003FFF), 0, iw 0x42 8 0 0 0x50000003FFF, { runT with g := #v[5, 64, 20480, 3, 1024, 0, 0x4000000, 0], t := #v[40961000000, 0xFFFFFFFFFFFFFFFFFFFF, 0, 0, 0, 0, 0, 40960000000] }, 5, 0, 2, by decide +kernel⟩

theorem wit_IssueCompletes_16b : ∃ (s : State) (p : ThreadId) (w : BitVec 64) (t : Thread) (i : SpokeId) (raw : BitVec 128) (cause : Nat),
      t = s.thread p ∧
      s.issues p w ∧
      iOp w = 0x42 ∧
      8 ≤ iField w 52 4 ∧
      (okSpoke w = true ∧ spokeOf t w = i.val) ∧
      (iField w 14 25 = 0 ∧ (if iField w 39 1 = 1 then iField w 48 4 < 8 else iField w 48 4 = 0)) ∧
      t.nextSlot + 16 ≤ s.slot ∧
      raw = s.template p (iField w 0 14) ∧
      (iField w 0 14 = 16383 ∧ cause = 2 ∨ iField w 0 14 ≠ 16383 ∧ (dKind raw = 0 ∨ dStart raw ≠ 0) ∧ cause = 5 ∨
        iField w 0 14 ≠ 16383 ∧ dKind raw ≠ 0 ∧ dStart raw = 0 ∧ iField w 39 1 = 1 ∧
        2 ^ 26 ≤ (t.gr (iField w 48 4)).toNat ∧ cause = 4) :=
  ⟨running ({ runT with g := #v[5, 64, 20480, 3, 1024, 0, 0x4000000, 0], t := #v[40961000000, 0xFFFFFFFFFFFFFFFFFFFF, 0, 0, 0, 0, 0, 40960000000] }) (iw 0x42 8 0 0 0x50000000002), 0, iw 0x42 8 0 0 0x50000000002, { runT with g := #v[5, 64, 20480, 3, 1024, 0, 0x4000000, 0], t := #v[40961000000, 0xFFFFFFFFFFFFFFFFFFFF, 0, 0, 0, 0, 0, 40960000000] }, 5, 0, 5, by decide +kernel⟩

theorem wit_IssueCompletes_16c : ∃ (s : State) (p : ThreadId) (w : BitVec 64) (t : Thread) (i : SpokeId) (raw : BitVec 128) (cause : Nat),
      t = s.thread p ∧
      s.issues p w ∧
      iOp w = 0x42 ∧
      8 ≤ iField w 52 4 ∧
      (okSpoke w = true ∧ spokeOf t w = i.val) ∧
      (iField w 14 25 = 0 ∧ (if iField w 39 1 = 1 then iField w 48 4 < 8 else iField w 48 4 = 0)) ∧
      t.nextSlot + 16 ≤ s.slot ∧
      raw = s.template p (iField w 0 14) ∧
      (iField w 0 14 = 16383 ∧ cause = 2 ∨ iField w 0 14 ≠ 16383 ∧ (dKind raw = 0 ∨ dStart raw ≠ 0) ∧ cause = 5 ∨
        iField w 0 14 ≠ 16383 ∧ dKind raw ≠ 0 ∧ dStart raw = 0 ∧ iField w 39 1 = 1 ∧
        2 ^ 26 ≤ (t.gr (iField w 48 4)).toNat ∧ cause = 4) :=
  ⟨running ({ runT with g := #v[5, 64, 20480, 3, 1024, 0, 0x4000000, 0], t := #v[40961000000, 0xFFFFFFFFFFFFFFFFFFFF, 0, 0, 0, 0, 0, 40960000000] }) (iw 0x42 8 6 0 0x58000000001) (1), 0, iw 0x42 8 6 0 0x58000000001, { runT with g := #v[5, 64, 20480, 3, 1024, 0, 0x4000000, 0], t := #v[40961000000, 0xFFFFFFFFFFFFFFFFFFFF, 0, 0, 0, 0, 0, 40960000000] }, 5, 1, 4, by decide +kernel⟩

theorem wit_IssueCompletes_17a : ∃ (s : State) (p : ThreadId) (w : BitVec 64) (t : Thread) (n : Nat),
      t = s.thread p ∧
      s.issues p w ∧
      (iField w 43 4 = 0 ∧ iField w 32 8 = 0 ∧ iField w 40 3 < 4) ∧
      (iField w 47 1 = 1 ∧ iField w 48 4 = 0 ∧ n = iField w 0 32 ∨
        iField w 47 1 = 0 ∧ iField w 48 4 < 8 ∧ iField w 0 32 = 0 ∧ n = (t.gr (iField w 48 4)).toNat) :=
  ⟨running ({ runT with g := #v[5, 64, 20480, 3, 1024, 0, 0x4000000, 0], t := #v[40961000000, 0xFFFFFFFFFFFFFFFFFFFF, 0, 0, 0, 0, 0, 40960000000] }) (iw 0x50 8 4 0 0x20000000000), 0, iw 0x50 8 4 0 0x20000000000, { runT with g := #v[5, 64, 20480, 3, 1024, 0, 0x4000000, 0], t := #v[40961000000, 0xFFFFFFFFFFFFFFFFFFFF, 0, 0, 0, 0, 0, 40960000000] }, 1024, by decide +kernel⟩

theorem wit_IssueCompletes_17b : ∃ (s : State) (p : ThreadId) (w : BitVec 64) (t : Thread) (n : Nat),
      t = s.thread p ∧
      s.issues p w ∧
      (iField w 43 4 = 0 ∧ iField w 32 8 = 0 ∧ iField w 40 3 < 4) ∧
      (iField w 47 1 = 1 ∧ iField w 48 4 = 0 ∧ n = iField w 0 32 ∨
        iField w 47 1 = 0 ∧ iField w 48 4 < 8 ∧ iField w 0 32 = 0 ∧ n = (t.gr (iField w 48 4)).toNat) :=
  ⟨running ({ runT with g := #v[5, 64, 20480, 3, 1024, 0, 0x4000000, 0], t := #v[40961000000, 0xFFFFFFFFFFFFFFFFFFFF, 0, 0, 0, 0, 0, 40960000000] }) (iw 0x52 8 1 0 0x20000000000), 0, iw 0x52 8 1 0 0x20000000000, { runT with g := #v[5, 64, 20480, 3, 1024, 0, 0x4000000, 0], t := #v[40961000000, 0xFFFFFFFFFFFFFFFFFFFF, 0, 0, 0, 0, 0, 40960000000] }, 64, by decide +kernel⟩

/-! Issues without room wait, and late ones fail -/

theorem wit_IssueHeldOrLate_1 : ∃ (s : State) (p : ThreadId) (w : BitVec 64) (t : Thread) (i : SpokeId),
      t = s.thread p ∧
      s.issues p w ∧
      iOp w = 0x40 ∧
      8 ≤ iField w 52 4 ∧
      (okSpoke w = true ∧ spokeOf t w = i.val) ∧
      (iField w 48 4 = 0 ∧ iField w 26 11 = 0) ∧
      (4 ≤ (s.spoke i).chan.length ∨ 64 ≤ s.pacer.used.get i) ∧
      t.ip ≠ 0x3FFF :=
  ⟨(running ({ runT with g := #v[5, 1000, 20480, 3, 0, 0, 0, 0], t := #v[40961000000, 0xFFFFFFFFFFFFFFFFFFFF, 0, 0, 0, 0, 0, 40960000000], f := true }) (iw 0x40 15 0 0 0x50000000000)).setSpoke 5 { Spoke.reset with chan := List.replicate 4 (.cancel 0 0) }, 0, iw 0x40 15 0 0 0x50000000000, { runT with g := #v[5, 1000, 20480, 3, 0, 0, 0, 0], t := #v[40961000000, 0xFFFFFFFFFFFFFFFFFFFF, 0, 0, 0, 0, 0, 40960000000], f := true }, 5, by decide +kernel⟩

theorem wit_IssueHeldOrLate_2 : ∃ (s : State) (p : ThreadId) (w : BitVec 64) (t : Thread) (i : SpokeId) (d : Fin 8) (ta : DT),
      t = s.thread p ∧
      s.issues p w ∧
      iOp w = 0x40 ∧
      iField w 52 4 = 8 + d.val ∧
      ta = t.t.get d ∧
      (okSpoke w = true ∧ spokeOf t w = i.val) ∧
      (iField w 48 4 = 0 ∧ iField w 26 11 = 0) ∧
      ((s.spoke i).chan.length + 2 ≤ 4 ∧ s.pacer.used.get i < 64) ∧
      dtLe (dtAdd (slotDt s.slot) 131072) ta = false ∧
      t.ip ≠ 0x3FFF :=
  ⟨running ({ runT with g := #v[5, 1000, 20480, 3, 0, 0, 0, 0], t := #v[40961000000, 0xFFFFFFFFFFFFFFFFFFFF, 0, 0, 0, 0, 0, 40960000000], f := true }) (iw 0x40 15 0 0 0x50000000000), 0, iw 0x40 15 0 0 0x50000000000, { runT with g := #v[5, 1000, 20480, 3, 0, 0, 0, 0], t := #v[40961000000, 0xFFFFFFFFFFFFFFFFFFFF, 0, 0, 0, 0, 0, 40960000000], f := true }, 5, 7, 40960000000, by decide +kernel⟩

theorem wit_IssueHeldOrLate_3 : ∃ (s : State) (p : ThreadId) (w : BitVec 64) (t : Thread) (v : EngineId) (d : Fin 8) (ta : DT),
      t = s.thread p ∧
      s.issues p w ∧
      iOp w = 0x53 ∧
      iField w 52 4 = 8 + d.val ∧
      ta = t.t.get d ∧
      (iField w 43 4 = 0 ∧ iField w 32 8 = 0 ∧ iField w 40 3 = v.val) ∧
      (iField w 47 5 = 0 ∧ iField w 0 32 = 0) ∧
      (s.engine v).jumpsIn.length < 4 ∧
      dtLe (dtAdd (slotDt s.slot) 409600) ta = false ∧
      t.ip ≠ 0x3FFF :=
  ⟨running ({ runT with g := #v[5, 1000, 20480, 3, 0, 0, 0, 0], t := #v[40961000000, 0xFFFFFFFFFFFFFFFFFFFF, 0, 0, 0, 0, 0, 40960000000], f := true }) (iw 0x53 15 0 0 0x20000000000), 0, iw 0x53 15 0 0 0x20000000000, { runT with g := #v[5, 1000, 20480, 3, 0, 0, 0, 0], t := #v[40961000000, 0xFFFFFFFFFFFFFFFFFFFF, 0, 0, 0, 0, 0, 40960000000], f := true }, 2, 7, 40960000000, by decide +kernel⟩

theorem wit_IssueHeldOrLate_4 : ∃ (s : State) (p : ThreadId) (v : EngineId) (ta : DT) (t : Thread),
      t = s.thread p ∧
      s.mayUse p .hold = true ∧
      t.waitOn = .issue (.vstop v ta) ∧
      (s.engine v).jumpsIn.length < 4 ∧
      dtLe (dtAdd (slotDt s.slot) 409600) ta = true :=
  ⟨running { runT with state := .hold, waitOn := .issue (.vstop 2 40961000000) } 0, 0, 2, 40961000000, { runT with state := .hold, waitOn := .issue (.vstop 2 40961000000) }, by decide +kernel⟩

theorem wit_IssueHeldOrLate_5 : ∃ (s : State) (p : ThreadId) (m : Issue),
      s.mayUse p .hold = true ∧
      (s.thread p).waitOn = .issue m ∧
      (s.closed m = false ∧ s.hasRoom m = false) :=
  ⟨{ running { runT with state := .hold, waitOn := .issue (.anchor 2 40961000000) } 0 with spokes := State.reset.spokes.set 2 { Spoke.reset with chan := List.replicate 4 (.cancel 0 0) } }, 0, .anchor 2 40961000000, by decide +kernel⟩

theorem wit_IssueHeldOrLate_6 : ∃ (s : State) (p : ThreadId) (m : Issue),
      s.mayUse p .hold = true ∧
      (s.thread p).waitOn = .issue m ∧
      (s.closed m = false ∧ s.hasRoom m = true ∧ s.meetsLead m = true) :=
  ⟨running { runT with state := .hold, waitOn := .issue (.trig 0x4800 40961000000 7) } 0 |>.setPort 2 upPort, 0, .trig 0x4800 40961000000 7, by decide +kernel⟩

theorem wit_IssueHeldOrLate_7 : ∃ (s : State) (p : ThreadId) (m : Issue) (ta : DT) (lead : Nat),
      s.mayUse p .hold = true ∧
      (s.thread p).waitOn = .issue m ∧
      m.lead = some (ta, lead) ∧
      (s.closed m = false ∧ s.hasRoom m = true ∧ s.meetsLead m = false) :=
  ⟨running { runT with state := .hold, waitOn := .issue (.vstop 2 40960000000) } 0, 0, .vstop 2 40960000000, 40960000000, 409600, by decide +kernel⟩

theorem wit_IssueHeldOrLate_8 : ∃ (s : State) (p : ThreadId) (m : Issue),
      s.mayUse p .hold = true ∧
      (s.thread p).waitOn = .issue m ∧
      s.closed m = true :=
  ⟨running { runT with state := .hold, waitOn := .issue (.trig 0x4800 40961000000 7) } 0, 0, .trig 0x4800 40961000000 7, by decide +kernel⟩

/-! Waits end at once or put their thread in WAIT -/

theorem wit_WaitInstructionsComplete_1 : ∃ (s : State) (p : ThreadId) (w : BitVec 64) (t : Thread) (d : Fin 8),
      t = s.thread p ∧
      s.issues p w ∧
      iOp w = 0x60 ∧
      iField w 52 4 = 8 + d.val ∧
      iField w 0 52 = 0 ∧
      dtLe (t.t.get d) (slotDt s.slot) = true ∧
      t.ip ≠ 0x3FFF :=
  ⟨running ({ runT with g := #v[5, 1000, 20480, 3, 0, 0, 0, 0], t := #v[40961000000, 0xFFFFFFFFFFFFFFFFFFFF, 0, 0, 0, 0, 0, 40960000000], f := true }) (iw 0x60 15 0 0 0), 0, iw 0x60 15 0 0 0, { runT with g := #v[5, 1000, 20480, 3, 0, 0, 0, 0], t := #v[40961000000, 0xFFFFFFFFFFFFFFFFFFFF, 0, 0, 0, 0, 0, 40960000000], f := true }, 7, by decide +kernel⟩

theorem wit_WaitInstructionsComplete_2 : ∃ (s : State) (p : ThreadId) (w : BitVec 64) (t : Thread) (d : Fin 8),
      t = s.thread p ∧
      s.issues p w ∧
      iOp w = 0x60 ∧
      iField w 52 4 = 8 + d.val ∧
      iField w 0 52 = 0 ∧
      dtLe (t.t.get d) (slotDt s.slot) = false ∧
      t.ip ≠ 0x3FFF :=
  ⟨running ({ runT with g := #v[5, 1000, 20480, 3, 0, 0, 0, 0], t := #v[40961000000, 0xFFFFFFFFFFFFFFFFFFFF, 0, 0, 0, 0, 0, 40960000000], f := true }) (iw 0x60 8 0 0 0), 0, iw 0x60 8 0 0 0, { runT with g := #v[5, 1000, 20480, 3, 0, 0, 0, 0], t := #v[40961000000, 0xFFFFFFFFFFFFFFFFFFFF, 0, 0, 0, 0, 0, 40960000000], f := true }, 0, by decide +kernel⟩

theorem wit_WaitInstructionsComplete_3 : ∃ (s : State) (p : ThreadId) (w : BitVec 64) (t : Thread) (d : Fin 8) (dl : Option DT) (e : EventId) (a b : Fin 8),
      t = s.thread p ∧
      s.issues p w ∧
      iOp w = 0x61 ∧
      (iField w 43 1 = 1 ∧ iField w 52 4 = 8 + d.val ∧ dl = some (t.t.get d) ∨ iField w 43 1 = 0 ∧
        iField w 52 4 = 0 ∧ dl = none) ∧
      (iField w 8 34 = 0 ∧ iField w 0 8 = e.val) ∧
      (iField w 42 1 = 1 ∧ iField w 48 4 = 8 + a.val ∧ iField w 44 4 = b.val) ∧
      t.pend.getLsbD e.val = true ∧
      t.ip ≠ 0x3FFF :=
  ⟨running ({ runT with pend := 2 }) (iw 0x61 0 9 3 0x40000000001), 0, iw 0x61 0 9 3 0x40000000001, { runT with pend := 2 }, 0, none, 1, 1, 3, by decide +kernel⟩

theorem wit_WaitInstructionsComplete_4 : ∃ (s : State) (p : ThreadId) (w : BitVec 64) (t : Thread) (d : Fin 8) (dl : Option DT) (e : EventId),
      t = s.thread p ∧
      s.issues p w ∧
      iOp w = 0x61 ∧
      (iField w 43 1 = 1 ∧ iField w 52 4 = 8 + d.val ∧ dl = some (t.t.get d) ∨ iField w 43 1 = 0 ∧
        iField w 52 4 = 0 ∧ dl = none) ∧
      (iField w 8 34 = 0 ∧ iField w 0 8 = e.val) ∧
      (iField w 42 1 = 0 ∧ iField w 48 4 = 0 ∧ iField w 44 4 = 0) ∧
      t.pend.getLsbD e.val = false ∧
      dl.any s.reached = false ∧
      t.ip ≠ 0x3FFF :=
  ⟨running ({ runT with g := #v[5, 1000, 20480, 3, 0, 0, 0, 0], t := #v[40961000000, 0xFFFFFFFFFFFFFFFFFFFF, 0, 0, 0, 0, 0, 40960000000], f := true }) (iw 0x61 8 0 0 0x80000000001), 0, iw 0x61 8 0 0 0x80000000001, { runT with g := #v[5, 1000, 20480, 3, 0, 0, 0, 0], t := #v[40961000000, 0xFFFFFFFFFFFFFFFFFFFF, 0, 0, 0, 0, 0, 40960000000], f := true }, 0, some 40961000000, 1, by decide +kernel⟩

theorem wit_WaitInstructionsComplete_5 : ∃ (s : State) (p : ThreadId) (w : BitVec 64) (t : Thread) (d : Fin 8) (dl : Option DT) (e : EventId),
      t = s.thread p ∧
      s.issues p w ∧
      iOp w = 0x61 ∧
      (iField w 43 1 = 1 ∧ iField w 52 4 = 8 + d.val ∧ dl = some (t.t.get d) ∨ iField w 43 1 = 0 ∧
        iField w 52 4 = 0 ∧ dl = none) ∧
      (iField w 8 34 = 0 ∧ iField w 0 8 = e.val) ∧
      (iField w 42 1 = 0 ∧ iField w 48 4 = 0 ∧ iField w 44 4 = 0) ∧
      t.pend.getLsbD e.val = false ∧
      dl.any s.reached = true ∧
      t.ip ≠ 0x3FFF :=
  ⟨running ({ runT with g := #v[5, 1000, 20480, 3, 0, 0, 0, 0], t := #v[40961000000, 0xFFFFFFFFFFFFFFFFFFFF, 0, 0, 0, 0, 0, 40960000000], f := true }) (iw 0x61 15 0 0 0x80000000001), 0, iw 0x61 15 0 0 0x80000000001, { runT with g := #v[5, 1000, 20480, 3, 0, 0, 0, 0], t := #v[40961000000, 0xFFFFFFFFFFFFFFFFFFFF, 0, 0, 0, 0, 0, 40960000000], f := true }, 7, some 40960000000, 1, by decide +kernel⟩

theorem wit_WaitInstructionsComplete_6 : ∃ (s : State) (p : ThreadId) (w : BitVec 64) (t : Thread) (d : Fin 8) (dl : Option DT) (a b : Fin 8) (m : MailEnt) (r : List MailEnt),
      t = s.thread p ∧
      s.issues p w ∧
      iOp w = 0x62 ∧
      (iField w 43 1 = 1 ∧ iField w 52 4 = 8 + d.val ∧ dl = some (t.t.get d) ∨ iField w 43 1 = 0 ∧
        iField w 52 4 = 0 ∧ dl = none) ∧
      (iField w 48 4 = 8 + a.val ∧ iField w 44 4 = b.val ∧ iField w 0 43 = 0) ∧
      t.mbox = m :: r ∧
      t.ip ≠ 0x3FFF :=
  ⟨running ({ runT with mbox := [⟨1, 2, 3⟩] }) (iw 0x62 0 9 3 0), 0, iw 0x62 0 9 3 0, { runT with mbox := [⟨1, 2, 3⟩] }, 0, none, 1, 3, ⟨1, 2, 3⟩, [], by decide +kernel⟩

theorem wit_WaitInstructionsComplete_7 : ∃ (s : State) (p : ThreadId) (w : BitVec 64) (t : Thread) (d : Fin 8) (dl : Option DT) (a b : Fin 8),
      t = s.thread p ∧
      s.issues p w ∧
      iOp w = 0x62 ∧
      (iField w 43 1 = 1 ∧ iField w 52 4 = 8 + d.val ∧ dl = some (t.t.get d) ∨ iField w 43 1 = 0 ∧
        iField w 52 4 = 0 ∧ dl = none) ∧
      (iField w 48 4 = 8 + a.val ∧ iField w 44 4 = b.val ∧ iField w 0 43 = 0) ∧
      t.mbox = [] ∧
      dl.any s.reached = false ∧
      t.ip ≠ 0x3FFF :=
  ⟨running (runT) (iw 0x62 0 9 3 0), 0, iw 0x62 0 9 3 0, runT, 0, none, 1, 3, by decide +kernel⟩

theorem wit_WaitInstructionsComplete_8 : ∃ (s : State) (p : ThreadId) (w : BitVec 64) (t : Thread) (d : Fin 8) (dl : Option DT) (i : SpokeId),
      t = s.thread p ∧
      s.issues p w ∧
      iOp w = 0x45 ∧
      (okSpoke w = true ∧ spokeOf t w = i.val) ∧
      (iField w 39 1 = 1 ∧ iField w 52 4 = 8 + d.val ∧ dl = some (t.t.get d) ∨ iField w 39 1 = 0 ∧
        iField w 52 4 = 0 ∧ dl = none) ∧
      (iField w 48 4 = 0 ∧ iField w 7 32 = 0) ∧
      (1 ≤ iField w 0 7 ∧ iField w 0 7 ≤ 64 - s.pacer.used.get i) ∧
      t.ip ≠ 0x3FFF :=
  ⟨running (runT) (iw 0x45 0 0 0 0x50000000040), 0, iw 0x45 0 0 0 0x50000000040, runT, 0, none, 5, by decide +kernel⟩

theorem wit_WaitInstructionsComplete_9 : ∃ (s : State) (p : ThreadId) (w : BitVec 64) (t : Thread) (d : Fin 8) (dl : Option DT) (i : SpokeId),
      t = s.thread p ∧
      s.issues p w ∧
      iOp w = 0x45 ∧
      (okSpoke w = true ∧ spokeOf t w = i.val) ∧
      (iField w 39 1 = 1 ∧ iField w 52 4 = 8 + d.val ∧ dl = some (t.t.get d) ∨ iField w 39 1 = 0 ∧
        iField w 52 4 = 0 ∧ dl = none) ∧
      (iField w 48 4 = 0 ∧ iField w 7 32 = 0) ∧
      (64 - s.pacer.used.get i < iField w 0 7 ∧ iField w 0 7 ≤ 64) ∧
      dl.any s.reached = false ∧
      t.ip ≠ 0x3FFF :=
  ⟨{ running (runT) (iw 0x45 0 0 0 0x50000000040) with pacer.used := (Vector.replicate 64 0).set 5 1, pacer.th := Vector.replicate 16 runT }, 0, iw 0x45 0 0 0 0x50000000040, runT, 0, none, 5, by decide +kernel⟩

theorem wit_WaitInstructionsComplete_10 : ∃ (s : State) (p : ThreadId) (w : BitVec 64) (t : Thread) (a : AxisId) (d : Fin 8),
      t = s.thread p ∧
      s.issues p w ∧
      iOp w = 0x55 ∧
      iField w 52 4 = 8 + d.val ∧
      (iField w 43 9 = 0 ∧ iField w 0 40 = 0 ∧ iField w 40 3 = a.val) ∧
      (s.axis a).tgts.find? (fun g => g.thread == p) = none ∧
      t.ip ≠ 0x3FFF :=
  ⟨running ({ runT with g := #v[5, 1000, 20480, 3, 0, 0, 0, 0], t := #v[40961000000, 0xFFFFFFFFFFFFFFFFFFFF, 0, 0, 0, 0, 0, 40960000000], f := true }) (iw 0x55 9 0 0 0x30000000000), 0, iw 0x55 9 0 0 0x30000000000, { runT with g := #v[5, 1000, 20480, 3, 0, 0, 0, 0], t := #v[40961000000, 0xFFFFFFFFFFFFFFFFFFFF, 0, 0, 0, 0, 0, 40960000000], f := true }, 3, 1, by decide +kernel⟩

theorem wit_WaitInstructionsComplete_11 : ∃ (s : State) (p : ThreadId) (w : BitVec 64) (t : Thread) (a : AxisId) (d : Fin 8) (g : Target) (x : DT),
      t = s.thread p ∧
      s.issues p w ∧
      iOp w = 0x55 ∧
      iField w 52 4 = 8 + d.val ∧
      (iField w 43 9 = 0 ∧ iField w 0 40 = 0 ∧ iField w 40 3 = a.val) ∧
      (s.axis a).tgts.find? (fun g => g.thread == p) = some g ∧
      g.st = .time x ∧
      t.ip ≠ 0x3FFF :=
  ⟨(running ({ runT with g := #v[5, 1000, 20480, 3, 0, 0, 0, 0], t := #v[40961000000, 0xFFFFFFFFFFFFFFFFFFFF, 0, 0, 0, 0, 0, 40960000000], f := true }) (iw 0x55 9 0 0 0x30000000000)).setAxis 3 { Axis.reset with tgts := [⟨0, 5, .time 77⟩] }, 0, iw 0x55 9 0 0 0x30000000000, { runT with g := #v[5, 1000, 20480, 3, 0, 0, 0, 0], t := #v[40961000000, 0xFFFFFFFFFFFFFFFFFFFF, 0, 0, 0, 0, 0, 40960000000], f := true }, 3, 1, ⟨0, 5, .time 77⟩, 77, by decide +kernel⟩

theorem wit_WaitInstructionsComplete_12 : ∃ (s : State) (p : ThreadId) (w : BitVec 64) (t : Thread) (a : AxisId) (d : Fin 8) (g : Target),
      t = s.thread p ∧
      s.issues p w ∧
      iOp w = 0x55 ∧
      iField w 52 4 = 8 + d.val ∧
      (iField w 43 9 = 0 ∧ iField w 0 40 = 0 ∧ iField w 40 3 = a.val) ∧
      (s.axis a).tgts.find? (fun g => g.thread == p) = some g ∧
      g.st = .noTime ∧
      t.ip ≠ 0x3FFF :=
  ⟨(running ({ runT with g := #v[5, 1000, 20480, 3, 0, 0, 0, 0], t := #v[40961000000, 0xFFFFFFFFFFFFFFFFFFFF, 0, 0, 0, 0, 0, 40960000000], f := true }) (iw 0x55 9 0 0 0x30000000000)).setAxis 3 { Axis.reset with tgts := [⟨0, 5, .noTime⟩] }, 0, iw 0x55 9 0 0 0x30000000000, { runT with g := #v[5, 1000, 20480, 3, 0, 0, 0, 0], t := #v[40961000000, 0xFFFFFFFFFFFFFFFFFFFF, 0, 0, 0, 0, 0, 40960000000], f := true }, 3, 1, ⟨0, 5, .noTime⟩, by decide +kernel⟩

theorem wit_WaitInstructionsComplete_13 : ∃ (s : State) (p : ThreadId) (w : BitVec 64) (t : Thread) (a : AxisId) (d : Fin 8) (g : Target),
      t = s.thread p ∧
      s.issues p w ∧
      iOp w = 0x55 ∧
      iField w 52 4 = 8 + d.val ∧
      (iField w 43 9 = 0 ∧ iField w 0 40 = 0 ∧ iField w 40 3 = a.val) ∧
      (s.axis a).tgts.find? (fun g => g.thread == p) = some g ∧
      g.st = .posted ∧
      t.ip ≠ 0x3FFF :=
  ⟨(running ({ runT with g := #v[5, 1000, 20480, 3, 0, 0, 0, 0], t := #v[40961000000, 0xFFFFFFFFFFFFFFFFFFFF, 0, 0, 0, 0, 0, 40960000000], f := true }) (iw 0x55 9 0 0 0x30000000000)).setAxis 3 { Axis.reset with tgts := [⟨0, 5, .posted⟩] }, 0, iw 0x55 9 0 0 0x30000000000, { runT with g := #v[5, 1000, 20480, 3, 0, 0, 0, 0], t := #v[40961000000, 0xFFFFFFFFFFFFFFFFFFFF, 0, 0, 0, 0, 0, 40960000000], f := true }, 3, 1, ⟨0, 5, .posted⟩, by decide +kernel⟩

theorem wit_WaitInstructionsComplete_14 : ∃ (s : State) (p : ThreadId) (w : BitVec 64) (t : Thread) (d : Fin 8) (dl : Option DT) (e : EventId),
      t = s.thread p ∧
      s.issues p w ∧
      iOp w = 0x61 ∧
      (iField w 43 1 = 1 ∧ iField w 52 4 = 8 + d.val ∧ dl = some (t.t.get d) ∨ iField w 43 1 = 0 ∧
        iField w 52 4 = 0 ∧ dl = none) ∧
      (iField w 8 34 = 0 ∧ iField w 0 8 = e.val) ∧
      (iField w 42 1 = 0 ∧ iField w 48 4 = 0 ∧ iField w 44 4 = 0) ∧
      t.pend.getLsbD e.val = true ∧
      t.ip ≠ 0x3FFF :=
  ⟨running ({ runT with pend := 2 }) (iw 0x61 0 0 0 1), 0, iw 0x61 0 0 0 1, { runT with pend := 2 }, 0, none, 1, by decide +kernel⟩

theorem wit_WaitInstructionsComplete_15 : ∃ (s : State) (p : ThreadId) (w : BitVec 64) (t : Thread) (d : Fin 8) (a b : Fin 8),
      t = s.thread p ∧
      s.issues p w ∧
      iOp w = 0x62 ∧
      (iField w 43 1 = 1 ∧ iField w 52 4 = 8 + d.val ∧ s.reached (t.t.get d) = true) ∧
      (iField w 48 4 = 8 + a.val ∧ iField w 44 4 = b.val ∧ iField w 0 43 = 0) ∧
      t.mbox = [] ∧
      t.ip ≠ 0x3FFF :=
  ⟨running (runT) (iw 0x62 8 9 3 0x80000000000), 0, iw 0x62 8 9 3 0x80000000000, runT, 0, 1, 3, by decide +kernel⟩

theorem wit_WaitInstructionsComplete_16 : ∃ (s : State) (p : ThreadId) (w : BitVec 64) (t : Thread) (d : Fin 8) (i : SpokeId),
      t = s.thread p ∧
      s.issues p w ∧
      iOp w = 0x45 ∧
      (okSpoke w = true ∧ spokeOf t w = i.val) ∧
      (iField w 39 1 = 1 ∧ iField w 52 4 = 8 + d.val ∧ s.reached (t.t.get d) = true) ∧
      (iField w 48 4 = 0 ∧ iField w 7 32 = 0) ∧
      (64 - s.pacer.used.get i < iField w 0 7 ∧ iField w 0 7 ≤ 64) ∧
      t.ip ≠ 0x3FFF :=
  ⟨{ running (runT) (iw 0x45 8 0 0 0x58000000040) with pacer.used := (Vector.replicate 64 0).set 5 1, pacer.th := Vector.replicate 16 runT }, 0, iw 0x45 8 0 0 0x58000000040, runT, 0, 5, by decide +kernel⟩

theorem wit_WaitInstructionsComplete_17 : ∃ (s : State) (p : ThreadId) (w : BitVec 64) (t : Thread) (c : Instr),
      t = s.thread p ∧
      s.issues p w ∧
      t.ip = 0x3FFF ∧
      ((c, iOp w) = (.waitt p, 0x60) ∧ 8 ≤ iField w 52 4 ∧ iField w 0 52 = 0 ∨
        (c, iOp w) = (.waite p, 0x61) ∧ iField w 8 48 = 0 ∨
        (c, iOp w) = (.recv p, 0x62) ∧ iField w 52 4 = 0 ∧ 8 ≤ iField w 48 4 ∧ iField w 44 4 < 8 ∧ iField w 0 44 = 0 ∨
        (c, iOp w) = (.waitq p, 0x45) ∧ okSpoke w = true ∧ spokeOf t w < 64 ∧ iField w 48 8 = 0 ∧ iField w 7 33 = 0 ∧
        1 ≤ iField w 0 7 ∧ iField w 0 7 ≤ 64 ∨
        (c, iOp w) = (.ktake p, 0x55) ∧ 8 ≤ iField w 52 4 ∧ iField w 43 9 = 0 ∧ iField w 0 40 = 0) :=
  ⟨{ day.setThread 0 { runT with ip := 0x3FFF } with mem := wrN memDflt [] 0x81FFF8 (leOctets 8 (iw 0x61 0 0 0 7).toNat) }, 0, iw 0x61 0 0 0 7, { runT with ip := 0x3FFF }, .waite 0, by decide +kernel⟩

theorem wit_WaitInstructionsComplete_18 : ∃ (s : State) (p : ThreadId) (w : BitVec 64) (t : Thread),
      t = s.thread p ∧
      s.issues p w ∧
      iOp w = 0x45 ∧
      (okSpoke w = true ∧ 63 < spokeOf t w) ∧
      (iField w 48 8 = 0 ∧ iField w 7 33 = 0 ∧ 1 ≤ iField w 0 7 ∧ iField w 0 7 ≤ 64) :=
  ⟨running ({ runT with g := #v[64, 0, 0, 0, 0, 0, 0, 0] }) (iw 0x45 0 0 8 1), 0, iw 0x45 0 0 8 1, { runT with g := #v[64, 0, 0, 0, 0, 0, 0, 0] }, by decide +kernel⟩

/-! Waits end by what they wait for, or at their deadline -/

theorem wit_WaitReleasesComplete_1 : ∃ (s : State) (p : ThreadId) (t : Thread) (x : DT),
      t = s.thread p ∧
      s.mayUse p .wait = true ∧
      t.waitOn = .time x ∧
      dtLe x (slotDt s.slot) = true :=
  ⟨running ({ runT with state := .wait, waitOn := .time 40960000000 }) 0, 0, { runT with state := .wait, waitOn := .time 40960000000 }, 40960000000, by decide +kernel⟩

theorem wit_WaitReleasesComplete_2 : ∃ (s : State) (p : ThreadId) (t : Thread) (e : EventId) (x : DT) (o : Option (Fin 8 × Fin 8)),
      t = s.thread p ∧
      s.mayUse p .wait = true ∧
      t.waitOn = .event e (some x) o ∧
      dtLe x (slotDt s.slot) = true ∧
      t.pend.getLsbD e.val = false :=
  ⟨running ({ runT with state := .wait, waitOn := .event 3 (some 40960000000) none }) 0, 0, { runT with state := .wait, waitOn := .event 3 (some 40960000000) none }, 3, 40960000000, none, by decide +kernel⟩

theorem wit_WaitReleasesComplete_3 : ∃ (s : State) (p : ThreadId) (t : Thread) (a b : Fin 8) (x : DT),
      t = s.thread p ∧
      s.mayUse p .wait = true ∧
      t.waitOn = .recv (some x) a b ∧
      dtLe x (slotDt s.slot) = true ∧
      t.mbox = [] :=
  ⟨running ({ runT with state := .wait, waitOn := .recv (some 40960000000) 1 2 }) 0, 0, { runT with state := .wait, waitOn := .recv (some 40960000000) 1 2 }, 1, 2, 40960000000, by decide +kernel⟩

theorem wit_WaitReleasesComplete_4 : ∃ (s : State) (p : ThreadId) (t : Thread) (i : SpokeId) (n : Nat) (x : DT),
      t = s.thread p ∧
      s.mayUse p .wait = true ∧
      t.waitOn = .queue i n (some x) ∧
      dtLe x (slotDt s.slot) = true ∧
      64 - s.pacer.used.get i < n :=
  ⟨{ running ({ runT with state := .wait, waitOn := .queue 1 64 (some 40960000000) }) 0 with pacer.used := (Vector.replicate 64 0).set 1 1 }, 0, { runT with state := .wait, waitOn := .queue 1 64 (some 40960000000) }, 1, 64, 40960000000, by decide +kernel⟩

theorem wit_WaitReleasesComplete_5 : ∃ (s : State) (p : ThreadId) (t : Thread) (e : EventId) (dl : Option DT) (a b : Fin 8),
      t = s.thread p ∧
      s.mayUse p .wait = true ∧
      t.waitOn = .event e dl (some (a, b)) ∧
      t.pend.getLsbD e.val = true :=
  ⟨running ({ { runT with pend := 2 } with state := .wait, waitOn := .event 1 none (some (1, 2)) }) 0, 0, { { runT with pend := 2 } with state := .wait, waitOn := .event 1 none (some (1, 2)) }, 1, none, 1, 2, by decide +kernel⟩

theorem wit_WaitReleasesComplete_6 : ∃ (s : State) (p : ThreadId) (t : Thread) (e : EventId) (dl : Option DT),
      t = s.thread p ∧
      s.mayUse p .wait = true ∧
      t.waitOn = .event e dl none ∧
      t.pend.getLsbD e.val = true :=
  ⟨running ({ { runT with pend := 2 } with state := .wait, waitOn := .event 1 none none }) 0, 0, { { runT with pend := 2 } with state := .wait, waitOn := .event 1 none none }, 1, none, by decide +kernel⟩

theorem wit_WaitReleasesComplete_7 : ∃ (s : State) (p : ThreadId) (t : Thread) (dl : Option DT) (a b : Fin 8) (m : MailEnt) (r : List MailEnt),
      t = s.thread p ∧
      s.mayUse p .wait = true ∧
      t.waitOn = .recv dl a b ∧
      t.mbox = m :: r :=
  ⟨running ({ { runT with mbox := [⟨1, 2, 3⟩] } with state := .wait, waitOn := .recv none 1 2 }) 0, 0, { { runT with mbox := [⟨1, 2, 3⟩] } with state := .wait, waitOn := .recv none 1 2 }, none, 1, 2, ⟨1, 2, 3⟩, [], by decide +kernel⟩

theorem wit_WaitReleasesComplete_8 : ∃ (s : State) (p : ThreadId) (t : Thread) (a : AxisId) (d : Fin 8) (g : Target) (x : DT),
      t = s.thread p ∧
      s.mayUse p .wait = true ∧
      t.waitOn = .take a d ∧
      (s.axis a).tgts.find? (fun g => g.thread == p) = some g ∧
      g.st = .time x :=
  ⟨(running ({ runT with state := .wait, waitOn := .take 3 1 }) 0).setAxis 3 { Axis.reset with tgts := [⟨0, 5, .time 77⟩] }, 0, { runT with state := .wait, waitOn := .take 3 1 }, 3, 1, ⟨0, 5, .time 77⟩, 77, by decide +kernel⟩

theorem wit_WaitReleasesComplete_9 : ∃ (s : State) (p : ThreadId) (t : Thread) (i : SpokeId) (n : Nat) (dl : Option DT),
      t = s.thread p ∧
      s.mayUse p .wait = true ∧
      t.waitOn = .queue i n dl ∧
      n ≤ 64 - s.pacer.used.get i :=
  ⟨running ({ runT with state := .wait, waitOn := .queue 1 64 none }) 0, 0, { runT with state := .wait, waitOn := .queue 1 64 none }, 1, 64, none, by decide +kernel⟩

theorem wit_WaitReleasesComplete_10 : ∃ (s : State) (p : ThreadId) (t : Thread) (r : Fin 8) (c : BitVec 4),
      t = s.thread p ∧
      s.mayUse p .wait = true ∧
      t.waitOn = .commit r (some c) :=
  ⟨running ({ runT with state := .wait, waitOn := .commit 2 (some 3) }) 0, 0, { runT with state := .wait, waitOn := .commit 2 (some 3) }, 2, 3, by decide +kernel⟩

theorem wit_WaitReleasesComplete_11 : ∃ (s : State) (p : ThreadId) (t : Thread) (a : AxisId) (d : Fin 8) (g : Target),
      t = s.thread p ∧
      s.mayUse p .wait = true ∧
      t.waitOn = .take a d ∧
      (s.axis a).tgts.find? (fun g => g.thread == p) = some g ∧
      g.st = .noTime :=
  ⟨(running ({ runT with state := .wait, waitOn := .take 3 1 }) 0).setAxis 3 { Axis.reset with tgts := [⟨0, 5, .noTime⟩] }, 0, { runT with state := .wait, waitOn := .take 3 1 }, 3, 1, ⟨0, 5, .noTime⟩, by decide +kernel⟩

/-! TRIG, RAISE and COMMIT -/

theorem wit_TrigRaiseCommitComplete_1 : ∃ (s : State) (p : ThreadId) (w : BitVec 64) (t : Thread) (d a : Fin 8) (q : ThreadId),
      t = s.thread p ∧
      s.issues p w ∧
      iOp w = 0x68 ∧
      iField w 52 4 = 8 + d.val ∧
      iField w 48 4 = a.val ∧
      (iField w 4 44 = 0 ∧ iField w 0 4 = q.val) ∧
      (s.pacer.mail.filter fun m => m.via == .thread).length < 4 ∧
      dtLe (slotDt s.slot) (t.t.get d) = true ∧
      t.ip ≠ 0x3FFF :=
  ⟨running ({ runT with g := #v[5, 1000, 20480, 3, 0, 0, 0, 0], t := #v[40961000000, 0xFFFFFFFFFFFFFFFFFFFF, 0, 0, 0, 0, 0, 40960000000], f := true }) (iw 0x68 15 1 0 9), 0, iw 0x68 15 1 0 9, { runT with g := #v[5, 1000, 20480, 3, 0, 0, 0, 0], t := #v[40961000000, 0xFFFFFFFFFFFFFFFFFFFF, 0, 0, 0, 0, 0, 40960000000], f := true }, 7, 1, 9, by decide +kernel⟩

theorem wit_TrigRaiseCommitComplete_2 : ∃ (s : State) (p : ThreadId) (w : BitVec 64) (t : Thread) (d a : Fin 8) (ta : DT),
      t = s.thread p ∧
      s.issues p w ∧
      iOp w = 0x68 ∧
      iField w 52 4 = 8 + d.val ∧
      ta = t.t.get d ∧
      iField w 48 4 = a.val ∧
      iField w 4 44 = 0 ∧
      (s.pacer.mail.filter fun m => m.via == .thread).length < 4 ∧
      dtLe (slotDt s.slot) ta = false ∧
      t.ip ≠ 0x3FFF :=
  ⟨running ({ runT with g := #v[5, 1000, 20480, 3, 0, 0, 0, 0], t := #v[40961000000, 0xFFFFFFFFFFFFFFFFFFFF, 0, 0, 0, 0, 0, 40960000000], f := true }) (iw 0x68 10 1 0 9), 0, iw 0x68 10 1 0 9, { runT with g := #v[5, 1000, 20480, 3, 0, 0, 0, 0], t := #v[40961000000, 0xFFFFFFFFFFFFFFFFFFFF, 0, 0, 0, 0, 0, 40960000000], f := true }, 2, 1, 0, by decide +kernel⟩

theorem wit_TrigRaiseCommitComplete_3 : ∃ (s : State) (p : ThreadId) (w : BitVec 64) (t : Thread) (d a : Fin 8) (c : PortId),
      t = s.thread p ∧
      s.issues p w ∧
      iOp w = 0x68 ∧
      iField w 52 4 = 8 + d.val ∧
      iField w 48 4 = a.val ∧
      (iField w 16 32 = 0 ∧ iField w 14 2 = 1 ∧ iField w 10 4 = c.val ∧ iField w 4 5 = 0) ∧
      s.granted c 2 = false ∧
      t.ip ≠ 0x3FFF :=
  ⟨running ({ runT with g := #v[5, 1000, 20480, 3, 0, 0, 0, 0], t := #v[40961000000, 0xFFFFFFFFFFFFFFFFFFFF, 0, 0, 0, 0, 0, 40960000000], f := true }) (iw 0x68 15 1 0 0x5009), 0, iw 0x68 15 1 0 0x5009, { runT with g := #v[5, 1000, 20480, 3, 0, 0, 0, 0], t := #v[40961000000, 0xFFFFFFFFFFFFFFFFFFFF, 0, 0, 0, 0, 0, 40960000000], f := true }, 7, 1, 4, by decide +kernel⟩

theorem wit_TrigRaiseCommitComplete_4 : ∃ (s : State) (p : ThreadId) (w : BitVec 64) (t : Thread) (d a : Fin 8) (c : PortId),
      t = s.thread p ∧
      s.issues p w ∧
      iOp w = 0x68 ∧
      iField w 52 4 = 8 + d.val ∧
      iField w 48 4 = a.val ∧
      (iField w 16 32 = 0 ∧ iField w 14 2 = 1 ∧ iField w 10 4 = c.val ∧ iField w 4 5 = 0) ∧
      s.granted c 2 = true ∧
      (s.laneBusy c = false ∧ (s.port c).waiting = []) ∧
      t.ip ≠ 0x3FFF :=
  ⟨(running ({ runT with g := #v[5, 1000, 20480, 3, 0, 0, 0, 0], t := #v[40961000000, 0xFFFFFFFFFFFFFFFFFFFF, 0, 0, 0, 0, 0, 40960000000], f := true }) (iw 0x68 15 1 0 0x5009)).setPort 4 { Port.reset with st := 5, modeR := some ⟨1, 0, 0, 0x3F, false, 0, 0, 0⟩ }, 0, iw 0x68 15 1 0 0x5009, { runT with g := #v[5, 1000, 20480, 3, 0, 0, 0, 0], t := #v[40961000000, 0xFFFFFFFFFFFFFFFFFFFF, 0, 0, 0, 0, 0, 40960000000], f := true }, 7, 1, 4, by decide +kernel⟩

theorem wit_TrigRaiseCommitComplete_5 : ∃ (s : State) (p : ThreadId) (w : BitVec 64) (t : Thread) (d a : Fin 8) (c : PortId),
      t = s.thread p ∧
      s.issues p w ∧
      iOp w = 0x68 ∧
      iField w 52 4 = 8 + d.val ∧
      iField w 48 4 = a.val ∧
      (iField w 16 32 = 0 ∧ iField w 14 2 = 1 ∧ iField w 10 4 = c.val ∧ iField w 4 5 = 0) ∧
      s.granted c 2 = true ∧
      (s.laneBusy c = true ∧ s.waitingOf c (· == 6) < 4) ∧
      t.ip ≠ 0x3FFF :=
  ⟨{ (running ({ runT with g := #v[5, 1000, 20480, 3, 0, 0, 0, 0], t := #v[40961000000, 0xFFFFFFFFFFFFFFFFFFFF, 0, 0, 0, 0, 0, 40960000000], f := true }) (iw 0x68 15 1 0 0x5009)).setPort 4 { Port.reset with st := 5, modeR := some ⟨1, 0, 0, 0x3F, false, 0, 0, 0⟩ } with fw := { Freewheel.reset with frames := [⟨4, true, [], 0, true, 0, 0, false, false, 0, some 0, false, false, 0⟩] } }, 0, iw 0x68 15 1 0 0x5009, { runT with g := #v[5, 1000, 20480, 3, 0, 0, 0, 0], t := #v[40961000000, 0xFFFFFFFFFFFFFFFFFFFF, 0, 0, 0, 0, 0, 40960000000], f := true }, 7, 1, 4, by decide +kernel⟩

theorem wit_TrigRaiseCommitComplete_6 : ∃ (s : State) (p : ThreadId) (w : BitVec 64) (t : Thread) (d a : Fin 8),
      t = s.thread p ∧
      s.issues p w ∧
      iOp w = 0x68 ∧
      iField w 52 4 = 8 + d.val ∧
      iField w 48 4 = a.val ∧
      (iField w 16 32 = 0 ∧ iField w 9 7 = 0x60 ∧ iField w 4 5 = 0) ∧
      s.pair.lane = true ∧
      t.ip ≠ 0x3FFF :=
  ⟨{ running ({ runT with g := #v[5, 1000, 20480, 3, 0, 0, 0, 0], t := #v[40961000000, 0xFFFFFFFFFFFFFFFFFFFF, 0, 0, 0, 0, 0, 40960000000], f := true }) (iw 0x68 15 1 0 0xC009) with pair := { Pair.reset with lane := true } }, 0, iw 0x68 15 1 0 0xC009, { runT with g := #v[5, 1000, 20480, 3, 0, 0, 0, 0], t := #v[40961000000, 0xFFFFFFFFFFFFFFFFFFFF, 0, 0, 0, 0, 0, 40960000000], f := true }, 7, 1, by decide +kernel⟩

theorem wit_TrigRaiseCommitComplete_7 : ∃ (s : State) (p : ThreadId) (w : BitVec 64) (t : Thread) (d a : Fin 8),
      t = s.thread p ∧
      s.issues p w ∧
      iOp w = 0x68 ∧
      iField w 52 4 = 8 + d.val ∧
      iField w 48 4 = a.val ∧
      (iField w 16 32 = 0 ∧ iField w 14 2 = 2 ∧ (iField w 9 1 = 0 ∨ iField w 10 4 = 0) ∧ iField w 4 5 = 0) ∧
      s.stacked = false ∧
      t.ip ≠ 0x3FFF :=
  ⟨running ({ runT with g := #v[5, 1000, 20480, 3, 0, 0, 0, 0], t := #v[40961000000, 0xFFFFFFFFFFFFFFFFFFFF, 0, 0, 0, 0, 0, 40960000000], f := true }) (iw 0x68 15 1 0 0x8009), 0, iw 0x68 15 1 0 0x8009, { runT with g := #v[5, 1000, 20480, 3, 0, 0, 0, 0], t := #v[40961000000, 0xFFFFFFFFFFFFFFFFFFFF, 0, 0, 0, 0, 0, 40960000000], f := true }, 7, 1, by decide +kernel⟩

theorem wit_TrigRaiseCommitComplete_8 : ∃ (s : State) (p : ThreadId) (w : BitVec 64) (t : Thread) (d a : Fin 8) (prt : RingPort),
      t = s.thread p ∧
      s.issues p w ∧
      iOp w = 0x68 ∧
      iField w 52 4 = 8 + d.val ∧
      iField w 48 4 = a.val ∧
      (iField w 16 32 = 0 ∧ iField w 14 2 = 2 ∧ (iField w 9 1 = 0 ∨ iField w 10 4 = 0) ∧ iField w 4 5 = 0) ∧
      (s.stacked = true ∧ s.triggersTo (w.setWidth 16) < 4) ∧
      t.ip ≠ 0x3FFF :=
  ⟨{ running ({ runT with g := #v[5, 1000, 20480, 3, 0, 0, 0, 0] }) (iw 0x68 15 1 0 0x8009) with stoker := member }, 0, iw 0x68 15 1 0 0x8009, { runT with g := #v[5, 1000, 20480, 3, 0, 0, 0, 0] }, 7, 1, .n, by decide +kernel⟩

theorem wit_TrigRaiseCommitComplete_9 : ∃ (s : State) (p : ThreadId) (w : BitVec 64) (t : Thread) (dest : BitVec 16),
      t = s.thread p ∧
      s.issues p w ∧
      iOp w = 0x68 ∧
      (8 ≤ iField w 52 4 ∧ iField w 48 4 < 8 ∧ iField w 16 32 = 0) ∧
      (okDest w = true ∧ dest = w.setWidth 16) ∧
      (s.routeOpen dest = true ∧ 4 ≤ s.triggersTo dest) ∧
      t.ip ≠ 0x3FFF :=
  ⟨{ running runT (iw 0x68 10 1 0 9) with pacer.mail := List.replicate 4 ⟨3, .thread, ⟨1, 2, 3⟩⟩, pacer.th := Vector.replicate 16 runT }, 0, iw 0x68 10 1 0 9, runT, 9, by decide +kernel⟩

theorem wit_TrigRaiseCommitComplete_10 : ∃ (s : State) (p : ThreadId) (w : BitVec 64) (t : Thread) (n : Nat),
      t = s.thread p ∧
      s.issues p w ∧
      iOp w = 0x69 ∧
      (iField w 20 36 = 0 ∧ iField w 0 16 = 0 ∧ n = iField w 16 4) ∧
      t.ip ≠ 0x3FFF :=
  ⟨running (runT) (iw 0x69 0 0 0 0xF0000), 0, iw 0x69 0 0 0 0xF0000, runT, 15, by decide +kernel⟩

theorem wit_TrigRaiseCommitComplete_11 : ∃ (s : State) (p : ThreadId) (w : BitVec 64) (t : Thread) (d a r : Fin 8),
      t = s.thread p ∧
      s.issues p w ∧
      iOp w = 0x6A ∧
      iField w 52 4 = 8 + d.val ∧
      iField w 48 4 = a.val ∧
      iField w 44 4 = r.val ∧
      iField w 0 44 = 0 ∧
      s.commit.pend = none ∧
      newer (t.g.get a) s.commit.gen = true ∧
      dtLe (dtAdd (s.replica islHandlebar) 8192000) (t.t.get d) = true ∧
      s.stacked = false ∧
      t.ip ≠ 0x3FFF :=
  ⟨running ({ runT with g := #v[5, 1000, 20480, 3, 0, 0, 0, 0], t := #v[40968192000, 0xFFFFFFFFFFFFFFFFFFFF, 0, 0, 0, 0, 0, 40960000000], f := true }) (iw 0x6A 8 1 2 0), 0, iw 0x6A 8 1 2 0, { runT with g := #v[5, 1000, 20480, 3, 0, 0, 0, 0], t := #v[40968192000, 0xFFFFFFFFFFFFFFFFFFFF, 0, 0, 0, 0, 0, 40960000000], f := true }, 0, 1, 2, by decide +kernel⟩

theorem wit_TrigRaiseCommitComplete_12 : ∃ (s : State) (p : ThreadId) (w : BitVec 64) (t : Thread) (d a r : Fin 8) (c : Nat),
      t = s.thread p ∧
      s.issues p w ∧
      iOp w = 0x6A ∧
      iField w 52 4 = 8 + d.val ∧
      iField w 48 4 = a.val ∧
      iField w 44 4 = r.val ∧
      iField w 0 44 = 0 ∧
      c = s.issueCause (.thread p) (t.t.get d) (t.g.get a) ∧
      t.ip ≠ 0x3FFF :=
  ⟨running runT (iw 0x6A 8 1 2 0), 0, iw 0x6A 8 1 2 0, runT, 0, 1, 2, 2, by decide +kernel⟩

/-! What reaches Pacer -/

theorem wit_PacerArrivalsComplete_1 : ∃ (s : State) (e : EventId) (m : DT × Word),
      s.clocked = true ∧
      ((s.pacer.latch.get e).filter fun m => s.wakes e m.1).getLast? = some m :=
  ⟨{ day with pacer := { Pacer.reset with latch := (Vector.replicate 256 []).set 7 [(4, 9), (5, 6)], th := Vector.replicate 16 runT } }, 7, (5, 6), by decide +kernel⟩

theorem wit_PacerArrivalsComplete_2 : ∃ (s : State) (e : EventId),
      s.clocked = true ∧
      ((s.pacer.latch.get e).filter fun m => s.wakes e m.1) = [] :=
  ⟨{ day with pacer := { Pacer.reset with latch := (Vector.replicate 256 []).set 7 [(5, 6)] }, hb := { Handlebar.reset with evCfg := [(7, 5, 0)] } }, 7, by decide +kernel⟩

theorem wit_PacerArrivalsComplete_3 : ∃ (s : State) (i : SpokeId),
      s.clocked = true ∧
      (s.spoke i).freed ≠ 0 :=
  ⟨{ (day.setSpoke 3 { Spoke.reset with freed := 1 }) with pacer := { Pacer.reset with used := (Vector.replicate 64 0).set 3 2 } }, 3, by decide +kernel⟩

theorem wit_PacerArrivalsComplete_4a : ∃ (s : State) (p : ThreadId) (m : MailIn),
      s.clocked = true ∧
      s.pacer.mail.find? (fun m => m.dest == p && (s.mailChan m.via).contains m) = some m ∧
      (m.via = .thread ∨ dtLe (dtAdd (s.replica islPacer) 409600) m.ent.dt = true) ∧
      (s.thread p).mbox.length < 8 :=
  ⟨{ day with pacer := { Pacer.reset with mail := [⟨3, .thread, ⟨1, 2, 3⟩⟩] } }, 3, ⟨3, .thread, ⟨1, 2, 3⟩⟩, by decide +kernel⟩

theorem wit_PacerArrivalsComplete_4b : ∃ (s : State) (p : ThreadId) (m : MailIn),
      s.clocked = true ∧
      s.pacer.mail.find? (fun m => m.dest == p && (s.mailChan m.via).contains m) = some m ∧
      (m.via = .thread ∨ dtLe (dtAdd (s.replica islPacer) 409600) m.ent.dt = true) ∧
      (s.thread p).mbox.length < 8 :=
  ⟨{ day with pacer := { Pacer.reset with mail := [⟨3, .ring, ⟨40960409600, 2, 3⟩⟩] } }, 3, ⟨3, .ring, ⟨40960409600, 2, 3⟩⟩, by decide +kernel⟩

theorem wit_PacerArrivalsComplete_5 : ∃ (s : State) (p : ThreadId) (m : MailIn),
      s.clocked = true ∧
      s.pacer.mail.find? (fun m => m.dest == p && (s.mailChan m.via).contains m) = some m ∧
      (m.via = .thread ∨ dtLe (dtAdd (s.replica islPacer) 409600) m.ent.dt = true) ∧
      8 ≤ (s.thread p).mbox.length :=
  ⟨{ day with pacer := { Pacer.reset with mail := [⟨3, .thread, ⟨1, 2, 3⟩⟩], th := Vector.replicate 16 { Thread.reset with mbox := List.replicate 8 ⟨1, 2, 3⟩ } } }, 3, ⟨3, .thread, ⟨1, 2, 3⟩⟩, by decide +kernel⟩

theorem wit_PacerArrivalsComplete_6a : ∃ (s : State) (p : ThreadId) (m : MailIn) (src cause : Nat),
      s.clocked = true ∧
      s.pacer.mail.find? (fun m => m.dest == p && (s.mailChan m.via).contains m) = some m ∧
      ((∃ c : PortId, m.via = .port c ∧ src = 184 + 3 * c.val ∧ cause = 1) ∨ m.via = .ring ∧ src = 240 ∧ cause = 1 ∨
        m.via = .pair ∧ src = 241 ∧ cause = 4) ∧
      dtLe (dtAdd (s.replica islPacer) 409600) m.ent.dt = false :=
  ⟨{ day with pacer := { Pacer.reset with mail := [⟨3, .port 2, ⟨40960409599, 2, 3⟩⟩] } }, 3, ⟨3, .port 2, ⟨40960409599, 2, 3⟩⟩, 190, 1, by decide +kernel⟩

theorem wit_PacerArrivalsComplete_6b : ∃ (s : State) (p : ThreadId) (m : MailIn) (src cause : Nat),
      s.clocked = true ∧
      s.pacer.mail.find? (fun m => m.dest == p && (s.mailChan m.via).contains m) = some m ∧
      ((∃ c : PortId, m.via = .port c ∧ src = 184 + 3 * c.val ∧ cause = 1) ∨ m.via = .ring ∧ src = 240 ∧ cause = 1 ∨
        m.via = .pair ∧ src = 241 ∧ cause = 4) ∧
      dtLe (dtAdd (s.replica islPacer) 409600) m.ent.dt = false :=
  ⟨{ day with pacer := { Pacer.reset with mail := [⟨3, .pair, ⟨40960409599, 2, 3⟩⟩] } }, 3, ⟨3, .pair, ⟨40960409599, 2, 3⟩⟩, 241, 4, by decide +kernel⟩

/-! Thread control actions -/

theorem wit_ThreadControlCompletes_1 : ∃ (s : State) (p : ThreadId) (d : DT),
      s.hostReach = true ∧
      s.clocked = true ∧
      d = dtAt s.imm (thBase p + 0xC) ∧
      dtLe (dtAdd (s.replica islHandlebar) 4096000) d = true ∧
      (s.thread p).act = none :=
  ⟨{ day with imm := [(0x830C, 0), (0x8310, 0x100)] }, 3, 0x10000000000, by decide +kernel⟩

theorem wit_ThreadControlCompletes_2 : ∃ (s : State) (p : ThreadId) (d : DT),
      s.hostReach = true ∧
      s.clocked = true ∧
      d = dtAt s.imm (thBase p + 0xC) ∧
      dtLe (dtAdd (s.replica islHandlebar) 4096000) d = true ∧
      (s.thread p).act = none :=
  ⟨{ day with imm := [(0x830C, 0), (0x8310, 0x100)] }, 3, 0x10000000000, by decide +kernel⟩

theorem wit_ThreadControlCompletes_3 : ∃ (s : State) (p : ThreadId) (d : DT),
      s.hostReach = true ∧
      s.clocked = true ∧
      d = dtAt s.imm (thBase p + 0xC) ∧
      dtLe (dtAdd (s.replica islHandlebar) 4096000) d = true ∧
      (s.thread p).act = none :=
  ⟨{ day with imm := [(0x830C, 0), (0x8310, 0x100)] }, 3, 0x10000000000, by decide +kernel⟩

theorem wit_ThreadControlCompletes_4 : ∃ (s : State) (p : ThreadId),
      s.hostReach = true ∧
      s.clocked = true ∧
      dtLe (dtAdd (s.replica islHandlebar) 4096000) (dtAt s.imm (thBase p + 0xC)) = false :=
  ⟨{ day with noon := { Noon.reset with distAt := 40960000000, distClock := 40960000000 } }, 3, by decide +kernel⟩

theorem wit_ThreadControlCompletes_5 : ∃ (s : State) (p : ThreadId) (a : CtlAct),
      s.hostReach = true ∧
      s.clocked = true ∧
      dtLe (dtAdd (s.replica islHandlebar) 4096000) (dtAt s.imm (thBase p + 0xC)) = true ∧
      (s.thread p).act = some a :=
  ⟨{ withP3 { Thread.reset with act := some ⟨.start, 40960000000, 9, false, false, 5, true⟩ } with imm := [(0x830C, 0), (0x8310, 0x100)] }, 3, ⟨.start, 40960000000, 9, false, false, 5, true⟩, by decide +kernel⟩

theorem wit_ThreadControlCompletes_6 : ∃ (s : State) (p : ThreadId) (t : Thread) (a : CtlAct),
      t = s.thread p ∧
      s.ownSlot p = true ∧
      (t.act = some a ∧ dtLe a.dt (slotDt s.slot) = true) ∧
      a.op = .stop :=
  ⟨running { runT with act := some ⟨.stop, 40960000000, 9, false, false, 5, true⟩ } 0, 0, { runT with act := some ⟨.stop, 40960000000, 9, false, false, 5, true⟩ }, ⟨.stop, 40960000000, 9, false, false, 5, true⟩, by decide +kernel⟩

theorem wit_ThreadControlCompletes_7a : ∃ (s : State) (p : ThreadId) (t : Thread) (a : CtlAct),
      t = s.thread p ∧
      s.ownSlot p = true ∧
      (t.act = some a ∧ dtLe a.dt (slotDt s.slot) = true) ∧
      a.op = .start ∧
      (t.state = .stopped ∨ t.state = .halted ∨ t.state = .faulted) :=
  ⟨running { Thread.reset with act := some ⟨.start, 40960000000, 9, true, true, 5, true⟩ } 0, 0, { Thread.reset with act := some ⟨.start, 40960000000, 9, true, true, 5, true⟩ }, ⟨.start, 40960000000, 9, true, true, 5, true⟩, by decide +kernel⟩

theorem wit_ThreadControlCompletes_7b : ∃ (s : State) (p : ThreadId) (t : Thread) (a : CtlAct),
      t = s.thread p ∧
      s.ownSlot p = true ∧
      (t.act = some a ∧ dtLe a.dt (slotDt s.slot) = true) ∧
      a.op = .start ∧
      (t.state = .stopped ∨ t.state = .halted ∨ t.state = .faulted) :=
  ⟨{ running { Thread.reset with act := some ⟨.start, 40960000000, 9, false, true, 5, true⟩ } 0 with imm := [(0x8004, 77)] }, 0, { Thread.reset with act := some ⟨.start, 40960000000, 9, false, true, 5, true⟩ }, ⟨.start, 40960000000, 9, false, true, 5, true⟩, by decide +kernel⟩

theorem wit_ThreadControlCompletes_8 : ∃ (s : State) (p : ThreadId) (t : Thread) (a : CtlAct),
      t = s.thread p ∧
      s.ownSlot p = true ∧
      (t.act = some a ∧ dtLe a.dt (slotDt s.slot) = true) ∧
      a.op = .resume ∧
      t.state = .halted ∧
      t.ip ≠ 0x3FFF :=
  ⟨running { Thread.reset with state := .halted, act := some ⟨.resume, 40960000000, 9, false, false, 5, true⟩ } 0, 0, { Thread.reset with state := .halted, act := some ⟨.resume, 40960000000, 9, false, false, 5, true⟩ }, ⟨.resume, 40960000000, 9, false, false, 5, true⟩, by decide +kernel⟩

theorem wit_ThreadControlCompletes_9 : ∃ (s : State) (p : ThreadId) (t : Thread) (a : CtlAct),
      t = s.thread p ∧
      s.ownSlot p = true ∧
      (t.act = some a ∧ dtLe a.dt (slotDt s.slot) = true) ∧
      a.op = .resume ∧
      t.state = .faulted :=
  ⟨running { Thread.reset with state := .faulted, act := some ⟨.resume, 40960000000, 9, false, false, 5, true⟩ } 0, 0, { Thread.reset with state := .faulted, act := some ⟨.resume, 40960000000, 9, false, false, 5, true⟩ }, ⟨.resume, 40960000000, 9, false, false, 5, true⟩, by decide +kernel⟩

theorem wit_ThreadControlCompletes_10 : ∃ (s : State) (p : ThreadId) (t : Thread) (a : CtlAct),
      t = s.thread p ∧
      s.ownSlot p = true ∧
      (t.act = some a ∧ dtLe a.dt (slotDt s.slot) = true) ∧
      (a.op = .start ∧ (t.state = .run ∨ t.state = .hold ∨ t.state = .wait) ∨ a.op = .resume ∧ t.state ≠ .halted ∧
        t.state ≠ .faulted) ∧
      (a.latest = true ∧ a.ring = false) :=
  ⟨running { runT with act := some ⟨.start, 40960000000, 9, false, false, 5, true⟩ } 0, 0, { runT with act := some ⟨.start, 40960000000, 9, false, false, 5, true⟩ }, ⟨.start, 40960000000, 9, false, false, 5, true⟩, by decide +kernel⟩

theorem wit_ThreadControlCompletes_11 : ∃ (s : State) (p : ThreadId) (c : Instr) (op : CtlOp),
      s.hostReach = true ∧
      s.clocked = false ∧
      (c, op) ∈ [(.thStart p, .start), (.thStop p, .stop), (.thResume p, .resume)] :=
  ⟨{ day with hub := { day.hub with gatesOpen := false } }, 3, .thStop 3, .stop, by decide +kernel⟩

theorem wit_ThreadControlCompletes_12 : ∃ (s : State) (p : ThreadId) (t : Thread) (a : CtlAct),
      t = s.thread p ∧
      s.ownSlot p = true ∧
      (t.act = some a ∧ dtLe a.dt (slotDt s.slot) = true) ∧
      a.op = .resume ∧
      t.state = .halted ∧
      t.ip = 0x3FFF :=
  ⟨running { Thread.reset with state := .halted, ip := 0x3FFF, act := some ⟨.resume, 40960000000, 9, false, false, 5, true⟩ } 0, 0, { Thread.reset with state := .halted, ip := 0x3FFF, act := some ⟨.resume, 40960000000, 9, false, false, 5, true⟩ }, ⟨.resume, 40960000000, 9, false, false, 5, true⟩, by decide +kernel⟩

theorem wit_ThreadControlCompletes_13 : ∃ (s : State) (p : ThreadId) (t : Thread) (a : CtlAct),
      t = s.thread p ∧
      s.ownSlot p = true ∧
      (t.act = some a ∧ dtLe a.dt (slotDt s.slot) = true) ∧
      (a.op = .stop ∧ a.ring = true ∧ a.notify = true) ∧
      s.evFull (128 + 2 * p.val) = false :=
  ⟨running { runT with act := some ⟨.stop, 40960000000, 9, true, true, 5, true⟩ } 0, 0, { runT with act := some ⟨.stop, 40960000000, 9, true, true, 5, true⟩ }, ⟨.stop, 40960000000, 9, true, true, 5, true⟩, by decide +kernel⟩

/-! Command ring entries and bank CRCs -/

theorem wit_CommandRingsComplete_1 : ∃ (s : State) (p : ThreadId) (t : Thread) (b : Octets) (r : List Octets),
      t = s.thread p ∧
      t.cmdIn = b :: r ∧
      s.clocked = true ∧
      cmdValid b = true ∧
      leAt b 0 1 = 0 ∧
      leAt b 1 1 = 1 :=
  ⟨withP3 { Thread.reset with cmdIn := [cmdEnt 0 1 7 0 0] }, 3, { Thread.reset with cmdIn := [cmdEnt 0 1 7 0 0] }, cmdEnt 0 1 7 0 0, [], by decide +kernel⟩

theorem wit_CommandRingsComplete_2 : ∃ (s : State) (p : ThreadId) (t : Thread) (b : Octets) (r : List Octets),
      t = s.thread p ∧
      t.cmdIn = b :: r ∧
      s.clocked = true ∧
      cmdValid b = true ∧
      leAt b 0 1 = 1 ∧
      dtLe (dtAdd (s.replica islPacer) 409600) (BitVec.ofNat 80 (leAt b 8 10)) = true ∧
      t.mbox.length < 8 ∧
      leAt b 1 1 = 0 :=
  ⟨withP3 { Thread.reset with cmdIn := [cmdEnt 1 0 7 9 40960409600] }, 3, { Thread.reset with cmdIn := [cmdEnt 1 0 7 9 40960409600] }, cmdEnt 1 0 7 9 40960409600, [], by decide +kernel⟩

theorem wit_CommandRingsComplete_3 : ∃ (s : State) (p : ThreadId) (t : Thread) (b : Octets) (r : List Octets),
      t = s.thread p ∧
      t.cmdIn = b :: r ∧
      s.clocked = true ∧
      cmdValid b = true ∧
      leAt b 0 1 = 1 ∧
      dtLe (dtAdd (s.replica islPacer) 409600) (BitVec.ofNat 80 (leAt b 8 10)) = false :=
  ⟨withP3 { Thread.reset with cmdIn := [cmdEnt 1 0 7 9 40960409599] }, 3, { Thread.reset with cmdIn := [cmdEnt 1 0 7 9 40960409599] }, cmdEnt 1 0 7 9 40960409599, [], by decide +kernel⟩

theorem wit_CommandRingsComplete_4 : ∃ (s : State) (p : ThreadId) (t : Thread) (b : Octets) (r : List Octets),
      t = s.thread p ∧
      t.cmdIn = b :: r ∧
      s.clocked = true ∧
      cmdValid b = true ∧
      leAt b 0 1 = 2 ∧
      dtLe (dtAdd (s.replica islPacer) 4096000) (BitVec.ofNat 80 (leAt b 8 10)) = true ∧
      t.act = none :=
  ⟨withP3 { Thread.reset with cmdIn := [cmdEnt 2 1 7 9 40964096000] }, 3, { Thread.reset with cmdIn := [cmdEnt 2 1 7 9 40964096000] }, cmdEnt 2 1 7 9 40964096000, [], by decide +kernel⟩

theorem wit_CommandRingsComplete_5 : ∃ (s : State) (p : ThreadId) (t : Thread) (b : Octets) (r : List Octets),
      t = s.thread p ∧
      t.cmdIn = b :: r ∧
      s.clocked = true ∧
      cmdValid b = true ∧
      leAt b 0 1 = 3 ∧
      dtLe (dtAdd (s.replica islPacer) 4096000) (BitVec.ofNat 80 (leAt b 8 10)) = true ∧
      t.act = none :=
  ⟨withP3 { Thread.reset with cmdIn := [cmdEnt 3 1 7 0 40964096000] }, 3, { Thread.reset with cmdIn := [cmdEnt 3 1 7 0 40964096000] }, cmdEnt 3 1 7 0 40964096000, [], by decide +kernel⟩

theorem wit_CommandRingsComplete_6 : ∃ (s : State) (p : ThreadId) (t : Thread) (b : Octets) (r : List Octets),
      t = s.thread p ∧
      t.cmdIn = b :: r ∧
      s.clocked = true ∧
      cmdValid b = true ∧
      leAt b 0 1 = 4 ∧
      dtLe (dtAdd (s.replica islPacer) 4096000) (BitVec.ofNat 80 (leAt b 8 10)) = true ∧
      t.act = none :=
  ⟨withP3 { Thread.reset with cmdIn := [cmdEnt 4 1 7 0 40964096000] }, 3, { Thread.reset with cmdIn := [cmdEnt 4 1 7 0 40964096000] }, cmdEnt 4 1 7 0 40964096000, [], by decide +kernel⟩

theorem wit_CommandRingsComplete_7a : ∃ (s : State) (p : ThreadId) (t : Thread) (b : Octets) (r : List Octets) (c : Instr),
      t = s.thread p ∧
      t.cmdIn = b :: r ∧
      s.clocked = true ∧
      cmdValid b = false ∧
      (c = .cmdNop p ∧ (leAt b 0 1 = 0 ∨ 5 ≤ leAt b 0 1) ∨
        (c, leAt b 0 1) ∈ [(.cmdPost p, 1), (.cmdStart p, 2), (.cmdStop p, 3), (.cmdResume p, 4)]) :=
  ⟨withP3 { Thread.reset with cmdIn := [cmdEnt 5 0 7 9 1] }, 3, { Thread.reset with cmdIn := [cmdEnt 5 0 7 9 1] }, cmdEnt 5 0 7 9 1, [], .cmdNop 3, by decide +kernel⟩

theorem wit_CommandRingsComplete_7b : ∃ (s : State) (p : ThreadId) (t : Thread) (b : Octets) (r : List Octets) (c : Instr),
      t = s.thread p ∧
      t.cmdIn = b :: r ∧
      s.clocked = true ∧
      cmdValid b = false ∧
      (c = .cmdNop p ∧ (leAt b 0 1 = 0 ∨ 5 ≤ leAt b 0 1) ∨
        (c, leAt b 0 1) ∈ [(.cmdPost p, 1), (.cmdStart p, 2), (.cmdStop p, 3), (.cmdResume p, 4)]) :=
  ⟨withP3 { Thread.reset with cmdIn := [cmdEnt 3 0 7 9 1] }, 3, { Thread.reset with cmdIn := [cmdEnt 3 0 7 9 1] }, cmdEnt 3 0 7 9 1, [], .cmdStop 3, by decide +kernel⟩

theorem wit_CommandRingsComplete_8 : ∃ (s : State) (p : ThreadId) (t : Thread) (b : Octets) (r : List Octets) (c : Instr),
      t = s.thread p ∧
      t.cmdIn = b :: r ∧
      s.clocked = true ∧
      cmdValid b = true ∧
      (c, leAt b 0 1) ∈ [(.cmdStart p, 2), (.cmdStop p, 3), (.cmdResume p, 4)] ∧
      dtLe (dtAdd (s.replica islPacer) 4096000) (BitVec.ofNat 80 (leAt b 8 10)) = false :=
  ⟨withP3 { Thread.reset with cmdIn := [cmdEnt 4 0 7 0 1] }, 3, { Thread.reset with cmdIn := [cmdEnt 4 0 7 0 1] }, cmdEnt 4 0 7 0 1, [], .cmdResume 3, by decide +kernel⟩

theorem wit_CommandRingsComplete_9 : ∃ (s : State),
      s.hostReach = true :=
  ⟨day, by decide +kernel⟩

theorem wit_CommandRingsComplete_10 : ∃ (s : State),
      s.clocked = true ∧
      s.pacer.crcBusy = true ∧
      s.pacer.crcDirty = false :=
  ⟨{ day with pacer := { Pacer.reset with crcBusy := true } }, by decide +kernel⟩

theorem wit_CommandRingsComplete_11 : ∃ (s : State),
      s.clocked = true ∧
      s.pacer.crcBusy = true ∧
      s.pacer.crcDirty = true :=
  ⟨{ day with pacer := { Pacer.reset with crcBusy := true, crcDirty := true } }, by decide +kernel⟩

/-! Engines start, play, jump, change rate and stop -/

theorem wit_EnginesComplete_1 : ∃ (s : State) (v : EngineId) (n : BitVec 10) (ta : DT) (p : ThreadId),
      s.idleMsg v = some (.start n ta p) ∧
      (eValid (s.entry v n.toNat) = true ∧ eStream (s.entry v n.toNat) = false) ∧
      s.idleOk v = true :=
  ⟨engDay { Engine.reset with msgs := [.start 1 40960000000 2] }, 0, 1, 40960000000, 2, by decide +kernel⟩

theorem wit_EnginesComplete_2 : ∃ (s : State) (v : EngineId) (m : EngMsg),
      s.runningStart v = some m :=
  ⟨engDay { playing 3 with msgs := [.start 1 40960000000 2] }, 0, .start 1 40960000000 2, by decide +kernel⟩

theorem wit_EnginesComplete_3 : ∃ (s : State) (v : EngineId),
      s.vecDue v = true ∧
      s.stopDue v = false ∧
      s.rateIsDue v = false ∧
      (s.engine v).pos < s.playLen v ∧
      ((s.engine v).fixed.isSome = true ∨ (s.engine v).pos + 8 < s.playLen v) :=
  ⟨engDay (playing 3), 0, by decide +kernel⟩

theorem wit_EnginesComplete_4 : ∃ (s : State) (v : EngineId) (n : BitVec 10),
      s.vecDue v = true ∧
      s.stopDue v = false ∧
      s.rateIsDue v = false ∧
      ((s.engine v).fixed = none ∧ s.playLen v ≤ (s.engine v).pos + 8) ∧
      (s.engine v).jump = some n ∧
      (eValid (s.entry v n.toNat) = true ∧ eStream (s.entry v n.toNat) = false) :=
  ⟨engDay { playing 248 with jump := some 1 }, 0, 1, by decide +kernel⟩

theorem wit_EnginesComplete_5 : ∃ (s : State) (v : EngineId) (n : BitVec 10),
      s.vecDue v = true ∧
      s.stopDue v = false ∧
      s.rateIsDue v = false ∧
      ((s.engine v).fixed = none ∧ s.playLen v ≤ (s.engine v).pos + 8) ∧
      ((s.engine v).jump = none ∧ (s.engine v).state = .play) ∧
      (eCount (s.entry v (s.engine v).seg.toNat) = 0 ∨
        (s.engine v).plays + 1 < eCount (s.entry v (s.engine v).seg.toNat)) ∧
      n = (s.engine v).seg ∧
      (eValid (s.entry v n.toNat) = true ∧ eStream (s.entry v n.toNat) = false) :=
  ⟨engDay (playing 248), 0, 1, by decide +kernel⟩

theorem wit_EnginesComplete_6 : ∃ (s : State) (v : EngineId),
      s.vecDue v = true ∧
      s.stopDue v = false ∧
      s.rateIsDue v = false ∧
      ((s.engine v).fixed = none ∧ s.playLen v ≤ (s.engine v).pos + 8) ∧
      ((s.engine v).jump = none ∧ (s.engine v).state = .play) ∧
      (eCount (s.entry v (s.engine v).seg.toNat) ≠ 0 ∧
        eCount (s.entry v (s.engine v).seg.toNat) ≤ (s.engine v).plays + 1) ∧
      eEnd (s.entry v (s.engine v).seg.toNat) = true :=
  ⟨(day.setIsland 0x49 { Isl.reset with active := [(0x100000, 0x4000), (0x100004, 0x1000000), (0x100008, 0x4004), (0x10000C, 0x1400040)] }).setEngine 0 (playing 248), 0, by decide +kernel⟩

theorem wit_EnginesComplete_7 : ∃ (s : State) (v : EngineId) (n : Nat),
      s.vecDue v = true ∧
      s.stopDue v = false ∧
      s.rateIsDue v = false ∧
      ((s.engine v).fixed = none ∧ s.playLen v ≤ (s.engine v).pos + 8) ∧
      ((s.engine v).jump = none ∧ (s.engine v).state = .play) ∧
      (eCount (s.entry v (s.engine v).seg.toNat) ≠ 0 ∧
        eCount (s.entry v (s.engine v).seg.toNat) ≤ (s.engine v).plays + 1) ∧
      (eEnd (s.entry v (s.engine v).seg.toNat) = false ∧ n = eNext (s.entry v (s.engine v).seg.toNat)) ∧
      (eValid (s.entry v n) = true ∧ eStream (s.entry v n) = false) :=
  ⟨(day.setIsland 0x49 { Isl.reset with active := [(0x100000, 0x4000), (0x100004, 0x1000000), (0x100008, 0x4004), (0x10000C, 0x1000040)] }).setEngine 0 (playing 248), 0, 0, by decide +kernel⟩

theorem wit_EnginesComplete_8 : ∃ (s : State) (v : EngineId) (n : BitVec 10),
      s.vecDue v = true ∧
      s.stopDue v = false ∧
      s.rateIsDue v = false ∧
      ((s.engine v).fixed = none ∧ s.playLen v ≤ (s.engine v).pos + 8) ∧
      (s.engine v).jump = some n ∧
      (eValid (s.entry v n.toNat) = true ∧ eStream (s.entry v n.toNat) = true ∧ (s.engine v).isReady n.toNat = false) ∧
      s.idleOk v = true :=
  ⟨engDay { playing 248 with jump := some 2 } [(0x100010, 0x8004008), (0x100014, 0x1000000)], 0, 2, by decide +kernel⟩

theorem wit_EnginesComplete_9 : ∃ (s : State) (v : EngineId) (n : BitVec 10),
      s.vecDue v = true ∧
      s.stopDue v = false ∧
      s.rateIsDue v = false ∧
      ((s.engine v).fixed = none ∧ s.playLen v ≤ (s.engine v).pos + 8) ∧
      (s.engine v).jump = some n ∧
      eValid (s.entry v n.toNat) = false ∧
      s.idleOk v = true :=
  ⟨engDay { playing 248 with jump := some 3 }, 0, 3, by decide +kernel⟩

theorem wit_EnginesComplete_10a : ∃ (s : State) (v : EngineId) (n : BitVec 10) (plays : Nat) (jumped : Bool),
      s.vecDue v = true ∧
      s.stopDue v = false ∧
      s.rateIsDue v = false ∧
      ((s.engine v).fixed = some (.seg n plays jumped) ∧ s.playLen v ≤ (s.engine v).pos) :=
  ⟨engDay { playing 256 with fixed := some (.seg 1 0 true), plays := 4 }, 0, 1, 0, true, by decide +kernel⟩

theorem wit_EnginesComplete_10b : ∃ (s : State) (v : EngineId) (n : BitVec 10) (plays : Nat) (jumped : Bool),
      s.vecDue v = true ∧
      s.stopDue v = false ∧
      s.rateIsDue v = false ∧
      ((s.engine v).fixed = some (.seg n plays jumped) ∧ s.playLen v ≤ (s.engine v).pos) :=
  ⟨engDay { playing 256 with fixed := some (.seg 1 5 false), plays := 4 }, 0, 1, 5, false, by decide +kernel⟩

theorem wit_EnginesComplete_11 : ∃ (s : State) (v : EngineId),
      s.vecDue v = true ∧
      s.stopDue v = false ∧
      s.rateIsDue v = false ∧
      ((s.engine v).fixed = some .stopEnd ∧ s.playLen v ≤ (s.engine v).pos) :=
  ⟨engDay { playing 256 with fixed := some .stopEnd }, 0, by decide +kernel⟩

theorem wit_EnginesComplete_12 : ∃ (s : State) (v : EngineId) (n : BitVec 10),
      s.vecDue v = true ∧
      s.stopDue v = false ∧
      s.rateIsDue v = false ∧
      ((s.engine v).fixed = some (.idle n true) ∧ s.playLen v ≤ (s.engine v).pos) ∧
      (s.engine v).starving = false :=
  ⟨engDay { playing 256 with fixed := some (.idle 0 true) }, 0, 0, by decide +kernel⟩

theorem wit_EnginesComplete_13 : ∃ (s : State) (v : EngineId) (n : BitVec 10) (p : ThreadId) (r : List (BitVec 10 × ThreadId)),
      (s.engine v).jumpsIn = (n, p) :: r ∧
      s.clocked = true ∧
      (s.engine v).state ≠ .stopped ∧
      (s.engine v).jump = none :=
  ⟨engDay { playing 3 with jumpsIn := [(1, 2)] }, 0, 1, 2, [], by decide +kernel⟩

theorem wit_EnginesComplete_14 : ∃ (s : State) (v : EngineId) (n : BitVec 10) (p : ThreadId) (r : List (BitVec 10 × ThreadId)),
      (s.engine v).jumpsIn = (n, p) :: r ∧
      s.clocked = true ∧
      (s.engine v).state ≠ .stopped ∧
      (s.engine v).jump.isSome = true :=
  ⟨engDay { playing 3 with jumpsIn := [(1, 2)], jump := some 0 }, 0, 1, 2, [], by decide +kernel⟩

theorem wit_EnginesComplete_15 : ∃ (s : State) (v : EngineId) (n : BitVec 10) (p : ThreadId) (r : List (BitVec 10 × ThreadId)),
      (s.engine v).jumpsIn = (n, p) :: r ∧
      s.clocked = true ∧
      (s.engine v).state = .stopped :=
  ⟨engDay { Engine.reset with jumpsIn := [(1, 2)] }, 0, 1, 2, [], by decide +kernel⟩

theorem wit_EnginesComplete_16 : ∃ (s : State) (v : EngineId) (ta : DT) (p : ThreadId),
      s.vecDue v = true ∧
      (s.engine v).msgs = [.stop ta p] ∧
      dtLe ta (s.engine v).nextVec = true :=
  ⟨engDay { playing 3 with msgs := [.stop 40960000000 2] }, 0, 40960000000, 2, by decide +kernel⟩

theorem wit_EnginesComplete_17 : ∃ (s : State) (v : EngineId) (ta : DT) (p : ThreadId),
      s.idleMsg v = some (.stop ta p) :=
  ⟨engDay { Engine.reset with msgs := [.stop 40960000000 2] }, 0, 40960000000, 2, by decide +kernel⟩

theorem wit_EnginesComplete_18 : ∃ (s : State) (v : EngineId) (n : Word) (ta : DT) (p : ThreadId) (q : Nat),
      s.vecDue v = true ∧
      (s.engine v).msgs = [.rate n ta p] ∧
      dtLe ta (s.engine v).nextVec = true ∧
      s.endDue v = false ∧
      (q = if n = 0 then 2 ^ 32 else max n.toNat 20480) :=
  ⟨engDay { playing 3 with msgs := [.rate 30000 40960000000 2] }, 0, 30000, 40960000000, 2, 30000, by decide +kernel⟩

theorem wit_EnginesComplete_19 : ∃ (s : State) (v : EngineId) (n : Word) (ta : DT) (p : ThreadId),
      s.idleMsg v = some (.rate n ta p) :=
  ⟨engDay { Engine.reset with msgs := [.rate 30000 40960000000 2] }, 0, 30000, 40960000000, 2, by decide +kernel⟩

/-! Slots, strobes, streams and vector memory -/

theorem wit_SlotsAndMemoryComplete_1 : ∃ (s : State) (v : EngineId) (i : SpokeId) (n edge : Nat) (d : Drv),
      s.vecDue v = true ∧
      s.stopDue v = false ∧
      s.rateIsDue v = false ∧
      (s.engine v).pos < s.playLen v ∧
      ((s.engine v).fixed.isSome = true ∨ (s.engine v).pos + 8 < s.playLen v) ∧
      ((∀ j : SpokeId, ownerIn (s.engRegs v) j.val = some v ↔ j = i)) ∧
      n = s.slotAt (64 * eBase (s.entry v (s.engine v).seg.toNat) + (s.engine v).pos) i ∧
      (n % 8 < 5 ∧ slotDrv (n % 8) = some d) ∧
      (edge = (regGet (s.engRegs v) (tsKey v i.val (n / 8 % 8) false)).toNat ∧ edge < (s.engine v).period) ∧
      ((s.engine v).acts = [] ∧ (s.spoke i).drv ≠ d ∧ (s.req i).st ≠ 2) :=
  ⟨{ (day.setIsland 0x49 { Isl.reset with active := [(0x10028, 8), (0x100000, 0x4000), (0x100004, 0x1000000), (0x100008, 0x4004), (0x10000C, 0x1000000)] }).setEngine 0 (playing 3) with mem := [(16579, 2)] }, 0, 3, 2, 0, .high, by decide +kernel⟩

theorem wit_SlotsAndMemoryComplete_2 : ∃ (s : State) (v : EngineId) (i : SpokeId) (a : DriveAct),
      (s.engine v).acts.find? (fun a => a.spoke == i) = some a ∧
      s.clocked = true ∧
      dtLe a.at_ s.dt = true ∧
      s.clearTo i a.at_ = true ∧
      s.owner i = some v ∧
      (s.spoke i).out ≠ 0 ∧
      (s.spoke i).drv ≠ a.drv ∧
      s.tooClose i (s.spoke i).lastAct a.at_ = false ∧
      s.hub.hold = false ∧
      s.suppressed = false ∧
      (s.spoke i).inModeGap a.at_ = false :=
  ⟨((engDay { playing 3 with acts := [⟨3, 40960000000, .high⟩] }).setIsland 3 { Isl.reset with active := [(0x10028, 8), (0x20300, 1)] }).setSpoke 3 { Spoke.reset with out := 1 }, 0, 3, ⟨3, 40960000000, .high⟩, by decide +kernel⟩

theorem wit_SlotsAndMemoryComplete_3 : ∃ (s : State) (v : EngineId) (i : SpokeId) (a : DriveAct),
      (s.engine v).acts.find? (fun a => a.spoke == i) = some a ∧
      s.clocked = true ∧
      dtLe a.at_ s.dt = true ∧
      s.clearTo i a.at_ = true ∧
      s.owner i = some v ∧
      (s.spoke i).out ≠ 0 ∧
      (s.spoke i).drv ≠ a.drv ∧
      s.tooClose i (s.spoke i).lastAct a.at_ = true :=
  ⟨((engDay { playing 3 with acts := [⟨3, 40960000000, .high⟩] }).setIsland 3 { Isl.reset with active := [(0x10028, 8), (0x20300, 1)] }).setSpoke 3 { Spoke.reset with out := 1, lastAct := some 40959999999 }, 0, 3, ⟨3, 40960000000, .high⟩, by decide +kernel⟩

theorem wit_SlotsAndMemoryComplete_4 : ∃ (s : State) (v : EngineId) (i : SpokeId) (x : Strobe) (b : Bool),
      (s.engine v).strobes.find? (fun x => x.spoke == i) = some x ∧
      s.clocked = true ∧
      dtLe (dtAdd x.at_ (deskewIn (s.island (islSpoke i)).active i true)) s.dt = true ∧
      s.swapBefore (islSpoke i) x.at_ = false ∧
      x.expect = some b ∧
      (s.spoke i).pin = b :=
  ⟨((engDay { playing 3 with strobes := [⟨3, 40960000000, some false, 0, false, 1, 2, 0, 0⟩] }).setIsland 3 { Isl.reset with active := [(0x10028, 8), (0x20300, 1)] }).setSpoke 3 { Spoke.reset with out := 1 }, 0, 3, ⟨3, 40960000000, some false, 0, false, 1, 2, 0, 0⟩, false, by decide +kernel⟩

theorem wit_SlotsAndMemoryComplete_5 : ∃ (s : State) (v : EngineId) (i : SpokeId) (x : Strobe) (b : Bool),
      (s.engine v).strobes.find? (fun x => x.spoke == i) = some x ∧
      s.clocked = true ∧
      dtLe (dtAdd x.at_ (deskewIn (s.island (islSpoke i)).active i true)) s.dt = true ∧
      s.swapBefore (islSpoke i) x.at_ = false ∧
      x.expect = some b ∧
      (s.spoke i).pin ≠ b ∧
      (s.engine v).ffValid = false :=
  ⟨((engDay { playing 3 with strobes := [⟨3, 40960000000, some true, 0, false, 1, 2, 0, 0⟩] }).setIsland 3 { Isl.reset with active := [(0x10028, 8), (0x20300, 1)] }).setSpoke 3 { Spoke.reset with out := 1 }, 0, 3, ⟨3, 40960000000, some true, 0, false, 1, 2, 0, 0⟩, true, by decide +kernel⟩

theorem wit_SlotsAndMemoryComplete_6 : ∃ (s : State) (v : EngineId) (i : SpokeId) (x : Strobe),
      (s.engine v).strobes.find? (fun x => x.spoke == i) = some x ∧
      s.clocked = true ∧
      dtLe (dtAdd x.at_ (deskewIn (s.island (islSpoke i)).active i true)) s.dt = true ∧
      s.swapBefore (islSpoke i) x.at_ = false ∧
      x.expect = none :=
  ⟨((engDay { playing 3 with strobes := [⟨3, 40960000000, none, 0, false, 1, 2, 0, 0⟩] }).setIsland 3 { Isl.reset with active := [(0x10028, 8), (0x20300, 1)] }).setSpoke 3 { Spoke.reset with out := 1 }, 0, 3, ⟨3, 40960000000, none, 0, false, 1, 2, 0, 0⟩, by decide +kernel⟩

theorem wit_SlotsAndMemoryComplete_7 : ∃ (s : State) (v : EngineId),
      s.hostReach = true :=
  ⟨engDay { playing 3 with ffValid := true }, 0, by decide +kernel⟩

theorem wit_SlotsAndMemoryComplete_8 : ∃ (s : State) (v : EngineId) (b : Octets) (r : List Octets) (e : Nat),
      (s.engine v).feedIn = b :: r ∧
      s.clocked = true ∧
      (s.engine v).fill = none ∧
      (leAt b 0 2 < 1024 ∧ leAt b 2 1 < 2 ∧ leAt b 3 5 = 0 ∧ leAt b 8 8 % 64 = 0 ∧ leAt b 16 16 = 0) ∧
      e = s.entry v (leAt b 0 2) ∧
      (eValid e = true ∧ eStream e = true) :=
  ⟨engDay { playing 3 with feedIn := [leOctets 32 (2 + 0x10000 + 64 * 2 ^ 64)] } [(0x100010, 0x8004008), (0x100014, 0x1000000)], 0, leOctets 32 (2 + 0x10000 + 64 * 2 ^ 64), [], 0x100000008004008, by decide +kernel⟩

theorem wit_SlotsAndMemoryComplete_9 : ∃ (s : State) (v : EngineId) (b : Octets) (r : List Octets),
      (s.engine v).feedIn = b :: r ∧
      s.clocked = true ∧
      (s.engine v).fill = none ∧
      (eStream (s.entry v (leAt b 0 2 % 1024)) = false ∨ leAt b 8 8 % 64 ≠ 0) :=
  ⟨engDay { playing 3 with feedIn := [leOctets 32 1] }, 0, leOctets 32 1, [], by decide +kernel⟩

theorem wit_SlotsAndMemoryComplete_10 : ∃ (s : State) (v : EngineId) (data : Octets) (f : Fill),
      (s.engine v).fill = some f ∧
      s.clocked = true ∧
      data.length = 64 * f.vecs ∧
      (f.advance s f.vecs).met = none ∧
      (64 * eBase (s.entry v f.seg.toNat) = f.first ∧ eVecs (s.entry v f.seg.toNat) = f.vecs) ∧
      f.notify = false :=
  ⟨engDay { playing 3 with fill := some ⟨2, false, 512, 64, 0, 0, none⟩ } [(0x100010, 0x8001008), (0x100014, 0x1000000)], 0, List.replicate 4096 7, ⟨2, false, 512, 64, 0, 0, none⟩, by decide +kernel⟩

theorem wit_SlotsAndMemoryComplete_11 : ∃ (s : State) (v : EngineId) (data : Octets) (f : Fill) (x : Nat × List Nat),
      (s.engine v).fill = some f ∧
      s.clocked = true ∧
      data.length = 64 * f.vecs ∧
      (f.advance s f.vecs).met = some x :=
  ⟨engDay { playing 3 with fill := some ⟨2, false, 192, 128, 0, 0, none⟩ } [(0x100010, 0x8001008), (0x100014, 0x1000000)], 0, List.replicate 8192 7, ⟨2, false, 192, 128, 0, 0, none⟩, (256, [64, 0, 0, 0]), by decide +kernel⟩

theorem wit_SlotsAndMemoryComplete_12 : ∃ (s : State) (a : BitVec 23) (data : List (Option Byte)),
      s.hostReach = true ∧
      (touched a.toNat data).any s.anyActive = false :=
  ⟨engDay (playing 3), 0x7FFFFC, [some 1, none, some 3, some 4], by decide +kernel⟩

theorem wit_SlotsAndMemoryComplete_13 : ∃ (s : State) (v : EngineId) (a : BitVec 23) (b : Byte),
      s.hostReach = true ∧
      s.inActive v (a.toNat / 64) = true ∧
      ((∀ x : EngineId, x ≠ v → s.inActive x (a.toNat / 64) = false)) :=
  ⟨engDay (playing 3), 0, 0x4000, 5, by decide +kernel⟩

/-! Segment records, the axis model, and targets -/

theorem wit_CrankSegmentsComplete_1 : ∃ (s : State) (a : AxisId),
      s.hostReach = true ∧
      s.crank.segwState ≠ 1 :=
  ⟨{ day with imm := [(0xC800, 5), (0xC804, 6)] }, 2, by decide +kernel⟩

theorem wit_CrankSegmentsComplete_2 : ∃ (s : State) (a : AxisId),
      s.hostReach = true ∧
      s.crank.segwState = 1 :=
  ⟨{ day with crank := { Crank.reset with segwState := 1 } }, 2, by decide +kernel⟩

theorem wit_CrankSegmentsComplete_3 : ∃ (s : State) (m : RecIn) (r : List RecIn),
      s.ready islCrank = true ∧
      s.crank.recIn = m :: r ∧
      m.src = .host ∧
      (s.axesOf m).contains m.axis = true ∧
      badRecord m.bytes = false ∧
      dtLe (dtAdd (s.replica islCrank) 2048000) (BitVec.ofNat 80 (leAt m.bytes 0 10)) = true ∧
      (replaceFrom (s.axis m.axis).segs (segOf m.bytes)).length ≤ 16 :=
  ⟨{ day with crank := { Crank.reset with recIn := [⟨2, .host, leOctets 48 (40962048000 + 2 ^ 80 + 4096000 * 2 ^ 88 + 5 * 2 ^ 128 + 65536 * 2 ^ 192), true, none, none⟩] } }, ⟨2, .host, leOctets 48 (40962048000 + 2 ^ 80 + 4096000 * 2 ^ 88 + 5 * 2 ^ 128 + 65536 * 2 ^ 192), true, none, none⟩, [], by decide +kernel⟩

theorem wit_CrankSegmentsComplete_4 : ∃ (s : State) (m : RecIn) (r : List RecIn) (c : PortId) (x : Byte) (a : AxisId),
      s.ready islCrank = true ∧
      s.crank.recIn = m :: r ∧
      m.src = .frame c x ∧
      s.axesOf m = [a] ∧
      badRecord m.bytes = false ∧
      dtLe (dtAdd (s.replica islCrank) 2048000) (BitVec.ofNat 80 (leAt m.bytes 0 10)) = true ∧
      (replaceFrom (s.axis a).segs (segOf m.bytes)).length ≤ 16 :=
  ⟨{ day.setIsland 0x4D { Isl.reset with active := [(0xC200, 0x5A)] } with crank := { Crank.reset with recIn := [⟨0, .frame 2 5, leOctets 48 (40962048000 + 2 ^ 80 + 4096000 * 2 ^ 88 + 5 * 2 ^ 128 + 65536 * 2 ^ 192), true, none, none⟩] } }, ⟨0, .frame 2 5, leOctets 48 (40962048000 + 2 ^ 80 + 4096000 * 2 ^ 88 + 5 * 2 ^ 128 + 65536 * 2 ^ 192), true, none, none⟩, [], 2, 5, 2, by decide +kernel⟩

theorem wit_CrankSegmentsComplete_5 : ∃ (s : State) (m : RecIn) (r : List RecIn) (c : PortId) (x : Byte),
      s.ready islCrank = true ∧
      s.crank.recIn = m :: r ∧
      m.src = .frame c x ∧
      s.axesOf m = [] :=
  ⟨{ day with crank := { Crank.reset with recIn := [⟨0, .frame 2 5, [], true, none, none⟩] } }, ⟨0, .frame 2 5, [], true, none, none⟩, [], 2, 5, by decide +kernel⟩

theorem wit_CrankSegmentsComplete_6 : ∃ (s : State) (m : RecIn) (r : List RecIn) (k : Nat),
      s.ready islCrank = true ∧
      s.crank.recIn = m :: r ∧
      m.src = .host ∧
      recordCheck s m.axis (s.axesOf m) m.bytes = some k :=
  ⟨{ day with dt := 40960006554, crank := { Crank.reset with recIn := [⟨2, .host, leOctets 48 (40962048000 + 2 ^ 80 + 4096000 * 2 ^ 88 + 5 * 2 ^ 128 + 65536 * 2 ^ 192), true, none, none⟩] } }, ⟨2, .host, leOctets 48 (40962048000 + 2 ^ 80 + 4096000 * 2 ^ 88 + 5 * 2 ^ 128 + 65536 * 2 ^ 192), true, none, none⟩, [], 4, by decide +kernel⟩

theorem wit_CrankSegmentsComplete_7 : ∃ (s : State) (a : AxisId) (g : Segment) (r : List Segment),
      s.clocked = true ∧
      ((s.axis a).dry = false ∧ (s.axis a).segs = g :: r) ∧
      (g.started = false ∧ g.t0.toNat ≤ s.dt.toNat) ∧
      g.evt = true :=
  ⟨day.setAxis 2 { Axis.reset with dry := false, segs := [⟨40959000000, 4096000, true, 5, 65536000, 0, 0, 40963096000, .mono, false, 0⟩] }, 2, ⟨40959000000, 4096000, true, 5, 65536000, 0, 0, 40963096000, .mono, false, 0⟩, [], by decide +kernel⟩

theorem wit_CrankSegmentsComplete_8 : ∃ (s : State) (a : AxisId) (g : Segment) (r : List Segment),
      s.clocked = true ∧
      ((s.axis a).dry = false ∧ (s.axis a).segs = g :: r) ∧
      (g.started = false ∧ g.t0.toNat ≤ s.dt.toNat) ∧
      g.evt = false :=
  ⟨day.setAxis 2 { Axis.reset with dry := false, segs := [{ (⟨40959000000, 4096000, true, 5, 65536000, 0, 0, 40963096000, .mono, false, 0⟩ : Segment) with evt := false }] }, 2, { (⟨40959000000, 4096000, true, 5, 65536000, 0, 0, 40963096000, .mono, false, 0⟩ : Segment) with evt := false }, [], by decide +kernel⟩

theorem wit_CrankSegmentsComplete_9 : ∃ (s : State) (a : AxisId) (g : Segment) (r : List Segment),
      s.ready islCrank = true ∧
      ((s.axis a).dry = true ∧ (s.axis a).segs = g :: r) ∧
      g.t0.toNat ≤ s.dt.toNat :=
  ⟨day.setAxis 2 { Axis.reset with segs := [⟨40959000000, 4096000, true, 5, 65536000, 0, 0, 40963096000, .mono, false, 0⟩] }, 2, ⟨40959000000, 4096000, true, 5, 65536000, 0, 0, 40963096000, .mono, false, 0⟩, [], by decide +kernel⟩

theorem wit_CrankSegmentsComplete_10 : ∃ (s : State) (a : AxisId) (f g : Segment) (r : List Segment),
      s.ready islCrank = true ∧
      ((s.axis a).dry = false ∧ (s.axis a).segs = f :: g :: r) ∧
      (f.heldEnd.toNat ≤ s.dt.toNat ∧ g.t0 = f.heldEnd) :=
  ⟨day.setAxis 2 { Axis.reset with dry := false, segs := [{ (⟨40959000000, 4096000, true, 5, 65536000, 0, 0, 40963096000, .mono, false, 0⟩ : Segment) with t0 := 1, heldEnd := 40959000000 }, ⟨40959000000, 4096000, true, 5, 65536000, 0, 0, 40963096000, .mono, false, 0⟩] }, 2, { (⟨40959000000, 4096000, true, 5, 65536000, 0, 0, 40963096000, .mono, false, 0⟩ : Segment) with t0 := 1, heldEnd := 40959000000 }, ⟨40959000000, 4096000, true, 5, 65536000, 0, 0, 40963096000, .mono, false, 0⟩, [], by decide +kernel⟩

theorem wit_CrankSegmentsComplete_11 : ∃ (s : State) (a : AxisId) (g : Segment),
      s.clocked = true ∧
      ((s.axis a).dry = false ∧ (s.axis a).segs = [g]) ∧
      g.heldEnd.toNat ≤ s.dt.toNat :=
  ⟨day.setAxis 2 { Axis.reset with dry := false, segs := [{ (⟨40959000000, 4096000, true, 5, 65536000, 0, 0, 40963096000, .mono, false, 0⟩ : Segment) with t0 := 1, heldEnd := 40959000000 }] }, 2, { (⟨40959000000, 4096000, true, 5, 65536000, 0, 0, 40963096000, .mono, false, 0⟩ : Segment) with t0 := 1, heldEnd := 40959000000 }, by decide +kernel⟩

theorem wit_CrankSegmentsComplete_12 : ∃ (s : State) (a : AxisId),
      s.hostReach = true ∧
      ((∀ g ∈ (s.axis a).tgts, g.st = .posted ∨ g.st = .noTime)) :=
  ⟨day.setAxis 2 { Axis.reset with dry := false, segs := [⟨40959000000, 4096000, true, 5, 65536000, 0, 0, 40963096000, .mono, false, 0⟩] }, 2, by decide +kernel⟩

theorem wit_CrankSegmentsComplete_13 : ∃ (s : State) (a : AxisId) (g : Target) (r : List Target),
      (s.ready islCrank = true ∧ s.crank.recIn = []) ∧
      ((s.axis a).tgts = g :: r ∧ g.st = .posted) ∧
      s.axCfg a 12 2 = 0 ∧
      (s.axis a).segs = [] :=
  ⟨day.setAxis 2 { Axis.reset with tgts := [⟨3, 21, .posted⟩] }, 2, ⟨3, 21, .posted⟩, [], by decide +kernel⟩

theorem wit_CrankSegmentsComplete_14 : ∃ (s : State) (a : AxisId) (g : Target) (r : List Target) (d : DT),
      (s.ready islCrank = true ∧ s.crank.recIn = []) ∧
      ((s.axis a).tgts = g :: r ∧ g.st = .posted) ∧
      s.axCfg a 12 2 = 0 ∧
      searchFrom s.dt.toNat g.pos (s.axis a).segs ((s.axis a).held, (s.axis a).heldDen) = .time d :=
  ⟨day.setAxis 2 { Axis.reset with dry := false, segs := [⟨40959000000, 4096000, true, 5, 65536000, 0, 0, 40963096000, .mono, false, 0⟩], tgts := [⟨3, 505, .posted⟩] }, 2, ⟨3, 505, .posted⟩, [], 40961048000, by decide +kernel⟩

theorem wit_CrankSegmentsComplete_15 : ∃ (s : State) (a : AxisId) (g : Target) (r : List Target) (x d : DT),
      s.clocked = true ∧
      ((s.axis a).tgts = g :: r ∧ g.st = .solving x d false) ∧
      dtLe (dtAdd (s.replica islCrank) 409600) d = true :=
  ⟨day.setAxis 2 { Axis.reset with tgts := [⟨3, 21, .solving 4 40960409600 false⟩] }, 2, ⟨3, 21, .solving 4 40960409600 false⟩, [], 4, 40960409600, by decide +kernel⟩

theorem wit_CrankSegmentsComplete_16 : ∃ (s : State) (a : AxisId) (g : Target) (r : List Target) (x d : DT),
      s.clocked = true ∧
      ((s.axis a).tgts = g :: r ∧ g.st = .solving x d false) ∧
      dtLe (dtAdd (s.replica islCrank) 409600) d = false :=
  ⟨day.setAxis 2 { Axis.reset with tgts := [⟨3, 21, .solving 4 40960409599 false⟩] }, 2, ⟨3, 21, .solving 4 40960409599 false⟩, [], 4, 40960409599, by decide +kernel⟩

theorem wit_CrankSegmentsComplete_17 : ∃ (s : State) (a : AxisId) (g : Target) (r : List Target) (x : DT),
      s.ready islCrank = true ∧
      ((s.axis a).tgts = g :: r ∧ g.st = .waiting x) ∧
      dtLe (dtAdd x (s.axTmo a)) s.dt = true :=
  ⟨{ day.setAxis 2 { Axis.reset with tgts := [⟨3, 21, .waiting 4⟩] } with dt := 0x100000000000000000 }, 2, ⟨3, 21, .waiting 4⟩, [], 4, by decide +kernel⟩

theorem wit_CrankSegmentsComplete_18 : ∃ (s : State) (a : AxisId) (g : Target) (r : List Target) (x d : DT),
      s.clocked = true ∧
      ((s.axis a).tgts = g :: r ∧ g.st = .solving x d true) :=
  ⟨day.setAxis 2 { Axis.reset with tgts := [⟨3, 21, .solving 4 40960409600 true⟩] }, 2, ⟨3, 21, .solving 4 40960409600 true⟩, [], 4, 40960409600, by decide +kernel⟩

theorem wit_CrankSegmentsComplete_19 : ∃ (s : State) (a : AxisId) (g : Target) (r : List Target) (p : Int × Nat),
      (s.ready islCrank = true ∧ s.crank.recIn = []) ∧
      ((s.axis a).tgts = g :: r ∧ g.st = .posted) ∧
      p = (s.axis a).posAt s.dt ∧
      (s.axCfg a 12 2 = 1 ∧ g.pos * p.2 < p.1 ∨ s.axCfg a 12 2 = 2 ∧ p.1 < g.pos * p.2) :=
  ⟨(day.setIsland 0x4D { Isl.reset with active := [(0xC200, 0x2000)] }).setAxis 2 { Axis.reset with tgts := [⟨3, 21, .posted⟩] }, 2, ⟨3, 21, .posted⟩, [], (0, 1), by decide +kernel⟩

/-! Histograms and trims -/

theorem wit_TruingMeasurementsComplete_1a : ∃ (s : State) (it : ItemId) (c : List Nat) (f : Nat),
      s.clocked = true ∧
      (s.item it).hitFrom = some f ∧
      ((it.val < 64 → (s.req (Fin.ofNat 64 it.val)).st ≠ 2)) ∧
      (boundBroken c = true ∨ 17899520000 < s.hits it) :=
  ⟨truDay.setItem 3 { TruItem.reset with hitFrom := some 40000000000 }, 3, [0], 40000000000, by decide +kernel⟩

theorem wit_TruingMeasurementsComplete_1b : ∃ (s : State) (it : ItemId) (c : List Nat) (f : Nat),
      s.clocked = true ∧
      (s.item it).hitFrom = some f ∧
      ((it.val < 64 → (s.req (Fin.ofNat 64 it.val)).st ≠ 2)) ∧
      (boundBroken c = true ∨ 17899520000 < s.hits it) :=
  ⟨truDay.setItem 65 { TruItem.reset with hitFrom := some 0 }, 65, List.replicate 4096 256, 0, by decide +kernel⟩

theorem wit_TruingMeasurementsComplete_2 : ∃ (s : State) (it : ItemId) (c : List Nat) (f : Nat),
      s.clocked = true ∧
      (s.item it).hitFrom = some f ∧
      ((it.val < 64 → (s.req (Fin.ofNat 64 it.val)).st ≠ 2)) ∧
      boundBroken c = false ∧
      s.hits it ≤ 17899520000 ∧
      (s.item it).prev = none :=
  ⟨truDay.setItem 3 { TruItem.reset with hitFrom := some 40000000000 }, 3, List.replicate 4096 256, 40000000000, by decide +kernel⟩

theorem wit_TruingMeasurementsComplete_3 : ∃ (s : State) (it : ItemId) (c a : List Nat) (f : Nat),
      s.clocked = true ∧
      (s.item it).hitFrom = some f ∧
      ((it.val < 64 → (s.req (Fin.ofNat 64 it.val)).st ≠ 2)) ∧
      boundBroken c = false ∧
      s.hits it ≤ 17899520000 ∧
      (s.item it).prev = some a ∧
      agree a c = true :=
  ⟨truDay.setItem 3 { TruItem.reset with hitFrom := some 40000000000, prev := some (List.replicate 4096 256) }, 3, List.replicate 4096 256, List.replicate 4096 256, 40000000000, by decide +kernel, by decide +kernel, by decide +kernel, by decide +kernel, by decide +kernel, rfl, agree_flat 4096 256⟩

theorem wit_TruingMeasurementsComplete_4 : ∃ (s : State) (it : ItemId) (c a : List Nat) (f : Nat),
      s.clocked = true ∧
      (s.item it).hitFrom = some f ∧
      ((it.val < 64 → (s.req (Fin.ofNat 64 it.val)).st ≠ 2)) ∧
      boundBroken c = false ∧
      s.hits it ≤ 17899520000 ∧
      (s.item it).prev = some a ∧
      agree a c = false :=
  ⟨truDay.setItem 3 { TruItem.reset with hitFrom := some 40000000000, prev := some [5000] }, 3, List.replicate 4096 256, [5000], 40000000000, by decide +kernel⟩

theorem wit_TruingMeasurementsComplete_5 : ∃ (s : State) (i : SpokeId) (c : List Nat) (f : Nat),
      s.clocked = true ∧
      (s.item (itemOf i)).hitFrom = some f ∧
      ((s.req i).st = 2 ∧ (s.req i).histA = none) :=
  ⟨(runDay { TruReq.reset with st := 2, phase := .delay }).setItem 3 { TruItem.reset with hitFrom := some 99000000000 }, 3, [0], 99000000000, by decide +kernel⟩

theorem wit_TruingMeasurementsComplete_6 : ∃ (s : State) (i : SpokeId) (a c : List Nat) (f : Nat),
      s.clocked = true ∧
      (s.item (itemOf i)).hitFrom = some f ∧
      ((s.req i).st = 2 ∧ (s.req i).histA = some a ∧ (s.req i).fail = none) ∧
      boundBroken c = false ∧
      s.hits (itemOf i) ≤ 17899520000 :=
  ⟨(runDay { TruReq.reset with st := 2, phase := .delay, histA := some [5000] }).setItem 3 { TruItem.reset with hitFrom := some 99000000000 }, 3, [5000], List.replicate 4096 256, 99000000000, by decide +kernel⟩

theorem wit_TruingMeasurementsComplete_7 : ∃ (s : State) (it : ItemId) (f : Nat),
      s.clocked = true ∧
      (s.item it).hitFrom = some f ∧
      17899520000 ≤ s.hits it ∧
      ((it.val < 64 → (s.req (Fin.ofNat 64 it.val)).st ≠ 2)) :=
  ⟨truDay.setItem 3 { TruItem.reset with hitFrom := some 0 }, 3, 0, by decide +kernel⟩

theorem wit_TruingMeasurementsComplete_8 : ∃ (s : State) (i : SpokeId) (f : Nat),
      s.clocked = true ∧
      (s.item (itemOf i)).hitFrom = some f ∧
      17899520000 ≤ s.hits (itemOf i) ∧
      (s.req i).st = 2 :=
  ⟨(runDay { TruReq.reset with st := 2, phase := .delay }).setItem 3 { TruItem.reset with hitFrom := some 0 }, 3, 0, by decide +kernel⟩

theorem wit_TruingMeasurementsComplete_9a : ∃ (s : State) (it : ItemId) (k : Fin 4096),
      s.clocked = true ∧
      s.dt.toNat % 4096 = 0 ∧
      trimAt (s.item it).trims k.val ≠ trimAt (s.item it).target k.val ∧
      (∀ p ∈ (s.item it).stepAt, (p.1 = k.val → p.2 + 4096000000 ≤ s.clock) ∧ p.2 ≠ s.clock) ∧
      s.tapInUse it k.val = false ∧
      ((it.val < 64 → (s.req (Fin.ofNat 64 it.val)).st ≠ 2)) :=
  ⟨truDay.setItem 3 { TruItem.reset with trims := List.replicate 4096 3, target := [4], stepAt := [(0, 36864000000), (9, 40959999999)] }, 3, 0, by decide +kernel⟩

theorem wit_TruingMeasurementsComplete_9b : ∃ (s : State) (it : ItemId) (k : Fin 4096),
      s.clocked = true ∧
      s.dt.toNat % 4096 = 0 ∧
      trimAt (s.item it).trims k.val ≠ trimAt (s.item it).target k.val ∧
      (∀ p ∈ (s.item it).stepAt, (p.1 = k.val → p.2 + 4096000000 ≤ s.clock) ∧ p.2 ≠ s.clock) ∧
      s.tapInUse it k.val = false ∧
      ((it.val < 64 → (s.req (Fin.ofNat 64 it.val)).st ≠ 2)) :=
  ⟨truDay.setItem 3 { TruItem.reset with trims := [], target := [-4] }, 3, 0, by decide +kernel⟩

theorem wit_TruingMeasurementsComplete_10a : ∃ (s : State) (it : ItemId) (k : Fin 4096),
      (s.dt.toNat % 4096 ≠ 0 ∨ s.tapInUse it k.val = true ∨ trimAt (s.item it).trims k.val = trimAt (s.item it).target k.val ∨
        (∃ p ∈ (s.item it).stepAt, (p.1 = k.val ∨ p.2 = s.clock) ∧ s.clock < p.2 + 4096000000)) :=
  ⟨truDay.setItem 3 { TruItem.reset with trims := List.replicate 4096 3, target := [4], stepAt := [(9, 40960000000)] }, 3, 0, by decide +kernel⟩

theorem wit_TruingMeasurementsComplete_10b : ∃ (s : State) (it : ItemId) (k : Fin 4096),
      (s.dt.toNat % 4096 ≠ 0 ∨ s.tapInUse it k.val = true ∨ trimAt (s.item it).trims k.val = trimAt (s.item it).target k.val ∨
        (∃ p ∈ (s.item it).stepAt, (p.1 = k.val ∨ p.2 = s.clock) ∧ s.clock < p.2 + 4096000000)) :=
  ⟨(truDay.setItem 3 { TruItem.reset with trims := List.replicate 4096 3, target := [4] }).setSpoke 3 { Spoke.reset with lastStamp := some 40960000000 }, 3, 0, by decide +kernel⟩

theorem wit_TruingMeasurementsComplete_11 : ∃ (s : State) (i : SpokeId),
      s.burstIn (i.val / 8) = false ∧
      s.nextServed ⟨i.val / 8, by omega⟩ = some i :=
  ⟨truDay [(0x4000, 1), (0x4400, 1)], 0, by decide +kernel⟩

theorem wit_TruingMeasurementsComplete_12 : ∃ (s : State) (i : SpokeId) (b : DT) (f : Nat),
      (s.req i).burst = some b ∧
      s.clocked = true ∧
      dtLe (match s.nextLaunch i with
        | some n => if dtLe (dtAdd b 409600000) (dtSub n 409600) then dtAdd b 409600000 else dtSub n 409600
        | none => dtAdd b 409600000) s.dt = true ∧
      (s.item (itemOf i)).hitFrom = some f :=
  ⟨(day.setReq 3 { TruReq.reset with burst := some 40550400000 }).setItem 3 { TruItem.reset with hitFrom := some 40550400000 }, 3, 40550400000, 40550400000, by decide +kernel⟩

/-! Full runs -/

theorem wit_FullRunsComplete_1a : ∃ (s : State) (i : SpokeId) (dl : BitVec 20),
      s.hostReach = true ∧
      ((s.req i).st ≠ 1 ∧ (s.req i).st ≠ 2) :=
  ⟨day, 3, 20, by decide +kernel⟩

theorem wit_FullRunsComplete_1b : ∃ (s : State) (i : SpokeId) (dl : BitVec 20),
      s.hostReach = true ∧
      ((s.req i).st ≠ 1 ∧ (s.req i).st ≠ 2) :=
  ⟨truDay [(0x4008, 7)], 3, 0, by decide +kernel⟩

theorem wit_FullRunsComplete_2 : ∃ (s : State) (i : SpokeId) (dl : BitVec 20),
      s.hostReach = true ∧
      ((s.req i).st = 1 ∨ (s.req i).st = 2) :=
  ⟨runDay { TruReq.reset with st := 1 }, 3, 20, by decide +kernel⟩

theorem wit_FullRunsComplete_3 : ∃ (s : State) (i : SpokeId),
      s.hostReach = true ∧
      (s.req i).st = 1 :=
  ⟨runDay { TruReq.reset with st := 1 }, 3, by decide +kernel⟩

theorem wit_FullRunsComplete_4 : ∃ (s : State) (i : SpokeId),
      (s.req i).st ≠ 1 :=
  ⟨runDay { TruReq.reset with st := 2 }, 3, by decide +kernel⟩

theorem wit_FullRunsComplete_5 : ∃ (s : State) (i : SpokeId),
      s.clocked = true ∧
      (s.req i).st = 1 ∧
      dtLe (s.req i).deadline s.dt = true :=
  ⟨runDay { TruReq.reset with st := 1, deadline := 100000000000 }, 3, by decide +kernel⟩

theorem wit_FullRunsComplete_6 : ∃ (s : State) (i : SpokeId),
      s.runOk i = true ∧
      s.runFirst i = true :=
  ⟨runDay { TruReq.reset with st := 1, deadline := 100000000001 }, 3, by decide +kernel⟩

theorem wit_FullRunsComplete_7 : ∃ (s : State) (i : SpokeId),
      (s.runOk i = false ∨ s.runFirst i = false) :=
  ⟨runDay { TruReq.reset with st := 1, deadline := 100000000000 }, 3, by decide +kernel⟩

theorem wit_FullRunsComplete_8 : ∃ (s : State) (i : SpokeId),
      s.clocked = true ∧
      ((s.req i).st = 2 ∧ (s.req i).phase = .entry) ∧
      dtLe (dtAdd (s.req i).x 819200000) s.dt = true :=
  ⟨runDay { TruReq.reset with st := 2, x := 99180800000 }, 3, by decide +kernel⟩

theorem wit_FullRunsComplete_9 : ∃ (s : State) (i : SpokeId) (uv : Int),
      s.clocked = true ∧
      ((s.req i).st = 2 ∧ (s.req i).phase = .delay) ∧
      dtLe (dtAdd (s.req i).x 36864000000) s.dt = true :=
  ⟨runDay { TruReq.reset with st := 2, phase := .delay, x := 63136000000, histB := some [] }, 3, 3350001, by decide +kernel⟩

theorem wit_FullRunsComplete_10 : ∃ (s : State) (i : SpokeId) (uv : Int),
      s.clocked = true ∧
      ((s.req i).st = 2 ∧ (s.req i).phase = .threshold) :=
  ⟨runDay { TruReq.reset with st := 2, phase := .threshold }, 3, 150001, by decide +kernel⟩

theorem wit_FullRunsComplete_11 : ∃ (s : State) (i : SpokeId) (thr : Int) (a b : List Nat),
      s.clocked = true ∧
      ((s.req i).st = 2 ∧ (s.req i).phase = .threshold) ∧
      dtLe (dtAdd (s.req i).x 49152000000) s.dt = true ∧
      ((s.req i).fail = none ∧ (s.req i).histA = some a ∧ (s.req i).histB = some b) ∧
      thrOk (s.diffIn i) (s.req i).level thr = true :=
  ⟨runDay { TruReq.reset with st := 2, phase := .threshold, x := 50848000000, histA := some [250], histB := some [254] }, 3, 4, [250], [254], by decide +kernel⟩

theorem wit_FullRunsComplete_12a : ∃ (s : State) (i : SpokeId) (thr : Int),
      s.clocked = true ∧
      ((s.req i).st = 2 ∧ (s.req i).phase = .threshold) ∧
      dtLe (dtAdd (s.req i).x 49152000000) s.dt = true ∧
      ((s.req i).fail ≠ none ∨ thrOk (s.diffIn i) (s.req i).level thr = false) :=
  ⟨runDay { TruReq.reset with st := 2, phase := .threshold, x := 50848000000 }, 3, 100000, by decide +kernel⟩

theorem wit_FullRunsComplete_12b : ∃ (s : State) (i : SpokeId) (thr : Int),
      s.clocked = true ∧
      ((s.req i).st = 2 ∧ (s.req i).phase = .threshold) ∧
      dtLe (dtAdd (s.req i).x 49152000000) s.dt = true ∧
      ((s.req i).fail ≠ none ∨ thrOk (s.diffIn i) (s.req i).level thr = false) :=
  ⟨runDay { TruReq.reset with st := 2, phase := .threshold, x := 50848000000, fail := some 9 }, 3, 0, by decide +kernel⟩

theorem wit_FullRunsComplete_13 : ∃ (s : State) (i : SpokeId),
      s.clocked = true ∧
      ((s.req i).st = 2 ∧ (s.req i).phase = .apply_) ∧
      dtLe (dtAdd (s.req i).x 51200000000) s.dt = true ∧
      (s.req i).fail = none :=
  ⟨runDay { TruReq.reset with st := 2, phase := .apply_, x := 48800000000 }, 3, by decide +kernel⟩

theorem wit_FullRunsComplete_14 : ∃ (s : State) (i : SpokeId) (c : BitVec 8),
      s.clocked = true ∧
      ((s.req i).st = 2 ∧ (s.req i).phase = .apply_) ∧
      dtLe (dtAdd (s.req i).x 51200000000) s.dt = true ∧
      (s.req i).fail = some c :=
  ⟨runDay { TruReq.reset with st := 2, phase := .apply_, x := 48800000000, fail := some 9 }, 3, 9, by decide +kernel⟩

/-! The trim store -/

theorem wit_TrimStoreCompletes_1 : ∃ (s : State),
      s.hostReach = true ∧
      s.truing.job = none :=
  ⟨day, by decide +kernel⟩

theorem wit_TrimStoreCompletes_2 : ∃ (s : State) (j : StoreJob),
      s.truing.job = some j :=
  ⟨{ day with truing := { Truing.reset with job := some ⟨true, 3, 5, []⟩ } }, ⟨true, 3, 5, []⟩, by decide +kernel⟩

theorem wit_TrimStoreCompletes_3 : ∃ (s : State),
      s.clocked = true ∧
      s.autostore = true ∧
      (s.truing.dirty = true ∧ s.truing.job = none) ∧
      fld (s.act 0x4004) 0 16 ≠ 0 ∧
      s.truing.lastStore + fld (s.act 0x4004) 0 16 * 60 * ftS ≤ s.clock :=
  ⟨{ truDay [(0x4000, 8), (0x4004, 1)] with clock := 245760000000000, truing := { Truing.reset with dirty := true } }, by decide +kernel⟩

theorem wit_TrimStoreCompletes_4 : ∃ (s : State) (t : Nat) (r : List Nat),
      s.clocked = true ∧
      s.autostore = true ∧
      (s.truing.afterRun = t :: r ∧ s.truing.job = none) ∧
      t + 60 * ftS ≤ s.clock :=
  ⟨{ truDay [(0x4000, 8)] with clock := 245760000000000, truing := { Truing.reset with afterRun := [0, 5] } }, 0, [5], by decide +kernel⟩

theorem wit_TrimStoreCompletes_5 : ∃ (s : State) (t : Nat) (r : List Nat),
      s.clocked = true ∧
      s.autostore = false ∧
      (s.truing.afterRun = t :: r ∧ s.truing.job = none) ∧
      t + 60 * ftS ≤ s.clock :=
  ⟨{ truDay [(0x4000, 1)] with clock := 245760000000000, truing := { Truing.reset with afterRun := [0, 5] } }, 0, [5], by decide +kernel⟩

theorem wit_TrimStoreCompletes_6 : ∃ (s : State) (j : StoreJob),
      s.truing.job = some j ∧
      s.clocked = true ∧
      (s.pageBusy = false ∧ j.page < 1093) ∧
      s.dyn.confirmed = true :=
  ⟨{ { day with truing := { Truing.reset with job := some ⟨true, 3, 5, []⟩ } } with dyn := { day.dyn with confirmed := true } }, ⟨true, 3, 5, []⟩, by decide +kernel⟩

theorem wit_TrimStoreCompletes_7 : ∃ (s : State) (j : StoreJob),
      s.truing.job = some j ∧
      s.clocked = true ∧
      (s.pageBusy = false ∧ j.page < 1093) ∧
      s.dyn.confirmed = false :=
  ⟨{ day with truing := { Truing.reset with job := some ⟨true, 3, 5, []⟩ } }, ⟨true, 3, 5, []⟩, by decide +kernel⟩

theorem wit_TrimStoreCompletes_8 : ∃ (s : State) (j : StoreJob),
      s.truing.job = some j ∧
      s.clocked = true ∧
      1093 ≤ j.page ∧
      s.dyn.confirmed = true :=
  ⟨{ { day with truing := { Truing.reset with job := some ⟨true, 3, 1093, []⟩ } } with dyn := { day.dyn with confirmed := true } }, ⟨true, 3, 1093, []⟩, by decide +kernel⟩

theorem wit_TrimStoreCompletes_9 : ∃ (s : State) (j : StoreJob),
      s.truing.job = some j ∧
      s.clocked = true :=
  ⟨{ day with truing := { Truing.reset with job := some ⟨true, 3, 9, []⟩ } }, ⟨true, 3, 9, []⟩, by decide +kernel⟩

/-! The steps of a lock, and its loss -/

theorem wit_HubCompletes_1 : ∃ (s : State),
      s.hub.lock = .settle ∧
      s.hub.stepEnd ≤ s.clock :=
  ⟨{ day with hub := { day.hub with lock := .settle } }, by decide +kernel⟩

theorem wit_HubCompletes_2 : ∃ (s : State) (b : BitVec 5),
      s.hub.lock = .search :=
  ⟨{ day with hub := { day.hub with lock := .search } }, 7, by decide +kernel⟩

theorem wit_HubCompletes_3 : ∃ (s : State) (a b : Nat),
      s.hub.lock = .lockWait ∧
      s.hub.stepEnd ≤ s.clock ∧
      (39200 ≤ a ∧ a ≤ 40800 ∧ 39200 ≤ b ∧ b ≤ 40800) :=
  ⟨{ day with hub := { day.hub with lock := .lockWait } }, 39200, 40800, by decide +kernel⟩

theorem wit_HubCompletes_4 : ∃ (s : State) (a b : Nat),
      s.hub.lock = .lockWait ∧
      s.hub.stepEnd ≤ s.clock ∧
      (a < 39200 ∨ 40800 < a ∨ b < 39200 ∨ 40800 < b) ∧
      s.hub.disagree < 2 :=
  ⟨{ day with hub := { day.hub with lock := .lockWait, disagree := 1 } }, 39200, 40801, by decide +kernel⟩

theorem wit_HubCompletes_5 : ∃ (s : State) (a b : Nat),
      s.hub.lock = .lockWait ∧
      s.hub.stepEnd ≤ s.clock ∧
      (a < 39200 ∨ 40800 < a ∨ b < 39200 ∨ 40800 < b) ∧
      s.hub.disagree = 2 :=
  ⟨{ day with hub := { day.hub with lock := .lockWait, disagree := 2 } }, 39199, 40800, by decide +kernel⟩

theorem wit_HubCompletes_6 : ∃ (s : State),
      s.hub.lock = .backoff ∧
      s.hub.stepEnd ≤ s.clock :=
  ⟨{ day with hub := { day.hub with lock := .backoff } }, by decide +kernel⟩

theorem wit_HubCompletes_7 : ∃ (s : State) (h : Holdover) (d : DT),
      s.hub.lock = .agreed ∧
      s.hub.dayLock = false ∧
      s.hub.ho = some h ∧
      reaches 524288 (h.fine (s.clock - 1)) (h.fine s.clock) = some d :=
  ⟨{ day with clock := 5000000, hub := { day.hub with lock := .agreed, gatesOpen := false, ho := some ⟨524000, 0, 4999712⟩ } }, ⟨524000, 0, 4999712⟩, 524288, by decide +kernel⟩

theorem wit_HubCompletes_8 : ∃ (s : State) (h : Holdover),
      s.hub.dayLock = false ∧
      s.hub.ho = some h ∧
      reaches 524288 (h.fine (s.clock - 1)) (h.fine s.clock) = none :=
  ⟨{ day with clock := 5000000, hub := { day.hub with lock := .agreed, gatesOpen := false, ho := some ⟨524000, 0, 4999713⟩ } }, ⟨524000, 0, 4999713⟩, by decide +kernel⟩

theorem wit_HubCompletes_9 : ∃ (s : State),
      s.hub.lock = .agreed ∧
      s.hub.dayLock = true :=
  ⟨{ State.reset with hub := { Hub.reset with lock := .agreed, dayLock := true } }, by decide +kernel⟩

theorem wit_HubCompletes_10 : ∃ (s : State),
      (s.hub.gatesOpen = true ∨ s.hub.lock = .lockWait ∨ s.hub.lock = .agreed) :=
  ⟨day, by decide +kernel⟩

theorem wit_HubCompletes_11 : ∃ (s : State) (w : Nat),
      s.hub.gatesOpen = true ∧
      (w < 39200 ∨ 40800 < w) :=
  ⟨day, 40801, by decide +kernel⟩

theorem wit_HubCompletes_12a : ∃ (s : State) (w : Nat),
      (39200 ≤ w ∧ w ≤ 40800) :=
  ⟨day, 39200, by decide +kernel⟩

theorem wit_HubCompletes_12b : ∃ (s : State) (w : Nat),
      (39200 ≤ w ∧ w ≤ 40800) :=
  ⟨day, 40800, by decide +kernel⟩

theorem wit_HubCompletes_13 : ∃ (s : State),
      s.hub.sel ≠ 0 ∧
      s.hub.lock ≠ .off :=
  ⟨{ day with hub := { day.hub with sel := 9, lock := .locked } }, by decide +kernel⟩

theorem wit_HubCompletes_14a : ∃ (s : State) (w : Int),
      s.hub.wPend = some w ∧
      s.hub.gatesOpen = true ∧
      s.hub.wAt.all (fun t => t + 40960000 ≤ s.clock) = true :=
  ⟨{ day with hub := { day.hub with wPend := some 60000, wAt := some 40919040000 } }, 60000, by decide +kernel⟩

theorem wit_HubCompletes_14b : ∃ (s : State) (w : Int),
      s.hub.wPend = some w ∧
      s.hub.gatesOpen = true ∧
      s.hub.wAt.all (fun t => t + 40960000 ≤ s.clock) = true :=
  ⟨{ day with hub := { day.hub with wPend := some (-50000) } }, -50000, by decide +kernel⟩

/-! The servo, the choice of a source, and PPS -/

theorem wit_NoonCompletes_1 : ∃ (s : State) (m : Meas) (r : List Meas),
      s.noon.inbox = m :: r ∧
      s.clocked = true ∧
      m.cand.val ≠ s.noon.src.toNat :=
  ⟨{ day with noon := { Noon.reset with inbox := [⟨3, 700, 40959000000, 5, 1, 2, true⟩] } }, ⟨3, 700, 40959000000, 5, 1, 2, true⟩, [], by decide +kernel⟩

theorem wit_NoonCompletes_2 : ∃ (s : State) (m : Meas) (r : List Meas),
      s.noon.inbox = m :: r ∧
      s.clocked = true ∧
      m.cand.val = s.noon.src.toNat ∧
      s.noon.first = true :=
  ⟨{ day with noon := { Noon.reset with inbox := [⟨3, 700, 40959000000, 5, 1, 2, true⟩], src := 3, first := true } }, ⟨3, 700, 40959000000, 5, 1, 2, true⟩, [], by decide +kernel⟩

theorem wit_NoonCompletes_3 : ∃ (s : State) (m : Meas) (r : List Meas),
      s.noon.inbox = m :: r ∧
      s.clocked = true ∧
      m.cand.val = s.noon.src.toNat ∧
      s.noon.first = false :=
  ⟨{ day with noon := { Noon.reset with inbox := [⟨3, 700, 40959000000, 5, 1, 2, true⟩], src := 3 } }, ⟨3, 700, 40959000000, 5, 1, 2, true⟩, [], by decide +kernel⟩

theorem wit_NoonCompletes_4a : ∃ (s : State) (n : Int),
      s.clocked = true ∧
      (n = 1 ∧ 0 < s.noon.slew ∨ n = -1 ∧ s.noon.slew < 0) ∧
      s.hub.piStep = 0 ∧
      s.noon.slewStep.all (fun t => t + 262144 ≤ s.clock) = true :=
  ⟨{ day with noon := { Noon.reset with slew := 2, slewStep := some 40959737856 } }, 1, by decide +kernel⟩

theorem wit_NoonCompletes_4b : ∃ (s : State) (n : Int),
      s.clocked = true ∧
      (n = 1 ∧ 0 < s.noon.slew ∨ n = -1 ∧ s.noon.slew < 0) ∧
      s.hub.piStep = 0 ∧
      s.noon.slewStep.all (fun t => t + 262144 ≤ s.clock) = true :=
  ⟨{ day with noon := { Noon.reset with slew := -1 } }, -1, by decide +kernel⟩

theorem wit_NoonCompletes_5 : ∃ (s : State),
      s.inDay = true ∧
      s.clocked = true ∧
      s.noon.cmpAt ≤ s.clock ∧
      s.bestSource.val = s.noon.src.toNat :=
  ⟨day, by decide +kernel⟩

theorem wit_NoonCompletes_6 : ∃ (s : State) (k : Fin 16),
      s.inDay = true ∧
      s.clocked = true ∧
      s.noon.cmpAt ≤ s.clock ∧
      (s.bestSource = k ∧ k.val ≠ s.noon.src.toNat ∧ k.val ≠ 15) ∧
      (s.noon.winner.toNat = k.val ∧ 2 ≤ s.noon.winRun ∨ s.eligible (Fin.ofNat 16 s.noon.src.toNat) = false) :=
  ⟨{ day with noon := { Noon.reset with cands := Noon.reset.cands.set 3 { Cand.reset with times := List.replicate 8 40960000000, root := 5, qual := 0, tai := true }, winner := 3, winRun := 2 } }, 3, by decide +kernel⟩

theorem wit_NoonCompletes_7 : ∃ (s : State) (k : Fin 16),
      s.inDay = true ∧
      s.clocked = true ∧
      s.noon.cmpAt ≤ s.clock ∧
      (s.bestSource = k ∧ k.val ≠ s.noon.src.toNat) ∧
      s.eligible (Fin.ofNat 16 s.noon.src.toNat) = true ∧
      (s.noon.winner.toNat ≠ k.val ∨ s.noon.winRun < 2) :=
  ⟨{ day with noon := { Noon.reset with cands := Noon.reset.cands.set 3 { Cand.reset with times := List.replicate 8 40960000000, root := 5, qual := 0, tai := true }, winner := 3, winRun := 1 } }, 3, by decide +kernel⟩

theorem wit_NoonCompletes_8 : ∃ (s : State),
      s.inDay = true ∧
      s.clocked = true ∧
      s.noon.cmpAt ≤ s.clock ∧
      (s.bestSource = 15 ∧ s.noon.src ≠ 15) ∧
      s.eligible (Fin.ofNat 16 s.noon.src.toNat) = false :=
  ⟨{ day with noon := { Noon.reset with src := 3 } }, by decide +kernel⟩

theorem wit_NoonCompletes_9 : ∃ (s : State),
      s.dtRuns = true :=
  ⟨day, by decide +kernel⟩

theorem wit_NoonCompletes_10 : ∃ (s : State),
      s.inDay = true ∧
      s.clocked = true ∧
      (bit (s.act 0x3060) 0 = true ∧ (bit (s.act 0x3060) 1 = false ∨ s.noon.state = 2)) ∧
      ((s.dt.toNat : Int) - signed 30 (fld (s.act 0x3064) 0 30) * 4096) % 4096000000000 = 0 ∧
      s.noon.ppsNext.toNat ≤ s.dt.toNat :=
  ⟨{ { day.setIsland 0x4E { Isl.reset with active := [(0x3060, 41)] } with noon := { Noon.reset with state := 2 }, clock := 9000000000000 } with dt := 4096000000000 }, by decide +kernel⟩

theorem wit_NoonCompletes_11 : ∃ (s : State),
      s.inDay = true ∧
      s.clocked = true ∧
      (bit (s.act 0x3060) 0 = true ∧ bit (s.act 0x3060) 1 = true ∧ s.noon.state ≠ 2) ∧
      ((s.dt.toNat : Int) - signed 30 (fld (s.act 0x3064) 0 30) * 4096) % 4096000000000 = 0 ∧
      s.noon.ppsNext.toNat ≤ s.dt.toNat :=
  ⟨{ { day.setIsland 0x4E { Isl.reset with active := [(0x3060, 43)] } with noon := Noon.reset, clock := 9000000000000 } with dt := 4096000000000 }, by decide +kernel⟩

theorem wit_NoonCompletes_12 : ∃ (s : State),
      s.clocked = true ∧
      s.noon.ppsOut = true ∧
      s.noon.ppsEnd.toNat ≤ s.dt.toNat :=
  ⟨{ day with noon := { Noon.reset with ppsOut := true } }, by decide +kernel⟩

theorem wit_NoonCompletes_13 : ∃ (s : State) (r : Bool),
      s.inDay = true ∧
      s.clocked = true ∧
      (bit (s.act 0x3068) 0 = true ∧ bit (s.act 0x3068) 1 = !r) ∧
      s.noon.ppsLast.all (fun p => (modSecond (dtDiff s.dt p)).natAbs ≤ 4096000000) = true :=
  ⟨{ day.setIsland 0x4E { Isl.reset with active := [(0x3068, 1)] } with noon := { Noon.reset with ppsLast := some (40960000000 - 4092000000000) }, clock := 9000000000000 }, true, by decide +kernel⟩

theorem wit_NoonCompletes_14 : ∃ (s : State) (r : Bool) (p : DT),
      s.inDay = true ∧
      s.clocked = true ∧
      (bit (s.act 0x3068) 0 = true ∧ bit (s.act 0x3068) 1 = !r) ∧
      s.noon.ppsLast = some p ∧
      4096000000 < (modSecond (dtDiff s.dt p)).natAbs :=
  ⟨{ day.setIsland 0x4E { Isl.reset with active := [(0x3068, 1)] } with noon := { Noon.reset with ppsLast := some (40960000000 - 4091000000000) }, clock := 9000000000000 }, true, 40960000000 - 4091000000000, by decide +kernel⟩

theorem wit_NoonCompletes_15 : ∃ (s : State) (r : Bool),
      s.inDay = true ∧
      s.clocked = true ∧
      (bit (s.act 0x3068) 0 = true ∧ bit (s.act 0x3068) 1 = r) :=
  ⟨{ day.setIsland 0x4E { Isl.reset with active := [(0x3068, 1)] } with noon := { Noon.reset with state := 2 }, clock := 9000000000000 }, false, by decide +kernel⟩

theorem wit_NoonCompletes_16 : ∃ (s : State),
      s.inDay = true ∧
      s.clocked = true ∧
      bit (s.act 0x3068) 0 = true ∧
      s.noon.ppsSeen + 4096000000000 < s.clock :=
  ⟨{ day.setIsland 0x4E { Isl.reset with active := [(0x3068, 1)] } with noon := { Noon.reset with state := 2 }, clock := 9000000000000 }, by decide +kernel⟩

/-! Stepping time -/

theorem wit_TimeStepsComplete_1 : ∃ (s : State),
      s.hostReach = true ∧
      s.stacked = false ∧
      s.noon.step = none ∧
      s.enginesIdle = true ∧
      ((dtAt s.imm 0x304C - dtAt s.imm 0x3040).toInt < 0 → s.queuesIdle = true) ∧
      (dtAdd (s.replica islNoon) 8192000).toNat ≤ (dtAt s.imm 0x3040).toNat :=
  ⟨{ day with imm := [(0x3040, 0), (0x3044, 0x100), (0x304C, 5)] }, by decide +kernel⟩

theorem wit_TimeStepsComplete_2 : ∃ (s : State),
      s.hostReach = true ∧
      s.stacked = true ∧
      s.noon.step = none ∧
      s.enginesIdle = true ∧
      ((dtAt s.imm 0x304C - dtAt s.imm 0x3040).toInt < 0 → s.queuesIdle = true) ∧
      (dtAdd (s.replica islNoon) (leadOf s.reach)).toNat ≤ (dtAt s.imm 0x3040).toNat ∧
      fits64 (dtAt s.imm 0x304C - dtAt s.imm 0x3040).toInt = true :=
  ⟨{ ringDay member with imm := [(0x3040, 0), (0x3044, 0x100), (0x304C, 5), (0x3050, 0x100)] }, by decide +kernel⟩

theorem wit_TimeStepsComplete_3 : ∃ (s : State),
      s.hostReach = true ∧
      ((dtAt s.imm 0x3040).toNat < (dtAdd (s.replica islNoon) (leadOf s.reach)).toNat ∨ s.noon.step ≠ none ∨
        s.enginesIdle = false ∨ (dtAt s.imm 0x304C - dtAt s.imm 0x3040).toInt < 0 ∧ s.queuesIdle = false) :=
  ⟨day, by decide +kernel⟩

theorem wit_TimeStepsComplete_4 : ∃ (s : State) (d : Int) (e : Bool) (x : DT),
      s.noon.autoStep = some (d, e) ∧
      s.clocked = true ∧
      s.noon.stepWait = false ∧
      s.noon.step = none ∧
      x = dtAddI s.dt (4096000000 - (s.clock - s.noon.autoAt : Nat)) ∧
      (dtAdd (s.replica islNoon) 8192000).toNat ≤ x.toNat ∧
      s.stacked = false ∧
      s.enginesIdle = true ∧
      (d < 0 → s.queuesIdle = true) :=
  ⟨{ day with noon := { Noon.reset with autoStep := some (5000000, false), autoAt := 40960000000 } }, 5000000, false, 45056000000, by decide +kernel⟩

theorem wit_TimeStepsComplete_5 : ∃ (s : State) (d : Int) (e : Bool) (q : StepReq) (x : DT),
      s.noon.autoStep = some (d, e) ∧
      s.clocked = true ∧
      s.noon.stepWait = false ∧
      (s.noon.step = some q ∧ q.auto = false) ∧
      x = dtAddI s.dt (4096000000 - (s.clock - s.noon.autoAt : Nat)) ∧
      (dtAdd (s.replica islNoon) (leadOf s.reach)).toNat ≤ x.toNat :=
  ⟨{ day with noon := { Noon.reset with autoStep := some (5000000, false), autoAt := 40960000000, step := some ⟨50000000000, 7, false, false, .alone, true⟩ } }, 5000000, false, ⟨50000000000, 7, false, false, .alone, true⟩, 45056000000, by decide +kernel⟩

theorem wit_TimeStepsComplete_6 : ∃ (s : State) (d : Int) (e : Bool),
      s.noon.autoStep = some (d, e) ∧
      s.clocked = true ∧
      s.noon.stepWait = true ∧
      s.noon.step = none ∧
      s.noon.autoAt ≤ s.clock ∧
      s.srcCand.err < 0 ∧
      s.stacked = false ∧
      s.enginesIdle = true ∧
      s.dt.toNat + 4096000000 < 2 ^ 80 :=
  ⟨{ day with noon := { Noon.reset with autoStep := some (5000000, false), autoAt := 40960000000, stepWait := true, src := 3, cands := Noon.reset.cands.set 3 { Cand.reset with err := -6000000 } } }, 5000000, false, by decide +kernel⟩

theorem wit_TimeStepsComplete_7 : ∃ (s : State) (d : Int) (e : Bool),
      s.noon.autoStep = some (d, e) ∧
      s.clocked = true ∧
      s.noon.stepWait = true ∧
      s.autoPending = false ∧
      s.noon.autoAt ≤ s.clock ∧
      0 ≤ s.srcCand.err :=
  ⟨{ day with noon := { Noon.reset with autoStep := some (5000000, false), autoAt := 40960000000, stepWait := true } }, 5000000, false, by decide +kernel⟩

theorem wit_TimeStepsComplete_8 : ∃ (s : State) (q : StepReq),
      s.noon.step = some q ∧
      s.dtRuns = true ∧
      s.due islNoon q.at_ = true ∧
      q.confirmed = true ∧
      s.stepDueCheck q.d = 0 ∧
      (-4096000 ≤ q.d ∧ q.d ≤ 4096000) :=
  ⟨{ day with noon := { Noon.reset with step := some ⟨40960000000, -4096000, false, false, .alone, true⟩ } }, ⟨40960000000, -4096000, false, false, .alone, true⟩, by decide +kernel⟩

theorem wit_TimeStepsComplete_9a : ∃ (s : State) (q : StepReq),
      s.noon.step = some q ∧
      s.dtRuns = true ∧
      s.due islNoon q.at_ = true ∧
      q.confirmed = true ∧
      s.stepDueCheck q.d = 0 ∧
      (q.d < -4096000 ∨ 4096000 < q.d) :=
  ⟨{ day with noon := { Noon.reset with step := some ⟨40960000000, -4096001, false, false, .alone, true⟩ } }, ⟨40960000000, -4096001, false, false, .alone, true⟩, by decide +kernel⟩

theorem wit_TimeStepsComplete_9b : ∃ (s : State) (q : StepReq),
      s.noon.step = some q ∧
      s.dtRuns = true ∧
      s.due islNoon q.at_ = true ∧
      q.confirmed = true ∧
      s.stepDueCheck q.d = 0 ∧
      (q.d < -4096000 ∨ 4096000 < q.d) :=
  ⟨{ day with noon := { Noon.reset with step := some ⟨40960000000, 5000000, true, false, .alone, true⟩ } }, ⟨40960000000, 5000000, true, false, .alone, true⟩, by decide +kernel⟩

theorem wit_TimeStepsComplete_10a : ∃ (s : State) (q : StepReq),
      s.noon.step = some q ∧
      s.dtRuns = true ∧
      s.due islNoon q.at_ = true ∧
      (s.stepDueCheck q.d ≠ 0 ∨ q.confirmed = false) :=
  ⟨{ { day with noon := { Noon.reset with step := some ⟨40960000000, 5, false, false, .alone, true⟩ } } with hub := { day.hub with gatesOpen := false } }, ⟨40960000000, 5, false, false, .alone, true⟩, by decide +kernel⟩

theorem wit_TimeStepsComplete_10b : ∃ (s : State) (q : StepReq),
      s.noon.step = some q ∧
      s.dtRuns = true ∧
      s.due islNoon q.at_ = true ∧
      (s.stepDueCheck q.d ≠ 0 ∨ q.confirmed = false) :=
  ⟨{ day with noon := { Noon.reset with step := some ⟨40960000000, 5, false, true, .stack, false⟩ } }, ⟨40960000000, 5, false, true, .stack, false⟩, by decide +kernel⟩

/-! Power, block lock, stepping and LISTEN -/

theorem wit_PortStatesComplete_1 : ∃ (s : State) (c : PortId),
      s.hostReach = true ∧
      s.dyn.st ≠ .dawn :=
  ⟨withPort { upPort with st := 5 }, 2, by decide +kernel⟩

theorem wit_PortStatesComplete_2 : ∃ (s : State) (c : PortId),
      s.hostReach = true ∧
      s.dyn.st ≠ .dawn :=
  ⟨withPort { upPort with st := 5 }, 2, by decide +kernel⟩

theorem wit_PortStatesComplete_3 : ∃ (s : State) (c : PortId),
      s.hostReach = true ∧
      s.dyn.st = .dawn :=
  ⟨{ State.reset with dyn := { Dynamo.reset with st := .dawn } }, 2, by decide +kernel⟩

theorem wit_PortStatesComplete_4 : ∃ (s : State) (c : PortId),
      s.hostReach = true ∧
      s.dyn.st ≠ .dawn ∧
      ((s.port c).st = 0 ∧ (s.port c).loopb = 0 ∧ (s.port c).gen = false ∧ (s.port c).chk = false) :=
  ⟨withPort { Port.reset with st := 0, mode := 0, excl := 2 }, 2, by decide +kernel⟩

theorem wit_PortStatesComplete_5 : ∃ (s : State) (c : PortId),
      s.hostReach = true ∧
      s.dyn.st ≠ .dawn ∧
      (s.port c).st = 1 :=
  ⟨day, 2, by decide +kernel⟩

theorem wit_PortStatesComplete_6 : ∃ (s : State) (c : PortId),
      s.hostReach = true ∧
      s.dyn.st ≠ .dawn ∧
      2 ≤ (s.port c).st.toNat :=
  ⟨withPort upPort, 2, by decide +kernel⟩

theorem wit_PortStatesComplete_7 : ∃ (s : State) (c : PortId) (t : Nat),
      (s.port c).wakeAt = some t ∧
      ((s.port c).st = 1 ∧ (s.port c).loopb = 0) ∧
      t ≤ s.clock :=
  ⟨withPort { Port.reset with wakeAt := some 40960000000 }, 2, 40960000000, by decide +kernel⟩

theorem wit_PortStatesComplete_8 : ∃ (s : State) (c : PortId),
      s.pcieUp = true ∧
      2 ≤ (s.port c).st.toNat :=
  ⟨withPort { Port.reset with st := 2 }, 2, by decide +kernel⟩

theorem wit_PortStatesComplete_9 : ∃ (s : State) (c : PortId),
      s.pcieUp = true ∧
      s.hrate c ≠ 0 :=
  ⟨{ fwDay [] with fw := Freewheel.reset }, 2, by decide +kernel⟩

theorem wit_PortStatesComplete_10 : ∃ (s : State) (c : PortId),
      s.hrate c = 0 :=
  ⟨{ fwDay [] with fw := { Freewheel.reset with bypass := true } }, 2, by decide +kernel⟩

theorem wit_PortStatesComplete_11 : ∃ (s : State),
      s.pcieUp = true :=
  ⟨pairDay Pair.reset, by decide +kernel⟩

theorem wit_PortStatesComplete_12a : ∃ (s : State) (c : PortId),
      s.pcieUp = true ∧
      (3 ≤ (s.port c).st.toNat ∧ (s.port c).st.toNat ≤ 6) ∧
      ((s.port c).block = true ∧ (s.port c).loopb = 0) :=
  ⟨withPort upPort, 2, by decide +kernel⟩

theorem wit_PortStatesComplete_12b : ∃ (s : State) (c : PortId),
      s.pcieUp = true ∧
      (3 ≤ (s.port c).st.toNat ∧ (s.port c).st.toNat ≤ 6) ∧
      ((s.port c).block = true ∧ (s.port c).loopb = 0) :=
  ⟨withPort { upPort with st := 3 }, 2, by decide +kernel⟩

theorem wit_PortStatesComplete_12c : ∃ (s : State) (c : PortId),
      s.pcieUp = true ∧
      (3 ≤ (s.port c).st.toNat ∧ (s.port c).st.toNat ≤ 6) ∧
      ((s.port c).block = true ∧ (s.port c).loopb = 0) :=
  ⟨withPort { upPort with st := 6 }, 2, by decide +kernel⟩

theorem wit_PortStatesComplete_13a : ∃ (s : State) (c : PortId),
      s.pcieUp = true ∧
      ((s.port c).st = 2 ∨ (s.port c).st = 7) ∧
      (s.port c).block = true :=
  ⟨withPort { upPort with st := 2 }, 2, by decide +kernel⟩

theorem wit_PortStatesComplete_13b : ∃ (s : State) (c : PortId),
      s.pcieUp = true ∧
      ((s.port c).st = 2 ∨ (s.port c).st = 7) ∧
      (s.port c).block = true :=
  ⟨withPort { upPort with st := 7 }, 2, by decide +kernel⟩

theorem wit_PortStatesComplete_14 : ∃ (s : State) (c : PortId),
      s.pcieUp = true :=
  ⟨fwDay [], 2, by decide +kernel⟩

theorem wit_PortStatesComplete_15 : ∃ (s : State),
      s.pcieUp = true :=
  ⟨pairDay standby, by decide +kernel⟩

theorem wit_PortStatesComplete_16 : ∃ (s : State) (c : PortId) (t : Nat),
      ((s.port c).st = 2 ∧ (s.port c).block = true ∧ (s.port c).prbsHeld = false) ∧
      (s.port c).lockFrom = some t ∧
      t + 4096000000 ≤ s.clock :=
  ⟨withPort { Port.reset with st := 2, block := true, lockFrom := some 36864000000 }, 2, 36864000000, by decide +kernel⟩

theorem wit_PortStatesComplete_17a : ∃ (s : State) (c : PortId),
      ((s.port c).st = 2 ∧ (s.port c).block = false ∧ (s.port c).prbsHeld = false) ∧
      (s.port c).rateFrom + 204800000000 ≤ s.clock ∧
      (s.port c).settled = 0 ∧
      s.ratesLeft c = 3 ∧
      ((s.port c).rate = 1 ∨ (s.port c).rate = 2) :=
  ⟨{ withPort { Port.reset with st := 2, rate := 2 } with clock := 204800000000 }, 2, by decide +kernel⟩

theorem wit_PortStatesComplete_17b : ∃ (s : State) (c : PortId),
      ((s.port c).st = 2 ∧ (s.port c).block = false ∧ (s.port c).prbsHeld = false) ∧
      (s.port c).rateFrom + 204800000000 ≤ s.clock ∧
      (s.port c).settled = 0 ∧
      s.ratesLeft c = 3 ∧
      ((s.port c).rate = 1 ∨ (s.port c).rate = 2) :=
  ⟨{ withPort { Port.reset with st := 2, rate := 1 } with clock := 204800000000 }, 2, by decide +kernel⟩

theorem wit_PortStatesComplete_18 : ∃ (s : State) (c : PortId),
      ((s.port c).st = 2 ∧ (s.port c).block = false ∧ (s.port c).prbsHeld = false) ∧
      (s.port c).rateFrom + 204800000000 ≤ s.clock ∧
      (s.port c).settled = 0 ∧
      s.ratesLeft c ≠ 3 :=
  ⟨{ withPort { Port.reset with st := 2, rate := 2, excl := 2 } with clock := 204800000000 }, 2, by decide +kernel⟩

theorem wit_PortStatesComplete_19 : ∃ (s : State) (c : PortId),
      ((s.port c).st = 2 ∧ (s.port c).block = false ∧ (s.port c).prbsHeld = false) ∧
      (s.port c).rateFrom + 204800000000 ≤ s.clock ∧
      (s.port c).settled = 2 ∧
      (ratesOf (s.cpCfg c) = 3 ∧ (s.port c).excl = 0) :=
  ⟨{ withPort { Port.reset with st := 2, rate := 2, settled := 2 } with clock := 204800000000 }, 2, by decide +kernel⟩

/-! Bells, Offers and the mode of a link -/

theorem wit_PortDiscoveryCompletes_1a : ∃ (s : State) (c : PortId) (slow : Bool),
      (3 ≤ (s.port c).st.toNat ∧ (s.port c).st.toNat ≤ 6) ∧
      (s.port c).bellAt ≤ s.clock ∧
      (s.laneBusy c = false ∧ (s.port c).waiting = []) ∧
      slow = ((s.port c).st == 6 || (s.port c).st == 3 && (s.port c).lastBell + 40960000000000 ≤ s.clock) :=
  ⟨withPort upPort, 2, false, by decide +kernel⟩

theorem wit_PortDiscoveryCompletes_1b : ∃ (s : State) (c : PortId) (slow : Bool),
      (3 ≤ (s.port c).st.toNat ∧ (s.port c).st.toNat ≤ 6) ∧
      (s.port c).bellAt ≤ s.clock ∧
      (s.laneBusy c = false ∧ (s.port c).waiting = []) ∧
      slow = ((s.port c).st == 6 || (s.port c).st == 3 && (s.port c).lastBell + 40960000000000 ≤ s.clock) :=
  ⟨withPort { upPort with st := 6 }, 2, true, by decide +kernel⟩

theorem wit_PortDiscoveryCompletes_1c : ∃ (s : State) (c : PortId) (slow : Bool),
      (3 ≤ (s.port c).st.toNat ∧ (s.port c).st.toNat ≤ 6) ∧
      (s.port c).bellAt ≤ s.clock ∧
      (s.laneBusy c = false ∧ (s.port c).waiting = []) ∧
      slow = ((s.port c).st == 6 || (s.port c).st == 3 && (s.port c).lastBell + 40960000000000 ≤ s.clock) :=
  ⟨{ withPort { upPort with st := 3 } with clock := 40960000000000 }, 2, true, by decide +kernel⟩

theorem wit_PortDiscoveryCompletes_2 : ∃ (s : State) (c : PortId),
      (3 ≤ (s.port c).st.toNat ∧ (s.port c).st.toNat ≤ 6) ∧
      (s.port c).bellAt ≤ s.clock ∧
      s.laneBusy c = true :=
  ⟨fwDay [{ wholeFrame with egress := some 5 }], 2, by decide +kernel⟩

theorem wit_PortDiscoveryCompletes_3 : ∃ (s : State) (c : PortId) (b : Octets),
      (s.port c).st = 3 ∧
      bellOk b = true ∧
      pduId b ≠ s.ident.toNat ∧
      leAt b 0x10 8 ≠ s.ident.toNat :=
  ⟨withPort { Port.reset with st := 3 }, 2, szl 1 0 5 ([0, 0, 0, 0, 0, 0, 0, 0] ++ [3, 1, 0, 3, 0, 0, 0, 0]), by decide +kernel⟩

theorem wit_PortDiscoveryCompletes_4 : ∃ (s : State) (c : PortId) (b : Octets),
      (s.port c).st = 3 ∧
      bellOk b = true ∧
      pduId b ≠ s.ident.toNat ∧
      leAt b 0x10 8 = s.ident.toNat :=
  ⟨withPort { Port.reset with st := 3 }, 2, szl 1 0 5 (leOctets 8 me ++ [3, 1, 0, 3, 0, 0, 0, 0]), by decide +kernel⟩

theorem wit_PortDiscoveryCompletes_5 : ∃ (s : State) (c : PortId) (b : Octets),
      (s.port c).st = 3 ∧
      bellOk b = true ∧
      pduId b = s.ident.toNat :=
  ⟨withPort { Port.reset with st := 3 }, 2, szl 1 0 me (leOctets 8 me ++ [3, 1, 0, 3, 0, 0, 0, 0]), by decide +kernel⟩

theorem wit_PortDiscoveryCompletes_6 : ∃ (s : State) (c : PortId) (b : Octets),
      (4 ≤ (s.port c).st.toNat ∧ (s.port c).st.toNat ≤ 6) ∧
      bellOk b = true ∧
      pduId b = (s.port c).peer.toNat ∧
      bit (s.cpCfg c) 14 = false :=
  ⟨withPort upPort, 2, szl 1 0 5 (leOctets 8 me ++ [3, 0x64, 0, 3, 0, 0, 0, 0]), by decide +kernel⟩

theorem wit_PortDiscoveryCompletes_7 : ∃ (s : State) (c : PortId) (b : Octets),
      (4 ≤ (s.port c).st.toNat ∧ (s.port c).st.toNat ≤ 6) ∧
      bellOk b = true ∧
      pduId b ≠ (s.port c).peer.toNat ∧
      (s.port c).loopb = 0 :=
  ⟨withPort upPort, 2, szl 1 0 6 (leOctets 8 me ++ [3, 0x64, 0, 3, 0, 0, 0, 0]), by decide +kernel⟩

theorem wit_PortDiscoveryCompletes_8 : ∃ (s : State) (c : PortId) (b : Octets),
      ((s.port c).st = 2 ∧ (s.port c).block = true) :=
  ⟨withPort { upPort with st := 2 }, 2, szl 1 0 6 (leOctets 8 me ++ [3, 0x64, 0, 3, 0, 0, 0, 0]), by decide +kernel⟩

theorem wit_PortDiscoveryCompletes_9a : ∃ (s : State) (c : PortId) (b : Octets),
      (s.port c).hears = true :=
  ⟨withPort upPort, 2, szl 1 0 5 (leOctets 8 me ++ [8, 1, 0, 3, 0, 0, 0, 0]), by decide +kernel⟩

theorem wit_PortDiscoveryCompletes_9b : ∃ (s : State) (c : PortId) (b : Octets),
      (s.port c).hears = true :=
  ⟨withPort { upPort with st := 2 }, 2, szl 4 0 5 (leOctets 4 1 ++ [4, 0, 0, 0]), by decide +kernel⟩

theorem wit_PortDiscoveryCompletes_10 : ∃ (s : State) (c : PortId),
      (3 ≤ (s.port c).st.toNat ∧ (s.port c).st.toNat ≤ 6) ∧
      ((s.port c).answered = true ∧ (s.port c).loopb = 0) ∧
      (s.port c).lastBell + 3 * (s.port c).peerIvl * 4096000000 + 2048000000 ≤ s.clock :=
  ⟨withPort { upPort with lastBell := 26624000000 }, 2, by decide +kernel⟩

theorem wit_PortDiscoveryCompletes_11 : ∃ (s : State) (c : PortId),
      (s.port c).st = 4 ∧
      (s.port c).offerAt ≤ s.clock ∧
      (s.laneBusy c = false ∧ (s.port c).waiting = []) :=
  ⟨withPort { upPort with st := 4, offerAt := 40960000000 }, 2, by decide +kernel⟩

theorem wit_PortDiscoveryCompletes_12 : ∃ (s : State) (c : PortId),
      (s.port c).st = 6 ∧
      (s.port c).offerAt ≤ s.clock ∧
      (match s.outcome c with | some (.inr _) => false | _ => true) = true ∧
      (s.laneBusy c = false ∧ (s.port c).waiting = []) :=
  ⟨withPort { upPort with st := 6, peerOffer := none }, 2, by decide +kernel⟩

theorem wit_PortDiscoveryCompletes_13 : ∃ (s : State) (c : PortId) (m : ModeRec),
      (s.port c).st = 6 ∧
      (s.port c).offerAt ≤ s.clock ∧
      s.outcome c = some (.inr m) :=
  ⟨withPort { upPort with st := 6 }, 2, fullMode, by decide +kernel⟩

theorem wit_PortDiscoveryCompletes_14 : ∃ (s : State) (c : PortId) (b : Octets) (m : ModeRec),
      (s.port c).st = 4 ∧
      offerOk b = true ∧
      settleMode s c (s.ownOffer c) (offerRec b) = .inr m ∧
      (s.port c).accRecv = none ∧
      (s.laneBusy c = false ∧ (s.port c).waiting = []) :=
  ⟨withPort { Port.reset with st := 4, peer := 5 }, 2, szl 2 0 5 (leOctets 4 9 ++ [1, 1, 3, 7, 0x3F, 0, 0, 0] ++ leOctets 20 0), ⟨1, 2, 1, 0x3F, true, 0, 0, 0⟩, by decide +kernel⟩

theorem wit_PortDiscoveryCompletes_15 : ∃ (s : State) (c : PortId) (b : Octets) (m : ModeRec) (a : Octets) (k : Bool),
      (s.port c).st = 4 ∧
      offerOk b = true ∧
      settleMode s c (s.ownOffer c) (offerRec b) = .inr m ∧
      (s.port c).accRecv = some (a, k) ∧
      (agrees a m = true ∧ m.restep = false) :=
  ⟨withPort { Port.reset with st := 4, rate := 2, peer := 5, accRecv := some (szl 3 0 5 (leOctets 4 0 ++ leOctets 4 9 ++ [1, 2, 1, 0x3F, 0, 0, 0, 0]), false) }, 2, szl 2 0 5 (leOctets 4 9 ++ [1, 1, 3, 7, 0x3F, 0, 0, 0] ++ leOctets 20 0), ⟨1, 2, 1, 0x3F, false, 0, 0, 0⟩, szl 3 0 5 (leOctets 4 0 ++ leOctets 4 9 ++ [1, 2, 1, 0x3F, 0, 0, 0, 0]), false, by decide +kernel⟩

theorem wit_PortDiscoveryCompletes_16 : ∃ (s : State) (c : PortId) (b : Octets) (k : Nat),
      (s.port c).st = 4 ∧
      offerOk b = true ∧
      settleMode s c (s.ownOffer c) (offerRec b) = .inl k ∧
      (s.laneBusy c = false ∧ (s.port c).waiting = []) :=
  ⟨withPort { Port.reset with st := 4, peer := 5 }, 2, szl 2 0 5 (leOctets 4 9 ++ [2, 2, 3, 7, 0x3F, 0, 0, 0] ++ leOctets 20 0), 1, by decide +kernel⟩

theorem wit_PortDiscoveryCompletes_17 : ∃ (s : State) (c : PortId) (b : Octets) (m : ModeRec),
      (s.port c).st = 3 ∧
      offerOk b = true ∧
      pduId b ≠ s.ident.toNat ∧
      settleMode (s.setPort c { s.port c with peer := BitVec.ofNat 64 (pduId b) }) c (s.ownOffer c) (offerRec b) = .inr m :=
  ⟨withPort { Port.reset with st := 3 }, 2, szl 2 0 5 (leOctets 4 9 ++ [1, 1, 3, 7, 0x3F, 0, 0, 0] ++ leOctets 20 0), ⟨1, 2, 1, 0x3F, true, 0, 0, 0⟩, by decide +kernel⟩

theorem wit_PortDiscoveryCompletes_18 : ∃ (s : State) (c : PortId) (b : Octets) (m : ModeRec),
      (s.port c).st = 5 ∧
      offerOk b = true ∧
      (s.port c).accSent ≠ some (offerRec b).offerId ∧
      settleMode s c (s.ownOffer c) (offerRec b) = .inr m :=
  ⟨withPort upPort, 2, szl 2 0 5 (leOctets 4 10 ++ [1, 1, 3, 7, 0x3F, 0, 0, 0] ++ leOctets 20 0), ⟨1, 2, 1, 0x3F, false, 0, 0, 0⟩, by decide +kernel⟩

theorem wit_PortDiscoveryCompletes_19 : ∃ (s : State) (c : PortId) (b : Octets) (m : ModeRec),
      (s.port c).st = 6 ∧
      offerOk b = true ∧
      settleMode s c (s.ownOffer c) (offerRec b) = .inr m :=
  ⟨withPort { upPort with st := 6 }, 2, szl 2 0 5 (leOctets 4 10 ++ [1, 1, 3, 7, 0x3F, 0, 0, 0] ++ leOctets 20 0), ⟨1, 2, 1, 0x3F, false, 0, 0, 0⟩, by decide +kernel⟩

theorem wit_PortDiscoveryCompletes_20 : ∃ (s : State) (c : PortId) (b : Octets) (m : ModeRec) (o : OfferRec),
      (s.port c).st = 4 ∧
      acceptOk b = true ∧
      ((s.port c).modeR = some m ∧ m.restep = false) ∧
      ((s.port c).peerOffer = some o ∧ (s.port c).accSent = some o.offerId) ∧
      leAt b 0x10 4 = (s.port c).offerId.toNat ∧
      agrees b m = true :=
  ⟨withPort { upPort with st := 4, accRecv := none }, 2, szl 3 0 5 (leOctets 4 0 ++ leOctets 4 9 ++ [1, 2, 1, 0x3F, 0, 0, 0, 0]), fullMode, peerOffer, by decide +kernel⟩

theorem wit_PortDiscoveryCompletes_21 : ∃ (s : State) (c : PortId) (b : Octets) (m : ModeRec),
      (s.port c).st = 4 ∧
      acceptOk b = true ∧
      (s.port c).modeR = some m ∧
      leAt b 0x10 4 = (s.port c).offerId.toNat ∧
      agrees b m = false :=
  ⟨withPort { upPort with st := 4, accRecv := none }, 2, szl 3 0 5 (leOctets 4 0 ++ leOctets 4 9 ++ [1, 1, 1, 0x3F, 0, 0, 0, 0]), fullMode, by decide +kernel⟩

theorem wit_PortDiscoveryCompletes_22 : ∃ (s : State) (c : PortId) (b : Octets),
      (s.port c).st = 4 ∧
      acceptOk b = true ∧
      (s.port c).modeR = none ∧
      leAt b 0x10 4 = (s.port c).offerId.toNat :=
  ⟨withPort { upPort with st := 4, accRecv := none, modeR := none }, 2, szl 3 0 5 (leOctets 4 0 ++ leOctets 4 9 ++ [1, 1, 1, 0x3F, 0, 0, 0, 0]), by decide +kernel⟩

theorem wit_PortDiscoveryCompletes_23 : ∃ (s : State) (c : PortId) (b : Octets),
      (3 ≤ (s.port c).st.toNat ∧ (s.port c).st.toNat ≤ 6) ∧
      acceptOk b = true ∧
      ((s.port c).st ≠ 4 ∨ leAt b 0x10 4 ≠ (s.port c).offerId.toNat) :=
  ⟨withPort { upPort with st := 4 }, 2, szl 3 0 5 (leOctets 4 1 ++ leOctets 4 9 ++ [1, 1, 1, 0x3F, 0, 0, 0, 0]), by decide +kernel⟩

theorem wit_PortDiscoveryCompletes_24a : ∃ (s : State) (c : PortId) (b : Octets),
      (s.port c).hears = true ∧
      (headOk b 4 24 0 = true ∧ 1 ≤ leAt b 0x14 1 ∧ leAt b 0x14 1 ≤ 3 ∧ zeros b 0x15 3 = true) :=
  ⟨withPort { upPort with st := 4 }, 2, szl 4 0 5 (leOctets 4 1 ++ [1, 0, 0, 0]), by decide +kernel⟩

theorem wit_PortDiscoveryCompletes_24b : ∃ (s : State) (c : PortId) (b : Octets),
      (s.port c).hears = true ∧
      (headOk b 4 24 0 = true ∧ 1 ≤ leAt b 0x14 1 ∧ leAt b 0x14 1 ≤ 3 ∧ zeros b 0x15 3 = true) :=
  ⟨withPort { upPort with st := 6 }, 2, szl 4 0 5 (leOctets 4 1 ++ [3, 0, 0, 0]), by decide +kernel⟩

theorem wit_PortDiscoveryCompletes_25 : ∃ (s : State) (c : PortId) (b : Octets),
      bit (s.cpCfg c) 14 = false :=
  ⟨withPort upPort, 2, [], by decide +kernel⟩

theorem wit_PortDiscoveryCompletes_26 : ∃ (s : State) (c : PortId) (b : Octets),
      bit (s.cpCfg c) 14 = true ∧
      s.ringTakes (portRing c) true 256 = true :=
  ⟨(withPort upPort).setRing 50 true ringUp |>.setIsland 0x42 { Isl.reset with active := [(0x31004, 0x4000)] }, 2, [], by decide +kernel⟩

theorem wit_PortDiscoveryCompletes_27 : ∃ (s : State) (c : PortId),
      ((s.port c).st = 4 ∧ (s.port c).loopb = 0) ∧
      (s.port c).negFrom + 4096000000000 ≤ s.clock :=
  ⟨{ withPort { upPort with st := 4 } with clock := 4096000000000 }, 2, by decide +kernel⟩

theorem wit_PortDiscoveryCompletes_28 : ∃ (s : State) (c : PortId) (t : Nat) (m : ModeRec),
      ((s.port c).st = 4 ∧ (s.port c).loopb = 0) ∧
      ((s.port c).restepAt = some t ∧ (s.port c).modeR = some m) ∧
      t ≤ s.clock ∧
      m.rate ≠ 0 :=
  ⟨withPort { upPort with st := 4, restepAt := some 40960000000 }, 2, 40960000000, fullMode, by decide +kernel⟩

/-! Stamps, frames, the message ring, and test loops -/

theorem wit_PortTrafficCompletes_1 : ∃ (s : State) (c : PortId),
      (s.port c).st = 5 ∧
      (s.port c).stampAt ≤ s.clock ∧
      (s.laneBusy c = false ∧ (s.port c).waiting = []) :=
  ⟨withPort upPort, 2, by decide +kernel⟩

theorem wit_PortTrafficCompletes_2 : ∃ (s : State) (c : PortId),
      (s.port c).st = 5 ∧
      (s.port c).stampAt ≤ s.clock ∧
      s.laneBusy c = true :=
  ⟨fwDay [{ wholeFrame with egress := some 5 }], 2, by decide +kernel⟩

theorem wit_PortTrafficCompletes_3 : ∃ (s : State) (c : PortId) (b : Octets),
      (s.port c).st = 5 ∧
      stampOk b = true ∧
      ((s.port c).est.sent.find? (fun e => e.1.toNat == leAt b 0x1A 2 &&
        (bit (s.cpCfg c) 11 || e.2.1 == BitVec.ofNat 80 (leAt b 0x1C 10))) = none ∨ (pduFlags b).testBit 2 = false) :=
  ⟨withPort upPort, 2, szl 5 1 5 (leOctets 10 77 ++ leOctets 22 0 ++ leOctets 8 5 ++ [1, 2] ++ leOctets 6 0), by decide +kernel⟩

theorem wit_PortTrafficCompletes_4 : ∃ (s : State) (c : PortId) (b : Octets) (e : BitVec 16 × DT × Bool),
      (s.port c).st = 5 ∧
      stampOk b = true ∧
      (s.port c).est.sent.find? (fun e => e.1.toNat == leAt b 0x1A 2 &&
        (bit (s.cpCfg c) 11 || e.2.1 == BitVec.ofNat 80 (leAt b 0x1C 10))) = some e ∧
      (pduFlags b).testBit 2 = true ∧
      (65536000000 < dtDiff (truncDt (s.port c).res s.now) (BitVec.ofNat 80 (leAt b 0x1C 10)) ∨ e.2.2 = true ∨
        (pduFlags b).testBit 1 = true ∨ (pduFlags b).testBit 3 = true ∨ s.outage = true) :=
  ⟨withPort { upPort with est := { upPort.est with sent := [(9, 40960000000 - 20000, true)] } }, 2, szl 5 4 5 (leOctets 10 (40960000000 - 4096) ++ leOctets 2 9 ++ leOctets 10 (40960000000 - 20000) ++ leOctets 10 (40960000000 - 16000) ++ leOctets 8 5 ++ [1, 2] ++ leOctets 6 0), (9, 40960000000 - 20000, true), by decide +kernel⟩

theorem wit_PortTrafficCompletes_5 : ∃ (s : State) (c : PortId) (b : Octets) (e : BitVec 16 × DT × Bool) (x : Exch) (n : Estim) (k : Bool),
      (s.port c).st = 5 ∧
      stampOk b = true ∧
      (s.port c).est.sent.find? (fun e => e.1.toNat == leAt b 0x1A 2 &&
        (bit (s.cpCfg c) 11 || e.2.1 == BitVec.ofNat 80 (leAt b 0x1C 10))) = some e ∧
      ((pduFlags b).testBit 2 = true ∧ (pduFlags b).testBit 1 = false ∧ (pduFlags b).testBit 3 = false) ∧
      x = ⟨BitVec.ofNat 80 (leAt b 0x1C 10), BitVec.ofNat 80 (leAt b 0x26 10), BitVec.ofNat 80 (leAt b 0x10 10),
          truncDt (s.port c).res s.now⟩ ∧
      (dtDiff x.d x.a ≤ 65536000000 ∧ e.2.2 = false ∧ s.outage = false) ∧
      estimate { (s.port c).est with got := some (BitVec.ofNat 16 (pduSeq b), BitVec.ofNat 80 (leAt b 0x10 10), truncDt (s.port c).res s.now, s.outage) }
        (fld (s.act (cpBase c + 0x28)) 3 8) (fld (s.act (cpBase c + 0x28)) 0 3) (s.portLats c) x s.clock = (n, k) :=
  ⟨withPort { upPort with est := { upPort.est with sent := [(9, 40960000000 - 20000, false)] } }, 2, szl 5 4 5 (leOctets 10 (40960000000 - 4096) ++ leOctets 2 9 ++ leOctets 10 (40960000000 - 20000) ++ leOctets 10 (40960000000 - 16000) ++ leOctets 8 5 ++ [1, 2] ++ leOctets 6 0), (9, 40960000000 - 20000, false), ⟨40960000000 - 20000, 40960000000 - 16000, 40960000000 - 4096, 40960000000⟩, { upPort.est with sent := [(9, 40960000000 - 20000, false)], got := some (0, 40960000000 - 4096, 40960000000, false), dmean := 4048, valid := true, usedAt := 40960000000, usedD := 40960000000, err := 48 }, true, by decide +kernel⟩

theorem wit_PortTrafficCompletes_6 : ∃ (s : State) (c : PortId) (m : Octets),
      syncOk m = true :=
  ⟨withPort upPort, 2, [0x10, 2] ++ beOctets 2 94 ++ List.replicate 40 0 ++ beOctets 2 3 ++ beOctets 2 46 ++ [0, 0, 0, 0, 0, 1] ++ List.replicate 40 0, by decide +kernel⟩

theorem wit_PortTrafficCompletes_7a : ∃ (s : State) (c : PortId) (b : Octets),
      (s.port c).hears = true :=
  ⟨withPort { upPort with st := 4 }, 2, [], by decide +kernel⟩

theorem wit_PortTrafficCompletes_7b : ∃ (s : State) (c : PortId) (b : Octets),
      (s.port c).hears = true :=
  ⟨withPort upPort, 2, List.replicate 225 0, by decide +kernel⟩

theorem wit_PortTrafficCompletes_8 : ∃ (s : State) (c : PortId) (b : Octets) (k : Bool),
      (s.port c).hears = false :=
  ⟨withPort { upPort with st := 7 }, 2, [], true, by decide +kernel⟩

theorem wit_PortTrafficCompletes_9 : ∃ (s : State) (c : PortId),
      ((s.port c).st = 5 ∧ (s.port c).est.frozen = false) ∧
      (s.port c).est.usedAt + 40960000000 ≤ s.clock :=
  ⟨withPort upPort, 2, by decide +kernel⟩

theorem wit_PortTrafficCompletes_10a : ∃ (s : State) (c : PortId) (b : Octets),
      (s.port c).st = 5 ∧
      (headOk b 6 32 0 = true ∧ leAt b 0x1A 1 < 32 ∧ leAt b 0x1B 1 < 16) ∧
      s.granted c 3 = true :=
  ⟨withPort upPort, 2, szl 6 0 5 (leOctets 10 77 ++ [3, 4] ++ leOctets 4 9), by decide +kernel⟩

theorem wit_PortTrafficCompletes_10b : ∃ (s : State) (c : PortId) (b : Octets),
      (s.port c).st = 5 ∧
      (headOk b 6 32 0 = true ∧ leAt b 0x1A 1 < 32 ∧ leAt b 0x1B 1 < 16) ∧
      s.granted c 3 = true :=
  ⟨withPort upPort, 2, szl 6 0 5 (leOctets 10 77 ++ [16, 4] ++ leOctets 4 9), by decide +kernel⟩

theorem wit_PortTrafficCompletes_11 : ∃ (s : State) (c : PortId) (b : Octets),
      (s.port c).st = 5 ∧
      (headOk b 6 32 0 = true ∧ leAt b 0x1A 1 < 32 ∧ leAt b 0x1B 1 < 16) ∧
      s.granted c 3 = false :=
  ⟨withPort { upPort with modeR := none }, 2, szl 6 0 5 (leOctets 10 77 ++ [3, 4] ++ leOctets 4 9), by decide +kernel⟩

theorem wit_PortTrafficCompletes_12a : ∃ (s : State) (c : PortId) (b : Octets) (n : Nat),
      (s.port c).st = 5 ∧
      (n = leAt b 0x11 1 ∧ 1 ≤ n ∧ n ≤ 4) ∧
      (headOk b 7 (24 + 48 * n) 0 = true ∧ zeros b 0x12 6 = true) ∧
      s.granted c 5 = true :=
  ⟨withPort upPort, 2, szl 7 0 5 ([3, 1] ++ leOctets 6 0 ++ leOctets 48 1), 1, by decide +kernel⟩

theorem wit_PortTrafficCompletes_12b : ∃ (s : State) (c : PortId) (b : Octets) (n : Nat),
      (s.port c).st = 5 ∧
      (n = leAt b 0x11 1 ∧ 1 ≤ n ∧ n ≤ 4) ∧
      (headOk b 7 (24 + 48 * n) 0 = true ∧ zeros b 0x12 6 = true) ∧
      s.granted c 5 = true :=
  ⟨withPort upPort, 2, szl 7 0 5 ([3, 4] ++ leOctets 6 0 ++ leOctets 192 1), 4, by decide +kernel⟩

theorem wit_PortTrafficCompletes_13 : ∃ (s : State) (c : PortId) (b : Octets) (n : Nat),
      (s.port c).st = 5 ∧
      (n = leAt b 0x11 1 ∧ 1 ≤ n ∧ n ≤ 4) ∧
      (headOk b 7 (24 + 48 * n) 0 = true ∧ zeros b 0x12 6 = true) ∧
      s.granted c 5 = false :=
  ⟨withPort { upPort with modeR := none }, 2, szl 7 0 5 ([3, 1] ++ leOctets 6 0 ++ leOctets 48 1), 1, by decide +kernel⟩

theorem wit_PortTrafficCompletes_14 : ∃ (s : State) (c : PortId) (b : Octets),
      (s.port c).st = 5 ∧
      (headOk b 8 b.length 0 = true ∧ 16 ≤ b.length ∧ b.length ≤ 224) ∧
      s.ringTakes (portRing c) true 256 = true :=
  ⟨(withPort upPort).setRing 50 true ringUp, 2, szl 8 0 5 [1, 2, 3], by decide +kernel⟩

theorem wit_PortTrafficCompletes_15 : ∃ (s : State) (c : PortId) (b : Octets),
      (s.port c).st = 5 ∧
      (headOk b 8 b.length 0 = true ∧ 16 ≤ b.length ∧ b.length ≤ 224) ∧
      s.ringTakes (portRing c) true 256 = false :=
  ⟨{ (withPort upPort).setRing 50 true ringUp with outbox := List.replicate 128 ⟨48, true, none, true, List.replicate 256 0⟩ }, 2, szl 8 0 5 [1, 2, 3], by decide +kernel⟩

theorem wit_PortTrafficCompletes_16 : ∃ (s : State) (c : PortId) (b : Octets) (r : List Octets),
      (s.port c).st = 5 ∧
      (s.port c).msgIn = b :: r ∧
      msgEntryOk b = true ∧
      (leAt b 0x21 1 = 8 ∨ s.granted c 4 = true) ∧
      (s.laneBusy c = false ∧ (s.port c).waiting = []) :=
  ⟨withPort { upPort with msgIn := [leOctets 2 16 ++ leOctets 30 0 ++ [0, 8] ++ leOctets 222 0] }, 2, leOctets 2 16 ++ leOctets 30 0 ++ [0, 8] ++ leOctets 222 0, [], by decide +kernel⟩

theorem wit_PortTrafficCompletes_17 : ∃ (s : State) (c : PortId),
      4 ≤ s.waitingOf c (fun ty => ty == 7 || ty == 8) :=
  ⟨withPort { upPort with msgIn := [[]], waiting := [(7, []), (8, []), (8, []), (7, [])] }, 2, by decide +kernel⟩

theorem wit_PortTrafficCompletes_18a : ∃ (s : State) (c : PortId) (b : Octets) (r : List Octets),
      (s.port c).st = 5 ∧
      (s.port c).msgIn = b :: r ∧
      (msgEntryOk b = false ∨ leAt b 0x21 1 = 7 ∧ s.granted c 4 = false) ∧
      s.waitingOf c (fun ty => ty == 7 || ty == 8) < 4 :=
  ⟨withPort { upPort with msgIn := [leOctets 2 15 ++ leOctets 30 0 ++ [0, 8]] }, 2, leOctets 2 15 ++ leOctets 30 0 ++ [0, 8], [], by decide +kernel⟩

theorem wit_PortTrafficCompletes_18b : ∃ (s : State) (c : PortId) (b : Octets) (r : List Octets),
      (s.port c).st = 5 ∧
      (s.port c).msgIn = b :: r ∧
      (msgEntryOk b = false ∨ leAt b 0x21 1 = 7 ∧ s.granted c 4 = false) ∧
      s.waitingOf c (fun ty => ty == 7 || ty == 8) < 4 :=
  ⟨withPort { upPort with modeR := none, msgIn := [leOctets 2 16 ++ leOctets 30 0 ++ [0, 7] ++ leOctets 222 0] }, 2, leOctets 2 16 ++ leOctets 30 0 ++ [0, 7] ++ leOctets 222 0, [], by decide +kernel⟩

theorem wit_PortTrafficCompletes_19a : ∃ (s : State) (c : PortId),
      s.hostReach = true ∧
      (s.port c).loopb ≠ 1 :=
  ⟨withPort upPort, 2, by decide +kernel⟩

theorem wit_PortTrafficCompletes_19b : ∃ (s : State) (c : PortId),
      s.hostReach = true ∧
      (s.port c).loopb ≠ 1 :=
  ⟨withPort { upPort with st := 1 }, 2, by decide +kernel⟩

theorem wit_PortTrafficCompletes_20a : ∃ (s : State) (c : PortId),
      s.hostReach = true ∧
      (s.port c).loopb ≠ 2 :=
  ⟨withPort upPort, 2, by decide +kernel⟩

theorem wit_PortTrafficCompletes_20b : ∃ (s : State) (c : PortId),
      s.hostReach = true ∧
      (s.port c).loopb ≠ 2 :=
  ⟨withPort { upPort with st := 1 }, 2, by decide +kernel⟩

theorem wit_PortTrafficCompletes_21a : ∃ (s : State) (c : PortId),
      s.hostReach = true ∧
      (s.port c).loopb ≠ 3 :=
  ⟨withPort upPort, 2, by decide +kernel⟩

theorem wit_PortTrafficCompletes_21b : ∃ (s : State) (c : PortId),
      s.hostReach = true ∧
      (s.port c).loopb ≠ 3 :=
  ⟨withPort { upPort with st := 1 }, 2, by decide +kernel⟩

theorem wit_PortTrafficCompletes_22 : ∃ (s : State) (c : PortId),
      s.hostReach = true ∧
      ((s.port c).st = 7 ∧ (s.port c).loopb ≠ 0) :=
  ⟨withPort { upPort with st := 7, loopb := 2 }, 2, by decide +kernel⟩

theorem wit_PortTrafficCompletes_23 : ∃ (s : State) (c : PortId),
      s.hostReach = true ∧
      ((s.port c).st ≠ 7 ∧ (s.port c).loopb ≠ 0) :=
  ⟨withPort { upPort with st := 1, loopb := 2 }, 2, by decide +kernel⟩

theorem wit_PortTrafficCompletes_24 : ∃ (s : State) (c : PortId),
      s.hostReach = true ∧
      ((s.port c).loopb ≠ 0 ∨ (s.port c).st.toNat < 3 ∨ (s.port c).st = 7) :=
  ⟨withPort { upPort with st := 7, loopb := 1 }, 2, by decide +kernel⟩

theorem wit_PortTrafficCompletes_25 : ∃ (s : State) (c : PortId),
      s.hostReach = true ∧
      (s.port c).loopb = 0 ∧
      (3 ≤ (s.port c).st.toNat ∧ (s.port c).st.toNat ≤ 6) :=
  ⟨withPort upPort, 2, by decide +kernel⟩

theorem wit_PortTrafficCompletes_26 : ∃ (s : State) (c : PortId) (n : Nat),
      s.hostReach = true ∧
      ((s.port c).loopb = 1 ∨ (s.port c).loopb = 2) ∧
      2 ≤ (s.port c).st.toNat :=
  ⟨withPort { upPort with st := 7, loopb := 2 }, 2, 7, by decide +kernel⟩

theorem wit_PortTrafficCompletes_27 : ∃ (s : State) (c : PortId) (n : Nat),
      s.hostReach = true ∧
      (s.port c).loopb = 0 ∧
      (2 ≤ (s.port c).st.toNat ∧ (s.port c).st.toNat ≤ 6) :=
  ⟨withPort upPort, 2, 7, by decide +kernel⟩

theorem wit_PortTrafficCompletes_28 : ∃ (s : State) (c : PortId) (n : Nat),
      s.hostReach = true ∧
      ((s.port c).st.toNat < 2 ∨ (s.port c).loopb = 3) :=
  ⟨withPort { upPort with st := 7, loopb := 3 }, 2, 7, by decide +kernel⟩

/-! Frames through the shared buffer -/

theorem wit_FreewheelCompletes_1a : ∃ (s : State) (c : PortId) (d : Bool) (b : Octets) (g : Word) (m : RegMap) (e : Nat),
      s.laneUp c (!d) = true ∧
      (d = true ∨ isSzl b = false) ∧
      s.arriving c d = none ∧
      s.clocked = true ∧
      (s.fwTable = (g, m) ∧ e = clLookup m c d b) ∧
      (s.forwards (clDisp e) = false ∨ s.queueCells c d (classOf m c e b) < min 16384 (fld (regGet m (fwBase c + 8)) 0 15)) ∧
      40 ≤ s.fw.free :=
  ⟨fwDay [], 2, true, rawFrame, 0, [(0x38180, 2)], 0, by decide +kernel⟩

theorem wit_FreewheelCompletes_1b : ∃ (s : State) (c : PortId) (d : Bool) (b : Octets) (g : Word) (m : RegMap) (e : Nat),
      s.laneUp c (!d) = true ∧
      (d = true ∨ isSzl b = false) ∧
      s.arriving c d = none ∧
      s.clocked = true ∧
      (s.fwTable = (g, m) ∧ e = clLookup m c d b) ∧
      (s.forwards (clDisp e) = false ∨ s.queueCells c d (classOf m c e b) < min 16384 (fld (regGet m (fwBase c + 8)) 0 15)) ∧
      40 ≤ s.fw.free :=
  ⟨fwDay [], 2, false, rawFrame, 0, [(0x38180, 2)], 0, by decide +kernel⟩

theorem wit_FreewheelCompletes_2 : ∃ (s : State) (c : PortId) (d : Bool) (b : Octets) (g : Word) (m : RegMap) (e : Nat),
      s.laneUp c (!d) = true ∧
      (d = true ∨ isSzl b = false) ∧
      s.arriving c d = none ∧
      s.clocked = true ∧
      (s.fwTable = (g, m) ∧ e = clLookup m c d b) ∧
      s.forwards (clDisp e) = true ∧
      min 16384 (fld (regGet m (fwBase c + 8)) 0 15) ≤ s.queueCells c d (classOf m c e b) :=
  ⟨(fwDay [{ wholeFrame with cells := 7 }]).setIsland 0x50 { Isl.reset with active := [(0x38180, 2), (0x38188, 7)] }, 2, true, rawFrame, 0, [(0x38180, 2), (0x38188, 7)], 0, by decide +kernel⟩

theorem wit_FreewheelCompletes_3 : ∃ (s : State) (c : PortId) (d : Bool) (b : Octets) (g : Word) (m : RegMap) (e : Nat),
      s.laneUp c (!d) = true ∧
      (d = true ∨ isSzl b = false) ∧
      s.arriving c d = none ∧
      s.clocked = true ∧
      (s.fwTable = (g, m) ∧ e = clLookup m c d b) ∧
      (s.forwards (clDisp e) = false ∨ s.queueCells c d (classOf m c e b) < min 16384 (fld (regGet m (fwBase c + 8)) 0 15)) ∧
      s.fw.free < 40 :=
  ⟨{ fwDay [] with fw := { (fwDay []).fw with free := 39 } }, 2, false, rawFrame, 0, [(0x38180, 2)], 0, by decide +kernel⟩

theorem wit_FreewheelCompletes_4 : ∃ (s : State) (c : PortId) (d : Bool) (b : Octets),
      s.laneUp c (!d) = true ∧
      (d = true ∨ isSzl b = false) ∧
      s.arriving c d = none ∧
      s.clocked = false :=
  ⟨{ fwDay [] with hub := Hub.reset }, 2, false, rawFrame, by decide +kernel⟩

theorem wit_FreewheelCompletes_5 : ∃ (s : State) (c : PortId) (d : Bool) (b : Octets),
      (s.laneUp c (!d) = false ∨ d = false ∧ isSzl b = true ∨ s.arriving c d ≠ none) :=
  ⟨fwDay [comingIn], 2, true, rawFrame, by decide +kernel⟩

theorem wit_FreewheelCompletes_6a : ∃ (s : State) (c : PortId) (d : Bool) (b : Octets) (k : Bool) (f : Frame),
      (s.arriving c d = some f ∧ s.clocked = true) ∧
      frameFault (f.octets ++ b) k ≠ 0 ∧
      f.egress = none :=
  ⟨fwDay [comingIn], 2, true, [], true, comingIn, by decide +kernel⟩

theorem wit_FreewheelCompletes_6b : ∃ (s : State) (c : PortId) (d : Bool) (b : Octets) (k : Bool) (f : Frame),
      (s.arriving c d = some f ∧ s.clocked = true) ∧
      frameFault (f.octets ++ b) k ≠ 0 ∧
      f.egress = none :=
  ⟨fwDay [comingIn], 2, true, [0], false, comingIn, by decide +kernel⟩

theorem wit_FreewheelCompletes_7 : ∃ (s : State) (c : PortId) (d : Bool) (b : Octets) (k : Bool) (f : Frame) (t : DT),
      (s.arriving c d = some f ∧ s.clocked = true) ∧
      frameFault (f.octets ++ b) k ≠ 0 ∧
      f.egress = some t :=
  ⟨fwDay [{ comingIn with egress := some 9 }], 2, true, [], true, { comingIn with egress := some 9 }, 9, by decide +kernel⟩

theorem wit_FreewheelCompletes_8 : ∃ (s : State) (c : PortId) (d : Bool) (b : Octets) (k : Bool) (f : Frame) (n : Nat),
      (s.arriving c d = some f ∧ s.clocked = true) ∧
      frameFault (f.octets ++ b) k = 0 ∧
      (f.disp = 0 ∧ s.fw.bypass = false) ∧
      n = ((f.octets ++ b).length + 255) / 256 :=
  ⟨fwDay [comingIn], 2, true, [], false, comingIn, 1, by decide +kernel⟩

theorem wit_FreewheelCompletes_9 : ∃ (s : State) (c : PortId) (d : Bool) (b : Octets) (k : Bool) (f : Frame) (n : Nat),
      (s.arriving c d = some f ∧ s.clocked = true) ∧
      frameFault (f.octets ++ b) k = 0 ∧
      (f.disp = 3 ∧ s.fw.bypass = false) ∧
      s.ringTakes (portRing f.pair) true 256 = true ∧
      n = ((f.octets ++ b).length + 255) / 256 :=
  ⟨(fwDay [{ comingIn with disp := 3 }]).setRing 50 true ringUp, 2, true, [], false, { comingIn with disp := 3 }, 1, by decide +kernel⟩

theorem wit_FreewheelCompletes_10 : ∃ (s : State) (c : PortId) (d : Bool) (b : Octets) (k : Bool) (f : Frame),
      (s.arriving c d = some f ∧ s.clocked = true) ∧
      frameFault (f.octets ++ b) k = 0 ∧
      (f.disp = 2 ∧ (f.ts = false ∨ f.toLine = true)) ∧
      s.ringTakes (portRing f.pair) true 256 = true :=
  ⟨(fwDay [{ comingIn with disp := 2 }]).setRing 50 true ringUp, 2, true, [], false, { comingIn with disp := 2 }, by decide +kernel⟩

theorem wit_FreewheelCompletes_11 : ∃ (s : State) (c : PortId) (d : Bool) (b : Octets) (k : Bool) (f : Frame),
      (s.arriving c d = some f ∧ s.clocked = true) ∧
      frameFault (f.octets ++ b) k = 0 ∧
      (f.disp = 2 ∧ (f.ts = false ∨ f.toLine = true)) ∧
      s.ringTakes (portRing f.pair) true 256 = false :=
  ⟨fwDay [{ comingIn with disp := 2 }], 2, true, [], false, { comingIn with disp := 2 }, by decide +kernel⟩

theorem wit_FreewheelCompletes_12 : ∃ (s : State) (c : PortId) (d : Bool) (b : Octets) (k : Bool) (f g : Frame),
      (s.arriving c d = some f ∧ s.clocked = true) ∧
      frameFault (f.octets ++ b) k = 0 ∧
      (f.disp = 1 ∧ (f.ts = false ∨ f.toLine = true)) ∧
      g = { f with octets := f.octets ++ b, whole := true, cells := ((f.octets ++ b).length + 255) / 256 } :=
  ⟨fwDay [{ comingIn with disp := 1 }], 2, true, [], false, { comingIn with disp := 1 }, { wholeFrame with disp := 1 }, by decide +kernel⟩

theorem wit_FreewheelCompletes_13 : ∃ (s : State) (c : PortId) (o p : Octets) (d : DT),
      (tagged o = false ∧ frameType o = 0x88B5) ∧
      p = ((noFcs o).drop 14).take (max 16 (pduLen ((noFcs o).drop 14))) :=
  ⟨withPort upPort, 2, List.replicate 12 0 ++ [0x88, 0xB5] ++ szl 8 0 5 [1, 2, 3] ++ List.replicate 40 0, szl 8 0 5 [1, 2, 3], 9, by decide +kernel⟩

theorem wit_FreewheelCompletes_14 : ∃ (s : State) (c : PortId) (d : Bool) (b : Octets) (k : Bool) (f : Frame),
      (s.arriving c d = some f ∧ s.clocked = true) ∧
      frameFault (f.octets ++ b) k = 0 ∧
      (f.disp = 0 ∧ s.fw.bypass = true ∧ (f.ts = false ∨ f.toLine = true)) :=
  ⟨{ fwDay [comingIn] with fw := { (fwDay [comingIn]).fw with bypass := true } }, 2, true, [], false, comingIn, by decide +kernel⟩

theorem wit_FreewheelCompletes_15 : ∃ (s : State) (c : PortId) (d : Bool) (f : Frame),
      s.clocked = true ∧
      (s.laneFrames c d).any (fun f => f.egress.isSome) = false ∧
      nextFrame (s.laneFrames c d) = some f ∧
      dtLe s.dt (dtAdd f.ingress s.fwAge) = true ∧
      s.laneUp c d = true :=
  ⟨fwDay [wholeFrame], 2, true, wholeFrame, by decide +kernel⟩

theorem wit_FreewheelCompletes_16 : ∃ (s : State) (c : PortId) (d : Bool) (f : Frame),
      s.clocked = true ∧
      (s.laneFrames c d).any (fun f => f.egress.isSome) = false ∧
      nextFrame (s.laneFrames c d) = some f ∧
      (dtLe s.dt (dtAdd f.ingress s.fwAge) = false ∨ s.laneUp c d = false) :=
  ⟨fwDay [{ wholeFrame with ingress := 0 }], 2, true, { wholeFrame with ingress := 0 }, by decide +kernel⟩

theorem wit_FreewheelCompletes_17 : ∃ (s : State) (c : PortId) (d : Bool) (f : Frame),
      s.clocked = true ∧
      (s.laneFrames c d).find? (fun f => f.egress.isSome) = some f ∧
      (f.whole = true ∧ f.corr = false ∧ f.ts = false) :=
  ⟨fwDay [{ wholeFrame with egress := some 40959500000 }], 2, true, { wholeFrame with egress := some 40959500000 }, by decide +kernel⟩

theorem wit_FreewheelCompletes_18 : ∃ (s : State) (c : PortId) (d : Bool) (f : Frame),
      s.clocked = true ∧
      (s.laneFrames c d).find? (fun f => f.egress.isSome) = some f ∧
      (f.whole = true ∧ f.corr = true ∧ f.ts = false) ∧
      isPtpEvent f.octets = false :=
  ⟨fwDay [{ wholeFrame with corr := true, egress := some 40959500000 }], 2, true, { wholeFrame with corr := true, egress := some 40959500000 }, by decide +kernel⟩

theorem wit_FreewheelCompletes_19 : ∃ (s : State) (c : PortId) (d : Bool) (f : Frame) (t : DT),
      s.clocked = true ∧
      (s.laneFrames c d).find? (fun f => f.egress.isSome) = some f ∧
      (f.whole = true ∧ f.corr = true ∧ f.ts = false ∧ f.egress = some t) ∧
      isPtpEvent f.octets = true :=
  ⟨fwDay [{ wholeFrame with corr := true, octets := List.replicate 12 0 ++ [0x88, 0xF7, 0, 2] ++ List.replicate 48 0, egress := some 40959500000 }], 2, true, { wholeFrame with corr := true, octets := List.replicate 12 0 ++ [0x88, 0xF7, 0, 2] ++ List.replicate 48 0, egress := some 40959500000 }, 40959500000, by decide +kernel⟩

theorem wit_FreewheelCompletes_20 : ∃ (s : State) (c : PortId) (d : Bool) (f : Frame) (t : DT),
      s.clocked = true ∧
      (s.laneFrames c d).find? (fun f => f.egress.isSome) = some f ∧
      (f.whole = true ∧ f.corr = false ∧ f.ts = true ∧ f.egress = some t) ∧
      s.ringTakes (portRing f.pair) true 256 = true :=
  ⟨(fwDay [{ wholeFrame with ts := true, egress := some 40959500000 }]).setRing 50 true ringUp, 2, true, { wholeFrame with ts := true, egress := some 40959500000 }, 40959500000, by decide +kernel⟩

/-! BEACONs, hops, and which ring is followed -/

theorem wit_RingReferenceCompletes_1 : ∃ (s t : State) (r : RingDir) (b : Octets),
      s.stoker.st ≠ 0 ∧
      cellOk b = false ∧
      t = raiseNow 240 2 0 0 (s.modStoker fun k => { k.setClk r true with badCell := k.badCell + 1 }) :=
  ⟨ringDay member, _, .cw, [], by decide +kernel, by decide +kernel, rfl⟩

theorem wit_RingReferenceCompletes_2 : ∃ (s t : State) (r : RingDir) (b : Octets),
      (s.stoker.st = 0 ∨ cellOk b = true ∧ (s.isOwn b = true ∨ s.firstCopy b = false)) ∧
      t = s.modStoker (·.setClk r true) :=
  ⟨ringDay { member with pos := 3 }, _, .ccw, cellOf 2 (leOctets 26 0), by decide +kernel, rfl⟩

theorem wit_RingReferenceCompletes_3 : ∃ (s : State) (r : RingDir) (b : Octets),
      (cellOk b = true ∧ cellType b = 1) ∧
      s.stoker.st ≠ 0 ∧
      s.isOwn b = true :=
  ⟨ringDay { member with st := 3, pos := 3, cwOk := false }, .cw, cellOf 1 (leOctets 14 9 ++ leOctets 8 me ++ leOctets 4 0), by decide +kernel⟩

theorem wit_RingReferenceCompletes_4a : ∃ (s : State) (r : RingDir) (b : Octets),
      (cellOk b = true ∧ cellType b = 1) ∧
      s.isOrigin b = false ∧
      cellSide b = s.pair.side ∧
      s.stoker.st = 2 ∧
      (cellId b = s.stoker.captId ∧ cellOrigin b = s.stoker.captPos.toNat) :=
  ⟨ringDay member, .cw, cellOf 1 (leOctets 14 9 ++ leOctets 8 5 ++ leOctets 4 0), by decide +kernel⟩

theorem wit_RingReferenceCompletes_4b : ∃ (s : State) (r : RingDir) (b : Octets),
      (cellOk b = true ∧ cellType b = 1) ∧
      s.isOrigin b = false ∧
      cellSide b = s.pair.side ∧
      s.stoker.st = 2 ∧
      (cellId b = s.stoker.captId ∧ cellOrigin b = s.stoker.captPos.toNat) :=
  ⟨ringDay member, .ccw, cellOf 1 (leOctets 14 9 ++ leOctets 8 5 ++ leOctets 4 0), by decide +kernel⟩

theorem wit_RingReferenceCompletes_5a : ∃ (s : State) (r : RingDir) (b : Octets),
      (cellOk b = true ∧ cellType b = 1) ∧
      s.isOrigin b = false ∧
      cellSide b = s.pair.side ∧
      s.stoker.st = 1 :=
  ⟨ringDay { member with st := 1, captId := 9 }, .ccw, cellOf 1 (leOctets 14 9 ++ leOctets 8 5 ++ leOctets 4 0), by decide +kernel⟩

theorem wit_RingReferenceCompletes_5b : ∃ (s : State) (r : RingDir) (b : Octets),
      (cellOk b = true ∧ cellType b = 1) ∧
      s.isOrigin b = false ∧
      cellSide b = s.pair.side ∧
      s.stoker.st = 1 :=
  ⟨ringDay { member with st := 1, captId := 9, cwOk := false, ccwOk := false }, .ccw, cellOf 1 (leOctets 14 9 ++ leOctets 8 5 ++ leOctets 4 0), by decide +kernel⟩

theorem wit_RingReferenceCompletes_6 : ∃ (s : State) (r : RingDir) (b : Octets),
      (cellOk b = true ∧ cellType b = 1) ∧
      s.isOrigin b = false ∧
      cellSide b = s.pair.side ∧
      s.stoker.st = 4 :=
  ⟨ringDay { member with st := 4, cwOk := false, ccwOk := false }, .ccw, cellOf 1 (leOctets 14 9 ++ leOctets 8 5 ++ leOctets 4 0), by decide +kernel⟩

theorem wit_RingReferenceCompletes_7a : ∃ (s : State) (r : RingDir) (b : Octets),
      (cellOk b = true ∧ cellType b = 1) ∧
      (s.firstCopy b = true ∧ s.isOrigin b = false ∧ s.isDest b = true) ∧
      cellSide b = s.pair.side ∧
      (s.stoker.st = 3 ∨ s.stoker.st = 2) ∧
      lower (cellOrigin b) (cellId b) s.stoker.captPos.toNat s.stoker.captId = true :=
  ⟨ringDay { member with st := 3, pos := 4, captPos := 4, captId := 2 }, .cw, cellOf 1 (leOctets 14 9 ++ leOctets 8 5 ++ leOctets 4 0), by decide +kernel⟩

theorem wit_RingReferenceCompletes_7b : ∃ (s : State) (r : RingDir) (b : Octets),
      (cellOk b = true ∧ cellType b = 1) ∧
      (s.firstCopy b = true ∧ s.isOrigin b = false ∧ s.isDest b = true) ∧
      cellSide b = s.pair.side ∧
      (s.stoker.st = 3 ∨ s.stoker.st = 2) ∧
      lower (cellOrigin b) (cellId b) s.stoker.captPos.toNat s.stoker.captId = true :=
  ⟨ringDay { member with captPos := 4, captId := 2 }, .ccw, cellOf 1 (leOctets 14 9 ++ leOctets 8 5 ++ leOctets 4 0), by decide +kernel⟩

theorem wit_RingReferenceCompletes_8 : ∃ (s : State) (r : RingDir) (b : Octets),
      (cellOk b = true ∧ cellType b = 1) ∧
      (s.firstCopy b = true ∧ s.isDest b = true) ∧
      cellSide b ≠ s.pair.side ∧
      s.stoker.st ≠ 0 :=
  ⟨{ ringDay member with pair := { Pair.reset with side := true } }, .cw, cellOf 1 (leOctets 14 9 ++ leOctets 8 5 ++ leOctets 4 0), by decide +kernel⟩

theorem wit_RingReferenceCompletes_9 : ∃ (s : State) (r : RingDir) (b : Octets),
      (cellOk b = true ∧ cellType b = 1) ∧
      s.firstCopy b = true ∧
      (s.isOrigin b = true ∧ (cellId b).toNat < s.ident.toNat) ∧
      (s.stoker.st ≠ 0 ∧ s.stoker.st ≠ 6 ∧ s.inDay = true) :=
  ⟨ringDay { member with pos := 3 }, .cw, cellOf 1 (leOctets 14 9 ++ leOctets 8 5 ++ leOctets 4 0), by decide +kernel⟩

theorem wit_RingReferenceCompletes_10 : ∃ (s : State) (b : Octets),
      s.stoker.st = 3 ∧
      s.stoker.beaconAt ≤ s.clock ∧
      (s.stoker.wait = [] ∧ s.stoker.freeN ≤ s.clock ∧ s.stoker.freeP ≤ s.clock) ∧
      b = mkCell s 1 0 true (leOctets 8 s.root.id.toNat ++ [0, 0] ++ leOctets 4 s.commit.gen.toNat ++ leOctets 8 s.ident.toNat ++
        leOctets 4 (min s.root.hops 255 + s.root.qual * 256 + b1 s.root.tai * 65536)) :=
  ⟨ringDay { member with st := 3 }, mkCell (ringDay { member with st := 3 }) 1 0 true (leOctets 8 me ++ leOctets 6 0 ++ leOctets 8 me ++ leOctets 4 1024), by decide +kernel⟩

theorem wit_RingReferenceCompletes_11 : ∃ (s : State) (b : Octets),
      s.stoker.st = 3 ∧
      s.stoker.beaconAt ≤ s.clock ∧
      (s.clock < s.stoker.freeN ∧ s.clock < s.stoker.freeP) ∧
      b = mkCell s 1 0 true (leOctets 8 s.root.id.toNat ++ [0, 0] ++ leOctets 4 s.commit.gen.toNat ++ leOctets 8 s.ident.toNat ++
        leOctets 4 (min s.root.hops 255 + s.root.qual * 256 + b1 s.root.tai * 65536)) :=
  ⟨ringDay { member with st := 3, freeN := 40960000001, freeP := 40960000001 }, mkCell (ringDay { member with st := 3 }) 1 0 true (leOctets 8 me ++ leOctets 6 0 ++ leOctets 8 me ++ leOctets 4 1024), by decide +kernel⟩

theorem wit_RingReferenceCompletes_12a : ∃ (s : State) (r : RingDir) (b : Octets),
      (cellOk b = true ∧ cellType b = 2) ∧
      (s.firstCopy b = true ∧ s.isOrigin b = false ∧ s.isDest b = true) ∧
      s.stoker.st ≠ 0 ∧
      ((s.stoker.est (inPort r)).sent.find? (fun e => e.1.toNat == cellAux b % 256 && e.2.1 == restore48 (leAt b 0x0E 6) s.now) = none ∨
        (cellAux b).testBit 8 = false) :=
  ⟨ringDay member, .cw, cellOf 2 (leOctets 26 0), by decide +kernel⟩

theorem wit_RingReferenceCompletes_12b : ∃ (s : State) (r : RingDir) (b : Octets),
      (cellOk b = true ∧ cellType b = 2) ∧
      (s.firstCopy b = true ∧ s.isOrigin b = false ∧ s.isDest b = true) ∧
      s.stoker.st ≠ 0 ∧
      ((s.stoker.est (inPort r)).sent.find? (fun e => e.1.toNat == cellAux b % 256 && e.2.1 == restore48 (leAt b 0x0E 6) s.now) = none ∨
        (cellAux b).testBit 8 = false) :=
  ⟨ringDay member, .ccw, cellOf 2 (leOctets 26 0), by decide +kernel⟩

theorem wit_RingReferenceCompletes_13 : ∃ (s : State) (r : RingDir) (b : Octets) (e : BitVec 16 × DT × Bool),
      (cellOk b = true ∧ cellType b = 2) ∧
      (s.firstCopy b = true ∧ s.isOrigin b = false ∧ s.isDest b = true) ∧
      s.stoker.st ≠ 0 ∧
      (s.stoker.est (inPort r)).sent.find? (fun e => e.1.toNat == cellAux b % 256 && e.2.1 == restore48 (leAt b 0x0E 6) s.now) = some e ∧
      (cellAux b).testBit 8 = true ∧
      (8192000000 < dtDiff s.now (restore48 (leAt b 0x0E 6) s.now) ∨ e.2.2 = true ∨ (cellAux b).testBit 9 = true ∨
        (cellAux b).testBit 10 = true ∨ s.outage = true) :=
  ⟨ringDay { member with estP := { Estim.reset with sent := [(9, 40960000000 - 20000, true)] } }, .cw, cellOf 2 (leOctets 10 (40960000000 - 4096) ++ leOctets 6 (40960000000 - 20000) ++ leOctets 6 (40960000000 - 16000) ++ leOctets 4 (9 + 256)), (9, 40960000000 - 20000, true), by decide +kernel⟩

theorem wit_RingReferenceCompletes_14 : ∃ (s : State) (r : RingDir) (b : Octets) (e : BitVec 16 × DT × Bool) (x : Exch) (n : Estim) (k : Bool),
      (cellOk b = true ∧ cellType b = 2) ∧
      (s.firstCopy b = true ∧ s.isOrigin b = false ∧ s.isDest b = true) ∧
      s.stoker.st ≠ 0 ∧
      (s.stoker.est (inPort r)).sent.find? (fun e => e.1.toNat == cellAux b % 256 && e.2.1 == restore48 (leAt b 0x0E 6) s.now) = some e ∧
      ((cellAux b).testBit 8 = true ∧ (cellAux b).testBit 9 = false ∧ (cellAux b).testBit 10 = false) ∧
      x = ⟨restore48 (leAt b 0x0E 6) s.now, restore48 (leAt b 0x14 6) s.now, cellDt b, s.now⟩ ∧
      (dtDiff x.d x.a ≤ 8192000000 ∧ e.2.2 = false ∧ s.outage = false) ∧
      estimate { s.stoker.est (inPort r) with got := some ((cellSeq b).setWidth 16, cellDt b, s.now, s.outage) }
        (fld (s.act 0x3C000) 4 8) (fld (s.act 0x3C000) 1 3) (s.hopLats (inPort r)) x s.clock = (n, k) :=
  ⟨ringDay { member with estP := { Estim.reset with sent := [(9, 40960000000 - 20000, false)] }, beaconCw := some ⟨1, 5, 0, 0, 2, false⟩ }, .cw, cellOf 2 (leOctets 10 (40960000000 - 4096) ++ leOctets 6 (40960000000 - 20000) ++ leOctets 6 (40960000000 - 16000) ++ leOctets 4 (9 + 256)), (9, 40960000000 - 20000, false), ⟨40960000000 - 20000, 40960000000 - 16000, 40960000000 - 4096, 40960000000⟩, { Estim.reset with sent := [(9, 40960000000 - 20000, false)], got := some (7, 40960000000 - 4096, 40960000000, false), dmean := 4048, valid := true, usedAt := 40960000000, usedD := 40960000000, err := 48 }, true, by decide +kernel⟩

theorem wit_RingReferenceCompletes_15 : ∃ (s : State),
      (s.stoker.st ≠ 0 ∧ s.stoker.st ≠ 6) ∧
      s.stoker.hopAt ≤ s.clock ∧
      (s.stoker.wait = [] ∧ s.stoker.freeN ≤ s.clock ∧ s.stoker.freeP ≤ s.clock) :=
  ⟨ringDay member, by decide +kernel⟩

theorem wit_RingReferenceCompletes_16 : ∃ (s : State),
      (s.stoker.st ≠ 0 ∧ s.stoker.st ≠ 6) ∧
      s.stoker.hopAt ≤ s.clock ∧
      (s.clock < s.stoker.freeN ∧ s.clock < s.stoker.freeP) :=
  ⟨ringDay { member with freeN := 40960000001, freeP := 40960000001 }, by decide +kernel⟩

theorem wit_RingReferenceCompletes_17a : ∃ (s : State) (p : RingPort),
      s.stoker.st ≠ 0 ∧
      (s.stoker.est p).frozen = false ∧
      (s.stoker.est p).usedAt + 40960000000 ≤ s.clock :=
  ⟨ringDay member, .n, by decide +kernel⟩

theorem wit_RingReferenceCompletes_17b : ∃ (s : State) (p : RingPort),
      s.stoker.st ≠ 0 ∧
      (s.stoker.est p).frozen = false ∧
      (s.stoker.est p).usedAt + 40960000000 ≤ s.clock :=
  ⟨ringDay member, .p, by decide +kernel⟩

theorem wit_RingReferenceCompletes_18a : ∃ (s : State) (r q : RingDir) (k : Bool),
      (k = true ∨ s.stoker.heardAt r + 12288000 ≤ s.clock) ∧
      s.stoker.st = 2 ∧
      s.stoker.ok r = true ∧
      s.stoker.dir = isCcw r ∧
      (q = ringOf (!s.stoker.dir) ∧ s.stoker.ok q = true) :=
  ⟨ringDay member, .cw, .ccw, true, by decide +kernel⟩

theorem wit_RingReferenceCompletes_18b : ∃ (s : State) (r q : RingDir) (k : Bool),
      (k = true ∨ s.stoker.heardAt r + 12288000 ≤ s.clock) ∧
      s.stoker.st = 2 ∧
      s.stoker.ok r = true ∧
      s.stoker.dir = isCcw r ∧
      (q = ringOf (!s.stoker.dir) ∧ s.stoker.ok q = true) :=
  ⟨ringDay { member with heardCw := 40947712000 }, .cw, .ccw, false, by decide +kernel⟩

theorem wit_RingReferenceCompletes_19 : ∃ (s : State) (r q : RingDir) (k : Bool),
      (k = true ∨ s.stoker.heardAt r + 12288000 ≤ s.clock) ∧
      s.stoker.st = 2 ∧
      s.stoker.ok r = true ∧
      (q = ringOf (r == .cw) ∧ s.stoker.ok q = false) :=
  ⟨ringDay { member with ccwOk := false }, .cw, .ccw, true, by decide +kernel⟩

theorem wit_RingReferenceCompletes_20a : ∃ (s : State) (r : RingDir) (k : Bool),
      (k = true ∨ s.stoker.heardAt r + 12288000 ≤ s.clock) ∧
      (s.stoker.st = 2 ∧ s.stoker.cwOk = true ∧ s.stoker.ccwOk = true ∧ s.stoker.dir ≠ isCcw r ∨ s.stoker.st = 3 ∧ s.stoker.ok r = true) :=
  ⟨ringDay member, .ccw, true, by decide +kernel⟩

theorem wit_RingReferenceCompletes_20b : ∃ (s : State) (r : RingDir) (k : Bool),
      (k = true ∨ s.stoker.heardAt r + 12288000 ≤ s.clock) ∧
      (s.stoker.st = 2 ∧ s.stoker.cwOk = true ∧ s.stoker.ccwOk = true ∧ s.stoker.dir ≠ isCcw r ∨ s.stoker.st = 3 ∧ s.stoker.ok r = true) :=
  ⟨ringDay { member with st := 3 }, .cw, true, by decide +kernel⟩

theorem wit_RingReferenceCompletes_21 : ∃ (s : State) (r : RingDir),
      s.clock < s.stoker.heardAt r + 12288000 :=
  ⟨ringDay { member with heardCw := 40947712001 }, .cw, by decide +kernel⟩

theorem wit_RingReferenceCompletes_22 : ∃ (s : State) (t : Nat),
      (s.stoker.st ≠ 0 ∧ s.stoker.st ≠ 3) ∧
      s.stoker.preferFrom = some t ∧
      t + 4096000000 ≤ s.clock ∧
      s.stoker.prefersOther = true :=
  ⟨ringDay { member with preferFrom := some 36864000000, beaconCcw := some ⟨1, 5, 0, 0, 2, false⟩ }, 36864000000, by decide +kernel⟩

/-! Elections, joining and triggers of a stack -/

theorem wit_CaptainsAndJoinComplete_1 : ∃ (s : State),
      s.stoker.st = 1 ∧
      s.stoker.capt = true ∧
      max s.stoker.stFrom s.stoker.lastBeacon + 4096000000 ≤ s.clock :=
  ⟨ringDay { member with st := 1, capt := true, lastBeacon := 0 }, by decide +kernel⟩

theorem wit_CaptainsAndJoinComplete_2 : ∃ (s : State),
      s.stoker.st = 1 ∧
      s.stoker.capt = false ∧
      max s.stoker.stFrom s.stoker.lastBeacon + 4096000000000 ≤ s.clock :=
  ⟨{ ringDay { member with st := 1, lastBeacon := 0 } with clock := 4096000000000 }, by decide +kernel⟩

theorem wit_CaptainsAndJoinComplete_3 : ∃ (s : State),
      s.stoker.st = 4 ∧
      s.stoker.lastBeacon + 32768000 ≤ s.clock :=
  ⟨ringDay { member with st := 4, lastBeacon := 40927232000 }, by decide +kernel⟩

theorem wit_CaptainsAndJoinComplete_4 : ∃ (s : State) (r : RingDir) (b : Octets),
      (cellOk b = true ∧ cellType b = 3) ∧
      (s.firstCopy b = true ∧ s.isOrigin b = false ∧ s.isDest b = true) ∧
      cellSide b = s.pair.side ∧
      s.stoker.st = 5 :=
  ⟨ringDay { member with st := 5 }, .cw, cellOf 3 (leOctets 14 0 ++ leOctets 8 5 ++ leOctets 4 0), by decide +kernel⟩

theorem wit_CaptainsAndJoinComplete_5 : ∃ (s : State) (r : RingDir) (b : Octets),
      (cellOk b = true ∧ cellType b = 3) ∧
      (s.firstCopy b = true ∧ s.isOrigin b = false ∧ s.isDest b = true) ∧
      s.stoker.st ≠ 0 ∧
      (cellSide b ≠ s.pair.side ∨ s.stoker.st ≠ 5) :=
  ⟨ringDay member, .ccw, cellOf 3 (leOctets 14 0 ++ leOctets 8 5 ++ leOctets 4 0), by decide +kernel⟩

theorem wit_CaptainsAndJoinComplete_6 : ∃ (s : State),
      s.stoker.st = 5 ∧
      s.stoker.stFrom + 81920000 ≤ s.clock ∧
      s.stoker.cands.all (fun c => !lower c.1.toNat c.2 s.stoker.pos.toNat s.ident) = true :=
  ⟨ringDay { member with st := 5, cands := [(3, 5), (7, 1)] }, by decide +kernel⟩

theorem wit_CaptainsAndJoinComplete_7 : ∃ (s : State) (p : BitVec 4) (i : BitVec 64),
      s.stoker.st = 5 ∧
      s.stoker.stFrom + 81920000 ≤ s.clock ∧
      (p, i) ∈ s.stoker.cands ∧
      lower p.toNat i s.stoker.pos.toNat s.ident = true :=
  ⟨ringDay { member with st := 5, pos := 4, cands := [(3, 5), (4, 0x10100000001)] }, 3, 5, by decide +kernel⟩

theorem wit_CaptainsAndJoinComplete_8a : ∃ (s : State) (b : BeaconRec) (e : Int),
      (s.stoker.st = 1 ∧ 8 ≤ s.stoker.joinUses ∧ s.stoker.ok (ringOf s.stoker.dir) = true) ∧
      s.clocked = true ∧
      (s.stoker.beacon (ringOf s.stoker.dir) = some b ∧ b.gen = s.commit.gen) ∧
      s.stoker.err.natAbs ≤ 4096000 ∧
      e = (s.stoker.est (inPort (ringOf s.stoker.dir))).err :=
  ⟨ringDay { member with st := 1, joinUses := 8, err := (4096000), estP := { Estim.reset with err := (4096000) }, beaconCw := some ⟨1, 5, 0, 0, 2, false⟩ }, ⟨1, 5, 0, 0, 2, false⟩, 4096000, by decide +kernel⟩

theorem wit_CaptainsAndJoinComplete_8b : ∃ (s : State) (b : BeaconRec) (e : Int),
      (s.stoker.st = 1 ∧ 8 ≤ s.stoker.joinUses ∧ s.stoker.ok (ringOf s.stoker.dir) = true) ∧
      s.clocked = true ∧
      (s.stoker.beacon (ringOf s.stoker.dir) = some b ∧ b.gen = s.commit.gen) ∧
      s.stoker.err.natAbs ≤ 4096000 ∧
      e = (s.stoker.est (inPort (ringOf s.stoker.dir))).err :=
  ⟨ringDay { member with st := 1, joinUses := 8, err := (-4096000), estP := { Estim.reset with err := (-4096000) }, beaconCw := some ⟨1, 5, 0, 0, 0, true⟩ }, ⟨1, 5, 0, 0, 0, true⟩, -4096000, by decide +kernel⟩

theorem wit_CaptainsAndJoinComplete_9 : ∃ (s : State) (b : BeaconRec),
      (s.stoker.st = 1 ∧ 8 ≤ s.stoker.joinUses ∧ s.stoker.ok (ringOf s.stoker.dir) = true) ∧
      s.clocked = true ∧
      s.stoker.beacon (ringOf s.stoker.dir) = some b ∧
      (b.gen ≠ s.commit.gen ∨ 4096000 < s.stoker.err.natAbs) ∧
      s.idleToJoin = false ∧
      s.stoker.jwait = false :=
  ⟨(ringDay { member with st := 1, joinUses := 8, beaconCw := some ⟨1, 5, 7, 0, 2, false⟩ }).setEngine 0 { Engine.reset with state := .play }, ⟨1, 5, 7, 0, 2, false⟩, by decide +kernel⟩

theorem wit_CaptainsAndJoinComplete_10a : ∃ (s : State) (b : BeaconRec) (e : Int),
      (s.stoker.st = 1 ∧ 8 ≤ s.stoker.joinUses ∧ s.stoker.ok (ringOf s.stoker.dir) = true) ∧
      s.clocked = true ∧
      s.stoker.beacon (ringOf s.stoker.dir) = some b ∧
      (b.gen ≠ s.commit.gen ∨ 4096000 < s.stoker.err.natAbs) ∧
      s.idleToJoin = true ∧
      e = -(s.stoker.est (inPort (ringOf s.stoker.dir))).err :=
  ⟨ringDay { member with st := 1, joinUses := 8, beaconCw := some ⟨1, 5, 7, 0, 2, false⟩ }, ⟨1, 5, 7, 0, 2, false⟩, 0, by decide +kernel⟩

theorem wit_CaptainsAndJoinComplete_10b : ∃ (s : State) (b : BeaconRec) (e : Int),
      (s.stoker.st = 1 ∧ 8 ≤ s.stoker.joinUses ∧ s.stoker.ok (ringOf s.stoker.dir) = true) ∧
      s.clocked = true ∧
      s.stoker.beacon (ringOf s.stoker.dir) = some b ∧
      (b.gen ≠ s.commit.gen ∨ 4096000 < s.stoker.err.natAbs) ∧
      s.idleToJoin = true ∧
      e = -(s.stoker.est (inPort (ringOf s.stoker.dir))).err :=
  ⟨ringDay { member with st := 1, joinUses := 8, err := 5000000, estP := { Estim.reset with err := 5000000 }, beaconCw := some ⟨1, 5, 7, 0, 2, false⟩ }, ⟨1, 5, 7, 0, 2, false⟩, -5000000, by decide +kernel⟩

theorem wit_CaptainsAndJoinComplete_11 : ∃ (s : State) (r : RingDir) (b : Octets),
      (cellOk b = true ∧ cellType b = 9) ∧
      (s.firstCopy b = true ∧ s.isOrigin b = false ∧ s.isDest b = true) ∧
      s.stoker.st ≠ 0 :=
  ⟨ringDay member, .cw, cellOf 9 (leOctets 10 77 ++ leOctets 4 5 ++ leOctets 8 5 ++ leOctets 4 0x23), by decide +kernel⟩

theorem wit_CaptainsAndJoinComplete_12 : ∃ (s : State) (r : RingDir) (b : Octets),
      (cellOk b = true ∧ cellType b = 9) ∧
      (s.firstCopy b = true ∧ s.isOrigin b = false ∧ s.isDest b = false) ∧
      s.stoker.st ≠ 0 :=
  ⟨ringDay member, .cw, withCrc ([9, 3, 5, 7] ++ leOctets 10 77 ++ leOctets 4 5 ++ leOctets 8 5 ++ leOctets 4 0x23), by decide +kernel⟩

/-! Commits across a stack -/

theorem wit_StackCommitsComplete_1 : ∃ (s : State) (r : RingDir) (b : Octets),
      (cellOk b = true ∧ cellType b = 4) ∧
      (s.firstCopy b = true ∧ s.isOrigin b = false ∧ s.isDest b = true) ∧
      cellSide b = s.pair.side ∧
      (s.stoker.st = 3 ∧ s.stoker.coord = none) ∧
      cellStep b = false ∧
      (s.commit.pend = none ∧ s.noon.step = none) :=
  ⟨ringDay { member with st := 3, captPos := 0, captId := 0x10100000001, members := [3] }, .cw, cellOf 4 (leOctets 10 41091072000 ++ leOctets 4 1 ++ leOctets 8 5 ++ leOctets 4 0), by decide +kernel⟩

theorem wit_StackCommitsComplete_2 : ∃ (s : State) (r : RingDir) (b : Octets),
      (cellOk b = true ∧ cellType b = 4) ∧
      (s.firstCopy b = true ∧ s.isOrigin b = false ∧ s.isDest b = true) ∧
      cellSide b = s.pair.side ∧
      (s.stoker.st = 3 ∧ s.stoker.coord = none) ∧
      cellStep b = true ∧
      (s.commit.pend = none ∧ s.noon.step = none) ∧
      s.stepCheck (cellDt b) (cellId b).toInt 8192000 = 0 :=
  ⟨ringDay { member with st := 3, captPos := 0, captId := 0x10100000001, members := [3] }, .cw, cellOf 4 (leOctets 10 41091072000 ++ leOctets 4 1 ++ leOctets 8 5000000 ++ leOctets 4 1), by decide +kernel⟩

theorem wit_StackCommitsComplete_3 : ∃ (s : State) (r : RingDir) (b : Octets),
      (cellOk b = true ∧ cellType b = 4) ∧
      (s.firstCopy b = true ∧ s.isOrigin b = false ∧ s.isDest b = true) ∧
      cellSide b = s.pair.side ∧
      s.stoker.st = 3 ∧
      s.holdsOther (cellStep b) (cellDt b) (cellWord b) = true ∧
      (s.commit.pend.any (·.isFor (cellDt b) (cellWord b)) = false ∧ s.noon.step.any (·.isFor (cellDt b)) = false) :=
  ⟨ringDay { member with st := 3, captPos := 0, captId := 0x10100000001, members := [3], coord := some ⟨0, false, false, 41091072000, 1, 0, .stack, [(3, false)]⟩ }, .cw, cellOf 4 (leOctets 10 41091072000 ++ leOctets 4 1 ++ leOctets 8 5 ++ leOctets 4 0), by decide +kernel⟩

theorem wit_StackCommitsComplete_4 : ∃ (s : State) (r : RingDir) (b : Octets),
      (cellOk b = true ∧ cellType b = 4) ∧
      (s.firstCopy b = true ∧ s.isOrigin b = false ∧ s.isDest b = true) ∧
      s.stoker.st ≠ 0 ∧
      (s.stoker.st ≠ 3 ∨ cellSide b ≠ s.pair.side) :=
  ⟨ringDay member, .cw, cellOf 4 (leOctets 10 41091072000 ++ leOctets 4 1 ++ leOctets 8 5 ++ leOctets 4 0), by decide +kernel⟩

theorem wit_StackCommitsComplete_5 : ∃ (s : State) (r : RingDir) (b : Octets),
      (cellOk b = true ∧ cellType b = 5) ∧
      (s.firstCopy b = true ∧ s.isOrigin b = false ∧ s.isDest b = true) ∧
      (s.stacked = true ∧ s.stoker.coord = none) ∧
      cellStep b = false ∧
      s.commit.pend = none :=
  ⟨ringDay member, .cw, cellOf 5 (leOctets 10 41091072000 ++ leOctets 4 1 ++ leOctets 8 5 ++ leOctets 4 0), by decide +kernel⟩

theorem wit_StackCommitsComplete_6 : ∃ (s : State) (r : RingDir) (b : Octets) (p : PendingCommit),
      (cellOk b = true ∧ cellType b = 5) ∧
      (s.firstCopy b = true ∧ s.isOrigin b = false ∧ s.isDest b = true) ∧
      (s.stacked = true ∧ s.stoker.coord = none ∧ s.stoker.armed = none) ∧
      cellStep b = false ∧
      (s.commit.pend = some p ∧ p.isFor (cellDt b) (cellWord b) = true) :=
  ⟨{ ringDay member with commit := { CommitUnit.reset with pend := some ⟨.host, .stack, 41091072000, 1, Vector.replicate 4 5, [], false, false, 0⟩ } }, .cw, cellOf 5 (leOctets 10 41091072000 ++ leOctets 4 1 ++ leOctets 8 5 ++ leOctets 4 0), ⟨.host, .stack, 41091072000, 1, Vector.replicate 4 5, [], false, false, 0⟩, by decide +kernel⟩

theorem wit_StackCommitsComplete_7 : ∃ (s : State) (r : RingDir) (b : Octets) (p : PendingCommit),
      (cellOk b = true ∧ cellType b = 5) ∧
      (s.firstCopy b = true ∧ s.isOrigin b = false ∧ s.isDest b = true) ∧
      (s.stacked = true ∧ s.stoker.coord = none) ∧
      cellStep b = false ∧
      (s.commit.pend = some p ∧ p.isFor (cellDt b) (cellWord b) = false) ∧
      s.yields p ⟨cellSide b, cellOrigin b, false, cellDt b, cellWord b, 0, false, false⟩ = false :=
  ⟨{ ringDay member with commit := { CommitUnit.reset with pend := some ⟨.host, .stack, 41091072001, 1, Vector.replicate 4 5, [], true, true, 0⟩ } }, .cw, cellOf 5 (leOctets 10 41091072000 ++ leOctets 4 1 ++ leOctets 8 5 ++ leOctets 4 0), ⟨.host, .stack, 41091072001, 1, Vector.replicate 4 5, [], true, true, 0⟩, by decide +kernel⟩

theorem wit_StackCommitsComplete_8 : ∃ (s : State) (r : RingDir) (b : Octets) (p : PendingCommit),
      (cellOk b = true ∧ cellType b = 5) ∧
      (s.firstCopy b = true ∧ s.isOrigin b = false ∧ s.isDest b = true) ∧
      (s.stacked = true ∧ s.stoker.coord = none) ∧
      cellStep b = false ∧
      (s.commit.pend = some p ∧ p.isFor (cellDt b) (cellWord b) = false) ∧
      s.yields p ⟨cellSide b, cellOrigin b, false, cellDt b, cellWord b, 0, false, false⟩ = true :=
  ⟨{ { ringDay { member with armed := some ⟨true, 3, false, 41091072001, 1, 0, true, false⟩ } with commit := { CommitUnit.reset with pend := some ⟨.host, .stack, 41091072001, 1, Vector.replicate 4 5, [], true, false, 0⟩ } } with pair := { Pair.reset with side := true } }, .cw, cellOf 5 (leOctets 10 41091072000 ++ leOctets 4 1 ++ leOctets 8 5 ++ leOctets 4 0), ⟨.host, .stack, 41091072001, 1, Vector.replicate 4 5, [], true, false, 0⟩, by decide +kernel⟩

theorem wit_StackCommitsComplete_9 : ∃ (s : State) (r : RingDir) (b : Octets),
      (cellOk b = true ∧ cellType b = 5) ∧
      (s.firstCopy b = true ∧ s.isOrigin b = false ∧ s.isDest b = true) ∧
      (s.stacked = true ∧ s.stoker.coord = none) ∧
      cellStep b = true ∧
      (s.noon.step = none ∧ s.stepCheck (cellDt b) (cellId b).toInt 8192000 = 0) :=
  ⟨ringDay member, .cw, cellOf 5 (leOctets 10 41091072000 ++ leOctets 4 1 ++ leOctets 8 5000000 ++ leOctets 4 1), by decide +kernel⟩

theorem wit_StackCommitsComplete_10 : ∃ (s : State) (r : RingDir) (b : Octets) (q : CoordRec),
      (cellOk b = true ∧ cellType b = 6) ∧
      (s.firstCopy b = true ∧ s.isOrigin b = false ∧ s.isDest b = true) ∧
      s.stoker.st ≠ 0 ∧
      (s.stoker.coord = some q ∧ q.dtEff = cellDt b) ∧
      (cellOrigin b, cellSide b) ∈ q.awaiting ∧
      bit (cellWord b) 0 = true ∧
      dtLe (s.replica islStoker) q.limit = true ∧
      q.awaiting.filter (· != (cellOrigin b, cellSide b)) ≠ [] :=
  ⟨ringDay { member with st := 3, captPos := 0, captId := 0x10100000001, members := [3], coord := some ⟨0, false, false, 41091072000, 1, 0, .stack, [(3, false), (2, false)]⟩ }, .cw, cellOf 6 (leOctets 10 41091072000 ++ leOctets 4 1 ++ leOctets 8 5 ++ leOctets 4 0), ⟨0, false, false, 41091072000, 1, 0, .stack, [(3, false), (2, false)]⟩, by decide +kernel⟩

theorem wit_StackCommitsComplete_11 : ∃ (s : State) (r : RingDir) (b : Octets) (q : CoordRec),
      (cellOk b = true ∧ cellType b = 6) ∧
      (s.firstCopy b = true ∧ s.isOrigin b = false ∧ s.isDest b = true) ∧
      (s.stoker.st ≠ 0 ∧ s.stoker.st ≠ 6) ∧
      (s.stoker.coord = some q ∧ q.dtEff = cellDt b) ∧
      (cellOrigin b, cellSide b) ∈ q.awaiting ∧
      bit (cellWord b) 0 = true ∧
      q.awaiting.filter (· != (cellOrigin b, cellSide b)) = [] ∧
      dtLe (s.replica islStoker) q.limit = true :=
  ⟨ringDay { member with st := 3, captPos := 0, captId := 0x10100000001, members := [3], coord := some ⟨0, false, false, 41091072000, 1, 0, .stack, [(3, false)]⟩ }, .cw, cellOf 6 (leOctets 10 41091072000 ++ leOctets 4 1 ++ leOctets 8 5 ++ leOctets 4 0), ⟨0, false, false, 41091072000, 1, 0, .stack, [(3, false)]⟩, by decide +kernel⟩

theorem wit_StackCommitsComplete_12 : ∃ (s : State) (r : RingDir) (b : Octets) (q : CoordRec),
      (cellOk b = true ∧ cellType b = 6) ∧
      (s.firstCopy b = true ∧ s.isOrigin b = false ∧ s.isDest b = true) ∧
      (s.stoker.st ≠ 0 ∧ s.stoker.st ≠ 6) ∧
      (s.stoker.coord = some q ∧ q.dtEff = cellDt b) ∧
      bit (cellWord b) 0 = false :=
  ⟨{ ringDay { member with st := 3, captPos := 0, captId := 0x10100000001, members := [3], coord := some ⟨0, false, false, 41091072000, 1, 0, .stack, [(3, false)]⟩ } with commit := { CommitUnit.reset with pend := some ⟨.remote, .stack, 41091072000, 1, Vector.replicate 4 0, [], true, false, 0⟩ } }, .cw, cellOf 6 (leOctets 10 41091072000 ++ leOctets 4 4 ++ leOctets 8 5 ++ leOctets 4 0), ⟨0, false, false, 41091072000, 1, 0, .stack, [(3, false)]⟩, by decide +kernel⟩

theorem wit_StackCommitsComplete_13 : ∃ (s : State) (r : RingDir) (b : Octets) (a : ArmedRec) (p : PendingCommit),
      (cellOk b = true ∧ cellType b = 7) ∧
      (s.firstCopy b = true ∧ s.isOrigin b = false ∧ s.isDest b = true) ∧
      s.stoker.st ≠ 0 ∧
      (s.stoker.armed = some a ∧ a.dtEff = cellDt b ∧ a.gen = cellWord b ∧ a.step = false) ∧
      (s.commit.pend = some p ∧ p.isFor (cellDt b) (cellWord b) = true ∧ p.armedAll = true) :=
  ⟨{ ringDay { member with armed := some ⟨false, 3, false, 41091072000, 1, 0, true, false⟩ } with commit := { CommitUnit.reset with pend := some ⟨.remote, .stack, 41091072000, 1, Vector.replicate 4 0, [], true, false, 0⟩ } }, .cw, cellOf 7 (leOctets 10 41091072000 ++ leOctets 4 1 ++ leOctets 8 5 ++ leOctets 4 0), ⟨false, 3, false, 41091072000, 1, 0, true, false⟩, ⟨.remote, .stack, 41091072000, 1, Vector.replicate 4 0, [], true, false, 0⟩, by decide +kernel⟩

theorem wit_StackCommitsComplete_14 : ∃ (s : State) (r : RingDir) (b : Octets) (a : ArmedRec) (q : StepReq),
      (cellOk b = true ∧ cellType b = 7) ∧
      (s.firstCopy b = true ∧ s.isOrigin b = false ∧ s.isDest b = true) ∧
      s.stoker.st ≠ 0 ∧
      (s.stoker.armed = some a ∧ a.dtEff = cellDt b ∧ a.gen = cellWord b ∧ a.step = true) ∧
      (s.noon.step = some q ∧ q.isFor (cellDt b) = true) :=
  ⟨{ ringDay { member with armed := some ⟨false, 3, true, 41091072000, 1, 0, true, false⟩ } with noon := { Noon.reset with step := some ⟨41091072000, 5, false, false, .stack, false⟩ } }, .cw, cellOf 7 (leOctets 10 41091072000 ++ leOctets 4 1 ++ leOctets 8 5 ++ leOctets 4 0), ⟨false, 3, true, 41091072000, 1, 0, true, false⟩, ⟨41091072000, 5, false, false, .stack, false⟩, by decide +kernel⟩

theorem wit_StackCommitsComplete_15 : ∃ (s : State) (r : RingDir) (b : Octets) (p : PendingCommit),
      (cellOk b = true ∧ cellType b = 8) ∧
      (s.firstCopy b = true ∧ s.isOrigin b = false ∧ s.isDest b = true) ∧
      s.stoker.st ≠ 0 ∧
      (s.commit.pend = some p ∧ p.isFor (cellDt b) (cellWord b) = true) :=
  ⟨{ ringDay { member with armed := some ⟨false, 3, false, 41091072000, 1, 0, true, false⟩ } with commit := { CommitUnit.reset with pend := some ⟨.remote, .stack, 41091072000, 1, Vector.replicate 4 0, [], true, false, 0⟩ } }, .cw, cellOf 8 (leOctets 10 41091072000 ++ leOctets 4 1 ++ leOctets 8 5 ++ leOctets 4 0x37), ⟨.remote, .stack, 41091072000, 1, Vector.replicate 4 0, [], true, false, 0⟩, by decide +kernel⟩

theorem wit_StackCommitsComplete_16 : ∃ (s : State) (r : RingDir) (b : Octets) (q : StepReq),
      (cellOk b = true ∧ cellType b = 8) ∧
      (s.firstCopy b = true ∧ s.isOrigin b = false ∧ s.isDest b = true) ∧
      s.stoker.st ≠ 0 ∧
      (s.noon.step = some q ∧ q.isFor (cellDt b) = true ∧ q.confirmed = false ∧ q.auto = false) :=
  ⟨{ ringDay member with noon := { Noon.reset with step := some ⟨41091072000, 5, false, false, .stack, false⟩ } }, .cw, cellOf 8 (leOctets 10 41091072000 ++ leOctets 4 1 ++ leOctets 8 5 ++ leOctets 4 0x37), ⟨41091072000, 5, false, false, .stack, false⟩, by decide +kernel⟩

theorem wit_StackCommitsComplete_17 : ∃ (s : State) (q : CoordRec),
      s.stoker.st ≠ 6 ∧
      s.stoker.coord = some q ∧
      dtLe q.limit (s.replica islStoker) = true :=
  ⟨{ ringDay { member with st := 3, captPos := 0, captId := 0x10100000001, members := [3], coord := some ⟨0, false, false, 41091072000, 1, 0, .stack, [(3, false)]⟩ } with dt := 41058310000, clock := 41058310000 }, ⟨0, false, false, 41091072000, 1, 0, .stack, [(3, false)]⟩, by decide +kernel⟩

theorem wit_StackCommitsComplete_18 : ∃ (s : State) (p : PendingCommit),
      s.stoker.coord = none ∧
      (s.commit.pend = some p ∧ p.reach ≠ .alone ∧ p.awaiting = [] ∧ p.armedAll = false) ∧
      dtLe (coordLimit p.reach p.dtEff) (s.replica islStoker) = true :=
  ⟨{ { ringDay { member with st := 2 } with commit := { CommitUnit.reset with pend := some ⟨.remote, .stack, 41091072000, 1, Vector.replicate 4 0, [], false, false, 0⟩ } } with dt := 41058310000, clock := 41058310000 }, ⟨.remote, .stack, 41091072000, 1, Vector.replicate 4 0, [], false, false, 0⟩, by decide +kernel⟩

/-! Heartbeats, evidence and the drive token -/

theorem wit_PairTokenCompletes_1 : ∃ (s : State),
      (s.paired = true ∧ s.dtRuns = true ∧ s.pcieUp = true) ∧
      s.due islPair s.pair.hbAt = true :=
  ⟨pairDay standby, by decide +kernel⟩

theorem wit_PairTokenCompletes_2a : ∃ (s : State),
      (s.paired = false ∨ s.due islPair s.pair.hbAt = false) :=
  ⟨day, by decide +kernel⟩

theorem wit_PairTokenCompletes_2b : ∃ (s : State),
      (s.paired = false ∨ s.due islPair s.pair.hbAt = false) :=
  ⟨{ pairDay { standby with hbAt := 40964096000 } with pending := [] }, by decide +kernel⟩

theorem wit_PairTokenCompletes_3a : ∃ (s : State) (b : Octets),
      (s.paired = true ∧ s.pair.block = true) ∧
      heartbeatOk b = true ∧
      leAt b 0x1B 1 = s.stoker.pos.toNat + 16 * b1 (!s.pair.side) ∧
      pduFlags b = 0 ∧
      (s.inDay = false ∨ ¬ (s.pair.token = .standby ∧ leAt b 0x1A 1 % 4 = 3) ∧
        ¬ (s.pair.token = .active ∧ s.pair.side = true ∧ leAt b 0x1A 1 % 4 = 2)) :=
  ⟨pairDay standby, beat 2, by decide +kernel⟩

theorem wit_PairTokenCompletes_3b : ∃ (s : State) (b : Octets),
      (s.paired = true ∧ s.pair.block = true) ∧
      heartbeatOk b = true ∧
      leAt b 0x1B 1 = s.stoker.pos.toNat + 16 * b1 (!s.pair.side) ∧
      pduFlags b = 0 ∧
      (s.inDay = false ∨ ¬ (s.pair.token = .standby ∧ leAt b 0x1A 1 % 4 = 3) ∧
        ¬ (s.pair.token = .active ∧ s.pair.side = true ∧ leAt b 0x1A 1 % 4 = 2)) :=
  ⟨pairDay { standby with lane := false }, beat 1, by decide +kernel⟩

theorem wit_PairTokenCompletes_4 : ∃ (s : State) (b : Octets),
      (s.paired = true ∧ s.pair.block = true) ∧
      heartbeatOk b = true ∧
      leAt b 0x1B 1 = s.stoker.pos.toNat + 16 * b1 (!s.pair.side) ∧
      pduFlags b = 0 ∧
      s.inDay = true ∧
      (s.pair.token = .standby ∧ leAt b 0x1A 1 % 4 = 3) :=
  ⟨pairDay standby, beat 3, by decide +kernel⟩

theorem wit_PairTokenCompletes_5 : ∃ (s : State) (b : Octets),
      (s.paired = true ∧ s.pair.block = true) ∧
      heartbeatOk b = true ∧
      leAt b 0x1B 1 = s.stoker.pos.toNat + 16 * b1 (!s.pair.side) ∧
      pduFlags b = 0 ∧
      s.inDay = true ∧
      (s.pair.token = .active ∧ s.pair.side = true ∧ leAt b 0x1A 1 % 4 = 2) :=
  ⟨pairDay { standby with token := .active, side := true }, szl 0x10 0 5 (leOctets 10 77 ++ [2, 0] ++ leOctets 52 0), by decide +kernel⟩

theorem wit_PairTokenCompletes_6 : ∃ (s : State) (b : Octets),
      (s.paired = true ∧ s.pair.block = true) ∧
      heartbeatOk b = true ∧
      leAt b 0x1B 1 = s.stoker.pos.toNat + 16 * b1 (!s.pair.side) ∧
      (pduFlags b = 1 ∧ s.dtRuns = true) :=
  ⟨pairDay standby, szl 0x10 1 5 (leOctets 10 77 ++ [1, 16] ++ leOctets 4 0 ++ leOctets 24 0 ++ leOctets 4 100 ++ leOctets 4 200 ++ leOctets 16 0), by decide +kernel⟩

theorem wit_PairTokenCompletes_7a : ∃ (s : State) (b : Octets),
      (s.paired = true ∧ s.pair.block = true) ∧
      heartbeatOk b = true ∧
      leAt b 0x1B 1 ≠ s.stoker.pos.toNat + 16 * b1 (!s.pair.side) :=
  ⟨pairDay standby, szl 0x10 0 5 (leOctets 10 77 ++ [2, 17] ++ leOctets 52 0), by decide +kernel⟩

theorem wit_PairTokenCompletes_7b : ∃ (s : State) (b : Octets),
      (s.paired = true ∧ s.pair.block = true) ∧
      heartbeatOk b = true ∧
      leAt b 0x1B 1 ≠ s.stoker.pos.toNat + 16 * b1 (!s.pair.side) :=
  ⟨pairDay standby, szl 0x10 0 5 (leOctets 10 77 ++ [2, 0] ++ leOctets 52 0), by decide +kernel⟩

theorem wit_PairTokenCompletes_8 : ∃ (s : State) (b : Octets),
      (s.paired = true ∧ s.pair.block = true) ∧
      heartbeatOk b = false :=
  ⟨pairDay standby, [], by decide +kernel⟩

theorem wit_PairTokenCompletes_9 : ∃ (s : State) (b : Octets),
      (s.paired = false ∨ s.pair.block = false) :=
  ⟨day, beat 2, by decide +kernel⟩

theorem wit_PairTokenCompletes_10 : ∃ (s : State) (b c : Octets),
      (s.paired = true ∧ s.pair.block = true ∧ s.pair.lane = true) ∧
      (headOk b 0x11 48 0 = true ∧ c = slice b 16 32) ∧
      (cellOk c = true ∧ cellType c = 9) ∧
      (s.firstCopy c = true ∧ s.isDest c = true) :=
  ⟨pairDay standby, szl 0x11 0 5 (cellOf 9 (leOctets 10 77 ++ leOctets 4 5 ++ leOctets 8 5 ++ leOctets 4 0x23)), cellOf 9 (leOctets 10 77 ++ leOctets 4 5 ++ leOctets 8 5 ++ leOctets 4 0x23), by decide +kernel⟩

theorem wit_PairTokenCompletes_11 : ∃ (s : State) (b c : Octets),
      (s.paired = true ∧ s.pair.block = true ∧ s.pair.lane = true) ∧
      (headOk b 0x11 48 0 = true ∧ c = slice b 16 32) ∧
      (cellOk c = true ∧ cellType c = 1) ∧
      (s.firstCopy c = true ∧ s.isDest c = true) ∧
      cellSide c ≠ s.pair.side ∧
      s.stoker.st ≠ 0 :=
  ⟨{ pairDay { standby with side := true } with stoker := member }, szl 0x11 0 5 (cellOf 1 (leOctets 26 0)), cellOf 1 (leOctets 26 0), by decide +kernel⟩

theorem wit_PairTokenCompletes_12 : ∃ (s : State) (b c : Octets),
      (s.paired = true ∧ s.pair.block = true ∧ s.pair.lane = true) ∧
      (headOk b 0x11 48 0 = true ∧ c = slice b 16 32) ∧
      (cellOk c = true ∧ cellType c ≠ 9) ∧
      (s.firstCopy c = true ∧ s.isDest c = false) ∧
      s.stoker.st ≠ 0 :=
  ⟨{ pairDay { standby with side := true } with stoker := member }, szl 0x11 0 5 (withCrc ([1, 3, 5, 7] ++ leOctets 26 0)), withCrc ([1, 3, 5, 7] ++ leOctets 26 0), by decide +kernel⟩

theorem wit_PairTokenCompletes_13 : ∃ (s : State) (b c : Octets),
      (s.paired = true ∧ s.pair.block = true ∧ s.pair.lane = true) ∧
      (headOk b 0x11 48 0 = true ∧ c = slice b 16 32) ∧
      cellOk c = false :=
  ⟨pairDay standby, szl 0x11 0 5 (List.replicate 32 0), List.replicate 32 0, by decide +kernel⟩

theorem wit_PairTokenCompletes_14 : ∃ (s : State) (b : Octets),
      (s.paired = true ∧ s.pair.block = true) ∧
      headOk b 0x11 48 0 = false :=
  ⟨pairDay { standby with lane := false }, [], by decide +kernel⟩

theorem wit_PairTokenCompletes_15 : ∃ (s : State),
      s.pair.hb = true ∧
      s.pair.lastHb + 8192000 ≤ s.clock ∧
      (s.inDay = false ∨ s.pair.token ≠ .standby ∨ s.netWrong = false ∨ s.pair.heard = false ∧ s.pair.side = true) :=
  ⟨pairDay standby, by decide +kernel⟩

theorem wit_PairTokenCompletes_16 : ∃ (s : State),
      s.pair.hb = true ∧
      s.pair.lastHb + 8192000 ≤ s.clock ∧
      (s.inDay = true ∧ s.pair.token = .standby ∧ s.netWrong = true ∧ s.pair.heard = true) :=
  ⟨pairDay { standby with lastMis := some 40959000000 }, by decide +kernel⟩

theorem wit_PairTokenCompletes_17 : ∃ (s : State),
      (s.pair.hb = false ∨ s.clock < s.pair.lastHb + 8192000) :=
  ⟨pairDay { standby with hb := false }, by decide +kernel⟩

theorem wit_PairTokenCompletes_18a : ∃ (s : State) (i : SpokeId),
      (s.inDay = true ∧ s.watches i = true) ∧
      s.differsFor i s.evLvl (s.spoke i).evFrom = true ∧
      (s.pair.token = .active ∨ (s.pair.heard = true → s.pair.hb = true) ∧ (s.pair.heard = false → s.pair.side = true)) :=
  ⟨(pairDay { standby with token := .active }).setSpoke 3 { Spoke.reset with out := 1, pin := true, landed := .low, landedAt := some 40900000000, crossAt := some 40900000000 }, 3, by decide +kernel⟩

theorem wit_PairTokenCompletes_18b : ∃ (s : State) (i : SpokeId),
      (s.inDay = true ∧ s.watches i = true) ∧
      s.differsFor i s.evLvl (s.spoke i).evFrom = true ∧
      (s.pair.token = .active ∨ (s.pair.heard = true → s.pair.hb = true) ∧ (s.pair.heard = false → s.pair.side = true)) :=
  ⟨(pairDay standby).setSpoke 3 { Spoke.reset with out := 1, pin := true, landed := .low, landedAt := some 40900000000, crossAt := some 40900000000 }, 3, by decide +kernel⟩

theorem wit_PairTokenCompletes_19 : ∃ (s : State) (i : SpokeId) (e : DT × Bool),
      (s.inDay = true ∧ s.watches i = true) ∧
      s.unanswered i = some e ∧
      (s.pair.token = .active ∨ (s.pair.heard = true → s.pair.hb = true) ∧ (s.pair.heard = false → s.pair.side = true)) :=
  ⟨(pairDay { standby with token := .active }).setSpoke 3 { Spoke.reset with out := 1, evOwn := [(40959000000, true)] }, 3, (40959000000, true), by decide +kernel⟩

theorem wit_PairTokenCompletes_20a : ∃ (s : State) (i : SpokeId),
      (s.inDay = true ∧ s.watches i = true) ∧
      s.differsFor i s.evLvl (s.spoke i).evFrom = true ∧
      (s.pair.token = .standby ∧ (if s.pair.heard then s.pair.hb = false else s.pair.side = false)) :=
  ⟨(pairDay { standby with hb := false }).setSpoke 3 { Spoke.reset with out := 1, pin := true, landed := .low, landedAt := some 40900000000, crossAt := some 40900000000 }, 3, by decide +kernel⟩

theorem wit_PairTokenCompletes_20b : ∃ (s : State) (i : SpokeId),
      (s.inDay = true ∧ s.watches i = true) ∧
      s.differsFor i s.evLvl (s.spoke i).evFrom = true ∧
      (s.pair.token = .standby ∧ (if s.pair.heard then s.pair.hb = false else s.pair.side = false)) :=
  ⟨(pairDay { standby with heard := false }).setSpoke 3 { Spoke.reset with out := 1, pin := true, landed := .low, landedAt := some 40900000000, crossAt := some 40900000000 }, 3, by decide +kernel⟩

theorem wit_PairTokenCompletes_21a : ∃ (s : State) (i : SpokeId),
      (s.inDay = true ∧ s.watches i = true) ∧
      (s.unanswered i).isSome = true ∧
      (s.pair.token = .standby ∧ (if s.pair.heard then s.pair.hb = false else s.pair.side = false)) :=
  ⟨(pairDay { standby with hb := false }).setSpoke 3 { Spoke.reset with out := 1, evOwn := [(40959000000, true)] }, 3, by decide +kernel⟩

theorem wit_PairTokenCompletes_21b : ∃ (s : State) (i : SpokeId),
      (s.inDay = true ∧ s.watches i = true) ∧
      (s.unanswered i).isSome = true ∧
      (s.pair.token = .standby ∧ (if s.pair.heard then s.pair.hb = false else s.pair.side = false)) :=
  ⟨(pairDay { standby with heard := false }).setSpoke 3 { Spoke.reset with out := 1, evOwn := [(40959000000, true)] }, 3, by decide +kernel⟩

theorem wit_PairTokenCompletes_22a : ∃ (s : State) (i : SpokeId) (l : Bool),
      (s.inDay = false ∨ s.watches i = false ∨ (if l then s.differsFor i s.evLvl (s.spoke i).evFrom = false else s.unanswered i = none)) :=
  ⟨pairDay standby, 3, true, by decide +kernel⟩

theorem wit_PairTokenCompletes_22b : ∃ (s : State) (i : SpokeId) (l : Bool),
      (s.inDay = false ∨ s.watches i = false ∨ (if l then s.differsFor i s.evLvl (s.spoke i).evFrom = false else s.unanswered i = none)) :=
  ⟨pairDay standby, 3, false, by decide +kernel⟩

theorem wit_PairTokenCompletes_22c : ∃ (s : State) (i : SpokeId) (l : Bool),
      (s.inDay = false ∨ s.watches i = false ∨ (if l then s.differsFor i s.evLvl (s.spoke i).evFrom = false else s.unanswered i = none)) :=
  ⟨day, 3, true, by decide +kernel⟩

theorem wit_PairTokenCompletes_23 : ∃ (s : State),
      s.pair.evid = true ∧
      s.netWrong = false :=
  ⟨pairDay { standby with evid := true, lastMis := some 40951807999 }, by decide +kernel⟩

theorem wit_PairTokenCompletes_24 : ∃ (s : State),
      (s.pair.evid = false ∨ s.netWrong = true) :=
  ⟨pairDay { standby with evid := true, lastMis := some 40951808000 }, by decide +kernel⟩

theorem wit_PairTokenCompletes_25a : ∃ (s : State) (t : Nat),
      s.pair.partnerStandbyFrom = some t ∧
      (s.pair.token = .standby ∧ s.pair.hb = true) ∧
      t + 8192000 + (if s.pair.side = true then 4096000 else 0) ≤ s.clock :=
  ⟨pairDay { standby with partnerStandbyFrom := some 40951808000 }, 40951808000, by decide +kernel⟩

theorem wit_PairTokenCompletes_25b : ∃ (s : State) (t : Nat),
      s.pair.partnerStandbyFrom = some t ∧
      (s.pair.token = .standby ∧ s.pair.hb = true) ∧
      t + 8192000 + (if s.pair.side = true then 4096000 else 0) ≤ s.clock :=
  ⟨pairDay { standby with side := true, partnerStandbyFrom := some 40947712000 }, 40947712000, by decide +kernel⟩

theorem wit_PairTokenCompletes_26 : ∃ (s : State),
      (s.pair.partnerStandbyFrom.all (fun t => decide (s.clock < t + 8192000 + (if s.pair.side = true then 4096000 else 0))) = true ∨
        s.pair.token ≠ .standby ∨ s.pair.hb = false) :=
  ⟨pairDay { standby with partnerStandbyFrom := some 40951808001 }, by decide +kernel⟩

theorem wit_PairTokenCompletes_27 : ∃ (s : State) (h : DT),
      s.pair.hand = some h ∧
      (s.paired = true ∧ s.pair.handOk = false) ∧
      dtLe h (dtAdd s.dt 49152) = true ∧
      s.quiet h = true :=
  ⟨pairDay { standby with hand := some 40960049152 }, 40960049152, by decide +kernel⟩

theorem wit_PairTokenCompletes_28 : ∃ (s : State) (h : DT),
      s.pair.hand = some h ∧
      (s.paired = true ∧ s.pair.handOk = false) ∧
      dtLe h (dtAdd s.dt 49152) = true ∧
      s.quiet h = false :=
  ⟨(pairDay { standby with hand := some 40960049152 }).setSpoke 3 { Spoke.reset with out := 1, queue := [qd .pulse (rawOf 0 0 400000 0 40960057344)] }, 40960049152, by decide +kernel⟩

theorem wit_PairTokenCompletes_29 : ∃ (s : State),
      (s.pair.handOk = true ∨ s.pair.hand.all (fun h => !dtLe h (dtAdd s.dt 49152)) = true) :=
  ⟨pairDay { standby with hand := some 40960049153 }, by decide +kernel⟩

theorem wit_PairTokenCompletes_30 : ∃ (s : State) (h : DT),
      (s.pair.hand = some h ∧ s.pair.handOk = true) ∧
      s.pair.token = .active ∧
      dtLe h (dtAdd s.dt 819) = true :=
  ⟨pairDay { standby with token := .active, hand := some 40960000819, handOk := true }, 40960000819, by decide +kernel⟩

theorem wit_PairTokenCompletes_31 : ∃ (s : State) (h : DT),
      (s.pair.hand = some h ∧ s.pair.handOk = true) ∧
      s.pair.token = .standby ∧
      dtLe h s.dt = true :=
  ⟨pairDay { standby with hand := some 40960000000, handOk := true }, 40960000000, by decide +kernel⟩

theorem wit_PairTokenCompletes_32 : ∃ (s : State) (h : DT),
      (s.pair.hand = some h ∧ s.pair.handOk = true) ∧
      (s.pair.token ≠ .active ∧ s.pair.token ≠ .standby) ∧
      dtLe h s.dt = true :=
  ⟨pairDay { standby with token := .brake, hand := some 40960000000, handOk := true }, 40960000000, by decide +kernel⟩

theorem wit_PairTokenCompletes_33 : ∃ (s : State),
      (s.pair.handOk = false ∨ s.pair.hand = none) :=
  ⟨pairDay { standby with hand := some 40960000000 }, by decide +kernel⟩

/-! The watchdog, Brake, and the Pair lane's lock -/

theorem wit_BrakeCompletes_1 : ∃ (s : State),
      s.pcieUp = true :=
  ⟨day, by decide +kernel⟩

theorem wit_BrakeCompletes_2a : ∃ (s : State),
      s.pcieUp = true ∧
      s.pair.lastKick + 8192000 ≤ s.clock ∧
      s.pair.brakeLine = false :=
  ⟨pairDay standby, by decide +kernel⟩

theorem wit_BrakeCompletes_2b : ∃ (s : State),
      s.pcieUp = true ∧
      s.pair.lastKick + 8192000 ≤ s.clock ∧
      s.pair.brakeLine = false :=
  ⟨pairDay { standby with token := .active }, by decide +kernel⟩

theorem wit_BrakeCompletes_3 : ∃ (s : State),
      s.pcieUp = true ∧
      s.pair.lastKick + 8192000 ≤ s.clock ∧
      s.pair.brakeLine = true :=
  ⟨pairDay { standby with token := .brake, brakeLine := true }, by decide +kernel⟩

theorem wit_BrakeCompletes_4 : ∃ (s : State),
      s.clock < s.pair.lastKick + 8192000 :=
  ⟨pairDay { standby with lastKick := 40960000000 }, by decide +kernel⟩

theorem wit_BrakeCompletes_5a : ∃ (s : State),
      s.pcieUp = true ∧
      s.pair.brakeLine = false :=
  ⟨pairDay standby, by decide +kernel⟩

theorem wit_BrakeCompletes_5b : ∃ (s : State),
      s.pcieUp = true ∧
      s.pair.brakeLine = false :=
  ⟨pairDay { standby with token := .active }, by decide +kernel⟩

theorem wit_BrakeCompletes_6 : ∃ (s : State),
      s.pcieUp = true ∧
      s.pair.brakeLine = true :=
  ⟨pairDay { standby with token := .brake, brakeLine := true }, by decide +kernel⟩

theorem wit_BrakeCompletes_7 : ∃ (s : State) (i : SpokeId),
      (s.paired = true ∧ s.inDay = true ∧ s.pair.token = .active) ∧
      bit (s.act 0x3E000) 2 = true ∧
      s.watches i = true ∧
      s.differsFor i (max 4096000 s.evLvl) none = true ∧
      s.pair.brakeLine = false :=
  ⟨(pairDay { standby with token := .active }).setSpoke 3 { Spoke.reset with out := 1, pin := true, landed := .low, landedAt := some 40900000000, crossAt := some 40900000000 }, 3, by decide +kernel⟩

theorem wit_BrakeCompletes_8 : ∃ (s : State),
      (s.paired = false ∨ s.inDay = false ∨ s.pair.token ≠ .active ∨ bit (s.act 0x3E000) 2 = false) :=
  ⟨pairDay standby, by decide +kernel⟩

theorem wit_BrakeCompletes_9a : ∃ (s : State),
      s.hostReach = true ∧
      s.pair.brakeLine = false :=
  ⟨pairDay standby, by decide +kernel⟩

theorem wit_BrakeCompletes_9b : ∃ (s : State),
      s.hostReach = true ∧
      s.pair.brakeLine = false :=
  ⟨pairDay { standby with token := .active }, by decide +kernel⟩

theorem wit_BrakeCompletes_10 : ∃ (s : State),
      s.pair.brakeLine = true :=
  ⟨pairDay { standby with token := .brake, brakeLine := true }, by decide +kernel⟩

theorem wit_BrakeCompletes_11a : ∃ (s : State),
      s.hostReach = true ∧
      (s.brakeHolds = false ∧ s.pair.brakeLine = true) ∧
      (s.paired = false ∨ s.inDay = false ∨ (s.pair.heard = false ∨ s.pair.ptoken ≠ 3) ∧
        (s.netWrong = false ∨ (if s.pair.heard then s.pair.hb = true else s.pair.side = true))) :=
  ⟨pairDay { standby with brakeLine := true, brakeCause := 4, token := .brake }, by decide +kernel⟩

theorem wit_BrakeCompletes_11b : ∃ (s : State),
      s.hostReach = true ∧
      (s.brakeHolds = false ∧ s.pair.brakeLine = true) ∧
      (s.paired = false ∨ s.inDay = false ∨ (s.pair.heard = false ∨ s.pair.ptoken ≠ 3) ∧
        (s.netWrong = false ∨ (if s.pair.heard then s.pair.hb = true else s.pair.side = true))) :=
  ⟨{ day with pair := { Pair.reset with brakeLine := true, brakeCause := 4, token := .brake } }, by decide +kernel⟩

theorem wit_BrakeCompletes_12a : ∃ (s : State),
      s.hostReach = true ∧
      (s.brakeHolds = false ∧ s.pair.brakeLine = true) ∧
      (s.paired = true ∧ s.inDay = true) ∧
      (s.pair.heard = true ∧ s.pair.ptoken = 3 ∨
        s.netWrong = true ∧ (if s.pair.heard then s.pair.hb = false else s.pair.side = false)) :=
  ⟨pairDay { standby with brakeLine := true, brakeCause := 4, token := .brake, ptoken := 3 }, by decide +kernel⟩

theorem wit_BrakeCompletes_12b : ∃ (s : State),
      s.hostReach = true ∧
      (s.brakeHolds = false ∧ s.pair.brakeLine = true) ∧
      (s.paired = true ∧ s.inDay = true) ∧
      (s.pair.heard = true ∧ s.pair.ptoken = 3 ∨
        s.netWrong = true ∧ (if s.pair.heard then s.pair.hb = false else s.pair.side = false)) :=
  ⟨pairDay { standby with brakeLine := true, brakeCause := 4, token := .brake, hb := false, lastMis := some 40959000000 }, by decide +kernel⟩

theorem wit_BrakeCompletes_13 : ∃ (s : State),
      s.hostReach = true ∧
      s.brakeHolds = true :=
  ⟨pairDay { standby with brakeLine := true, brakeCause := 4, token := .brake, tcxo := false }, by decide +kernel⟩

theorem wit_BrakeCompletes_14 : ∃ (s : State),
      (s.brakeHolds = false ∧ s.pair.brakeLine = false) :=
  ⟨pairDay { standby with kick := true, tcxo := true }, by decide +kernel⟩

theorem wit_BrakeCompletes_15 : ∃ (s : State),
      s.pcieUp = true :=
  ⟨pairDay { standby with block := false }, by decide +kernel⟩

theorem wit_BrakeCompletes_16 : ∃ (s : State),
      s.pcieUp = true :=
  ⟨pairDay standby, by decide +kernel⟩

/-! Doorbells, enabling and disabling a ring -/

theorem wit_DoorbellsAndEnablesComplete_1a : ∃ (s : State) (q : RingId) (n : BitVec 16),
      s.hostReach = true ∧
      hostToDevice q false = true ∧
      (s.ring q false).en = true ∧
      (n - (s.ring q false).cons).toNat ≤ 2 ^ (s.ring q false).log2.toNat ∧
      (n - (s.ring q false).prod).toNat ≤ (n - (s.ring q false).cons).toNat :=
  ⟨hostDay 32 false { ringUp with prod := 65534, cons := 65533 }, 32, 13, by decide +kernel⟩

theorem wit_DoorbellsAndEnablesComplete_1b : ∃ (s : State) (q : RingId) (n : BitVec 16),
      s.hostReach = true ∧
      hostToDevice q false = true ∧
      (s.ring q false).en = true ∧
      (n - (s.ring q false).cons).toNat ≤ 2 ^ (s.ring q false).log2.toNat ∧
      (n - (s.ring q false).prod).toNat ≤ (n - (s.ring q false).cons).toNat :=
  ⟨hostDay 63 false { ringUp with prod := 3 }, 63, 3, by decide +kernel⟩

theorem wit_DoorbellsAndEnablesComplete_2a : ∃ (s : State) (q : RingId) (n : BitVec 16),
      s.hostReach = true ∧
      hostToDevice q false = true ∧
      ((s.ring q false).en = false ∨ 2 ^ (s.ring q false).log2.toNat < (n - (s.ring q false).cons).toNat ∨
        (n - (s.ring q false).cons).toNat < (n - (s.ring q false).prod).toNat) :=
  ⟨hostDay 32 false { ringUp with en := false }, 32, 1, by decide +kernel⟩

theorem wit_DoorbellsAndEnablesComplete_2b : ∃ (s : State) (q : RingId) (n : BitVec 16),
      s.hostReach = true ∧
      hostToDevice q false = true ∧
      ((s.ring q false).en = false ∨ 2 ^ (s.ring q false).log2.toNat < (n - (s.ring q false).cons).toNat ∨
        (n - (s.ring q false).cons).toNat < (n - (s.ring q false).prod).toNat) :=
  ⟨hostDay 32 false { ringUp with prod := 0 }, 32, 17, by decide +kernel⟩

theorem wit_DoorbellsAndEnablesComplete_2c : ∃ (s : State) (q : RingId) (n : BitVec 16),
      s.hostReach = true ∧
      hostToDevice q false = true ∧
      ((s.ring q false).en = false ∨ 2 ^ (s.ring q false).log2.toNat < (n - (s.ring q false).cons).toNat ∨
        (n - (s.ring q false).cons).toNat < (n - (s.ring q false).prod).toNat) :=
  ⟨hostDay 32 false { ringUp with prod := 3 }, 32, 2, by decide +kernel⟩

theorem wit_DoorbellsAndEnablesComplete_3 : ∃ (s : State) (q : RingId) (n : BitVec 16),
      hostToDevice q false = false :=
  ⟨hostDay 0 false ringUp, 0, 3, by decide +kernel⟩

theorem wit_DoorbellsAndEnablesComplete_4a : ∃ (s : State) (q : RingId) (rx : Bool) (n : BitVec 16),
      s.hostReach = true ∧
      (hostToDevice q rx = false ∧ rxOk q rx = true) ∧
      (s.ring q rx).en = true ∧
      (n - (s.ring q rx).cons).toNat ≤ ((s.ring q rx).prod - (s.ring q rx).cons).toNat :=
  ⟨hostDay 0 false { ringUp with prod := 2, cons := 65535 }, 0, false, 2, by decide +kernel⟩

theorem wit_DoorbellsAndEnablesComplete_4b : ∃ (s : State) (q : RingId) (rx : Bool) (n : BitVec 16),
      s.hostReach = true ∧
      (hostToDevice q rx = false ∧ rxOk q rx = true) ∧
      (s.ring q rx).en = true ∧
      (n - (s.ring q rx).cons).toNat ≤ ((s.ring q rx).prod - (s.ring q rx).cons).toNat :=
  ⟨hostDay 50 true { ringUp with prod := 2 }, 50, true, 1, by decide +kernel⟩

theorem wit_DoorbellsAndEnablesComplete_5a : ∃ (s : State) (q : RingId) (rx : Bool) (n : BitVec 16),
      s.hostReach = true ∧
      (hostToDevice q rx = false ∧ rxOk q rx = true) ∧
      ((s.ring q rx).en = false ∨ ((s.ring q rx).prod - (s.ring q rx).cons).toNat < (n - (s.ring q rx).cons).toNat) :=
  ⟨hostDay 0 false { ringUp with prod := 2 }, 0, false, 3, by decide +kernel⟩

theorem wit_DoorbellsAndEnablesComplete_5b : ∃ (s : State) (q : RingId) (rx : Bool) (n : BitVec 16),
      s.hostReach = true ∧
      (hostToDevice q rx = false ∧ rxOk q rx = true) ∧
      ((s.ring q rx).en = false ∨ ((s.ring q rx).prod - (s.ring q rx).cons).toNat < (n - (s.ring q rx).cons).toNat) :=
  ⟨hostDay 50 true { ringUp with en := false }, 50, true, 0, by decide +kernel⟩

theorem wit_DoorbellsAndEnablesComplete_6 : ∃ (s : State) (q : RingId) (rx : Bool) (n : BitVec 16),
      (hostToDevice q rx = true ∨ rxOk q rx = false) :=
  ⟨hostDay 32 false ringUp, 32, false, 3, by decide +kernel⟩

theorem wit_DoorbellsAndEnablesComplete_7a : ∃ (s : State) (q : RingId) (rx : Bool) (w : Word),
      s.hostReach = true ∧
      rxOk q rx = true ∧
      (s.ring q rx).en = false ∧
      (4 ≤ fld w 0 4 ∧ fld w 0 4 ≤ 15 ∧ (s.ring q rx).base.toNat % 4096 = 0) ∧
      (s.hb.flrHeld = none ∨ (s.evCfgNow 255).getLsbD 10 = false ∨ evRing (s.evCfgNow 255) ≠ q) :=
  ⟨hostDay 0 false { ringUp with en := false, prod := 9, err := true }, 0, false, 0x34, by decide +kernel⟩

theorem wit_DoorbellsAndEnablesComplete_7b : ∃ (s : State) (q : RingId) (rx : Bool) (w : Word),
      s.hostReach = true ∧
      rxOk q rx = true ∧
      (s.ring q rx).en = false ∧
      (4 ≤ fld w 0 4 ∧ fld w 0 4 ≤ 15 ∧ (s.ring q rx).base.toNat % 4096 = 0) ∧
      (s.hb.flrHeld = none ∨ (s.evCfgNow 255).getLsbD 10 = false ∨ evRing (s.evCfgNow 255) ≠ q) :=
  ⟨hostDay 51 true { ringUp with en := false }, 51, true, 0x1F, by decide +kernel⟩

theorem wit_DoorbellsAndEnablesComplete_8 : ∃ (s : State) (q : RingId) (w : Word),
      s.hostReach = true ∧
      (s.ring q false).en = false ∧
      (4 ≤ fld w 0 4 ∧ fld w 0 4 ≤ 15 ∧ (s.ring q false).base.toNat % 4096 = 0) ∧
      (s.hb.flrHeld.isSome = true ∧ (s.evCfgNow 255).getLsbD 10 = true ∧ evRing (s.evCfgNow 255) = q) ∧
      (s.accepted q false < 16 ∧ s.bufOctets + 16 ≤ 32768) :=
  ⟨let s := hostDay 59 false { ringUp with en := false }; { s with hb := { s.hb with flrHeld := some (77, false), evCfg := [(255, 0, 0x700)] } }, 59, 0x14, by decide +kernel⟩

theorem wit_DoorbellsAndEnablesComplete_9a : ∃ (s : State) (q : RingId) (rx : Bool) (w : Word),
      s.hostReach = true ∧
      rxOk q rx = true ∧
      (s.ring q rx).en = false ∧
      (fld w 0 4 < 4 ∨ (s.ring q rx).base.toNat % 4096 ≠ 0) :=
  ⟨hostDay 0 false { ringUp with en := false }, 0, false, 0x13, by decide +kernel⟩

theorem wit_DoorbellsAndEnablesComplete_9b : ∃ (s : State) (q : RingId) (rx : Bool) (w : Word),
      s.hostReach = true ∧
      rxOk q rx = true ∧
      (s.ring q rx).en = false ∧
      (fld w 0 4 < 4 ∨ (s.ring q rx).base.toNat % 4096 ≠ 0) :=
  ⟨hostDay 0 false { ringUp with en := false, base := 0x800 }, 0, false, 0x14, by decide +kernel⟩

theorem wit_DoorbellsAndEnablesComplete_10 : ∃ (s : State) (q : RingId) (rx : Bool) (w : Word),
      s.hostReach = true ∧
      rxOk q rx = true ∧
      (s.ring q rx).en = true :=
  ⟨hostDay 0 false { ringUp with prod := 3 }, 0, false, 0x15, by decide +kernel⟩

theorem wit_DoorbellsAndEnablesComplete_11a : ∃ (s : State) (q : RingId) (rx : Bool) (w : Word),
      s.hostReach = true ∧
      rxOk q rx = true :=
  ⟨hostDay 0 false { ringUp with prod := 3 }, 0, false, 0x04, by decide +kernel⟩

theorem wit_DoorbellsAndEnablesComplete_11b : ∃ (s : State) (q : RingId) (rx : Bool) (w : Word),
      s.hostReach = true ∧
      rxOk q rx = true :=
  ⟨{ hostDay 0 false { ringUp with prod := 3 } with outbox := [⟨0, false, none, true, List.replicate 16 1⟩, ⟨1, false, none, true, List.replicate 16 1⟩] }, 0, false, 0x26, by decide +kernel⟩

theorem wit_DoorbellsAndEnablesComplete_11c : ∃ (s : State) (q : RingId) (rx : Bool) (w : Word),
      s.hostReach = true ∧
      rxOk q rx = true :=
  ⟨hostDay 0 false { ringUp with en := false }, 0, false, 0x06, by decide +kernel⟩

theorem wit_DoorbellsAndEnablesComplete_12a : ∃ (s : State),
      s.pcieUp = true :=
  ⟨hostDay 0 false { ringUp with prod := 3 }, by decide +kernel⟩

theorem wit_DoorbellsAndEnablesComplete_12b : ∃ (s : State),
      s.pcieUp = true :=
  ⟨{ hostDay 0 false { ringUp with prod := 3 } with outbox := [⟨0, false, none, true, List.replicate 16 1⟩] }, by decide +kernel⟩

/-! Entries fetched and written, and writebacks -/

theorem wit_RingTrafficCompletes_1a : ∃ (s : State) (q : RingId) (a : BitVec 64) (b : Octets) (p : ThreadId),
      s.pcieUp = true ∧
      q.val = 32 + p.val ∧
      ((s.ring q false).en = true ∧ (s.ring q false).fetched ≠ (s.ring q false).prod) ∧
      a = s.fetchAddr q ∧
      b.length = 32 ∧
      (s.clocked = true ∧ (s.thread p).cmdIn.length < 4) ∧
      (s.ring q false).stale = 0 :=
  ⟨hostDay 34 false { ringUp with prod := 3 }, 34, 0x1000, leOctets 32 0, 2, by decide +kernel⟩

theorem wit_RingTrafficCompletes_1b : ∃ (s : State) (q : RingId) (a : BitVec 64) (b : Octets) (p : ThreadId),
      s.pcieUp = true ∧
      q.val = 32 + p.val ∧
      ((s.ring q false).en = true ∧ (s.ring q false).fetched ≠ (s.ring q false).prod) ∧
      a = s.fetchAddr q ∧
      b.length = 32 ∧
      (s.clocked = true ∧ (s.thread p).cmdIn.length < 4) ∧
      (s.ring q false).stale = 0 :=
  ⟨hostDay 34 false { ringUp with prod := 18, cons := 15, fetched := 17 }, 34, 0x1020, leOctets 32 0, 2, by decide +kernel⟩

theorem wit_RingTrafficCompletes_2 : ∃ (s : State) (q : RingId) (a : BitVec 64) (b : Octets) (p : ThreadId),
      s.pcieUp = true ∧
      q.val = 32 + p.val ∧
      ((s.ring q false).en = true ∧ (s.ring q false).fetched ≠ (s.ring q false).prod) ∧
      a = s.fetchAddr q ∧
      b.length = 32 ∧
      (s.clocked = true ∧ (s.thread p).cmdIn.length < 4) ∧
      (s.ring q false).stale ≠ 0 :=
  ⟨hostDay 34 false { ringUp with prod := 3, stale := 2 }, 34, 0x1000, leOctets 32 0, 2, by decide +kernel⟩

theorem wit_RingTrafficCompletes_3 : ∃ (s : State) (q : RingId) (a : BitVec 64) (b : Octets) (c : PortId),
      s.pcieUp = true ∧
      q.val = 48 + c.val ∧
      ((s.ring q false).en = true ∧ (s.ring q false).fetched ≠ (s.ring q false).prod) ∧
      a = s.fetchAddr q ∧
      b.length = 256 ∧
      ((s.port c).st = 5 ∧ (s.port c).msgIn.length < 4) :=
  ⟨(withPort upPort).setRing 50 false { ringUp with prod := 3 }, 50, 0x1000, leOctets 256 0, 2, by decide +kernel⟩

theorem wit_RingTrafficCompletes_4 : ∃ (s : State) (q : RingId) (a : BitVec 64) (b : Octets) (v : EngineId),
      s.pcieUp = true ∧
      q.val = 60 + v.val ∧
      ((s.ring q false).en = true ∧ (s.ring q false).fetched ≠ (s.ring q false).prod) ∧
      a = s.fetchAddr q ∧
      b.length = 32 ∧
      (s.clocked = true ∧ (s.engine v).feedIn.length < 4) :=
  ⟨hostDay 62 false { ringUp with prod := 3 }, 62, 0x1000, leOctets 32 0, 2, by decide +kernel⟩

theorem wit_RingTrafficCompletes_5a : ∃ (s : State) (q : RingId) (a : BitVec 64) (b : Octets),
      (hostToDevice q false = false ∨ (s.ring q false).en = false ∨ (s.ring q false).fetched = (s.ring q false).prod ∨
        a ≠ s.fetchAddr q ∨ b.length ≠ (if q.val < 48 ∨ 60 ≤ q.val then 32 else 256)) :=
  ⟨hostDay 34 false ringUp, 34, 0x1000, leOctets 32 0, by decide +kernel⟩

theorem wit_RingTrafficCompletes_5b : ∃ (s : State) (q : RingId) (a : BitVec 64) (b : Octets),
      (hostToDevice q false = false ∨ (s.ring q false).en = false ∨ (s.ring q false).fetched = (s.ring q false).prod ∨
        a ≠ s.fetchAddr q ∨ b.length ≠ (if q.val < 48 ∨ 60 ≤ q.val then 32 else 256)) :=
  ⟨hostDay 34 false { ringUp with prod := 3 }, 34, 0x1020, leOctets 32 0, by decide +kernel⟩

theorem wit_RingTrafficCompletes_5c : ∃ (s : State) (q : RingId) (a : BitVec 64) (b : Octets),
      (hostToDevice q false = false ∨ (s.ring q false).en = false ∨ (s.ring q false).fetched = (s.ring q false).prod ∨
        a ≠ s.fetchAddr q ∨ b.length ≠ (if q.val < 48 ∨ 60 ≤ q.val then 32 else 256)) :=
  ⟨hostDay 50 false { ringUp with prod := 3 }, 50, 0x1000, leOctets 32 0, by decide +kernel⟩

theorem wit_RingTrafficCompletes_6 : ∃ (s : State) (q : RingId),
      s.pcieUp = true ∧
      hostToDevice q false = true ∧
      ((s.ring q false).en = true ∧ (s.ring q false).fetched ≠ (s.ring q false).prod) :=
  ⟨hostDay 34 false { ringUp with prod := 3 }, 34, by decide +kernel⟩

theorem wit_RingTrafficCompletes_7 : ∃ (s : State) (q : RingId) (v : EngineId),
      s.pcieUp = true ∧
      q.val = 60 + v.val ∧
      ((s.ring q false).en = false ∨ (s.ring q false).fetched = (s.ring q false).prod) ∧
      (s.engine v).fill.isSome = true :=
  ⟨(hostDay 60 false ringUp).modEngine 0 (fun en => { en with fill := some ⟨2, false, 512, 64, 0, 0, none⟩ }), 60, 0, by decide +kernel⟩

theorem wit_RingTrafficCompletes_8 : ∃ (s : State) (q : RingId),
      (hostToDevice q false = false ∨ ((s.ring q false).en = false ∨ (s.ring q false).fetched = (s.ring q false).prod) ∧
        (q.val < 60 ∨ (s.engine (Fin.ofNat 4 (q.val - 60))).fill = none)) :=
  ⟨hostDay 34 false ringUp, 34, by decide +kernel⟩

theorem wit_RingTrafficCompletes_9a : ∃ (s : State) (q : RingId) (rx : Bool) (e : OutEntry),
      s.pcieUp = true ∧
      (hostToDevice q rx = false ∧ rxOk q rx = true) ∧
      (s.outbox.find? (fun e => e.q == q && e.rx == rx) = some e ∧ e.taken = true) :=
  ⟨{ hostDay 50 true { ringUp with prod := 19, cons := 4 } with outbox := [⟨50, true, none, true, leOctets 256 0⟩] }, 50, true, ⟨50, true, none, true, leOctets 256 0⟩, by decide +kernel⟩

theorem wit_RingTrafficCompletes_9b : ∃ (s : State) (q : RingId) (rx : Bool) (e : OutEntry),
      s.pcieUp = true ∧
      (hostToDevice q rx = false ∧ rxOk q rx = true) ∧
      (s.outbox.find? (fun e => e.q == q && e.rx == rx) = some e ∧ e.taken = true) :=
  ⟨{ hostDay 50 true { ringUp with en := false, prod := 19, cons := 4 } with outbox := [⟨50, true, none, true, leOctets 256 0⟩] }, 50, true, ⟨50, true, none, true, leOctets 256 0⟩, by decide +kernel⟩

theorem wit_RingTrafficCompletes_10a : ∃ (s : State) (q : RingId) (rx : Bool) (e : OutEntry),
      s.pcieUp = true ∧
      (hostToDevice q rx = false ∧ rxOk q rx = true) ∧
      (s.outbox.find? (fun e => e.q == q && e.rx == rx) = some e ∧ e.taken = false) ∧
      s.ringTakes q rx e.bytes.length = true ∧
      12 ≤ e.bytes.length :=
  ⟨{ hostDay 50 true { ringUp with prod := 19, cons := 4 } with outbox := [⟨50, true, none, false, leOctets 256 0⟩] }, 50, true, ⟨50, true, none, false, leOctets 256 0⟩, by decide +kernel⟩

theorem wit_RingTrafficCompletes_10b : ∃ (s : State) (q : RingId) (rx : Bool) (e : OutEntry),
      s.pcieUp = true ∧
      (hostToDevice q rx = false ∧ rxOk q rx = true) ∧
      (s.outbox.find? (fun e => e.q == q && e.rx == rx) = some e ∧ e.taken = false) ∧
      s.ringTakes q rx e.bytes.length = true ∧
      12 ≤ e.bytes.length :=
  ⟨({ hostDay 0 false ringUp with outbox := [⟨0, false, some 3, false, leOctets 16 0⟩] }).modSpoke 3 (fun sp => { sp with ringDrop := true }), 0, false, ⟨0, false, some 3, false, leOctets 16 0⟩, by decide +kernel⟩

theorem wit_RingTrafficCompletes_11a : ∃ (s : State) (q : RingId) (rx : Bool) (e : OutEntry),
      s.pcieUp = true ∧
      (hostToDevice q rx = false ∧ rxOk q rx = true) ∧
      s.outbox.find? (fun e => e.q == q && e.rx == rx && !e.taken) = some e ∧
      s.ringTakes q rx e.bytes.length = true ∧
      12 ≤ e.bytes.length :=
  ⟨{ hostDay 50 true { ringUp with prod := 19, cons := 4 } with outbox := [⟨50, true, none, false, leOctets 256 0⟩] }, 50, true, ⟨50, true, none, false, leOctets 256 0⟩, by decide +kernel⟩

theorem wit_RingTrafficCompletes_11b : ∃ (s : State) (q : RingId) (rx : Bool) (e : OutEntry),
      s.pcieUp = true ∧
      (hostToDevice q rx = false ∧ rxOk q rx = true) ∧
      s.outbox.find? (fun e => e.q == q && e.rx == rx && !e.taken) = some e ∧
      s.ringTakes q rx e.bytes.length = true ∧
      12 ≤ e.bytes.length :=
  ⟨({ hostDay 0 false ringUp with outbox := [⟨0, false, some 3, false, leOctets 16 0⟩] }).modSpoke 3 (fun sp => { sp with ringDrop := true }), 0, false, ⟨0, false, some 3, false, leOctets 16 0⟩, by decide +kernel⟩

theorem wit_RingTrafficCompletes_12a : ∃ (s : State) (q : RingId) (rx now : Bool) (e : OutEntry),
      s.pcieUp = true ∧
      (hostToDevice q rx = false ∧ rxOk q rx = true) ∧
      (s.outbox.find? (fun e => e.q == q && e.rx == rx && (now || !e.taken)) = some e ∧ e.taken = false) ∧
      s.ringTakes q rx e.bytes.length = false ∧
      (now = false ∨ s.accepted q rx = 0) :=
  ⟨{ hostDay 50 true { ringUp with prod := 20, cons := 4 } with outbox := [⟨50, true, none, false, leOctets 256 0⟩] }, 50, true, true, ⟨50, true, none, false, leOctets 256 0⟩, by decide +kernel⟩

theorem wit_RingTrafficCompletes_12b : ∃ (s : State) (q : RingId) (rx now : Bool) (e : OutEntry),
      s.pcieUp = true ∧
      (hostToDevice q rx = false ∧ rxOk q rx = true) ∧
      (s.outbox.find? (fun e => e.q == q && e.rx == rx && (now || !e.taken)) = some e ∧ e.taken = false) ∧
      s.ringTakes q rx e.bytes.length = false ∧
      (now = false ∨ s.accepted q rx = 0) :=
  ⟨{ day with outbox := [⟨0, false, some 3, false, leOctets 16 0⟩] }, 0, false, false, ⟨0, false, some 3, false, leOctets 16 0⟩, by decide +kernel⟩

theorem wit_RingTrafficCompletes_13 : ∃ (s : State) (q : RingId) (rx now : Bool),
      s.pcieUp = true ∧
      (hostToDevice q rx = false ∧ rxOk q rx = true) ∧
      s.outbox.find? (fun e => e.q == q && e.rx == rx && (now || !e.taken)) = none ∧
      s.hb.flrHeld = none :=
  ⟨hostDay 0 false ringUp, 0, false, true, by decide +kernel⟩

theorem wit_RingTrafficCompletes_14 : ∃ (s : State) (q : RingId) (rx now : Bool),
      s.pcieUp = true ∧
      (hostToDevice q rx = false ∧ rxOk q rx = true) ∧
      s.outbox.find? (fun e => e.q == q && e.rx == rx && (now || !e.taken)) = none ∧
      (s.hb.flrHeld.isSome = true ∧ (s.evCfgNow 255).getLsbD 10 = true ∧ s.ringTakes (evRing (s.evCfgNow 255)) false 16 = true) :=
  ⟨let s := hostDay 59 false ringUp; { s with hb := { s.hb with flrHeld := some (77, false), evCfg := [(255, 0, 0x700)] } }, 59, false, true, by decide +kernel⟩

theorem wit_RingTrafficCompletes_15 : ∃ (s : State) (q : RingId) (rx now : Bool),
      (hostToDevice q rx = true ∨ rxOk q rx = false) :=
  ⟨day, 32, false, true, by decide +kernel⟩

theorem wit_RingTrafficCompletes_16a : ∃ (s : State) (q : RingId) (rx : Bool),
      s.pcieUp = true ∧
      rxOk q rx = true ∧
      ((s.ring q rx).en = true ∧ (s.ring q rx).wben = true ∧ (s.ring q rx).wbDue = true) :=
  ⟨hostDay 0 false { ringUp with prod := 3, wbDue := true }, 0, false, by decide +kernel⟩

theorem wit_RingTrafficCompletes_16b : ∃ (s : State) (q : RingId) (rx : Bool),
      s.pcieUp = true ∧
      rxOk q rx = true ∧
      ((s.ring q rx).en = true ∧ (s.ring q rx).wben = true ∧ (s.ring q rx).wbDue = true) :=
  ⟨hostDay 50 true { ringUp with prod := 3, wbDue := true }, 50, true, by decide +kernel⟩

theorem wit_RingTrafficCompletes_17 : ∃ (s : State) (q : RingId) (rx : Bool),
      (rxOk q rx = false ∨ (s.ring q rx).en = false ∨ (s.ring q rx).wben = false ∨ (s.ring q rx).wbDue = false) :=
  ⟨hostDay 0 false { ringUp with prod := 3 }, 0, false, by decide +kernel⟩

/-! Occurrences, event rings, and messages -/

theorem wit_EventsAndMsixComplete_1 : ∃ (s : State) (e : EventId) (o : Occ),
      s.pcieUp = true ∧
      (s.occs.find? (fun o => evChannel o.src.val == evChannel e.val) = some o ∧ o.src = e) ∧
      s.evOwed.get (Fin.ofNat 88 (evChannel e.val)) = none ∧
      ((s.evCfg e o.dt).getLsbD 10 = false ∧ (s.evCfg e o.dt).getLsbD 7 = false) :=
  ⟨let s := day.setRing 57 false ringUp; { s with occs := [⟨140, causeWord 7 0 3, 5, false⟩], hb := { s.hb with evCfg := [(140, 0, 0x900)] } }, 140, ⟨140, causeWord 7 0 3, 5, false⟩, by decide +kernel⟩

theorem wit_EventsAndMsixComplete_2 : ∃ (s : State) (e : EventId) (o : Occ),
      s.pcieUp = true ∧
      (s.occs.find? (fun o => evChannel o.src.val == evChannel e.val) = some o ∧ o.src = e) ∧
      (e.val < 128 ∧ (s.occs.filter fun x => evChannel x.src.val == evChannel e.val).length ≤ 16) ∧
      ((s.evCfg e o.dt).getLsbD 10 = false ∧ (s.evCfg e o.dt).getLsbD 7 = false) :=
  ⟨{ day with occs := [⟨7, causeWord 1 0 0, 5, false⟩], evOwed := day.evOwed.set 3 (some 77) }, 7, ⟨7, causeWord 1 0 0, 5, false⟩, by decide +kernel⟩

theorem wit_EventsAndMsixComplete_3 : ∃ (s : State) (e : EventId) (o : Occ) (q : RingId),
      s.pcieUp = true ∧
      (s.occs.find? (fun o => evChannel o.src.val == evChannel e.val) = some o ∧ o.src = e) ∧
      s.evOwed.get (Fin.ofNat 88 (evChannel e.val)) = none ∧
      ((s.evCfg e o.dt).getLsbD 10 = true ∧ (s.evCfg e o.dt).getLsbD 7 = false ∧ q = evRing (s.evCfg e o.dt)) ∧
      s.hb.flrHeld = none ∧
      s.ringTakes q false 16 = true :=
  ⟨let s := day.setRing 57 false { ringUp with prod := 3, dropFlag := true }; { s with occs := [⟨140, causeWord 7 0 3, 5, false⟩], hb := { s.hb with evCfg := [(140, 0, 0xD00)] } }, 140, ⟨140, causeWord 7 0 3, 5, false⟩, 57, by decide +kernel⟩

theorem wit_EventsAndMsixComplete_4 : ∃ (s : State) (e : EventId) (o : Occ) (q : RingId),
      s.pcieUp = true ∧
      (s.occs.find? (fun o => evChannel o.src.val == evChannel e.val) = some o ∧ o.src = e) ∧
      s.evOwed.get (Fin.ofNat 88 (evChannel e.val)) = none ∧
      ((s.evCfg e o.dt).getLsbD 10 = true ∧ (s.evCfg e o.dt).getLsbD 7 = false ∧ q = evRing (s.evCfg e o.dt)) ∧
      s.hb.flrHeld = none ∧
      s.ringTakes q false 16 = false :=
  ⟨let s := day.setRing 57 false { ringUp with prod := 16 }; { s with occs := [⟨140, causeWord 7 0 3, 5, false⟩], hb := { s.hb with evCfg := [(140, 0, 0xD00)] } }, 140, ⟨140, causeWord 7 0 3, 5, false⟩, 57, by decide +kernel⟩

theorem wit_EventsAndMsixComplete_5 : ∃ (s : State) (e : EventId) (o : Occ) (v : VecId),
      s.pcieUp = true ∧
      (s.occs.find? (fun o => evChannel o.src.val == evChannel e.val) = some o ∧ o.src = e) ∧
      s.evOwed.get (Fin.ofNat 88 (evChannel e.val)) = none ∧
      ((s.evCfg e o.dt).getLsbD 10 = false ∧ (s.evCfg e o.dt).getLsbD 7 = true) ∧
      (v = Fin.ofNat 128 ((s.evCfg e o.dt).toNat % 128) ∧ (s.ring (evRing (s.evCfg e o.dt)) false).wbDue = false) ∧
      (s.held v = false ∧ (s.vec v).mask = false ∧ s.hb.cfg.mask = false) :=
  ⟨let s := (day.setRing 57 false ringUp).setVec 5 { Vec.reset with addr := 0xFEE00000, data := 7, mask := false }; { s with occs := [⟨140, causeWord 7 0 3, 5, false⟩], hb := { s.hb with evCfg := [(140, 0, 0x985)] } }, 140, ⟨140, causeWord 7 0 3, 5, false⟩, 5, by decide +kernel⟩

theorem wit_EventsAndMsixComplete_6 : ∃ (s : State) (e : EventId) (o : Occ) (v : VecId),
      s.pcieUp = true ∧
      (s.occs.find? (fun o => evChannel o.src.val == evChannel e.val) = some o ∧ o.src = e) ∧
      s.evOwed.get (Fin.ofNat 88 (evChannel e.val)) = none ∧
      ((s.evCfg e o.dt).getLsbD 10 = false ∧ (s.evCfg e o.dt).getLsbD 7 = true) ∧
      (v = Fin.ofNat 128 ((s.evCfg e o.dt).toNat % 128) ∧ (s.ring (evRing (s.evCfg e o.dt)) false).wbDue = false) ∧
      (s.held v = false ∧ ((s.vec v).mask = true ∨ s.hb.cfg.mask = true)) :=
  ⟨let s := day.setRing 57 false ringUp; { s with occs := [⟨140, causeWord 7 0 3, 5, false⟩], hb := { s.hb with evCfg := [(140, 0, 0x985)] } }, 140, ⟨140, causeWord 7 0 3, 5, false⟩, 5, by decide +kernel⟩

theorem wit_EventsAndMsixComplete_7 : ∃ (s : State) (e : EventId) (o : Occ) (v : VecId),
      s.pcieUp = true ∧
      (s.occs.find? (fun o => evChannel o.src.val == evChannel e.val) = some o ∧ o.src = e) ∧
      s.evOwed.get (Fin.ofNat 88 (evChannel e.val)) = none ∧
      ((s.evCfg e o.dt).getLsbD 10 = false ∧ (s.evCfg e o.dt).getLsbD 7 = true) ∧
      (v = Fin.ofNat 128 ((s.evCfg e o.dt).toNat % 128) ∧ (s.ring (evRing (s.evCfg e o.dt)) false).wbDue = false) ∧
      s.held v = true :=
  ⟨let s := (day.setRing 57 false ringUp).setVec 5 { Vec.reset with holdTo := some 40960000001 }; { s with occs := [⟨140, causeWord 7 0 3, 5, false⟩], hb := { s.hb with evCfg := [(140, 0, 0x985)] } }, 140, ⟨140, causeWord 7 0 3, 5, false⟩, 5, by decide +kernel⟩

theorem wit_EventsAndMsixComplete_8 : ∃ (s : State) (e : EventId) (o : Occ) (q : RingId) (v : VecId),
      s.pcieUp = true ∧
      (s.occs.find? (fun o => evChannel o.src.val == evChannel e.val) = some o ∧ o.src = e) ∧
      s.evOwed.get (Fin.ofNat 88 (evChannel e.val)) = none ∧
      ((s.evCfg e o.dt).getLsbD 10 = true ∧ (s.evCfg e o.dt).getLsbD 7 = true ∧ q = evRing (s.evCfg e o.dt)) ∧
      s.hb.flrHeld = none ∧
      (s.ringTakes q false 16 = true ∧ (s.ring q false).wben = true) ∧
      v = Fin.ofNat 128 ((s.evCfg e o.dt).toNat % 128) ∧
      (s.held v = false ∧ (s.vec v).mask = false ∧ s.hb.cfg.mask = false) :=
  ⟨let s := (day.setRing 57 false ringUp).setVec 5 { Vec.reset with addr := 0xFEE00000, data := 7, mask := false }; { s with occs := [⟨140, causeWord 7 0 3, 5, false⟩], hb := { s.hb with evCfg := [(140, 0, 0xD85)] } }, 140, ⟨140, causeWord 7 0 3, 5, false⟩, 57, 5, by decide +kernel⟩

theorem wit_EventsAndMsixComplete_9 : ∃ (s : State) (e : EventId),
      (s.occs.find? fun o => evChannel o.src.val == evChannel e.val).all (fun o => o.src != e) = true :=
  ⟨day, 7, by decide +kernel⟩

theorem wit_EventsAndMsixComplete_10 : ∃ (s : State) (v : VecId) (t : Nat),
      s.pcieUp = true ∧
      ((s.vec v).holdTo = some t ∧ t ≤ s.clock) ∧
      (s.vec v).trig = false :=
  ⟨day.setVec 5 { Vec.reset with holdTo := some 40960000000 }, 5, 40960000000, by decide +kernel⟩

theorem wit_EventsAndMsixComplete_11 : ∃ (s : State) (v : VecId) (t : Nat),
      s.pcieUp = true ∧
      ((s.vec v).holdTo = some t ∧ t ≤ s.clock) ∧
      ((s.vec v).trig = true ∧ (s.vec v).mask = false ∧ s.hb.cfg.mask = false) :=
  ⟨day.setVec 5 { Vec.reset with holdTo := some 40960000000, trig := true, mask := false }, 5, 40960000000, by decide +kernel⟩

theorem wit_EventsAndMsixComplete_12 : ∃ (s : State) (v : VecId) (t : Nat),
      s.pcieUp = true ∧
      ((s.vec v).holdTo = some t ∧ t ≤ s.clock) ∧
      ((s.vec v).trig = true ∧ ((s.vec v).mask = true ∨ s.hb.cfg.mask = true)) :=
  ⟨day.setVec 5 { Vec.reset with holdTo := some 40960000000, trig := true }, 5, 40960000000, by decide +kernel⟩

theorem wit_EventsAndMsixComplete_13a : ∃ (s : State) (v : VecId),
      (s.vec v).holdTo.all (fun t => decide (s.clock < t)) = true :=
  ⟨day, 5, by decide +kernel⟩

theorem wit_EventsAndMsixComplete_13b : ∃ (s : State) (v : VecId),
      (s.vec v).holdTo.all (fun t => decide (s.clock < t)) = true :=
  ⟨day.setVec 5 { Vec.reset with holdTo := some 40960000001 }, 5, by decide +kernel⟩

theorem wit_EventsAndMsixComplete_14 : ∃ (s : State) (v : VecId),
      s.hostReach = true ∧
      ((s.vec v).pba = false ∨ s.hb.cfg.mask = true) :=
  ⟨day, 5, by decide +kernel⟩

theorem wit_EventsAndMsixComplete_15 : ∃ (s : State) (v : VecId),
      s.hostReach = true ∧
      ((s.vec v).pba = true ∧ s.hb.cfg.mask = false) ∧
      s.held v = false :=
  ⟨day.setVec 5 { Vec.reset with pba := true }, 5, by decide +kernel⟩

theorem wit_EventsAndMsixComplete_16 : ∃ (s : State) (v : VecId),
      s.hostReach = true ∧
      ((s.vec v).pba = true ∧ s.hb.cfg.mask = false) ∧
      s.held v = true :=
  ⟨day.setVec 5 { Vec.reset with pba := true, holdTo := some 40960000001 }, 5, by decide +kernel⟩

theorem wit_EventsAndMsixComplete_17 : ∃ (s : State) (n : Fin 8) (m a : Word),
      s.hostReach = true :=
  ⟨{ day with hb := { day.hb with evStat := 7 } }, 0, 3, 2, by decide +kernel⟩

/-! Module flash, BAR2, and the host link -/

theorem wit_FlashAndBar2Complete_1 : ∃ (s : State),
      s.hostReach = true ∧
      s.hb.flashJob = none ∧
      s.flashAddr % 256 = 0 :=
  ⟨day, by decide +kernel⟩

theorem wit_FlashAndBar2Complete_2 : ∃ (s : State),
      s.hostReach = true ∧
      s.hb.flashJob = none ∧
      s.flashAddr % 256 = 0 ∧
      s.dyn.confirmed = true :=
  ⟨{ day with imm := [(0x40, 0x7FF00)], hb := { day.hb with flashState := 0, flashJob := none }, dyn := { day.dyn with confirmed := true } }, by decide +kernel⟩

theorem wit_FlashAndBar2Complete_3 : ∃ (s : State),
      s.hostReach = true ∧
      s.hb.flashJob = none ∧
      s.flashAddr % 256 = 0 ∧
      s.dyn.confirmed = false :=
  ⟨{ day with imm := [(0x40, 0x1000)], hb := { day.hb with flashState := 0, flashJob := none }, dyn := { day.dyn with confirmed := false } }, by decide +kernel⟩

theorem wit_FlashAndBar2Complete_4 : ∃ (s : State),
      s.hostReach = true ∧
      s.hb.flashJob = none ∧
      s.flashAddr % 4096 = 0 ∧
      s.dyn.confirmed = true :=
  ⟨{ day with imm := [(0x40, 0x1000)], hb := { day.hb with flashState := 0, flashJob := none }, dyn := { day.dyn with confirmed := true } }, by decide +kernel⟩

theorem wit_FlashAndBar2Complete_5 : ∃ (s : State),
      s.hostReach = true ∧
      s.hb.flashJob = none ∧
      s.flashAddr % 4096 = 0 ∧
      s.dyn.confirmed = false :=
  ⟨{ day with imm := [(0x40, 0x1000)], hb := { day.hb with flashState := 0, flashJob := none }, dyn := { day.dyn with confirmed := false } }, by decide +kernel⟩

theorem wit_FlashAndBar2Complete_6 : ∃ (s : State),
      s.hostReach = true ∧
      s.hb.flashJob = none ∧
      s.flashAddr % 256 ≠ 0 :=
  ⟨{ day with imm := [(0x40, 0x1080)], hb := { day.hb with flashState := 0, flashJob := none }, dyn := { day.dyn with confirmed := true } }, by decide +kernel⟩

theorem wit_FlashAndBar2Complete_7 : ∃ (s : State),
      s.hostReach = true ∧
      s.hb.flashJob.isSome = true :=
  ⟨{ day with imm := [(0x40, 0x1000)], hb := { day.hb with flashState := 0, flashJob := some ⟨0, none⟩ }, dyn := { day.dyn with confirmed := true } }, by decide +kernel⟩

theorem wit_FlashAndBar2Complete_8 : ∃ (s : State),
      s.hostReach = true ∧
      s.hb.flashJob = none ∧
      s.flashAddr % 256 ≠ 0 :=
  ⟨{ day with imm := [(0x40, 0x1080)], hb := { day.hb with flashState := 0, flashJob := none }, dyn := { day.dyn with confirmed := true } }, by decide +kernel⟩

theorem wit_FlashAndBar2Complete_9 : ∃ (s : State),
      s.hostReach = true ∧
      s.hb.flashJob.isSome = true :=
  ⟨{ day with imm := [(0x40, 0x1000)], hb := { day.hb with flashState := 0, flashJob := some ⟨0, none⟩ }, dyn := { day.dyn with confirmed := true } }, by decide +kernel⟩

theorem wit_FlashAndBar2Complete_10 : ∃ (s : State),
      s.hostReach = true ∧
      s.hb.flashJob = none ∧
      s.flashAddr % 4096 ≠ 0 :=
  ⟨{ day with imm := [(0x40, 0x1080)], hb := { day.hb with flashState := 0, flashJob := none }, dyn := { day.dyn with confirmed := true } }, by decide +kernel⟩

theorem wit_FlashAndBar2Complete_11 : ∃ (s : State),
      s.hostReach = true ∧
      s.hb.flashJob.isSome = true :=
  ⟨{ day with imm := [(0x40, 0x1000)], hb := { day.hb with flashState := 0, flashJob := some ⟨0, none⟩ }, dyn := { day.dyn with confirmed := true } }, by decide +kernel⟩

theorem wit_FlashAndBar2Complete_12 : ∃ (s : State) (n : Nat) (b : Octets),
      s.hb.flashJob = some ⟨n, some b⟩ :=
  ⟨{ day with imm := [(0x40, 0x1000)], hb := { day.hb with flashState := 0, flashJob := some ⟨0x1000, some [1, 2]⟩ }, dyn := { day.dyn with confirmed := true } }, 0x1000, [1, 2], by decide +kernel⟩

theorem wit_FlashAndBar2Complete_13 : ∃ (s : State) (n : Nat),
      s.hb.flashJob = some ⟨n, none⟩ :=
  ⟨{ day with imm := [(0x40, 0x1000)], hb := { day.hb with flashState := 0, flashJob := some ⟨0x1000, none⟩ }, dyn := { day.dyn with confirmed := true } }, 0x1000, by decide +kernel⟩

theorem wit_FlashAndBar2Complete_14 : ∃ (s : State) (j : FlashJob),
      s.hb.flashJob = some j :=
  ⟨{ day with imm := [(0x40, 0x1000)], hb := { day.hb with flashState := 0, flashJob := some ⟨0x1000, some [1, 2]⟩ }, dyn := { day.dyn with confirmed := true } }, ⟨0x1000, some [1, 2]⟩, by decide +kernel⟩

theorem wit_FlashAndBar2Complete_15 : ∃ (s : State) (ok : Bool),
      s.hb.flashJob = none :=
  ⟨day, true, by decide +kernel⟩

theorem wit_FlashAndBar2Complete_16a : ∃ (s : State) (k : BusPort) (a : BitVec 24) (b : List (Option Byte)) (lo : Nat),
      s.busUp k = true ∧
      s.pacer.locked = false ∧
      (lo = if s.pacer.bank then 0x800000 else 0x820000) ∧
      (lo ≤ a.toNat ∧ a.toNat + b.length ≤ lo + 0x20000 ∧ b ≠ []) :=
  ⟨day, .pcie, 0x820000, [some 1, none], 0x820000, by decide +kernel⟩

theorem wit_FlashAndBar2Complete_16b : ∃ (s : State) (k : BusPort) (a : BitVec 24) (b : List (Option Byte)) (lo : Nat),
      s.busUp k = true ∧
      s.pacer.locked = false ∧
      (lo = if s.pacer.bank then 0x800000 else 0x820000) ∧
      (lo ≤ a.toNat ∧ a.toNat + b.length ≤ lo + 0x20000 ∧ b ≠ []) :=
  ⟨{ day with pacer := { Pacer.reset with bank := true } }, .spi, 0x81FFFC, [some 1, some 2, some 3, some 4], 0x800000, by decide +kernel⟩

theorem wit_FlashAndBar2Complete_17a : ∃ (s : State) (k : BusPort) (a : BitVec 24) (b : List (Option Byte)) (lo : Nat),
      s.busUp k = true ∧
      ((lo = if s.pacer.bank then 0x820000 else 0x800000) ∨ s.pacer.locked = true ∧ (lo = 0x800000 ∨ lo = 0x820000)) ∧
      (lo ≤ a.toNat ∧ a.toNat + b.length ≤ lo + 0x20000 ∧ b ≠ []) :=
  ⟨day, .pcie, 0x81FFFF, [some 1], 0x800000, by decide +kernel⟩

theorem wit_FlashAndBar2Complete_17b : ∃ (s : State) (k : BusPort) (a : BitVec 24) (b : List (Option Byte)) (lo : Nat),
      s.busUp k = true ∧
      ((lo = if s.pacer.bank then 0x820000 else 0x800000) ∨ s.pacer.locked = true ∧ (lo = 0x800000 ∨ lo = 0x820000)) ∧
      (lo ≤ a.toNat ∧ a.toNat + b.length ≤ lo + 0x20000 ∧ b ≠ []) :=
  ⟨{ day with pacer := { Pacer.reset with locked := true } }, .pcie, 0x820000, [some 1], 0x820000, by decide +kernel⟩

theorem wit_FlashAndBar2Complete_18 : ∃ (s : State) (k : BusPort) (a : BitVec 24) (b : List (Option Byte)),
      s.busUp k = true ∧
      a.toNat + b.length ≤ 0x800000 ∧
      (touched a.toNat b).any s.anyActive = false :=
  ⟨day, .spi, 0x7FFFFE, [some 1, some 2], by decide +kernel⟩

theorem wit_FlashAndBar2Complete_19 : ∃ (s : State) (k : BusPort) (a : BitVec 24) (b : List (Option Byte)),
      s.busUp k = true ∧
      a.toNat + b.length ≤ 0x800000 :=
  ⟨engDay (playing 3), .pcie, 0x4000, [some 1], by decide +kernel⟩

theorem wit_FlashAndBar2Complete_20a : ∃ (s : State) (k : BusPort) (a : BitVec 24) (b : List (Option Byte)),
      (s.busUp k = false ∨ 0x840000 ≤ a.toNat) :=
  ⟨day, .pcie, 0x840000, [some 1], by decide +kernel⟩

theorem wit_FlashAndBar2Complete_20b : ∃ (s : State) (k : BusPort) (a : BitVec 24) (b : List (Option Byte)),
      (s.busUp k = false ∨ 0x840000 ≤ a.toNat) :=
  ⟨day, .config, 0, [some 1], by decide +kernel⟩

theorem wit_FlashAndBar2Complete_21 : ∃ (s : State) (k : BusPort) (a : BitVec 24) (b : List (Option Byte)),
      s.busUp k = true :=
  ⟨day, .pcie, 0x81FFFF, [some 1, some 2], by decide +kernel⟩

theorem wit_FlashAndBar2Complete_22 : ∃ (s : State) (g : BitVec 3) (w : BitVec 4),
      s.pcieUp = true :=
  ⟨day, 4, 8, by decide +kernel⟩

theorem wit_FlashAndBar2Complete_23 : ∃ (s : State),
      s.pcieUp = true :=
  ⟨day, by decide +kernel⟩

/-! From VIN to Dawn -/

theorem wit_StartUpCompletes_1a : ∃ (s : State),
      (s.dyn.st = .off ∨ s.dyn.st = .night) :=
  ⟨dynDay { day.dyn with st := .off }, by decide +kernel⟩

theorem wit_StartUpCompletes_1b : ∃ (s : State),
      (s.dyn.st = .off ∨ s.dyn.st = .night) :=
  ⟨dynDay { day.dyn with st := .night, kept := 5 }, by decide +kernel⟩

theorem wit_StartUpCompletes_2 : ∃ (s : State),
      (s.dyn.st ≠ .off ∧ s.dyn.st ≠ .night) :=
  ⟨day, by decide +kernel⟩

theorem wit_StartUpCompletes_3a : ∃ (s : State) (x : BitVec 5),
      s.dyn.st = .night ∧
      3 ≤ s.dyn.highs ∧
      (needsEnLow s.dyn.kept = false ∨ s.dyn.enFell = true) :=
  ⟨dynDay { day.dyn with st := .night, highs := 3, kept := 3 }, 0x13, by decide +kernel⟩

theorem wit_StartUpCompletes_3b : ∃ (s : State) (x : BitVec 5),
      s.dyn.st = .night ∧
      3 ≤ s.dyn.highs ∧
      (needsEnLow s.dyn.kept = false ∨ s.dyn.enFell = true) :=
  ⟨dynDay { day.dyn with st := .night, highs := 3, kept := 2, enFell := true }, 0, by decide +kernel⟩

theorem wit_StartUpCompletes_4a : ∃ (s : State) (v : Bool) (x : BitVec 5),
      s.dyn.st = .night ∧
      (v = false ∨ s.dyn.highs < 3 ∨ needsEnLow s.dyn.kept = true ∧ s.dyn.enFell = false) :=
  ⟨dynDay { day.dyn with st := .night, highs := 2 }, true, 0x1A, by decide +kernel⟩

theorem wit_StartUpCompletes_4b : ∃ (s : State) (v : Bool) (x : BitVec 5),
      s.dyn.st = .night ∧
      (v = false ∨ s.dyn.highs < 3 ∨ needsEnLow s.dyn.kept = true ∧ s.dyn.enFell = false) :=
  ⟨dynDay { day.dyn with st := .night, highs := 9 }, false, 0x1A, by decide +kernel⟩

theorem wit_StartUpCompletes_4c : ∃ (s : State) (v : Bool) (x : BitVec 5),
      s.dyn.st = .night ∧
      (v = false ∨ s.dyn.highs < 3 ∨ needsEnLow s.dyn.kept = true ∧ s.dyn.enFell = false) :=
  ⟨dynDay { day.dyn with st := .night, highs := 9, kept := 7 }, true, 0x1A, by decide +kernel⟩

theorem wit_StartUpCompletes_5 : ∃ (s : State) (v : Bool) (x : BitVec 5),
      s.dyn.st = .night :=
  ⟨dynDay { day.dyn with st := .night, highs := 3, lows := 3 }, true, 0x1A, by decide +kernel⟩

theorem wit_StartUpCompletes_6 : ∃ (s : State) (v : Bool) (x : BitVec 5),
      s.dyn.st = .startUp ∧
      1 ≤ s.dyn.lows :=
  ⟨rising { Dynamo.reset with lows := 1 }, true, 0x1A, by decide +kernel⟩

theorem wit_StartUpCompletes_7a : ∃ (s : State) (e v : Bool) (x : BitVec 5),
      (s.dyn.st = .startUp ∧ (e = true ∨ s.dyn.lows = 0) ∨ s.dyn.st = .dawn ∨ s.dyn.st = .day ∨ s.dyn.st = .dusk ∧ s.duskNow = false) :=
  ⟨day, false, true, 0x1A, by decide +kernel⟩

theorem wit_StartUpCompletes_7b : ∃ (s : State) (e v : Bool) (x : BitVec 5),
      (s.dyn.st = .startUp ∧ (e = true ∨ s.dyn.lows = 0) ∨ s.dyn.st = .dawn ∨ s.dyn.st = .day ∨ s.dyn.st = .dusk ∧ s.duskNow = false) :=
  ⟨rising { Dynamo.reset with lows := 0 }, false, true, 0x1A, by decide +kernel⟩

theorem wit_StartUpCompletes_8 : ∃ (s : State),
      s.dyn.st = .startUp ∧
      s.dyn.soft = false :=
  ⟨rising { Dynamo.reset with soft := false }, by decide +kernel⟩

theorem wit_StartUpCompletes_9 : ∃ (s : State),
      (s.dyn.st ≠ .startUp ∨ s.dyn.soft = true) :=
  ⟨day, by decide +kernel⟩

theorem wit_StartUpCompletes_10 : ∃ (s : State) (c : BitVec 10),
      s.softStarts = true :=
  ⟨rising { Dynamo.reset with softDone := false }, 200, by decide +kernel⟩

theorem wit_StartUpCompletes_11 : ∃ (s : State) (c : BitVec 10),
      (s.softStarts = false ∧ s.onBus = true ∧ s.dyn.eFuse = .soft) :=
  ⟨dynDay { day.dyn with eFuse := .soft }, 99, by decide +kernel⟩

theorem wit_StartUpCompletes_12 : ∃ (s : State),
      s.softStarts = true ∧
      s.dyn.softFrom + 245760000000 ≤ s.clock :=
  ⟨rising { Dynamo.reset with softDone := false, softFrom := 40714240000000 }, by decide +kernel⟩

theorem wit_StartUpCompletes_13 : ∃ (s : State),
      s.softStarts = true :=
  ⟨rising { Dynamo.reset with softDone := false }, by decide +kernel⟩

theorem wit_StartUpCompletes_14 : ∃ (s : State),
      s.railRises = true ∧
      s.dyn.railFrom + 4096000000 ≤ s.clock :=
  ⟨rising { Dynamo.reset with rails := 3, railFrom := 40955904000000 }, by decide +kernel⟩

theorem wit_StartUpCompletes_15 : ∃ (s : State),
      (s.duskNow = true ∧ 6 < s.dyn.kept.toNat) ∧
      (s.dyn.softDone = true ∧ s.dyn.rails < 7 ∧ s.dyn.railFrom + 4096000000 ≤ s.clock) :=
  ⟨dynDay { day.dyn with st := .dusk, softDone := true, rails := 3, duskFrom := 40960000000, kept := 7 }, by decide +kernel⟩

theorem wit_StartUpCompletes_16 : ∃ (s : State),
      s.clock < s.dyn.softFrom + 245760000000 :=
  ⟨day, by decide +kernel⟩

theorem wit_StartUpCompletes_17 : ∃ (s : State),
      s.clock < s.dyn.railFrom + 4096000000 :=
  ⟨rising { Dynamo.reset with railFrom := 40960000000000 }, by decide +kernel⟩

theorem wit_StartUpCompletes_18a : ∃ (s : State),
      s.railRises = true ∧
      s.dyn.rails < 6 :=
  ⟨rising { Dynamo.reset with rails := 0 }, by decide +kernel⟩

theorem wit_StartUpCompletes_18b : ∃ (s : State),
      s.railRises = true ∧
      s.dyn.rails < 6 :=
  ⟨rising { Dynamo.reset with rails := 5 }, by decide +kernel⟩

theorem wit_StartUpCompletes_19a : ∃ (s : State),
      s.railRises = true ∧
      s.dyn.rails = 6 :=
  ⟨rising { Dynamo.reset with rails := 6, straps := 0x15 }, by decide +kernel⟩

theorem wit_StartUpCompletes_19b : ∃ (s : State),
      s.railRises = true ∧
      s.dyn.rails = 6 :=
  ⟨rising { Dynamo.reset with rails := 6, cbus := 99, straps := 0x15 }, by decide +kernel⟩

theorem wit_StartUpCompletes_20 : ∃ (s : State),
      s.railRises = false :=
  ⟨day, by decide +kernel⟩

theorem wit_StartUpCompletes_21 : ∃ (s : State),
      s.dyn.st = .startUp ∧
      s.dyn.imageDone = true ∧
      s.dyn.tcxoFrom + 20480000000 ≤ s.clock ∧
      (s.dyn.autoDay = false ∨ s.dyn.dayEntry = true) :=
  ⟨rising { Dynamo.reset with kept := 5, imageDone := true, tcxoFrom := 40939520000000 }, by decide +kernel⟩

theorem wit_StartUpCompletes_22 : ∃ (s : State),
      s.dyn.st = .startUp ∧
      s.dyn.imageDone = true ∧
      s.dyn.tcxoFrom + 20480000000 ≤ s.clock ∧
      (s.dyn.autoDay = true ∧ s.dyn.dayEntry = false ∧ s.fuseBad = false ∧ s.temp ≤ 460) :=
  ⟨rising { Dynamo.reset with imageDone := true, autoDay := true, tcxoFrom := 40939520000000 }, by decide +kernel⟩

theorem wit_StartUpCompletes_23 : ∃ (s : State),
      (s.dyn.st ≠ .startUp ∨ s.dyn.imageDone = false ∨ s.clock < s.dyn.tcxoFrom + 20480000000) :=
  ⟨rising { Dynamo.reset with imageDone := true, tcxoFrom := 40939520000001 }, by decide +kernel⟩

theorem wit_StartUpCompletes_24 : ∃ (s : State),
      s.dyn.st = .startUp ∧
      s.dyn.imageDone = true ∧
      s.dyn.tcxoFrom + 20480000000 ≤ s.clock ∧
      (s.dyn.autoDay = true ∧ s.dyn.dayEntry = false ∧ (s.fuseBad = true ∨ 460 < s.temp)) :=
  ⟨rising { Dynamo.reset with imageDone := true, autoDay := true, tcxoFrom := 40939520000000, temp := 461 }, by decide +kernel⟩

theorem wit_StartUpCompletes_25 : ∃ (s : State) (c : BitVec 10),
      (s.softStarts = false ∧ (s.onBus = false ∨ s.dyn.eFuse ≠ .soft)) :=
  ⟨day, 200, by decide +kernel⟩

/-! Day entry, Dusk, and Night -/

theorem wit_DayAndDuskComplete_1 : ∃ (s : State),
      (s.dyn.st = .dawn ∧ s.dyn.dayEntry = false) ∧
      s.fuseBad = false ∧
      s.temp ≤ 460 :=
  ⟨{ State.reset with dyn := { Dynamo.reset with temp := 460 } }, by decide +kernel⟩

theorem wit_DayAndDuskComplete_2 : ∃ (s : State),
      (s.dyn.st = .dawn ∧ s.dyn.dayEntry = false) ∧
      s.fuseBad = true :=
  ⟨{ State.reset with hb := { Handlebar.reset with fuse := { Fuses.reset with crc := 0 } } }, by decide +kernel⟩

theorem wit_DayAndDuskComplete_3 : ∃ (s : State),
      (s.dyn.st = .dawn ∧ s.dyn.dayEntry = false) ∧
      s.fuseBad = false ∧
      460 < s.temp :=
  ⟨{ State.reset with dyn := { Dynamo.reset with temp := 461 } }, by decide +kernel⟩

theorem wit_DayAndDuskComplete_4 : ∃ (s : State),
      (s.dyn.st ≠ .dawn ∨ s.dyn.dayEntry = true) :=
  ⟨day, by decide +kernel⟩

theorem wit_DayAndDuskComplete_5a : ∃ (s : State),
      (s.dyn.st = .dawn ∨ s.dyn.st = .day) :=
  ⟨State.reset, by decide +kernel⟩

theorem wit_DayAndDuskComplete_5b : ∃ (s : State),
      (s.dyn.st = .dawn ∨ s.dyn.st = .day) :=
  ⟨day, by decide +kernel⟩

theorem wit_DayAndDuskComplete_6 : ∃ (s : State),
      (s.dyn.st = .dawn ∨ s.dyn.st = .day) :=
  ⟨day, by decide +kernel⟩

theorem wit_DayAndDuskComplete_7a : ∃ (s : State) (c : Nat),
      (s.dyn.brown = true ∧ (s.dyn.st = .dawn ∨ s.dyn.st = .day ∨ s.dyn.st = .startUp ∧ s.dyn.softDone = true)) ∧
      s.dyn.brownFrom + 4096000000 ≤ s.clock ∧
      (c = if s.dyn.brownOv then 4 else 3) :=
  ⟨dynDay { day.dyn with brown := true }, 3, by decide +kernel⟩

theorem wit_DayAndDuskComplete_7b : ∃ (s : State) (c : Nat),
      (s.dyn.brown = true ∧ (s.dyn.st = .dawn ∨ s.dyn.st = .day ∨ s.dyn.st = .startUp ∧ s.dyn.softDone = true)) ∧
      s.dyn.brownFrom + 4096000000 ≤ s.clock ∧
      (c = if s.dyn.brownOv then 4 else 3) :=
  ⟨dynDay { day.dyn with brown := true, brownOv := true, brownFrom := 36864000000 }, 4, by decide +kernel⟩

theorem wit_DayAndDuskComplete_8 : ∃ (s : State) (c : Nat),
      (s.dyn.brown = true ∧ (s.dyn.st = .dawn ∨ s.dyn.st = .day ∨ s.dyn.st = .startUp ∧ s.dyn.softDone = true)) ∧
      (c = if s.dyn.brownOv then 4 else 3) :=
  ⟨dynDay { day.dyn with brown := true }, 3, by decide +kernel⟩

theorem wit_DayAndDuskComplete_9 : ∃ (s : State),
      s.dyn.brown = false :=
  ⟨day, by decide +kernel⟩

theorem wit_DayAndDuskComplete_10a : ∃ (s : State),
      (s.dyn.st = .dawn ∨ s.dyn.st = .day ∨ s.dyn.st = .startUp ∧ s.dyn.soft = true) :=
  ⟨day, by decide +kernel⟩

theorem wit_DayAndDuskComplete_10b : ∃ (s : State),
      (s.dyn.st = .dawn ∨ s.dyn.st = .day ∨ s.dyn.st = .startUp ∧ s.dyn.soft = true) :=
  ⟨rising { Dynamo.reset with softDone := false }, by decide +kernel⟩

theorem wit_DayAndDuskComplete_11a : ∃ (s : State),
      (s.dyn.st = .dawn ∨ s.dyn.st = .day ∨ s.dyn.st = .startUp ∧ s.dyn.rails ≠ 0) :=
  ⟨day, by decide +kernel⟩

theorem wit_DayAndDuskComplete_11b : ∃ (s : State),
      (s.dyn.st = .dawn ∨ s.dyn.st = .day ∨ s.dyn.st = .startUp ∧ s.dyn.rails ≠ 0) :=
  ⟨rising { Dynamo.reset with rails := 1 }, by decide +kernel⟩

theorem wit_DayAndDuskComplete_12 : ∃ (s : State),
      (s.dyn.st = .dawn ∨ s.dyn.st = .day) ∧
      s.dyn.hotFrom.any (fun t => decide (t + 4096000000 ≤ s.clock)) = true :=
  ⟨dynDay { day.dyn with hotFrom := some 36864000000 }, by decide +kernel⟩

theorem wit_DayAndDuskComplete_13 : ∃ (s : State),
      s.dyn.hotFrom.all (fun t => decide (s.clock < t + 4096000000)) = true :=
  ⟨day, by decide +kernel⟩

theorem wit_DayAndDuskComplete_14 : ∃ (s : State),
      (s.duskNow = true ∧ 1 < s.dyn.kept.toNat) :=
  ⟨dynDay { day.dyn with st := .dusk, duskFrom := 40960000000, kept := 8, hotFrom := some 0, rails := 7 }, by decide +kernel⟩

theorem wit_DayAndDuskComplete_15 : ∃ (s : State),
      (s.duskNow = true ∧ 2 < s.dyn.kept.toNat) :=
  ⟨dynDay { day.dyn with st := .dusk, duskFrom := 40960000000, kept := 8, hotFrom := some 0, rails := 7 }, by decide +kernel⟩

theorem wit_DayAndDuskComplete_16 : ∃ (s : State),
      (s.duskNow = true ∧ 5 < s.dyn.kept.toNat) ∧
      s.dyn.hotFrom.any (fun t => decide (t + 4096000000 ≤ s.clock)) = true :=
  ⟨dynDay { day.dyn with st := .dusk, duskFrom := 40960000000, kept := 8, hotFrom := some 0, rails := 7 }, by decide +kernel⟩

theorem wit_DayAndDuskComplete_17 : ∃ (s : State),
      (s.duskNow = true ∧ 6 < s.dyn.kept.toNat) ∧
      s.dyn.rails ≠ 0 :=
  ⟨dynDay { day.dyn with st := .dusk, duskFrom := 40960000000, kept := 8, hotFrom := some 0, rails := 7 }, by decide +kernel⟩

theorem wit_DayAndDuskComplete_18 : ∃ (s : State),
      (s.duskNow = true ∧ s.dyn.kept.toNat ≤ 5) :=
  ⟨dynDay { day.dyn with st := .dusk, duskFrom := 40960000000, kept := 2, hotFrom := some 0, rails := 7 }, by decide +kernel⟩

theorem wit_DayAndDuskComplete_19 : ∃ (s : State),
      (s.dyn.st = .off ∨ s.dyn.st = .night ∨ s.dyn.st = .dusk ∧ s.duskNow = false) :=
  ⟨dynDay { day.dyn with st := .night }, by decide +kernel⟩

theorem wit_DayAndDuskComplete_20 : ∃ (s : State),
      (s.dyn.st = .dusk ∧ s.dyn.gatesShut = false) ∧
      s.dyn.duskFrom + 409600000 ≤ s.clock :=
  ⟨dynDay { day.dyn with st := .dusk, duskFrom := 40550400000 }, by decide +kernel⟩

theorem wit_DayAndDuskComplete_21 : ∃ (s : State),
      (s.dyn.st ≠ .dusk ∨ s.dyn.gatesShut = true ∨ s.clock < s.dyn.duskFrom + 409600000) :=
  ⟨day, by decide +kernel⟩

theorem wit_DayAndDuskComplete_22 : ∃ (s : State),
      (s.dyn.st = .dusk ∧ s.dyn.gatesShut = true ∧ s.dyn.railsDown = false ∧ s.programming = false) ∧
      (2 ≤ s.dyn.rails ∧ s.dyn.rails ≠ 5) :=
  ⟨dynDay { day.dyn with st := .dusk, gatesShut := true, rails := 7 }, by decide +kernel⟩

theorem wit_DayAndDuskComplete_23 : ∃ (s : State),
      (s.dyn.st = .dusk ∧ s.dyn.gatesShut = true ∧ s.dyn.railsDown = false ∧ s.programming = false) ∧
      s.dyn.rails = 5 :=
  ⟨dynDay { day.dyn with st := .dusk, gatesShut := true, rails := 5 }, by decide +kernel⟩

theorem wit_DayAndDuskComplete_24 : ∃ (s : State),
      (s.dyn.st = .dusk ∧ s.dyn.gatesShut = true ∧ s.dyn.railsDown = false ∧ s.programming = false) ∧
      s.dyn.rails ≤ 1 :=
  ⟨dynDay { day.dyn with st := .dusk, gatesShut := true, rails := 1 }, by decide +kernel⟩

theorem wit_DayAndDuskComplete_25 : ∃ (s : State),
      (s.dyn.st ≠ .dusk ∨ s.dyn.gatesShut = false ∨ s.dyn.railsDown = true ∨ s.programming = true) :=
  ⟨day, by decide +kernel⟩

theorem wit_DayAndDuskComplete_26 : ∃ (s : State),
      (s.dyn.st = .dusk ∧ s.dyn.railsDown = true) :=
  ⟨dynDay { day.dyn with st := .dusk, railsDown := true }, by decide +kernel⟩

theorem wit_DayAndDuskComplete_27 : ∃ (s : State),
      (s.dyn.st ≠ .dusk ∨ s.dyn.railsDown = false) :=
  ⟨day, by decide +kernel⟩

/-! Brown-outs, hold-up, temperature and VEL -/

theorem wit_SupplyAndTemperatureComplete_1a : ∃ (s : State),
      s.onBus = true ∧
      (s.dyn.brown = false ∨ s.dyn.brownOv ≠ false) :=
  ⟨day, by decide +kernel⟩

theorem wit_SupplyAndTemperatureComplete_1b : ∃ (s : State),
      s.onBus = true ∧
      (s.dyn.brown = false ∨ s.dyn.brownOv ≠ false) :=
  ⟨dynDay { day.dyn with brown := true, brownOv := true }, by decide +kernel⟩

theorem wit_SupplyAndTemperatureComplete_2 : ∃ (s : State),
      s.softStarts = false ∧
      (s.onBus = false ∨ s.dyn.brown = true ∧ s.dyn.brownOv = false) :=
  ⟨dynDay { day.dyn with brown := true, brownOv := false }, by decide +kernel⟩

theorem wit_SupplyAndTemperatureComplete_3a : ∃ (s : State),
      s.onBus = true ∧
      (s.dyn.brown = false ∨ s.dyn.brownOv ≠ true) :=
  ⟨day, by decide +kernel⟩

theorem wit_SupplyAndTemperatureComplete_3b : ∃ (s : State),
      s.onBus = true ∧
      (s.dyn.brown = false ∨ s.dyn.brownOv ≠ true) :=
  ⟨dynDay { day.dyn with brown := true, brownOv := false }, by decide +kernel⟩

theorem wit_SupplyAndTemperatureComplete_4 : ∃ (s : State),
      s.softStarts = false ∧
      (s.onBus = false ∨ s.dyn.brown = true ∧ s.dyn.brownOv = true) :=
  ⟨dynDay { day.dyn with brown := true, brownOv := true }, by decide +kernel⟩

theorem wit_SupplyAndTemperatureComplete_5 : ∃ (s : State),
      (s.dyn.brown = true ∧ s.onBus = true) ∧
      s.clock ≤ s.dyn.brownFrom + 4096000000 :=
  ⟨dynDay { day.dyn with brown := true, brownFrom := 36864000000 }, by decide +kernel⟩

theorem wit_SupplyAndTemperatureComplete_6 : ∃ (s : State),
      (s.dyn.brown = false ∨ s.onBus = false ∨ s.dyn.brownFrom + 4096000000 < s.clock) :=
  ⟨day, by decide +kernel⟩

theorem wit_SupplyAndTemperatureComplete_7a : ∃ (s : State) (v b p : BitVec 16),
      (s.dyn.st = .dawn ∨ s.dyn.st = .day ∨ s.dyn.st = .dusk ∧ s.dyn.railsDown = false) :=
  ⟨dynDay { day.dyn with cbus := 200 }, 4800, 4800, 3000, by decide +kernel⟩

theorem wit_SupplyAndTemperatureComplete_7b : ∃ (s : State) (v b p : BitVec 16),
      (s.dyn.st = .dawn ∨ s.dyn.st = .day ∨ s.dyn.st = .dusk ∧ s.dyn.railsDown = false) :=
  ⟨dynDay { day.dyn with cbus := 100 }, 4800, 2800, 0, by decide +kernel⟩

theorem wit_SupplyAndTemperatureComplete_8a : ∃ (s : State) (t : BitVec 12),
      (s.dyn.st = .dawn ∨ s.dyn.st = .day ∨ s.dyn.st = .dusk ∧ s.dyn.railsDown = false) :=
  ⟨State.reset, 461, by decide +kernel⟩

theorem wit_SupplyAndTemperatureComplete_8b : ∃ (s : State) (t : BitVec 12),
      (s.dyn.st = .dawn ∨ s.dyn.st = .day ∨ s.dyn.st = .dusk ∧ s.dyn.railsDown = false) :=
  ⟨dynDay { day.dyn with tWarn := true }, 440, by decide +kernel⟩

theorem wit_SupplyAndTemperatureComplete_8c : ∃ (s : State) (t : BitVec 12),
      (s.dyn.st = .dawn ∨ s.dyn.st = .day ∨ s.dyn.st = .dusk ∧ s.dyn.railsDown = false) :=
  ⟨dynDay { day.dyn with tWarn := true }, 439, by decide +kernel⟩

theorem wit_SupplyAndTemperatureComplete_9 : ∃ (s : State) (t : BitVec 12),
      (s.dyn.st = .startUp ∧ s.dyn.rails ≠ 0) :=
  ⟨rising { Dynamo.reset with rails := 2 }, 100, by decide +kernel⟩

theorem wit_SupplyAndTemperatureComplete_10 : ∃ (s : State),
      (s.dyn.st = .dawn ∨ s.dyn.st = .day ∨ s.dyn.st = .dusk ∧ s.dyn.railsDown = false) ∧
      s.dyn.elFault = false :=
  ⟨day, by decide +kernel⟩

theorem wit_SupplyAndTemperatureComplete_11 : ∃ (s : State),
      (s.dynRuns = false ∨ s.dyn.elFault = true) :=
  ⟨dynDay { day.dyn with elFault := true }, by decide +kernel⟩

/-! A COMMIT is accepted only with a newer generation -/

theorem wit_GenerationRule_2a : ∃ (s : State),
      s.hostReach = true ∧
      s.commit.pend = none ∧
      newer (s.immAt 0x20C) s.commit.gen = false :=
  ⟨day, by decide +kernel⟩

theorem wit_GenerationRule_2b : ∃ (s : State),
      s.hostReach = true ∧
      s.commit.pend = none ∧
      newer (s.immAt 0x20C) s.commit.gen = false :=
  ⟨{ day with commit := { CommitUnit.reset with gen := 1 }, imm := [(0x20C, 0x80000001)] }, by decide +kernel⟩

theorem wit_GenerationRule_3 : ∃ (s : State) (p : ThreadId) (w : BitVec 64) (t : Thread) (a b c : Fin 8),
      t = s.thread p ∧
      s.issues p w ∧
      iOp w = 0x6A ∧
      (iField w 52 4 = 8 + a.val ∧ iField w 48 4 = b.val ∧ iField w 44 4 = c.val ∧ iField w 0 44 = 0) ∧
      t.ip ≠ 0x3FFF ∧
      s.commit.pend = none ∧
      newer (t.g.get b) s.commit.gen = false :=
  ⟨running (runT) (iw 0x6A 8 1 2 0), 0, iw 0x6A 8 1 2 0, runT, 0, 1, 2, by decide +kernel⟩

/-! A frame at the head of its queue beyond FW_AGE is discarded -/

theorem wit_AgedFrameDiscarded_1 : ∃ (s : State) (c : PortId) (d : Bool) (f : Frame),
      s.clocked = true ∧
      (s.laneFrames c d).any (fun f => f.egress.isSome) = false ∧
      nextFrame (s.laneFrames c d) = some f ∧
      (dtAdd f.ingress (max 1 (fld (s.act 0x38004) 0 16) * 4096000)).toNat < s.dt.toNat ∧
      (s.occs.filter fun o => evChannel o.src.val == 0x50).length + 3 ≤ 16 :=
  ⟨{ fwDay [{ wholeFrame with ingress := 0 }] with occs := [] }, 2, true, { wholeFrame with ingress := 0 }, by decide +kernel⟩

/-! What ANCHOR Ss, Ta does -/

theorem wit_AnchorInstruction_1 : ∃ (s : State) (p : ThreadId) (w : BitVec 64) (t : Thread) (i : SpokeId) (d : Fin 8) (ta : DT),
      t = s.thread p ∧
      s.issues p w ∧
      iOp w = 0x43 ∧
      iField w 52 4 = 8 + d.val ∧
      ta = t.t.get d ∧
      (okSpoke w = true ∧ spokeOf t w = i.val) ∧
      (iField w 48 4 = 0 ∧ iField w 0 40 = 0) ∧
      (s.spoke i).chan.length < 4 ∧
      t.ip ≠ 0x3FFF :=
  ⟨running ({ runT with g := #v[5, 1000, 20480, 3, 0, 0, 0, 0], t := #v[40961000000, 0xFFFFFFFFFFFFFFFFFFFF, 0, 0, 0, 0, 0, 40960000000], f := true }) (iw 0x43 8 0 0 0x50000000000), 0, iw 0x43 8 0 0 0x50000000000, { runT with g := #v[5, 1000, 20480, 3, 0, 0, 0, 0], t := #v[40961000000, 0xFFFFFFFFFFFFFFFFFFFF, 0, 0, 0, 0, 0, 40960000000], f := true }, 5, 0, 40961000000, by decide +kernel⟩

theorem wit_AnchorInstruction_2 : ∃ (s : State) (p : ThreadId) (w : BitVec 64) (t : Thread) (i : SpokeId) (d : Fin 8) (ta : DT),
      t = s.thread p ∧
      s.issues p w ∧
      iOp w = 0x43 ∧
      iField w 52 4 = 8 + d.val ∧
      ta = t.t.get d ∧
      (okSpoke w = true ∧ spokeOf t w = i.val) ∧
      (iField w 48 4 = 0 ∧ iField w 0 40 = 0) ∧
      4 ≤ (s.spoke i).chan.length ∧
      t.ip ≠ 0x3FFF :=
  ⟨(running ({ runT with g := #v[5, 1000, 20480, 3, 0, 0, 0, 0], t := #v[40961000000, 0xFFFFFFFFFFFFFFFFFFFF, 0, 0, 0, 0, 0, 40960000000], f := true }) (iw 0x43 8 0 0 0x50000000000)).setSpoke 5 { Spoke.reset with chan := List.replicate 4 (.desc ⟨0, 0, 0⟩) }, 0, iw 0x43 8 0 0 0x50000000000, { runT with g := #v[5, 1000, 20480, 3, 0, 0, 0, 0], t := #v[40961000000, 0xFFFFFFFFFFFFFFFFFFFF, 0, 0, 0, 0, 0, 40960000000], f := true }, 5, 0, 40961000000, by decide +kernel⟩

theorem wit_AnchorInstruction_3 : ∃ (s : State) (p : ThreadId) (t : Thread) (i : SpokeId) (ta : DT),
      t = s.thread p ∧
      s.mayUse p .hold = true ∧
      t.waitOn = .issue (.anchor i ta) ∧
      (s.spoke i).chan.length < 4 :=
  ⟨day.setThread 0 { runT with state := .hold, waitOn := .issue (.anchor 5 7) }, 0, { runT with state := .hold, waitOn := .issue (.anchor 5 7) }, 5, 7, by decide +kernel⟩

theorem wit_AnchorInstruction_4 : ∃ (s : State) (p : ThreadId) (w : BitVec 64) (t : Thread) (i : SpokeId) (d : Fin 8) (ta : DT),
      t = s.thread p ∧
      s.issues p w ∧
      iOp w = 0x43 ∧
      iField w 52 4 = 8 + d.val ∧
      ta = t.t.get d ∧
      (okSpoke w = true ∧ spokeOf t w = i.val) ∧
      (iField w 48 4 ≠ 0 ∨ iField w 0 40 ≠ 0) :=
  ⟨running ({ runT with g := #v[5, 1000, 20480, 3, 0, 0, 0, 0], t := #v[40961000000, 0xFFFFFFFFFFFFFFFFFFFF, 0, 0, 0, 0, 0, 40960000000], f := true }) (iw 0x43 8 0 0 0x50000000001), 0, iw 0x43 8 0 0 0x50000000001, { runT with g := #v[5, 1000, 20480, 3, 0, 0, 0, 0], t := #v[40961000000, 0xFFFFFFFFFFFFFFFFFFFF, 0, 0, 0, 0, 0, 40960000000], f := true }, 5, 0, 40961000000, by decide +kernel⟩

end Sys2Proof.Tests
end

section
/-! The passing of one ft, and the cells that ring links begin: what `tick`, `runLink` and `beginCell` come to. -/

namespace Sys2Proof.Proofs

open Sys2Proof.Machine Sys2Proof.Laws

/-! ### One ft -/

@[simp] theorem step_of_empty {s : State} (h : s.pending = []) : step s = .next s.idle := by simp [step, h]

theorem tick_of_stopped {s : State} (h : s.dtRuns = false) : s.tick = { s with clock := s.clock + 1 } := by
  simp [State.tick, h]

theorem tick_of_count {s : State} (h : s.dtRuns = true) (ho : s.hub.ho = none) (hp : s.hub.piStep = 0) :
    s.tick = { s with clock := s.clock + 1, dt := s.dt + 1 } := by
  simp [State.tick, h, ho, hp]

theorem tick_of_outage {s : State} {x : Holdover} (h : s.dtRuns = true) (ho : s.hub.ho = some x) :
    s.tick = { s with clock := s.clock + 1, dt := x.count (s.clock + 1) } := by
  simp [State.tick, h, ho]

/-- A lengthened cycle (R238). -/
theorem tick_of_piStep_neg {s : State} (h : s.dtRuns = true) (ho : s.hub.ho = none) (hp : s.hub.piStep < 0) :
    s.tick = { s with clock := s.clock + 1, hub := { s.hub with piStep := 0 } } := by
  simp [State.tick, h, ho, hp]

/-- A shortened cycle (R238). -/
theorem tick_of_piStep_pos {s : State} (h : s.dtRuns = true) (ho : s.hub.ho = none) (hp : 0 < s.hub.piStep) :
    s.tick = { s with dt := s.dt + 1, hub := { s.hub with piStep := 0 } } := by
  have hn : ¬ s.hub.piStep < 0 := by omega
  simp [State.tick, h, ho, hp, hn]

/-- What every branch of `tick` has in common, of what the ring links look at. -/
theorem tick_links (s : State) : s.tick.stoker = s.stoker ∧ s.tick.clock ≤ s.clock + 1 := by
  unfold State.tick
  split
  · simp
  · split
    · simp
    · split
      · simp
      · split <;> simp

@[simp] theorem tick_stoker (s : State) : s.tick.stoker = s.stoker := (tick_links s).1

theorem tick_clock_le (s : State) : s.tick.clock ≤ s.clock + 1 := (tick_links s).2

/-! ### Cells -/

/-- A link that is not free, or for which nothing waits, begins no cell (R322). -/
theorem runLink_of_busy {prt : RingPort} {s : State}
    (h : s.clock < s.stoker.freeAt prt ∨ s.stoker.nextCell prt = none) : runLink prt s = s := by
  unfold runLink
  rcases h with h | h
  · rw [if_pos h]
  · rw [h]
    split <;> rfl

/-- A free link begins the cell that is next in its queue. -/
theorem runLink_of_free {prt : RingPort} {s : State} {m : RingPort × Option Octets}
    (h : s.stoker.freeAt prt ≤ s.clock) (hm : s.stoker.nextCell prt = some m) : runLink prt s = beginCell m s := by
  unfold runLink
  rw [if_neg (by omega), hm]

/-- The cell a link begins next waits for that link. -/
theorem nextCell_fst {k : Stoker} {prt : RingPort} {m : RingPort × Option Octets} (h : k.nextCell prt = some m) :
    m.1 = prt := by
  have hmem : m ∈ k.wait.filter (·.1 == prt) := by
    rcases Option.or_eq_some_iff.1 h with h | ⟨-, h⟩
    · exact List.mem_of_find?_eq_some h
    · exact List.mem_of_mem_head? h
  simpa using (List.mem_filter.1 hmem).2

/-- The beginning of a cell takes no time. -/
@[simp] theorem beginCell_clock (m : RingPort × Option Octets) (s : State) : (beginCell m s).clock = s.clock := by
  unfold beginCell
  split <;> rfl

/-- A cell that begins leaves the queue. -/
@[simp] theorem beginCell_wait (m : RingPort × Option Octets) (s : State) :
    (beginCell m s).stoker.wait = s.stoker.wait.erase m := by
  obtain ⟨prt, b⟩ := m
  cases b <;> cases prt <;> rfl

/-- A cell that begins on one link leaves the other as free as it was. -/
theorem beginCell_freeAt_ne {m : RingPort × Option Octets} {prt : RingPort} (s : State) (h : m.1 ≠ prt) :
    (beginCell m s).stoker.freeAt prt = s.stoker.freeAt prt := by
  obtain ⟨q, b⟩ := m
  cases q <;> cases prt
  · exact absurd rfl h
  · cases b <;> rfl
  · cases b <;> rfl
  · exact absurd rfl h

/-- A cell that begins on one link leaves the queue of the other. -/
theorem beginCell_nextCell_ne {m : RingPort × Option Octets} {prt : RingPort} (s : State) (h : m.1 ≠ prt) :
    (beginCell m s).stoker.nextCell prt = s.stoker.nextCell prt := by
  have hq : (s.stoker.wait.erase m).filter (·.1 == prt) = s.stoker.wait.filter (·.1 == prt) := by
    rw [← List.erase_filter, List.erase_of_not_mem]
    simp [h]
  simp [Stoker.nextCell, hq]

/-! ### The two links after one ft -/

theorem idle_of_links_busy {s : State}
    (h : ∀ prt, s.clock + 1 < s.stoker.freeAt prt ∨ s.stoker.nextCell prt = none) : s.idle = s.tick := by
  have hb : ∀ prt, s.tick.clock < s.tick.stoker.freeAt prt ∨ s.tick.stoker.nextCell prt = none := fun prt => by
    rw [tick_stoker]
    exact (h prt).imp_left (Nat.lt_of_le_of_lt (tick_clock_le s))
  rw [State.idle, runLink_of_busy (hb .n), runLink_of_busy (hb .p)]

/-- The N link begins its next cell, and the P link, which had none to begin, still has none. -/
theorem idle_of_n_free {s : State} {m : RingPort × Option Octets}
    (hp : s.tick.clock < s.stoker.freeP ∨ s.stoker.nextCell .p = none) (hn : s.stoker.freeN ≤ s.tick.clock)
    (hm : s.stoker.nextCell .n = some m) : s.idle = beginCell m s.tick := by
  have hne : m.1 ≠ .p := by simp [nextCell_fst hm]
  have hbusy : (beginCell m s.tick).clock < (beginCell m s.tick).stoker.freeAt .p ∨
      (beginCell m s.tick).stoker.nextCell .p = none := by
    rw [beginCell_clock, beginCell_freeAt_ne _ hne, beginCell_nextCell_ne _ hne, tick_stoker]
    exact hp
  have hfree : runLink .n s.tick = beginCell m s.tick := by
    apply runLink_of_free <;> rw [tick_stoker]
    · exact hn
    · exact hm
  rw [State.idle, hfree, runLink_of_busy hbusy]

/-- Settles O2: `tick` branch by branch, then the links that take their cells after it. -/
theorem stepIdleTick : Obligations.StepIdleTick := fun s hs =>
  ⟨step_of_empty hs, outside_State_idle s rfl rfl rfl rfl, tick_of_stopped, tick_of_count, fun _ => tick_of_outage,
    tick_of_piStep_neg, tick_of_piStep_pos, idle_of_links_busy, fun _ => idle_of_n_free⟩

end Sys2Proof.Proofs
end

section
/-! The module at the entry to Dawn (R12): each unit at reset, and what the Snapshot page reads. -/

namespace Sys2Proof.Proofs

open Sys2Proof.Machine Sys2Proof.Laws

/-! ### Units -/

theorem get_replicate {α : Type} (n : Nat) (x : α) (i : Fin n) : (Vector.replicate n x).get i = x :=
  Vector.getElem_replicate i.isLt

@[simp] theorem reset_island (i : IslandId) : State.reset.island i = Isl.reset := get_replicate _ _ i
@[simp] theorem reset_spoke (i : SpokeId) : State.reset.spoke i = Spoke.reset := get_replicate _ _ i
@[simp] theorem reset_thread (p : ThreadId) : State.reset.thread p = Thread.reset := get_replicate _ _ p
@[simp] theorem reset_port (c : PortId) : State.reset.port c = Port.reset := get_replicate _ _ c

@[simp] theorem reset_gr (k : Nat) : Thread.reset.gr k = 0 := get_replicate _ _ _
@[simp] theorem reset_tr (k : Nat) : Thread.reset.tr k = 0 := get_replicate _ _ _

/-! ### The Snapshot page -/

/-- SEQ of the first Snapshot buffer is 0xFFFFFFFF before any snapshot (R38). -/
theorem reset_seqA : State.reset.readLive 0x64000 = 0xFFFFFFFF := by decide

/-- And so is SEQ of the second. -/
theorem reset_seqB : State.reset.readLive 0x68000 = 0xFFFFFFFF := by decide

/-- Settles O3: every item as `State.reset` gives it, each unit from the vector it stands in. -/
theorem resetState : Obligations.ResetState := by
  unfold Obligations.ResetState
  refine ⟨rfl, rfl, rfl, rfl, rfl, rfl, rfl, ?islands, ?spokes, ?threads, ?ports, rfl, rfl, reset_seqA, reset_seqB, rfl⟩
  case islands => intro i; rw [reset_island]; rfl
  case spokes => intro i; rw [reset_spoke]; exact ⟨rfl, rfl, rfl⟩
  case threads => intro p; rw [reset_thread]; exact ⟨rfl, fun k => ⟨reset_gr k, reset_tr k⟩, rfl, rfl⟩
  case ports => intro c; rw [reset_port]; exact ⟨rfl, rfl⟩

end Sys2Proof.Proofs
end

section
/-! Handlebar's operations, one equation for each of their cases: rings and event records (R363 to R370), writebacks
(R367), and vectors (R374). -/

namespace Sys2Proof.Proofs

open Sys2Proof.Machine Sys2Proof.Laws

/-- A command of the host has its effect while a bus can carry it. -/
theorem byHost_of_reach {s : State} (h : s.hostReach = true) (f : State → State) : byHost s f = f s := if_pos h

/-! ### Rings -/

section
variable (s : State) (q : RingId) (x : Ring)

@[simp] theorem setRing_ring : (s.setRing q false x).ring q false = x := get_set _ _ _

@[simp] theorem setRing_setRing (y : Ring) : (s.setRing q false x).setRing q false y = s.setRing q false y := by
  simp [State.setRing]

@[simp] theorem setRing_clock (rx : Bool) : (s.setRing q rx x).clock = s.clock := by cases rx <;> rfl
@[simp] theorem setRing_occs (rx : Bool) : (s.setRing q rx x).occs = s.occs := by cases rx <;> rfl
@[simp] theorem setRing_posted (rx : Bool) : (s.setRing q rx x).posted = s.posted := by cases rx <;> rfl
@[simp] theorem setRing_evStat (rx : Bool) : (s.setRing q rx x).hb.evStat = s.hb.evStat := by cases rx <;> rfl
@[simp] theorem setRing_cfg (rx : Bool) : (s.setRing q rx x).hb.cfg = s.hb.cfg := by cases rx <;> rfl
@[simp] theorem setRing_vecHold (rx : Bool) : (s.setRing q rx x).hb.vecHold = s.hb.vecHold := by cases rx <;> rfl
@[simp] theorem setRing_vec (rx : Bool) (v : VecId) : (s.setRing q rx x).vec v = s.vec v := by cases rx <;> rfl

end

@[simp] theorem post_ring (a : Nat) (bs : Octets) (s : State) (q : RingId) (rx : Bool) :
    (post a bs s).ring q rx = s.ring q rx := rfl

@[simp] theorem post_setRing (a : Nat) (bs : Octets) (s : State) (q : RingId) (rx : Bool) (x : Ring) :
    (post a bs s).setRing q rx x = post a bs (s.setRing q rx x) := by cases rx <;> rfl

/-- A message posted stands last of those posted. -/
@[simp] theorem post_posted (a : Nat) (bs : Octets) (s : State) :
    (post a bs s).posted = s.posted ++ [⟨BitVec.ofNat 64 a, bs⟩] := rfl

theorem en_of_ringTakes {s : State} {q : RingId} {rx : Bool} {n : Nat} (h : s.ringTakes q rx n = true) :
    (s.ring q rx).en = true := by
  simp only [State.ringTakes, Bool.and_eq_true] at h
  exact h.1.1

/-! ### Event records -/

@[simp] theorem leOctets_length (k n : Nat) : (leOctets k n).length = k := by
  induction k generalizing n with
  | zero => rfl
  | succ k ih => simp [leOctets, ih]

/-- An event record has 16 octets (R370). -/
@[simp] theorem eventRecord_length (o : Occ) (drop : Bool) : (eventRecord o drop).length = 16 := leOctets_length _ _

/-- The event rings are Q120 to Q123 (R362). -/
theorem evRing_range (cfg : BitVec 12) : 56 ≤ (evRing cfg).val ∧ (evRing cfg).val < 60 := by
  have h : fieldOf cfg.toNat 8 2 < 4 := Nat.mod_lt _ (by decide)
  exact ⟨Nat.le_add_right _ _, Nat.add_lt_add_left h 56⟩

@[simp] theorem hostToDevice_evRing (cfg : BitVec 12) : hostToDevice (evRing cfg) false = false := by
  have h := evRing_range cfg
  simp [hostToDevice]
  omega

/-- A ring that has just had a record. -/
def recordedRing (r : Ring) : Ring := { r with prod := r.prod + 1, wbDue := r.wbDue || r.wben, dropFlag := false }

/-- A ring that has just dropped a record. -/
def droppedRing (r : Ring) : Ring := { r with drops := r.drops + 1, dropFlag := true }

/-- A record that its ring takes is posted to the ring's next place, with DROP where one was dropped before it. -/
theorem writeRecord_of_room {s : State} {q : RingId} (o : Occ) (h : s.ringTakes q false 16 = true) :
    writeRecord q o s = post ((s.ring q false).slotAddr 16 (s.ring q false).prod)
      (eventRecord o (s.ring q false).dropFlag) (s.setRing q false (recordedRing (s.ring q false))) := by
  simp [writeRecord, h, writeEntry, State.modRing, recordedRing]

/-- A record that its ring does not take is dropped there. -/
theorem writeRecord_of_full {s : State} {q : RingId} (o : Occ) (h : s.ringTakes q false 16 = false) :
    writeRecord q o s = s.setRing q false (droppedRing (s.ring q false)) := by
  simp [writeRecord, h, dropEntry, State.modRing, droppedRing]

theorem flushFlr_of_none {s : State} (h : s.hb.flrHeld = none) : flushFlr s = s := by simp [flushFlr, h]

/-! ### Writebacks -/

theorem writeBack_of_not_due {s : State} {q : RingId} {rx : Bool} (h : (s.ring q rx).wbDue = false) :
    writeBack q rx s = s := by simp [writeBack, h]

/-- A writeback of a device-to-host ring carries PROD and DROPS. -/
theorem writeBack_of_due {s : State} {q : RingId} (hq : hostToDevice q false = false)
    (h : (s.ring q false).en = true ∧ (s.ring q false).wben = true ∧ (s.ring q false).wbDue = true) :
    writeBack q false s = post (s.ring q false).wb.toNat
      (leOctets 4 ((s.ring q false).prod.toNat + (s.ring q false).drops.toNat * 65536))
      (s.setRing q false { s.ring q false with wbDue := false }) := by
  obtain ⟨hen, hwben, hdue⟩ := h
  simp [writeBack, hq, hen, hwben, hdue]

/-! ### Vectors -/

/-- The end of a hold-off of `hold` us that begins at `now`. -/
def holdEnd (now hold : Nat) : Option Nat := if hold = 0 then none else some (now + hold * 4096000)

/-- A vector whose message has left at `now`, a hold-off of `hold` us following it. -/
def sentVec (x : Vec) (now hold : Nat) : Vec := { x with pba := false, trig := false, holdTo := holdEnd now hold }

/-- Neither mask stands: the message leaves. -/
theorem sendMsi_of_unmasked {s : State} {v : VecId} (h : (s.vec v).mask = false) (hf : s.hb.cfg.mask = false) :
    sendMsi v s = post (s.vec v).addr.toNat (leOctets 4 (s.vec v).data.toNat)
      (s.setVec v (sentVec (s.vec v) s.clock (s.hb.vecHold.get v).toNat)) := by
  simp [sendMsi, h, hf, sentVec, holdEnd]

/-- A mask stands: the pending bit is set. -/
theorem sendMsi_of_masked {s : State} {v : VecId} (h : (s.vec v).mask = true ∨ s.hb.cfg.mask = true) :
    sendMsi v s = s.setVec v { s.vec v with pba := true } := by
  rcases h with h | h <;> simp [sendMsi, h]

/-- Whether a hold-off runs is a matter of its end and of the clock. -/
theorem held_congr {s t : State} {v : VecId} (hc : t.clock = s.clock) (hh : (t.vec v).holdTo = (s.vec v).holdTo) :
    t.held v = s.held v := by
  rw [State.held, State.held, hc, hh]

@[simp] theorem post_held (a : Nat) (bs : Octets) (s : State) (v : VecId) : (post a bs s).held v = s.held v := rfl

@[simp] theorem setRing_held (s : State) (q : RingId) (rx : Bool) (x : Ring) (v : VecId) :
    (s.setRing q rx x).held v = s.held v := held_congr (by simp) (by simp)

@[simp] theorem setVec_held_mask (s : State) (v : VecId) (b : Bool) :
    (s.setVec v { s.vec v with mask := b }).held v = s.held v := held_congr (by simp) (by simp)

theorem signal_of_held {s : State} {v : VecId} (h : s.held v = true) :
    signal v s = s.setVec v { s.vec v with trig := true } := if_pos h

theorem signal_of_not_held {s : State} {v : VecId} (h : s.held v = false) : signal v s = sendMsi v s := by
  simp [signal, h]

theorem held_of_expired {s : State} {v : VecId} {t : Nat} (h : (s.vec v).holdTo = some t) (ht : t ≤ s.clock) :
    s.held v = false := by simp [State.held, h, ht]

/-! ### The end of a hold-off, and an unmask (R374) -/

theorem exec_holdoffExpiry {s : State} {v : VecId} {t : Nat} (hup : s.pcieUp = true)
    (h : (s.vec v).holdTo = some t) (ht : t ≤ s.clock) :
    exec (.holdoffExpiry v) s = .next (
      let s1 := s.setVec v { s.vec v with holdTo := none, trig := false }
      if (s.vec v).trig then sendMsi v s1 else s1) := by
  show execHoldoffExpiry v s = _
  simp [execHoldoffExpiry, hup, h, held_of_expired h ht]

/-- A hold-off that runs, or none. -/
theorem exec_holdoffExpiry_of_running {s : State} {v : VecId}
    (h : (s.vec v).holdTo.all (fun t => decide (s.clock < t)) = true) : exec (.holdoffExpiry v) s = .next s := by
  show execHoldoffExpiry v s = _
  cases ht : (s.vec v).holdTo with
  | none => simp [execHoldoffExpiry, ht]
  | some t =>
    have hlt : s.clock < t := by simpa [ht] using h
    simp [execHoldoffExpiry, State.held, ht, hlt]

theorem exec_vectorUnmask {s : State} {v : VecId} (h : s.hostReach = true) :
    exec (.vectorUnmask v) s = .next (sendPending v (s.setVec v { s.vec v with mask := false })) :=
  congrArg _ (byHost_of_reach h _)

/-- Nothing waits, or the function's mask stands. -/
theorem sendPending_of_idle {s : State} {v : VecId} (h : (s.vec v).pba = false ∨ s.hb.cfg.mask = true) :
    sendPending v s = s := by
  rcases h with h | h <;> simp [sendPending, h]

section
variable {s : State} {v : VecId} (hp : (s.vec v).pba = true) (hm : (s.vec v).mask = false)
  (hf : s.hb.cfg.mask = false)
include hp hm hf

theorem sendPending_of_free (h : s.held v = false) : sendPending v s = sendMsi v s := by
  simp [sendPending, hp, hm, hf, h]

/-- In a hold-off the message is combined into the one at its end. -/
theorem sendPending_of_held (h : s.held v = true) :
    sendPending v s = s.setVec v { s.vec v with pba := false, trig := true } := by
  simp [sendPending, hp, hm, hf, h]

end

end Sys2Proof.Proofs
end

section
/-! An occurrence's way through Handlebar: its status bit, the OVERRUN its spoke owes, its record, the writeback and the
message (R47, R371); and a write of 1s to EV_STAT (R11). -/

namespace Sys2Proof.Proofs

open Sys2Proof.Machine Sys2Proof.Laws

/-! ### Arrival -/

/-- The state once an occurrence has left its channel and set its status bit. -/
def arrived (e : EventId) (o : Occ) (s : State) : State :=
  { s with occs := s.occs.erase o, hb := { s.hb with evStat := s.hb.evStat ||| (1#256 <<< e.val) } }

section
variable (e : EventId) (o : Occ) (s : State)

@[simp] theorem arrived_occs : (arrived e o s).occs = s.occs.erase o := rfl
@[simp] theorem arrived_evStat : (arrived e o s).hb.evStat = s.hb.evStat ||| (1#256 <<< e.val) := rfl
@[simp] theorem arrived_clock : (arrived e o s).clock = s.clock := rfl
@[simp] theorem arrived_posted : (arrived e o s).posted = s.posted := rfl
@[simp] theorem arrived_cfg : (arrived e o s).hb.cfg = s.hb.cfg := rfl
@[simp] theorem arrived_vecHold : (arrived e o s).hb.vecHold = s.hb.vecHold := rfl
@[simp] theorem arrived_flrHeld : (arrived e o s).hb.flrHeld = s.hb.flrHeld := rfl
@[simp] theorem arrived_evOwed : (arrived e o s).evOwed = s.evOwed := rfl
@[simp] theorem arrived_ring (q : RingId) (rx : Bool) : (arrived e o s).ring q rx = s.ring q rx := rfl
@[simp] theorem arrived_vec (v : VecId) : (arrived e o s).vec v = s.vec v := rfl
@[simp] theorem arrived_held (v : VecId) : (arrived e o s).held v = s.held v := rfl
@[simp] theorem arrived_ringTakes (q : RingId) (rx : Bool) (n : Nat) :
    (arrived e o s).ringTakes q rx n = s.ringTakes q rx n := rfl

end

/-- `o` of source `e` stands at the head of its channel. -/
abbrev atHead (s : State) (e : EventId) (o : Occ) : Prop :=
  s.occs.find? (fun o => evChannel o.src.val == evChannel e.val) = some o ∧ o.src = e

section
variable {s : State} {e : EventId} {o : Occ}

/-- The occurrence at the head of its channel: arrival, the OVERRUN owed, the record where REC is 1, the message where
SIG is 1. -/
theorem exec_eventOccurrence (hup : s.pcieUp = true) (ho : atHead s e o) :
    exec (.eventOccurrence e) s = .next (
      let cfg := s.evCfg e o.dt
      let s1 := payOverrun (evChannel e.val) (arrived e o s)
      let s2 := if cfg.getLsbD 10 then writeRecord (evRing cfg) o (flushFlr s1) else s1
      if cfg.getLsbD 7 then signal (Fin.ofNat 128 (cfg.toNat % 128)) (writeBack (evRing cfg) false s2) else s2) := by
  obtain ⟨hfind, rfl⟩ := ho
  show execEventOccurrence o.src s = _
  simp [execEventOccurrence, hfind, hup, arrived]

/-- A command that names another source than the head's does nothing. -/
theorem exec_eventOccurrence_of_other
    (h : (s.occs.find? fun o => evChannel o.src.val == evChannel e.val).all (fun o => o.src != e) = true) :
    exec (.eventOccurrence e) s = .next s := by
  show execEventOccurrence e s = _
  unfold execEventOccurrence
  split
  · next o ho =>
    have hsrc : (o.src != e) = true := by simpa [ho] using h
    simp [hsrc]
  · rfl

theorem payOverrun_of_paid {ch : Nat} (h : s.evOwed.get (Fin.ofNat 88 ch) = none) : payOverrun ch s = s := by
  simp only [payOverrun, h]

/-! ### With REC and SIG as they are -/

section
variable (hup : s.pcieUp = true) (ho : atHead s e o)
  (hpaid : s.evOwed.get (Fin.ofNat 88 (evChannel e.val)) = none)
include hup ho hpaid

theorem eventOccurrence_silent (hc : (s.evCfg e o.dt).getLsbD 10 = false ∧ (s.evCfg e o.dt).getLsbD 7 = false) :
    exec (.eventOccurrence e) s = .next (arrived e o s) := by
  rw [exec_eventOccurrence hup ho, payOverrun_of_paid (s := arrived e o s) hpaid]
  simp only [hc, Bool.false_eq_true, if_false]

theorem eventOccurrence_recorded
    (hc : (s.evCfg e o.dt).getLsbD 10 = true ∧ (s.evCfg e o.dt).getLsbD 7 = false) (hflr : s.hb.flrHeld = none) :
    exec (.eventOccurrence e) s = .next (writeRecord (evRing (s.evCfg e o.dt)) o (arrived e o s)) := by
  rw [exec_eventOccurrence hup ho, payOverrun_of_paid (s := arrived e o s) hpaid]
  simp only [hc, flushFlr_of_none (s := arrived e o s) hflr, Bool.false_eq_true, if_false, if_true]

theorem eventOccurrence_signalled {v : VecId}
    (hc : (s.evCfg e o.dt).getLsbD 10 = false ∧ (s.evCfg e o.dt).getLsbD 7 = true)
    (hv : v = Fin.ofNat 128 ((s.evCfg e o.dt).toNat % 128) ∧ (s.ring (evRing (s.evCfg e o.dt)) false).wbDue = false) :
    exec (.eventOccurrence e) s = .next (signal v (arrived e o s)) := by
  obtain ⟨rfl, hdue⟩ := hv
  rw [exec_eventOccurrence hup ho, payOverrun_of_paid (s := arrived e o s) hpaid]
  simp only [hc, Bool.false_eq_true, if_false, if_true, writeBack_of_not_due (s := arrived e o s) hdue]

theorem eventOccurrence_recorded_signalled {v : VecId}
    (hc : (s.evCfg e o.dt).getLsbD 10 = true ∧ (s.evCfg e o.dt).getLsbD 7 = true) (hflr : s.hb.flrHeld = none)
    (hv : v = Fin.ofNat 128 ((s.evCfg e o.dt).toNat % 128)) :
    exec (.eventOccurrence e) s = .next (signal v
      (writeBack (evRing (s.evCfg e o.dt)) false (writeRecord (evRing (s.evCfg e o.dt)) o (arrived e o s)))) := by
  rw [exec_eventOccurrence hup ho, payOverrun_of_paid (s := arrived e o s) hpaid]
  simp only [hc, flushFlr_of_none (s := arrived e o s) hflr, if_true, hv]

end

/-! ### OVERRUN (R47) -/

/-- Once the head has left a channel of at most 16 occurrences, the channel has room. -/
theorem arrived_has_room (ho : atHead s e o)
    (hlen : (s.occs.filter fun x => evChannel x.src.val == evChannel e.val).length ≤ 16) :
    ((s.occs.erase o).filter fun x => evChannel x.src.val == evChannel e.val).length < 16 := by
  have hmem : o ∈ s.occs := List.mem_of_find?_eq_some ho.1
  have hpos : 0 < (s.occs.filter fun x => evChannel x.src.val == evChannel e.val).length :=
    List.length_pos_of_mem (List.mem_filter.2 ⟨hmem, by simp [ho.2]⟩)
  rw [← List.countP_eq_length_filter] at hlen hpos ⊢
  rw [List.countP_erase, if_pos ⟨hmem, by simp [ho.2]⟩]
  omega

/-- A channel with room takes the occurrence raised. -/
theorem raise_of_room {n c d a : Nat} {dt : DT} (h : s.evFull (Fin.ofNat 256 n).val = false) :
    (raise n c d a dt s).occs = s.occs ++ [⟨Fin.ofNat 256 n, causeWord c d a, dt, false⟩] ∧
      (raise n c d a dt s).evOwed = s.evOwed := by
  simp only [raise, raiseAs, h, Bool.false_eq_true, if_false, and_self]

/-- E(2s + 1), the source of a spoke's OVERRUN, reports by the spoke's channel. -/
theorem evChannel_overrun {i : Nat} (h : i < 64) : evChannel (Fin.ofNat 256 (2 * i + 1)).val = i := by
  have hsrc : (Fin.ofNat 256 (2 * i + 1)).val = 2 * i + 1 := Nat.mod_eq_of_lt (by omega)
  rw [hsrc, evChannel, if_pos (by omega)]
  omega

/-- The state in which unit `ch` owes no OVERRUN any more. -/
def oweNothing (ch : Nat) (s : State) : State :=
  { s with evOwed := s.evOwed.set (Fin.ofNat 88 ch).val none (Fin.ofNat 88 ch).isLt }

theorem payOverrun_of_owed {ch : Nat} {d : DT} (h : s.evOwed.get (Fin.ofNat 88 ch) = some d) :
    payOverrun ch s = raise (2 * ch + 1) 4 0 0 d (oweNothing ch s) := by
  simp only [payOverrun, h, oweNothing]

/-- A spoke's channel with room: nothing stays owed, and OVERRUN stands last of the occurrences where it was owed. -/
theorem payOverrun_of_room {i : Nat} (hi : i < 64)
    (hroom : (s.occs.filter fun x => evChannel x.src.val == i).length < 16) :
    (payOverrun i s).hb = s.hb ∧ (payOverrun i s).evOwed.get (Fin.ofNat 88 i) = none ∧
      (payOverrun i s).occs = s.occs ++ ((s.evOwed.get (Fin.ofNat 88 i)).map fun d =>
        (⟨Fin.ofNat 256 (2 * i + 1), causeWord 4 0 0, d, false⟩ : Occ)).toList := by
  cases hd : s.evOwed.get (Fin.ofNat 88 i) with
  | none => simp only [payOverrun_of_paid hd, hd, Option.map_none, Option.toList_none, List.append_nil, and_self]
  | some d =>
    have hfull : (oweNothing i s).evFull (Fin.ofNat 256 (2 * i + 1)).val = false := by
      simp only [State.evFull, evChannel_overrun hi, oweNothing]
      simp [Nat.not_le.2 hroom]
    obtain ⟨hoccs, howed⟩ := raise_of_room (c := 4) (d := 0) (a := 0) (dt := d) hfull
    rw [payOverrun_of_owed hd, hoccs, howed]
    exact ⟨raise_hb _ _ _ _ _ _, get_set _ _ _, rfl⟩

end

/-! ### Status bits (R11) -/

theorem exec_eventStatusClear {s : State} {n : Fin 8} {m a : Word} (h : s.hostReach = true) :
    exec (.eventStatusClear n m a) s = .next { s with hb := { s.hb with
      evStat := (s.hb.evStat &&& ~~~(m.setWidth 256 <<< (32 * n.val))) |||
        ((m &&& a).setWidth 256 <<< (32 * n.val)) } } :=
  congrArg Host.Outcome.next (byHost_of_reach h _)

/-- A word of mask bits moved to its place among the 256 status bits. -/
theorem getLsbD_placed (m : Word) (n : Fin 8) (k : EventId) :
    (m.setWidth 256 <<< (32 * n.val)).getLsbD k.val = (k.val / 32 == n.val && m.getLsbD (k.val % 32)) := by
  have hk := k.isLt
  by_cases h : k.val / 32 = n.val
  · have hlt : ¬ k.val < 32 * n.val := by omega
    have hsub : k.val - 32 * n.val = k.val % 32 := by omega
    simp [h, hlt, hsub, hk]
  · rcases Nat.lt_or_ge k.val (32 * n.val) with hlt | hge
    · simp [h, hlt]
    · have hhigh : m.getLsbD (k.val - 32 * n.val) = false := BitVec.getLsbD_of_ge _ _ (by omega)
      simp [h, hhigh]

/-- The bits a write of 1s names are cleared, and those set in the same cycle read 1. -/
theorem getLsbD_statusClear (x : BitVec 256) (n : Fin 8) (m a : Word) (k : EventId) :
    ((x &&& ~~~(m.setWidth 256 <<< (32 * n.val))) ||| ((m &&& a).setWidth 256 <<< (32 * n.val))).getLsbD k.val =
      (x.getLsbD k.val && !(k.val / 32 == n.val && m.getLsbD (k.val % 32) && !a.getLsbD (k.val % 32)) ||
        (k.val / 32 == n.val && m.getLsbD (k.val % 32) && a.getLsbD (k.val % 32))) := by
  rw [BitVec.getLsbD_or, BitVec.getLsbD_and, BitVec.getLsbD_not, getLsbD_placed, getLsbD_placed, BitVec.getLsbD_and]
  cases (k.val / 32 == n.val) <;> cases m.getLsbD (k.val % 32) <;> cases a.getLsbD (k.val % 32) <;> simp

/-! ### Every clause -/

/-- Settles O53: an occurrence by REC and SIG and what its ring and its vector then do, and each way a waiting vector is
let go. -/
theorem eventsAndMsixComplete : Obligations.EventsAndMsixComplete := by
  unfold Obligations.EventsAndMsixComplete
  refine ⟨?silent, ?overrun, ?recorded, ?dropped, ?sent, ?masked, ?held, ?covered, ?other, ?holdoffIdle, ?holdoffSent,
    ?holdoffMasked, ?holdoffRuns, ?unmaskIdle, ?unmaskSent, ?unmaskHeld, ?statusClear⟩
  case silent =>
    intro s e o hup ho hpaid hc
    exact eventOccurrence_silent hup ho hpaid hc
  case overrun =>
    intro s e o hup ho ⟨he, hlen⟩ hc
    have hch : evChannel e.val = e.val / 2 := if_pos he
    have hroom := arrived_has_room ho hlen
    rw [hch] at hroom
    obtain ⟨hhb, howed, hoccs⟩ := payOverrun_of_room (s := arrived e o s) (i := e.val / 2) (by omega) hroom
    refine ⟨payOverrun (e.val / 2) (arrived e o s), ?_, by rw [hhb]; rfl, howed, hoccs⟩
    rw [exec_eventOccurrence hup ho, hch]
    simp only [hc, Bool.false_eq_true, if_false]
  case recorded =>
    intro s e o q hup ho hpaid ⟨hrec, hsig, hq⟩ hflr hroom
    subst hq
    refine ⟨_, eventOccurrence_recorded hup ho hpaid ⟨hrec, hsig⟩ hflr, ?_⟩
    rw [writeRecord_of_room o (by simpa using hroom)]
    simp [recordedRing]
  case dropped =>
    intro s e o q hup ho hpaid ⟨hrec, hsig, hq⟩ hflr hfull
    subst hq
    refine ⟨_, eventOccurrence_recorded hup ho hpaid ⟨hrec, hsig⟩ hflr, ?_⟩
    rw [writeRecord_of_full o (by simpa using hfull)]
    simp [droppedRing]
  case sent =>
    intro s e o v hup ho hpaid hc hv ⟨hheld, hmask, hfmask⟩
    refine ⟨_, eventOccurrence_signalled hup ho hpaid hc hv, ?_⟩
    rw [signal_of_not_held (by simpa using hheld), sendMsi_of_unmasked (by simpa using hmask) (by simpa using hfmask)]
    simp [sentVec]
    rfl
  case masked =>
    intro s e o v hup ho hpaid hc hv ⟨hheld, hmask⟩
    refine ⟨_, eventOccurrence_signalled hup ho hpaid hc hv, ?_⟩
    rw [signal_of_not_held (by simpa using hheld), sendMsi_of_masked (by simpa using hmask)]
    simp
  case held =>
    intro s e o v hup ho hpaid hc hv hheld
    refine ⟨_, eventOccurrence_signalled hup ho hpaid hc hv, ?_⟩
    rw [signal_of_held (by simpa using hheld)]
    simp
  case covered =>
    intro s e o q v hup ho hpaid ⟨hrec, hsig, hq⟩ hflr ⟨hroom, hwben⟩ hv ⟨hheld, hmask, hfmask⟩
    subst hq
    refine ⟨_, eventOccurrence_recorded_signalled hup ho hpaid ⟨hrec, hsig⟩ hflr hv, ?_⟩
    rw [writeRecord_of_room o (by simpa using hroom),
      writeBack_of_due (by simp) (by simp [recordedRing, en_of_ringTakes hroom, hwben]),
      signal_of_not_held (by simpa using hheld),
      sendMsi_of_unmasked (by simpa using hmask) (by simpa using hfmask)]
    simp [recordedRing]
  case other =>
    intro s e h
    exact exec_eventOccurrence_of_other h
  case holdoffIdle =>
    intro s v t hup ⟨ht, hle⟩ htrig
    rw [exec_holdoffExpiry hup ht hle]
    simp [htrig]
  case holdoffSent =>
    intro s v t hup ⟨ht, hle⟩ ⟨htrig, hmask, hfmask⟩
    refine ⟨_, exec_holdoffExpiry hup ht hle, ?_⟩
    simp only [htrig, if_true]
    rw [sendMsi_of_unmasked (by simpa using hmask) (by simpa using hfmask)]
    simp [sentVec]
    rfl
  case holdoffMasked =>
    intro s v t hup ⟨ht, hle⟩ ⟨htrig, hmask⟩
    rw [exec_holdoffExpiry hup ht hle]
    simp only [htrig, if_true]
    rw [sendMsi_of_masked (by simpa using hmask)]
    simp
  case holdoffRuns =>
    intro s v h
    exact exec_holdoffExpiry_of_running h
  case unmaskIdle =>
    intro s v hreach h
    rw [exec_vectorUnmask hreach, sendPending_of_idle]
    simpa using h
  case unmaskSent =>
    intro s v hreach ⟨hpba, hfmask⟩ hheld
    refine ⟨_, exec_vectorUnmask hreach, ?_⟩
    rw [sendPending_of_free (by simpa using hpba) (by simp) (by simpa using hfmask) (by simpa using hheld),
      sendMsi_of_unmasked (by simp) (by simpa using hfmask)]
    simp [sentVec]
  case unmaskHeld =>
    intro s v hreach ⟨hpba, hfmask⟩ hheld
    rw [exec_vectorUnmask hreach,
      sendPending_of_held (by simpa using hpba) (by simp) (by simpa using hfmask) (by simpa using hheld)]
    simp
  case statusClear =>
    intro s n m a hreach
    exact ⟨_, exec_eventStatusClear hreach, rfl, getLsbD_statusClear s.hb.evStat n m a⟩

end Sys2Proof.Proofs
end

section
/-! What no command changes (O8): the shapes that commands' meanings share, and what each keeps. -/

namespace Sys2Proof.Proofs

open Sys2Proof.Machine Sys2Proof.Laws

/-- Whatever next state an outcome holds stands, outside the parts of `q`, as `s` does. -/
def KeepsOutside (q : Parts) (s : State) (o : Out) : Prop := ∀ t, o = .next t → t.outside q = s.outside q

/-- A command changes no part of the state outside those `mayChange` lists for it. -/
def Framed (i : Instr) : Prop := ∀ s, KeepsOutside (mayChange i) s (exec i s)

section
variable {q : Parts} {s : State}

@[simp] theorem keepsOutside_next {t : State} : KeepsOutside q s (.next t) ↔ t.outside q = s.outside q := by
  simp [KeepsOutside]

@[simp] theorem keepsOutside_fault {r : Fault} : KeepsOutside q s (.fault r) := by simp [KeepsOutside]

/-- What a law says of the state after a command says it of the command's outcome. -/
theorem keepsOutside_of_after {f : State → Out} (h : (after f s).outside q = s.outside q) : KeepsOutside q s (f s) := by
  intro t ht
  simpa [after, ht] using h

/-! ### Pacer's instructions and ring commands -/

section
variable {p : ThreadId} (ho : q.occs = true) (hp : q.pacer = true) (hl : q.latch = true)
include ho hp hl

theorem keepsOutside_issueOp {op : Nat} {ok : BitVec 64 → Bool} {f : BitVec 64 → State → State}
    (hf : ∀ w, (f w s).outside q = s.outside q) : KeepsOutside q s (issueOp p op ok f s) := by
  simp [issueOp, outside_ite, hf, ho, hp, hl]

theorem keepsOutside_issueE {op : Nat} {ok : BitVec 64 → Bool} {f : SpokeId → DT → BitVec 64 → State → State}
    (hf : ∀ i d w, (f i d w s).outside q = s.outside q) : KeepsOutside q s (issueE p op ok f s) :=
  keepsOutside_issueOp ho hp hl fun w => by simp [outside_ite, hf, ho, hp, hl]

theorem keepsOutside_takeCmd {mine : Nat → Bool} {f : Octets → State → State}
    (hf : ∀ b t, (f b t).outside q = t.outside q) : KeepsOutside q s (takeCmd p mine f s) := by
  unfold takeCmd
  split <;> simp [outside_ite, hf, ho, hp, hl]

/-- A try of an issue changes, besides what every instruction may, what the message changes where it is placed. -/
theorem outside_tryIssue_of {m : Issue} (he : ∀ t, (enter p m t).outside q = t.outside q) (t : State) :
    (tryIssue p m t).outside q = t.outside q := by
  simp [tryIssue, outside_ite, he, ho, hp, hl]

theorem outside_startIssue_of {m : Issue} (he : ∀ t, (enter p m t).outside q = t.outside q) :
    (startIssue p m s).outside q = s.outside q := by
  rw [startIssue, outside_startWait _ _ _ (outside_tryIssue_of ho hp hl he) ho hp hl]

end

/-- Taking a target ends its thread's instruction and takes it off the axis. -/
theorem outside_takeTarget {p : ThreadId} {a : AxisId} {td : Fin 8} {t : State} (hp : q.pacer = true) (hc : q.crank = true)
    (h : takeTarget p a td s = some t) : t.outside q = s.outside q := by
  cases hg : (s.axis a).tgts.find? (fun g => g.thread == p) with
  | none =>
    simp only [takeTarget, hg, Option.some.injEq] at h
    rw [← h, outside_complete _ _ _ hp]
  | some g =>
    cases hst : g.st with
    | time d =>
      simp only [takeTarget, hg, hst, Option.some.injEq] at h
      rw [← h, outside_complete _ _ _ hp, outside_State_modAxis _ _ _ hc]
    | noTime =>
      simp only [takeTarget, hg, hst, Option.some.injEq] at h
      rw [← h, outside_complete _ _ _ hp, outside_State_modAxis _ _ _ hc]
    | posted | waiting _ | solving _ _ _ => simp [takeTarget, hg, hst] at h

@[simp] theorem outside_placeMail {p : ThreadId} {m : MailEnt} (t : State) (ho : q.occs = true) (hp : q.pacer = true)
    (hl : q.latch = true) : (placeMail p m t).1.outside q = t.outside q := by
  simp only [placeMail]
  split <;> simp [ho, hp, hl]

/-! ### Ring cells -/

/-- A cell received by a module in a state that stands as `s` does. -/
theorem keepsOutside_receive {s0 : State} {ty : Nat} {r : RingDir} {b : Octets} {f : State → State} (ho : q.occs = true)
    (hs : q.stoker = true) (hl : q.latch = true) (hp : q.pair = true) (hf : ∀ t, (f t).outside q = t.outside q)
    (h0 : s0.outside q = s.outside q) : KeepsOutside q s (receive ty r b f s0) := by
  simp [receive, outside_ite, hf, ho, hs, hl, hp, h0]

/-! ### A port's swap -/

/-- The copies of a port's island, at the return of its clock, change nothing but the island and its port. -/
theorem outside_ungateCopies_port (c : PortId) (hi : q.isl = true) (ho : q.occs = true) (hp : q.ports = true)
    (hl : q.latch = true) : (ungateCopies (islPort c) s).outside q = s.outside q := by
  have hswap (d : DT) (t : State) : (swapIsland d (islPort c) t).outside q = t.outside q := by
    have h1 : ¬ 64 + c.val < 64 := by omega
    have h2 : 64 + c.val < 72 := by omega
    have h3 : ¬ 73 ≤ 64 + c.val := by omega
    simp [swapIsland, islPort, h1, h2, h3, hi, ho, hp, hl, outside_ite]
  simp [ungateCopies, swapConfirmed, hswap, outside_ite, hi]

/-! ### Freewheel's correction -/

@[simp] theorem outside_correctFrame (f : Frame) (d : DT) (ho : q.occs = true) (hl : q.latch = true) (hf : q.fw = true) :
    (correctFrame f d s).2.outside q = s.outside q := by
  simp [correctFrame, outside_ite, apply_ite Prod.snd, ho, hl, hf]

end

end Sys2Proof.Proofs
end

section
/-! What no command changes (O8): issues, and the commands that update several parts at once. -/
namespace Sys2Proof.Proofs

open Sys2Proof.Machine Sys2Proof.Laws

-- The proofs here are the first to unfold `exec`, of 297 cases. They run in turn: each that waited for its equations
-- would hold a thread, and with it the memory of a stack.
set_option Elab.async false

/-! ### Issues to spokes, engines and the rest -/

section
variable {q : Parts} {p : ThreadId} (ho : q.occs = true) (hp : q.pacer = true) (hl : q.latch = true)
include ho hp hl

theorem outside_startIssue_spoke (h : q.spokes = true) (i : SpokeId) (raw : BitVec 128) (ta : DT) (s : State) :
    (startIssue p (.desc i raw ta) s).outside q = s.outside q ∧
      (startIssue p (.anchor i ta) s).outside q = s.outside q ∧
      (startIssue p (.cancel i ta) s).outside q = s.outside q := by
  and_intros <;> exact outside_startIssue_of ho hp hl fun t => by simp [enter, ho, hp, hl, h]

theorem outside_startIssue_engine (h : q.engines = true) (v : EngineId) (n : BitVec 10) (r : Word) (ta : DT) (s : State) :
    (startIssue p (.vstart v n ta) s).outside q = s.outside q ∧ (startIssue p (.vjump v n) s).outside q = s.outside q ∧
      (startIssue p (.vrate v r ta) s).outside q = s.outside q ∧
      (startIssue p (.vstop v ta) s).outside q = s.outside q := by
  and_intros <;> exact outside_startIssue_of ho hp hl fun t => by simp [enter, h]

theorem outside_startIssue_trig (hc : q.ports = true) (hs : q.stoker = true) (hq : q.pair = true) (dest : BitVec 16)
    (ta : DT) (x : Word) (s : State) : (startIssue p (.trig dest ta x) s).outside q = s.outside q :=
  outside_startIssue_of ho hp hl fun t => by
    simp only [enter, enterTrig]
    split <;> simp [ho, hp, hl, hc, hs, hq]

end

/-- Pacer's instructions that send to a spoke. -/
theorem framed_spokeIssues (p : ThreadId) :
    Framed (.pulse p) ∧ Framed (.level p) ∧ Framed (.emit p) ∧ Framed (.anchor p) ∧ Framed (.cancel p) := by
  have h (cmd : Instr) (e : mayChange cmd = mayChange (.pulse p)) (i : SpokeId) (raw : BitVec 128) (ta : DT) (s : State) :=
    outside_startIssue_spoke (q := mayChange cmd) (p := p) (by rw [e]; rfl) (by rw [e]; rfl) (by rw [e]; rfl) (by rw [e]; rfl)
      i raw ta s
  and_intros <;> intro s
  all_goals simp only [exec, execPulse, execLevel, execEmit, execAnchor, execCancel]
  all_goals refine keepsOutside_issueE (by rfl) (by rfl) (by rfl) fun i d w => ?_
  · exact (h (.pulse p) rfl i _ d s).1
  · exact (h (.level p) rfl i _ d s).1
  · exact outside_secondSlot _ _ _ fun t => by
      simp [outside_ite, (h (.emit p) rfl i _ d t).1]; simp [mayChange]
  · exact (h (.anchor p) rfl i 0 d s).2.1
  · exact (h (.cancel p) rfl i 0 d s).2.2

/-- Pacer's instructions that send to an engine, the ways of a trigger or the commit unit. -/
theorem framed_issues (p : ThreadId) :
    Framed (.vstart p) ∧ Framed (.vjump p) ∧ Framed (.vrate p) ∧ Framed (.vstop p) ∧ Framed (.trig p) ∧
      Framed (.commit p) := by
  have h (cmd : Instr) (e : mayChange cmd = mayChange (.vstart p)) (v : EngineId) (n : BitVec 10) (r : Word) (ta : DT)
      (s : State) :=
    outside_startIssue_engine (q := mayChange cmd) (p := p) (by rw [e]; rfl) (by rw [e]; rfl) (by rw [e]; rfl)
      (by rw [e]; rfl) v n r ta s
  and_intros <;> intro s
  all_goals simp only [exec, execVstart, execVjump, execVrate, execVstop, execTrig, execCommit]
  all_goals refine keepsOutside_issueOp (by rfl) (by rfl) (by rfl) fun w => ?_
  · simp [outside_ite, (h (.vstart p) rfl _ _ 0 _ s).1]; simp [mayChange]
  · simp [outside_ite, (h (.vjump p) rfl _ _ 0 0 s).2.1]; simp [mayChange]
  · simp [outside_ite, (h (.vrate p) rfl _ 0 _ _ s).2.2.1]; simp [mayChange]
  · exact (h (.vstop p) rfl _ 0 0 _ s).2.2.2
  · exact outside_startIssue_trig rfl rfl rfl rfl rfl rfl _ _ _ s
  · simp [mayChange, outside_ite]

/-- The take of a target's answer. -/
theorem framed_takes (p : ThreadId) : Framed (.ktake p) ∧ Framed (.ktakeRelease p) := by
  refine ⟨fun s => ?_, fun s => ?_⟩
  · simp only [exec, execKtake]
    refine keepsOutside_issueOp (by rfl) (by rfl) (by rfl) fun w => outside_startWait _ _ _ (fun t => ?_) rfl rfl rfl
    cases hk : takeTarget p (Fin.ofNat 8 (iField w 40 3)) (Fin.ofNat 8 (fD w)) t with
    | none => simp [hk, mayChange]
    | some t1 => simpa only [hk] using outside_takeTarget (q := mayChange (.ktake p)) rfl rfl hk
  · simp only [exec, execKtakeRelease, keepsOutside_next, outside_ite]
    split
    · split
      · next a td _ =>
        cases hk : takeTarget p a td s with
        | none => rfl
        | some t1 => exact outside_takeTarget (q := mayChange (.ktakeRelease p)) rfl rfl hk
      · rfl
    · rfl

/-! ### Commands that update several parts at once -/

theorem outside_with_commit_stoker {q : Parts} (s : State) (x : CommitUnit) (y : Stoker) (hc : q.commit = true)
    (hs : q.stoker = true) : ({ s with commit := x, stoker := y } : State).outside q = s.outside q := by
  simp [State.outside, hc, hs]

theorem outside_with_spokes_pacer {q : Parts} (s : State) (x : Vector Spoke 64) (y : Pacer) (hs : q.spokes = true)
    (hp : q.pacer = true) : ({ s with spokes := x, pacer := y } : State).outside q = s.outside q := by
  simp [State.outside, hs, hp]

theorem outside_with_pair_dyn {q : Parts} (s : State) (x : Pair) (y : Dynamo) (hp : q.pair = true)
    (hd : q.dyn = true) : ({ s with pair := x, dyn := y } : State).outside q = s.outside q := by
  simp [State.outside, hp, hd]

theorem outside_with_flash_hb {q : Parts} (s : State) (x : List (Nat × BitVec 8)) (y : Handlebar) (hf : q.flash = true)
    (hh : q.hb = true) (he : y.fuse = s.hb.fuse) : ({ s with flash := x, hb := y } : State).outside q = s.outside q := by
  simp [State.outside, hf, hh, he]

theorem outside_with_occs_hb {q : Parts} (s : State) (x : List Occ) (y : Handlebar) (ho : q.occs = true)
    (hh : q.hb = true) (he : y.fuse = s.hb.fuse) : ({ s with occs := x, hb := y } : State).outside q = s.outside q := by
  simp [State.outside, ho, hh, he]

/-- What the closing of the gates updates at once. -/
theorem outside_with_gatesShut {q : Parts} (s : State) (hub : Hub) (ports : Vector Port 8) (pair : Pair) (stoker : Stoker)
    (hb : Handlebar) (dyn : Dynamo) (h1 : q.hub = true) (h2 : q.ports = true) (h3 : q.pair = true) (h4 : q.stoker = true)
    (h5 : q.hb = true) (h6 : q.dyn = true) (he : hb.fuse = s.hb.fuse) :
    ({ s with hub := hub, ports := ports, pair := pair, stoker := stoker, hb := hb, dyn := dyn } : State).outside q =
      s.outside q := by
  simp [State.outside, h1, h2, h3, h4, h5, h6, he]

theorem framed_armed (i : IslandId) : Framed (.armed i) := by
  intro s
  simp only [exec, execArmed, keepsOutside_next]
  have hq : (mayChange (.armed i)).commit = true ∧ (mayChange (.armed i)).stoker = true := ⟨rfl, rfl⟩
  split
  · simp only [outside_ite]
    split <;> try rfl
    split
    · exact outside_with_commit _ _ rfl
    split
    · exact (outside_confirmAll _ rfl rfl).trans (outside_with_commit _ _ rfl)
    split
    · exact (outside_answerCoord _ _ _ _ _ rfl rfl rfl rfl rfl rfl rfl rfl rfl).trans (outside_with_commit_stoker _ _ _ rfl rfl)
    · exact outside_with_commit _ _ rfl
  · rfl

theorem framed_placeFreed (i : SpokeId) : Framed (.placeFreed i) := by
  intro s
  simp only [exec, execPlaceFreed, keepsOutside_next, outside_ite, State.modSpoke, State.setSpoke]
  split
  · exact outside_with_spokes_pacer _ _ _ rfl rfl
  · rfl

theorem framed_trimStep (it : ItemId) (tap : Fin 4096) : Framed (.trimStep it tap) := by
  intro s
  simp only [exec, execTrimStep, keepsOutside_next]
  split
  · rfl
  · rw [outside_settle _ _ _ rfl rfl rfl]
    exact (outside_with_truing _ _ rfl).trans (outside_State_setItem _ _ _ rfl)

theorem framed_fullRunEnd (i : SpokeId) : Framed (.fullRunEnd i) := by
  intro s
  simp only [exec, execFullRunEnd, keepsOutside_next]
  split
  · rw [outside_settle _ _ _ rfl rfl rfl, outside_ite, outside_with_truing _ _ rfl, ite_self,
      outside_raise _ _ _ _ _ _ rfl rfl, outside_State_modItem _ _ _ rfl, outside_State_modSpoke _ _ _ rfl,
      outside_State_setReq _ _ _ rfl]
  · rfl

theorem framed_lockWaitEnd (w1 w2 : Nat) : Framed (.lockWaitEnd w1 w2) := by
  intro s
  simp only [exec, execLockWaitEnd, keepsOutside_next]
  have h (x : Hub) : (raiseNow 216 3 0 0 { s with hub := x }).outside (mayChange (.lockWaitEnd w1 w2)) =
      s.outside (mayChange (.lockWaitEnd w1 w2)) :=
    (outside_raiseNow _ _ _ _ _ rfl rfl).trans (outside_with_hub _ _ rfl)
  split
  · rfl
  split
  · exact outside_with_hub _ _ rfl
  split
  · exact (outside_beginSearch _ rfl).trans (h _)
  · exact (outside_with_hub _ _ rfl).trans (h _)

theorem framed_ppsinEdge (rising : Bool) : Framed (.ppsinEdge rising) := by
  intro s
  simp only [exec, execPpsinEdge, keepsOutside_next]
  split
  · rw [outside_ite, outside_deliver _ _ rfl, outside_raise 225 _ _ _ _ _ rfl rfl, outside_with_noon _ _ rfl, ite_self,
      outside_raise _ _ _ _ _ _ rfl rfl, outside_with_noon _ _ rfl]
  · rfl

theorem framed_siestaWakeEnd (c : PortId) : Framed (.siestaWakeEnd c) := by
  intro s
  simp only [exec, execSiestaWakeEnd, keepsOutside_next]
  split
  · split
    · rw [outside_toListen _ _ _ _ rfl rfl rfl rfl rfl, outside_State_modPort _ _ _ rfl, outside_ungateCopies_port _ rfl rfl rfl rfl]
    · rfl
  · rfl

theorem framed_eventOccurrence (e : EventId) : Framed (.eventOccurrence e) := by
  intro s
  simp only [exec, execEventOccurrence, keepsOutside_next]
  split
  · split
    · rfl
    · simp [outside_ite, mayChange, outside_with_occs_hb]
  · rfl

theorem framed_flashOpComplete (ok : Bool) : Framed (.flashOpComplete ok) := by
  intro s
  simp only [exec, execFlashOpComplete, keepsOutside_next]
  split
  · rfl
  · exact (outside_flashSay _ _ _ rfl).trans (outside_with_flash_hb _ _ _ rfl rfl rfl)

theorem framed_dawnEntry : Framed .dawnEntry := by
  intro s
  simp only [exec, execDawnEntry, keepsOutside_next]
  have h (x : Dynamo) (y : Pair) : (raise 248 1 0 0 s.dt { s with dyn := x, pair := y }).outside (mayChange .dawnEntry) =
      s.outside (mayChange .dawnEntry) :=
    (outside_raise _ _ _ _ _ _ rfl rfl).trans (outside_with_pair_dyn _ _ _ rfl rfl)
  split
  · split
    · exact (outside_requestDay _ rfl rfl rfl rfl).trans (h _ _)
    · exact h _ _
  · rfl

theorem framed_duskGateClose : Framed .duskGateClose := by
  intro s
  simp only [exec, execDuskGateClose, keepsOutside_next]
  split
  · have hc (x : Hub) : (closeGates { s with hub := x }).outside (mayChange .duskGateClose) =
        s.outside (mayChange .duskGateClose) :=
      (outside_closeGates _ rfl rfl rfl rfl rfl rfl rfl rfl rfl rfl).trans (outside_with_hub _ _ rfl)
    generalize hg : closeGates { s with hub := { s.hub with inDay := false } } = t
    refine (outside_with_gatesShut t _ _ _ _ _ _ rfl rfl rfl rfl rfl rfl ?_).trans ?_
    · rfl
    · rw [← hg, hc]
  · rfl

end Sys2Proof.Proofs
end

section
/-! What no command changes (O8): every chapter's commands, each against the parts it may change. -/

namespace Sys2Proof.Proofs

open Sys2Proof.Machine Sys2Proof.Laws

/-- Commands of the host that a register write acts as as well: a law says of each what it keeps. -/
theorem framed_hostCommands :
    Framed .commitGo ∧ Framed .snapshotRequest ∧ (∀ i, Framed (.spokeCancelGo i)) ∧ (∀ p, Framed (.thStart p)) ∧
      (∀ p, Framed (.thStop p)) ∧ (∀ p, Framed (.thResume p)) ∧ Framed .bankCrcGo ∧
      (∀ v, Framed (.failFirstRearm v)) ∧ (∀ a, Framed (.segmentGo a)) ∧ (∀ a, Framed (.axisClear a)) ∧
      (∀ i dl, Framed (.fullRunRequest i dl)) ∧ (∀ i, Framed (.fullRunWithdraw i)) ∧ Framed .storeGo ∧
      Framed .stepRequest ∧ (∀ c, Framed (.portOff c)) ∧ (∀ c, Framed (.portRun c)) ∧ (∀ c, Framed (.portSiesta c)) ∧
      (∀ c, Framed (.testLoopNearSerial c)) ∧ (∀ c, Framed (.testLoopNearParallel c)) ∧
      (∀ c, Framed (.testLoopFarRetimed c)) ∧ (∀ c, Framed (.testLoopEnd c)) ∧ (∀ c, Framed (.prbsGen c)) ∧
      (∀ c errs, Framed (.prbsCheck c errs)) ∧ Framed .brakeEnter ∧ Framed .brakeExit ∧
      (∀ q n, Framed (.prodDoorbell q n)) ∧ (∀ q rx n, Framed (.consDoorbell q rx n)) ∧
      (∀ q rx x, Framed (.ringEnable q rx x)) ∧ (∀ q rx x, Framed (.ringDisable q rx x)) ∧
      (∀ u, Framed (.vectorUnmask u)) ∧ (∀ k x y, Framed (.eventStatusClear k x y)) ∧ Framed .flashRead ∧
      Framed .flashProgram ∧ Framed .flashErase ∧ Framed .dayRequest ∧ Framed .duskRequest := by
  and_intros <;> intros <;> intro s
  all_goals simp only [exec]
  all_goals exact keepsOutside_of_after (by simp [mayChange])

/-- Commits and steps. -/
theorem framed_commits :
    (∀ i, Framed (.prepare i)) ∧ (∀ i, Framed (.notArmed i)) ∧ Framed .noarmDeadline ∧ (∀ i, Framed (.confirm i)) ∧
      (∀ i, Framed (.abandon i)) ∧ (∀ i, Framed (.pendingCopyDiscard i)) ∧ Framed .commitSwap ∧
      (∀ k, Framed (.retireHoldExpiry k)) ∧ Framed .autorestartRetry ∧ Framed .coordinatorDeadline ∧
      Framed .autoStepRequest ∧ Framed .stepRetry ∧ Framed .stepDue := by
  and_intros <;> intros <;> intro s
  all_goals simp only [exec, execPrepare, execNotArmed, execNoarmDeadline, execConfirm, execAbandon,
    execPendingCopyDiscard, execCommitSwap, execRetireHoldExpiry, execAutorestartRetry, execCoordinatorDeadline,
    execAutoStepRequest, execStepRetry, execStepDue]
  all_goals (repeat' split) <;> simp [mayChange, outside_ite]

/-- Accesses by the buses, and snapshots. -/
theorem framed_busAccesses :
    (∀ bus off, Framed (.multiwordReadLatch bus off)) ∧ (∀ bus off x, Framed (.registerWrite bus off x)) ∧
      (∀ off x be, Framed (.partialWrite off x be)) ∧ (∀ bus addr data, Framed (.bar2Write bus addr data)) ∧
      Framed .spiReadStatus ∧ (∀ addr slow, Framed (.spiReadBar0 addr slow)) ∧
      (∀ addr x, Framed (.spiWriteBar0 addr x)) ∧ (∀ addr slow, Framed (.spiReadBar2 addr slow)) ∧
      (∀ addr x, Framed (.spiWriteBar2 addr x)) ∧ (∀ op, Framed (.spiUnknownOpcode op)) ∧ Framed .spiFrameEnd ∧
      Framed .periodicSnapshot ∧ Framed .snapshotLatch ∧ Framed .snapshotComplete := by
  and_intros <;> intros <;> intro s
  all_goals simp only [exec, execMultiwordReadLatch, execRegisterWrite, execPartialWrite, execBar2Write,
    execSpiReadStatus, execSpiReadBar0, execSpiWriteBar0, execSpiReadBar2, execSpiWriteBar2, execSpiUnknownOpcode,
    execSpiFrameEnd, execPeriodicSnapshot, execSnapshotLatch, execSnapshotComplete]
  all_goals (repeat' split) <;> simp [mayChange]

/-- Spokes. -/
theorem framed_spokes :
    (∀ i, Framed (.anchorDescriptor i)) ∧ (∀ i, Framed (.pulseDescriptor i)) ∧ (∀ i, Framed (.burstDescriptor i)) ∧
      (∀ i, Framed (.trainDescriptor i)) ∧ (∀ i, Framed (.levelDescriptor i)) ∧ (∀ i, Framed (.windowDescriptor i)) ∧
      (∀ i, Framed (.descriptorKindInvalid i)) ∧ (∀ i, Framed (.leadingEdge i)) ∧ (∀ i, Framed (.trailingEdge i)) ∧
      (∀ i, Framed (.levelChange i)) ∧ (∀ i, Framed (.windowOpen i)) ∧ (∀ i, Framed (.windowClose i)) ∧
      (∀ i uv, Framed (.pinCrossing i uv)) ∧ (∀ i, Framed (.modeChange i)) ∧
      (∀ i, Framed (.modeChangeIntervalEnd i)) ∧ (∀ i, Framed (.cancelDue i)) := by
  and_intros <;> intros <;> intro s
  all_goals simp only [exec, execAnchorDescriptor, execPulseDescriptor, execBurstDescriptor, execTrainDescriptor,
    execLevelDescriptor, execWindowDescriptor, execDescriptorKindInvalid, execLeadingEdge, execTrailingEdge,
    execLevelChange, execWindowOpen, execWindowClose, execPinCrossing, execModeChange, execModeChangeIntervalEnd,
    execCancelDue]
  all_goals (repeat' split) <;> simp [mayChange, outside_ite, outside_foldl]

/-- Pacer's instructions on the registers of a thread. -/
theorem framed_registerInstructions (p : ThreadId) :
    Framed (.nop p) ∧ Framed (.add p) ∧ Framed (.sub p) ∧ Framed (.and p) ∧ Framed (.or p) ∧ Framed (.xor p) ∧
      Framed (.shl p) ∧ Framed (.shr p) ∧ Framed (.mul p) ∧ Framed (.cmp p) ∧ Framed (.mov p) ∧ Framed (.movi p) ∧
      Framed (.addi p) ∧ Framed (.andi p) ∧ Framed (.cmpi p) ∧ Framed (.shli p) ∧ Framed (.shri p) ∧
      Framed (.tmov p) ∧ Framed (.tadd p) ∧ Framed (.tsub p) ∧ Framed (.tcmp p) ∧ Framed (.taddi p) ∧
      Framed (.taddg p) ∧ Framed (.tmac p) ∧ Framed (.tdiff p) ∧ Framed (.tldl p) ∧ Framed (.tldh p) ∧
      Framed (.tget p) ∧ Framed (.tput p) ∧ Framed (.now p) ∧ Framed (.ldd p) ∧ Framed (.tld p) ∧ Framed (.info p) :=
      by
  and_intros <;> intro s
  all_goals simp only [exec, execNop, execAdd, execSub, execAnd, execOr, execXor, execShl, execShr, execMul, execCmp,
    execMov, execMovi, execAddi, execAndi, execCmpi, execShli, execShri, execTmov, execTadd, execTsub, execTcmp,
    execTaddi, execTaddg, execTmac, execTdiff, execTldl, execTldh, execTget, execTput, execNow, execLdd, execTld,
    execInfo, aluR, aluI]
  all_goals refine keepsOutside_issueOp (by rfl) (by rfl) (by rfl) fun w => ?_
  all_goals simp [mayChange, outside_ite]

/-- Pacer's control flow and RAISE. -/
theorem framed_controlInstructions (p : ThreadId) :
    Framed (.halt p) ∧ Framed (.b p) ∧ Framed (.call p) ∧ Framed (.ret p) ∧ Framed (.loop p) ∧ Framed (.endl p) ∧
      Framed (.raise p) := by
  and_intros <;> intro s
  all_goals simp only [exec, execHalt, execB, execCall, execRet, execLoop, execEndl, execRaise]
  all_goals refine keepsOutside_issueOp (by rfl) (by rfl) (by rfl) fun w => ?_
  all_goals (repeat' split) <;> simp [mayChange]

/-- Pacer's waits, and KPOST. -/
theorem framed_waits (p : ThreadId) :
    Framed (.waitt p) ∧ Framed (.waite p) ∧ Framed (.recv p) ∧ Framed (.waitq p) ∧ Framed (.kpost p) := by
  and_intros <;> intro s
  all_goals simp only [exec, execWaitt, execWaite, execRecv, execWaitq, execKpost]
  all_goals refine keepsOutside_issueOp (by rfl) (by rfl) (by rfl) fun w => ?_
  all_goals (repeat' split) <;> simp [mayChange, outside_ite]

/-- What else Pacer does in a slot, and what comes to it. -/
theorem framed_pacer :
    (∀ p, Framed (.undefinedOp p)) ∧ (∀ p, Framed (.issueRetry p)) ∧ (∀ p, Framed (.waittExpiry p)) ∧
      (∀ p, Framed (.waitDeadlineExpiry p)) ∧ (∀ p, Framed (.waiteRelease p)) ∧ (∀ p, Framed (.recvRelease p)) ∧
      (∀ p, Framed (.waitqRelease p)) ∧ (∀ p, Framed (.commitAnswer p)) ∧ (∀ e, Framed (.pacerEventArrival e)) ∧
      (∀ p, Framed (.mailboxEntry p)) ∧ (∀ p, Framed (.threadActionDue p)) ∧ Framed .bankCrcDone := by
  and_intros <;> intros <;> intro s
  all_goals simp only [exec, execUndefinedOp, execIssueRetry, execWaittExpiry, execWaitDeadlineExpiry,
    execWaiteRelease, execRecvRelease, execWaitqRelease, execCommitAnswer, execPacerEventArrival, execMailboxEntry,
    execThreadActionDue, execBankCrcDone]
  all_goals (repeat' split) <;> simp [mayChange]

/-- Entries of Pacer's command rings. -/
theorem framed_ringCommands (p : ThreadId) :
    Framed (.cmdNop p) ∧ Framed (.cmdPost p) ∧ Framed (.cmdStart p) ∧ Framed (.cmdStop p) ∧ Framed (.cmdResume p) :=
      by
  and_intros <;> intro s
  all_goals simp only [exec, execCmdNop, execCmdPost, execCmdStart, execCmdStop, execCmdResume]
  all_goals refine keepsOutside_takeCmd (by rfl) (by rfl) (by rfl) fun b t => ?_
  all_goals (repeat' split) <;> simp [mayChange]

/-- Chainring. -/
theorem framed_chainring :
    (∀ v, Framed (.engineStart v)) ∧ (∀ v, Framed (.vectorStart v)) ∧ (∀ v i, Framed (.slotDriveAction v i)) ∧
      (∀ v i, Framed (.slotStrobe v i)) ∧ (∀ v, Framed (.latchPoint v)) ∧ (∀ v, Framed (.segmentBoundary v)) ∧
      (∀ v, Framed (.jumpArrival v)) ∧ (∀ v, Framed (.engineStop v)) ∧ (∀ v, Framed (.rateChange v)) ∧
      (∀ v, Framed (.streamFeedEntry v)) ∧ (∀ v data, Framed (.fillComplete v data)) ∧
      (∀ addr l, Framed (.vectorMemoryWrite addr l)) := by
  and_intros <;> intros <;> intro s
  all_goals simp only [exec, execEngineStart, execVectorStart, execSlotDriveAction, execSlotStrobe, execLatchPoint,
    execSegmentBoundary, execJumpArrival, execEngineStop, execRateChange, execStreamFeedEntry, execFillComplete,
    execVectorMemoryWrite]
  all_goals (repeat' split) <;> simp [mayChange]

/-- Crank. -/
theorem framed_crank :
    Framed .segmentRecord ∧ (∀ a, Framed (.segstart a)) ∧ (∀ a, Framed (.seam a)) ∧ (∀ a, Framed (.dry a)) ∧
      (∀ a, Framed (.targetEntry a)) ∧ (∀ a, Framed (.solveComplete a)) ∧ (∀ a, Framed (.targetTimeout a)) := by
  and_intros <;> intros <;> intro s
  all_goals simp only [exec, execSegmentRecord, execSegstart, execSeam, execDry, execTargetEntry, execSolveComplete,
    execTargetTimeout]
  all_goals (repeat' split) <;> simp [mayChange, outside_foldl]

/-- Truing. -/
theorem framed_truing :
    (∀ i, Framed (.burstStart i)) ∧ (∀ i, Framed (.burstEnd i)) ∧
      (∀ it counts, Framed (.histogramComplete it counts)) ∧ (∀ it, Framed (.histogramTimeout it)) ∧
      (∀ i, Framed (.fullRunStart i)) ∧ (∀ i, Framed (.delayPhaseStart i)) ∧
      (∀ i uv, Framed (.thresholdPhaseStart i uv)) ∧ (∀ i uv, Framed (.thresholdSample i uv)) ∧
      (∀ i uv, Framed (.applyPhaseStart i uv)) ∧ (∀ i, Framed (.requestExpired i)) ∧ Framed .autostoreInterval ∧
      Framed .autostoreAfterRun ∧ Framed .pageProgram ∧ (∀ ok, Framed (.storeComplete ok)) := by
  and_intros <;> intros <;> intro s
  all_goals simp only [exec, execBurstStart, execBurstEnd, execHistogramComplete, execHistogramTimeout,
    execFullRunStart, execDelayPhaseStart, execThresholdPhaseStart, execThresholdSample, execApplyPhaseStart,
    execRequestExpired, execAutostoreInterval, execAutostoreAfterRun, execPageProgram, execStoreComplete]
  all_goals (repeat' split) <;> simp [mayChange, outside_forEach]

/-- Hub and Noon. -/
theorem framed_hub :
    Framed .settleEnd ∧ (∀ b, Framed (.bandSearchDone b)) ∧ Framed .ceilingBackoffEnd ∧ Framed .gateOpen ∧
      Framed .phaseMonitorTrip ∧ (∀ w, Framed (.ceilingWindow w)) ∧ Framed .referenceLost ∧ Framed .dcoWordApply ∧
      Framed .measurement ∧ Framed .phaseStep ∧ Framed .sourceComparison ∧ Framed .dtDistribute ∧
      Framed .ppsoutPulse ∧ Framed .ppsoutPulseEnd ∧ Framed .ppsinMissing := by
  and_intros <;> intros <;> intro s
  all_goals simp only [exec, execSettleEnd, execBandSearchDone, execCeilingBackoffEnd, execGateOpen,
    execPhaseMonitorTrip, execCeilingWindow, execReferenceLost, execDcoWordApply, execMeasurement, execPhaseStep,
    execSourceComparison, execDtDistribute, execPpsoutPulse, execPpsoutPulseEnd, execPpsinMissing]
  all_goals (repeat' split) <;> simp [mayChange]

/-- Chain ports. -/
theorem framed_ports :
    (∀ lane, Framed (.blockLockGained lane)) ∧ (∀ lane, Framed (.blockLockLost lane)) ∧
      (∀ c, Framed (.listenLockHeld c)) ∧ (∀ c, Framed (.rateStep c)) ∧ (∀ c, Framed (.bellTimer c)) ∧
      (∀ c pdu, Framed (.bell c pdu)) ∧ (∀ c, Framed (.partnerGone c)) ∧ (∀ c pdu, Framed (.offer c pdu)) ∧
      (∀ c, Framed (.offerTimer c)) ∧ (∀ c pdu, Framed (.accept c pdu)) ∧ (∀ c pdu, Framed (.reject c pdu)) ∧
      (∀ c, Framed (.negotiateTimeout c)) ∧ (∀ c, Framed (.restepTimer c)) ∧ (∀ c, Framed (.stampTimer c)) ∧
      (∀ c sync pdu, Framed (.stamp c sync pdu)) ∧ (∀ c, Framed (.estimatorFreeze c)) ∧
      (∀ c pdu, Framed (.triggerFrame c pdu)) ∧ (∀ c pdu, Framed (.axisFrame c pdu)) ∧
      (∀ c pdu, Framed (.hostFrame c pdu)) ∧ (∀ c, Framed (.messageRingEntry c)) := by
  and_intros <;> intros <;> intro s
  all_goals simp only [exec, execBlockLockGained, execBlockLockLost, execListenLockHeld, execRateStep, execBellTimer,
    execBell, execPartnerGone, execOffer, execOfferTimer, execAccept, execReject, execNegotiateTimeout,
    execRestepTimer, execStampTimer, execStamp, execEstimatorFreeze, execTriggerFrame, execAxisFrame, execHostFrame,
    execMessageRingEntry]
  all_goals (repeat' split) <;> simp [mayChange]

/-- Freewheel. -/
theorem framed_freewheel :
    (∀ c d o, Framed (.frameAdmission c d o)) ∧ (∀ c d o err, Framed (.frameEndReceived c d o err)) ∧
      (∀ c d, Framed (.egressStart c d)) ∧ (∀ c d, Framed (.egressEnd c d)) := by
  and_intros <;> intros <;> intro s
  all_goals simp only [exec, execFrameAdmission, execFrameEndReceived, execEgressStart, execEgressEnd]
  all_goals (repeat' split) <;> simp [mayChange]

/-- Ring cells. -/
theorem framed_cells (r : RingDir) (cell : List (BitVec 8)) :
    Framed (.ringBeacon r cell) ∧ Framed (.ringHopstamp r cell) ∧ Framed (.ringCandidate r cell) ∧
      Framed (.ringRequest r cell) ∧ Framed (.ringPrepare r cell) ∧ Framed (.ringAnswer r cell) ∧
      Framed (.ringConfirm r cell) ∧ Framed (.ringAbandon r cell) ∧ Framed (.ringTrigger r cell) := by
  and_intros <;> intro s
  all_goals simp only [exec, execRingBeacon, execRingHopstamp, execRingCandidate, execRingRequest, execRingPrepare,
    execRingAnswer, execRingConfirm, execRingAbandon, execRingTrigger]
  all_goals refine keepsOutside_receive (by rfl) (by rfl) (by rfl) (by rfl) (fun t => ?_) ?_
  all_goals (repeat' split) <;> simp [mayChange]

/-- Stoker's timers and states. -/
theorem framed_stoker :
    Framed .beaconTimer ∧ Framed .hopstampTimer ∧ (∀ prt, Framed (.hopEstimatorFreeze prt)) ∧
      (∀ x, Framed (.ringLost x)) ∧ Framed .ringReturn ∧ Framed .seekTimeout ∧ Framed .holdoverTimeout ∧
      Framed .electWindowEnd ∧ Framed .join := by
  and_intros <;> intros <;> intro s
  all_goals simp only [exec, execBeaconTimer, execHopstampTimer, execHopEstimatorFreeze, execRingLost, execRingReturn,
    execSeekTimeout, execHoldoverTimeout, execElectWindowEnd, execJoin]
  all_goals (repeat' split) <;> simp [mayChange]

/-- The redundant pair. -/
theorem framed_pair :
    Framed .heartbeatTimer ∧ (∀ pdu, Framed (.heartbeat pdu)) ∧ (∀ pdu, Framed (.relayFrame pdu)) ∧
      Framed .heartbeatMissing ∧ (∀ i lvl, Framed (.evidenceMismatch i lvl)) ∧ Framed .netClear ∧
      Framed .vacancyTimer ∧ Framed .handoverCheck ∧ Framed .handoverSwitch ∧ Framed .refereeKick ∧
      Framed .watchdogKickTimeout ∧ Framed .tcxoLoss ∧ Framed .netfault := by
  and_intros <;> intros <;> intro s
  all_goals simp only [exec, execHeartbeatTimer, execHeartbeat, execRelayFrame, execHeartbeatMissing,
    execEvidenceMismatch, execNetClear, execVacancyTimer, execHandoverCheck, execHandoverSwitch, execRefereeKick,
    execWatchdogKickTimeout, execTcxoLoss, execNetfault]
  all_goals (repeat' split) <;> simp [mayChange]

/-- Handlebar's rings and vectors. -/
theorem framed_handlebar :
    Framed .hostReset ∧ (∀ q x, Framed (.ringFetch q x)) ∧ (∀ q, Framed (.dmaReadError q)) ∧
      (∀ q y, Framed (.ringEntryWrite q y)) ∧ (∀ q rx, Framed (.writeback q rx)) ∧ (∀ v, Framed (.holdoffExpiry v)) ∧
      Framed .pcieRefclkLoss ∧ (∀ sp w, Framed (.pcieLinkTrained sp w)) := by
  and_intros <;> intros <;> intro s
  all_goals simp only [exec, execHostReset, execRingFetch, execDmaReadError, execRingEntryWrite, execWriteback,
    execHoldoffExpiry, execPcieRefclkLoss, execPcieLinkTrained]
  all_goals (repeat' split) <;> simp [mayChange]

/-- Dynamo. -/
theorem framed_dynamo :
    Framed .vinApplied ∧ (∀ en pins, Framed (.enSample en pins)) ∧ Framed .startUp ∧
      (∀ cbus, Framed (.softStartEnd cbus)) ∧ Framed .softStartTimeout ∧ Framed .railUp ∧ Framed .railTimeout ∧
      Framed .enLow ∧ Framed .brownout ∧ Framed .overvoltage ∧ Framed .ridethru ∧ Framed .brownoutTimeout ∧
      Framed .vbusLow ∧ Framed .overcurrent ∧ Framed .railFault ∧ (∀ temp, Framed (.tempMeasure temp)) ∧
      Framed .overtemp ∧ Framed .duskRailsDown ∧ Framed .nightEntry ∧ (∀ x y z, Framed (.holdupRefresh x y z)) ∧
      Framed .velFault := by
  and_intros <;> intros <;> intro s
  all_goals simp only [exec, execVinApplied, execEnSample, execStartUp, execSoftStartEnd, execSoftStartTimeout,
    execRailUp, execRailTimeout, execEnLow, execBrownout, execOvervoltage, execRidethru, execBrownoutTimeout,
    execVbusLow, execOvercurrent, execRailFault, execTempMeasure, execOvertemp, execDuskRailsDown, execNightEntry,
    execHoldupRefresh, execVelFault]
  all_goals (repeat' split) <;> simp [mayChange]

end Sys2Proof.Proofs
end

section
/-! What no command changes (O8), assembled. -/
namespace Sys2Proof.Proofs

open Sys2Proof.Machine Sys2Proof.Laws

/-- Every command keeps to its parts. -/
theorem framed (i : Instr) : Framed i := by
  cases i <;> simp only [framed_hostCommands, framed_commits, framed_busAccesses, framed_spokes, framed_registerInstructions, framed_controlInstructions, framed_waits, framed_pacer, framed_ringCommands, framed_chainring, framed_crank, framed_truing, framed_hub, framed_ports, framed_freewheel, framed_cells, framed_stoker, framed_pair, framed_handlebar, framed_dynamo, framed_spokeIssues, framed_issues, framed_takes, framed_armed, framed_placeFreed, framed_trimStep, framed_fullRunEnd, framed_lockWaitEnd, framed_ppsinEdge, framed_siestaWakeEnd, framed_eventOccurrence, framed_flashOpComplete, framed_dawnEntry, framed_duskGateClose]

/-- Settles O8: command by command, the laws of the operations it is built of bound what it changes. -/
theorem commandFrames : Obligations.CommandFrames := by
  unfold Obligations.CommandFrames
  exact fun i s => framed i s

end Sys2Proof.Proofs
end

section
/-! Commits (O58, O11): what the commit unit's refusals and issues come to. -/

namespace Sys2Proof.Proofs

open Sys2Proof.Machine Sys2Proof.Laws

/-! ### Handlebar's own event sources -/

/-- Handlebar's own sources need no channel, so none of their occurrences is dropped (R44). -/
theorem evFull_handlebar (s : State) {e : Nat} (h : 252 ≤ e) : s.evFull e = false := by
  have hc : evChannel e = 0x53 := by
    simp only [evChannel]
    repeat rw [if_neg (by omega)]
  simp [State.evFull, hc]

/-- An occurrence of a source of Handlebar's own always sets out. -/
theorem raise_handlebar_occs {e : Nat} (h : 252 ≤ e) (he : e < 256) (c d a : Nat) (dt : DT) (s : State) :
    (raise e c d a dt s).occs = s.occs ++ [⟨Fin.ofNat 256 e, causeWord c d a, dt, false⟩] :=
  (raise_of_room (evFull_handlebar s (by simpa [Nat.mod_eq_of_lt he] using h))).1

/-! ### HB_COMMIT_STATUS -/

section
variable (src : CommitSrc) (st c isl pos : Nat) (side : Bool) (s : State)

@[simp] theorem setStatus_state : (setStatus src st c isl pos side s).commit.state = BitVec.ofNat 2 st := rfl
@[simp] theorem setStatus_src : (setStatus src st c isl pos side s).commit.src = src.isThread := rfl
@[simp] theorem setStatus_thread : (setStatus src st c isl pos side s).commit.thread = BitVec.ofNat 4 (threadOf src) := rfl
@[simp] theorem setStatus_cause : (setStatus src st c isl pos side s).commit.cause = BitVec.ofNat 4 c := rfl
@[simp] theorem setStatus_island : (setStatus src st c isl pos side s).commit.island = BitVec.ofNat 8 isl := rfl
@[simp] theorem setStatus_pos : (setStatus src st c isl pos side s).commit.pos = BitVec.ofNat 4 pos := rfl
@[simp] theorem setStatus_pend : (setStatus src st c isl pos side s).commit.pend = s.commit.pend := rfl
@[simp] theorem setStatus_gen : (setStatus src st c isl pos side s).commit.gen = s.commit.gen := rfl
@[simp] theorem setStatus_dt : (setStatus src st c isl pos side s).commit.dt = s.commit.dt := rfl
@[simp] theorem setStatus_answers : (setStatus src st c isl pos side s).commit.answers = s.commit.answers := rfl
@[simp] theorem setStatus_isl : (setStatus src st c isl pos side s).isl = s.isl := rfl
@[simp] theorem setStatus_occs : (setStatus src st c isl pos side s).occs = s.occs := rfl
@[simp] theorem setStatus_island_get (i : IslandId) : (setStatus src st c isl pos side s).island i = s.island i := rfl

end

/-! ### Refusals -/

/-- The refusal of a commit of the host, of a thread or of another module. -/
theorem sayRefused_eq {src : CommitSrc} (h : src ≠ .auto) (dtEff : DT) (gen : Word) (c isl pos : Nat) (side : Bool) (s : State) :
    sayRefused src dtEff gen c isl pos side s =
      raise 253 c isl gen.toNat dtEff (setStatus src 3 c isl pos side s) := by
  cases src <;> simp_all [sayRefused]

/-- A commit refused at its issue changes the status and raises E253, no more. -/
theorem issueCommit_refused {src : CommitSrc} {dtEff : DT} {gen : Word} {s : State} {c : Nat} (hs : src ≠ .auto)
    (hc : s.issueCause src dtEff gen = c) (h0 : c ≠ 0) :
    issueCommit src dtEff gen s = raise 253 c 0xFF gen.toNat dtEff (setStatus src 3 c 0xFF 0 false s) := by
  rw [issueCommit, hc, if_pos h0, sayRefused_eq hs]

/-- Without a pending commit, a generation that is not newer is the first thing refused (R24). -/
theorem issueCause_of_old {src : CommitSrc} {dtEff : DT} {gen : Word} {s : State} (hp : s.commit.pend = none)
    (hg : newer gen s.commit.gen = false) : s.issueCause src dtEff gen = 2 := by
  simp [State.issueCause, hp, hg]

/-! ### The generation rule (R24) -/

theorem newer_iff (gen g : Word) :
    newer gen g = true ↔ 1 ≤ (gen.toNat + 2 ^ 32 - g.toNat) % 2 ^ 32 ∧
      (gen.toNat + 2 ^ 32 - g.toNat) % 2 ^ 32 ≤ 2 ^ 31 - 1 := by
  have hd : (gen - g).toNat = (gen.toNat + 2 ^ 32 - g.toNat) % 2 ^ 32 := by bv_omega
  simp only [newer, hd, Bool.and_eq_true, decide_eq_true_eq]
  omega

/-- The state a commit of a generation that is not newer leaves. -/
theorem issueCommit_of_old {src : CommitSrc} {dtEff : DT} {gen : Word} {s : State} (hs : src ≠ .auto)
    (hp : s.commit.pend = none) (hg : newer gen s.commit.gen = false) :
    let u := issueCommit src dtEff gen s
    u.commit.state = 3 ∧ u.commit.cause = 2 ∧ u.commit.src = src.isThread ∧ u.commit.thread = BitVec.ofNat 4 (threadOf src) ∧
      u.commit.pend = none ∧ u.commit.gen = s.commit.gen ∧ u.isl = s.isl ∧
      ⟨253, causeWord 2 0xFF gen.toNat, dtEff, false⟩ ∈ u.occs := by
  rw [issueCommit_refused hs (issueCause_of_old hp hg) (by decide)]
  simp [hp, raise_handlebar_occs]

@[simp] theorem waitFor_commit (p : ThreadId) (on : WaitOn) (s : State) : (waitFor p on s).commit = s.commit := rfl
@[simp] theorem waitFor_isl (p : ThreadId) (on : WaitOn) (s : State) : (waitFor p on s).isl = s.isl := rfl
@[simp] theorem waitFor_occs (p : ThreadId) (on : WaitOn) (s : State) : (waitFor p on s).occs = s.occs := rfl

/-- A thread's COMMIT of good form issues its commit and waits for its answer (R115). -/
theorem exec_commit {s : State} {p : ThreadId} {w : BitVec 64} {a b c : Fin 8} (hi : s.issues p w) (ho : iOp w = 0x6A)
    (hw : iField w 52 4 = 8 + a.val ∧ iField w 48 4 = b.val ∧ iField w 44 4 = c.val ∧ iField w 0 44 = 0)
    (hip : (s.thread p).ip ≠ 0x3FFF) :
    let ta := (s.thread p).t.get a
    let gen := (s.thread p).g.get b
    exec (.commit p) s =
      .next (waitFor p (.commit (Fin.ofNat 8 (iField w 44 4)) (some (BitVec.ofNat 4 (s.issueCause (.thread p) ta gen))))
        (issueCommit (.thread p) ta gen s)) := by
  obtain ⟨ha, hb, hc, hz⟩ := hw
  have hok : (isT (iField w 52 4) && isG (iField w 48 4) && isG (iField w 44 4) && zero w 0 44) = true := by
    simp [ha, hb, hc, zero, hz]
  simp only [exec, execCommit, issueOp_issues hi ho, if_pos hok, if_neg hip]
  simp only [ha, hb, thread_tr, thread_gr]

/-- Settles O58: with no commit pending, the generation is tested first, and its refusal touches no more than the status
and E253. -/
theorem generationRule : Obligations.GenerationRule := by
  unfold Obligations.GenerationRule
  refine ⟨fun gen g => ⟨rfl, newer_iff gen g⟩, fun s hr hp hg => ?_, ?_⟩
  · obtain ⟨h1, h2, h3, -, h5⟩ := issueCommit_of_old (src := .host) (dtEff := dtAt s.imm 0x200) (by simp) hp hg
    exact ⟨_, by rw [exec, execCommitGo, byHost_of_reach hr], h1, h2, h3, h5⟩
  · rintro s p w t a b c rfl hi ho hw hip hp hg
    exact ⟨_, exec_commit hi ho hw hip, issueCommit_of_old (src := .thread p) (dtEff := (s.thread p).t.get a) (by simp) hp hg⟩

end Sys2Proof.Proofs
end

section
/-! Rejections at entry to a spoke's queue (O17): the channel's head taken, what entry finds, and a rejection. -/

namespace Sys2Proof.Proofs

open Sys2Proof.Machine Sys2Proof.Laws

section
variable {s : State} {i : SpokeId} {k : Kind} {d : ChanDesc} {rest : List SpokeMsg} {m : RegMap}

/-- Every kind that takes a place enters alike (R58). -/
theorem exec_descriptorOf (i : SpokeId) (k : Kind) (s : State) : exec (descriptorOf i k) s = .next (enterDesc i k s) := by
  cases k <;> rfl

/-- A clocked spoke takes the wanted descriptor at the head of its channel, and the cancels behind it. -/
theorem takeDesc_of_head {wanted : BitVec 128 → Bool} (f : ChanDesc → State → State)
    (hc : (s.spoke i).chan = .desc d :: rest) (hck : s.clocked = true) (hw : wanted d.raw = true) :
    takeDesc i wanted f s = drainCancels i (f d (s.setSpoke i { s.spoke i with chan := rest })) := by
  simp [takeDesc, hc, hck, hw]

/-- What entry finds does not depend on what still stands in the channel. -/
theorem entryCheck_pop (e : QDesc) :
    entryCheck (s.setSpoke i { s.spoke i with chan := rest }) i d e = entryCheck s i d e := by
  simp only [entryCheck, setSpoke_get]
  rfl

theorem enterAs_pop (sp : Spoke) : enterAs { sp with chan := rest } d k = enterAs sp d k := by
  simp only [enterAs, startOf]

/-- The rejections of R67 but LATE. -/
theorem rejectDesc_of_not_late {c : Nat} (hc : c ≠ 2) (start : DT) (place : Bool) :
    rejectDesc i d start c place s = raise (2 * i.val) c 0 0 start (s.setSpoke i { s.spoke i with
      freed := if place then (s.spoke i).freed + 1 else (s.spoke i).freed
      cnt := { (s.spoke i).cnt with reject := (s.spoke i).cnt.reject + 1 } }) := by
  simp [rejectDesc, hc]

/-- LATE is raised on the issuing thread's source as well, and counted there too (R20). -/
theorem rejectDesc_late (start : DT) :
    rejectDesc i d start 2 true s = raise (128 + 2 * d.thread.val) 1 0 0 start
      ((raise (2 * i.val) 2 0 0 start (s.setSpoke i { s.spoke i with
          freed := (s.spoke i).freed + 1, cnt := { (s.spoke i).cnt with late := (s.spoke i).cnt.late + 1 } })).setThread d.thread
        { s.thread d.thread with late := (s.thread d.thread).late + 1 }) := by
  simp [rejectDesc, State.modThread]

end

section
variable {s : State} {i : SpokeId} {k : Kind} {d : ChanDesc} {rest : List SpokeMsg}
  (hc : (s.spoke i).chan = .desc d :: rest) (hck : s.clocked = true) (hk : kindOf d.raw = some k)
include hc hck hk

/-- A descriptor that a check of R67 fails goes no further than its rejection. -/
theorem enterDesc_of_rejected {c : Nat} (he : entryCheck s i d (enterAs (s.spoke i) d k) = .inl c) :
    enterDesc i k s = drainCancels i (rejectDesc i d (startOf (s.spoke i) d.raw) c true
      (s.setSpoke i { s.spoke i with chan := rest })) := by
  rw [enterDesc, takeDesc_of_head _ hc hck (by simp [hk])]
  simp only [setSpoke_get, entryCheck_pop, enterAs_pop, he]
  rfl

/-- A rejection other than LATE, to its last count. -/
theorem exec_descriptorOf_rejected {c : Nat} (he : entryCheck s i d (enterAs (s.spoke i) d k) = .inl c) (h2 : c ≠ 2) :
    exec (descriptorOf i k) s =
      .next (drainCancels i (raise (2 * i.val) c 0 0 (startOf (s.spoke i) d.raw) (s.setSpoke i { s.spoke i with
        chan := rest, freed := (s.spoke i).freed + 1
        cnt := { (s.spoke i).cnt with reject := (s.spoke i).cnt.reject + 1 } }))) := by
  rw [exec_descriptorOf, enterDesc_of_rejected hc hck hk he, rejectDesc_of_not_late h2]
  simp

end

/-! ### The checks of R67 in their order -/

section
variable {s : State} {i : SpokeId} {d : ChanDesc} {e a : QDesc} {m : RegMap} {q : List QDesc}

theorem entryCheck_format (hf : formatOk d.raw = false) : entryCheck s i d e = .inl 5 := by simp [entryCheck, hf]

variable (hf : formatOk d.raw = true)
include hf

theorem entryCheck_stale (hg : s.genRegs (islSpoke i) d.tag = none) : entryCheck s i d e = .inl 7 := by
  simp [entryCheck, hf, hg]

variable (hg : s.genRegs (islSpoke i) d.tag = some m)
include hg

theorem entryCheck_owned {v : EngineId} (ho : ownerIn m i.val = some v) : entryCheck s i d e = .inl 6 := by
  simp [entryCheck, hf, hg, ho]

variable (ho : ownerIn m i.val = none)
include ho

theorem entryCheck_limit (hl : limitsOk d.raw (s.outIn m i) = false) : entryCheck s i d e = .inl 4 := by
  simp [entryCheck, hf, hg, ho, hl]

variable (hl : limitsOk d.raw (s.outIn m i) = true)
include hl

theorem entryCheck_late (ht : dtLe (dtAdd s.dt 65536) e.start = false) : entryCheck s i d e = .inl 2 := by
  simp [entryCheck, hf, hg, ho, hl, ht]

variable (ht : dtLe (dtAdd s.dt 65536) e.start = true)
include ht

theorem entryCheck_order (hq : (s.spoke i).queue = q ++ [a]) (hc : orderCheck s i e a = none) :
    entryCheck s i d e = .inl 3 := by
  simp [entryCheck, hf, hg, ho, hl, ht, hq, hc]

end

/-- The guard between two descriptors of known ends (R68). -/
theorem orderCheck_of_ended {s : State} {i : SpokeId} {e a : QDesc} (hk : a.kind ≠ .train ∨ a.pulses.isSome = true)
    (hg : dtLe (dtAdd a.last (s.deskew i a +
        guardOf a.kind e.kind (s.outIn (s.tagRegs i a.tag) i) (s.outIn (s.tagRegs i e.tag) i)))
      (dtAdd e.start (s.deskew i e)) = false) : orderCheck s i e a = none := by
  have hopen : (a.kind == .train && a.pulses.isNone) = false := by
    rcases hk with hk | hk
    · simp [hk]
    · simp [hk]
  simp [orderCheck, hopen, hg]

/-- A TRAIN without end of which no pulse that is still to come could stay (R63). -/
theorem orderCheck_of_endless {s : State} {i : SpokeId} {e a : QDesc} {n : Nat} (hk : a.kind = .train ∧ a.pulses = none)
    (hn : n = keptPulses a (s.deskew i a) (dtAdd e.start (s.deskew i e))
      (guardOf .train e.kind (s.outIn (s.tagRegs i a.tag) i) (s.outIn (s.tagRegs i e.tag) i)))
    (h : n = 0 ∨ dtLe (dtAdd s.dt 65536) (dtAdd a.start (n * dPeriod a.raw)) = false) : orderCheck s i e a = none := by
  obtain ⟨htrain, hp⟩ := hk
  subst hn
  rcases h with h | h <;> simp [orderCheck, htrain, hp, h]

/-- Settles O17: each check of R67 fails only where those before it pass, and its rejection is the same but for LATE. -/
theorem descriptorRejected : Obligations.DescriptorRejected := by
  unfold Obligations.DescriptorRejected
  and_intros
  · intro s i k d rest hc hck hk hf
    exact exec_descriptorOf_rejected hc hck hk (entryCheck_format hf) (by decide)
  · intro s i k d rest hc hck hk hf hg
    exact exec_descriptorOf_rejected hc hck hk (entryCheck_stale hf hg) (by decide)
  · intro s i k d rest m v hc hck hk hf hg ho
    exact exec_descriptorOf_rejected hc hck hk (entryCheck_owned hf hg ho) (by decide)
  · intro s i k d rest m hc hck hk hf hg ho hl
    exact exec_descriptorOf_rejected hc hck hk (entryCheck_limit hf hg ho hl) (by decide)
  · intro s i k d rest m hc hck hk hf hg ho hl ht
    rw [exec_descriptorOf, enterDesc_of_rejected hc hck hk (entryCheck_late hf hg ho hl ht), rejectDesc_late]
    simp
  · intro s i k d rest m a q hc hck hk hf hg ho hl ht hq ha hgd
    exact exec_descriptorOf_rejected hc hck hk
      (entryCheck_order hf hg ho hl ht hq (orderCheck_of_ended ha hgd)) (by decide)
  · intro s i k d rest m a q n hc hck hk hf hg ho hl ht hq ha hn h
    exact exec_descriptorOf_rejected hc hck hk
      (entryCheck_order hf hg ho hl ht hq (orderCheck_of_endless ha hn h)) (by decide)
  · intro s i d rest hc hck hk
    rw [exec, execDescriptorKindInvalid, takeDesc_of_head _ hc hck (by simp [hk]), rejectDesc_of_not_late (by decide)]
    simp [startOf]
  · intro s i d rest hc hck hk
    rw [exec, execAnchorDescriptor, takeDesc_of_head _ hc hck (by simp [hk]), rejectDesc_of_not_late (by decide)]
    simp

end Sys2Proof.Proofs
end

section
/-! Accesses to BAR0 and to configuration space (O13). -/

namespace Sys2Proof.Proofs

open Sys2Proof.Machine Sys2Proof.Laws

/-! ### Writes to shadowed registers (R22) -/

section
variable {s : State} {v : Word}

theorem putReg_of_shadowed {k : Nat} (h : (regInfo k).imm = false) :
    putReg k v s = { s with shadow := regPut s.shadow k v } := by
  simp [putReg, h]

/-- Handlebar shadows no register. -/
theorem regHandlebar_imm (o : Nat) : (regHandlebar o).imm = true := by
  unfold regHandlebar
  split_ifs <;> rfl

theorem writeNoon_of_shadowed {o : Nat} (h : (regNoon o).imm = false) : writeNoon o v s = putReg (0x3000 + o) v s := by
  have ho : o ≠ 0x58 := by rintro rfl; exact absurd h (by decide)
  simp [writeNoon, ho]

theorem writeTruing_of_shadowed {o : Nat} (h : (regTruing o).imm = false) :
    writeTruing o v s = putReg (0x4000 + o) v s := by
  have hgo : o ≠ 0x10 := by rintro rfl; exact absurd h (by decide)
  have hreq : ¬ (0x400 ≤ o ∧ o < 0x800 ∧ o % 16 = 4) := by
    rintro ⟨h1, h2, h3⟩
    simp [regTruing, show o ≠ 0 by omega, show o ≠ 4 by omega, show o ≠ 8 by omega, h1, h2, h3, immediate] at h
  rw [writeTruing, if_neg hgo, if_neg hreq]

theorem writePacer_of_shadowed {o : Nat} (h : (regPacer o).imm = false) : writePacer o v s = putReg (0x8000 + o) v s := by
  have hact : ¬ (o < 0x1000 ∧ o % 0x100 = 0x18) := by
    rintro ⟨h1, h2⟩
    simp [regPacer, h1, h2, noReg] at h
  have hcrc : o ≠ 0x1008 := by rintro rfl; exact absurd h (by decide)
  rw [writePacer, if_neg hact, if_neg hcrc]

theorem writeCrank_of_shadowed {o : Nat} (h : (regCrank o).imm = false) : writeCrank o v s = putReg (0xC000 + o) v s := by
  have hclear : ¬ (o < 0x800 ∧ o % 0x100 = 8) := by
    rintro ⟨h1, h2⟩
    simp [regCrank, h1, h2, noReg] at h
  have hgo : o ≠ 0x830 := by rintro rfl; exact absurd h (by decide)
  rw [writeCrank, if_neg hclear, if_neg hgo]

theorem writeChainring_of_shadowed {e : EngineId} {o : Nat} (h : (regChainring o).imm = false) :
    writeChainring e o v s = putReg (crBase e + o) v s := by
  have hseg : ¬ (o = 0x10 ∨ o = 0x14) := by rintro (rfl | rfl) <;> exact absurd h (by decide)
  have hts : ¬ (o = 0x20 ∨ o = 0x24) := by rintro (rfl | rfl) <;> exact absurd h (by decide)
  have harm : o ≠ 0x60 := by rintro rfl; exact absurd h (by decide)
  simp only [writeChainring, if_neg hseg, if_neg hts, if_neg harm]

theorem writeSpoke_of_shadowed {i : SpokeId} {o : Nat} (h : (regSpoke o).imm = false) :
    writeSpoke i o v s = putReg (spBase i + o) v s := by
  have ho : o ≠ 0x3C := by rintro rfl; exact absurd h (by decide)
  rw [writeSpoke, if_neg ho]

theorem writePort_of_shadowed {c : PortId} {o : Nat} (h : (regPort o).imm = false) :
    writePort c o v s = putReg (cpBase c + o) v s := by
  have hpwr : o ≠ 0 := by rintro rfl; exact absurd h (by decide)
  have htest : o ≠ 0x38 := by rintro rfl; exact absurd h (by decide)
  rw [writePort, if_neg hpwr, if_neg htest]

theorem writeFreewheel_of_shadowed {o : Nat} (h : (regFreewheel o).imm = false) :
    writeFreewheel o v s = putReg (0x38000 + o) v s := by
  have hcl : ¬ (0x18 ≤ o ∧ o < 0x28) := by
    rintro ⟨h1, h2⟩
    simp [regFreewheel, show o ≠ 4 by omega, show o ≠ 0x14 by omega, show ¬ 0x100 ≤ o by omega, noReg] at h
  rw [writeFreewheel, if_neg hcl]

theorem writePair_of_shadowed {o : Nat} (h : (regPair o).imm = false) : writePair o v s = putReg (0x3E000 + o) v s := by
  have ho : o ≠ 0x34 := by rintro rfl; exact absurd h (by decide)
  rw [writePair, if_neg ho]

theorem regSnapshot_imm (o : Nat) : (regSnapshot o).imm = true := by
  unfold regSnapshot
  split_ifs <;> rfl

/-- The register tables and the writes are cut into the same blocks: one block, and those behind it. -/
theorem byBlock {c : Prop} [Decidable c] {r r' : RegInfo} {a a' t : State} (h : (if c then r else r').imm = false)
    (hhere : c → r.imm = false → a = t) (hrest : ¬ c → r'.imm = false → a' = t) : (if c then a else a') = t := by
  by_cases hc : c
  · rw [if_pos hc] at h ⊢
    exact hhere hc h
  · rw [if_neg hc] at h ⊢
    exact hrest hc h

/-- Behind the pair's block, BAR0 shadows nothing. -/
theorem imm_above_pair {k : Nat} (hk : k < 0x100000) :
    (if k < 0x60000 then noReg else if k < 0x61000 then regSnapshot (k - 0x60000)
      else if k < 0x100000 then noReg else if k < 0x132000 then shadowed ones32 0 else noReg).imm = true := by
  rw [if_pos hk]
  split_ifs
  · rfl
  · exact regSnapshot_imm _
  · rfl

/-- A write to a shadowed register of BAR0 goes to its shadow, whatever its block; Hub's SEL apart (R229). -/
theorem writeReg_of_shadowed {k : Nat} (hk : k < 0x100000) (h : (regInfo k).imm = false) (hsel : k ≠ 0x2004) :
    writeReg k v s = putReg k v s := by
  have key {a b : Nat} (e : a = b) : putReg a v s = putReg b v s := by rw [e]
  have none {t : State} (h : noReg.imm = false) : t = putReg k v s := absurd h (by decide)
  unfold regInfo at h
  unfold writeReg
  refine byBlock h (fun _ h => absurd h (by simp [regHandlebar_imm])) fun _ h => ?_
  refine byBlock h (fun _ h => none h) fun _ h => ?_
  refine byBlock h (fun _ _ => ?_) fun _ h => ?_
  · rw [writeHub, if_neg (by omega)]
    exact key (by omega)
  refine byBlock h (fun _ h => (writeNoon_of_shadowed h).trans (key (by omega))) fun _ h => ?_
  refine byBlock h (fun _ h => (writeTruing_of_shadowed h).trans (key (by omega))) fun _ h => ?_
  refine byBlock h (fun _ h => (writePacer_of_shadowed h).trans (key (by omega))) fun _ h => ?_
  refine byBlock h (fun _ h => (writeCrank_of_shadowed h).trans (key (by omega))) fun _ h => ?_
  refine byBlock h (fun _ h => (writeChainring_of_shadowed h).trans (key (by simp [crBase]; omega))) fun _ h => ?_
  refine byBlock h (fun _ h => none h) fun _ h => ?_
  refine byBlock h (fun _ h => (writeSpoke_of_shadowed h).trans (key (by simp [spBase]; omega))) fun _ h => ?_
  refine byBlock h (fun _ h => none h) fun _ h => ?_
  refine byBlock h (fun _ h => (writePort_of_shadowed h).trans (key (by simp [cpBase]; omega))) fun _ h => ?_
  refine byBlock h (fun _ h => none h) fun _ h => ?_
  refine byBlock h (fun _ h => (writeFreewheel_of_shadowed h).trans (key (by omega))) fun _ h => ?_
  refine byBlock h (fun _ _ => rfl) fun _ h => ?_
  refine byBlock h (fun _ h => (writePair_of_shadowed h).trans (key (by omega))) fun _ h => ?_
  exact absurd h (by simp [imm_above_pair hk])

theorem writeReg_sel : writeReg 0x2004 v s =
    { s with shadow := regPut s.shadow 0x2004 v, hub := { s.hub with selWritten := true } } := rfl

end

/-! ### Reads (R35) -/

theorem latchUpper_of_none {bus : BusPort} {k : Nat} {s : State} (h : upperWords k = 0) : latchUpper bus k s = s := by
  simp [latchUpper, h]

/-- A read of a multi-word register's lowest word leaves its upper words in the bus's latch, and touches no more. -/
theorem latchUpper_of_some {bus : BusPort} {k : Nat} {s : State} (hb : bus ≠ .config) (h : upperWords k ≠ 0) :
    (latchUpper bus k s).latchOf bus = some (k, (List.range (upperWords k)).map fun j => s.readLive (k + 4 * (j + 1))) ∧
      latchUpper bus k s = { s with hb := (latchUpper bus k s).hb } := by
  cases bus with
  | pcie => simp [latchUpper, h, State.latchOf]
  | spi => simp [latchUpper, h, State.latchOf]
  | config => exact absurd rfl hb

theorem ne_config_of_busUp {s : State} {bus : BusPort} (h : s.busUp bus = true) : bus ≠ .config := by
  rintro rfl
  exact absurd h (by simp [State.busUp])

section
variable {s : State} {bus : BusPort} {off : BitVec 20} (ha : off.toNat % 4 = 0) (hb : s.busUp bus = true)
include ha hb

theorem exec_multiwordReadLatch : exec (.multiwordReadLatch bus off) s =
    .next { latchUpper bus off.toNat s with
      hb := { (latchUpper bus off.toNat s).hb with rdata := s.readWord bus off.toNat } } := by
  simp only [exec, execMultiwordReadLatch, ne_eq, ha, not_true_eq_false, if_false, if_neg (ne_config_of_busUp hb), hb,
    Bool.not_true, Bool.false_eq_true]

theorem exec_registerWrite (v : Word) : exec (.registerWrite bus off v) s = .next (writeReg off.toNat v s) := by
  simp only [exec, execRegisterWrite, ne_eq, ha, not_true_eq_false, if_false, if_neg (ne_config_of_busUp hb), hb, if_true]

end

theorem exec_registerWrite_config {s : State} {off : BitVec 20} (ha : off.toNat % 4 = 0) (hp : s.pcieUp = true) (v : Word) :
    exec (.registerWrite .config off v) s = .next (writeConfig off.toNat v s) := by
  simp [exec, execRegisterWrite, ha, hp]

/-! ### Configuration space (R356) -/

/-- The power state takes D0 and D3hot alone. -/
theorem writeConfig_power (s : State) (v : Word) : writeConfig 0x44 v s = { s with hb := { s.hb with cfg := { s.hb.cfg with
    d3 := if fld v 0 2 = 3 then true else if fld v 0 2 = 0 then false else s.hb.cfg.d3 } } } := by
  simp only [writeConfig, if_true]
  split
  · next h => simp [h]
  · next h => simp [h]
  · next h0 h3 =>
    rw [if_neg h3, if_neg h0]

/-! ### Partial writes (R359) -/

/-- What an occurrence that its channel has room for changes. -/
theorem raiseAs_of_room {s : State} {co : Bool} {e c d a : Nat} {dt : DT} (h : s.evFull (Fin.ofNat 256 e).val = false) :
    (raiseAs co e c d a dt s).occs = s.occs ++ [⟨Fin.ofNat 256 e, causeWord c d a, dt, co⟩] ∧
      raiseAs co e c d a dt s = { s with
        occs := (raiseAs co e c d a dt s).occs
        pacer := { s.pacer with latch := (raiseAs co e c d a dt s).pacer.latch } } := by
  simp only [raiseAs, h, Bool.false_eq_true, if_false, and_self]

theorem exec_partialWrite {s : State} {off : BitVec 20} (ha : off.toNat % 4 = 0) (hb : s.busUp .pcie = true) (v : Word)
    (be : BitVec 4) : exec (.partialWrite off v be) s =
      .next (raiseAs s.outage 255 4 0 0 s.now { s with hb := { s.hb with partialCnt := s.hb.partialCnt + 1 } }) := by
  simp only [exec, execPartialWrite, ne_eq, ha, not_true_eq_false, if_false, hb, Bool.not_true, Bool.false_eq_true, raiseNow]
  rfl

/-- Settles O13: reads through the latch, writes block by block, and the configuration space. -/
theorem registerAccessCompletes : Obligations.RegisterAccessCompletes := by
  unfold Obligations.RegisterAccessCompletes
  and_intros
  · intro s bus off ha hb h0
    rw [exec_multiwordReadLatch ha hb, latchUpper_of_none h0]
  · intro s bus off ha hb h0
    obtain ⟨hl, hs⟩ := latchUpper_of_some (s := s) (ne_config_of_busUp hb) h0
    refine ⟨_, exec_multiwordReadLatch ha hb, rfl, ?_, ?_⟩
    · rw [← hl]
      cases bus <;> rfl
    · rw [hs]
  · intro s off ha hp
    refine ⟨by simp [exec, execMultiwordReadLatch, ha, hp], ?_, rfl, rfl⟩
    simp [State.configWord]
  · exact fun s bus off v ha hb => exec_registerWrite ha hb v
  · intro s bus off v ha hb hi
    rw [exec_registerWrite ha hb]
    by_cases hsel : off = 0x2004
    · subst hsel
      exact congrArg Host.Outcome.next writeReg_sel
    · have hne : off.toNat ≠ 0x2004 := fun h => hsel (BitVec.eq_of_toNat_eq h)
      rw [writeReg_of_shadowed off.isLt hi hne, putReg_of_shadowed hi, if_neg hsel]
  · intro s v hp
    refine ⟨?_, fun h => by simp [State.busUp, h]⟩
    rw [exec_registerWrite_config (by decide) hp]
    exact congrArg Host.Outcome.next (writeConfig_power s v)
  · exact fun s off v ha hp => exec_registerWrite_config ha hp v
  · intro s off v be ha hb
    obtain ⟨ho, hs⟩ := raiseAs_of_room (co := s.outage) (e := 255) (c := 4) (d := 0) (a := 0) (dt := s.now)
      (evFull_handlebar { s with hb := { s.hb with partialCnt := s.hb.partialCnt + 1 } } (by decide))
    exact ⟨_, exec_partialWrite ha hb v be, by rw [raiseAs_hb], ho, by rw [raiseAs_hb]; exact hs⟩

end Sys2Proof.Proofs
end

section
/-! Snapshots (O14): requests, the latch, and the end of a write. -/

namespace Sys2Proof.Proofs

open Sys2Proof.Machine Sys2Proof.Laws

section
variable {s : State} {d : DT} {w : SnapWrite}

/-! ### Requests (R37) -/

/-- A request passes each check of R37, in their order. -/
theorem snapCause_of_free (hl : (dtAdd (s.replica islHandlebar) 8192000).toNat ≤ d.toNat) (hb : s.snap.busy = false)
    (ht : s.snap.lastTaken.any (tooNear d) = false) (hp : (s.periodicOn && nearPeriodic d) = false) : s.snapCause d = 0 := by
  rw [State.snapCause, if_neg (by omega)]
  simp [hb, ht, hp]

theorem requestSnap_of_refused (h : s.snapCause (dtAt s.imm 0x60004) ≠ 0) : requestSnap s =
    { s with snap := { s.snap with reqState := 3, reqCause := s.snapCause (dtAt s.imm 0x60004) } } := by
  simp only [requestSnap, State.modSnap, if_neg h]

theorem exec_snapshotRequest (hr : s.hostReach = true) : exec .snapshotRequest s = .next (requestSnap s) := by
  rw [exec, execSnapshotRequest, byHost_of_reach hr]

/-! ### The end of a write (R38) -/

theorem completeSnap_of_none (h : s.snap.writing = none) : completeSnap s = s := by simp [completeSnap, h]

/-- What Snapshot holds once the write in progress is complete. -/
def Snap.completed (x : Snap) (w : SnapWrite) : Snap :=
  let y := { x.setBuf w.second w.data with latest := w.second, writing := none }
  if w.periodic then y else { y with reqState := 2, reqCause := 0 }

theorem completeSnap_of_some (h : s.snap.writing = some w) : completeSnap s =
    raise 254 (if w.periodic then 1 else 2) 0 w.seq.toNat w.dt { s with snap := Snap.completed s.snap w } := by
  rw [completeSnap, h]
  rfl

@[simp] theorem completed_latest (x : Snap) (w : SnapWrite) : (Snap.completed x w).latest = w.second := by
  unfold Snap.completed
  split <;> rfl

@[simp] theorem completed_writing (x : Snap) (w : SnapWrite) : (Snap.completed x w).writing = none := by
  unfold Snap.completed
  split <;> rfl

@[simp] theorem completed_nextSeq (x : Snap) (w : SnapWrite) : (Snap.completed x w).nextSeq = x.nextSeq := by
  simp only [Snap.completed, Snap.setBuf]
  split <;> split <;> rfl

@[simp] theorem completed_bufA (x : Snap) (w : SnapWrite) :
    (Snap.completed x w).bufA = if w.second then x.bufA else w.data := by
  cases h : w.second <;> cases hp : w.periodic <;> simp [Snap.completed, Snap.setBuf, h, hp]

@[simp] theorem completed_bufB (x : Snap) (w : SnapWrite) :
    (Snap.completed x w).bufB = if w.second then w.data else x.bufB := by
  cases h : w.second <;> cases hp : w.periodic <;> simp [Snap.completed, Snap.setBuf, h, hp]

/-- The buffer written holds the page, and the other one what it held. -/
theorem completed_bufs (x : Snap) (w : SnapWrite) :
    (if w.second then (Snap.completed x w).bufB else (Snap.completed x w).bufA) = w.data ∧
      (if w.second then (Snap.completed x w).bufA else (Snap.completed x w).bufB) = if w.second then x.bufA else x.bufB := by
  cases h : w.second <;> simp [h]

/-! ### The latch (R36) -/

/-- What Snapshot holds once a write of a page has begun: SEQ reads all ones in the buffer that does not hold the latest
complete snapshot. -/
def Snap.begun (x : Snap) (d : DT) (periodic : Bool) (page : RegMap) : Snap :=
  { x.setBuf (!x.latest) (store (fun _ => 0) (if x.latest then x.bufA else x.bufB) 0 0xFFFFFFFF) with
    writing := some ⟨!x.latest, x.nextSeq, d, periodic, page⟩, nextSeq := nextSeq x.nextSeq }

theorem latchSnap_eq (d : DT) (periodic : Bool) (s : State) : latchSnap d periodic s = { completeSnap s with
    snap := Snap.begun (completeSnap s).snap d periodic
      ((completeSnap s).snapPage (completeSnap s).snap.nextSeq d periodic) } := by
  have hbuf (b : Bool) (m n : RegMap) : (if (!b) = true then m else n) = if b then n else m := by cases b <;> rfl
  simp only [latchSnap, State.modSnap, Snap.begun, hbuf]

/-- A page begun after a write was completed goes to the buffer that does not hold that write. -/
theorem begun_completed (x : Snap) (w : SnapWrite) (d : DT) (periodic : Bool) (page : RegMap) :
    let y := Snap.begun (Snap.completed x w) d periodic page
    y.latest = w.second ∧ (if w.second then y.bufB else y.bufA) = w.data ∧
      y.writing = some ⟨!w.second, x.nextSeq, d, periodic, page⟩ := by
  cases h : w.second <;> simp [Snap.begun, Snap.setBuf, h]

/-- A latch while a write is in progress: that write's page stands complete beside the one begun. -/
theorem latchSnap_of_writing (hw : s.snap.writing = some w) (periodic : Bool) :
    let t := latchSnap d periodic s
    t.snap.latest = w.second ∧ (if w.second then t.snap.bufB else t.snap.bufA) = w.data ∧
      t.snap.writing = some ⟨!w.second, s.snap.nextSeq, d, periodic, (completeSnap s).snapPage s.snap.nextSeq d periodic⟩ := by
  have hs : (completeSnap s).snap = Snap.completed s.snap w := by rw [completeSnap_of_some hw, raise_snap]
  rw [latchSnap_eq, hs, completed_nextSeq]
  exact begun_completed s.snap w d periodic _

theorem exec_snapshotLatch (hr : s.snap.req = some d) (ha : s.alive = true) (hc : s.dtRuns = true)
    (hd : d.toNat ≤ s.now.toNat) (hb : s.beforeLatch = false) :
    exec .snapshotLatch s = .next ((latchSnap d false s).modSnap fun x => { x with req := none, lastTaken := some d }) := by
  rw [exec, execSnapshotLatch, hr]
  simp [ha, hc, hb, dtLe, hd]

theorem exec_periodicSnapshot (ha : s.alive = true) (hc : s.dtRuns = true) (hp : s.periodicOn = true)
    (hd : s.periodicDt = some d) (hk : s.snap.tickAt ≠ some s.clock) (hb : s.beforeLatch = false)
    (hr : s.snap.req.any (tooNear d) = false) (hl : s.snap.lastTaken.any (tooNear d) = false) :
    exec .periodicSnapshot s = .next ((latchSnap d true s).modSnap fun x => { x with tickAt := some s.clock }) := by
  rw [exec, execPeriodicSnapshot, hd]
  simp [ha, hc, hp, hk, hb, hr, hl]

/-- With the core counting, a periodic snapshot's DT is the one that the core has. -/
theorem periodicDt_of_count (hp : s.periodicDt = some d) (hh : s.hub.ho = none) : d = s.dt ∧ s.dt.toNat % 2 ^ 32 = 0 := by
  simp only [State.periodicDt, hh] at hp
  split at hp
  · next h0 => exact ⟨(Option.some.inj hp).symm, h0⟩
  · cases hp

end

/-- Settles O14: a request by its checks, a latch by the page then held, and a write's end by its buffer. -/
theorem snapshotCompletes : Obligations.SnapshotCompletes := by
  unfold Obligations.SnapshotCompletes
  and_intros
  · intro s hr hl hb ht hp
    rw [exec_snapshotRequest hr, requestSnap, snapCause_of_free hl hb ht hp]
    rfl
  · rintro s c hr rfl h0
    rw [exec_snapshotRequest hr, requestSnap_of_refused h0]
  · intro s d hr ha hc hd hb hw
    rw [exec_snapshotLatch hr ha hc hd hb, latchSnap_eq, completeSnap_of_none hw]
    rfl
  · intro s d w hr ha hc hd hb hw
    obtain ⟨h1, h2, h3⟩ := latchSnap_of_writing (d := d) hw false
    exact ⟨_, exec_snapshotLatch hr ha hc hd hb, h1, h2, rfl, rfl, h3⟩
  · intro s d ha hc hp hd hk hb hr hl hw
    refine ⟨?_, periodicDt_of_count hd⟩
    rw [exec_periodicSnapshot ha hc hp hd hk hb hr hl, latchSnap_eq, completeSnap_of_none hw]
    rfl
  · intro s d w ha hc hp hd hk hb hr hl hw
    obtain ⟨h1, h2, h3⟩ := latchSnap_of_writing (d := d) hw true
    exact ⟨_, exec_periodicSnapshot ha hc hp hd hk hb hr hl, h1, h2, rfl, h3⟩
  · intro s w ha hw
    obtain ⟨h1, h2⟩ := completed_bufs s.snap w
    obtain ⟨ho, hs⟩ := raiseAs_of_room (co := false) (e := 254) (c := if w.periodic then 1 else 2) (d := 0)
      (a := w.seq.toNat) (dt := w.dt) (evFull_handlebar { s with snap := Snap.completed s.snap w } (by decide))
    have he : exec .snapshotComplete s = .next (raise 254 (if w.periodic then 1 else 2) 0 w.seq.toNat w.dt
        { s with snap := Snap.completed s.snap w }) := by
      rw [exec, execSnapshotComplete, if_pos ha, completeSnap_of_some hw]
    refine ⟨_, he, ?_, ?_, ?_, ?_, ho, ?_⟩
    · rw [raise_snap, completed_latest]
    · rw [raise_snap, completed_writing]
    · rw [raise_snap, h1]
    · rw [raise_snap, h2]
    · rw [raise_snap]; exact hs

end Sys2Proof.Proofs
end

section
/-! The commit unit's operations (O11, O12): messages to the islands, issue, refusal, and cells on the ring's links. -/

namespace Sys2Proof.Proofs

open Sys2Proof.Machine Sys2Proof.Laws

/-! ### Messages to the islands (R25) -/

/-- A message to every island of R49 changes the islands alone. -/
theorem overIslands_sendIsl_eq (m : CommitMsg) (s : State) :
    overIslands (sendIsl m) s = { s with isl := (overIslands (sendIsl m) s).isl } :=
  with_eq (q := { isl := true }) (outside_overIslands _ _ fun i t => outside_sendIsl m i t rfl)

theorem island_congr {s t : State} (h : t.isl = s.isl) (j : IslandId) : t.island j = s.island j := by
  rw [State.island, State.island, h]

/-- What a message to the islands of R49 makes of their channels. -/
theorem inbox_overIslands_sendIsl (m : CommitMsg) (s : State) (j : IslandId) :
    ((overIslands (sendIsl m) s).island j).inbox =
      if j.val < 0x56 ∧ j.val ≠ 0x53 then (s.island j).inbox ++ [m] else (s.island j).inbox := by
  simp only [overIslands_sendIsl_island, and_comm (a := j.val ≠ 0x53)]
  split <;> rfl

section
variable (m : CommitMsg) (s : State)

@[simp] theorem overIslands_sendIsl_commit : (overIslands (sendIsl m) s).commit = s.commit := by
  rw [overIslands_sendIsl_eq]
@[simp] theorem overIslands_sendIsl_pacer : (overIslands (sendIsl m) s).pacer = s.pacer := by rw [overIslands_sendIsl_eq]
@[simp] theorem overIslands_sendIsl_stoker : (overIslands (sendIsl m) s).stoker = s.stoker := by rw [overIslands_sendIsl_eq]

end

/-! ### Prepare (R25) -/

section
variable (src : CommitSrc) (reach : Reach) (d : DT) (g : Word) (own : Vector (BitVec 64) 4) (s : State)

@[simp] theorem prepareAll_pend : (prepareAll src reach d g own s).commit.pend =
    some ⟨src, reach, d, g, own, commitIslands.map (·.val), false, false, s.commitCycle⟩ := rfl
@[simp] theorem prepareAll_state : (prepareAll src reach d g own s).commit.state = 1 := rfl
@[simp] theorem prepareAll_src : (prepareAll src reach d g own s).commit.src = src.isThread := rfl
@[simp] theorem prepareAll_autoAt : (prepareAll src reach d g own s).commit.autoAt = s.commit.autoAt := by
  simp [prepareAll, setStatus]
@[simp] theorem prepareAll_pacer : (prepareAll src reach d g own s).pacer = s.pacer := by simp [prepareAll, setStatus]
@[simp] theorem prepareAll_stoker : (prepareAll src reach d g own s).stoker = s.stoker := by simp [prepareAll, setStatus]

theorem prepareAll_isl : (prepareAll src reach d g own s).isl = (overIslands (sendIsl (.prepare d g own)) s).isl := by
  simp only [prepareAll, setStatus_isl]

theorem prepareAll_inbox (j : IslandId) : ((prepareAll src reach d g own s).island j).inbox =
    if j.val < 0x56 ∧ j.val ≠ 0x53 then (s.island j).inbox ++ [.prepare d g own] else (s.island j).inbox := by
  rw [← inbox_overIslands_sendIsl, island_congr (prepareAll_isl src reach d g own s)]

end

/-! ### Issue (R23 to R29) -/

section
variable {s : State} {src : CommitSrc} {d : DT} {g : Word}

/-- A commit of a newer generation, issued with its lead while none keeps its place, has no cause against it. -/
theorem issueCause_of_ok (hp : (s.commit.pend.any fun p => !s.givesPlace src p) = false)
    (hg : newer g s.commit.gen = true) (hl : (dtAdd (s.replica islHandlebar) (leadOf s.reach)).toNat ≤ d.toNat) :
    s.issueCause src d g = 0 := by
  rw [State.issueCause, hp, hg, if_neg (by decide), if_neg (by decide), if_neg (by omega)]

theorem clearPlace_of_none (h : s.commit.pend = none) : clearPlace s = s := by simp [clearPlace, h]

/-- A commit issued in a lone module that holds none. -/
theorem issueCommit_alone (hp : s.commit.pend = none) (hc : s.issueCause src d g = 0) (hr : s.reach = .alone) :
    issueCommit src d g s = prepareAll src .alone d g s.ownMasks s := by
  simp [issueCommit, hc, hr, hp, clearPlace_of_none hp, refuseDisplaced]

/-- The commit unit of a stack's module as it sends its REQUEST. -/
def requested (src : CommitSrc) (d : DT) (g : Word) (s : State) : State :=
  setStatus src 1 0 0xFF 0 false { s with commit := { s.commit with
    answers := [], pend := some ⟨src, s.reach, d, g, s.ownMasks, [], false, false, s.commitCycle⟩ } }

/-- A commit issued in a stack's module that holds none. -/
theorem issueCommit_stacked (hp : s.commit.pend = none) (hc : s.issueCause src d g = 0) (hr : s.reach ≠ .alone) :
    issueCommit src d g s = sendRequest false d g 0 (requested src d g s) := by
  simp [issueCommit, hc, hr, hp, clearPlace_of_none hp, refuseDisplaced, requested]

theorem reach_of_stacked (h : s.stacked = true) : s.reach = if s.pairWide then .pair else .stack := by
  simp [State.reach, h]

end

/-! ### Refusals -/

section
variable (src : CommitSrc) (d : DT) (g : Word) (c isl pos : Nat) (side : Bool) (s : State)

@[simp] theorem sayRefused_pend : (sayRefused src d g c isl pos side s).commit.pend = s.commit.pend := by
  cases src <;> simp [sayRefused]
@[simp] theorem sayRefused_answers : (sayRefused src d g c isl pos side s).commit.answers = s.commit.answers := by
  cases src <;> simp [sayRefused]
@[simp] theorem sayRefused_state : (sayRefused src d g c isl pos side s).commit.state = 3 := by
  cases src <;> simp [sayRefused]
@[simp] theorem sayRefused_src : (sayRefused src d g c isl pos side s).commit.src = src.isThread := by
  cases src <;> simp [sayRefused]
@[simp] theorem sayRefused_cause : (sayRefused src d g c isl pos side s).commit.cause = BitVec.ofNat 4 c := by
  cases src <;> simp [sayRefused]
@[simp] theorem sayRefused_island : (sayRefused src d g c isl pos side s).commit.island = BitVec.ofNat 8 isl := by
  cases src <;> simp [sayRefused]
@[simp] theorem sayRefused_isl : (sayRefused src d g c isl pos side s).isl = s.isl := by
  cases src <;> simp [sayRefused]
@[simp] theorem sayRefused_island_get (j : IslandId) : (sayRefused src d g c isl pos side s).island j = s.island j := by
  simp [State.island]
@[simp] theorem sayRefused_stoker : (sayRefused src d g c isl pos side s).stoker = s.stoker := by
  cases src <;> simp [sayRefused, setStatus]
@[simp] theorem sayRefused_locked : (sayRefused src d g c isl pos side s).pacer.locked = s.pacer.locked := by
  cases src <;> simp [sayRefused, setStatus]
@[simp] theorem sayRefused_thread (p : ThreadId) : (sayRefused src d g c isl pos side s).thread p = s.thread p := by
  cases src <;> simp [sayRefused, setStatus, State.thread]

end

/-- The commit unit after it has given up the pending commit: every island it told of that is told to abandon it, the bank
lock ends, and SEL counts as written again (R26, R130, R229). -/
def abandoned (p : PendingCommit) (s : State) : State :=
  let s1 := if p.awaiting.isEmpty && !p.armedAll then s else overIslands (sendIsl .abandon) s
  { s1 with
    commit := { s1.commit with pend := none, answers := [] }, pacer := { s1.pacer with locked := false }
    hub := { s1.hub with selWritten := s1.hub.selWritten || s1.hub.selArmed, selArmed := false } }

section
variable {s : State} {p : PendingCommit}

theorem refusePending_of_some (h : s.commit.pend = some p) (c isl pos : Nat) (side : Bool) :
    refusePending c isl pos side s = sayRefused p.src p.dtEff p.gen c isl pos side (abandoned p s) := by
  rw [refusePending, h]
  rfl

@[simp] theorem abandoned_pend : (abandoned p s).commit.pend = none := rfl
@[simp] theorem abandoned_answers : (abandoned p s).commit.answers = [] := rfl
@[simp] theorem abandoned_locked : (abandoned p s).pacer.locked = false := rfl
@[simp] theorem abandoned_stoker : (abandoned p s).stoker = s.stoker := by
  simp only [abandoned]
  split <;> simp

theorem abandoned_inbox (h : p.awaiting ≠ []) (j : IslandId) : ((abandoned p s).island j).inbox =
    if j.val < 0x56 ∧ j.val ≠ 0x53 then (s.island j).inbox ++ [.abandon] else (s.island j).inbox := by
  have he : p.awaiting.isEmpty = false := by simpa using h
  have hi : (abandoned p s).isl = (overIslands (sendIsl .abandon) s).isl := by
    simp only [abandoned, he, Bool.false_and, Bool.false_eq_true, if_false]
  rw [← inbox_overIslands_sendIsl, island_congr hi]

end

end Sys2Proof.Proofs
end

section
/-! Cells on the ring's links (O11): a cell originated stands in both queues or has begun, and all but the links is as it
was. -/

namespace Sys2Proof.Proofs

open Sys2Proof.Machine Sys2Proof.Laws

/-! ### A cell that a link carries (R322, R323) -/

theorem setFree_wait (k : Stoker) (prt : RingPort) (t : Nat) : (k.setFree prt t).wait = k.wait := by cases prt <;> rfl
theorem setFree_out (k : Stoker) (prt : RingPort) (t : Nat) : (k.setFree prt t).out = k.out := by cases prt <;> rfl
theorem setEst_out (k : Stoker) (prt : RingPort) (e : Estim) : (k.setEst prt e).out = k.out := by cases prt <;> rfl

/-- A cell that begins is out; what was out stays out. -/
theorem beginCell_out (m : RingPort × Option Octets) (s : State) : ∃ b, (∀ c, m.2 = some c → b = c) ∧
    (beginCell m s).stoker.out = s.stoker.out ++ [(m.1, b)] := by
  obtain ⟨prt, _ | b⟩ := m
  · exact ⟨mkCell s 2 0 true (hopstampBody s prt), by simp, by simp [beginCell, setEst_out, setFree_out]⟩
  · exact ⟨b, by simp, by simp [beginCell, setFree_out]⟩

/-- A link that begins a cell carries what it carried. -/
theorem carries_beginCell {s : State} {prt : RingPort} {cell : Octets} (m : RingPort × Option Octets)
    (h : s.stoker.carries prt cell) : (beginCell m s).stoker.carries prt cell := by
  obtain ⟨b, hb, hout⟩ := beginCell_out m s
  rw [Stoker.carries, beginCell_wait, hout]
  rcases h with h | h
  · by_cases hm : (prt, some cell) = m
    · subst hm
      exact Or.inr (by simp [hb cell rfl])
    · exact Or.inl ((List.mem_erase_of_ne hm).2 h)
  · exact Or.inr (List.mem_append_left _ h)

theorem carries_runLink {s : State} {prt : RingPort} {cell : Octets} (link : RingPort) (h : s.stoker.carries prt cell) :
    (runLink link s).stoker.carries prt cell := by
  unfold runLink
  split
  · exact h
  · split
    · exact carries_beginCell _ h
    · exact h

/-- A cell sent joins those its link carries. -/
theorem carries_sendCell_self (s : State) (prt : RingPort) (cell : Octets) :
    (sendCell prt (some cell) s).stoker.carries prt cell :=
  carries_runLink prt (Or.inl (by simp [State.modStoker]))

theorem carries_sendCell {s : State} {prt : RingPort} {cell : Octets} (link : RingPort) (m : Option Octets)
    (h : s.stoker.carries prt cell) : (sendCell link m s).stoker.carries prt cell :=
  carries_runLink link (h.imp (List.mem_append_left _) id)

@[simp] theorem relay_stoker (cell : Octets) (s : State) : (relay cell s).stoker = s.stoker := by
  unfold relay
  split <;> rfl

/-- A cell flooded is carried by both links. -/
theorem carries_flood (cell : Octets) (s : State) (prt : RingPort) : (flood cell s).stoker.carries prt cell := by
  have h : (sendCell .p (some cell) (sendCell .n (some cell) s)).stoker.carries prt cell := by
    cases prt with
    | n => exact carries_sendCell .p _ (carries_sendCell_self _ _ _)
    | p => exact carries_sendCell_self _ _ _
  unfold flood
  split
  · rw [relay_stoker]; exact h
  · exact h

/-- A cell that a module of the ring originates is carried by both links. -/
theorem carries_originate {s : State} (h : s.stoker.st ≠ 6) (ty dest : Nat) (all : Bool) (body : Octets) (prt : RingPort) :
    (originate ty dest all body s).stoker.carries prt (mkCell s ty dest all body) := by
  have hne : (s.stoker.st == 6) = false := by simpa using h
  simp only [originate, hne, Bool.false_eq_true, if_false]
  exact carries_flood _ _ _

/-! ### What the links leave alone -/

/-- Two states of Stoker that differ in its links at most: their queues, what is out, when they are free, what is kept for
their exchanges, and SEQ. -/
def SameButLinks (k k' : Stoker) : Prop :=
  ∃ wait out freeN freeP estN estP seq, k' = { k with
    wait := wait, out := out, freeN := freeN, freeP := freeP, estN := estN, estP := estP, seq := seq }

theorem sameButLinks_refl (k : Stoker) : SameButLinks k k := ⟨_, _, _, _, _, _, _, rfl⟩

theorem SameButLinks.trans {k₁ k₂ k₃ : Stoker} (h : SameButLinks k₁ k₂) (h' : SameButLinks k₂ k₃) : SameButLinks k₁ k₃ := by
  obtain ⟨_, _, _, _, _, _, _, rfl⟩ := h
  obtain ⟨_, _, _, _, _, _, _, rfl⟩ := h'
  exact ⟨_, _, _, _, _, _, _, rfl⟩

theorem sameButLinks_beginCell (m : RingPort × Option Octets) (s : State) :
    SameButLinks s.stoker (beginCell m s).stoker := by
  obtain ⟨prt, b⟩ := m
  cases prt <;> cases b <;> exact ⟨_, _, _, _, _, _, _, rfl⟩

theorem sameButLinks_sendCell (prt : RingPort) (m : Option Octets) (s : State) :
    SameButLinks s.stoker (sendCell prt m s).stoker := by
  have h : SameButLinks s.stoker (s.modStoker fun k => { k with wait := k.wait ++ [(prt, m)] }).stoker :=
    ⟨_, _, _, _, _, _, _, rfl⟩
  unfold sendCell runLink
  split
  · exact h
  · split
    · exact h.trans (sameButLinks_beginCell _ _)
    · exact h

theorem sameButLinks_originate (ty dest : Nat) (all : Bool) (body : Octets) (s : State) :
    SameButLinks s.stoker (originate ty dest all body s).stoker := by
  have hflood (cell : Octets) (t : State) : SameButLinks t.stoker (flood cell t).stoker := by
    have h := (sameButLinks_sendCell .n (some cell) t).trans (sameButLinks_sendCell .p (some cell) _)
    unfold flood
    split
    · rw [relay_stoker]; exact h
    · exact h
  unfold originate
  split
  · exact sameButLinks_refl _
  · exact .trans ⟨_, _, _, _, _, _, _, rfl⟩ (hflood _ _)

/-- A cell that is originated changes Stoker's links and what crosses the Pair lane. -/
theorem originate_eq (ty dest : Nat) (all : Bool) (body : Octets) (s : State) :
    originate ty dest all body s = { s with
      stoker := (originate ty dest all body s).stoker, pair := (originate ty dest all body s).pair } :=
  with_eq (q := { stoker := true, pair := true }) (outside_originate _ _ _ _ _ rfl rfl)

@[simp] theorem relay_side (cell : Octets) (s : State) : (relay cell s).pair.side = s.pair.side := by
  unfold relay
  split <;> rfl

theorem sendCell_pair (prt : RingPort) (m : Option Octets) (s : State) : (sendCell prt m s).pair = s.pair := by
  have h := with_eq (q := { stoker := true }) (outside_sendCell prt m s rfl)
  rw [h]
  rfl

@[simp] theorem originate_side (ty dest : Nat) (all : Bool) (body : Octets) (s : State) :
    (originate ty dest all body s).pair.side = s.pair.side := by
  unfold originate flood
  split
  · rfl
  · dsimp only
    split <;> simp only [relay_side, sendCell_pair, State.modStoker]

end Sys2Proof.Proofs
end

section
/-! Commits from issue to decision (O11). -/

namespace Sys2Proof.Proofs

open Sys2Proof.Machine Sys2Proof.Laws

/-! ### Issue by the host and by restart (R23, R257, R336) -/

/-- The host's COMMIT as it stands in the registers. -/
def hostCommit (s : State) : State := issueCommit .host (dtAt s.imm 0x200) (s.immAt 0x20C) s

theorem exec_commitGo {s : State} (h : s.hostReach = true) : exec .commitGo s = .next (hostCommit s) := by
  rw [exec, execCommitGo, byHost_of_reach h, hostCommit]

theorem issueCause_of_none {s : State} {src : CommitSrc} {d : DT} {g : Word} (hp : s.commit.pend = none)
    (hg : newer g s.commit.gen = true) (hl : (dtAdd (s.replica islHandlebar) (leadOf s.reach)).toNat ≤ d.toNat) :
    s.issueCause src d g = 0 :=
  issueCause_of_ok (by simp [hp]) hg hl

theorem leadOf_alone {s : State} (h : s.reach = .alone) : leadOf s.reach = 8192000 := by rw [h]; rfl

theorem reach_ne_alone {s : State} (h : s.stacked = true) : s.reach ≠ .alone := by
  rw [reach_of_stacked h]
  split <;> simp

/-! ### A MEMBER's REQUEST (R336) -/

theorem commitCycle_congr {s t : State} (hc : t.clock = s.clock) (hp : t.phase = s.phase) :
    t.commitCycle = s.commitCycle := by
  have h : t.islCycle islHandlebar = s.islCycle islHandlebar := rfl
  rw [State.commitCycle, State.commitCycle, State.islEdges, State.islEdges, hc, hp, h]

@[simp] theorem requested_stoker (src : CommitSrc) (d : DT) (g : Word) (s : State) :
    (requested src d g s).stoker = s.stoker := rfl

/-- A MEMBER sends its REQUEST to the Captain. -/
theorem sendRequest_of_member {s : State} (h : s.stoker.st = 2) (d : DT) (g : Word) :
    sendRequest false d g 0 s = originate 4 s.stoker.captPos.toNat false (cellBody d g s.ident 0) s := by
  have h3 : ¬ (s.stoker.st == 3) = true := by rw [h]; decide
  rw [sendRequest, if_neg h3]
  rfl

/-! ### A Captain's PREPARE (R336, R337) -/

/-- The commit unit holds the commit it asks the Captain, which it is itself, for. -/
theorem requested_pend_isFor {s : State} {src : CommitSrc} {d : DT} {g : Word} (h : s.reach ≠ .alone) :
    (requested src d g s).commit.pend.any (·.isFor d g) = true := by
  simp [requested, setStatus, PendingCommit.isFor, h]

/-- A Captain's request of its own meets nothing else pending. -/
theorem holdsOther_requested {s : State} {src : CommitSrc} {d : DT} {g : Word} (hc : s.stoker.coord = none)
    (hn : s.noon.step = none) (h : s.reach ≠ .alone) : (requested src d g s).holdsOther false d g = false := by
  simp [State.holdsOther, requested, setStatus, hc, hn, PendingCommit.isFor, h]

/-- The coordinator's record of a commit of its own. -/
def ownRecord (d : DT) (g : Word) (s : State) : CoordRec :=
  ⟨BitVec.ofNat 4 s.stoker.pos.toNat, s.pair.side, false, d, g, 0, if s.pairWide then .pair else .stack,
    ((s.stoker.pos.toNat :: s.stoker.members).map fun m => (m, s.pair.side)) ++
      if s.pairWide then s.stoker.otherMembers.map fun m => (m, !s.pair.side) else []⟩

/-- A Captain that floods its own PREPARE holds the record of its commit. -/
def preparing (d : DT) (g : Word) (s : State) : State :=
  originate 5 0 true (cellBody d g s.ident 0) { s with stoker := { s.stoker with coord := some (ownRecord d g s) } }

theorem coordRequest_of_free {s : State} {d : DT} {g : Word} (h : s.holdsOther false d g = false) :
    coordRequest s.stoker.pos.toNat false d g 0 s =
      onPrepare ⟨s.pair.side, s.stoker.pos.toNat, false, d, g, 0, false, false⟩ (preparing d g s) := by
  simp only [coordRequest, h, Bool.false_eq_true, if_false, preparing, ownRecord, b1]

/-- A Captain's own PREPARE meets nothing here that gives way to it. -/
theorem onPrepare_of_own {s : State} {a : ArmedRec} (hside : a.side = s.pair.side) (hs : a.step = false) :
    onPrepare a s = armCommit a s := by
  have h : (s.pair.side && !a.side) = false := by rw [hside, Bool.and_not_self]
  simp only [onPrepare, h, hs, Bool.false_eq_true, if_false]
  cases s.stoker.coord <;> rfl

/-- The commit unit prepares its islands for the commit that it asked for itself. -/
theorem armCommit_of_own {s : State} {a : ArmedRec} {p : PendingCommit} (hp : s.commit.pend = some p)
    (hf : p.isFor a.dtEff a.gen = true) (hn : s.stoker.armed = none) (hside : a.side = s.pair.side) :
    armCommit a s = prepareAll p.src (if s.pairWide then .pair else .stack) a.dtEff a.gen p.own
      { s with stoker := { s.stoker with armed := some a } } := by
  simp only [armCommit, hp, hf, hn, Option.isNone_none, Bool.and_self, if_true, hside, beq_self_eq_true, Bool.true_and]
  cases s.pairWide <;> rfl

section
variable (d : DT) (g : Word) (s : State)

theorem preparing_stoker : SameButLinks { s.stoker with coord := some (ownRecord d g s) } (preparing d g s).stoker :=
  sameButLinks_originate _ _ _ _ _

@[simp] theorem preparing_commit : (preparing d g s).commit = s.commit := by rw [preparing, originate_eq]
@[simp] theorem preparing_clock : (preparing d g s).clock = s.clock := by rw [preparing, originate_eq]
@[simp] theorem preparing_phase : (preparing d g s).phase = s.phase := by rw [preparing, originate_eq]
@[simp] theorem preparing_isl : (preparing d g s).isl = s.isl := by rw [preparing, originate_eq]
@[simp] theorem preparing_side : (preparing d g s).pair.side = s.pair.side := by rw [preparing, originate_side]

@[simp] theorem preparing_armed : (preparing d g s).stoker.armed = s.stoker.armed := by
  obtain ⟨_, _, _, _, _, _, _, h⟩ := preparing_stoker d g s
  rw [h]

@[simp] theorem preparing_pairWide : (preparing d g s).pairWide = s.pairWide := by
  obtain ⟨_, _, _, _, _, _, _, h⟩ := preparing_stoker d g s
  simp only [State.pairWide, preparing_clock, preparing_commit, h]

end

/-- A Captain that holds no other commit or step prepares its own islands as it floods its PREPARE. -/
theorem sendRequest_of_captain {s : State} {src : CommitSrc} {d : DT} {g : Word} (hst : s.stoker.st = 3)
    (hc : s.stoker.coord = none) (ha : s.stoker.armed = none) (hn : s.noon.step = none) (hr : s.reach ≠ .alone) :
    ∃ a, sendRequest false d g 0 (requested src d g s) =
      prepareAll src (if s.pairWide then .pair else .stack) d g s.ownMasks
        { preparing d g (requested src d g s) with
          stoker := { (preparing d g (requested src d g s)).stoker with armed := some a } } := by
  have h3 : ((requested src d g s).stoker.st == 3) = true := by simp [hst]
  have hf : (PendingCommit.mk src s.reach d g s.ownMasks [] false false s.commitCycle).isFor d g = true := by
    simp [PendingCommit.isFor, hr]
  refine ⟨⟨s.pair.side, s.stoker.pos.toNat, false, d, g, 0, false, false⟩, ?_⟩
  rw [sendRequest, if_pos h3, coordRequest_of_free (holdsOther_requested hc hn hr),
    onPrepare_of_own (by simp) rfl, armCommit_of_own (by rw [preparing_commit]; rfl) hf (by simp [ha]) (by simp),
    preparing_pairWide]
  rfl

/-! ### The host's commit takes a thread's place (R29) -/

/-- A lone module's commit of a thread, of this cycle and without an answer, gives its place to the host's. -/
theorem givesPlace_of_thread {s : State} {p : PendingCommit} {q : ThreadId} (hsrc : p.src = .thread q)
    (hr : p.reach = .alone) (ha : p.armedAll = false) (hc : p.cycle = s.commitCycle) (hn : s.commit.answers = []) :
    s.givesPlace .host p = true := by
  simp [State.givesPlace, hsrc, hr, ha, hc, hn, CommitSrc.rank]
  omega

theorem clearPlace_eq (s : State) : clearPlace s = { s with isl := (clearPlace s).isl, commit := (clearPlace s).commit } :=
  with_eq (q := { isl := true, commit := true }) (outside_clearPlace s rfl rfl)

/-- A commit issued over one that gives its place. -/
theorem issueCommit_over {s : State} {src : CommitSrc} {d : DT} {g : Word} {p : PendingCommit} (hp : s.commit.pend = some p)
    (hc : s.issueCause src d g = 0) (hr : s.reach = .alone) :
    issueCommit src d g s = answerBusy p.src (sayRefused p.src p.dtEff p.gen 3 0xFF 0 false
      (prepareAll src .alone d g s.ownMasks (clearPlace s))) := by
  simp [issueCommit, hc, hr, hp, refuseDisplaced]

/-- The thread whose commit gave its place finds BUSY as its answer. -/
theorem answerBusy_of_waiting {s : State} {q : ThreadId} {gr : Fin 8} {ans : Option (BitVec 4)}
    (h : (s.thread q).waitOn = .commit gr ans) :
    answerBusy (.thread q) s = s.setThread q { s.thread q with waitOn := .commit gr (some 3) } := by
  simp only [answerBusy, State.modThread, h]

/-! ### Answers (R25, R26) -/

theorem foldl_least (l : List CommitAns) (a : CommitAns) :
    let r := l.foldl (fun m b => if b.island < m.island then b else m) a
    r.island ≤ a.island ∧ ∀ b ∈ l, r.island ≤ b.island := by
  induction l generalizing a with
  | nil => simp
  | cons c l ih =>
    obtain ⟨hl, hr⟩ := ih (if c.island < a.island then c else a)
    have hc : (if c.island < a.island then c else a).island ≤ a.island ∧
        (if c.island < a.island then c else a).island ≤ c.island := by split <;> omega
    refine ⟨hl.trans hc.1, fun b hb => ?_⟩
    rcases List.mem_cons.1 hb with rfl | hb
    · exact hl.trans hc.2
    · exact hr b hb

/-- Of the refusals given in one cycle the lowest-numbered island's counts (R25). -/
theorem firstRefusal_le {s : State} {a b : CommitAns} (hb : b ∈ s.commit.answers) (hc : b.cause.isSome = true)
    (hy : b.cycle = a.cycle) : (s.firstRefusal a).island ≤ b.island :=
  (foldl_least _ a).2 b (List.mem_filter.2 ⟨hb, by simp [hc, hy]⟩)

/-- A refused commit of the commit unit. -/
theorem refusePending_facts {s : State} {p : PendingCommit} (hp : s.commit.pend = some p) (ha : p.awaiting ≠ []) (c isl : Nat) :
    let t := refusePending c isl 0 false s
    t.commit.pend = none ∧ t.commit.answers = [] ∧ t.commit.state = 3 ∧ t.commit.src = p.src.isThread ∧
      t.commit.cause = BitVec.ofNat 4 c ∧ t.commit.island = BitVec.ofNat 8 isl ∧ t.pacer.locked = false ∧
      ∀ j : IslandId, (t.island j).inbox = if j.val < 0x56 ∧ j.val ≠ 0x53
        then (s.island j).inbox ++ [.abandon] else (s.island j).inbox := by
  rw [refusePending_of_some hp]
  simp [abandoned_inbox ha]

section
variable {s : State} {i : IslandId} {p : PendingCommit}

/-- The commit as it stands with one island's Armed taken. -/
def taken (i : IslandId) (p : PendingCommit) (s : State) : State := { s with commit := { s.commit with
  answers := s.commit.answers.eraseP (·.armedBy i.val)
  pend := some { p with awaiting := p.awaiting.filter (· != i.val), armedAll := (p.awaiting.filter (· != i.val)).isEmpty } } }

section
variable (hp : s.commit.pend = some p) (ha : s.commit.answers.any (·.armedBy i.val) = true)
  (hd : dtLe (s.replica islHandlebar) (dtSub p.dtEff 2048000) = true)
include hp ha hd

theorem exec_armed_of_awaiting (hl : p.awaiting.filter (· != i.val) ≠ []) : exec (.armed i) s = .next (taken i p s) := by
  have he : (p.awaiting.filter (· != i.val)).isEmpty = false := by simpa only [List.isEmpty_eq_false_iff] using hl
  simp only [exec, execArmed, hp, ha, hd, he, Bool.and_self, Bool.not_false, if_true, taken]

theorem exec_armed_of_alone (hl : p.awaiting.filter (· != i.val) = []) (hr : p.reach = .alone) :
    exec (.armed i) s = .next (confirmAll (taken i p s)) := by
  simp only [exec, execArmed, hp, ha, hd, hl, hr, Bool.and_self, List.isEmpty_nil, Bool.not_true, Bool.false_eq_true,
    if_true, if_false, taken]

theorem exec_armed_of_stacked {a : ArmedRec} (hl : p.awaiting.filter (· != i.val) = []) (hr : p.reach ≠ .alone)
    (hs : s.stoker.armed = some a) : exec (.armed i) s = .next (answerCoord a true 0 0xFF
      { taken i p s with stoker := { s.stoker with armed := some { a with answered := true } } }) := by
  simp only [exec, execArmed, hp, ha, hd, hl, hr, hs, Bool.and_self, List.isEmpty_nil, Bool.not_true, Bool.false_eq_true,
    if_true, if_false, taken]

end

section
variable {a : CommitAns} (hp : s.commit.pend = some p) (ha : s.commit.answers.find? (·.refusedBy i.val) = some a)
include hp ha

theorem exec_notArmed_of_alone (hr : p.reach = .alone) : exec (.notArmed i) s =
    .next (refusePending ((s.firstRefusal a).cause.getD 0).toNat (s.firstRefusal a).island 0 false s) := by
  simp only [exec, execNotArmed, hp, ha, hr, if_true]

theorem exec_notArmed_of_stacked {r : ArmedRec} {u : State} (hr : p.reach ≠ .alone) (hs : s.stoker.armed = some r)
    (hu : u = refusePending ((s.firstRefusal a).cause.getD 0).toNat (s.firstRefusal a).island 0 false s) :
    exec (.notArmed i) s = .next (answerCoord r false ((s.firstRefusal a).cause.getD 0).toNat (s.firstRefusal a).island
      { u with stoker := { u.stoker with armed := none } }) := by
  simp only [exec, execNotArmed, hp, ha, if_neg hr, hs, hu]

end

theorem exec_noarmDeadline {i : Nat} (hp : s.commit.pend = some p) (hi : p.awaiting.min? = some i)
    (hc : p.confirmed = false) (hd : dtLe (dtSub p.dtEff 2048000) (s.replica islHandlebar) = true) :
    exec .noarmDeadline s = .next (refusePending 6 i 0 false s) := by
  simp [exec, execNoarmDeadline, hp, hi, hc, hd]

end

theorem confirmAll_pend {s : State} {p : PendingCommit} (h : s.commit.pend = some p) :
    (confirmAll s).commit.pend = some { p with confirmed := true } := by
  simp [confirmAll, h]

theorem confirmAll_inbox {s : State} {p : PendingCommit} (h : s.commit.pend = some p) (j : IslandId) :
    ((confirmAll s).island j).inbox =
      if j.val < 0x56 ∧ j.val ≠ 0x53 then (s.island j).inbox ++ [.confirm] else (s.island j).inbox := by
  have hi : (confirmAll s).isl = (overIslands (sendIsl .confirm) s).isl := by simp [confirmAll, h]
  rw [← inbox_overIslands_sendIsl, island_congr hi]

/-! ### The automatic restart commit (R257) -/

/-- A generation is followed by a newer one. -/
theorem newer_succ (g : Word) : newer (g + 1) g = true := by
  simp [newer]

/-- The commit unit no longer waits to issue the restart commit again. -/
def autoTaken (s : State) : State := { s with commit := { s.commit with autoAt := none } }

theorem autoRestart_of_alone {s : State} (hp : s.commit.pend = none) (hr : s.reach = .alone) :
    autoRestart (s.replica islHandlebar) s = prepareAll .auto .alone (dtAdd (s.replica islHandlebar) 8192000)
      (s.commit.gen + 1) s.ownMasks (autoTaken s) := by
  have hc : (autoTaken s).issueCause .auto (dtAdd (s.replica islHandlebar) 8192000) (s.commit.gen + 1) = 0 := by
    refine issueCause_of_none hp (newer_succ _) ?_
    rw [leadOf_alone (s := autoTaken s) hr]
    exact le_rfl
  exact issueCommit_alone (s := autoTaken s) hp hc hr

theorem exec_autorestartRetry {s : State} {a : Nat} (ha : s.commit.autoAt = some a) (hle : a ≤ s.clock)
    (hh : s.hub.hold = true) : exec .autorestartRetry s = .next (autoRestart (s.replica islHandlebar) s) := by
  simp [exec, execAutorestartRetry, ha, hle, hh]

/-- Settles O11: each issue by the state its cause leaves it, each answer by what it does to those awaited. -/
theorem commitIssueCompletes : Obligations.CommitIssueCompletes := by
  unfold Obligations.CommitIssueCompletes
  and_intros
  · intro s hr hal hp hg hl
    refine ⟨_, exec_commitGo hr, ?_⟩
    rw [hostCommit, issueCommit_alone hp (issueCause_of_none hp hg (by rw [leadOf_alone hal]; exact hl)) hal]
    exact ⟨rfl, rfl, rfl, prepareAll_inbox _ _ _ _ _ _⟩
  · intro s hr hst hp hg hl
    have hne : s.reach ≠ .alone := reach_ne_alone (by simp [State.stacked, hst])
    refine ⟨_, exec_commitGo hr, ?_⟩
    rw [hostCommit, issueCommit_stacked hp (issueCause_of_none hp hg hl) hne, sendRequest_of_member (s := requested _ _ _ s) hst]
    refine ⟨?_, ?_, fun i => ?_, carries_originate (by simp [hst]) _ _ _ _⟩
    all_goals rw [originate_eq]; rfl
  · rintro s hr hst ⟨hc, ha, hn⟩ hp hg hl
    have hs : s.stacked = true := by simp [State.stacked, hst]
    have hne := reach_ne_alone hs
    obtain ⟨a, he⟩ := sendRequest_of_captain (src := .host) (d := dtAt s.imm 0x200) (g := s.immAt 0x20C) hst hc ha hn hne
    refine ⟨_, exec_commitGo hr, ?_⟩
    rw [hostCommit, issueCommit_stacked hp (issueCause_of_none hp hg hl) hne, he, ← reach_of_stacked hs]
    refine ⟨?_, rfl, fun i h1 h2 => ?_, fun prt => ?_⟩
    · rw [prepareAll_pend, commitCycle_congr (s := s)]
      · exact preparing_clock _ _ _
      · exact preparing_phase _ _ _
    · rw [prepareAll_inbox, if_pos ⟨h1, h2⟩, island_congr (s := s)]
      exact preparing_isl _ _ _
    · rw [prepareAll_stoker]
      exact carries_originate (s := { requested _ _ _ s with stoker := _ }) (by simp [hst]) _ _ _ _ prt
  · rintro s p q gr ans hr hal hp ⟨hsrc, hpr, haa, hcy, han⟩ hw hg hl
    have hplace := givesPlace_of_thread hsrc hpr haa hcy han
    have hc : s.issueCause .host (dtAt s.imm 0x200) (s.immAt 0x20C) = 0 :=
      issueCause_of_ok (by simp [hp, hplace]) hg (by rw [leadOf_alone hal]; exact hl)
    refine ⟨_, exec_commitGo hr, ?_⟩
    rw [hostCommit, issueCommit_over hp hc hal, hsrc]
    have hthread (c isl pos : Nat) (side : Bool) : ((sayRefused (.thread q) p.dtEff p.gen c isl pos side
        (prepareAll .host .alone (dtAt s.imm 0x200) (s.immAt 0x20C) s.ownMasks (clearPlace s))).thread q).waitOn =
        .commit gr ans := by
      rw [sayRefused_thread, State.thread, prepareAll_pacer, clearPlace_eq]
      exact hw
    rw [answerBusy_of_waiting (hthread _ _ _ _)]
    refine ⟨?_, ?_, fun i h1 h2 => ?_⟩
    · rw [setThread_commit, sayRefused_pend, prepareAll_pend, commitCycle_congr (s := s)]
      all_goals rw [clearPlace_eq]
    · rw [setThread_get]
    · rw [setThread_island, sayRefused_island_get, prepareAll_inbox, if_pos ⟨h1, h2⟩]
      exact List.mem_append_right _ (List.mem_singleton_self _)
  · intro s i p hp ha hd hl
    have he : (p.awaiting.filter (· != i.val)).isEmpty = false := by simpa only [List.isEmpty_eq_false_iff] using hl
    rw [exec_armed_of_awaiting hp ha hd hl, taken, he]
  · intro s i p hp ha hd hl hr
    refine ⟨_, exec_armed_of_alone hp ha hd hl hr, ?_, confirmAll_inbox (s := taken i p s) rfl⟩
    rw [confirmAll_pend (s := taken i p s) rfl, hl]
    rfl
  · intro s i p a hp ha hd hl hr hs
    rw [exec_armed_of_stacked hp ha hd hl hr hs, taken, hl]
    rfl
  · intro s i p a hp ha hr hw
    obtain ⟨h1, h2, h3, h4, h5, h6, h7, h8⟩ :=
      refusePending_facts hp hw ((s.firstRefusal a).cause.getD 0).toNat (s.firstRefusal a).island
    refine ⟨_, exec_notArmed_of_alone hp ha hr, h1, h2, h3, h4, ?_, h6, fun b hb hc hy => firstRefusal_le hb hc hy, h7, h8⟩
    rw [h5, BitVec.ofNat_toNat, BitVec.setWidth_eq]
  · rintro s i p a r u hp ha hr hs rfl
    refine ⟨exec_notArmed_of_stacked hp ha hr hs rfl, ?_, ?_⟩ <;> simp [refusePending_of_some hp]
  · intro s i p hp hi hc hd
    have hw : p.awaiting ≠ [] := by
      intro h
      rw [h] at hi
      cases hi
    obtain ⟨h1, h2, h3, h4, h5, h6, h7, h8⟩ := refusePending_facts hp hw 6 i
    exact ⟨_, exec_noarmDeadline hp hi hc hd, h1, h2, h3, h4, h5, h6, h7, h8⟩
  · intro s a ha hle hh hp hal
    refine ⟨_, exec_autorestartRetry ha hle hh, ?_⟩
    rw [autoRestart_of_alone hp hal]
    refine ⟨by rw [prepareAll_autoAt]; rfl, rfl, rfl, fun i h1 h2 => ?_⟩
    rw [prepareAll_inbox, if_pos ⟨h1, h2⟩]
    rfl

end Sys2Proof.Proofs
end

section
/-! An island's end of the commit channel (O12): Prepare, Confirm, Abandon, and the discard of what was not decided. -/

namespace Sys2Proof.Proofs

open Sys2Proof.Machine Sys2Proof.Laws

section
variable {s : State} {i : IslandId}

@[simp] theorem popChannel_island (s : State) (i : IslandId) :
    (popChannel i s).island i = { s.island i with inbox := (s.island i).inbox.tail } := by
  simp [popChannel]

/-- Taking a message from a channel leaves the copies of every island. -/
theorem popChannel_regs (s : State) (i j : IslandId) : ((popChannel i s).island j).active = (s.island j).active ∧
    ((popChannel i s).island j).gen = (s.island j).gen ∧ ((popChannel i s).island j).retiring = (s.island j).retiring ∧
    ((popChannel i s).island j).retGen = (s.island j).retGen := by
  by_cases h : j = i
  · subst h
    rw [popChannel_island]
    exact ⟨rfl, rfl, rfl, rfl⟩
  · rw [popChannel, State.modIsland, setIsland_get_ne _ _ _ _ h]
    exact ⟨rfl, rfl, rfl, rfl⟩

/-! ### Prepare (R25, R130) -/

section
variable {d : DT} {g : Word} {own : Vector (BitVec 64) 4}

/-- A Prepare of the pending commit arms the island that it reaches, once a swap that still has to come has been made. -/
theorem exec_prepare (hc : s.channel i = some (.prepare d g own))
    (hp : s.commit.pend.any (fun p => p.dtEff == d && p.gen == g) = true)
    (hw : s.gated i = true ∨ (s.island i).pending = none ∨ (s.island i).decided = false) :
    exec (.prepare i) s = .next (arm i d g own (popChannel i s)) := by
  have hno : (!s.gated i && (s.island i).pending.isSome && (s.island i).decided) = false := by
    rcases hw with h | h | h <;> simp [h]
  simp only [exec, execPrepare, hc, hno, hp, Bool.false_eq_true, if_false, if_true]

theorem exec_prepare_of_waiting (hc : s.channel i = some (.prepare d g own)) (hg : s.gated i = false)
    (hp : (s.island i).pending.isSome = true) (hd : (s.island i).decided = true) : exec (.prepare i) s = .next s := by
  simp only [exec, execPrepare, hc, hg, hp, hd, Bool.not_false, Bool.and_self, if_true]

/-- Whether an island arms does not depend on what stands in its channel. -/
theorem armCause_popChannel : (popChannel i s).armCause i own = s.armCause i own := by
  have hg : (popChannel i s).gated i = s.gated i := rfl
  have hh : (popChannel i s).holdsWork i = s.holdsWork i := by
    have hd : (popChannel i s).draining = s.draining := by
      simp only [State.draining, popChannel_regs]
      rfl
    simp only [State.holdsWork, popChannel_island, hd]
    rfl
  have ha : (popChannel i s).givesAway i own = s.givesAway i own := by
    have htag (k : SpokeId) (tag : Word) : (popChannel i s).tagRegs k tag = s.tagRegs k tag := by
      simp only [State.tagRegs, State.genRegs, popChannel_regs]
    simp only [State.givesAway, htag]
    rfl
  rw [State.armCause, State.armCause, hg, hh, ha]

/-- What an island that arms becomes. -/
theorem arm_of_none (h : s.armCause i own = none) :
    let t := arm i d g own s
    t.island i = { s.island i with
        pending := some (s.pendingCopy i own), pendGen := g, pendDt := d, confirmed := false, abandoned := false } ∧
      (∀ j, j ≠ i → t.island j = s.island j) ∧ t.commit.pend = s.commit.pend ∧
      t.commit.answers = s.commit.answers ++ [⟨i.val, none, s.commitCycle⟩] ∧
      t.pacer.locked = if i = islPacer then bit (regGet (s.pendingCopy i own) 0x9000) 0 != s.pacer.bank else s.pacer.locked := by
  have hpc (t : State) (hsh : t.shadow = s.shadow) : t.pendingCopy i own = s.pendingCopy i own := by
    rw [State.pendingCopy, State.pendingCopy, hsh]
  simp only [arm, h, Option.isSome_none, Bool.false_eq_true, if_false]
  by_cases hpac : i = islPacer
  · simp only [if_pos hpac]
    refine ⟨?_, fun j hj => ?_, rfl, rfl, rfl⟩
    · exact get_set _ _ _
    · exact get_set_ne _ _ _ _ hj
  · simp only [if_neg hpac]
    split
    · exact ⟨get_set _ _ _, fun j hj => get_set_ne _ _ _ _ hj, rfl, rfl, rfl⟩
    · exact ⟨get_set _ _ _, fun j hj => get_set_ne _ _ _ _ hj, rfl, rfl, rfl⟩

theorem arm_of_some {c : BitVec 4} (h : s.armCause i own = some c) : arm i d g own s =
    { s with commit := { s.commit with answers := s.commit.answers ++ [⟨i.val, some c, s.commitCycle⟩] } } := by
  simp only [arm, h, Option.isSome_some, if_true]

end

/-! ### Confirm and Abandon (R26) -/

theorem exec_confirm (h : s.channel i = some .confirm) : exec (.confirm i) s = .next (s.setIsland i { s.island i with
    inbox := (s.island i).inbox.tail, confirmed := (s.island i).pending.isSome }) := by
  simp [exec, execConfirm, h, popChannel]

theorem exec_abandon (h : s.channel i = some .abandon) : exec (.abandon i) s = .next (s.setIsland i (
    if (s.island i).confirmed then { s.island i with inbox := (s.island i).inbox.tail }
    else if s.gated i then
      { s.island i with inbox := (s.island i).inbox.tail, abandoned := (s.island i).pending.isSome }
    else { s.island i with inbox := (s.island i).inbox.tail, pending := none })) := by
  simp [exec, execAbandon, h, popChannel]

/-! ### Without a decision (R26, R339) -/

section
variable (hp : (s.island i).pending.isSome = true) (hd : (s.island i).decided = false)
  (ha : (s.island i).abandoned = false) (hi : (s.island i).inbox.contains .abandon = false)
  (ht : dtLe (dtSub (s.island i).pendDt 409600) (s.replica i) = true)
include hp hd ha hi ht

/-- A copy of no stack-wide commit that is pending is discarded, and that is all. -/
theorem exec_pendingCopyDiscard
    (hc : s.commit.pend.all (fun p => p.reach == .alone || p.dtEff != (s.island i).pendDt || p.gen != (s.island i).pendGen) = true) :
    exec (.pendingCopyDiscard i) s = .next (s.setIsland i { s.island i with pending := none }) := by
  simp only [exec, execPendingCopyDiscard, hp, hd, ha, hi, ht, Bool.not_false, Bool.and_self, if_true]
  cases hpend : s.commit.pend with
  | none => rfl
  | some p =>
    have hno : (p.reach != .alone && p.dtEff == (s.island i).pendDt && p.gen == (s.island i).pendGen) = false := by
      rw [hpend] at hc
      simp only [Option.all_some, Bool.or_eq_true, beq_iff_eq, bne_iff_ne] at hc
      rcases hc with (h | h) | h <;> simp [h]
    simp only [hno, Bool.false_eq_true, if_false]

/-- A copy of the stack-wide commit that is pending goes with it, and the module is an orphan of it. -/
theorem exec_pendingCopyDiscard_orphan {p : PendingCommit} (hpend : s.commit.pend = some p)
    (hr : p.reach ≠ .alone ∧ p.dtEff = (s.island i).pendDt ∧ p.gen = (s.island i).pendGen) :
    let u := refusePending 8 0xFF 0 false (s.setIsland i { s.island i with pending := none })
    exec (.pendingCopyDiscard i) s = .next (raiseNow 238 1 0 0
      { u with stoker := { u.stoker with armed := none, orphan := u.stoker.orphan + 1 } }) := by
  obtain ⟨hr, hdt, hg⟩ := hr
  simp only [exec, execPendingCopyDiscard, hp, hd, ha, hi, ht, Bool.not_false, Bool.and_self, if_true,
    hpend, bne_iff_ne.2 hr, hdt, hg, beq_self_eq_true]

end

/-- What abandoning the pending commit does to an island: nothing but a message in its channel. -/
theorem abandoned_island_pending (p : PendingCommit) (j : IslandId) :
    ((abandoned p s).island j).pending = (s.island j).pending := by
  have h : (abandoned p s).isl = s.isl ∨ (abandoned p s).isl = (overIslands (sendIsl .abandon) s).isl := by
    simp only [abandoned]
    split
    · exact .inl rfl
    · exact .inr rfl
  rcases h with h | h
  · rw [island_congr h]
  · rw [island_congr h, overIslands_sendIsl_island]
    split <;> rfl

/-! ### The end of the 1 us after a swap (R66) -/

theorem exec_retireHoldExpiry {k : SpokeId} {d : DT} (hr : (s.spoke k).retainTo = some d) (hc : s.clocked = true)
    (hd : d.toNat ≤ s.dt.toNat) :
    exec (.retireHoldExpiry k) s = .next (releaseRetiring k (s.setSpoke k { s.spoke k with retainTo := none })) := by
  simp [exec, execRetireHoldExpiry, hr, hc, dtLe, hd]

/-- A spoke's retiring copy goes where no work in the queue carries its tag. -/
theorem releaseRetiring_of_expired {k : SpokeId} (h : (s.spoke k).retainTo = none) :
    (releaseRetiring k s).spoke k = s.spoke k ∧
      (releaseRetiring k s).island (islSpoke k) = { s.island (islSpoke k) with
        retiring := if (s.spoke k).queue.any (fun e => e.tag == (s.island (islSpoke k)).retGen && e.tag != (s.island (islSpoke k)).gen)
          then (s.island (islSpoke k)).retiring else none } := by
  rw [releaseRetiring]
  simp only [h, Option.isNone_none, Bool.and_true]
  generalize hx : s.island (islSpoke k) = x
  generalize (s.spoke k).queue.any _ = tagged
  cases tagged with
  | true => simp [hx]
  | false =>
    cases hr : x.retiring with
    | none =>
      have he : { x with retiring := none } = x := by rw [← hr]
      simp [hx, he]
    | some m => simp

end

end Sys2Proof.Proofs
end

section
/-! What the swaps of other islands, the end of a hold and a relock leave of an island (O12): all but a retiring copy that
has no hold time. -/

namespace Sys2Proof.Proofs

open Sys2Proof.Machine Sys2Proof.Laws

/-! ### What is kept of an island -/

/-- How long a spoke's island retains its retiring copy (R66); no other island has a time for that. -/
def retention (j : IslandId) (s : State) : Option DT :=
  if h : j.val < 64 then (s.spoke ⟨j.val, h⟩).retainTo else none

/-- An island's end of the commit channel and its copies, the retiring one only where it is retained. -/
def kept (j : IslandId) (s : State) : Isl × Option DT :=
  ({ s.island j with retiring := if (retention j s).isSome then (s.island j).retiring else none }, retention j s)

theorem kept_congr {j : IslandId} {s t : State} (hi : t.island j = s.island j) (hr : retention j t = retention j s) :
    kept j t = kept j s := by rw [kept, kept, hi, hr]

/-- Every part of the state but the islands and the spokes. -/
def besideCopies : Parts where
  pending := true
  clock := true
  dt := true
  dtRuns := true
  phase := true
  shadow := true
  imm := true
  commit := true
  snap := true
  occs := true
  outbox := true
  posted := true
  mem := true
  flash := true
  pacer := true
  latch := true
  engines := true
  crank := true
  truing := true
  hub := true
  noon := true
  ports := true
  fw := true
  stoker := true
  pair := true
  hb := true
  dyn := true

theorem isl_of_outside {s t : State} (h : t.outside besideCopies = s.outside besideCopies) : t.isl = s.isl := by
  simpa [State.outside, besideCopies] using congrArg State.isl h

/-- What changes neither islands nor spokes keeps an island. -/
theorem kept_of_outside {j : IslandId} {s t : State} (h : t.outside besideCopies = s.outside besideCopies) :
    kept j t = kept j s := by
  have hs : t.spokes = s.spokes := by simpa [State.outside, besideCopies] using congrArg State.spokes h
  refine kept_congr (island_congr (isl_of_outside h) j) ?_
  simp only [retention, State.spoke, hs]

section
variable {j : IslandId}

theorem kept_setSpoke {s : State} {i : SpokeId} {x : Spoke} (h : x.retainTo = (s.spoke i).retainTo) :
    kept j (s.setSpoke i x) = kept j s := by
  refine kept_congr rfl ?_
  simp only [retention]
  split
  · next hj =>
    by_cases hi : (⟨j.val, hj⟩ : SpokeId) = i
    · subst hi; rw [setSpoke_get, h]
    · rw [setSpoke_get_ne _ _ _ _ hi]
  · rfl

theorem kept_modSpoke {s : State} {i : SpokeId} {f : Spoke → Spoke} (h : ∀ x, (f x).retainTo = x.retainTo) :
    kept j (s.modSpoke i f) = kept j s := kept_setSpoke (h _)

/-- The retiring copy of an island other than a spoke's is not among what is kept. -/
theorem kept_setIsland_retiring {s : State} {i : IslandId} {r : Option RegMap} (hi : 64 ≤ i.val) :
    kept j (s.setIsland i { s.island i with retiring := r }) = kept j s := by
  by_cases hj : j = i
  · subst hj
    have hr (t : State) : retention j t = none := dif_neg (by omega)
    simp [kept, hr]
  · exact kept_congr (setIsland_get_ne _ _ _ _ hj) rfl

theorem kept_foldl {α : Type} {f : State → α → State} (l : List α) (s : State)
    (h : ∀ s, ∀ a ∈ l, kept j (f s a) = kept j s) : kept j (l.foldl f s) = kept j s := by
  induction l generalizing s with
  | nil => rfl
  | cons a l ih =>
    rw [List.foldl_cons, ih _ fun s b hb => h s b (List.mem_cons_of_mem _ hb), h _ _ List.mem_cons_self]

theorem kept_forEach {n : Nat} {f : Fin n → State → State} (s : State) (h : ∀ i s, kept j (f i s) = kept j s) :
    kept j (forEach n f s) = kept j s :=
  kept_foldl _ s fun s i _ => h i s

theorem kept_ite {c : Prop} [Decidable c] {s a b : State} (ha : c → kept j a = kept j s) (hb : ¬ c → kept j b = kept j s) :
    kept j (if c then a else b) = kept j s := by
  split
  · next h => exact ha h
  · next h => exact hb h

/-- A step that keeps an island keeps it where it is taken and where it is not. -/
theorem kept_optional {c : Prop} [Decidable c] {f : State → State} (h : ∀ t, kept j (f t) = kept j t) (t : State) :
    kept j (if c then f t else t) = kept j t := kept_ite (fun _ => h t) fun _ => rfl

section
variable (t : State)

theorem kept_with_fw (x : Freewheel) : kept j { t with fw := x } = kept j t := kept_congr rfl rfl
theorem kept_with_truing (x : Truing) : kept j { t with truing := x } = kept j t := kept_congr rfl rfl
theorem kept_with_hub (x : Hub) : kept j { t with hub := x } = kept j t := kept_congr rfl rfl
theorem kept_with_hub_commit (x : Hub) (y : CommitUnit) : kept j { t with hub := x, commit := y } = kept j t :=
  kept_congr rfl rfl

end

/-! ### Spokes -/

/-- A retiring copy that is retained is not released. -/
theorem kept_releaseRetiring (i : SpokeId) (s : State) : kept j (releaseRetiring i s) = kept j s := by
  refine kept_ite (fun hc => ?_) fun _ => rfl
  by_cases hj : j = islSpoke i
  · subst hj
    have hn : retention (islSpoke i) s = none := by
      simp only [Bool.and_eq_true, Option.isNone_iff_eq_none] at hc
      exact (dif_pos i.isLt).trans hc.1.2
    have hn' : retention (islSpoke i) (s.setIsland (islSpoke i) { s.island (islSpoke i) with retiring := none }) = none := hn
    simp [kept, hn, hn']
  · exact kept_congr (setIsland_get_ne _ _ _ _ hj) rfl

theorem kept_finishDesc (i : SpokeId) (e : QDesc) (t : DT) (s : State) : kept j (finishDesc i e t s) = kept j s := by
  simp only [finishDesc, modSpoke_eq]
  rw [kept_releaseRetiring, kept_of_outside (outside_startGap i _ rfl)]
  refine (kept_ite (fun _ => ?_) fun _ => rfl).trans (kept_setSpoke rfl)
  exact kept_of_outside (by simp [besideCopies])

theorem kept_cutPulses (i : SpokeId) (cut : DT) (e : QDesc) (s : State) : kept j (cutPulses i cut e s) = kept j s := by
  simp only [cutPulses, modSpoke_eq]
  exact kept_ite (fun _ => (kept_finishDesc _ _ _ _).trans (kept_setSpoke rfl)) fun _ => kept_setSpoke rfl

theorem kept_endTrains (i : SpokeId) (s : State) : kept j (endTrains i s) = kept j s :=
  kept_foldl _ s fun _ _ _ => kept_ite (fun _ => kept_cutPulses _ _ _ _) fun _ => rfl

theorem kept_truingWork (i : SpokeId) (first : DT) (s : State) : kept j (truingWork i first s) = kept j s := by
  have h (t : State) (ht : kept j t = kept j s) (f : Spoke → Spoke) (hf : ∀ x, (f x).retainTo = x.retainTo) :
      kept j (raise 230 0x12 i.val 0 s.dt ((abortRun i t).modSpoke i f)) = kept j s := by
    rw [kept_of_outside (outside_raise _ _ _ _ _ _ rfl rfl), modSpoke_eq, kept_setSpoke (hf _),
      kept_of_outside (outside_abortRun i t rfl), ht]
  have h1 (c : Bool) : kept j (if c then startGap i ((stopHits (itemOf i) s).setReq i { s.req i with burst := none }) else s) =
      kept j s := kept_ite (fun _ => kept_of_outside (by simp [besideCopies])) fun _ => rfl
  exact kept_ite (fun _ => h _ (h1 _) _ fun _ => rfl) fun _ => h1 _

/-- The hold time of a spoke's retiring copy after its swap. -/
def swappedSpoke (i : SpokeId) (s : State) : Spoke :=
  let sp := s.spoke i
  { sp with
    retainTo := if (s.island (islSpoke i)).retiring.isSome then some (dtAdd s.dt 4096000) else sp.retainTo
    modePend := sp.modePend || (s.wantedMode i).1 != sp.out || (s.wantedMode i).2.1 != sp.legn || (s.wantedMode i).2.2 != sp.term }

/-- Of what a commit brings to a spoke, its island sees the hold time alone. -/
theorem kept_swapSpoke (i : SpokeId) (old : RegMap) (s : State) :
    kept j (swapSpoke i old s) = kept j (s.setSpoke i (swappedSpoke i s)) := by
  have hgap (t : State) : kept j (startGap i t) = kept j t := kept_of_outside (outside_startGap i t rfl)
  have hraise (t : State) : kept j (raise 250 2 i.val 0 s.dt t) = kept j t :=
    kept_of_outside (outside_raise _ _ _ _ _ _ rfl rfl)
  simp only [swapSpoke]
  rw [kept_optional (kept_truingWork i s.dt), kept_optional hgap]
  split
  · split
    · exact kept_optional hraise _
    · exact (kept_of_outside (outside_State_modEngine _ _ _ rfl)).trans (kept_optional hraise _)
  · rw [kept_optional (kept_endTrains i), kept_optional hraise]
    rfl

theorem dropMissed_retainTo (s : State) (sp : Spoke) : (dropMissed s sp).retainTo = sp.retainTo := by
  have h (l : List QDesc) (x : Spoke) : (l.foldl (fun sp e =>
      let m := missedEdges e s.dt
      if m.1 = 0 then sp else
        { sp with
          queue := modFirst (· == e) (fun _ => m.2) sp.queue
          cnt := { sp.cnt with lost := sp.cnt.lost + word m.1 }
          lostFirst := some (sp.lostFirst.getD e.due) }) x).retainTo = x.retainTo := by
    induction l generalizing x with
    | nil => rfl
    | cons e l ih =>
      rw [List.foldl_cons, ih]
      dsimp only
      split <;> rfl
  exact h _ _

theorem kept_sayLost (i : SpokeId) (s : State) : kept j (sayLost i s) = kept j s := by
  unfold sayLost
  split
  · exact (kept_of_outside (outside_raise _ _ _ _ _ _ rfl rfl)).trans (kept_setSpoke rfl)
  · rfl

theorem kept_endHoldSpoke (i : SpokeId) (s : State) : kept j (endHoldSpoke i s) = kept j s := by
  simp only [endHoldSpoke]
  rw [kept_releaseRetiring, kept_sayLost]
  exact kept_setSpoke (dropMissed_retainTo s _)

theorem kept_endHold (s : State) : kept j (endHold s) = kept j s := by
  exact (kept_of_outside (outside_raiseNow _ _ _ _ _ rfl rfl)).trans
    ((kept_with_hub_commit _ _ _).trans (kept_forEach s kept_endHoldSpoke))

theorem kept_endHoldIfDue (s : State) : kept j (endHoldIfDue s) = kept j s :=
  kept_ite (fun _ => kept_endHold s) fun _ => rfl

theorem kept_reportDone (s : State) : kept j (reportDone s) = kept j s :=
  kept_of_outside (outside_reportDone s rfl rfl rfl)

/-! ### Gates -/

theorem kept_stopEngine (v : EngineId) (cause : Nat) (s : State) : kept j (stopEngine v cause s) = kept j s := by
  have hgaps (t : State) : (forEach 64 (fun i u => if u.owner i == some v then startGap i u else u) t).outside besideCopies =
      t.outside besideCopies :=
    outside_forEach _ _ (fun i u => by rw [outside_ite, outside_startGap i u rfl, ite_self]) t
  simp only [stopEngine]
  rw [kept_of_outside (outside_State_modEngine _ _ _ rfl), ← island_congr (isl_of_outside (hgaps (syncFills s))),
    kept_setIsland_retiring (by simp [islEngine]; omega), kept_of_outside (hgaps _), kept_of_outside (outside_syncFills s rfl)]

theorem kept_gateEngine (v : EngineId) (s : State) : kept j (gateEngine v s) = kept j s := by
  have h0 : kept j (s.modEngine v fun en => { en with acts := [], strobes := [] }) = kept j s :=
    kept_of_outside (outside_State_modEngine _ _ _ rfl)
  refine kept_ite (fun _ => h0) fun _ => ?_
  rw [kept_of_outside (outside_State_modEngine _ _ _ rfl), kept_stopEngine, h0]

theorem kept_releaseTable (s : State) : kept j (releaseTable s) = kept j s :=
  kept_ite (fun _ => (kept_of_outside (outside_raise _ _ _ _ _ _ rfl rfl)).trans (kept_setIsland_retiring (by decide)))
    fun _ => rfl

theorem kept_dropFrame (f : Frame) (s : State) : kept j (dropFrame f s) = kept j s := by
  rw [dropFrame, kept_releaseTable, kept_of_outside (outside_setFree _ _ rfl rfl rfl)]
  exact kept_congr rfl rfl

theorem kept_sentFrame (f out : Frame) (s : State) : kept j (sentFrame f out s) = kept j s := by
  have h (x : Freewheel) := (kept_with_fw _ x).trans (kept_dropFrame (j := j) f s)
  exact kept_ite (fun _ => (kept_of_outside (outside_sendWaiting _ _ rfl)).trans (h _)) fun _ => h _

theorem kept_cutEgress (f : Frame) (s : State) : kept j (cutEgress f s) = kept j s :=
  (kept_of_outside (outside_modFwCnt _ _ _ rfl)).trans (kept_sentFrame _ _ _)

theorem kept_gateFreewheel (s : State) : kept j (gateFreewheel s) = kept j s := by
  refine kept_foldl _ s fun t f _ => kept_ite (fun _ => ?_) fun _ => kept_ite (fun _ => rfl) fun _ => ?_
  · exact (kept_with_fw _ _).trans (kept_cutEgress f t)
  · exact (kept_of_outside (outside_modFwCnt _ _ _ rfl)).trans (kept_dropFrame f t)

theorem kept_gateTruing (s : State) : kept j (gateTruing s) = kept j s := by
  refine (kept_with_truing _ _).trans (kept_forEach s fun i t => ?_)
  have h1 : kept j (t.modReq i fun r => { r with burst := none }) = kept j t :=
    kept_of_outside (outside_State_modReq _ _ _ rfl)
  have h2 := (kept_of_outside (outside_abortRun i _ rfl)).trans h1
  exact kept_ite (fun _ => (kept_modSpoke (by intro x; rfl)).trans h2) fun _ => h1

theorem kept_holdReads (s : State) : kept j (holdReads s) = kept j s :=
  (kept_with_fw _ _).trans (kept_forEach s fun _ _ => kept_setSpoke rfl)

theorem kept_closeGates (s : State) : kept j (closeGates s) = kept j s := by
  have h : kept j (forEach 4 gateEngine (gateFreewheel (gateTruing (holdReads s)))) = kept j s := by
    rw [kept_forEach _ kept_gateEngine, kept_gateFreewheel, kept_gateTruing, kept_holdReads]
  have h2 (x : Hub) := (kept_with_hub _ x).trans h
  refine kept_ite (fun _ => rfl) fun _ => kept_ite (fun _ => ?_) fun _ => h2 _
  exact (kept_of_outside (outside_enterBrake _ _ rfl rfl rfl)).trans (h2 _)

end

end Sys2Proof.Proofs
end

section
/-! The swap of one island, as that island and the others see it (O12). -/

namespace Sys2Proof.Proofs

open Sys2Proof.Machine Sys2Proof.Laws

section
variable {j : IslandId}

/-! ### Hub's relock and Freewheel's frames -/

theorem kept_relock (s : State) : kept j (relock s) = kept j s := by
  simp only [relock]
  rw [kept_of_outside (outside_beginLock _ rfl), kept_of_outside (outside_raiseAs _ _ _ _ _ _ _ rfl rfl), kept_with_hub,
    kept_closeGates]

theorem kept_swapHub (old : RegMap) (s : State) : kept j (swapHub old s) = kept j s := by
  have hlimit (raw : Int) (t : State) : kept j (limitW raw t).2 = kept j t := by
    refine kept_of_outside ?_
    simp [besideCopies]
  have hswitch (sel : Nat) (t : State) : kept j (switchRef sel t) = kept j t :=
    kept_of_outside (outside_switchRef _ _ rfl rfl rfl)
  have hset (w : Int) (t : State) : kept j (setW w t) = kept j t := kept_of_outside (outside_setW _ _ rfl rfl)
  have hrelock (c d : Prop) [Decidable c] [Decidable d] (sel : Nat) (t : State) :
      kept j (if c then relock (if d then switchRef sel t else t) else t) = kept j t :=
    kept_ite (fun _ => (kept_relock _).trans (kept_optional (hswitch sel) t)) fun _ => rfl
  simp only [swapHub]
  refine (kept_ite (s := s) (fun _ => ?_) fun _ => kept_ite (fun _ => (hset _ _).trans ?_) fun _ =>
    (kept_with_hub _ _).trans ?_)
  all_goals
    exact (hrelock _ _ _ _).trans ((kept_optional (hlimit _) _).trans (kept_with_hub s _))

theorem kept_stompFrame (f : Frame) (cause : Nat) (s : State) : kept j (stompFrame f cause s) = kept j s :=
  (kept_of_outside (outside_raise _ _ _ _ _ _ rfl rfl)).trans (kept_cutEgress f s)

theorem kept_discardFrame (f : Frame) (cause : Nat) (s : State) : kept j (discardFrame f cause s) = kept j s :=
  (kept_of_outside (outside_noteDiscard _ _ _ _ _ rfl rfl rfl)).trans (kept_dropFrame f s)

theorem kept_setHostBlock (c : PortId) (up : Bool) (s : State) : kept j (setHostBlock c up s) = kept j s := by
  have hcut (t : State) : kept j (cutIngress c false t) = kept j t :=
    kept_foldl _ t fun _ _ _ => kept_ite (fun _ => kept_stompFrame _ _ _) fun _ => kept_discardFrame _ _ _
  have hraise (e a b x : Nat) (y : Freewheel) : kept j (raiseNow e a b x { s with fw := y }) = kept j s :=
    (kept_of_outside (outside_raiseNow _ _ _ _ _ rfl rfl)).trans (kept_with_fw s y)
  exact kept_ite (fun _ => rfl) fun _ => kept_ite (fun _ => hraise _ _ _ _ _) fun _ => (hcut _).trans (hraise _ _ _ _ _)

theorem kept_swapFreewheel (old : RegMap) (s : State) : kept j (swapFreewheel old s) = kept j s := by
  have hraise (t : State) : kept j (raise 213 1 0 0 s.dt t) = kept j t :=
    kept_of_outside (outside_raise _ _ _ _ _ _ rfl rfl)
  simp only [swapFreewheel]
  exact (kept_forEach _ fun c t => kept_ite (fun _ => kept_setHostBlock c false t) fun _ => rfl).trans
    ((kept_optional hraise _).trans ((kept_with_fw _ _).trans (kept_setIsland_retiring (by decide))))

theorem kept_swapEngine (v : EngineId) (old : RegMap) (s : State) : kept j (swapEngine v old s) = kept j s := by
  have hraise (t : State) : kept j (raise (evEng v 0) 14 0 0 s.dt t) = kept j t :=
    kept_of_outside (outside_raise _ _ _ _ _ _ rfl rfl)
  simp only [swapEngine]
  rw [kept_optional hraise, kept_of_outside (outside_State_modEngine _ _ _ rfl)]
  exact kept_ite (fun _ => kept_setIsland_retiring (by simp [islEngine]; omega)) fun _ => rfl

/-! ### The swap of an island -/

/-- The state in which an island has taken its pending copy, and what the copy brings is still to come. -/
def copied (i : IslandId) (s : State) : State := swapCopies i (if 0x49 ≤ i.val && i.val ≤ 0x4C then syncFills s else s)

/-- What a swap brings is its island's own: to show something of the swap, show it for each kind of island. -/
theorem swapIsland_cases {P : State → Prop} {d : DT} {i : IslandId} {s : State} (hp : (s.island i).pending.isSome = true)
    (spoke : ∀ k, i = islSpoke k → P (swapSpoke k (s.island i).active (copied i s)))
    (port : ∀ c, i = islPort c → P (swapPort c (s.island i).active (s.ownOffer c) (copied i s)))
    (pacer : i = islPacer → P (swapPacer (copied i s)))
    (engine : ∀ v, i = islEngine v → P (swapEngine v (s.island i).active (copied i s)))
    (crank : i = islCrank → P (swapCrank (s.island i).active d (copied i s)))
    (noon : i = islNoon → P (swapNoon (s.island i).active (copied i s)))
    (hub : i = islHub → P (swapHub (s.island i).active (copied i s)))
    (freewheel : i = islFreewheel → P (swapFreewheel (s.island i).active (copied i s)))
    (stoker : i = islStoker → P (swapStoker (s.island i).active (copied i s)))
    (pair : i = islPair → P (swapPair (s.island i).active d (copied i s)))
    (truing : i = islTruing → P (swapTruing (copied i s)))
    (other : 64 ≤ i.val → P (copied i s)) : P (swapIsland d i s) := by
  have hn : ¬ (s.island i).pending.isNone = true := by simp [Option.isNone_iff_eq_none, Option.isSome_iff_ne_none.1 hp]
  rw [swapIsland, if_neg hn]
  by_cases h1 : i.val < 0x40
  · rw [dif_pos h1]; exact spoke _ rfl
  rw [dif_neg h1]
  by_cases h2 : i.val < 0x48
  · rw [dif_pos h2]; exact port ⟨i.val - 0x40, by omega⟩ (Fin.ext (by simp only [islPort]; omega))
  rw [dif_neg h2]
  by_cases h3 : i = islPacer
  · rw [if_pos h3]; exact pacer h3
  rw [if_neg h3]
  by_cases h4 : 0x49 ≤ i.val ∧ i.val ≤ 0x4C
  · rw [dif_pos h4]; exact engine ⟨i.val - 0x49, by omega⟩ (Fin.ext (by simp only [islEngine]; omega))
  rw [dif_neg h4]
  by_cases h5 : i = islCrank
  · rw [if_pos h5]; exact crank h5
  rw [if_neg h5]
  by_cases h6 : i = islNoon
  · rw [if_pos h6]; exact noon h6
  rw [if_neg h6]
  by_cases h7 : i = islHub
  · rw [if_pos h7]; exact hub h7
  rw [if_neg h7]
  by_cases h8 : i = islFreewheel
  · rw [if_pos h8]; exact freewheel h8
  rw [if_neg h8]
  by_cases h9 : i = islStoker
  · rw [if_pos h9]; exact stoker h9
  rw [if_neg h9]
  by_cases h10 : i = islPair
  · rw [if_pos h10]; exact pair h10
  rw [if_neg h10]
  by_cases h11 : i = islTruing
  · rw [if_pos h11]; exact truing h11
  rw [if_neg h11]
  exact other (by omega)

end

end Sys2Proof.Proofs
end

section
/-! What a swap makes of its own island's copies, and what it leaves of every other's (O12). -/

namespace Sys2Proof.Proofs

open Sys2Proof.Machine Sys2Proof.Laws

section
variable {i j : IslandId} {s : State}

/-! ### The copies -/

/-- An island once its pending copy `m` has become its active one. -/
def takenCopy (i : IslandId) (m : RegMap) (x : Isl) : Isl :=
  { x with
    active := m, gen := x.pendGen, pending := none, confirmed := false, abandoned := false
    retiring := if retires i then some x.active else none
    retGen := if retires i then x.gen else x.retGen }

theorem isl_syncFills (s : State) : (syncFills s).isl = s.isl := isl_of_outside (outside_syncFills s rfl)

theorem island_beforeCopies (c : Prop) [Decidable c] : (if c then syncFills s else s).island j = s.island j := by
  split
  · exact island_congr (isl_syncFills s) j
  · rfl

theorem copied_island_self {m : RegMap} (h : (s.island i).pending = some m) :
    (copied i s).island i = takenCopy i m (s.island i) := by
  rw [copied, swapCopies, State.modIsland, setIsland_get, island_beforeCopies]
  simp only [h, takenCopy]

theorem kept_copied_of_ne (h : j ≠ i) : kept j (copied i s) = kept j s := by
  have h1 (t : State) : kept j (swapCopies i t) = kept j t := kept_congr (setIsland_get_ne _ _ _ _ h) rfl
  exact (h1 _).trans (kept_optional (fun t => kept_of_outside (outside_syncFills t rfl)) s)

theorem kept_setSpoke_of_ne {k : SpokeId} {x : Spoke} (h : j ≠ islSpoke k) : kept j (s.setSpoke k x) = kept j s := by
  refine kept_congr rfl ?_
  simp only [retention]
  split
  · rw [setSpoke_get_ne]
    intro hk
    subst hk
    exact h rfl
  · rfl

/-! ### What a swap brings -/

/-- An island that has swapped, as its own copies and every other island show it. -/
def turned (i : IslandId) (s : State) : State :=
  if h : i.val < 64 then (copied i s).setSpoke ⟨i.val, h⟩ (swappedSpoke ⟨i.val, h⟩ (copied i s)) else copied i s

theorem turned_spoke (k : SpokeId) (s : State) :
    turned (islSpoke k) s = (copied (islSpoke k) s).setSpoke k (swappedSpoke k (copied (islSpoke k) s)) := dif_pos k.isLt

theorem turned_other (h : 64 ≤ i.val) : turned i s = copied i s := dif_neg (by omega)

/-- What a swap brings beside the copies touches no island's, but for the hold time of a spoke's. -/
theorem kept_swapIsland (d : DT) (hp : (s.island i).pending.isSome = true) :
    kept j (swapIsland d i s) = kept j (turned i s) := by
  have hother {t : State} (hi : 64 ≤ i.val) (ht : kept j t = kept j (copied i s)) : kept j t = kept j (turned i s) := by
    rw [turned_other hi, ht]
  have hval {l : IslandId} (hi : i = l) (hl : 64 ≤ l.val) : 64 ≤ i.val := hi ▸ hl
  refine swapIsland_cases (P := fun t => kept j t = kept j (turned i s)) hp ?_ ?_ ?_ ?_ ?_ ?_ ?_ ?_ ?_ ?_ ?_ ?_
  · intro k hk
    subst hk
    rw [kept_swapSpoke, turned_spoke]
  · intro c hi
    exact hother (hval hi (by simp [islPort])) (kept_of_outside (outside_swapPort _ _ _ _ rfl rfl rfl))
  · intro hi
    exact hother (hval hi (by decide)) (kept_of_outside (outside_swapPacer _ rfl))
  · intro v hi
    exact hother (hval hi (by simp [islEngine]; omega)) (kept_swapEngine _ _ _)
  · intro hi
    exact hother (hval hi (by decide)) (kept_of_outside (outside_swapCrank _ _ _ rfl))
  · intro hi
    exact hother (hval hi (by decide)) (kept_of_outside (outside_swapNoon _ _ rfl))
  · intro hi
    exact hother (hval hi (by decide)) (kept_swapHub _ _)
  · intro hi
    exact hother (hval hi (by decide)) (kept_swapFreewheel _ _)
  · intro hi
    exact hother (hval hi (by decide)) (kept_of_outside (outside_swapStoker _ _ rfl rfl rfl))
  · intro hi
    exact hother (hval hi (by decide)) (kept_of_outside (outside_swapPair _ _ _ rfl rfl rfl))
  · intro hi
    exact hother (hval hi (by decide)) (kept_of_outside (outside_swapTruing _ rfl))
  · exact fun hi => hother hi rfl

end

end Sys2Proof.Proofs
end

section
/-! The swaps of a COMMIT_SWAP as each island sees them: its own, and none of the others' (O12). -/

namespace Sys2Proof.Proofs

open Sys2Proof.Machine Sys2Proof.Laws

section
variable {i j : IslandId} {s : State} {m : RegMap}

/-! ### Another island's swap -/

theorem kept_setIsland_of_ne {x : Isl} (h : j ≠ i) : kept j (s.setIsland i x) = kept j s :=
  kept_congr (setIsland_get_ne _ _ _ _ h) rfl

theorem kept_turned_of_ne (h : j ≠ i) : kept j (turned i s) = kept j s := by
  by_cases hi : i.val < 64
  · obtain ⟨k, rfl⟩ : ∃ k, i = islSpoke k := ⟨⟨i.val, hi⟩, rfl⟩
    rw [turned_spoke, kept_setSpoke_of_ne h, kept_copied_of_ne h]
  · rw [turned_other (by omega), kept_copied_of_ne h]

theorem kept_swapIfDue_of_ne (h : j ≠ i) : kept j (swapIfDue i s) = kept j s := by
  have hisland (d : DT) (t : State) : kept j (swapIsland d i t) = kept j t := by
    by_cases hp : (t.island i).pending.isSome = true
    · rw [kept_swapIsland d hp, kept_turned_of_ne h]
    · have hn : (t.island i).pending.isNone = true := by simpa using hp
      rw [swapIsland, if_pos hn]
  refine kept_ite (fun _ => kept_ite (fun _ => ?_) fun _ => rfl) fun _ => rfl
  exact (hisland _ _).trans (kept_setIsland_of_ne h)

/-! ### The island's own swap -/

/-- An island whose Confirm has been used up. -/
def unqueued (i : IslandId) (s : State) : State :=
  s.modIsland i fun x => { x with inbox := x.inbox.filter (· != .confirm) }

theorem swapIfDue_of_due (hg : s.gated i = false) (hp : (s.island i).pending.isSome = true)
    (hd : (s.island i).decided = true) (ht : s.due i (s.island i).pendDt = true) :
    swapIfDue i s = swapIsland (s.island i).pendDt i (unqueued i s) := by
  have hdue : s.swapDue i = true := by simp only [State.swapDue, hp, hd, ht, Bool.and_self]
  rw [swapIfDue, hg, hdue]
  simp only [Bool.not_false, Bool.and_self, if_true, swapConfirmed, hd]
  rfl

/-- The copies of an island in which a swap is due, once it has swapped. -/
theorem kept_swapIfDue_self (hg : s.gated i = false) (hp : (s.island i).pending = some m)
    (hd : (s.island i).decided = true) (ht : s.due i (s.island i).pendDt = true) :
    kept j (swapIfDue i s) = kept j (turned i (unqueued i s)) := by
  have hp' : ((unqueued i s).island i).pending.isSome = true := by
    simp [unqueued, State.modIsland, hp]
  rw [swapIfDue_of_due hg (by simp [hp]) hd ht, kept_swapIsland _ hp']

theorem turned_unqueued_island (hp : (s.island i).pending = some m) :
    ((turned i (unqueued i s)).island i).active = m ∧
      ((turned i (unqueued i s)).island i).gen = (s.island i).pendGen ∧
      ((turned i (unqueued i s)).island i).pending = none ∧
      ((turned i (unqueued i s)).island i).retiring = (if retires i then some (s.island i).active else none) ∧
      ((turned i (unqueued i s)).island i).retGen = if retires i then (s.island i).gen else (s.island i).retGen := by
  have hx : (unqueued i s).island i = { s.island i with inbox := (s.island i).inbox.filter (· != .confirm) } :=
    setIsland_get _ _ _
  have hisl : (turned i (unqueued i s)).island i = (copied i (unqueued i s)).island i := by
    by_cases hi : i.val < 64
    · obtain ⟨k, rfl⟩ : ∃ k, i = islSpoke k := ⟨⟨i.val, hi⟩, rfl⟩
      rw [turned_spoke]
      rfl
    · rw [turned_other (by omega)]
  rw [hisl, copied_island_self (m := m) (by rw [hx, hp]), takenCopy, hx]
  exact ⟨rfl, rfl, rfl, rfl, rfl⟩

/-- The old copy of a spoke is held for at least 1 us (R66). -/
theorem turned_spoke_retention {k : SpokeId} (hp : (s.island (islSpoke k)).pending = some m) :
    retention (islSpoke k) (turned (islSpoke k) (unqueued (islSpoke k) s)) = some (dtAdd s.dt 4096000) := by
  have hx := setIsland_get s (islSpoke k) { s.island (islSpoke k) with inbox := (s.island (islSpoke k)).inbox.filter (· != .confirm) }
  have hr : ((copied (islSpoke k) (unqueued (islSpoke k) s)).island (islSpoke k)).retiring.isSome = true := by
    have hret : retires (islSpoke k) = true := by simp [retires, islSpoke, k.isLt]
    rw [copied_island_self (m := m) (by rw [unqueued, State.modIsland, hx, hp]), takenCopy]
    simp [hret]
  have hdt : (copied (islSpoke k) (unqueued (islSpoke k) s)).dt = s.dt := by
    rw [copied, swapCopies, State.modIsland]
    have hno : ((0x49 ≤ (islSpoke k).val && (islSpoke k).val ≤ 0x4C) : Bool) = false := by
      have hk : ¬ 0x49 ≤ (islSpoke k).val := by simp only [islSpoke]; omega
      rw [decide_eq_false hk, Bool.false_and]
    rw [hno]
    rfl
  rw [turned_spoke]
  refine (dif_pos k.isLt).trans ?_
  have hget := setSpoke_get (copied (islSpoke k) (unqueued (islSpoke k) s)) k
    (swappedSpoke k (copied (islSpoke k) (unqueued (islSpoke k) s)))
  refine (congrArg Spoke.retainTo hget).trans ?_
  simp only [swappedSpoke, hr, hdt, if_true]

end

end Sys2Proof.Proofs
end

section
/-! The clocks of the other islands at a swap (O12): only Hub's swap gates any, and a port's rate and gate are its own. -/

namespace Sys2Proof.Proofs

open Sys2Proof.Machine Sys2Proof.Laws

section
variable {i j : IslandId} {s t : State}

/-! ### What gates an island and tells its time -/

/-- What every island's time and gate rest on, but for a port's own rate and SIESTA. -/
def clockOf (s : State) : DT × Bool × Nat × Vector Nat 88 × DT × Nat × Hub :=
  (s.dt, s.dtRuns, s.clock, s.phase, s.noon.distAt, s.noon.distClock, s.hub)

theorem dt_of_clockOf (h : clockOf t = clockOf s) : t.dt = s.dt := congrArg Prod.fst h

theorem hub_of_clockOf (h : clockOf t = clockOf s) : t.hub = s.hub := by
  simp only [clockOf, Prod.mk.injEq] at h
  obtain ⟨-, -, -, -, -, -, hhub⟩ := h
  exact hhub

/-- The port of an island that is one's. -/
theorem islPort_of_index (h : ¬ j.val < 0x40) (h' : j.val < 0x48) : j = islPort (Fin.ofNat 8 (j.val - 0x40)) := by
  apply Fin.ext
  simp only [islPort, Fin.val_ofNat]
  omega

section
variable (hc : clockOf t = clockOf s) (hp : ∀ c, j = islPort c → t.port c = s.port c)
include hc hp

theorem gated_congr : t.gated j = s.gated j := by
  simp only [clockOf, Prod.mk.injEq] at hc
  obtain ⟨-, -, -, -, -, -, hhub⟩ := hc
  simp only [State.gated, State.portGated, hhub]
  split
  · rfl
  split
  · next h h' => rw [hp _ (islPort_of_index h h')]
  · rfl

theorem replica_congr : t.replica j = s.replica j := by
  simp only [clockOf, Prod.mk.injEq] at hc
  obtain ⟨hdt, hruns, hclock, hphase, hat, hclk, hhub⟩ := hc
  have hcycle : t.islCycle j = s.islCycle j := by
    simp only [State.islCycle]
    split
    · rfl
    split
    · next h h' =>
      rw [hp _ (islPort_of_index _ h')]
      simp only [Bool.or_eq_true, decide_eq_true_eq, not_or] at h
      exact h.1
    · rfl
  have hcount : t.count = s.count := by rw [State.count, State.count, hdt]
  have hout : t.outage = s.outage := by rw [State.outage, State.outage, hruns, hhub]
  have hedges (n : Nat) : t.islEdges j n = s.islEdges j n := by rw [State.islEdges, State.islEdges, hphase, hcycle]
  rw [State.replica, State.replica, hruns, hdt, hcount, hout, hat, hclk, hclock, hedges, hedges, hcycle]

theorem due_congr (d : DT) : t.due j d = s.due j d := by
  have hr : t.replica j = s.replica j := replica_congr hc hp
  simp only [clockOf, Prod.mk.injEq] at hc
  rw [State.due, State.due, hr, hc.1]

end

/-! ### What leaves the clocks -/

/-- Every part of the state but those that the clocks rest on. -/
def besideClock : Parts :=
  { besideCopies with
    isl := true, spokes := true, clock := false, dt := false, dtRuns := false, phase := false, hub := false, noon := false }

theorem clockOf_of_outside (h : t.outside besideClock = s.outside besideClock) : clockOf t = clockOf s := by
  have hp (f : State → DT × Bool × Nat × Vector Nat 88 × DT × Nat × Hub) := congrArg f h
  have h1 := hp clockOf
  simpa [State.outside, besideClock, besideCopies, clockOf] using h1

theorem clockOf_swapNoon (old : RegMap) (s : State) : clockOf (swapNoon old s) = clockOf s := by
  simp only [swapNoon]
  split <;> rfl

theorem clockOf_copied (i : IslandId) (s : State) : clockOf (copied i s) = clockOf s := by
  refine (clockOf_of_outside (outside_swapCopies _ _ rfl)).trans ?_
  split
  · exact clockOf_of_outside (outside_syncFills _ rfl)
  · rfl

/-- Hub's is the only swap that touches what the clocks rest on. -/
theorem clockOf_swapIsland (d : DT) (hi : i ≠ islHub) : clockOf (swapIsland d i s) = clockOf s := by
  by_cases hp : (s.island i).pending.isSome = true
  · rw [← clockOf_copied i s]
    have hout {u : State} (h : u.outside besideClock = (copied i s).outside besideClock) :
        clockOf u = clockOf (copied i s) := clockOf_of_outside h
    refine swapIsland_cases (P := fun t => clockOf t = clockOf (copied i s)) hp ?_ ?_ ?_ ?_ ?_ ?_ ?_ ?_ ?_ ?_ ?_ ?_
    · exact fun k _ => hout (outside_swapSpoke _ _ _ rfl rfl rfl rfl rfl rfl)
    · exact fun c _ => hout (outside_swapPort _ _ _ _ rfl rfl rfl)
    · exact fun _ => hout (outside_swapPacer _ rfl)
    · exact fun v _ => hout (outside_swapEngine _ _ _ rfl rfl rfl rfl)
    · exact fun _ => hout (outside_swapCrank _ _ _ rfl)
    · exact fun _ => clockOf_swapNoon _ _
    · exact fun h => absurd h hi
    · exact fun _ => hout (outside_swapFreewheel _ _ rfl rfl rfl rfl rfl)
    · exact fun _ => hout (outside_swapStoker _ _ rfl rfl rfl)
    · exact fun _ => hout (outside_swapPair _ _ _ rfl rfl rfl)
    · exact fun _ => hout (outside_swapTruing _ rfl)
    · exact fun _ => rfl
  · have hn : (s.island i).pending.isNone = true := by simpa using hp
    rw [swapIsland, if_pos hn]

theorem clockOf_swapIfDue (hi : i ≠ islHub) : clockOf (swapIfDue i s) = clockOf s := by
  simp only [swapIfDue, swapConfirmed]
  split
  · split
    · exact (clockOf_swapIsland _ hi).trans rfl
    · rfl
  · rfl

/-! ### A port's swap, as the other ports see it -/

section
variable {c b : PortId}

theorem port_of_outside {pt : Parts} (hp : pt.ports = false) (h : t.outside pt = s.outside pt) : t.port b = s.port b := by
  have h1 := congrArg State.ports h
  simp only [State.outside, hp, Bool.false_eq_true, if_false] at h1
  simp only [State.port, h1]

/-- Every part of the state but the ports. -/
def besidePorts : Parts := { besideClock with ports := false, hub := true, noon := true }

variable (h : b ≠ c)
include h

theorem port_modPort_of_ne (f : Port → Port) (s : State) : (s.modPort c f).port b = s.port b := setPort_get_ne _ _ _ _ h

theorem port_leave_of_ne (m : Nat × Octets) (s : State) : (leave c m s).port b = s.port b := by
  simp only [leave]
  split <;> exact port_modPort_of_ne h _ _

theorem port_sendFrame_of_ne (ty : Nat) (pdu : Octets) (s : State) : (sendFrame c ty pdu s).port b = s.port b := by
  have hfold (l : List (Nat × Octets)) (u : State) : (l.foldl (fun s m => leave c m s) u).port b = u.port b := by
    induction l generalizing u with
    | nil => rfl
    | cons m l ih => rw [List.foldl_cons, ih, port_leave_of_ne h]
  have hw (u : State) : (sendWaiting c u).port b = u.port b := by
    simp only [sendWaiting]
    split
    · rfl
    · rw [hfold, port_modPort_of_ne h]
  rw [sendFrame, hw, port_modPort_of_ne h]

theorem port_toNegotiate_of_ne (s : State) : (toNegotiate c s).port b = s.port b := by
  have hf : (freezePort c s).port b = s.port b := by
    simp only [freezePort]
    split
    · rfl
    · rw [raiseNow_port, setPort_get_ne _ _ _ _ h]
  have hfrz : (if (s.port c).st = 5 then freezePort c s else s).port b = s.port b := by
    split
    · exact hf
    · rfl
  simp only [toNegotiate, sendOffer, sendPdu, portTo, newOfferId]
  rw [port_modPort_of_ne h, port_sendFrame_of_ne h, port_modPort_of_ne h, raiseNow_port, port_modPort_of_ne h,
    port_modPort_of_ne h, port_modPort_of_ne h, hfrz]

theorem port_swapPort_of_ne (old : RegMap) (before : OfferRec) (s : State) : (swapPort c old before s).port b = s.port b := by
  have hoffer (u : State) : (if u.ownOffer c = before then u
      else if (u.port c).st = 5 then toNegotiate c u
      else if (u.port c).st = 4 ∨ (u.port c).st = 6 then
        (newOfferId c u).modPort c fun p => { p with modeR := none, accSent := none, restepAt := none }
      else u).port b = u.port b := by
    split
    · rfl
    split
    · exact port_toNegotiate_of_ne h u
    split
    · rw [port_modPort_of_ne h, newOfferId, port_modPort_of_ne h]
    · rfl
  refine (hoffer _).trans ?_
  split
  · rfl
  · exact port_modPort_of_ne h _ _

end

/-- A port stands as it is while the islands before its own swap. -/
theorem port_swapIfDue_of_lt {c : PortId} (hi : i.val < (islPort c).val) : (swapIfDue i s).port c = s.port c := by
  have hval {l : IslandId} (h : i = l) : l.val < 64 + c.val := h ▸ hi
  have hland (d : DT) (s : State) : (swapIsland d i s).port c = s.port c := by
    by_cases hp : (s.island i).pending.isSome = true
    · have hcopy : (copied i s).port c = s.port c := by
        refine (port_of_outside (pt := besidePorts) rfl (outside_swapCopies _ _ rfl)).trans ?_
        split
        · exact port_of_outside (pt := besidePorts) rfl (outside_syncFills _ rfl)
        · rfl
      rw [← hcopy]
      refine swapIsland_cases (P := fun t => t.port c = (copied i s).port c) hp ?_ ?_ ?_ ?_ ?_ ?_ ?_ ?_ ?_ ?_ ?_ ?_
      · exact fun k _ => port_of_outside (pt := besidePorts) rfl (outside_swapSpoke _ _ _ rfl rfl rfl rfl rfl rfl)
      · intro b hb
        have hlt := hval hb
        refine port_swapPort_of_ne (fun h => ?_) _ _ _
        subst h
        simp only [islPort] at hlt
        omega
      · exact fun _ => port_of_outside (pt := besidePorts) rfl (outside_swapPacer _ rfl)
      · exact fun v _ => port_of_outside (pt := besidePorts) rfl (outside_swapEngine _ _ _ rfl rfl rfl rfl)
      · exact fun _ => port_of_outside (pt := besidePorts) rfl (outside_swapCrank _ _ _ rfl)
      · exact fun _ => port_of_outside (pt := besidePorts) rfl (outside_swapNoon _ _ rfl)
      · intro h
        have hlt := hval h
        simp only [islHub] at hlt
        omega
      · intro h
        have hlt := hval h
        simp only [islFreewheel] at hlt
        omega
      · exact fun _ => port_of_outside (pt := besidePorts) rfl (outside_swapStoker _ _ rfl rfl rfl)
      · exact fun _ => port_of_outside (pt := besidePorts) rfl (outside_swapPair _ _ _ rfl rfl rfl)
      · exact fun _ => port_of_outside (pt := besidePorts) rfl (outside_swapTruing _ rfl)
      · exact fun _ => rfl
    · have hn : (s.island i).pending.isNone = true := by simpa using hp
      rw [swapIsland, if_pos hn]
  simp only [swapIfDue, swapConfirmed]
  split
  · split
    · rw [hland, State.modIsland]
      rfl
    · rfl
  · rfl

end

end Sys2Proof.Proofs
end

section
/-! COMMIT_SWAP, each island's turn in it, and the commit unit's own part (O12). -/

namespace Sys2Proof.Proofs

open Sys2Proof.Machine Sys2Proof.Laws

section
variable {i j : IslandId} {s t : State}

/-! ### The parts of COMMIT_SWAP -/

/-- One island's part of COMMIT_SWAP before Hub's. -/
def otherTurn (s : State) (i : IslandId) : State := if i = islHub then s else swapIfDue i s

/-- The swaps of every island but Hub. -/
def swapOthers (s : State) : State := commitIslands.foldl otherTurn s

/-- COMMIT_SWAP as it stands before Hub's swap. -/
def beforeHub (s : State) : State := reportDone (endHoldIfDue (swapOthers s))

/-- The state that a COMMIT_SWAP leaves. -/
def committed (s : State) : State := swapIfDue islHub (beforeHub s)

theorem exec_commitSwap (s : State) : exec .commitSwap s = .next (committed s) := by
  simp only [exec, execCommitSwap]
  rfl

theorem mem_commitIslands : j ∈ commitIslands ↔ j.val ≠ 0x53 ∧ j.val < 0x56 := by simp [commitIslands]

theorem commitIslands_sorted : commitIslands.Pairwise (· < ·) :=
  (List.pairwise_lt_finRange 88).sublist List.filter_sublist

/-! ### What stands at an island's turn -/

/-- An island's swap is due in `t` exactly if it is in `s`, and its copies stand the same. -/
structure SameTurn (j : IslandId) (s t : State) : Prop where
  gated : t.gated j = s.gated j
  due : ∀ d, t.due j d = s.due j d
  dt : t.dt = s.dt
  kept : kept j t = kept j s

theorem kept_otherTurn_of_ne (h : j ≠ i) (s : State) : kept j (otherTurn s i) = kept j s :=
  kept_ite (fun _ => rfl) fun _ => kept_swapIfDue_of_ne h

theorem clockOf_otherTurn (i : IslandId) (s : State) : clockOf (otherTurn s i) = clockOf s := by
  rw [otherTurn]
  split
  · rfl
  · next h => exact clockOf_swapIfDue h

theorem clockOf_foldl_otherTurn (l : List IslandId) (s : State) : clockOf (l.foldl otherTurn s) = clockOf s := by
  induction l generalizing s with
  | nil => rfl
  | cons i l ih => rw [List.foldl_cons, ih, clockOf_otherTurn]

theorem port_foldl_otherTurn {c : PortId} (l : List IslandId) (h : ∀ i ∈ l, i < islPort c) (s : State) :
    (l.foldl otherTurn s).port c = s.port c := by
  induction l generalizing s with
  | nil => rfl
  | cons i l ih =>
    rw [List.foldl_cons, ih fun a ha => h a (List.mem_cons_of_mem _ ha), otherTurn]
    split
    · rfl
    · exact port_swapIfDue_of_lt (h i List.mem_cons_self)

theorem kept_foldl_otherTurn (l : List IslandId) (h : ∀ i ∈ l, j ≠ i) (s : State) : kept j (l.foldl otherTurn s) = kept j s :=
  kept_foldl l s fun t i hi => kept_otherTurn_of_ne (h i hi) t

theorem sameTurn_foldl (l : List IslandId) (h : ∀ i ∈ l, i < j) (s : State) : SameTurn j s (l.foldl otherTurn s) := by
  have hc := clockOf_foldl_otherTurn l s
  have hp (c : PortId) (hj : j = islPort c) : (l.foldl otherTurn s).port c = s.port c :=
    port_foldl_otherTurn l (hj ▸ h) s
  exact ⟨gated_congr hc hp, due_congr hc hp, dt_of_clockOf hc, kept_foldl_otherTurn l (fun i hi => (h i hi).ne') s⟩

theorem kept_beforeHub (s : State) : kept j (beforeHub s) = kept j (swapOthers s) := by
  rw [beforeHub, kept_reportDone, kept_endHoldIfDue]

theorem gated_islHub (s : State) : s.gated islHub = false := by simp [State.gated, islHub]

theorem due_islHub (s : State) (d : DT) : s.due islHub d = dtLe d s.dt := by simp [State.due, islHub]

theorem beforeHub_dt (s : State) : (beforeHub s).dt = s.dt := by
  have hout : (beforeHub s).outside { besideClock with hub := true } = (swapOthers s).outside { besideClock with hub := true } := by
    rw [beforeHub, outside_reportDone _ rfl rfl rfl, outside_endHoldIfDue _ rfl rfl rfl rfl rfl rfl]
  have h1 := congrArg State.dt hout
  simp only [State.outside, besideClock, Bool.false_eq_true, if_false] at h1
  exact h1.trans (dt_of_clockOf (clockOf_foldl_otherTurn _ s))

/-- Every island of R49 has its turn in COMMIT_SWAP, in which nothing before it has touched what its swap rests on, and
nothing after it touches its copies. -/
theorem commitSwap_turn (hj : j ∈ commitIslands) (s : State) :
    ∃ t, SameTurn j s t ∧ kept j (committed s) = kept j (swapIfDue j t) := by
  by_cases hhub : j = islHub
  · subst hhub
    refine ⟨beforeHub s, ⟨?_, ?_, beforeHub_dt s, ?_⟩, rfl⟩
    · rw [gated_islHub, gated_islHub]
    · intro d
      rw [due_islHub, due_islHub, beforeHub_dt]
    · rw [kept_beforeHub]
      exact kept_foldl _ s fun t i _ => by
        by_cases hi : i = islHub
        · rw [otherTurn, if_pos hi]
        · exact kept_otherTurn_of_ne (fun h => hi h.symm) t
  · obtain ⟨l, r, hl⟩ := List.append_of_mem hj
    have hsorted := commitIslands_sorted
    rw [hl, List.pairwise_append] at hsorted
    obtain ⟨-, hright, hbefore⟩ := hsorted
    refine ⟨l.foldl otherTurn s, sameTurn_foldl l (fun i hi => hbefore i hi j List.mem_cons_self) s, ?_⟩
    have hafter (i : IslandId) (hi : i ∈ r) : j ≠ i := (List.rel_of_pairwise_cons hright hi).ne
    rw [committed, kept_swapIfDue_of_ne hhub, kept_beforeHub, swapOthers, hl, List.foldl_append, List.foldl_cons,
      kept_foldl_otherTurn r hafter, otherTurn, if_neg hhub]

/-- An island that takes no part in a commit has no turn. -/
theorem kept_commitSwap_of_notMem (hj : j ∉ commitIslands) (s : State) :
    kept j (committed s) = kept j s := by
  have hhub : j ≠ islHub := fun h => hj (h ▸ mem_commitIslands.2 (by decide))
  rw [committed, kept_swapIfDue_of_ne hhub, kept_beforeHub]
  refine kept_foldl_otherTurn _ (fun i hi h => ?_) s
  subst h
  exact hj hi

end

end Sys2Proof.Proofs
end

section
/-! What a COMMIT_SWAP makes of each island's copies (O12). -/

namespace Sys2Proof.Proofs

open Sys2Proof.Machine Sys2Proof.Laws

section
variable {j : IslandId} {s t : State} {m : RegMap}

/-! ### What is kept, field by field -/

section
variable (h : kept j t = kept j s)
include h

theorem active_of_kept : (t.island j).active = (s.island j).active := congrArg (fun k => k.1.active) h
theorem gen_of_kept : (t.island j).gen = (s.island j).gen := congrArg (fun k => k.1.gen) h
theorem retGen_of_kept : (t.island j).retGen = (s.island j).retGen := congrArg (fun k => k.1.retGen) h
theorem pending_of_kept : (t.island j).pending = (s.island j).pending := congrArg (fun k => k.1.pending) h
theorem pendGen_of_kept : (t.island j).pendGen = (s.island j).pendGen := congrArg (fun k => k.1.pendGen) h
theorem pendDt_of_kept : (t.island j).pendDt = (s.island j).pendDt := congrArg (fun k => k.1.pendDt) h
theorem retention_of_kept : retention j t = retention j s := congrArg Prod.snd h

theorem decided_of_kept : (t.island j).decided = (s.island j).decided := congrArg (fun k => k.1.decided) h

/-- A copy that is retained is kept. -/
theorem retiring_of_kept (hr : (retention j s).isSome = true) : (t.island j).retiring = (s.island j).retiring := by
  have h1 : (if (retention j t).isSome then (t.island j).retiring else none) =
      if (retention j s).isSome then (s.island j).retiring else none := congrArg (fun k => k.1.retiring) h
  rwa [retention_of_kept h, if_pos hr, if_pos hr] at h1

end

/-! ### At the islands -/

/-- An island in which a swap is due makes it at its turn. -/
theorem committed_of_due (hj : j ∈ commitIslands) (hg : s.gated j = false) (hp : (s.island j).pending = some m)
    (hd : (s.island j).decided = true) (ht : s.due j (s.island j).pendDt = true) :
    ∃ t, SameTurn j s t ∧ kept j (committed s) = kept j (turned j (unqueued j t)) := by
  obtain ⟨t, hs, hk⟩ := commitSwap_turn hj s
  refine ⟨t, hs, hk.trans (kept_swapIfDue_self (m := m) ?_ ?_ ?_ ?_)⟩
  · rw [hs.gated, hg]
  · rw [pending_of_kept hs.kept, hp]
  · rw [decided_of_kept hs.kept, hd]
  · rw [pendDt_of_kept hs.kept, hs.due, ht]

/-- The pending copy of an island becomes its active one (R25). -/
theorem committed_active (hj : j ∈ commitIslands) (hg : s.gated j = false) (hp : (s.island j).pending = some m)
    (hd : (s.island j).decided = true) (ht : s.due j (s.island j).pendDt = true) :
    ((committed s).island j).active = m ∧ ((committed s).island j).gen = (s.island j).pendGen ∧
      ((committed s).island j).pending = none := by
  obtain ⟨t, hs, hk⟩ := committed_of_due hj hg hp hd ht
  obtain ⟨hact, hgen, hpend, -, -⟩ := turned_unqueued_island (m := m) ((pending_of_kept hs.kept).trans hp)
  exact ⟨(active_of_kept hk).trans hact, (gen_of_kept hk).trans (hgen.trans (pendGen_of_kept hs.kept)),
    (pending_of_kept hk).trans hpend⟩

/-- A spoke keeps its old copy as the retiring one for at least 1 us (R66). -/
theorem committed_spoke {k : SpokeId} (hc : s.clocked = true) (hp : (s.island (islSpoke k)).pending = some m)
    (hd : (s.island (islSpoke k)).decided = true) (ht : (s.island (islSpoke k)).pendDt.toNat ≤ s.dt.toNat) :
    ((committed s).island (islSpoke k)).active = m ∧
      ((committed s).island (islSpoke k)).retiring = some (s.island (islSpoke k)).active ∧
      ((committed s).island (islSpoke k)).retGen = (s.island (islSpoke k)).gen ∧
      ((committed s).spoke k).retainTo = some (dtAdd s.dt 4096000) := by
  have hlt : (islSpoke k).val < 0x40 := k.isLt
  have hj : islSpoke k ∈ commitIslands := mem_commitIslands.2 (by omega)
  have hg : s.gated (islSpoke k) = false := by
    have hopen : s.hub.gatesOpen = true := hc
    rw [State.gated, if_pos hlt, hopen]
    rfl
  have hdue : s.due (islSpoke k) (s.island (islSpoke k)).pendDt = true := by
    simp [State.due, hlt, dtLe, ht]
  have hret : retires (islSpoke k) = true := by simp [retires, hlt]
  obtain ⟨t, hs, hk⟩ := committed_of_due hj hg hp hd hdue
  have hp' : (t.island (islSpoke k)).pending = some m := (pending_of_kept hs.kept).trans hp
  obtain ⟨hact, -, -, hold, holdGen⟩ := turned_unqueued_island hp'
  have htime := turned_spoke_retention hp'
  rw [hs.dt] at htime
  rw [if_pos hret] at hold holdGen
  refine ⟨(active_of_kept hk).trans hact, ?_, ?_, ?_⟩
  · rw [retiring_of_kept hk (by rw [htime]; rfl), hold, active_of_kept hs.kept]
  · rw [retGen_of_kept hk, holdGen, gen_of_kept hs.kept]
  · have hspoke : retention (islSpoke k) (committed s) = ((committed s).spoke k).retainTo := dif_pos k.isLt
    rw [← hspoke, retention_of_kept hk, htime]

/-- An island whose swap is not due, or that is gated, keeps its active copy (R28). -/
theorem committed_of_not_due (h : s.gated j = true ∨ s.swapDue j = false) :
    ((committed s).island j).active = (s.island j).active ∧ ((committed s).island j).gen = (s.island j).gen := by
  have hk : kept j (committed s) = kept j s := by
    by_cases hj : j ∈ commitIslands
    · obtain ⟨t, hs, hk⟩ := commitSwap_turn hj s
      have hdue : t.swapDue j = s.swapDue j := by
        rw [State.swapDue, State.swapDue, pending_of_kept hs.kept, decided_of_kept hs.kept, pendDt_of_kept hs.kept, hs.due]
      have hno : (!t.gated j && t.swapDue j) = false := by
        rw [hs.gated, hdue]
        rcases h with h | h <;> simp [h]
      refine hk.trans ?_
      rw [swapIfDue, hno, hs.kept.symm]
      rfl
    · exact kept_commitSwap_of_notMem hj s
  exact ⟨active_of_kept hk, gen_of_kept hk⟩

end

end Sys2Proof.Proofs
end

section
/-! The commit unit's part of COMMIT_SWAP, and what Hub's swap after it leaves of that (O12). -/

namespace Sys2Proof.Proofs

open Sys2Proof.Machine Sys2Proof.Laws

section
variable {s t : State}

/-! ### Hub's swap -/

/-- What each of the steps that Hub's swap takes keeps, the swap keeps. -/
theorem swapHub_keeps {P : State → Prop} (old : RegMap) (hrelock : ∀ t, P t → P (relock t))
    (hlimit : ∀ w t, P t → P (limitW w t).2) (hswitch : ∀ sel t, P t → P (switchRef sel t)) (hset : ∀ w t, P t → P (setW w t))
    (harmed : ∀ b t, P t → P { t with hub := { t.hub with selArmed := b } })
    (hpend : ∀ w t, P t → P { t with hub := { t.hub with wPend := w } }) (h : P s) : P (swapHub old s) := by
  have hlock (c d : Prop) [Decidable c] [Decidable d] (sel : Nat) (t : State) (ht : P t) :
      P (if c then relock (if d then switchRef sel t else t) else t) := by
    split
    · refine hrelock _ ?_
      split
      · exact hswitch _ _ ht
      · exact ht
    · exact ht
  have hlim (c : Prop) [Decidable c] (w : Int) (t : State) (ht : P t) : P (if c then (limitW w t).2 else t) := by
    split
    · exact hlimit _ _ ht
    · exact ht
  simp only [swapHub]
  split
  · exact hlock _ _ _ _ (hlim _ _ _ (harmed _ _ h))
  split
  · exact hset _ _ (hlock _ _ _ _ (hlim _ _ _ (harmed _ _ h)))
  · exact hpend _ _ (hlock _ _ _ _ (hlim _ _ _ (harmed _ _ h)))

/-! ### Restart hold does not begin at a swap -/

/-- Every part of the state but Hub's. -/
def besideHub : Parts := { besideClock with noon := true }

theorem hub_of_outside (h : t.outside besideHub = s.outside besideHub) : t.hub = s.hub := by
  have h1 := congrArg State.hub h
  simpa only [State.outside, besideHub, besideClock, Bool.false_eq_true, if_false] using h1

/-- Hub with its gates shut, in a module whose other islands have stopped. -/
def gatesShut (s t : State) : State :=
  { t with hub := { t.hub with
      gatesOpen := false, hold := false, closeDt := s.dt, piStep := 0
      ho := if s.dtRuns then some ⟨s.dt, s.hub.w, s.clock⟩ else none } }

/-- Everything that runs from the core clock, as it stops. -/
def stopped (s : State) : State := forEach 4 gateEngine (gateFreewheel (gateTruing (holdReads s)))

theorem closeGates_eq (s : State) : closeGates s =
    if !s.hub.gatesOpen then s
    else if (gatesShut s (stopped s)).hub.inDay && (gatesShut s (stopped s)).paired then enterBrake 2 (gatesShut s (stopped s))
    else gatesShut s (stopped s) := by
  unfold closeGates stopped
  generalize forEach 4 gateEngine (gateFreewheel (gateTruing (holdReads s))) = t
  rfl

theorem hold_gatesShut (s t : State) : (gatesShut s t).hub.hold = false := rfl

theorem occs_gatesShut (s t : State) : (gatesShut s t).occs = t.occs := rfl

theorem hold_closeGates (h : s.hub.hold = false) : (closeGates s).hub.hold = false := by
  rw [closeGates_eq]
  split
  · exact h
  split
  · exact (congrArg Hub.hold (hub_of_outside (outside_enterBrake _ _ rfl rfl rfl))).trans (hold_gatesShut _ _)
  · exact hold_gatesShut _ _

theorem hold_relock (h : s.hub.hold = false) : (relock s).hub.hold = false := by
  simp only [relock, beginLock]
  exact (congrArg Hub.hold (hub_of_outside (outside_raiseAs _ _ _ _ _ _ _ rfl rfl))).trans (hold_closeGates h)

theorem hold_swapHub (old : RegMap) (h : s.hub.hold = false) : (swapHub old s).hub.hold = false :=
  swapHub_keeps (P := fun t => t.hub.hold = false) old (fun _ => hold_relock)
    (fun _ t ht => by rw [hub_of_outside (s := t) (by simp [besideHub, besideClock, besideCopies]), ht])
    (fun _ _ ht => by rw [switchRef, raiseNow_hub, ht])
    (fun _ _ ht => ht) (fun _ _ ht => ht) (fun _ _ ht => ht) h

/-! ### Occurrences on their way -/

/-- Every part of the state but the occurrences on their way. -/
def besideOccs : Parts :=
  { besideCopies with isl := true, spokes := true, occs := false }

theorem occs_of_outside (h : t.outside besideOccs = s.outside besideOccs) : t.occs = s.occs := by
  have h1 := congrArg State.occs h
  simpa only [State.outside, besideOccs, besideCopies, Bool.false_eq_true, if_false] using h1

section
variable {o : Occ}

theorem mem_occs_of_outside (h : t.outside besideOccs = s.outside besideOccs) (ho : o ∈ s.occs) : o ∈ t.occs := by
  rwa [occs_of_outside h]

variable (h : o ∈ s.occs)
include h

theorem mem_occs_raiseAs (coarse : Bool) (e c d a : Nat) (dt : DT) : o ∈ (raiseAs coarse e c d a dt s).occs := by
  simp only [raiseAs]
  split
  · exact h
  · exact List.mem_append_left _ h

theorem mem_occs_setFree (n : Nat) : o ∈ (setFree n s).occs := by
  simp only [setFree]
  split
  · exact mem_occs_raiseAs (by exact h) _ _ _ _ _ _
  split
  · exact mem_occs_raiseAs (by exact h) _ _ _ _ _ _
  · exact h

theorem mem_occs_dropFrame (f : Frame) : o ∈ (dropFrame f s).occs := by
  have hf : o ∈ (setFree (s.fw.free + f.cells) { s with fw := { s.fw with frames := s.fw.frames.erase f } }).occs :=
    mem_occs_setFree (by exact h) _
  simp only [dropFrame, releaseTable]
  split
  · exact mem_occs_raiseAs (by exact hf) _ _ _ _ _ _
  · exact hf

theorem mem_occs_cutEgress (f : Frame) : o ∈ (cutEgress f s).occs := by
  refine mem_occs_of_outside (outside_modFwCnt _ _ _ rfl) ?_
  simp only [sentFrame]
  split
  · exact mem_occs_of_outside (outside_sendWaiting _ _ rfl) (mem_occs_dropFrame h f)
  · exact mem_occs_dropFrame h f

theorem mem_occs_gateFreewheel : o ∈ (gateFreewheel s).occs := by
  have hfold (l : List Frame) (u : State) (hu : o ∈ u.occs) : o ∈ (l.foldl (fun s f =>
      if f.egress.isSome then
        let s1 := cutEgress f s
        { s1 with fw := { s1.fw with cut := s1.fw.cut ++ [(f.pair, f.toLine)] } }
      else if f.whole then s
      else modFwCnt f.pair (fun c => { c with gdrop := c.gdrop + 1 }) (dropFrame f s)) u).occs := by
    induction l generalizing u with
    | nil => exact hu
    | cons f l ih =>
      rw [List.foldl_cons]
      refine ih _ ?_
      dsimp only
      split
      · exact mem_occs_cutEgress hu f
      split
      · exact hu
      · exact mem_occs_of_outside (outside_modFwCnt _ _ _ rfl) (mem_occs_dropFrame hu f)
  exact hfold _ _ h

theorem mem_occs_enterBrake (cause : Nat) : o ∈ (enterBrake cause s).occs := by
  simp only [enterBrake, releaseToken]
  split
  · exact h
  refine mem_occs_raiseAs ?_ _ _ _ _ _ _
  split
  · exact mem_occs_raiseAs (by exact h) _ _ _ _ _ _
  · exact h

theorem mem_occs_closeGates : o ∈ (closeGates s).occs := by
  have hreads : o ∈ (gateFreewheel (gateTruing (holdReads s))).occs :=
    mem_occs_gateFreewheel (mem_occs_of_outside (outside_gateTruing _ rfl rfl) (mem_occs_of_outside (outside_holdReads _ rfl rfl) h))
  have hgates : o ∈ (gatesShut s (stopped s)).occs := by
    rw [occs_gatesShut]
    exact mem_occs_of_outside (outside_forEach _ _ (fun v u => outside_gateEngine v u rfl rfl rfl) _) hreads
  rw [closeGates_eq]
  split
  · exact h
  split
  · exact mem_occs_enterBrake hgates _
  · exact hgates

theorem mem_occs_relock : o ∈ (relock s).occs := mem_occs_raiseAs (by exact mem_occs_closeGates h) _ _ _ _ _ _

end

theorem mem_occs_swapHub {o : Occ} (old : RegMap) (h : o ∈ s.occs) : o ∈ (swapHub old s).occs :=
  swapHub_keeps (P := fun t => o ∈ t.occs) old (fun _ => mem_occs_relock)
    (fun _ t ht => by
      simp only [limitW]
      split
      · exact ht
      · exact mem_occs_raiseAs ht _ _ _ _ _ _)
    (fun _ _ ht => mem_occs_raiseAs (by exact ht) _ _ _ _ _ _) (fun _ _ ht => ht) (fun _ _ ht => ht) (fun _ _ ht => ht) h

end

end Sys2Proof.Proofs
end

section
/-! O12: what a commit does at each island, and the swap at DT_effect. -/

namespace Sys2Proof.Proofs

open Sys2Proof.Machine Sys2Proof.Laws

section
variable {s t : State} {p : PendingCommit}

/-! ### The commit unit and Hub before Hub's swap -/

/-- Every part of the state but the commit unit's. -/
def besideCommit : Parts := { besideClock with commit := false, hub := true, noon := true }

theorem commit_of_outside (h : t.outside besideCommit = s.outside besideCommit) : t.commit = s.commit := by
  have h1 := congrArg State.commit h
  simpa only [State.outside, besideCommit, Bool.false_eq_true, if_false] using h1

theorem commit_swapIfDue (i : IslandId) (s : State) : (swapIfDue i s).commit = s.commit :=
  commit_of_outside (outside_swapIfDue i s rfl rfl rfl rfl rfl rfl rfl rfl rfl rfl rfl rfl rfl rfl)

theorem commit_swapOthers (s : State) : (swapOthers s).commit = s.commit := by
  have hturn (t : State) (i : IslandId) : (otherTurn t i).outside besideCommit = t.outside besideCommit := by
    rw [otherTurn]
    split
    · rfl
    · exact outside_swapIfDue i t rfl rfl rfl rfl rfl rfl rfl rfl rfl rfl rfl rfl rfl rfl
  exact commit_of_outside (outside_foldl _ hturn _ s)

theorem clockOf_swapOthers (s : State) : clockOf (swapOthers s) = clockOf s := clockOf_foldl_otherTurn _ s

/-! ### The end of restart hold (R256) -/

theorem commit_endHold (s : State) : (endHold s).commit = { s.commit with autoAt := none } := by
  have hspokes : (forEach 64 endHoldSpoke s).commit = s.commit :=
    commit_of_outside (outside_forEach _ _ (fun i t => outside_endHoldSpoke i t rfl rfl rfl rfl) s)
  unfold endHold
  generalize forEach 64 endHoldSpoke s = t at *
  rw [← hspokes]
  rw [raiseNow_commit]

theorem clockOf_endHold (s : State) : clockOf (endHold s) = clockOf { s with hub := { s.hub with hold := false } } := by
  have hspokes : clockOf (forEach 64 endHoldSpoke s) = clockOf s :=
    clockOf_of_outside (outside_forEach _ _ (fun i t => outside_endHoldSpoke i t rfl rfl rfl rfl) s)
  unfold endHold
  generalize forEach 64 endHoldSpoke s = t at *
  refine (clockOf_of_outside (outside_raiseNow _ _ _ _ _ rfl rfl)).trans ?_
  simp only [clockOf, Prod.mk.injEq] at hspokes ⊢
  obtain ⟨hdt, hruns, hclock, hphase, hat, hclk, hhub⟩ := hspokes
  rw [hhub]
  exact ⟨hdt, hruns, hclock, hphase, hat, hclk, rfl⟩

theorem hold_endHold (s : State) : (endHold s).hub.hold = false := by rw [hub_of_clockOf (clockOf_endHold s)]

theorem pend_endHoldIfDue (s : State) : (endHoldIfDue s).commit.pend = s.commit.pend := by
  rw [endHoldIfDue]
  split
  · rw [commit_endHold]
  · rfl

/-- Handlebar's time does not rest on restart hold. -/
theorem due_endHoldIfDue (d : DT) (s : State) : (endHoldIfDue s).due islHandlebar d = s.due islHandlebar d := by
  rw [endHoldIfDue]
  split
  · refine due_congr (s := { s with hub := { s.hub with hold := false } }) (clockOf_endHold s) (fun c hc => ?_) d
    have hval := congrArg Fin.val hc
    simp only [islHandlebar, islPort] at hval
    omega
  · rfl

/-! ### The report (R34) -/

theorem reportDone_of_due (hp : s.commit.pend = some p) (hc : p.confirmed = true) (hd : s.due islHandlebar p.dtEff = true) :
    reportDone s = raise 252 1 0 p.gen.toNat p.dtEff
      (setStatus p.src 2 0 0xFF 0 false { s with commit := { s.commit with pend := none, gen := p.gen, dt := p.dtEff } }) := by
  simp only [reportDone, hp, hc, hd, Bool.and_self, if_true]

theorem autoAt_reportDone (s : State) : (reportDone s).commit.autoAt = s.commit.autoAt := by
  unfold reportDone
  split
  · split
    · rw [raise_commit]
      rfl
    · rfl
  · rfl

theorem hub_reportDone (s : State) : (reportDone s).hub = s.hub := hub_of_outside (outside_reportDone s rfl rfl rfl)

/-! ### Hub's own swap -/

theorem swapIsland_hub (d : DT) (s : State) (hp : ¬ (s.island islHub).pending.isNone = true) :
    swapIsland d islHub s = swapHub (s.island islHub).active (copied islHub s) := by
  rw [swapIsland, if_neg hp, dif_neg (by decide), dif_neg (by decide), if_neg (by decide), dif_neg (by decide),
    if_neg (by decide), if_neg (by decide), if_pos rfl]
  rfl

/-- What the change of an island and the swap of Hub keep, Hub's turn keeps. -/
theorem swapIfDue_hub_keeps {P : State → Prop} (hisl : ∀ x t, P t → P (t.setIsland islHub x))
    (hswap : ∀ old t, P t → P (swapHub old t)) (h : P s) : P (swapIfDue islHub s) := by
  have hcopied (t : State) (ht : P t) : P (copied islHub t) := hisl _ _ ht
  rw [swapIfDue]
  split
  · rw [swapConfirmed]
    split
    · by_cases hp : ((unqueued islHub s).island islHub).pending.isNone = true
      · have hsame : swapIsland (s.island islHub).pendDt islHub (unqueued islHub s) = unqueued islHub s := by
          rw [swapIsland, if_pos hp]
        exact hsame ▸ hisl _ _ h
      · exact swapIsland_hub (s.island islHub).pendDt _ hp ▸ hswap _ _ (hcopied _ (hisl _ _ h))
    · exact h
  · exact h

theorem mem_occs_hubTurn {o : Occ} (h : o ∈ s.occs) : o ∈ (swapIfDue islHub s).occs :=
  swapIfDue_hub_keeps (P := fun t => o ∈ t.occs) (fun _ _ ht => ht) (fun old _ ht => mem_occs_swapHub old ht) h

theorem hold_hubTurn (h : s.hub.hold = false) : (swapIfDue islHub s).hub.hold = false :=
  swapIfDue_hub_keeps (P := fun t => t.hub.hold = false) (fun _ _ ht => ht) (fun old _ ht => hold_swapHub old ht) h

/-! ### COMMIT_SWAP at the commit unit -/

/-- A confirmed commit is done once Handlebar's replica is there (R33, R34). -/
theorem committed_report (hp : s.commit.pend = some p) (hc : p.confirmed = true) (hd : s.due islHandlebar p.dtEff = true) :
    (committed s).commit.pend = none ∧ (committed s).commit.state = 2 ∧ (committed s).commit.gen = p.gen ∧
      (committed s).commit.dt = p.dtEff ∧ (⟨252, causeWord 1 0 p.gen.toNat, p.dtEff, false⟩ : Occ) ∈ (committed s).occs := by
  have hpend : (endHoldIfDue (swapOthers s)).commit.pend = some p := by rw [pend_endHoldIfDue, commit_swapOthers, hp]
  have hdue : (endHoldIfDue (swapOthers s)).due islHandlebar p.dtEff = true := by
    rw [due_endHoldIfDue, ← hd]
    refine due_congr (clockOf_swapOthers s) (fun c hc => ?_) _
    have hval := congrArg Fin.val hc
    simp only [islHandlebar, islPort] at hval
    omega
  have hb : beforeHub s = _ := reportDone_of_due hpend hc hdue
  have hcommit : (committed s).commit = (beforeHub s).commit := commit_swapIfDue _ _
  have hoccs : (⟨252, causeWord 1 0 p.gen.toNat, p.dtEff, false⟩ : Occ) ∈ (beforeHub s).occs := by
    rw [hb, raise_handlebar_occs (by omega) (by omega)]
    exact List.mem_append_right _ (List.mem_singleton.2 rfl)
  rw [hcommit]
  refine ⟨?_, ?_, ?_, ?_, ?_⟩
  · rw [hb, raise_commit]; rfl
  · rw [hb, raise_commit]; rfl
  · rw [hb, raise_commit]; rfl
  · rw [hb, raise_commit]; rfl
  · rw [committed]; exact mem_occs_hubTurn hoccs

/-- A restart hold that a confirmed commit outlasts ends at its DT_effect (R256). -/
theorem committed_hold (hh : s.hub.hold = true) (hp : s.commit.pend = some p) (hc : p.confirmed = true)
    (hd : p.dtEff.toNat ≤ s.dt.toNat) (ho : s.hub.openDt.toNat < p.dtEff.toNat) :
    (committed s).hub.hold = false ∧ (committed s).commit.autoAt = none := by
  have hend : endHoldIfDue (swapOthers s) = endHold (swapOthers s) := by
    have hclk := clockOf_swapOthers s
    rw [endHoldIfDue, hub_of_clockOf hclk, commit_swapOthers, dt_of_clockOf hclk]
    simp only [hh, hp, hc, dtLe, hd, ho, Option.any_some, decide_true, Bool.and_self, if_true]
  have hhold : (beforeHub s).hub.hold = false := by rw [beforeHub, hub_reportDone, hend, hold_endHold]
  have hcommit : (committed s).commit = (beforeHub s).commit := commit_swapIfDue _ _
  refine ⟨?_, ?_⟩
  · rw [committed]; exact hold_hubTurn hhold
  · rw [hcommit, beforeHub, autoAt_reportDone, hend, commit_endHold]

end

/-! ### The discard of a copy without a decision -/

/-- A module that reports its stack-wide commit refused with LINK, and itself an orphan of it (R339). -/
theorem refusePending_orphaned (hp : s.commit.pend = some p) :
    let u := refusePending 8 0xFF 0 false s
    let t := raiseNow 238 1 0 0 { u with stoker := { u.stoker with armed := none, orphan := u.stoker.orphan + 1 } }
    (∀ j, (t.island j).pending = (s.island j).pending) ∧ t.commit.pend = none ∧ t.commit.state = 3 ∧ t.commit.cause = 8 ∧
      t.stoker = { s.stoker with armed := none, orphan := s.stoker.orphan + 1 } := by
  rw [refusePending_of_some hp]
  refine ⟨fun j => ?_, ?_, ?_, ?_, ?_⟩
  · simp only [raiseNow_island]
    exact (congrArg Isl.pending (sayRefused_island_get _ _ _ _ _ _ _ _ j)).trans (abandoned_island_pending p j)
  · simp
  · simp
  · simp
  · simp

/-- Settles O12: each island's end of the channel from what its message says; the swap from the island's own turn in
COMMIT_SWAP, before which nothing it rests on changes and after which nothing touches its copies; and the commit unit's
report and the end of restart hold, which Hub's swap after them leaves standing. -/
theorem islandEndCompletes : Obligations.IslandEndCompletes := by
  unfold Obligations.IslandEndCompletes
  refine ⟨?_, ?_, ?_, fun _ _ => exec_confirm, fun _ _ => exec_abandon, fun _ _ => exec_pendingCopyDiscard, ?_, ?_, ?_, ?_,
    ?_, ?_, ?_⟩
  · intro s i d g own hc hp hnone hw
    have hw' : s.gated i = true ∨ (s.island i).pending = none ∨ (s.island i).decided = false := .inr hw
    obtain ⟨hself, hothers, hpend, hanswers, hlocked⟩ :=
      arm_of_none (d := d) (g := g) ((armCause_popChannel (s := s) (i := i) (own := own)).trans hnone)
    refine ⟨_, exec_prepare hc hp hw', ?_, fun j hj => ?_, hpend, hanswers, hlocked⟩
    · rw [hself, popChannel_island]
      rfl
    · rw [hothers j hj]
      exact setIsland_get_ne _ _ _ _ hj
  · intro s i d g own c hc hp hsome hw
    rw [exec_prepare hc hp hw, arm_of_some (armCause_popChannel.trans hsome)]
    rfl
  · intro s i d g own hc
    exact ⟨exec_prepare_of_waiting hc, rfl⟩
  · intro s i p hp hd ha hi ht hpend hr
    obtain ⟨hisland, hnone, hstate, hcause, hstoker⟩ :=
      refusePending_orphaned (s := s.setIsland i { s.island i with pending := none }) (p := p) (by exact hpend)
    refine ⟨_, exec_pendingCopyDiscard_orphan hp hd ha hi ht hpend hr, ?_, hnone, hstate, hcause, hstoker⟩
    rw [hisland, setIsland_get]
  · intro s k d hr hc hd
    obtain ⟨hspoke, hisland⟩ := releaseRetiring_of_expired (s := s.setSpoke k { s.spoke k with retainTo := none }) (k := k)
      (by rw [setSpoke_get])
    refine ⟨_, exec_retireHoldExpiry hr hc hd, ?_, ?_⟩
    · rw [hspoke, setSpoke_get]
    · rw [hisland, setSpoke_get]
      rfl
  · intro s j m hj hg hp hd ht
    exact ⟨_, exec_commitSwap s, committed_active (mem_commitIslands.2 hj.symm) hg hp hd ht⟩
  · intro s k m hc hp hd ht
    exact ⟨_, exec_commitSwap s, committed_spoke hc hp hd ht⟩
  · intro s j h
    exact ⟨_, exec_commitSwap s, committed_of_not_due h⟩
  · intro s p hp hc hd
    exact ⟨_, exec_commitSwap s, committed_report hp hc hd⟩
  · intro s p hh hp hc hd ho
    exact ⟨_, exec_commitSwap s, committed_hold hh hp hc hd ho⟩

end Sys2Proof.Proofs
end

section
/-! Entry to a spoke's queue (O16): the cancels behind a descriptor taken, the checks of R67 passed, and the place taken. -/

namespace Sys2Proof.Proofs

open Sys2Proof.Machine Sys2Proof.Laws

/-! ### Cancels and Truing leave the channel and the queue to entry -/

section
variable {i : SpokeId} {s : State}

/-- A cancel that arrives is no part of the spoke's channel or queue. -/
theorem arriveCancel_spoke (cut : DT) (p : ThreadId) :
    ((arriveCancel i cut p s).spoke i).chan = (s.spoke i).chan ∧
      ((arriveCancel i cut p s).spoke i).queue = (s.spoke i).queue := by
  unfold arriveCancel
  split <;> simp [setCancel]

/-- The cancels at the head of the channel leave it, and the queue stands (R44). -/
theorem takeCancels_spoke (l : List SpokeMsg) (hl : (s.spoke i).chan = l) :
    ((takeCancels i l s).spoke i).chan = l.dropWhile (·.isCancel) ∧
      ((takeCancels i l s).spoke i).queue = (s.spoke i).queue := by
  induction l generalizing s with
  | nil => exact ⟨hl, rfl⟩
  | cons msg rest ih =>
    cases msg with
    | desc d => exact ⟨hl, rfl⟩
    | cancel cut p =>
      obtain ⟨hchan, hqueue⟩ :=
        arriveCancel_spoke (i := i) (s := s.modSpoke i fun sp => { sp with chan := rest }) cut p
      obtain ⟨hc, hq⟩ := ih (hchan.trans (by simp))
      exact ⟨hc, hq.trans (hqueue.trans (by simp))⟩

theorem drainCancels_spoke (hck : s.clocked = true) :
    ((drainCancels i s).spoke i).chan = (s.spoke i).chan.dropWhile (·.isCancel) ∧
      ((drainCancels i s).spoke i).queue = (s.spoke i).queue := by
  rw [drainCancels, if_pos hck]
  exact takeCancels_spoke _ rfl

theorem spoke_of_outside {t : State} (h : t.outside besideCopies = s.outside besideCopies) : t.spoke i = s.spoke i := by
  have hs : t.spokes = s.spokes := by simpa [State.outside, besideCopies] using congrArg State.spokes h
  rw [State.spoke, hs, State.spoke]

/-- Truing makes room for work without a look at the spoke's channel. -/
theorem truingWork_chan (first : DT) : ((truingWork i first s).spoke i).chan = (s.spoke i).chan := by
  have hstop (c : Bool) :
      (if c then startGap i ((stopHits (itemOf i) s).setReq i { s.req i with burst := none }) else s).spoke i =
        s.spoke i := by
    split
    · exact spoke_of_outside (by simp [besideCopies])
    · rfl
  unfold truingWork
  dsimp only
  split
  · rw [raise_spoke, modSpoke_eq, setSpoke_get, spoke_of_outside (outside_abortRun i _ rfl), hstop]
    rfl
  · rw [hstop]

theorem truingWork_clocked (first : DT) : (truingWork i first s).clocked = s.clocked :=
  congrArg Hub.gatesOpen (hub_of_outside (outside_truingWork i first s rfl rfl rfl rfl))

end

/-! ### A place taken -/

/-- The queue with what is left of its last descriptor (R63). -/
def cutQueue (q : List QDesc) (ahead : Option QDesc) : List QDesc :=
  match ahead with
  | some a => q.dropLast ++ [a]
  | none => q

@[simp] theorem cutQueue_none (q : List QDesc) : cutQueue q none = q := rfl
@[simp] theorem cutQueue_some (q : List QDesc) (b a : QDesc) : cutQueue (q ++ [b]) (some a) = q ++ [a] := by
  simp [cutQueue]

section
variable {s : State} {i : SpokeId} {e : QDesc} {ahead : Option QDesc}

/-- Behind a descriptor with an edge still to come, entry completes nothing. -/
theorem acceptDesc_eq (ha : ∀ a ∈ ahead, a.done = false) :
    acceptDesc i e ahead s = (truingWork i (dtAdd e.start (s.deskew i e)) s).modSpoke i fun sp =>
      { sp with queue := cutQueue (s.spoke i).queue ahead ++ [e] } := by
  cases ahead with
  | none => rfl
  | some a => simp [acceptDesc, cutQueue, ha a rfl]

end

section
variable {s : State} {i : SpokeId} {k : Kind} {d : ChanDesc} {rest : List SpokeMsg} {ahead : Option QDesc}

/-- A descriptor that entry accepts stands last in the queue, and the cancels behind it have left the channel. -/
theorem exec_descriptorOf_accepted (hc : (s.spoke i).chan = .desc d :: rest) (hck : s.clocked = true)
    (hk : kindOf d.raw = some k) (he : entryCheck s i d (enterAs (s.spoke i) d k) = .inr ahead)
    (ha : ∀ a ∈ ahead, a.done = false) :
    ∃ t, exec (descriptorOf i k) s = .next t ∧ (t.spoke i).chan = rest.dropWhile (·.isCancel) ∧
      (t.spoke i).queue = cutQueue (s.spoke i).queue ahead ++ [enterAs (s.spoke i) d k] := by
  have henter : enterDesc i k s = drainCancels i (acceptDesc i (enterAs (s.spoke i) d k) ahead
      (s.setSpoke i { s.spoke i with chan := rest })) := by
    rw [enterDesc, takeDesc_of_head _ hc hck (by simp [hk])]
    simp only [setSpoke_get, entryCheck_pop, enterAs_pop, he]
  refine ⟨_, (exec_descriptorOf i k s).trans (congrArg _ henter), ?_⟩
  rw [acceptDesc_eq ha]
  refine (drainCancels_spoke ?_).imp (Eq.trans · ?_) (Eq.trans · ?_)
  · rw [modSpoke_eq, setSpoke_clocked, truingWork_clocked, setSpoke_clocked, hck]
  · simp [truingWork_chan]
  · simp

end

/-! ### The checks of R67 passed -/

section
variable {s : State} {i : SpokeId} {d : ChanDesc} {e a : QDesc} {m : RegMap} {q : List QDesc}
  (hf : formatOk d.raw = true) (hg : s.genRegs (islSpoke i) d.tag = some m) (ho : ownerIn m i.val = none)
  (hl : limitsOk d.raw (s.outIn m i) = true) (ht : dtLe (dtAdd s.dt 65536) e.start = true)
include hf hg ho hl ht

theorem entryCheck_of_empty (hq : (s.spoke i).queue = []) : entryCheck s i d e = .inr none := by
  simp [entryCheck, hf, hg, ho, hl, ht, hq]

theorem entryCheck_behind {a' : QDesc} (hq : (s.spoke i).queue = q ++ [a]) (hc : orderCheck s i e a = some a') :
    entryCheck s i d e = .inr (some a') := by
  simp [entryCheck, hf, hg, ho, hl, ht, hq, hc]

end

section
variable {s : State} {i : SpokeId} {e a : QDesc} {n : Nat}

/-- The guard of R68 kept behind a descriptor of known end, which stays as it is. -/
theorem orderCheck_of_guarded (hk : a.kind ≠ .train ∨ a.pulses.isSome = true)
    (hg : dtLe (dtAdd a.last (s.deskew i a +
        guardOf a.kind e.kind (s.outIn (s.tagRegs i a.tag) i) (s.outIn (s.tagRegs i e.tag) i)))
      (dtAdd e.start (s.deskew i e)) = true) : orderCheck s i e a = some a := by
  have hends : (a.kind == .train && a.pulses.isNone) = false := by
    rcases hk with hk | hk
    · simp [hk]
    · simp [hk]
  simp [orderCheck, hends, hg]

/-- A TRAIN without end is cut to the pulses that lie a guard before what enters (R63). -/
theorem orderCheck_of_cut (hk : a.kind = .train ∧ a.pulses = none)
    (hn : n = keptPulses a (s.deskew i a) (dtAdd e.start (s.deskew i e))
      (guardOf .train e.kind (s.outIn (s.tagRegs i a.tag) i) (s.outIn (s.tagRegs i e.tag) i)))
    (h0 : n ≠ 0) (ht : dtLe (dtAdd s.dt 65536) (dtAdd a.start (n * dPeriod a.raw)) = true) :
    orderCheck s i e a = some { a with pulses := some n } := by
  obtain ⟨htrain, hp⟩ := hk
  subst hn
  simp [orderCheck, htrain, hp, h0, ht]

/-- A TRAIN cut to more pulses than it has emitted has an edge to come. -/
theorem done_of_cut (hk : a.kind = .train) (hn : a.edges < 2 * n) : { a with pulses := some n }.done = false := by
  simp [QDesc.done, QDesc.total, hk, hn]

end

/-- Settles O16: a descriptor that passes the checks is accepted behind what R63 leaves of the one ahead, which has an edge
still to come; the place taken, and then the cancels, are the same for each. -/
theorem descriptorEntryCompletes : Obligations.DescriptorEntryCompletes := by
  unfold Obligations.DescriptorEntryCompletes
  refine ⟨?_, ?_, ?_⟩
  · intro s i k d rest m hc hck hk hf hg ho hl ht hq
    have he := entryCheck_of_empty (e := enterAs (s.spoke i) d k) hf hg ho hl ht hq
    simpa [hq] using exec_descriptorOf_accepted hc hck hk he (by simp)
  · intro s i k d rest m a q hc hck hk hf hg ho hl ht hq ha hgd hdone
    have he := entryCheck_behind (e := enterAs (s.spoke i) d k) hf hg ho hl ht hq (orderCheck_of_guarded ha hgd)
    simpa [hq] using exec_descriptorOf_accepted hc hck hk he (by simpa using hdone)
  · rintro s i k d rest m a q n hc hck hk hf hg ho hl ht hq ha hn ⟨h0, hlast, hedges⟩
    have he := entryCheck_behind (e := enterAs (s.spoke i) d k) hf hg ho hl ht hq (orderCheck_of_cut ha hn h0 hlast)
    simpa [hq] using exec_descriptorOf_accepted hc hck hk he (by simpa using done_of_cut ha.1 hedges)

end Sys2Proof.Proofs
end

section
/-! Issues without room, and late ones (O26): the four ends of one try, the issue instructions that come to a try, and the
retry. -/

namespace Sys2Proof.Proofs

open Sys2Proof.Machine Sys2Proof.Laws

/-! ### The ends of one try (R133) -/

theorem complete_eq (p : ThreadId) (f : Thread → Thread) (s : State) :
    complete p f s = s.completed p (f (s.thread p)) := rfl

section
variable {s : State} {p : ThreadId} {m : Issue}

/-- The way of a trigger is closed (R113). -/
theorem tryIssue_of_closed (hc : s.closed m = true) :
    tryIssue p m s = s.completed p { s.thread p with f := true, ip := (s.thread p).ip + 1 } := by
  rw [tryIssue, if_pos hc]
  rfl

variable (hc : s.closed m = false)
include hc

/-- Without room the thread stays with its instruction, in HOLD. -/
theorem tryIssue_of_full (hr : s.hasRoom m = false) :
    tryIssue p m s =
      s.setThread p { s.thread p with state := .hold, waitOn := .issue m, nextSlot := s.slot + 16 } := by
  simp [tryIssue, hc, hr]

variable (hr : s.hasRoom m = true)
include hr

theorem tryIssue_of_entered (hl : s.meetsLead m = true) :
    tryIssue p m s = complete p (fun t => { t with f := false, ip := t.ip + 1 }) (enter p m s) := by
  simp only [tryIssue, hc, hr, hl, Bool.not_true, Bool.false_eq_true, if_false, if_true]
  rfl

/-- Under its lead an issue ends with F set, LATE counted, and LATE raised where the thread's channel has room (R102). -/
theorem tryIssue_of_late {ta : DT} {lead : Nat} (hm : m.lead = some (ta, lead)) (hl : s.meetsLead m = false) :
    (tryIssue p m s).thread p = (s.completed p { s.thread p with
        f := true, late := (s.thread p).late + 1, ip := (s.thread p).ip + 1 }).thread p ∧
      (s.evFull (128 + 2 * p.val) = false →
        ⟨Fin.ofNat 256 (128 + 2 * p.val), causeWord 1 0 0, ta, false⟩ ∈ (tryIssue p m s).occs) := by
  have htry : tryIssue p m s = complete p (fun t => { t with f := true }.step) (sayLate p ta s) := by
    simp [tryIssue, hc, hr, hl, hm]
  simp only [htry, complete_eq, State.completed]
  refine ⟨by simp [sayLate, Thread.step], fun hroom => ?_⟩
  have hsrc : (Fin.ofNat 256 (128 + 2 * p.val)).val = 128 + 2 * p.val := Nat.mod_eq_of_lt (by omega)
  have hroom' : (s.modThread p fun t => { t with late := t.late + 1 }).evFull
      (Fin.ofNat 256 (128 + 2 * p.val)).val = false := by
    rw [hsrc]
    exact hroom
  rw [setThread_occs, sayLate, (raise_of_room hroom').1]
  simp

end

/-! ### Room (R108, R158) -/

section
variable {s : State} {i : SpokeId} {raw : BitVec 128} {ta : DT}

/-- Two places in the channel are room for a descriptor with an ANCHOR in front or without. -/
theorem hasRoom_desc (h : (s.spoke i).chan.length + 2 ≤ 4 ∧ s.pacer.used.get i < 64) :
    s.hasRoom (.desc i raw ta) = true := by
  obtain ⟨hchan, hqueue⟩ := h
  simp only [State.hasRoom, Bool.and_eq_true, decide_eq_true_eq]
  refine ⟨?_, hqueue⟩
  split <;> omega

theorem hasRoom_desc_of_full (h : 4 ≤ (s.spoke i).chan.length ∨ 64 ≤ s.pacer.used.get i) :
    s.hasRoom (.desc i raw ta) = false := by
  simp only [State.hasRoom, Bool.and_eq_false_iff, decide_eq_false_iff_not]
  refine h.imp (fun hchan => ?_) (by omega)
  split <;> omega

theorem hasRoom_vstop {v : EngineId} (h : (s.engine v).jumpsIn.length < 4) : s.hasRoom (.vstop v ta) = true := by
  simp [State.hasRoom, h]

end

/-! ### The instructions that try -/

section
variable {s : State} {p : ThreadId}

theorem startIssue_of_below (m : Issue) (h : (s.thread p).ip ≠ 0x3FFF) : startIssue p m s = tryIssue p m s := by
  rw [startIssue, startWait, if_neg h]

theorem exec_issueRetry {m : Issue} (hu : s.mayUse p .hold = true) (hw : (s.thread p).waitOn = .issue m) :
    exec (.issueRetry p) s = .next (tryIssue p m s) := by
  simp [exec, execIssueRetry, hu, hw]

/-- A thread that may use its slot in a state is in it. -/
theorem state_of_mayUse {st : TState} (h : s.mayUse p st = true) : (s.thread p).state = st := by
  simp only [State.mayUse, Bool.and_eq_true, beq_iff_eq] at h
  obtain ⟨⟨⟨-, hst⟩, -⟩, -⟩ := h
  exact hst

/-- A field of two parts. -/
theorem iField_add (w : BitVec 64) (lo m n : Nat) : iField w lo (m + n) = iField w lo m + 2 ^ m * iField w (lo + m) n := by
  simp only [iField, fieldOf, pow_add, Nat.mod_mul, Nat.shiftRight_add, Nat.shiftRight_eq_div_pow _ m]

/-- D of format E names a T register from 8 on (R91). -/
theorem isT_fD {w : BitVec 64} (h : 8 ≤ iField w 52 4) : isT (fD w) = true := by
  have hlt : iField w 52 4 < 16 := Nat.mod_lt _ (by decide)
  simp [isT, fD, h, hlt]

section
variable {w : BitVec 64} (hi : s.issues p w)
include hi

/-- A format E issue of good form whose spoke is in range (R102). -/
theorem issueE_issues {op : Nat} {ok : BitVec 64 → Bool} {f : SpokeId → DT → BitVec 64 → State → State} {i : SpokeId}
    (ho : iOp w = op) (hd : 8 ≤ iField w 52 4) (hs : okSpoke w = true ∧ spokeOf (s.thread p) w = i.val)
    (hok : ok w = true) : issueE p op ok f s = .next (f i ((s.thread p).tr (iField w 52 4)) w s) := by
  obtain ⟨hform, hspoke⟩ := hs
  have hrange : ¬ 63 < spokeOf (s.thread p) w := by omega
  have hi' : Fin.ofNat 64 (spokeOf (s.thread p) w) = i := by simp [hspoke]
  rw [issueE, issueOp_issues hi ho, if_pos (by simp [isT_fD hd, hform, hok]), if_neg hrange, hi']
  rfl

variable (hip : (s.thread p).ip ≠ 0x3FFF)
include hip

/-- A PULSE of good form tries a descriptor for its spoke with the DT of its T register (R103). -/
theorem exec_pulse {i : SpokeId} (ho : iOp w = 0x40) (hd : 8 ≤ iField w 52 4)
    (hs : okSpoke w = true ∧ spokeOf (s.thread p) w = i.val) (hz : iField w 48 4 = 0 ∧ iField w 26 11 = 0) :
    ∃ raw, exec (.pulse p) s = .next (tryIssue p (.desc i raw ((s.thread p).tr (iField w 52 4))) s) := by
  have hok : (none' (fA w) && zero w 26 11) = true := by simp [fA, none', zero, hz]
  rw [exec, execPulse, issueE_issues hi ho hd hs hok, startIssue_of_below _ hip]
  exact ⟨_, rfl⟩

/-- A VSTOP of good form tries its message with the DT of its T register (R109). -/
theorem exec_vstop {v : EngineId} {d : Fin 8} (ho : iOp w = 0x53) (hd : iField w 52 4 = 8 + d.val)
    (hv : iField w 43 4 = 0 ∧ iField w 32 8 = 0 ∧ iField w 40 3 = v.val) (hz : iField w 47 5 = 0 ∧ iField w 0 32 = 0) :
    exec (.vstop p) s = .next (tryIssue p (.vstop v ((s.thread p).t.get d)) s) := by
  obtain ⟨hrest, hwide, heng⟩ := hv
  obtain ⟨hfields, himm⟩ := hz
  have h47 : iField w 47 1 = 0 ∧ iField w 48 4 = 0 := by
    have hsplit : iField w 47 5 = iField w 47 1 + 2 * iField w 48 4 := iField_add w 47 1 4
    omega
  have hform : (isT (fD w) && none' (fA w) && zero w 47 1 && okEng w && zero w 0 32) = true := by
    simp [isT_fD (w := w) (by omega), fA, none', zero, okEng, h47, hrest, hwide, heng, himm]
  have hv : engOf w = v := by simp [engOf, heng]
  simp only [exec, execVstop, issueOp_issues hi ho, if_pos hform, hv, startIssue_of_below _ hip]
  simp only [fD, hd, thread_tr]

end

end

/-- Settles O26: the issue instructions and the retry come to one try, which ends in one of four ways. -/
theorem issueHeldOrLate : Obligations.IssueHeldOrLate := by
  unfold Obligations.IssueHeldOrLate
  refine ⟨?_, ?_, ?_, ?_, ?_, ?_, ?_, ?_⟩
  · rintro s p w t i rfl hi ho hd hs hz hfull hip
    obtain ⟨raw, he⟩ := exec_pulse hi hip ho hd hs hz
    exact ⟨_, by rw [he, tryIssue_of_full rfl (hasRoom_desc_of_full hfull)], by simp⟩
  · rintro s p w t i d ta rfl hi ho hd rfl hs hz hroom hlate hip
    obtain ⟨raw, he⟩ := exec_pulse hi hip ho (by omega) hs hz
    rw [hd, thread_tr] at he
    exact ⟨_, he, tryIssue_of_late rfl (hasRoom_desc hroom) rfl hlate⟩
  · rintro s p w t v d ta rfl hi ho hd rfl hv hz hroom hlate hip
    exact ⟨_, exec_vstop hi hip ho hd hv hz, tryIssue_of_late rfl (hasRoom_vstop hroom) rfl hlate⟩
  · rintro s p v ta t rfl hu hw hroom hlead
    rw [exec_issueRetry hu hw, tryIssue_of_entered rfl (hasRoom_vstop hroom) hlead]
    rfl
  · intro s p m hu hw ⟨hc, hr⟩
    rw [exec_issueRetry hu hw, tryIssue_of_full hc hr, ← hw, ← state_of_mayUse hu]
  · intro s p m hu hw ⟨hc, hr, hl⟩
    rw [exec_issueRetry hu hw, tryIssue_of_entered hc hr hl]
  · intro s p m ta lead hu hw hm ⟨hc, hr, hl⟩
    exact ⟨_, exec_issueRetry hu hw, tryIssue_of_late hc hr hm hl⟩
  · intro s p m hu hw hc
    rw [exec_issueRetry hu hw, tryIssue_of_closed hc]

end Sys2Proof.Proofs
end

section
/-! Edges and level changes of a spoke's executing descriptor (O18): what one edge leaves of the spoke, by the state of
the queue (R61, R64, R69, R77, R78, R256). -/

namespace Sys2Proof.Proofs

open Sys2Proof.Machine Sys2Proof.Laws

variable {s : State} {i : SpokeId} {e : QDesc}

/-! ### Changing the descriptor found -/

theorem modFirst_cons_self (f : QDesc → QDesc) (q : List QDesc) : modFirst (· == e) f (e :: q) = f e :: q := by
  simp [modFirst]

/-! ### Completion (R69) -/

theorem releaseRetiring_spoke : (releaseRetiring i s).spoke i = s.spoke i := by
  unfold releaseRetiring
  dsimp only
  split <;> simp

theorem releaseRetiring_occs : (releaseRetiring i s).occs = s.occs := by
  unfold releaseRetiring
  dsimp only
  split <;> rfl

/-- A descriptor that completes leaves the queue, and its place is free. -/
theorem finishDesc_spoke (e : QDesc) (t : DT) (s : State) :
    (finishDesc i e t s).spoke i =
      { s.spoke i with queue := (s.spoke i).queue.erase e, freed := (s.spoke i).freed + 1 } := by
  have hgap (u : State) : (startGap i u).spoke i = u.spoke i := rfl
  unfold finishDesc
  dsimp only
  rw [releaseRetiring_spoke, hgap]
  split <;> simp

/-- A descriptor that asks for it raises DONE as it completes, where the spoke's event channel has room. -/
theorem done_mem_finishDesc {t : DT} (hk : e.kind ≠ .window) (hd : dDone e.raw = true)
    (hroom : s.evFull (2 * i.val) = false) :
    ⟨Fin.ofNat 256 (2 * i.val), causeWord 1 0 0, t, false⟩ ∈ (finishDesc i e t s).occs := by
  have hgap (u : State) : (startGap i u).occs = u.occs := rfl
  have hsrc : (Fin.ofNat 256 (2 * i.val)).val = 2 * i.val := Nat.mod_eq_of_lt (by omega)
  have hcond : (e.kind != .window && dDone e.raw) = true := by simp [hk, hd]
  unfold finishDesc
  dsimp only
  rw [releaseRetiring_occs, hgap, if_pos hcond, (raise_of_room (by rw [hsrc]; exact hroom)).1]
  simp

theorem finishDesc_suppressed (e : QDesc) (t : DT) (s : State) : (finishDesc i e t s).suppressed = s.suppressed := by
  have hgap (u : State) : (startGap i u).suppressed = u.suppressed := rfl
  have hret (u : State) : (releaseRetiring i u).suppressed = u.suppressed := by
    unfold releaseRetiring
    dsimp only
    split <;> rfl
  unfold finishDesc
  dsimp only
  rw [hret, hgap]
  split <;> simp [State.suppressed]

/-! ### The referee's note of an edge (R345) -/

/-- What the referee keeps of an edge on the spoke is no part of its work. -/
theorem noteDrive_spoke (sp : Spoke) (lvl : Drv) (own : DT) (s : State) :
    ∃ l, (noteDrive i sp lvl own s).spoke i = { s.spoke i with evOwn := l } := by
  have hkeep (net : DT) : (keepOfs i net own s).spoke i = s.spoke i := by
    unfold keepOfs
    split <;> rfl
  unfold noteDrive noteOwn
  split
  · split
    · exact ⟨_, hkeep _⟩
    · exact ⟨_, by rw [modSpoke_eq, setSpoke_get]⟩
  · exact ⟨_, rfl⟩

theorem noteDrive_occs (sp : Spoke) (lvl : Drv) (own : DT) (s : State) : (noteDrive i sp lvl own s).occs = s.occs := by
  unfold noteDrive noteOwn keepOfs
  repeat' split
  all_goals rfl

theorem noteDrive_of_unwatched (sp : Spoke) (lvl : Drv) (own : DT) (h : s.watches i = false) :
    noteDrive i sp lvl own s = s := by
  simp [noteDrive, h]

/-! ### One edge (R69, R77, R78) -/

/-- The descriptor past its next edge. -/
def ranOne (e : QDesc) : QDesc := { e with edges := e.edges + 1, fall := none }

/-- The spoke with its executing descriptor past its next edge. -/
def pastEdge (e : QDesc) (sp : Spoke) : Spoke := { sp with queue := modFirst (· == e) (fun _ => ranOne e) sp.queue }

theorem runEdge_eq (e : QDesc) (lvl : Drv) (s : State) :
    runEdge i e lvl s =
      if (ranOne e).done && !s.frozen then
        finishDesc i (ranOne e) e.due (spokeEdge i lvl e.due (s.deskew i e) (s.setSpoke i (pastEdge e (s.spoke i))))
      else spokeEdge i lvl e.due (s.deskew i e) (s.setSpoke i (pastEdge e (s.spoke i))) := rfl

/-- What the last edge of a descriptor frees besides what every edge does. -/
theorem runEdge_spoke (e : QDesc) (lvl : Drv) {sp : Spoke}
    (h : (spokeEdge i lvl e.due (s.deskew i e) (s.setSpoke i (pastEdge e (s.spoke i)))).spoke i = sp) :
    (runEdge i e lvl s).spoke i =
      if (ranOne e).done && !s.frozen then { sp with queue := sp.queue.erase (ranOne e), freed := sp.freed + 1 }
      else sp := by
  rw [runEdge_eq]
  split
  · rw [finishDesc_spoke, h]
  · exact h

theorem spokeEdge_of_frozen (lvl : Drv) (t : DT) (tx : Nat) (h : s.frozen = true) (sp : Spoke) :
    (spokeEdge i lvl t tx (s.setSpoke i sp)).spoke i = sp.lose t := by
  simp [spokeEdge, h]

/-- In a mode-change interval the edge is lost, and nothing else of the spoke changes (R77). -/
theorem spokeEdge_of_modeGap (lvl : Drv) {t : DT} (tx : Nat) (h : s.frozen = false) {sp : Spoke}
    (hgap : sp.inModeGap t = true) :
    (spokeEdge i lvl t tx (s.setSpoke i sp)).spoke i = { sp with cnt := { sp.cnt with lost := sp.cnt.lost + 1 } } := by
  simp [spokeEdge, h, hgap]

/-- The spoke as an edge leaves it that is driven and counted. -/
def drivenBy (sp : Spoke) (now : DT) (lvl : Drv) (t : DT) (tx : Nat) : Spoke :=
  { sp.drive now lvl t tx with cnt := { sp.cnt with edges := sp.cnt.edges + 1 } }

theorem spokeEdge_of_driven (lvl : Drv) {t : DT} (tx : Nat) (h : s.frozen = false) (hs : s.suppressed = false)
    {sp : Spoke} (hgap : sp.inModeGap t = false) :
    ∃ l, (spokeEdge i lvl t tx (s.setSpoke i sp)).spoke i =
      { (drivenBy sp s.dt lvl t tx).noteEdge s.dt (dtAdd t tx) with evOwn := l } ∧
      (spokeEdge i lvl t tx (s.setSpoke i sp)).occs = s.occs := by
  have heq : spokeEdge i lvl t tx (s.setSpoke i sp) = noteDrive i sp lvl (dtAdd t tx)
      ((s.setSpoke i sp).setSpoke i ((drivenBy sp s.dt lvl t tx).noteEdge s.dt (dtAdd t tx))) := by
    simp [spokeEdge, h, hgap, hs, drivenBy]
  obtain ⟨l, hl⟩ := noteDrive_spoke (i := i) sp lvl (dtAdd t tx)
    ((s.setSpoke i sp).setSpoke i ((drivenBy sp s.dt lvl t tx).noteEdge s.dt (dtAdd t tx)))
  refine ⟨l, ?_, ?_⟩
  · rw [heq, hl, setSpoke_get]
  · rw [heq, noteDrive_occs]
    rfl

/-- Under suppression an edge is counted in SP_SUPPR besides, and the referee that does not watch the spoke notes
nothing (R78). -/
theorem spokeEdge_of_suppressed (lvl : Drv) {t : DT} (tx : Nat) (h : s.frozen = false) (hs : s.suppressed = true)
    (hw : s.watches i = false) {sp : Spoke} (hgap : sp.inModeGap t = false) :
    spokeEdge i lvl t tx (s.setSpoke i sp) =
      suppressEdge i t ((s.setSpoke i sp).setSpoke i (drivenBy sp s.dt lvl t tx)) := by
  have heq : spokeEdge i lvl t tx (s.setSpoke i sp) = noteDrive i sp lvl (dtAdd t tx)
      (suppressEdge i t ((s.setSpoke i sp).setSpoke i (drivenBy sp s.dt lvl t tx))) := by
    simp [spokeEdge, h, hgap, hs, drivenBy]
  rw [heq]
  exact noteDrive_of_unwatched _ _ _ hw

/-! ### The instruction that runs an edge -/

/-- The instruction of a descriptor's next edge. -/
def edgeInstr (i : SpokeId) (e : QDesc) : Instr :=
  if e.kind = .level then .levelChange i else if e.edges % 2 = 0 then .leadingEdge i else .trailingEdge i

/-- The level a descriptor's next edge drives. -/
def edgeDrive (e : QDesc) : Drv :=
  if e.kind = .level then lvlOf (dLvl e.raw) else edgeLevel e.raw (e.edges % 2 == 0)

theorem exec_edgeInstr (hc : s.clocked = true) (hn : (s.spoke i).nextEmit = some e) (hd : dtLe e.due s.dt = true)
    (hclear : s.clearTo i e.due = true) : exec (edgeInstr i e) s = .next (runEdge i e (edgeDrive e) s) := by
  have hdue : s.edgeDue i = some e := by simp [State.edgeDue, hc, hn, hd, hclear]
  unfold edgeInstr edgeDrive
  split
  case isTrue hl =>
    change execLevelChange i s = _
    simp [execLevelChange, hdue, hl]
  case isFalse hl =>
    split
    case isTrue h0 =>
      change execLeadingEdge i s = _
      simp [execLeadingEdge, hdue, hl, h0]
    case isFalse h0 =>
      have h1 : e.edges % 2 = 1 := by omega
      change execTrailingEdge i s = _
      simp [execTrailingEdge, hdue, hl, h1]

/-! ### When an edge is a descriptor's last -/

theorem not_window_of_nextEmit (hn : (s.spoke i).nextEmit = some e) : e.kind ≠ .window ∧ e.done = false := by
  have h := List.find?_some hn
  simpa using h

/-- A pulse's leading edge is never the last of its descriptor. -/
theorem not_done_of_leading (hw : e.kind ≠ .window) (hd : e.done = false) (hl : e.kind ≠ .level)
    (h0 : e.edges % 2 = 0) : (ranOne e).done = false := by
  cases hk : e.kind <;> cases hp : e.pulses <;> simp_all [QDesc.done, QDesc.total, ranOne]
  all_goals omega

theorem not_done_of_trailing (hw : e.kind ≠ .window) (hd : e.done = false) (hl : e.kind ≠ .level)
    (h1 : e.edges % 2 = 1) (hp : e.pulses ≠ some (e.edges / 2 + 1)) : (ranOne e).done = false := by
  cases hk : e.kind <;> cases hp : e.pulses <;> simp_all [QDesc.done, QDesc.total, ranOne]
  all_goals omega

/-- The trailing edge of the last pulse is a descriptor's last. -/
theorem done_of_trailing (hw : e.kind ≠ .window) (hl : e.kind ≠ .level) (h1 : e.edges % 2 = 1)
    (hp : e.pulses = some (e.edges / 2 + 1)) : (ranOne e).done = true := by
  cases hk : e.kind <;> simp_all [QDesc.done, QDesc.total, ranOne]
  all_goals omega

theorem done_of_level (hl : e.kind = .level) : (ranOne e).done = true := by
  simp [QDesc.done, QDesc.total, ranOne, hl]

/-! ### The edge of an ungated spoke -/

theorem not_frozen (hc : s.clocked = true) (hh : s.hub.hold = false) : s.frozen = false := by
  have : s.hub.gatesOpen = true := hc
  simp [State.frozen, this, hh]

/-- The spoke as a driven edge leaves it that is not its descriptor's last. -/
theorem runEdge_of_not_done (lvl : Drv) (hf : s.frozen = false) (hs : s.suppressed = false)
    (hgap : (s.spoke i).inModeGap e.due = false) (hd : (ranOne e).done = false) :
    ∃ l, (runEdge i e lvl s).spoke i =
      { (drivenBy (pastEdge e (s.spoke i)) s.dt lvl e.due (s.deskew i e)).noteEdge s.dt
          (dtAdd e.due (s.deskew i e)) with evOwn := l } := by
  obtain ⟨l, hl, -⟩ := spokeEdge_of_driven (i := i) (sp := pastEdge e (s.spoke i)) lvl (s.deskew i e) hf hs hgap
  exact ⟨l, by rw [runEdge_spoke e lvl hl, hd]; rfl⟩

/-- A descriptor's last edge: the queue loses the descriptor at its head, whose place is free. -/
theorem runEdge_of_done (lvl : Drv) {q : List QDesc} (hf : s.frozen = false) (hs : s.suppressed = false)
    (hgap : (s.spoke i).inModeGap e.due = false) (hq : (s.spoke i).queue = e :: q) (hd : (ranOne e).done = true) :
    ∃ l, (runEdge i e lvl s).spoke i =
      { (drivenBy (pastEdge e (s.spoke i)) s.dt lvl e.due (s.deskew i e)).noteEdge s.dt
          (dtAdd e.due (s.deskew i e)) with evOwn := l, queue := q, freed := (s.spoke i).freed + 1 } := by
  obtain ⟨l, hl, -⟩ := spokeEdge_of_driven (i := i) (sp := pastEdge e (s.spoke i)) lvl (s.deskew i e) hf hs hgap
  have hpast : (pastEdge e (s.spoke i)).queue = ranOne e :: q := by
    rw [pastEdge, hq]
    exact modFirst_cons_self _ q
  refine ⟨l, ?_⟩
  have herase : (ranOne e :: q).erase (ranOne e) = q := List.erase_cons_head _ q
  rw [runEdge_spoke e lvl hl, hd, hf, ← herase, ← hpast]
  rfl

/-- A descriptor that asks for it raises DONE with its last edge. -/
theorem done_mem_runEdge (lvl : Drv) (hf : s.frozen = false) (hs : s.suppressed = false)
    (hgap : (s.spoke i).inModeGap e.due = false) (hd : (ranOne e).done = true) (hk : e.kind ≠ .window)
    (hask : dDone e.raw = true) (hroom : s.evFull (2 * i.val) = false) :
    ⟨Fin.ofNat 256 (2 * i.val), causeWord 1 0 0, e.due, false⟩ ∈ (runEdge i e lvl s).occs := by
  obtain ⟨_, -, hocc⟩ := spokeEdge_of_driven (i := i) (sp := pastEdge e (s.spoke i)) lvl (s.deskew i e) hf hs hgap
  rw [runEdge_eq, hd, hf]
  refine done_mem_finishDesc hk hask ?_
  rw [State.evFull, hocc]
  exact hroom

/-- An edge in a mode-change interval leaves the driver and is counted in SP_LOST (R77). -/
theorem runEdge_of_modeGap (lvl : Drv) (hf : s.frozen = false) (hgap : (s.spoke i).inModeGap e.due = true) :
    ((runEdge i e lvl s).spoke i).drv = (s.spoke i).drv ∧
      ((runEdge i e lvl s).spoke i).launches = (s.spoke i).launches ∧
      ((runEdge i e lvl s).spoke i).cnt = { (s.spoke i).cnt with lost := (s.spoke i).cnt.lost + 1 } := by
  rw [runEdge_spoke e lvl (spokeEdge_of_modeGap (sp := pastEdge e (s.spoke i)) lvl (s.deskew i e) hf hgap)]
  split <;> exact ⟨rfl, rfl, rfl⟩

/-- An edge under suppression: what the work would drive stands in the spoke, and the pin is at Hi-Z (R78). -/
theorem runEdge_of_suppressed (lvl : Drv) (hf : s.frozen = false) (hs : s.suppressed = true)
    (hw : s.watches i = false) (hgap : (s.spoke i).inModeGap e.due = false) :
    ((runEdge i e lvl s).spoke i).drv = lvl ∧ (runEdge i e lvl s).driven i = .hiz ∧
      ((runEdge i e lvl s).spoke i).ownEdges = (s.spoke i).ownEdges ∧
      ((runEdge i e lvl s).spoke i).cnt =
        { (s.spoke i).cnt with edges := (s.spoke i).cnt.edges + 1, suppr := (s.spoke i).cnt.suppr + 1 } := by
  have hedge := spokeEdge_of_suppressed (i := i) (sp := pastEdge e (s.spoke i)) lvl (s.deskew i e) hf hs hw hgap
  have hstill : (runEdge i e lvl s).suppressed = true := by
    rw [runEdge_eq, hedge]
    split
    · rw [finishDesc_suppressed]
      exact hs
    · exact hs
  have hspoke := runEdge_spoke e lvl (congrArg (State.spoke · i) hedge)
  simp only [suppressEdge, modSpoke_eq, setSpoke_get] at hspoke
  rw [hspoke]
  refine ⟨?_, by simp [State.driven, hstill], ?_⟩
  · split <;> rfl
  · split <;> exact ⟨rfl, rfl⟩

/-- In restart hold an edge leaves the driver and every place, and is counted in SP_LOST (R256). -/
theorem runEdge_of_frozen (lvl : Drv) (hf : s.frozen = true) :
    (runEdge i e lvl s).spoke i = (pastEdge e (s.spoke i)).lose e.due := by
  rw [runEdge_spoke e lvl (spokeEdge_of_frozen lvl _ _ hf (pastEdge e (s.spoke i))), hf]
  simp

/-- Settles O18, by what one edge leaves of the spoke where it is driven, dropped or held back. -/
theorem edgesComplete : Obligations.EdgesComplete := by
  unfold Obligations.EdgesComplete
  refine ⟨?_, ?_, ?_, ?_, ?_, ?_, ?_⟩
  · rintro s i e hc hh hs hn hd hclear hgap ⟨hl, h0⟩
    obtain ⟨hw, hnd⟩ := not_window_of_nextEmit hn
    obtain ⟨l, ht⟩ := runEdge_of_not_done (edgeLevel e.raw true) (not_frozen hc hh) hs hgap
      (not_done_of_leading hw hnd hl h0)
    have hx := exec_edgeInstr hc hn hd hclear
    simp only [edgeInstr, edgeDrive, if_neg hl, if_pos h0] at hx
    refine ⟨_, by simpa [h0] using hx, ?_⟩
    rw [ht]
    exact ⟨rfl, rfl, by simp [Spoke.noteEdge], by simp [Spoke.noteEdge, drivenBy, Spoke.drive, Spoke.launch], rfl⟩
  · rintro s i e hc hh hs hn hd hclear hgap ⟨hl, h1⟩ hp
    obtain ⟨hw, hnd⟩ := not_window_of_nextEmit hn
    obtain ⟨l, ht⟩ := runEdge_of_not_done (edgeLevel e.raw false) (not_frozen hc hh) hs hgap
      (not_done_of_trailing hw hnd hl h1 hp)
    have hx := exec_edgeInstr hc hn hd hclear
    simp only [edgeInstr, edgeDrive, if_neg hl] at hx
    refine ⟨_, by simpa [h1] using hx, ?_⟩
    rw [ht]
    exact ⟨rfl, rfl, rfl, rfl⟩
  · rintro s i e q hc hh hs hn hd hclear hgap ⟨hl, h1⟩ hp hq
    obtain ⟨hw, hnd⟩ := not_window_of_nextEmit hn
    have hlast := done_of_trailing hw hl h1 hp
    obtain ⟨l, ht⟩ := runEdge_of_done (edgeLevel e.raw false) (not_frozen hc hh) hs hgap hq hlast
    have hx := exec_edgeInstr hc hn hd hclear
    simp only [edgeInstr, edgeDrive, if_neg hl] at hx
    refine ⟨_, by simpa [h1] using hx, ?_⟩
    rw [ht]
    exact ⟨rfl, rfl, rfl, rfl, done_mem_runEdge _ (not_frozen hc hh) hs hgap hlast hw⟩
  · rintro s i e q hc hh hs hn hd hclear hgap hl hq
    obtain ⟨l, ht⟩ := runEdge_of_done (lvlOf (dLvl e.raw)) (not_frozen hc hh) hs hgap hq (done_of_level hl)
    have hx := exec_edgeInstr hc hn hd hclear
    simp only [edgeInstr, edgeDrive, if_pos hl] at hx
    refine ⟨_, hx, ?_⟩
    rw [ht]
    exact ⟨rfl, rfl, rfl, rfl⟩
  · rintro s i e c hc hh hn hd hclear hgap rfl
    exact ⟨_, exec_edgeInstr hc hn hd hclear, runEdge_of_modeGap _ (not_frozen hc hh) hgap⟩
  · rintro s i e c lvl hc hh hs hw hn hd hclear hgap rfl rfl
    exact ⟨_, exec_edgeInstr hc hn hd hclear, runEdge_of_suppressed _ (not_frozen hc hh) hs hw hgap⟩
  · rintro s i e c hc hh hn hd hclear rfl
    have hf : s.frozen = true := by simp [State.frozen, hh]
    refine ⟨_, exec_edgeInstr hc hn hd hclear, ?_⟩
    rw [runEdge_of_frozen _ hf]
    exact ⟨rfl, rfl, rfl, rfl, rfl⟩

end Sys2Proof.Proofs
end

section
/-! Windows, crossings and the records they make (O19): what a record and a crossing leave of the spoke and of the
record path (R65, R70 to R75). -/

namespace Sys2Proof.Proofs

open Sys2Proof.Machine Sys2Proof.Laws

variable {s : State} {i : SpokeId} {e : QDesc}

/-! ### Records (R74, R75) -/

/-- The entry that a record makes on the spoke's record path. -/
def recordEntry (s : State) (i : SpokeId) (d : DT) (edge typ tag : Nat) : OutEntry :=
  ⟨Fin.ofNat 64 (i.val / 2), false, some i, false,
    recordBytes i d edge typ (s.spoke i).dead (s.spoke i).drop (!s.isTrue (itemOf i)) (s.spoke i).seq.toNat tag⟩

/-- A spoke one more of whose crossings has been recorded. -/
def recorded (sp : Spoke) : Spoke :=
  { sp with dead := false, seq := sp.seq + 1, drop := false, cnt := { sp.cnt with caps := sp.cnt.caps + 1 } }

/-- The record on its way, and the spoke that counts it. -/
def sentRecord (s : State) (i : SpokeId) (d : DT) (edge typ tag : Nat) : State :=
  send (recordEntry s i d edge typ tag) (s.setSpoke i (recorded (s.spoke i)))

theorem putRecord_eq_of_room (d : DT) (edge typ tag : Nat) (h : s.recFull i = false) :
    putRecord i d edge typ tag s =
      if bit (s.act (spBase i + 8)) 3 && typ ≤ 1 then raise (2 * i.val + 1) 1 0 0 d (sentRecord s i d edge typ tag)
      else sentRecord s i d edge typ tag := by
  unfold putRecord
  dsimp only
  rw [h]
  rfl

theorem sentRecord_spoke (d : DT) (edge typ tag : Nat) :
    (sentRecord s i d edge typ tag).spoke i = recorded (s.spoke i) :=
  setSpoke_get s i (recorded (s.spoke i))

/-- A record path with room takes the record. -/
theorem putRecord_of_room (d : DT) (edge typ tag : Nat) (h : s.recFull i = false) :
    (putRecord i d edge typ tag s).spoke i = recorded (s.spoke i) ∧
      (putRecord i d edge typ tag s).outbox = s.outbox ++ [recordEntry s i d edge typ tag] := by
  rw [putRecord_eq_of_room d edge typ tag h]
  split
  · exact ⟨by rw [raise_spoke, sentRecord_spoke], by rw [raise_outbox]; rfl⟩
  · exact ⟨sentRecord_spoke d edge typ tag, rfl⟩

/-- Recording leaves what a spoke's queue holds, whether the record path has room or not. -/
theorem putRecord_queue (d : DT) (edge typ tag : Nat) (s : State) :
    ((putRecord i d edge typ tag s).spoke i).queue = (s.spoke i).queue ∧
      ((putRecord i d edge typ tag s).spoke i).freed = (s.spoke i).freed := by
  cases h : s.recFull i with
  | false =>
    rw [(putRecord_of_room d edge typ tag h).1]
    exact ⟨rfl, rfl⟩
  | true => simp [putRecord, h]

/-! ### Occurrences stand -/

theorem mem_raise {o : Occ} {n c d a : Nat} {t : DT} (h : o ∈ s.occs) : o ∈ (raise n c d a t s).occs := by
  unfold raise raiseAs
  dsimp only
  split
  · exact h
  · exact List.mem_append_left _ h

theorem mem_putRecord {o : Occ} {d : DT} {edge typ tag : Nat} (h : o ∈ s.occs) :
    o ∈ (putRecord i d edge typ tag s).occs := by
  cases hr : s.recFull i with
  | false =>
    rw [putRecord_eq_of_room d edge typ tag hr]
    split
    · exact mem_raise h
    · exact h
  | true =>
    simp only [putRecord, hr, if_true]
    exact mem_raise h

/-! ### Closed windows that settle (R73, log entry 14) -/

/-- An EXPECT window that no edge has met records MISS. -/
def missed (i : SpokeId) (s : State) (w : EndWin) : State :=
  if w.miss && !w.d.seen then
    raise (2 * i.val + 1) 3 0 0 w.close
      (putRecord i w.close 0 3 (dTag w.d.raw)
        (s.modSpoke i fun sp => { sp with cnt := { sp.cnt with cmpMiss := sp.cnt.cmpMiss + 1 } }))
  else s

theorem settleWindows_eq (s : State) :
    settleWindows i s = ((s.spoke i).ending.filter fun w => w.over s.dt).foldl (missed i)
      (s.modSpoke i fun sp => { sp with ending := sp.ending.filter fun w => !w.over s.dt }) := rfl

theorem missed_queue (w : EndWin) : ((missed i s w).spoke i).queue = (s.spoke i).queue ∧
    ((missed i s w).spoke i).freed = (s.spoke i).freed := by
  unfold missed
  split
  · obtain ⟨hq, hf⟩ := putRecord_queue (i := i) w.close 0 3 (dTag w.d.raw)
      (s.modSpoke i fun sp => { sp with cnt := { sp.cnt with cmpMiss := sp.cnt.cmpMiss + 1 } })
    rw [raise_spoke, hq, hf]
    simp
  · exact ⟨rfl, rfl⟩

theorem mem_missed {o : Occ} (w : EndWin) (h : o ∈ s.occs) : o ∈ (missed i s w).occs := by
  unfold missed
  split
  · exact mem_raise (mem_putRecord h)
  · exact h

theorem foldl_missed (l : List EndWin) (s : State) :
    ((l.foldl (missed i) s).spoke i).queue = (s.spoke i).queue ∧
      ((l.foldl (missed i) s).spoke i).freed = (s.spoke i).freed ∧
      ∀ o ∈ s.occs, o ∈ (l.foldl (missed i) s).occs := by
  induction l generalizing s with
  | nil => exact ⟨rfl, rfl, fun _ h => h⟩
  | cons w l ih =>
    obtain ⟨hq, hf, ho⟩ := ih (missed i s w)
    obtain ⟨hq', hf'⟩ := missed_queue (i := i) (s := s) w
    exact ⟨hq.trans hq', hf.trans hf', fun o h => ho o (mem_missed w h)⟩

/-- What settles leaves the queue and the occurrences under way. -/
theorem settleWindows_queue (s : State) :
    ((settleWindows i s).spoke i).queue = (s.spoke i).queue ∧
      ((settleWindows i s).spoke i).freed = (s.spoke i).freed ∧ ∀ o ∈ s.occs, o ∈ (settleWindows i s).occs := by
  rw [settleWindows_eq]
  obtain ⟨hq, hf, ho⟩ := foldl_missed (i := i) ((s.spoke i).ending.filter fun w => w.over s.dt)
    (s.modSpoke i fun sp => { sp with ending := sp.ending.filter fun w => !w.over s.dt })
  exact ⟨by rw [hq]; simp, by rw [hf]; simp, ho⟩

/-- A single closed window that is not to record MISS, or not yet, leaves the counts and the record path. -/
theorem settleWindows_of_met {w : EndWin} (he : (s.spoke i).ending = [w]) (hw : (w.miss && !w.d.seen) = false) :
    ((settleWindows i s).spoke i).cnt = (s.spoke i).cnt ∧ (settleWindows i s).outbox = s.outbox := by
  rw [settleWindows_eq, he]
  cases ho : w.over s.dt <;> simp [ho, missed, hw]

/-- A single closed window whose edges can no longer come, and that none has met, records MISS. -/
theorem settleWindows_of_missed {w : EndWin} (he : (s.spoke i).ending = [w]) (ho : w.over s.dt = true)
    (hm : w.miss = true) (hs : w.d.seen = false) (hroom : s.recFull i = false) :
    ((settleWindows i s).spoke i).ending = [] ∧
      ((settleWindows i s).spoke i).cnt =
        { (s.spoke i).cnt with cmpMiss := (s.spoke i).cnt.cmpMiss + 1, caps := (s.spoke i).cnt.caps + 1 } ∧
      (settleWindows i s).outbox = s.outbox ++ [recordEntry s i w.close 0 3 (dTag w.d.raw)] := by
  have heq : settleWindows i s = raise (2 * i.val + 1) 3 0 0 w.close (putRecord i w.close 0 3 (dTag w.d.raw)
      ((s.modSpoke i fun sp => { sp with ending := [] }).modSpoke i fun sp =>
        { sp with cnt := { sp.cnt with cmpMiss := sp.cnt.cmpMiss + 1 } })) := by
    rw [settleWindows_eq, he]
    simp [ho, missed, hm, hs, he]
  obtain ⟨hsp, hout⟩ := putRecord_of_room (i := i)
    (s := (s.modSpoke i fun sp => { sp with ending := [] }).modSpoke i fun sp =>
      { sp with cnt := { sp.cnt with cmpMiss := sp.cnt.cmpMiss + 1 } }) w.close 0 3 (dTag w.d.raw) hroom
  rw [heq, raise_spoke, raise_outbox, hsp, hout]
  simp [recorded, recordEntry, State.isTrue]

/-! ### A window that closes (R65, R69) -/

/-- What the completion of a descriptor leaves that a record is made of. -/
theorem finishDesc_rest (e : QDesc) (t : DT) (s : State) :
    (finishDesc i e t s).outbox = s.outbox ∧ (finishDesc i e t s).dt = s.dt ∧
      ∀ j, (finishDesc i e t s).item j = s.item j := by
  have hret (u : State) : (releaseRetiring i u).outbox = u.outbox ∧ (releaseRetiring i u).dt = u.dt ∧
      ∀ j, (releaseRetiring i u).item j = u.item j := by
    unfold releaseRetiring
    dsimp only
    split <;> exact ⟨rfl, rfl, fun _ => rfl⟩
  unfold finishDesc
  dsimp only
  obtain ⟨hout, hdt, hitem⟩ := hret (startGap i (if (e.kind != .window && dDone e.raw) = true
    then raise (2 * i.val) 1 0 0 t (s.modSpoke i fun sp => { sp with queue := sp.queue.erase e, freed := sp.freed + 1 })
    else s.modSpoke i fun sp => { sp with queue := sp.queue.erase e, freed := sp.freed + 1 }))
  rw [hout, hdt]
  simp only [hitem]
  split <;> simp [startGap]

theorem mem_finishDesc_window {o : Occ} {t : DT} (hk : e.kind = .window) (h : o ∈ s.occs) :
    o ∈ (finishDesc i e t s).occs := by
  have hgap (u : State) : (startGap i u).occs = u.occs := rfl
  unfold finishDesc
  dsimp only
  rw [releaseRetiring_occs, hgap]
  simpa [hk] using h

/-- A closed window of the spoke at its closing instant. -/
def closedAt (s : State) (i : SpokeId) (e : QDesc) : EndWin := ⟨e, e.last, s.deskew i e, dMode e.raw == 2⟩

/-- The spoke behind a window at the head of its queue that has closed. -/
def behindWindow (s : State) (i : SpokeId) (e : QDesc) (q : List QDesc) : Spoke :=
  { s.spoke i with ending := (s.spoke i).ending ++ [closedAt s i e], queue := q, freed := (s.spoke i).freed + 1 }

/-- What closes a window, before closed windows settle. -/
def leaveWindow (i : SpokeId) (e : QDesc) (s : State) : State :=
  let s1 := s.modSpoke i fun sp => { sp with ending := sp.ending ++ [closedAt s i e] }
  finishDesc i e e.last (if dDone e.raw then raise (2 * i.val + 1) 5 0 0 e.last s1 else s1)

theorem exec_windowClose {q : List QDesc} (hc : s.clocked = true) (hh : s.hub.hold = false)
    (hq : (s.spoke i).queue = e :: q) (he : e.kind = .window ∧ e.opened = true ∧ e.done = false)
    (hd : dtLe e.last s.dt = true) (hclear : s.clearTo i e.last = true) :
    exec (.windowClose i) s = .next (settleWindows i (leaveWindow i e s)) := by
  obtain ⟨hk, hopen, hnd⟩ := he
  have hfind : (s.spoke i).queue.find? (fun e => e.kind == .window && e.opened && !e.done) = some e := by
    rw [hq, List.find?_cons_of_pos (by simp [hk, hopen, hnd])]
  change execWindowClose i s = _
  simp only [execWindowClose, hc, hfind, hd, hclear, closeWindow, not_frozen hc hh, leaveWindow, closedAt,
    Bool.not_true, Bool.false_eq_true, if_false, if_true, Bool.and_self, Bool.not_false, Bool.and_true]

theorem leaveWindow_spoke {q : List QDesc} (hq : (s.spoke i).queue = e :: q) :
    (leaveWindow i e s).spoke i = behindWindow s i e q := by
  unfold leaveWindow
  dsimp only
  rw [finishDesc_spoke]
  have herase : (e :: q).erase e = q := List.erase_cons_head _ q
  split <;> simp [behindWindow, hq]

theorem leaveWindow_rest : (leaveWindow i e s).outbox = s.outbox ∧ (leaveWindow i e s).dt = s.dt ∧
    (leaveWindow i e s).isTrue (itemOf i) = s.isTrue (itemOf i) := by
  unfold leaveWindow State.isTrue
  dsimp only
  obtain ⟨hout, hdt, hitem⟩ := finishDesc_rest (i := i) e e.last (if dDone e.raw = true
    then raise (2 * i.val + 1) 5 0 0 e.last (s.modSpoke i fun sp => { sp with ending := sp.ending ++ [closedAt s i e] })
    else s.modSpoke i fun sp => { sp with ending := sp.ending ++ [closedAt s i e] })
  rw [hout, hdt, hitem]
  split <;> simp

/-- A window that asks for it raises WDONE as it closes. -/
theorem wdone_mem_leaveWindow (hk : e.kind = .window) (hask : dDone e.raw = true)
    (hroom : s.evFull (2 * i.val + 1) = false) :
    ⟨Fin.ofNat 256 (2 * i.val + 1), causeWord 5 0 0, e.last, false⟩ ∈ (leaveWindow i e s).occs := by
  have hsrc : (Fin.ofNat 256 (2 * i.val + 1)).val = 2 * i.val + 1 := Nat.mod_eq_of_lt (by omega)
  refine mem_finishDesc_window hk ?_
  rw [if_pos hask, (raise_of_room (by rw [hsrc]; exact hroom)).1]
  simp

/-! ### Crossings (R70) -/

/-- What a crossing falls in does not rest on when the last one was timestamped. -/
theorem windowAt_stamped (t : Option DT) (x : DT) :
    (s.setSpoke i { s.spoke i with lastStamp := t }).windowAt i x = s.windowAt i x := by
  simp only [State.windowAt, setSpoke_get]
  rfl

/-- The referee's note of a crossing leaves the spoke's work and its records. -/
theorem noteNet_rest (net : DT) (rising : Bool) (s : State) :
    (∃ a b, (noteNet i net rising s).spoke i = { s.spoke i with evOwn := a, evNet := b }) ∧
      (noteNet i net rising s).outbox = s.outbox := by
  have hkeep (l : List (DT × Bool)) (u : State) :
      ((l.foldl (fun s e => keepOfs i net e.1 s) u).spoke i = u.spoke i) ∧
        (l.foldl (fun s e => keepOfs i net e.1 s) u).outbox = u.outbox := by
    induction l generalizing u with
    | nil => exact ⟨rfl, rfl⟩
    | cons e l ih =>
      obtain ⟨hs, ho⟩ := ih (keepOfs i net e.1 u)
      refine ⟨hs.trans ?_, ho.trans ?_⟩
      all_goals
        unfold keepOfs
        split <;> rfl
  unfold noteNet
  dsimp only
  exact ⟨⟨_, _, (hkeep _ _).1.trans (setSpoke_get s i _)⟩, (hkeep _ _).2⟩

/-- A crossing turns the comparator, and what the capture path makes of it stands. -/
theorem exec_pinCrossing {uv : Int} {rising : Bool} (hsee : s.sees i uv = rising) (hpin : (s.spoke i).pin = !rising) :
    ∃ t, exec (.pinCrossing i uv) s = .next t ∧ t.outbox = (crossing i rising s).outbox ∧
      ∃ a b, t.spoke i =
        { (crossing i rising s).spoke i with pin := rising, crossAt := some s.dt, evOwn := a, evNet := b } := by
  have hne : s.sees i uv ≠ (s.spoke i).pin := by
    rw [hsee, hpin]
    cases rising <;> decide
  have hx : exec (.pinCrossing i uv) s = .next
      (if s.watches i then noteNet i s.dt rising
          ((crossing i rising s).modSpoke i fun sp => { sp with pin := rising, crossAt := some s.dt })
        else (crossing i rising s).modSpoke i fun sp => { sp with pin := rising, crossAt := some s.dt }) := by
    change execPinCrossing i uv s = _
    rw [execPinCrossing]
    dsimp only
    rw [if_neg hne, hsee]
  refine ⟨_, hx, ?_⟩
  split
  · obtain ⟨⟨a, b, hs⟩, ho⟩ := noteNet_rest (i := i) s.dt rising
      ((crossing i rising s).modSpoke i fun sp => { sp with pin := rising, crossAt := some s.dt })
    exact ⟨ho, a, b, by rw [hs, modSpoke_eq, setSpoke_get]⟩
  · exact ⟨rfl, _, _, by rw [modSpoke_eq, setSpoke_get]⟩

/-- A crossing that nothing shuts out is timestamped. -/
theorem crossing_of_open (rising : Bool) (hcap : s.captures i = true) (hblank : s.blanked i s.dt = false)
    (hdead : s.inDeadTime i = false) :
    crossing i rising s = recordCrossing i rising (s.setSpoke i { s.spoke i with lastStamp := some s.dt }) := by
  simp [crossing, hcap, hblank, hdead]

/-- Free capture records a crossing outside any window (R72). -/
theorem recordCrossing_free {u : State} {rising : Bool} (hw : u.windowAt i u.dt = none) (hce : u.ceAt i u.dt = none)
    (hfree : u.freeTakes i rising = true) :
    recordCrossing i rising u = putRecord i (dtSub u.dt (deskewIn (u.island (islSpoke i)).active i true))
      (edgeCode rising) 0 0 u := by
  simp [recordCrossing, hw, hce, hfree]

/-- A RECORD-ALL window records a crossing that it takes (R73). -/
theorem recordCrossing_all {u : State} {rising : Bool} {rx : Nat} (hw : u.windowAt i u.dt = some (e, rx))
    (ht : takes e rising = true) (hm : dMode e.raw = 0) :
    recordCrossing i rising u = putRecord i (dtSub u.dt rx) (edgeCode rising) 1 (dTag e.raw) (markSeen i e u) := by
  simp [recordCrossing, hw, ht, windowEdge, hm]

/-- Settles O19, by what a closing window and a crossing leave of the spoke and of its record path. -/
theorem windowsAndCaptureComplete : Obligations.WindowsAndCaptureComplete := by
  unfold Obligations.WindowsAndCaptureComplete
  refine ⟨?_, ?_, ?_, ?_, ?_, ?_, ?_, ?_, ?_, ?_⟩
  · intro s i e hf hfind hd hclear
    change execWindowOpen i s = _
    simp [execWindowOpen, hf, hfind, hd, hclear]
  · intro s i e q hc hh hq he hd hclear
    obtain ⟨hqueue, hfreed, hocc⟩ := settleWindows_queue (i := i) (leaveWindow i e s)
    refine ⟨_, exec_windowClose hc hh hq he hd hclear, ?_, ?_, fun hask hroom => ?_⟩
    · rw [hqueue, leaveWindow_spoke hq]
      rfl
    · rw [hfreed, leaveWindow_spoke hq]
      rfl
    · exact hocc _ (wdone_mem_leaveWindow he.1 hask hroom)
  · intro s i e q hc hh hq hend he hd hclear hmet
    have hsp := leaveWindow_spoke hq
    have hone : ((leaveWindow i e s).spoke i).ending = [closedAt s i e] := by simp [hsp, behindWindow, hend]
    have hw : ((closedAt s i e).miss && !(closedAt s i e).d.seen) = false := by
      rcases hmet with h | h <;> simp [closedAt, h]
    obtain ⟨hcnt, hout⟩ := settleWindows_of_met hone hw
    refine ⟨_, exec_windowClose hc hh hq he hd hclear, ?_, hout.trans leaveWindow_rest.1⟩
    rw [hcnt, hsp]
    rfl
  · rintro s i e q hc hh hq hend he hd hover hclear ⟨hm, hseen⟩ hroom
    have hsp := leaveWindow_spoke hq
    obtain ⟨hout, hdt, htrue⟩ := leaveWindow_rest (i := i) (e := e) (s := s)
    have hone : ((leaveWindow i e s).spoke i).ending = [closedAt s i e] := by simp [hsp, behindWindow, hend]
    have hroom' : (leaveWindow i e s).recFull i = false := by rw [State.recFull, hout]; exact hroom
    obtain ⟨-, hcnt, hrec⟩ := settleWindows_of_missed hone (by rw [hdt]; exact hover)
      (by simp [closedAt, hm]) hseen hroom'
    refine ⟨_, exec_windowClose hc hh hq he hd hclear, ?_, ?_⟩
    · rw [hcnt, hsp]
      rfl
    · rw [hrec, hout, recordEntry, htrue, hsp]
      rfl
  · rintro s i w hc hfind hend ⟨hover, hm, hseen⟩ hroom
    have hx : exec (.windowClose i) s = .next (settleWindows i s) := by
      change execWindowClose i s = _
      simp [execWindowClose, hc, hfind]
    exact ⟨_, hx, settleWindows_of_missed hend hover hm hseen hroom⟩
  · intro s i uv rising hsee hpin hcap hblank hdead hw hce hfree hroom
    obtain ⟨t, hx, hout, a, b, hsp⟩ := exec_pinCrossing hsee hpin
    have hcross := (crossing_of_open rising hcap hblank hdead).trans
      (recordCrossing_free ((windowAt_stamped _ _).trans hw) hce hfree)
    obtain ⟨hput, hrec⟩ := putRecord_of_room (i := i) (s := s.setSpoke i { s.spoke i with lastStamp := some s.dt })
      (dtSub s.dt (deskewIn (s.island (islSpoke i)).active i true)) (edgeCode rising) 0 0 hroom
    rw [hcross] at hout hsp
    refine ⟨t, hx, ?_, ?_, ?_, hout.trans (hrec.trans ?_)⟩
    · rw [hsp]
    · rw [hsp]
      exact congrArg Spoke.lastStamp hput |>.trans (by simp [recorded])
    · rw [hsp]
      exact congrArg Spoke.cnt hput |>.trans (by simp [recorded])
    · simp [recordEntry, State.isTrue]
  · intro s i uv rising e rx hsee hpin hcap hblank hdead hw ht hm hroom
    obtain ⟨t, hx, hout, a, b, hsp⟩ := exec_pinCrossing hsee hpin
    have hcross := (crossing_of_open rising hcap hblank hdead).trans
      (recordCrossing_all ((windowAt_stamped _ _).trans hw) ht hm)
    obtain ⟨hput, hrec⟩ := putRecord_of_room (i := i)
      (s := markSeen i e (s.setSpoke i { s.spoke i with lastStamp := some s.dt }))
      (dtSub s.dt rx) (edgeCode rising) 1 (dTag e.raw) hroom
    rw [hcross] at hout hsp
    refine ⟨t, hx, ?_, ?_, ?_, hout.trans (hrec.trans ?_)⟩
    · rw [hsp]
    · rw [hsp]
      exact congrArg Spoke.lastStamp hput |>.trans (by simp [recorded, markSeen])
    · rw [hsp]
      exact congrArg Spoke.queue hput |>.trans (by simp [recorded, markSeen])
    · simp [recordEntry, State.isTrue, markSeen]
  · intro s i uv rising hsee hpin hcap hblank hdead hwant
    obtain ⟨t, hx, hout, a, b, hsp⟩ := exec_pinCrossing hsee hpin
    have hcross : crossing i rising s = s.setSpoke i
        { s.spoke i with dead := true, cnt := { (s.spoke i).cnt with dead := (s.spoke i).cnt.dead + 1 } } := by
      simp [crossing, hcap, hblank, hdead, hwant]
    rw [hcross] at hout hsp
    rw [setSpoke_get] at hsp
    refine ⟨t, hx, ?_, ?_, ?_, ?_, hout⟩
    all_goals rw [hsp]
  · intro s i uv rising hsee hpin hshut
    obtain ⟨t, hx, hout, a, b, hsp⟩ := exec_pinCrossing hsee hpin
    have hcross : crossing i rising s = s := by
      unfold crossing
      rw [if_pos]
      rcases hshut with h | h <;> simp [h]
    rw [hcross] at hout hsp
    refine ⟨t, hx, ?_, ?_, ?_, hout⟩
    all_goals rw [hsp]
  · intro s i uv hsame
    change execPinCrossing i uv s = _
    simp [execPinCrossing, hsame]

end Sys2Proof.Proofs
end

section
/-! Mode changes and cancels of a spoke (O20): when a mode comes into force, and what a cut leaves of the queue
(R77, R81, R82). -/

namespace Sys2Proof.Proofs

open Sys2Proof.Machine Sys2Proof.Laws

variable {s : State} {i : SpokeId}

/-! ### The pin in a mode-change interval (R77) -/

theorem driven_of_modeGap {d : DT} (h : (s.spoke i).modeEnd = some d) : s.driven i = .hiz := by
  simp [State.driven, h]

theorem legs_of_hiz (h : s.driven i = .hiz) : s.legs i = (.hiz, .hiz) := by
  simp [State.legs, h, Drv.leg]

/-! ### What a cut leaves of the cancel itself (R81) -/

/-- The cancel at a spoke and its state. -/
def cancelOf (s : State) (i : SpokeId) : Option DT × BitVec 2 := ((s.spoke i).cancel, (s.spoke i).cancelState)

theorem finishDesc_cancelOf (e : QDesc) (t : DT) (s : State) : cancelOf (finishDesc i e t s) i = cancelOf s i := by
  rw [cancelOf, finishDesc_spoke]
  rfl

theorem putRecord_cancelOf (d : DT) (edge typ tag : Nat) (s : State) :
    cancelOf (putRecord i d edge typ tag s) i = cancelOf s i := by
  cases h : s.recFull i with
  | false =>
    rw [cancelOf, (putRecord_of_room d edge typ tag h).1]
    rfl
  | true => simp [putRecord, h, cancelOf]

theorem settleWindows_cancelOf (s : State) : cancelOf (settleWindows i s) i = cancelOf s i := by
  have hmissed (w : EndWin) (u : State) : cancelOf (missed i u w) i = cancelOf u i := by
    unfold missed
    split
    · rw [cancelOf, raise_spoke]
      exact (putRecord_cancelOf ..).trans (by simp [cancelOf])
    · rfl
  have hfold (l : List EndWin) (u : State) : cancelOf (l.foldl (missed i) u) i = cancelOf u i := by
    induction l generalizing u with
    | nil => rfl
    | cons w l ih => exact (ih _).trans (hmissed w u)
  rw [settleWindows_eq, hfold]
  simp [cancelOf]

theorem closeWindow_cancelOf (e : QDesc) (t : DT) (cancelled : Bool) (s : State) :
    cancelOf (closeWindow i e t cancelled s) i = cancelOf s i := by
  unfold closeWindow
  dsimp only
  rw [settleWindows_cancelOf]
  repeat' split
  all_goals simp [cancelOf, finishDesc_spoke]

theorem cutPulses_cancelOf (cut : DT) (e : QDesc) (s : State) : cancelOf (cutPulses i cut e s) i = cancelOf s i := by
  have hfinish (e1 : QDesc) (u : State) :
      cancelOf (if e1.done && !s.frozen then finishDesc i e1 cut u else u) i = cancelOf u i := by
    split
    · exact finishDesc_cancelOf ..
    · rfl
  unfold cutPulses
  dsimp only
  rw [hfinish]
  simp [cancelOf]

/-- Work that has not begun goes with its place (R81). -/
theorem cutDesc_of_unbegun {cut : DT} {e : QDesc} (h : dtLe cut e.start = true) :
    (cutDesc i cut e s).spoke i =
      { s.spoke i with
        queue := (s.spoke i).queue.erase e
        freed := (s.spoke i).freed + 1
        cnt := { (s.spoke i).cnt with cancelled := (s.spoke i).cnt.cancelled + 1 } } ∧
      (cutDesc i cut e s).occs = s.occs := by
  have hgap (u : State) : (startGap i u).spoke i = u.spoke i := rfl
  have hgapo (u : State) : (startGap i u).occs = u.occs := rfl
  simp only [cutDesc, h, if_true]
  exact ⟨by rw [releaseRetiring_spoke, hgap, modSpoke_eq, setSpoke_get], by rw [releaseRetiring_occs, hgapo]; rfl⟩

theorem cutDesc_cancelOf (cut : DT) (e : QDesc) (s : State) : cancelOf (cutDesc i cut e s) i = cancelOf s i := by
  cases h : dtLe cut e.start with
  | true =>
    rw [cancelOf, (cutDesc_of_unbegun h).1]
    rfl
  | false =>
    unfold cutDesc
    rw [h, if_neg Bool.false_ne_true]
    split
    · split
      · rfl
      · exact closeWindow_cancelOf ..
    · rfl
    · exact cutPulses_cancelOf ..

theorem foldl_cutDesc_cancelOf (cut : DT) (q : List QDesc) (s : State) :
    cancelOf (q.foldl (fun s e => cutDesc i cut e s) s) i = cancelOf s i := by
  induction q generalizing s with
  | nil => rfl
  | cons e q ih => exact (ih _).trans (cutDesc_cancelOf cut e s)

/-- A queue none of whose work has begun is cut whole, its places are free and its work is counted. -/
theorem foldl_cutDesc_of_unbegun {cut : DT} (q : List QDesc) (hq : (s.spoke i).queue = q)
    (h : ∀ e ∈ q, dtLe cut e.start = true) :
    ((q.foldl (fun s e => cutDesc i cut e s) s).spoke i).queue = [] ∧
      ((q.foldl (fun s e => cutDesc i cut e s) s).spoke i).freed = (s.spoke i).freed + q.length ∧
      ((q.foldl (fun s e => cutDesc i cut e s) s).spoke i).cnt.cancelled =
        (s.spoke i).cnt.cancelled + BitVec.ofNat 32 q.length ∧
      (q.foldl (fun s e => cutDesc i cut e s) s).occs = s.occs := by
  induction q generalizing s with
  | nil => exact ⟨hq, rfl, by simp, rfl⟩
  | cons e q ih =>
    obtain ⟨hsp, hocc⟩ := cutDesc_of_unbegun (s := s) (i := i) (h e (by simp))
    have hrest : ((cutDesc i cut e s).spoke i).queue = q := by
      rw [hsp]
      dsimp only
      rw [hq]
      exact List.erase_cons_head _ q
    obtain ⟨hqueue, hfreed, hcnt, ho⟩ := ih hrest fun a ha => h a (by simp [ha])
    rw [List.foldl_cons]
    refine ⟨hqueue, ?_, ?_, ho.trans hocc⟩
    · rw [hfreed, hsp, List.length_cons]
      dsimp only
      omega
    · rw [hcnt, hsp, List.length_cons, BitVec.ofNat_add, BitVec.add_comm (BitVec.ofNat 32 q.length),
        ← BitVec.add_assoc]
      rfl

theorem exec_cancelDue {cut : DT} (hcan : (s.spoke i).cancel = some cut) (hc : s.clocked = true)
    (hd : dtLe cut s.dt = true) (hswap : s.swapBefore (islSpoke i) cut = false) :
    exec (.cancelDue i) s = .next (raise (2 * i.val) 10 0 0 cut
      ((s.spoke i).queue.foldl (fun s e => cutDesc i cut e s)
        (s.setSpoke i { s.spoke i with cancel := none, cancelState := 2 }))) := by
  change execCancelDue i s = _
  simp [execCancelDue, hcan, State.cancelDue, hc, hd, hswap]

/-! ### The host's cancel -/

theorem exec_spokeCancelGo (h : s.hostReach = true) :
    exec (.spokeCancelGo i) s = .next (if s.clocked then issueHostCancel i (dtAt s.imm (spBase i + 0x30)) s
      else s.setSpoke i { s.spoke i with
        hostCancels := (s.spoke i).hostCancels ++ [dtAt s.imm (spBase i + 0x30)] }) := by
  change execSpokeCancelGo i s = _
  rw [execSpokeCancelGo, byHost_of_reach h]
  rfl

/-- Settles O20, by what the two ends of a mode change set and by the cut of a queue. -/
theorem modeAndCancelComplete : Obligations.ModeAndCancelComplete := by
  unfold Obligations.ModeAndCancelComplete
  refine ⟨?_, ?_, ?_, ?_, ?_, ?_, ?_, ?_, ?_⟩
  · intro s i hc hp hq hl hne
    obtain ⟨t, hx, hsp⟩ : ∃ t, exec (.modeChange i) s = .next t ∧ t.spoke i =
        { (s.spoke i).put s.dt (if (s.spoke i).out = 0 then .hiz else (s.spoke i).drv) with
          out := (s.wantedMode i).1, legn := (s.wantedMode i).2.1, term := (s.wantedMode i).2.2, modePend := false
          modeEnd := some (dtAdd s.dt 819200) } := by
      refine ⟨_, ?_, setSpoke_get (s.modReq i fun r =>
        { r with drvX := if (s.spoke i).out = 0 then .hiz else r.drvX }) i _⟩
      change execModeChange i s = _
      simp only [execModeChange, hc, hp, hq, hl, Bool.not_false, Bool.and_self, if_true, if_neg hne]
    have hdrv : t.driven i = .hiz := driven_of_modeGap (congrArg Spoke.modeEnd hsp)
    exact ⟨t, hx, hsp, hdrv, legs_of_hiz hdrv⟩
  · intro s i hc hp hq hl heq
    change execModeChange i s = _
    simp only [execModeChange, hc, hp, hq, hl, Bool.not_false, Bool.and_self, if_true, if_pos heq]
  · intro s i d hm hc hd hr
    change execModeChangeIntervalEnd i s = _
    simp only [execModeChangeIntervalEnd, hm, hc, hd, Bool.and_self, if_true, if_neg hr]
  · intro s i d hm hc hd hr
    have hx : exec (.modeChangeIntervalEnd i) s = .next ((s.setReq i { s.req i with
        drvX := if (s.req i).drvX = .hiz then lvlOf (fld (s.act (spBase i)) 4 2) else (s.req i).drvX }).setSpoke i
          { s.spoke i with modeEnd := none }) := by
      change execModeChangeIntervalEnd i s = _
      simp only [execModeChangeIntervalEnd, hm, hc, hd, Bool.and_self, if_true, if_pos hr]
    exact ⟨_, hx, by simp, by simp⟩
  · intro s i hr hc hlead
    rw [exec_spokeCancelGo hr, if_pos hc, issueHostCancel, if_pos hlead]
    rfl
  · intro s i hr hc hlead
    rw [exec_spokeCancelGo hr, if_pos hc, issueHostCancel, if_neg (by simp [hlead])]
    rfl
  · intro s i hr hc
    rw [exec_spokeCancelGo hr, if_neg (by simp [hc])]
  · intro s i cut hcan hc hd hswap
    have hcut := foldl_cutDesc_cancelOf (i := i) cut (s.spoke i).queue
      (s.setSpoke i { s.spoke i with cancel := none, cancelState := 2 })
    refine ⟨_, exec_cancelDue hcan hc hd hswap, ?_, ?_⟩
    · rw [raise_spoke]
      exact (congrArg Prod.fst hcut).trans (by simp [cancelOf])
    · rw [raise_spoke]
      exact (congrArg Prod.snd hcut).trans (by simp [cancelOf])
  · intro s i cut hcan hc hd hswap hall
    have hsrc : (Fin.ofNat 256 (2 * i.val)).val = 2 * i.val := Nat.mod_eq_of_lt (by omega)
    obtain ⟨hqueue, hfreed, hcnt, hocc⟩ := foldl_cutDesc_of_unbegun (i := i)
      (s := s.setSpoke i { s.spoke i with cancel := none, cancelState := 2 }) (s.spoke i).queue (by simp) hall
    refine ⟨_, exec_cancelDue hcan hc hd hswap, ?_, ?_, ?_, fun hroom => ?_⟩
    · rw [raise_spoke, hqueue]
    · rw [raise_spoke, hfreed]
      simp
    · rw [raise_spoke, hcnt]
      simp
    · rw [(raise_of_room (by rw [hsrc, State.evFull, hocc]; exact hroom)).1]
      simp

end Sys2Proof.Proofs
end

section
/-! Entries fetched and written, and writebacks (O52): one equation for each case of a ring's traffic (R362 to R368). -/

namespace Sys2Proof.Proofs

open Sys2Proof.Machine Sys2Proof.Laws

variable {s : State} {q : RingId} {rx : Bool}

/-! ### Rings of either kind -/

/-- A ring just set reads as it was set. -/
theorem ring_setRing (s : State) (q : RingId) (rx : Bool) (x : Ring) : (s.setRing q rx x).ring q rx = x := by
  cases rx with
  | false => exact setRing_ring s q x
  | true => exact get_set s.hb.rxRings (Fin.ofNat 8 (q.val - 48)) x

theorem setRing_outbox (s : State) (q : RingId) (rx : Bool) (x : Ring) : (s.setRing q rx x).outbox = s.outbox := by
  cases rx <;> rfl

theorem setRing_spoke (s : State) (q : RingId) (rx : Bool) (x : Ring) (i : SpokeId) :
    (s.setRing q rx x).spoke i = s.spoke i := by
  cases rx <;> rfl

theorem ring_setThread (s : State) (p : ThreadId) (x : Thread) (q : RingId) (rx : Bool) :
    (s.setThread p x).ring q rx = s.ring q rx := rfl

theorem ring_setEngine (s : State) (v : EngineId) (x : Engine) (q : RingId) (rx : Bool) :
    (s.setEngine v x).ring q rx = s.ring q rx := rfl

/-! ### An entry fetched (R362 to R364) -/

/-- A ring one more of whose entries has been fetched. -/
def fetchedOne (r : Ring) : Ring := { r with fetched := r.fetched + 1 }

/-- What a fetch needs of its ring: enabled, and an entry not yet fetched. -/
def Ready (s : State) (q : RingId) : Prop :=
  (s.ring q false).en = true ∧ (s.ring q false).fetched ≠ (s.ring q false).prod

theorem tookEntry_ring (s : State) (q : RingId) : (tookEntry q s).ring q false =
    if (s.ring q false).stale ≠ 0 then { s.ring q false with stale := (s.ring q false).stale - 1 }
    else { s.ring q false with
      cons := (s.ring q false).cons + 1, wbDue := (s.ring q false).wbDue || (s.ring q false).wben } :=
  ring_setRing s q false _

/-- An answer that a ring waits for passes every test of the fetch but its consumer's room. -/
theorem fetch_open {b : Octets} (hup : s.pcieUp = true) (hto : hostToDevice q false = true) (hr : Ready s q)
    (hb : b.length = entrySize q) :
    (!s.pcieUp || !hostToDevice q false || !(s.ring q false).en ||
      (s.ring q false).fetched == (s.ring q false).prod || s.fetchAddr q != s.fetchAddr q ||
      b.length != entrySize q) = false := by
  simp [hup, hto, hr.1, hr.2, hb]

/-- An entry of a command ring reaches its thread and is taken. -/
theorem exec_ringFetch_command {p : ThreadId} {b : Octets} (hup : s.pcieUp = true) (hq : q.val = 32 + p.val)
    (hr : Ready s q) (hb : b.length = 32) (hc : s.clocked = true) (hroom : (s.thread p).cmdIn.length < 4) :
    exec (.ringFetch q ⟨s.fetchAddr q, b⟩) s =
      .next (tookEntry q ((s.setRing q false (fetchedOne (s.ring q false))).setThread p
        { s.thread p with cmdIn := (s.thread p).cmdIn ++ [b] })) := by
  have hp := p.isLt
  have hto : hostToDevice q false = true := by simp [hostToDevice]; omega
  have hsize : entrySize q = 32 := by rw [entrySize, if_neg (by omega), if_pos (by omega)]
  have hid : (Fin.ofNat 16 (q.val - 32) : ThreadId) = p := by
    apply Fin.ext
    simp only [Fin.ofNat]
    omega
  change execRingFetch q _ s = _
  unfold execRingFetch
  dsimp only
  rw [fetch_open hup hto hr (hb.trans hsize.symm), if_neg Bool.false_ne_true, if_pos (by omega), hid,
    if_pos (by simp [hc, hroom])]
  rfl

/-- A transmit entry reaches its port, where it waits. -/
theorem exec_ringFetch_transmit {c : PortId} {b : Octets} (hup : s.pcieUp = true) (hq : q.val = 48 + c.val)
    (hr : Ready s q) (hb : b.length = 256) (hst : (s.port c).st = 5) (hroom : (s.port c).msgIn.length < 4) :
    exec (.ringFetch q ⟨s.fetchAddr q, b⟩) s =
      .next ((s.setRing q false (fetchedOne (s.ring q false))).setPort c
        { s.port c with msgIn := (s.port c).msgIn ++ [b] }) := by
  have hc := c.isLt
  have hto : hostToDevice q false = true := by simp [hostToDevice]; omega
  have hsize : entrySize q = 256 := by rw [entrySize, if_neg (by omega), if_neg (by omega), if_pos (by omega)]
  have hid : (Fin.ofNat 8 (q.val - 48) : PortId) = c := by
    apply Fin.ext
    simp only [Fin.ofNat]
    omega
  change execRingFetch q _ s = _
  unfold execRingFetch
  dsimp only
  rw [fetch_open hup hto hr (hb.trans hsize.symm), if_neg Bool.false_ne_true, if_neg (by omega), if_pos (by omega), hid,
    if_pos (by simp [hst, hroom])]
  rfl

/-- A feed entry reaches its engine, where it waits. -/
theorem exec_ringFetch_feed {v : EngineId} {b : Octets} (hup : s.pcieUp = true) (hq : q.val = 60 + v.val)
    (hr : Ready s q) (hb : b.length = 32) (hc : s.clocked = true) (hroom : (s.engine v).feedIn.length < 4) :
    exec (.ringFetch q ⟨s.fetchAddr q, b⟩) s =
      .next ((s.setRing q false (fetchedOne (s.ring q false))).setEngine v
        { s.engine v with feedIn := (s.engine v).feedIn ++ [b] }) := by
  have hv := v.isLt
  have hto : hostToDevice q false = true := by simp [hostToDevice]; omega
  have hsize : entrySize q = 32 := by
    rw [entrySize, if_neg (by omega), if_neg (by omega), if_neg (by omega), if_neg (by omega)]
  have hid : (Fin.ofNat 4 (q.val - 60) : EngineId) = v := by
    apply Fin.ext
    simp only [Fin.ofNat]
    omega
  change execRingFetch q _ s = _
  unfold execRingFetch
  dsimp only
  rw [fetch_open hup hto hr (hb.trans hsize.symm), if_neg Bool.false_ne_true, if_neg (by omega), if_neg (by omega), hid,
    if_pos (by simp [hc, hroom])]
  rfl

theorem entrySize_of_hostToDevice (h : hostToDevice q false = true) :
    entrySize q = if q.val < 48 ∨ 60 ≤ q.val then 32 else 256 := by
  simp [hostToDevice] at h
  unfold entrySize
  split_ifs <;> omega

/-- What is no answer to a read of the ring's next entry is not taken. -/
theorem exec_ringFetch_of_stray {a : BitVec 64} {b : Octets}
    (h : hostToDevice q false = false ∨ (s.ring q false).en = false ∨
      (s.ring q false).fetched = (s.ring q false).prod ∨ a ≠ s.fetchAddr q ∨
      b.length ≠ (if q.val < 48 ∨ 60 ≤ q.val then 32 else 256)) :
    exec (.ringFetch q ⟨a, b⟩) s = .next s := by
  change execRingFetch q _ s = _
  unfold execRingFetch
  dsimp only
  rw [if_pos]
  cases hto : hostToDevice q false with
  | false => simp
  | true =>
    rw [← entrySize_of_hostToDevice hto] at h
    rcases h with h | h | h | h | h
    · simp [hto] at h
    all_goals simp [h]

/-! ### A fetch that fails (R368) -/

/-- A ring that a failed fetch has stopped. -/
def failedRing (r : Ring) : Ring := { r with en := false, err := true }

theorem queueEvent_mem (cause : Nat) (q : RingId) (s : State) :
    ⟨255, causeWord cause (64 + q.val) 0, s.now, s.outage⟩ ∈ (queueEvent cause q s).occs := by
  have hroom : s.evFull (Fin.ofNat 256 255).val = false := by simp [State.evFull, evChannel]
  rw [queueEvent, raiseNow, (raiseAs_of_room hroom).1]
  exact List.mem_append_right _ (by simp)

/-- DMAERR of a ring is dated by the state before its stop. -/
theorem dmaError_mem (q : RingId) (x : Ring) (s : State) :
    ⟨255, causeWord 2 (64 + q.val) 0, s.now, s.outage⟩ ∈ (queueEvent 2 q (s.setRing q false x)).occs :=
  queueEvent_mem 2 q (s.setRing q false x)

theorem queueEvent_ring (cause : Nat) (q : RingId) (s : State) : (queueEvent cause q s).ring q rx = s.ring q rx := by
  simp [queueEvent, State.ring]

theorem queueEvent_engine (cause : Nat) (q : RingId) (x : Ring) (v : EngineId) :
    (queueEvent cause q (s.setRing q false x)).engine v = s.engine v := raiseNow_engine ..

/-- A fetch that fails while an entry is to be fetched stops its ring. -/
theorem exec_dmaReadError_entry (hup : s.pcieUp = true) (hto : hostToDevice q false = true) (hr : Ready s q) :
    exec (.dmaReadError q) s = .next (queueEvent 2 q (s.setRing q false (failedRing (s.ring q false)))) := by
  have hentry : ((s.ring q false).en && (s.ring q false).fetched != (s.ring q false).prod) = true := by
    simp [hr.1, hr.2]
  change execDmaReadError q s = _
  unfold execDmaReadError
  dsimp only
  rw [hentry, if_neg (by simp [hup, hto]), if_pos rfl]
  rfl

/-- One that fails for a stream fill ends the fill besides. -/
theorem exec_dmaReadError_fill {v : EngineId} (hup : s.pcieUp = true) (hq : q.val = 60 + v.val)
    (hr : (s.ring q false).en = false ∨ (s.ring q false).fetched = (s.ring q false).prod)
    (hf : (s.engine v).fill.isSome = true) :
    exec (.dmaReadError q) s =
      .next ((queueEvent 2 q (s.setRing q false (failedRing (s.ring q false)))).modEngine v fun en =>
        { en with fill := none }) := by
  have hto : hostToDevice q false = true := by simp [hostToDevice]; omega
  have hid : (Fin.ofNat 4 (q.val - 60) : EngineId) = v := by
    apply Fin.ext
    simp only [Fin.ofNat]
    omega
  have hentry : ((s.ring q false).en && (s.ring q false).fetched != (s.ring q false).prod) = false := by
    rcases hr with h | h <;> simp [h]
  change execDmaReadError q s = _
  unfold execDmaReadError
  dsimp only
  rw [hentry, hid, if_neg (by simp [hup, hto, hf]; omega), if_neg Bool.false_ne_true]
  rfl

theorem exec_dmaReadError_of_idle
    (h : hostToDevice q false = false ∨
      ((s.ring q false).en = false ∨ (s.ring q false).fetched = (s.ring q false).prod) ∧
      (q.val < 60 ∨ (s.engine (Fin.ofNat 4 (q.val - 60))).fill = none)) :
    exec (.dmaReadError q) s = .next s := by
  change execDmaReadError q s = _
  unfold execDmaReadError
  dsimp only
  rw [if_pos]
  rcases h with h | ⟨h, h'⟩
  · simp [h]
  · have hentry : ((s.ring q false).en && (s.ring q false).fetched != (s.ring q false).prod) = false := by
      rcases h with h | h <;> simp [h]
    have hfill : (decide (60 ≤ q.val) && (s.engine (Fin.ofNat 4 (q.val - 60))).fill.isSome) = false := by
      rcases h' with h' | h'
      · simp [show ¬ 60 ≤ q.val by omega]
      · rw [h', Option.isSome_none, Bool.and_false]
    rw [hentry, hfill]
    simp

/-! ### An entry on its way to its ring (R365, R366) -/

/-- An entry as the write buffer accepts it: a capture record with DROP where one of its spoke was dropped before it. -/
def acceptedAs (s : State) (e : OutEntry) : OutEntry :=
  { e with
    taken := true
    bytes := patch e.bytes 11
      (if e.spoke.any (fun i => (s.spoke i).ringDrop) then (slice e.bytes 11 1).map (· ||| 0x10#8)
        else slice e.bytes 11 1) }

theorem length_patch {bs new : Octets} {k : Nat} (h : k + new.length ≤ bs.length) :
    (patch bs k new).length = bs.length := by
  simp only [patch, List.length_append, List.length_take, List.length_drop]
  omega

theorem acceptedAs_length {e : OutEntry} (h : 12 ≤ e.bytes.length) :
    (acceptedAs s e).bytes.length = e.bytes.length := by
  refine length_patch ?_
  have hs : (slice e.bytes 11 1).length = 1 := by
    simp only [slice, List.length_take, List.length_drop]
    omega
  split
  · rw [List.length_map, hs]
    exact h
  · rw [hs]
    exact h

/-- Where an entry is taken or dropped its spoke notes which. -/
def noteDrop (e : OutEntry) (dropped : Bool) (s : State) : State :=
  match e.spoke with
  | some i => s.modSpoke i fun sp => { sp with ringDrop := dropped }
  | none => s

theorem noteDrop_ringDrop (e : OutEntry) (d : Bool) (s : State) :
    e.spoke.all (fun i => ((noteDrop e d s).spoke i).ringDrop == d) = true := by
  unfold noteDrop
  cases e.spoke with
  | none => rfl
  | some i => simp

theorem noteDrop_rest (e : OutEntry) (d : Bool) (s : State) :
    (noteDrop e d s).outbox = s.outbox ∧ (noteDrop e d s).posted = s.posted ∧ (noteDrop e d s).hb = s.hb := by
  unfold noteDrop
  split <;> exact ⟨rfl, rfl, rfl⟩

/-- Only the element found is given to the change. -/
theorem modFirst_eq_const {α : Type} [DecidableEq α] (e : α) (f : α → α) (l : List α) :
    modFirst (· == e) f l = modFirst (· == e) (fun _ => f e) l := by
  induction l with
  | nil => rfl
  | cons x l ih =>
    by_cases h : x = e
    · simp [modFirst, h]
    · simp [modFirst, h, ih]

theorem modFirst_append {α : Type} [DecidableEq α] {e : α} (f : α → α) {l1 : List α} (h : e ∉ l1)
    (l2 : List α) : modFirst (· == e) f (l1 ++ e :: l2) = l1 ++ f e :: l2 := by
  induction l1 with
  | nil => simp [modFirst]
  | cons x l ih =>
    obtain ⟨hx, hl⟩ : ¬ e = x ∧ e ∉ l := by simpa using h
    have hx' : ¬ x = e := fun h => hx h.symm
    simp [modFirst, hx', ih hl]

theorem takeEntry_of_room {e : OutEntry} (h : s.ringTakes e.q e.rx e.bytes.length = true) :
    takeEntry e s = { noteDrop e false s with
      outbox := modFirst (· == e) (fun _ => acceptedAs s e) s.outbox } := by
  obtain ⟨hout, -, -⟩ := noteDrop_rest e false s
  rw [← hout]
  unfold takeEntry
  dsimp only
  rw [h, if_pos rfl, modFirst_eq_const]
  rfl

theorem takeEntry_of_full {e : OutEntry} (h : s.ringTakes e.q e.rx e.bytes.length = false) :
    takeEntry e s = dropEntry e.q e.rx { noteDrop e true s with outbox := s.outbox.erase e } := by
  obtain ⟨hout, -, -⟩ := noteDrop_rest e true s
  rw [← hout]
  unfold takeEntry
  dsimp only
  rw [h, if_neg Bool.false_ne_true]
  rfl

/-- An entry that goes to its ring leaves the outbox, and the ring counts it. -/
theorem writeTaken_eq (e : OutEntry) (s : State) :
    (writeTaken e s).outbox = s.outbox.erase e ∧
      (writeTaken e s).posted = s.posted ++ [⟨BitVec.ofNat 64 ((s.ring e.q e.rx).base.toNat +
        e.bytes.length * ((s.ring e.q e.rx).prod.toNat % 2 ^ (s.ring e.q e.rx).log2.toNat)), e.bytes⟩] ∧
      ((writeTaken e s).ring e.q e.rx).prod = (s.ring e.q e.rx).prod + 1 ∧
      ((writeTaken e s).ring e.q e.rx).drops = (s.ring e.q e.rx).drops ∧
      ∀ i, (writeTaken e s).spoke i = s.spoke i := by
  have hwrite (u : State) : (writeEntry e.q e.rx e.bytes u).outbox = u.outbox ∧
      (writeEntry e.q e.rx e.bytes u).posted = u.posted ++ [⟨BitVec.ofNat 64 ((u.ring e.q e.rx).base.toNat +
        e.bytes.length * ((u.ring e.q e.rx).prod.toNat % 2 ^ (u.ring e.q e.rx).log2.toNat)), e.bytes⟩] ∧
      ((writeEntry e.q e.rx e.bytes u).ring e.q e.rx).prod = (u.ring e.q e.rx).prod + 1 ∧
      ((writeEntry e.q e.rx e.bytes u).ring e.q e.rx).drops = (u.ring e.q e.rx).drops ∧
      ∀ i, (writeEntry e.q e.rx e.bytes u).spoke i = u.spoke i := by
    refine ⟨setRing_outbox .., ?_, ?_, ?_, fun i => setRing_spoke ..⟩
    · simp [writeEntry, Ring.slotAddr]
    · simp [writeEntry, ring_setRing]
    · simp [writeEntry, ring_setRing]
  unfold writeTaken
  dsimp only
  split
  all_goals exact hwrite _

/-! ### RING_ENTRY_WRITE -/

/-- What is given to a device-to-host ring: its oldest entry, or the FLR record that waits. -/
def giveRing (q : RingId) (rx now : Bool) (s : State) : State :=
  match s.outbox.find? fun e => e.q == q && e.rx == rx && (now || !e.taken) with
  | none => flushFlr s
  | some e =>
    let s1 := if e.taken then s else takeEntry e s
    if now then
      match s1.outbox.find? fun e => e.q == q && e.rx == rx && e.taken with
      | some e => writeTaken e s1
      | none => s1
    else s1

/-- A device-to-host ring is given its entries while PCIe is up. -/
theorem exec_ringEntryWrite {now : Bool} (hup : s.pcieUp = true) (hq : hostToDevice q rx = false ∧ rxOk q rx = true) :
    exec (.ringEntryWrite q ⟨rx, now⟩) s = .next (giveRing q rx now s) := by
  change execRingEntryWrite q _ s = _
  unfold execRingEntryWrite
  dsimp only
  rw [if_neg (by simp [hup, hq])]
  rfl

/-- The first entry for a ring that meets a test, and what stands before it. -/
theorem split_of_find {now : Bool} {e : OutEntry}
    (h : s.outbox.find? (fun e => e.q == q && e.rx == rx && (now || !e.taken)) = some e) :
    e.q = q ∧ e.rx = rx ∧ ∃ l1 l2, s.outbox = l1 ++ e :: l2 ∧
          ∀ x ∈ l1, ¬ (x.q = q ∧ x.rx = rx ∧ (now = true ∨ x.taken = false)) := by
  obtain ⟨he, l1, l2, hl, h1⟩ := List.find?_eq_some_iff_append.1 h
  simp only [Bool.and_eq_true, beq_iff_eq] at he
  refine ⟨he.1.1, he.1.2, l1, l2, hl, fun x hx => ?_⟩
  have := h1 x hx
  simp at this
  rintro ⟨hq, hr, h | h⟩ <;> simp_all

theorem takeEntry_outbox {e : OutEntry} {l1 l2 : List OutEntry} (hl : s.outbox = l1 ++ e :: l2) (hne : e ∉ l1)
    (hroom : s.ringTakes e.q e.rx e.bytes.length = true) : (takeEntry e s).outbox = l1 ++ acceptedAs s e :: l2 := by
  rw [takeEntry_of_room hroom, hl]
  exact modFirst_append _ hne l2

/-- The first element of a list that a test finds after those before it fail it. -/
theorem find_taken {l1 l2 : List OutEntry} {e : OutEntry} (h1 : ∀ x ∈ l1, ¬ (x.q = e.q ∧ x.rx = e.rx))
    (he : e.taken = true) : (l1 ++ e :: l2).find? (fun x => x.q == e.q && x.rx == e.rx && x.taken) = some e := by
  rw [List.find?_eq_some_iff_append]
  refine ⟨by simp [he], l1, l2, rfl, fun x hx => ?_⟩
  have hx' : x.q = e.q → ¬ x.rx = e.rx := fun hq hr => h1 x hx ⟨hq, hr⟩
  by_cases hq : x.q = e.q
  · simp [hx' hq]
  · simp [hq]

/-- An accepted entry stands where the entry stood, so that the outbox is the same without it. -/
theorem takeEntry_erase {e : OutEntry} {l1 l2 : List OutEntry} (hl : s.outbox = l1 ++ e :: l2)
    (h1 : ∀ x ∈ l1, ¬ (x.q = e.q ∧ x.rx = e.rx)) (hroom : s.ringTakes e.q e.rx e.bytes.length = true) :
    (takeEntry e s).outbox.erase (acceptedAs s e) = s.outbox.erase e := by
  have hne : e ∉ l1 := fun h => h1 e h ⟨rfl, rfl⟩
  have hne' : acceptedAs s e ∉ l1 := fun h => h1 _ h ⟨rfl, rfl⟩
  rw [takeEntry_outbox hl hne hroom, hl, List.erase_append_right _ hne', List.erase_append_right _ hne,
    List.erase_cons_head, List.erase_cons_head]

/-- The records that a ring has accepted and not yet written, one more being accepted. -/
theorem accepted_of_taken {t : State} {e : OutEntry} {l1 l2 : List OutEntry} (hs : s.outbox = l1 ++ e :: l2)
    (ht : t.outbox = l1 ++ acceptedAs s e :: l2) (he : e.taken = false) :
    t.accepted e.q e.rx = s.accepted e.q e.rx + 1 := by
  simp [State.accepted, hs, ht, he, acceptedAs]
  omega

theorem takeEntry_rest_of_room {e : OutEntry} (h : s.ringTakes e.q e.rx e.bytes.length = true) :
    (takeEntry e s).posted = s.posted ∧ (∀ q rx, (takeEntry e s).ring q rx = s.ring q rx) ∧
      e.spoke.all (fun i => !((takeEntry e s).spoke i).ringDrop) = true := by
  obtain ⟨-, hposted, hhb⟩ := noteDrop_rest e false s
  rw [takeEntry_of_room h]
  refine ⟨hposted, fun q rx => ?_, ?_⟩
  · simp only [State.ring, hhb]
  · change e.spoke.all (fun i => !((noteDrop e false s).spoke i).ringDrop) = true
    simpa using noteDrop_ringDrop e false s

/-- An entry that its ring does not take is dropped and counted there. -/
theorem takeEntry_rest_of_full {e : OutEntry} (h : s.ringTakes e.q e.rx e.bytes.length = false) :
    (takeEntry e s).outbox = s.outbox.erase e ∧ (takeEntry e s).posted = s.posted ∧
      (takeEntry e s).ring e.q e.rx = { s.ring e.q e.rx with drops := (s.ring e.q e.rx).drops + 1 } ∧
      e.spoke.all (fun i => ((takeEntry e s).spoke i).ringDrop) = true := by
  obtain ⟨-, hposted, hhb⟩ := noteDrop_rest e true s
  have hring : ({ noteDrop e true s with outbox := s.outbox.erase e } : State).ring e.q e.rx = s.ring e.q e.rx := by
    simp only [State.ring, hhb]
  rw [takeEntry_of_full h, dropEntry, State.modRing, hring]
  refine ⟨setRing_outbox .., (setRing_posted ..).trans hposted, ring_setRing .., ?_⟩
  simp only [setRing_spoke]
  change e.spoke.all (fun i => ((noteDrop e true s).spoke i).ringDrop) = true
  simpa using noteDrop_ringDrop e true s

/-- A full ring that has accepted nothing writes nothing. -/
theorem none_taken_of_accepted {e : OutEntry} (h : s.accepted q rx = 0) :
    (s.outbox.erase e).find? (fun x => x.q == q && x.rx == rx && x.taken) = none := by
  rw [State.accepted, List.length_eq_zero_iff, List.filter_eq_nil_iff] at h
  rw [List.find?_eq_none]
  intro x hx
  have := h x (List.mem_of_mem_erase hx)
  simp only [Bool.and_eq_true] at this ⊢
  tauto

/-- The FLR record leaves once its ring takes it (R358). -/
theorem flushFlr_of_room {d : DT} {coarse : Bool} (hd : s.hb.flrHeld = some (d, coarse))
    (hrec : (s.evCfgNow 255).getLsbD 10 = true) (hroom : s.ringTakes (evRing (s.evCfgNow 255)) false 16 = true) :
    flushFlr s = post
      ((s.ring (evRing (s.evCfgNow 255)) false).slotAddr 16 (s.ring (evRing (s.evCfgNow 255)) false).prod)
      (eventRecord ⟨255, causeWord 5 0 0, d, coarse⟩ (s.ring (evRing (s.evCfgNow 255)) false).dropFlag)
      (({ s with hb := { s.hb with flrHeld := none } } : State).setRing (evRing (s.evCfgNow 255)) false
        (recordedRing (s.ring (evRing (s.evCfgNow 255)) false))) := by
  simp only [flushFlr, hd, hrec, hroom, Bool.and_self, if_true]
  exact writeRecord_of_room (s := { s with hb := { s.hb with flrHeld := none } })
    ⟨255, causeWord 5 0 0, d, coarse⟩ hroom

/-- Settles O52, by the equation of each case of a ring's traffic. -/
theorem ringTrafficCompletes : Obligations.RingTrafficCompletes := by
  unfold Obligations.RingTrafficCompletes
  and_intros
  · rintro s q a b p hup hq hr rfl hb ⟨hc, hroom⟩ hstale
    refine ⟨_, exec_ringFetch_command hup hq hr hb hc hroom, get_set .., ?_⟩
    rw [tookEntry_ring, ring_setThread, ring_setRing, if_neg (by simp [fetchedOne, hstale])]
    rfl
  · rintro s q a b p hup hq hr rfl hb ⟨hc, hroom⟩ hstale
    refine ⟨_, exec_ringFetch_command hup hq hr hb hc hroom, get_set .., ?_⟩
    rw [tookEntry_ring, ring_setThread, ring_setRing, if_pos (by exact hstale)]
    rfl
  · rintro s q a b c hup hq hr rfl hb ⟨hst, hroom⟩
    exact ⟨_, exec_ringFetch_transmit hup hq hr hb hst hroom, get_set .., ring_setRing s q false _⟩
  · rintro s q a b v hup hq hr rfl hb ⟨hc, hroom⟩
    exact ⟨_, exec_ringFetch_feed hup hq hr hb hc hroom, get_set .., ring_setRing s q false _⟩
  · exact fun s q a b h => exec_ringFetch_of_stray h
  · intro s q hup hto hr
    refine ⟨_, exec_dmaReadError_entry hup hto hr, ?_, ?_, dmaError_mem ..⟩
    · rw [queueEvent_ring, ring_setRing]
      rfl
    · simp [queueEvent, State.setRing]
  · intro s q v hup hq hr hf
    refine ⟨_, exec_dmaReadError_fill hup hq hr hf, ?_, ?_, ?_⟩
    · rw [modEngine_eq, ring_setEngine, queueEvent_ring, ring_setRing]
      rfl
    · rw [modEngine_eq, setEngine_get, queueEvent_engine]
    · rw [modEngine_eq, setEngine_occs]
      exact dmaError_mem ..
  · exact fun s q h => exec_dmaReadError_of_idle h
  · rintro s q rx e hup hq ⟨hfind, htaken⟩
    obtain ⟨rfl, rfl, l1, l2, hl, h1⟩ := split_of_find (now := true) (by simpa using hfind)
    have htook : s.outbox.find? (fun x => x.q == e.q && x.rx == e.rx && x.taken) = some e := by
      rw [hl]
      exact find_taken (fun x hx h => h1 x hx ⟨h.1, h.2, .inl rfl⟩) htaken
    obtain ⟨hout, hposted, hprod, hdrops, -⟩ := writeTaken_eq e s
    refine ⟨_, exec_ringEntryWrite hup hq, ?_⟩
    simp only [giveRing, Bool.true_or, Bool.and_true, hfind, htaken, if_true, htook]
    exact ⟨hout, hposted, hprod, hdrops⟩
  · rintro s q rx e hup hq ⟨hfind, htaken⟩ hroom hlen
    obtain ⟨rfl, rfl, l1, l2, hl, h1⟩ := split_of_find (now := true) (by simpa using hfind)
    have h1' : ∀ x ∈ l1, ¬ (x.q = e.q ∧ x.rx = e.rx) := fun x hx h => h1 x hx ⟨h.1, h.2, .inl rfl⟩
    have htook : (takeEntry e s).outbox.find? (fun x => x.q == e.q && x.rx == e.rx && x.taken) =
        some (acceptedAs s e) := by
      rw [takeEntry_outbox hl (fun h => h1' e h ⟨rfl, rfl⟩) hroom]
      exact find_taken (e := acceptedAs s e) h1' rfl
    obtain ⟨hposted, hring, hflag⟩ := takeEntry_rest_of_room hroom
    obtain ⟨hout, hpost, hprod, hdrops, hspoke⟩ := writeTaken_eq (acceptedAs s e) (takeEntry e s)
    refine ⟨_, exec_ringEntryWrite hup hq, ?_⟩
    simp only [giveRing, Bool.true_or, Bool.and_true, hfind, htaken, if_true, htook, Bool.false_eq_true, if_false]
    rw [acceptedAs_length hlen, hring, hposted] at hpost
    rw [hring] at hprod hdrops
    refine ⟨hout.trans (takeEntry_erase hl h1' hroom), hpost, hprod, hdrops, ?_⟩
    simp only [hspoke]
    exact hflag
  · rintro s q rx e hup hq hfind hroom hlen
    obtain ⟨rfl, rfl, l1, l2, hl, h1⟩ := split_of_find (now := false) (by simpa using hfind)
    have htaken : e.taken = false := by simpa using List.find?_some hfind
    obtain ⟨hposted, hring, -⟩ := takeEntry_rest_of_room hroom
    have hout := takeEntry_outbox hl (fun h => h1 e h ⟨rfl, rfl, .inr htaken⟩) hroom
    refine ⟨takeEntry e s, ?_, hposted, ?_, hring .., accepted_of_taken hl hout htaken⟩
    · rw [exec_ringEntryWrite hup hq]
      simp only [giveRing, Bool.false_or, hfind, htaken, Bool.false_eq_true, if_false]
    · rw [takeEntry_of_room hroom]
      exact (modFirst_eq_const e _ s.outbox).symm
  · rintro s q rx now e hup hq ⟨hfind, htaken⟩ hroom hnow
    obtain ⟨rfl, rfl, -⟩ := split_of_find hfind
    obtain ⟨hout, hposted, hring, hflag⟩ := takeEntry_rest_of_full hroom
    refine ⟨takeEntry e s, ?_, hout, hposted, hring, hflag⟩
    rw [exec_ringEntryWrite hup hq, giveRing, hfind]
    dsimp only
    rw [htaken, if_neg Bool.false_ne_true, hout]
    split
    · rw [none_taken_of_accepted (hnow.resolve_left (by simp [*]))]
    · rfl
  · intro s q rx now hup hq hfind hnone
    rw [exec_ringEntryWrite hup hq, giveRing, hfind]
    exact congrArg _ (flushFlr_of_none hnone)
  · rintro s q rx now hup hq hfind ⟨hheld, hrec, hroom⟩
    obtain ⟨⟨d, coarse⟩, hd⟩ := Option.isSome_iff_exists.1 hheld
    have hx := exec_ringEntryWrite (now := now) hup hq
    rw [giveRing, hfind] at hx
    refine ⟨_, hx.trans (congrArg _ (flushFlr_of_room hd hrec hroom)), rfl, ?_, ?_⟩
    · simp
    · rw [post_ring, ring_setRing]
      rfl
  · rintro s q rx now h
    change execRingEntryWrite q _ s = _
    unfold execRingEntryWrite
    dsimp only
    rw [if_pos (by rcases h with h | h <;> simp [h])]
  · rintro s q rx hup hok ⟨hen, hwben, hdue⟩
    have hx : exec (.writeback q rx) s = .next (writeBack q rx s) := by
      change execWriteback q rx s = _
      simp [execWriteback, hup, hok]
    have hdone : writeBack q rx s = post (s.ring q rx).wb.toNat (leOctets 4
        ((if hostToDevice q rx then (s.ring q rx).cons else (s.ring q rx).prod).toNat +
          (s.ring q rx).drops.toNat * 65536))
        (s.setRing q rx { s.ring q rx with wbDue := false }) := by
      unfold writeBack
      dsimp only
      rw [if_pos (by simp [hen, hwben, hdue])]
    refine ⟨_, hx.trans (congrArg _ hdone), ?_, ?_⟩
    · rw [post_ring, ring_setRing]
    · simp
  · intro s q rx h
    have hnone : rxOk q rx = true → writeBack q rx s = s := by
      intro hok
      unfold writeBack
      dsimp only
      rw [if_neg]
      rcases h with h | h | h | h <;> simp_all
    change execWriteback q rx s = _
    unfold execWriteback
    split
    · rw [hnone (by simp_all)]
    · rfl

end Sys2Proof.Proofs
end

section
/-! Issue instructions that enter what they issue, and their faults (O25): descriptors built bit by bit, and one
equation for each instruction's way to its try (R101 to R110). -/

namespace Sys2Proof.Proofs

open Sys2Proof.Machine Sys2Proof.Laws

/-! ### Descriptors (R58, R101, R105) -/

/-- Replacing bits of a descriptor leaves those below and above. -/
theorem dPut_toNat (r : BitVec 128) {lo len : Nat} (n : Nat) (h : lo + len ≤ 128) :
    (dPut r lo len n).toNat = r.toNat / 2 ^ (lo + len) * 2 ^ (lo + len) + n % 2 ^ len * 2 ^ lo + r.toNat % 2 ^ lo := by
  have hlow : r.toNat % 2 ^ lo < 2 ^ lo := Nat.mod_lt _ (by positivity)
  have hmid : n % 2 ^ len < 2 ^ len := Nat.mod_lt _ (by positivity)
  have hr := r.isLt
  have hsum : r.toNat / 2 ^ (lo + len) * 2 ^ (lo + len) + n % 2 ^ len * 2 ^ lo + r.toNat % 2 ^ lo =
      2 ^ lo * (2 ^ len * (r.toNat / 2 ^ (lo + len)) ||| n % 2 ^ len) ||| r.toNat % 2 ^ lo := by
    rw [← Nat.two_pow_add_eq_or_of_lt hmid, ← Nat.two_pow_add_eq_or_of_lt hlow]
    ring
  rw [hsum]
  refine Nat.eq_of_testBit_eq fun k => ?_
  have hk : (k < 128) ∨ r.getLsbD k = false := by
    by_cases hk : k < 128
    · exact .inl hk
    · exact .inr (BitVec.getLsbD_of_ge r k (by omega))
  simp only [BitVec.testBit_toNat, dPut, at', BitVec.getLsbD_or, BitVec.getLsbD_and, BitVec.getLsbD_not,
    BitVec.getLsbD_ofNat, Nat.testBit_or, Nat.testBit_two_pow_mul, Nat.testBit_shiftLeft, Nat.testBit_two_pow_sub_one,
    Nat.testBit_mod_two_pow, Nat.testBit_div_two_pow]
  by_cases hlo : k < lo
  · simp [hlo, show ¬ lo ≤ k by omega, show k < 128 by omega]
  · by_cases hhi : k < lo + len
    · simp [hlo, show lo ≤ k by omega, show k < 128 by omega, show k - lo < len by omega]
    · have hback : k - lo - len + (lo + len) = k := by omega
      have hge : len ≤ k - lo := by omega
      rcases hk with hk | hk <;> simp [hlo, hk, hback, hge, show lo ≤ k by omega, show ¬ k - lo < len by omega]

/-- START put into a descriptor that has none. -/
theorem putStart (r : BitVec 128) {n : Nat} (hr : r.toNat < 2 ^ 72) (hn : n < 2 ^ 56) :
    dPut r 72 56 n = BitVec.ofNat 128 (r.toNat + n * 2 ^ 72) := by
  have hlt : r.toNat + n * 2 ^ 72 < 2 ^ 128 := by omega
  have hhigh : r.toNat / 2 ^ 128 = 0 := by omega
  apply BitVec.eq_of_toNat_eq
  rw [dPut_toNat r n (by omega), BitVec.toNat_ofNat, Nat.mod_eq_of_lt hlt, Nat.mod_eq_of_lt hn, Nat.mod_eq_of_lt hr]
  omega

/-- WIDTH put into a template. -/
theorem putWidth (r : BitVec 128) {n : Nat} (hn : n < 2 ^ 26) :
    (dPut r 18 26 n).toNat = r.toNat % 2 ^ 18 + n * 2 ^ 18 + r.toNat / 2 ^ 44 * 2 ^ 44 := by
  rw [dPut_toNat r n (by omega), Nat.mod_eq_of_lt hn]
  omega

theorem lt_of_dStart {r : BitVec 128} (h : dStart r = 0) : r.toNat < 2 ^ 72 := by
  have hr := r.isLt
  simp only [dStart, dField, fieldOf, Nat.shiftRight_eq_div_pow] at h
  omega

theorem iField_lt (w : BitVec 64) (lo len : Nat) : iField w lo len < 2 ^ len := Nat.mod_lt _ (by positivity)

/-! ### What enters a spoke's channel (R101, R102, R107) -/

section
variable {s : State} {p : ThreadId} {i : SpokeId} {raw : BitVec 128} {ta : DT}

/-- Pacer counts one more place taken of the spoke's queue (R108). -/
def countPlace (i : SpokeId) (s : State) : State :=
  { s with pacer := { s.pacer with used := s.pacer.used.set i.val (s.pacer.used.get i + 1) i.isLt } }

@[simp] theorem countPlace_spoke (j : SpokeId) : (countPlace i s).spoke j = s.spoke j := rfl
@[simp] theorem countPlace_thread (q : ThreadId) : (countPlace i s).thread q = s.thread q := rfl
@[simp] theorem countPlace_island (j : IslandId) : (countPlace i s).island j = s.island j := rfl
@[simp] theorem countPlace_slot : (countPlace i s).slot = s.slot := rfl
@[simp] theorem countPlace_used : (countPlace i s).pacer.used.get i = s.pacer.used.get i + 1 := get_set ..

theorem enterChan_near (h : (ta - s.pacer.mirror.get i).toNat < 2 ^ 56) :
    enterChan p i raw ta s =
      sendDescs p i [dPut raw 72 56 (ta - s.pacer.mirror.get i).toNat] (countPlace i s) := by
  rw [enterChan, if_pos h]
  rfl

theorem enterChan_far (h : 2 ^ 56 ≤ (ta - s.pacer.mirror.get i).toNat) :
    enterChan p i raw ta s = setMirror i ta (sendDescs p i [anchorRaw ta, dPut raw 72 56 0] (countPlace i s)) := by
  rw [enterChan, if_neg (by omega)]
  rfl

/-- Room for a descriptor whose START fits. -/
theorem hasRoom_desc_near (hroom : (s.spoke i).chan.length < 4 ∧ s.pacer.used.get i < 64)
    (h : (ta - s.pacer.mirror.get i).toNat < 2 ^ 56) : s.hasRoom (.desc i raw ta) = true := by
  obtain ⟨hchan, hqueue⟩ := hroom
  simp only [State.hasRoom, if_pos h, Bool.and_eq_true, decide_eq_true_eq]
  omega

/-- An issue with its way open, room and lead enters and completes with F clear. -/
theorem startIssue_of_entered {m : Issue} (hip : (s.thread p).ip ≠ 0x3FFF) (hc : s.closed m = false)
    (hr : s.hasRoom m = true) (hl : s.meetsLead m = true) (ht : (enter p m s).thread p = s.thread p) :
    startIssue p m s = (enter p m s).completed p { s.thread p with f := false, ip := (s.thread p).ip + 1 } := by
  rw [startIssue_of_below m hip, tryIssue_of_entered hc hr hl, complete_eq, ht]

/-- A descriptor whose START fits enters behind what waits in the channel, and takes a place. -/
theorem startIssue_near (hip : (s.thread p).ip ≠ 0x3FFF)
    (hroom : (s.spoke i).chan.length < 4 ∧ s.pacer.used.get i < 64)
    (h : (ta - s.pacer.mirror.get i).toNat < 2 ^ 56) (hl : dtLe (dtAdd (slotDt s.slot) 131072) ta = true)
    (hraw : raw.toNat < 2 ^ 72) :
    ((startIssue p (.desc i raw ta) s).spoke i).chan = (s.spoke i).chan ++
        [.desc ⟨BitVec.ofNat 128 (raw.toNat + (ta - s.pacer.mirror.get i).toNat * 2 ^ 72),
          (s.island islPacer).gen, p⟩] ∧
      (startIssue p (.desc i raw ta) s).pacer.used.get i = s.pacer.used.get i + 1 ∧
      (startIssue p (.desc i raw ta) s).thread p =
        (s.completed p { s.thread p with f := false, ip := (s.thread p).ip + 1 }).thread p := by
  have henter : enter p (.desc i raw ta) s = sendDescs p i
      [BitVec.ofNat 128 (raw.toNat + (ta - s.pacer.mirror.get i).toNat * 2 ^ 72)] (countPlace i s) := by
    rw [← putStart raw hraw h]
    exact enterChan_near h
  rw [startIssue_of_entered hip rfl (hasRoom_desc_near hroom h) hl (by rw [henter]; rfl), henter]
  refine ⟨?_, ?_, ?_⟩
  all_goals simp [State.completed, sendDescs]

/-- A descriptor whose START does not fit enters behind an ANCHOR at its time (R101). -/
theorem startIssue_far (hip : (s.thread p).ip ≠ 0x3FFF)
    (hroom : (s.spoke i).chan.length + 2 ≤ 4 ∧ s.pacer.used.get i < 64)
    (h : 2 ^ 56 ≤ (ta - s.pacer.mirror.get i).toNat) (hl : dtLe (dtAdd (slotDt s.slot) 131072) ta = true)
    (hraw : raw.toNat < 2 ^ 72) :
    ((startIssue p (.desc i raw ta) s).spoke i).chan = (s.spoke i).chan ++
        [.desc ⟨anchorRaw ta, (s.island islPacer).gen, p⟩, .desc ⟨raw, (s.island islPacer).gen, p⟩] ∧
      (startIssue p (.desc i raw ta) s).pacer.mirror.get i = ta := by
  have hsame : dPut raw 72 56 0 = raw := by rw [putStart raw hraw (by omega)]; simp
  have henter : enter p (.desc i raw ta) s = setMirror i ta (sendDescs p i [anchorRaw ta, raw] (countPlace i s)) := by
    rw [← hsame]
    exact hsame.symm ▸ enterChan_far h
  rw [startIssue_of_entered hip rfl (hasRoom_desc hroom) hl (by rw [henter]; rfl), henter]
  refine ⟨?_, ?_⟩
  · change ((sendDescs p i [anchorRaw ta, raw] (countPlace i s)).spoke i).chan = _
    simp [sendDescs]
  · exact get_set ..

/-- An ANCHOR enters, and the mirror is its DT (R106). -/
theorem startIssue_anchor (hip : (s.thread p).ip ≠ 0x3FFF) (hroom : (s.spoke i).chan.length < 4) :
    ((startIssue p (.anchor i ta) s).spoke i).chan =
        (s.spoke i).chan ++ [.desc ⟨anchorRaw ta, (s.island islPacer).gen, p⟩] ∧
      (startIssue p (.anchor i ta) s).pacer.mirror.get i = ta ∧
      (startIssue p (.anchor i ta) s).pacer.used = s.pacer.used ∧
      (startIssue p (.anchor i ta) s).thread p =
        (s.completed p { s.thread p with f := false, ip := (s.thread p).ip + 1 }).thread p := by
  rw [startIssue_of_entered hip rfl (by simp [State.hasRoom, hroom]) rfl rfl]
  refine ⟨?_, get_set .., rfl, ?_⟩
  · change ((sendDescs p i [anchorRaw ta] s).spoke i).chan = _
    simp [sendDescs]
  · exact (setThread_get ..).trans (setThread_get ..).symm

end

/-! ### The issue instructions -/

/-- A field of an instruction put at a bit of a descriptor. -/
theorem at'_iField (w : BitVec 64) (lo len k : Nat) : at' (iField w lo len) k len = iField w lo len * 2 ^ k := by
  rw [at', Nat.mod_eq_of_lt (iField_lt w lo len), Nat.shiftLeft_eq]

/-- The descriptor that a PULSE builds, before its START (R103). -/
def pulseNum (w : BitVec 64) : Nat :=
  1 + iField w 39 1 * 8 + iField w 38 1 * 16 + iField w 37 1 * 32 + iField w 0 26 * 2 ^ 18

/-- The descriptor that a LEVEL builds, before its START (R104). -/
def levelNum (w : BitVec 64) : Nat := 4 + iField w 38 2 * 8 + iField w 37 1 * 32

theorem pulseNum_lt (w : BitVec 64) : pulseNum w < 2 ^ 72 := by
  have h39 := iField_lt w 39 1
  have h38 := iField_lt w 38 1
  have h37 := iField_lt w 37 1
  have h0 := iField_lt w 0 26
  unfold pulseNum
  omega

theorem levelNum_lt (w : BitVec 64) : levelNum w < 2 ^ 72 := by
  have h38 := iField_lt w 38 2
  have h37 := iField_lt w 37 1
  unfold levelNum
  omega

theorem toNat_ofNum {n : Nat} (h : n < 2 ^ 72) : (BitVec.ofNat 128 n).toNat = n := by
  rw [BitVec.toNat_ofNat]
  exact Nat.mod_eq_of_lt (by omega)

section
variable {s : State} {p : ThreadId} {w : BitVec 64} (hi : s.issues p w)
include hi

section
variable {i : SpokeId} {d : Fin 8} (hd : iField w 52 4 = 8 + d.val)
  (hs : okSpoke w = true ∧ spokeOf (s.thread p) w = i.val)
include hd hs

/-- A format E issue of good form, with the DT of its T register. -/
theorem issueE_at {op : Nat} {ok : BitVec 64 → Bool} {f : SpokeId → DT → BitVec 64 → State → State}
    (ho : iOp w = op) (hok : ok w = true) : issueE p op ok f s = .next (f i ((s.thread p).t.get d) w s) := by
  rw [issueE_issues hi ho (by omega) hs hok, hd, thread_tr]

theorem exec_pulse_desc (ho : iOp w = 0x40) (hz : iField w 48 4 = 0 ∧ iField w 26 11 = 0) :
    exec (.pulse p) s =
      .next (startIssue p (.desc i (BitVec.ofNat 128 (pulseNum w)) ((s.thread p).t.get d)) s) := by
  change execPulse p s = _
  rw [execPulse, issueE_at hi hd hs ho (by simp [fA, none', zero, hz])]
  simp only [at'_iField]
  rfl

theorem exec_level_desc (ho : iOp w = 0x41) (hz : iField w 48 4 = 0 ∧ iField w 38 2 < 3 ∧ iField w 0 37 = 0) :
    exec (.level p) s =
      .next (startIssue p (.desc i (BitVec.ofNat 128 (levelNum w)) ((s.thread p).t.get d)) s) := by
  obtain ⟨ha, hlvl, hrest⟩ := hz
  change execLevel p s = _
  rw [execLevel, issueE_at hi hd hs ho (by simp [fA, none', zero, ha, hrest]; omega)]
  simp only [at'_iField]
  rfl

theorem exec_anchor (ho : iOp w = 0x43) (hz : iField w 48 4 = 0 ∧ iField w 0 40 = 0) :
    exec (.anchor p) s = .next (startIssue p (.anchor i ((s.thread p).t.get d)) s) := by
  change execAnchor p s = _
  rw [execAnchor, issueE_at hi hd hs ho (by simp [fA, none', zero, hz])]

theorem exec_cancel (ho : iOp w = 0x44) (hz : iField w 48 4 = 0 ∧ iField w 0 40 = 0) :
    exec (.cancel p) s = .next (startIssue p (.cancel i ((s.thread p).t.get d)) s) := by
  change execCancel p s = _
  rw [execCancel, issueE_at hi hd hs ho (by simp [fA, none', zero, hz])]

end

/-! #### EMIT (R105) -/

/-- The register fields that an EMIT of good form has. -/
def EmitForm (w : BitVec 64) : Prop :=
  iField w 14 25 = 0 ∧ if iField w 39 1 = 1 then iField w 48 4 < 8 else iField w 48 4 = 0

/-- What an EMIT issues: its template, with a WIDTH of a G register where it has one. -/
def emitDesc (s : State) (p : ThreadId) (w : BitVec 64) : BitVec 128 :=
  if iField w 39 1 = 1 then dPut (s.template p (iField w 0 14)) 18 26 ((s.thread p).gr (fA w)).toNat
  else s.template p (iField w 0 14)

/-- The fault of an EMIT in its second slot, if it has one (R105). -/
def emitFault (s : State) (p : ThreadId) (w : BitVec 64) : Option Nat :=
  if iField w 0 14 = 16383 then some 2
  else if dKind (s.template p (iField w 0 14)) = 0 ∨ dStart (s.template p (iField w 0 14)) ≠ 0 then some 5
  else if iField w 39 1 = 1 ∧ 2 ^ 26 ≤ ((s.thread p).gr (fA w)).toNat then some 4
  else none

theorem exec_emit {i : SpokeId} (ho : iOp w = 0x42) (hd : 8 ≤ iField w 52 4)
    (hs : okSpoke w = true ∧ spokeOf (s.thread p) w = i.val) (hf : EmitForm w)
    (h2 : (s.thread p).nextSlot + 16 ≤ s.slot) :
    exec (.emit p) s = .next (match emitFault s p w with
      | some cause => fault p cause s
      | none => startIssue p (.desc i (emitDesc s p w) ((s.thread p).tr (iField w 52 4))) s) := by
  obtain ⟨hrest, hreg⟩ := hf
  have hok : ((if iField w 39 1 = 1 then isG (fA w) else none' (fA w)) && zero w 14 25) = true := by
    split at hreg <;> simp [*, fA, isG, none', zero]
  change execEmit p s = _
  rw [execEmit, issueE_issues hi ho hd hs hok]
  simp only [secondSlot, if_pos h2, emitFault, emitDesc]
  by_cases hform : iField w 0 14 = 16383
  · simp only [if_pos hform]
  · by_cases htem : dKind (s.template p (iField w 0 14)) = 0 ∨ dStart (s.template p (iField w 0 14)) ≠ 0
    · simp only [if_neg hform, if_pos htem]
    · by_cases hgw : iField w 39 1 = 1 ∧ 2 ^ 26 ≤ ((s.thread p).gr (fA w)).toNat
      · simp only [if_neg hform, if_neg htem, if_pos hgw]
      · simp only [if_neg hform, if_neg htem, if_neg hgw]

/-! #### Engine messages (R109) and targets (R110) -/

/-- The value operand of an engine instruction, from IMM32 or from a G register. -/
def Operand (t : Thread) (w : BitVec 64) (n : Nat) : Prop :=
  iField w 47 1 = 1 ∧ iField w 48 4 = 0 ∧ n = iField w 0 32 ∨
    iField w 47 1 = 0 ∧ iField w 48 4 < 8 ∧ iField w 0 32 = 0 ∧ n = (t.gr (iField w 48 4)).toNat

omit hi in
theorem valOf_of_operand {t : Thread} {n : Nat} (h : Operand t w n) : okVal w = true ∧ (valOf t w).toNat = n := by
  rcases h with ⟨his, ha, rfl⟩ | ⟨his, ha, himm, rfl⟩
  · have hlt := iField_lt w 0 32
    simpa [okVal, valOf, his, fA, none', ha, imm32, word] using hlt
  · simp [okVal, valOf, his, fA, isG, ha, zero, himm]

omit hi in
theorem okEng_of_fields (h : iField w 43 4 = 0 ∧ iField w 32 8 = 0 ∧ iField w 40 3 < 4) : okEng w = true := by
  simp [okEng, zero, h]

omit hi in
theorem engOf_eq {v : EngineId} (h : iField w 40 3 = v.val) : engOf w = v := by simp [engOf, h]

variable {n : Nat} (hv : Operand (s.thread p) w n)
  (he : iField w 43 4 = 0 ∧ iField w 32 8 = 0 ∧ iField w 40 3 < 4)
include hv he

theorem exec_vstart (ho : iOp w = 0x50) (hd : 8 ≤ iField w 52 4) : exec (.vstart p) s = .next (
    if 1023 < n then fault p 4 s
    else startIssue p (.vstart (engOf w) (BitVec.ofNat 10 n) ((s.thread p).tr (iField w 52 4))) s) := by
  obtain ⟨hval, hn⟩ := valOf_of_operand hv
  change execVstart p s = _
  rw [execVstart, issueOp_issues hi ho, if_pos (by simp [isT_fD hd, hval, okEng_of_fields he]), hn]
  rfl

theorem exec_vjump (ho : iOp w = 0x51) (hd : iField w 52 4 = 0) : exec (.vjump p) s = .next (
    if 1023 < n then fault p 4 s else startIssue p (.vjump (engOf w) (BitVec.ofNat 10 n)) s) := by
  obtain ⟨hval, hn⟩ := valOf_of_operand hv
  change execVjump p s = _
  rw [execVjump, issueOp_issues hi ho, if_pos (by simp [none', fD, hd, hval, okEng_of_fields he]), hn]

theorem exec_vrate (ho : iOp w = 0x52) (hd : 8 ≤ iField w 52 4) : exec (.vrate p) s = .next (
    if 1 ≤ n ∧ n ≤ 20479 then fault p 4 s
    else startIssue p (.vrate (engOf w) (BitVec.ofNat 32 n) ((s.thread p).tr (iField w 52 4))) s) := by
  obtain ⟨hval, hn⟩ := valOf_of_operand hv
  have hword : valOf (s.thread p) w = BitVec.ofNat 32 n := by rw [← hn, BitVec.ofNat_toNat, BitVec.setWidth_eq]
  change execVrate p s = _
  rw [execVrate, issueOp_issues hi ho, if_pos (by simp [isT_fD hd, hval, okEng_of_fields he])]
  dsimp only
  rw [hn, hword]
  rfl

end

/-- A KPOST of good form goes on, with F set where its axis has no place for a target (R110). -/
theorem exec_kpost {s : State} {p : ThreadId} {w : BitVec 64} (hi : s.issues p w) {a : AxisId} (ho : iOp w = 0x54)
    (hd : 8 ≤ iField w 52 4) (hz : iField w 43 9 = 0 ∧ iField w 0 40 = 0 ∧ iField w 40 3 = a.val)
    (hip : (s.thread p).ip ≠ 0x3FFF) :
    exec (.kpost p) s = .next (
      if 256 ≤ (s.axis a).tgts.length then
        s.completed p { s.thread p with f := true, ip := (s.thread p).ip + 1 }
      else (s.setAxis a { s.axis a with
        tgts := (s.axis a).tgts ++ [⟨p, signed 48 ((s.thread p).tr (iField w 52 4)).toNat, .posted⟩] }).completed p
          { s.thread p with f := false, ip := (s.thread p).ip + 1 }) := by
  obtain ⟨hfields, hrest, hax⟩ := hz
  have h43 : iField w 43 5 = 0 ∧ iField w 48 4 = 0 := by
    have hsplit : iField w 43 9 = iField w 43 5 + 32 * iField w 48 4 := iField_add w 43 5 4
    omega
  have hid : (Fin.ofNat 8 (iField w 40 3) : AxisId) = a := by simp [hax]
  change execKpost p s = _
  rw [execKpost, issueOp_issues hi ho, if_pos (by simp [isT_fD hd, fA, none', zero, h43, hrest]), hid, if_neg hip]
  simp only [goOn_eq _ hip]
  split
  case isTrue h => simp [h, complete_eq, Thread.step]
  case isFalse h =>
    simp [h, complete_eq, Thread.step, fD]
    rfl

/-- A format E issue of good form whose spoke is out of range faults with RANGE (R102). -/
theorem issueE_of_range {s : State} {p : ThreadId} {w : BitVec 64} (hi : s.issues p w) {op : Nat}
    {ok : BitVec 64 → Bool} {f : SpokeId → DT → BitVec 64 → State → State} (ho : iOp w = op)
    (hd : 8 ≤ iField w 52 4) (hs : okSpoke w = true) (hok : ok w = true) (hr : 63 < spokeOf (s.thread p) w) :
    issueE p op ok f s = .next (fault p 4 s) := by
  rw [issueE, issueOp_issues hi ho, if_pos (by simp [isT_fD hd, hs, hok]), if_pos hr]

/-- Settles O25: each instruction comes to one try of what it builds from its fields, or to its fault. -/
theorem issueCompletes : Obligations.IssueCompletes := by
  unfold Obligations.IssueCompletes
  and_intros
  · rintro s p w t i d ta rfl hi ho hd rfl hs hz hroom hnear hl hip
    refine ⟨_, exec_pulse_desc hi hd hs ho hz, ?_⟩
    have h := startIssue_near (raw := BitVec.ofNat 128 (pulseNum w)) hip hroom hnear hl
      (by rw [toNat_ofNum (pulseNum_lt w)]; exact pulseNum_lt w)
    rw [toNat_ofNum (pulseNum_lt w)] at h
    exact h
  · rintro s p w t i d ta rfl hi ho hd rfl hs hz hroom hfar hl hip
    exact ⟨_, exec_pulse_desc hi hd hs ho hz, startIssue_far hip hroom hfar hl
      (by rw [toNat_ofNum (pulseNum_lt w)]; exact pulseNum_lt w)⟩
  · rintro s p w t i d ta rfl hi ho hd rfl hs hz hroom hnear hl hip
    refine ⟨_, exec_level_desc hi hd hs ho hz, ?_⟩
    have h := startIssue_near (raw := BitVec.ofNat 128 (levelNum w)) hip hroom hnear hl
      (by rw [toNat_ofNum (levelNum_lt w)]; exact levelNum_lt w)
    rw [toNat_ofNum (levelNum_lt w)] at h
    exact h
  · rintro s p w t i d ta raw rfl hi ho hd rfl hs ⟨h39, ha, hrest⟩ h2 rfl ⟨hform, hkind, hstart⟩ hroom hnear
      hl hip
    have hf : EmitForm w := ⟨hrest, by rw [if_neg (by omega)]; exact ha⟩
    have hnone : emitFault s p w = none := by simp [emitFault, hform, hkind, hstart, h39]
    have hdesc : emitDesc s p w = s.template p (iField w 0 14) := by simp [emitDesc, h39]
    have hx := exec_emit hi ho (by omega) hs hf h2
    rw [hnone, hdesc, hd, thread_tr] at hx
    exact ⟨_, hx, startIssue_near hip hroom hnear hl (lt_of_dStart hstart)⟩
  · rintro s p w t i d ta raw rfl hi ho hd rfl hs ⟨h39, ha, hrest⟩ h2 rfl ⟨hform, hkind, hstart⟩ hgw hroom
      hnear hl hip
    have hf : EmitForm w := ⟨hrest, by rw [if_pos h39]; exact ha⟩
    have hnone : emitFault s p w = none := by
      have hfits : ¬ 2 ^ 26 ≤ ((s.thread p).gr (fA w)).toNat := not_le.2 hgw
      simp only [emitFault, if_neg hform]
      rw [if_neg (by simp [hkind, hstart]), if_neg fun h => hfits h.2]
    have hdesc : emitDesc s p w =
        dPut (s.template p (iField w 0 14)) 18 26 ((s.thread p).gr (iField w 48 4)).toNat := by simp [emitDesc, h39, fA]
    have hx := exec_emit hi ho (by omega) hs hf h2
    rw [hnone, hdesc, hd, thread_tr] at hx
    have hlt := lt_of_dStart hstart
    have hput := putWidth (s.template p (iField w 0 14)) hgw
    have h := startIssue_near hip hroom hnear hl
      (raw := dPut (s.template p (iField w 0 14)) 18 26 ((s.thread p).gr (iField w 48 4)).toNat)
      (by rw [hput]; omega)
    rw [hput] at h
    exact ⟨_, hx, h⟩
  · rintro s p w t i d ta rfl hi ho hd rfl hs hz hroom hip
    obtain ⟨hchan, hmirror, hused, hth⟩ := startIssue_anchor (s := s) (ta := (s.thread p).t.get d) hip hroom
    exact ⟨_, exec_anchor hi hd hs ho hz, hmirror, hused, hchan, hth⟩
  · rintro s p w t i d ta rfl hi ho hd rfl hs hz ⟨hc, hchan⟩ hset hl hip
    have henter : enter p (.cancel i ((s.thread p).t.get d)) s =
        s.setSpoke i { s.spoke i with cancel := some ((s.thread p).t.get d), cancelState := 1 } := by
      simp [enter, sendCancel, hc, hchan, arriveCancel, hset, setCancel]
    rw [exec_cancel hi hd hs ho hz, startIssue_of_entered (m := .cancel i _) hip rfl (decide_eq_true (by simp [hchan]))
      hl (by rw [henter]; rfl), henter]
  · rintro s p w t i d ta rfl hi ho hd rfl hs hz ⟨hroom, hchan⟩ hl hip
    have henter : enter p (.cancel i ((s.thread p).t.get d)) s =
        s.setSpoke i { s.spoke i with chan := (s.spoke i).chan ++ [.cancel ((s.thread p).t.get d) p] } := by
      simp [enter, sendCancel, hchan]
    rw [exec_cancel hi hd hs ho hz, startIssue_of_entered (m := .cancel i _) hip rfl (decide_eq_true hroom) hl
      (by rw [henter]; rfl), henter]
  · rintro s p w t v d ta n rfl hi ho hd rfl ⟨h43, h32, h40⟩ hv hn hroom hl hip
    rw [exec_vstart hi hv ⟨h43, h32, by omega⟩ ho (by omega), if_neg (by omega), engOf_eq h40, hd, thread_tr,
      startIssue_of_entered (m := .vstart v _ _) hip rfl (decide_eq_true hroom) hl rfl]
    rfl
  · rintro s p w t v d ta n rfl hi ho hd rfl ⟨h43, h32, h40⟩ hv hn hroom hl hip
    rw [exec_vrate hi hv ⟨h43, h32, by omega⟩ ho (by omega), if_neg (by omega), engOf_eq h40, hd, thread_tr,
      startIssue_of_entered (m := .vrate v _ _) hip rfl (decide_eq_true hroom) hl rfl]
    rfl
  · rintro s p w t v n rfl hi ho hd ⟨h43, h32, h40⟩ hv hn hroom hip
    rw [exec_vjump hi hv ⟨h43, h32, by omega⟩ ho hd, if_neg (by omega), engOf_eq h40,
      startIssue_of_entered (m := .vjump v _) hip rfl (decide_eq_true hroom) rfl rfl]
    rfl
  · rintro s p w t v d ta rfl hi ho hd rfl hv hz hroom hl hip
    rw [exec_vstop hi hip ho hd hv hz, ← startIssue_of_below _ hip,
      startIssue_of_entered (m := .vstop v _) hip rfl (hasRoom_vstop hroom) hl rfl]
    rfl
  · rintro s p w t a d rfl hi ho hd hz hroom hip
    rw [exec_kpost hi ho (by omega) hz hip, if_neg (by omega), hd, thread_tr]
  · rintro s p w t a rfl hi ho hd hz hfull hip
    rw [exec_kpost hi ho hd hz hip, if_pos hfull]
  · rintro s p w t c rfl hi ⟨hd, ha, hs⟩ hc hr
    simp only [Prod.mk.injEq, List.mem_cons, List.not_mem_nil, or_false] at hc
    rcases hc with ⟨⟨rfl, ho⟩, hz⟩ | ⟨⟨rfl, ho⟩, hlvl, hz⟩ | ⟨⟨rfl, ho⟩, h39, hz⟩ |
      ⟨⟨rfl, ho⟩ | ⟨rfl, ho⟩, hz⟩
    · change execPulse p s = _
      rw [execPulse, issueE_of_range hi ho hd hs (by simp [fA, none', zero, ha, hz]) hr]
    · change execLevel p s = _
      rw [execLevel, issueE_of_range hi ho hd hs (by simp [fA, none', zero, ha, hz, hlvl]) hr]
    · change execEmit p s = _
      rw [execEmit, issueE_of_range hi ho hd hs (by simp [fA, none', zero, ha, hz, h39]) hr]
    · change execAnchor p s = _
      rw [execAnchor, issueE_of_range hi ho hd hs (by simp [fA, none', zero, ha, hz]) hr]
    · change execCancel p s = _
      rw [execCancel, issueE_of_range hi ho hd hs (by simp [fA, none', zero, ha, hz]) hr]
  · rintro s p w t i raw cause rfl hi ho hd hs hf h2 rfl hcause
    have hfault : emitFault s p w = some cause := by
      rcases hcause with ⟨hform, rfl⟩ | ⟨hform, htem, rfl⟩ | ⟨hform, hkind, hstart, h39, hgw, rfl⟩
      · simp only [emitFault, if_pos hform]
      · simp only [emitFault, if_neg hform, if_pos htem]
      · simp only [emitFault, if_neg hform]
        rw [if_neg (by simp [hkind, hstart]), if_pos ⟨h39, hgw⟩]
    rw [exec_emit hi ho hd hs hf h2, hfault]
  · rintro s p w t n rfl hi he hv
    refine ⟨fun ho hd hn => ?_, fun ho hd hn => ?_, fun ho hd hlo hhi => ?_⟩
    · rw [exec_vstart hi hv he ho hd, if_pos hn]
    · rw [exec_vjump hi hv he ho hd, if_pos hn]
    · rw [exec_vrate hi hv he ho hd, if_pos ⟨hlo, hhi⟩]

end Sys2Proof.Proofs
end

section
/-! Commands about one instance (O9): the instances of a unit beside one of them, and what keeps those. -/

namespace Sys2Proof.Proofs

open Sys2Proof.Machine Sys2Proof.Laws

/-- Every part of the state but the one that holds the instances of a unit; the event path's latch, which Pacer holds,
is never among what they are. -/
def besideUnit (w : Which) : Parts where
  pending := true
  clock := true
  dt := true
  dtRuns := true
  phase := true
  shadow := true
  imm := true
  isl := true
  commit := true
  snap := true
  occs := true
  outbox := true
  posted := true
  mem := true
  flash := true
  spokes := w matches .thread _ | .engine _ | .axis _ | .port _
  pacer := w matches .spoke _ | .engine _ | .axis _ | .port _
  latch := true
  engines := w matches .spoke _ | .thread _ | .axis _ | .port _
  crank := w matches .spoke _ | .thread _ | .engine _ | .port _
  truing := true
  hub := true
  noon := true
  ports := w matches .spoke _ | .thread _ | .engine _ | .axis _
  fw := true
  stoker := true
  pair := true
  hb := true
  dyn := true

/-- The state with one instance put to its reset value, and with it what its unit holds beside the instances. -/
def hideOne : Which → State → State
  | .spoke i, s => s.setSpoke i Spoke.reset
  | .thread p, s => { s with pacer := { Pacer.reset with th := s.pacer.th.set p.val Thread.reset p.isLt } }
  | .engine v, s =>
    { s with engines := (s.engines.map fun e => { e with fill := none }).set v.val Engine.reset v.isLt }
  | .axis a, s => { s with crank := { Crank.reset with axes := s.crank.axes.set a.val Axis.reset a.isLt } }
  | .port c, s => s.setPort c Port.reset

/-- The other instances of an instance's unit. -/
@[simp] abbrev others (w : Which) (s : State) : State := hideOne w (s.outside (besideUnit w))

@[simp] theorem besideUnit_common (w : Which) :
    (besideUnit w).pending = true ∧ (besideUnit w).clock = true ∧ (besideUnit w).dt = true ∧
      (besideUnit w).dtRuns = true ∧ (besideUnit w).phase = true ∧ (besideUnit w).shadow = true ∧
      (besideUnit w).imm = true ∧ (besideUnit w).isl = true ∧ (besideUnit w).commit = true ∧
      (besideUnit w).snap = true ∧ (besideUnit w).occs = true ∧ (besideUnit w).outbox = true ∧
      (besideUnit w).posted = true ∧ (besideUnit w).mem = true ∧ (besideUnit w).flash = true ∧
      (besideUnit w).latch = true ∧ (besideUnit w).truing = true ∧ (besideUnit w).hub = true ∧
      (besideUnit w).noon = true ∧ (besideUnit w).fw = true ∧ (besideUnit w).stoker = true ∧
      (besideUnit w).pair = true ∧ (besideUnit w).hb = true ∧ (besideUnit w).dyn = true := by
  and_intros <;> rfl

@[simp] theorem besideUnit_spoke (i : SpokeId) :
    (besideUnit (.spoke i)).spokes = false ∧ (besideUnit (.spoke i)).pacer = true ∧
      (besideUnit (.spoke i)).engines = true ∧ (besideUnit (.spoke i)).crank = true ∧
      (besideUnit (.spoke i)).ports = true := by and_intros <;> rfl
@[simp] theorem besideUnit_thread (p : ThreadId) :
    (besideUnit (.thread p)).spokes = true ∧ (besideUnit (.thread p)).pacer = false ∧
      (besideUnit (.thread p)).engines = true ∧ (besideUnit (.thread p)).crank = true ∧
      (besideUnit (.thread p)).ports = true := by and_intros <;> rfl
@[simp] theorem besideUnit_engine (v : EngineId) :
    (besideUnit (.engine v)).spokes = true ∧ (besideUnit (.engine v)).pacer = true ∧
      (besideUnit (.engine v)).engines = false ∧ (besideUnit (.engine v)).crank = true ∧
      (besideUnit (.engine v)).ports = true := by and_intros <;> rfl
@[simp] theorem besideUnit_axis (a : AxisId) :
    (besideUnit (.axis a)).spokes = true ∧ (besideUnit (.axis a)).pacer = true ∧ (besideUnit (.axis a)).engines = true ∧
      (besideUnit (.axis a)).crank = false ∧ (besideUnit (.axis a)).ports = true := by and_intros <;> rfl
@[simp] theorem besideUnit_port (c : PortId) :
    (besideUnit (.port c)).spokes = true ∧ (besideUnit (.port c)).pacer = true ∧ (besideUnit (.port c)).engines = true ∧
      (besideUnit (.port c)).crank = true ∧ (besideUnit (.port c)).ports = false := by and_intros <;> rfl

theorem get_of_set_eq {α : Type} {n : Nat} {u v : Vector α n} {i j : Fin n} {x : α}
    (h : u.set i.val x i.isLt = v.set i.val x i.isLt) (hj : j ≠ i) : u.get j = v.get j := by
  rw [← get_set_ne u i j x hj, h, get_set_ne v i j x hj]

/-- States with the same other instances of a unit differ in one at most. -/
theorem othersKept_of_others {w : Which} {s t : State} (h : others w t = others w s) : w.othersKept s t := by
  cases w with
  | spoke i => exact fun j hj => get_of_set_eq (congrArg State.spokes h) hj
  | thread p => exact fun j hj => get_of_set_eq (congrArg (fun u => u.pacer.th) h) hj
  | engine v =>
    intro j hj
    have hget := get_of_set_eq (congrArg State.engines h) hj
    have hmap (u : State) :
        (u.engines.map fun e => { e with fill := none }).get j = { u.engine j with fill := none } := by
      simp [State.engine, Vector.get]
    have he : ({ t.engine j with fill := none } : Engine) = { s.engine j with fill := none } := by
      rw [← hmap, ← hmap]; exact hget
    exact (congrArg (fun e : Engine => { e with fill := (t.engine j).fill }) he)
  | axis a => exact fun j hj => get_of_set_eq (congrArg (fun u => u.crank.axes) h) hj
  | port c => exact fun j hj => get_of_set_eq (congrArg State.ports h) hj

/-- A command leaves the other instances beside each of those it is about. -/
def LeavesOthers (c : Instr) : Prop := ∀ w ∈ actsOn c, ∀ s t, exec c s = .next t → others w t = others w s

/-- A command about one instance that ends in a next state. -/
theorem leavesOthers_of_next {c : Instr} {w : Which} {f : State → State} (ha : actsOn c = [w])
    (he : ∀ s, exec c s = .next (f s)) (hf : ∀ s, others w (f s) = others w s) : LeavesOthers c := by
  intro w' hw s t ht
  obtain rfl : w' = w := by simpa [ha] using hw
  obtain rfl : f s = t := by simpa [he] using ht
  exact hf s

section
variable {w : Which}

@[simp] theorem others_ite {c : Prop} [Decidable c] (a b : State) :
    others w (if c then a else b) = if c then others w a else others w b := by split <;> rfl

/-- What leaves the rest of the unit's part leaves the other instances. -/
theorem others_of_outside {s t : State} (h : t.outside (besideUnit w) = s.outside (besideUnit w)) :
    others w t = others w s := congrArg (hideOne w) h

theorem others_with_truing (s : State) (x : Truing) : others w { s with truing := x } = others w s :=
  others_of_outside (outside_with_truing _ _ (by simp))

theorem others_byHost {f : State → State} (h : ∀ s, others w (f s) = others w s) (s : State) :
    others w (byHost s f) = others w s := by
  unfold byHost
  split
  · exact h s
  · rfl

theorem others_foldl {α : Type} (f : State → α → State) (h : ∀ s a, others w (f s a) = others w s) (l : List α)
    (s : State) : others w (l.foldl f s) = others w s := by
  induction l generalizing s with
  | nil => rfl
  | cons a l ih => rw [List.foldl_cons, ih, h]

end

@[simp] theorem others_setSpoke (s : State) (i : SpokeId) (x : Spoke) :
    others (.spoke i) (s.setSpoke i x) = others (.spoke i) s := by
  simp [others, hideOne, State.outside, State.setSpoke]

@[simp] theorem others_setPort (s : State) (c : PortId) (x : Port) :
    others (.port c) (s.setPort c x) = others (.port c) s := by
  simp [others, hideOne, State.outside, State.setPort]

@[simp] theorem others_setEngine (s : State) (v : EngineId) (x : Engine) :
    others (.engine v) (s.setEngine v x) = others (.engine v) s := by
  simp [others, hideOne, State.outside, State.setEngine, Vector.map_set]

@[simp] theorem others_setAxis (s : State) (a : AxisId) (x : Axis) :
    others (.axis a) (s.setAxis a x) = others (.axis a) s := by
  simp [others, hideOne, State.outside, State.setAxis]

@[simp] theorem others_setThread (s : State) (p : ThreadId) (x : Thread) :
    others (.thread p) (s.setThread p x) = others (.thread p) s := by
  simp [others, hideOne, State.outside, State.setThread]

end Sys2Proof.Proofs
end

section
/-! Commands about one spoke (O9). -/

namespace Sys2Proof.Proofs

open Sys2Proof.Machine Sys2Proof.Laws

section
variable (i : SpokeId) (s : State)

/-! ### What acts on a spoke leaves the others -/

@[simp] theorem others_modSpoke (f : Spoke → Spoke) : others (.spoke i) (s.modSpoke i f) = others (.spoke i) s :=
  others_setSpoke ..

@[simp] theorem others_finishDesc (e : QDesc) (t : DT) :
    others (.spoke i) (finishDesc i e t s) = others (.spoke i) s := by
  simp [finishDesc]

@[simp] theorem others_arriveCancel (t : DT) (p : ThreadId) :
    others (.spoke i) (arriveCancel i t p s) = others (.spoke i) s := by
  simp [arriveCancel, setCancel]

@[simp] theorem others_takeCancels (l : List SpokeMsg) :
    others (.spoke i) (takeCancels i l s) = others (.spoke i) s := by
  induction l generalizing s with
  | nil => rfl
  | cons m l ih =>
    cases m with
    | desc d => rfl
    | cancel c p => rw [takeCancels, ih, others_arriveCancel, others_modSpoke]

@[simp] theorem others_drainCancels : others (.spoke i) (drainCancels i s) = others (.spoke i) s := by
  simp [drainCancels]

@[simp] theorem others_issueHostCancel (t : DT) : others (.spoke i) (issueHostCancel i t s) = others (.spoke i) s := by
  simp [issueHostCancel, setCancel]

@[simp] theorem others_rejectDesc (d : ChanDesc) (st : DT) (c : Nat) (pl : Bool) :
    others (.spoke i) (rejectDesc i d st c pl s) = others (.spoke i) s := by
  simp [rejectDesc]

@[simp] theorem others_truingWork (t : DT) : others (.spoke i) (truingWork i t s) = others (.spoke i) s := by
  simp [truingWork]

@[simp] theorem others_acceptDesc (e : QDesc) (a : Option QDesc) :
    others (.spoke i) (acceptDesc i e a s) = others (.spoke i) s := by
  cases a <;> simp [acceptDesc]

theorem others_takeDesc {w : BitVec 128 → Bool} {f : ChanDesc → State → State}
    (hf : ∀ d t, others (.spoke i) (f d t) = others (.spoke i) t) :
    others (.spoke i) (takeDesc i w f s) = others (.spoke i) s := by
  rw [takeDesc]
  split
  · split
    · rw [others_drainCancels, hf, others_modSpoke]
    · rfl
  · rfl

@[simp] theorem others_enterDesc (k : Kind) : others (.spoke i) (enterDesc i k s) = others (.spoke i) s := by
  refine others_takeDesc i s fun d t => ?_
  dsimp only
  split <;> simp only [others_rejectDesc, others_acceptDesc]

@[simp] theorem others_noteDrive (sp : Spoke) (lvl : Drv) (t : DT) :
    others (.spoke i) (noteDrive i sp lvl t s) = others (.spoke i) s := by
  unfold noteDrive noteOwn
  repeat' split
  all_goals simp

@[simp] theorem others_suppressEdge (t : DT) : others (.spoke i) (suppressEdge i t s) = others (.spoke i) s := by
  simp [suppressEdge]

@[simp] theorem others_spokeEdge (lvl : Drv) (t : DT) (tx : Nat) :
    others (.spoke i) (spokeEdge i lvl t tx s) = others (.spoke i) s := by
  simp [spokeEdge]

@[simp] theorem others_runEdge (e : QDesc) (lvl : Drv) :
    others (.spoke i) (runEdge i e lvl s) = others (.spoke i) s := by
  simp [runEdge]

@[simp] theorem others_putRecord (d : DT) (edge typ tag : Nat) :
    others (.spoke i) (putRecord i d edge typ tag s) = others (.spoke i) s := by
  simp [putRecord]

@[simp] theorem others_settleWindows : others (.spoke i) (settleWindows i s) = others (.spoke i) s := by
  refine (others_foldl _ (fun s w => ?_) _ _).trans (others_modSpoke ..)
  split <;> simp

@[simp] theorem others_closeWindow (e : QDesc) (t : DT) (c : Bool) :
    others (.spoke i) (closeWindow i e t c s) = others (.spoke i) s := by
  simp [closeWindow]

@[simp] theorem others_cutPulses (t : DT) (e : QDesc) :
    others (.spoke i) (cutPulses i t e s) = others (.spoke i) s := by
  simp [cutPulses]

@[simp] theorem others_cutDesc (t : DT) (e : QDesc) : others (.spoke i) (cutDesc i t e s) = others (.spoke i) s := by
  unfold cutDesc
  repeat' split
  all_goals simp

@[simp] theorem others_markSeen (e : QDesc) : others (.spoke i) (markSeen i e s) = others (.spoke i) s := by
  simp [markSeen]

@[simp] theorem others_windowEdge (e : QDesc) (rising : Bool) (d : DT) :
    others (.spoke i) (windowEdge i e rising d s) = others (.spoke i) s := by
  unfold windowEdge
  dsimp only
  repeat' split
  all_goals simp

@[simp] theorem others_ceEdge (v : EngineId) (st : Strobe) (rising : Bool) (d : DT) :
    others (.spoke i) (ceEdge v i st rising d s) = others (.spoke i) s := by
  simp [ceEdge]

@[simp] theorem others_recordCrossing (rising : Bool) :
    others (.spoke i) (recordCrossing i rising s) = others (.spoke i) s := by
  unfold recordCrossing
  dsimp only
  repeat' split
  all_goals simp

@[simp] theorem others_crossing (rising : Bool) : others (.spoke i) (crossing i rising s) = others (.spoke i) s := by
  simp [crossing]

@[simp] theorem others_noteNet (d : DT) (rising : Bool) :
    others (.spoke i) (noteNet i d rising s) = others (.spoke i) s := by
  refine (others_foldl _ (fun s e => ?_) _ _).trans (others_modSpoke ..)
  simp

end

set_option Elab.async false

/-! ### The commands -/

/-- Descriptors enter, and the retiring copy goes. -/
theorem leavesOthers_entry (i : SpokeId) :
    LeavesOthers (.retireHoldExpiry i) ∧ LeavesOthers (.anchorDescriptor i) ∧ LeavesOthers (.pulseDescriptor i) ∧
      LeavesOthers (.burstDescriptor i) ∧ LeavesOthers (.trainDescriptor i) ∧ LeavesOthers (.levelDescriptor i) ∧
      LeavesOthers (.windowDescriptor i) ∧ LeavesOthers (.descriptorKindInvalid i) := by
  have henter {c : Instr} (k : Kind) (ha : actsOn c = [.spoke i]) (he : ∀ s, exec c s = .next (enterDesc i k s)) :
      LeavesOthers c := leavesOthers_of_next ha he fun s => others_enterDesc i s k
  refine ⟨?_, ?_, henter .pulse rfl fun _ => rfl, henter .burst rfl fun _ => rfl, henter .train rfl fun _ => rfl,
    henter .level rfl fun _ => rfl, henter .window rfl fun _ => rfl, ?_⟩
  · refine leavesOthers_of_next (w := .spoke i) rfl (fun _ => rfl) fun s => ?_
    repeat' split
    all_goals simp
  · refine leavesOthers_of_next (w := .spoke i) rfl (fun _ => rfl) fun s => others_takeDesc i s fun d t => ?_
    split <;> simp
  · exact leavesOthers_of_next (w := .spoke i) rfl (fun _ => rfl) fun s =>
      others_takeDesc i s fun d t => others_rejectDesc ..

/-- Edges, windows, crossings and mode changes. -/
theorem leavesOthers_work (i : SpokeId) :
    LeavesOthers (.leadingEdge i) ∧ LeavesOthers (.trailingEdge i) ∧ LeavesOthers (.levelChange i) ∧
      LeavesOthers (.windowOpen i) ∧ LeavesOthers (.windowClose i) ∧ (∀ uv, LeavesOthers (.pinCrossing i uv)) ∧
      LeavesOthers (.modeChange i) ∧ LeavesOthers (.modeChangeIntervalEnd i) ∧
      (∀ m, LeavesOthers (.evidenceMismatch i m)) := by
  and_intros <;> intros
  all_goals refine leavesOthers_of_next (w := .spoke i) rfl (fun _ => rfl) fun s => ?_
  all_goals try dsimp only
  all_goals (repeat' split) <;> simp

theorem leavesOthers_cancels (i : SpokeId) : LeavesOthers (.spokeCancelGo i) ∧ LeavesOthers (.cancelDue i) := by
  constructor
  · refine leavesOthers_of_next (w := .spoke i) rfl (fun _ => rfl) (others_byHost fun s => ?_)
    dsimp only
    split <;> simp
  · refine leavesOthers_of_next (w := .spoke i) rfl (fun _ => rfl) fun s => ?_
    repeat' split
    · refine (others_of_outside (outside_raise _ _ _ _ _ _ rfl rfl)).trans ?_
      exact (others_foldl _ (fun s e => others_cutDesc i s _ e) _ _).trans (others_modSpoke ..)
    all_goals rfl

/-- Pacer's count of a spoke's places, and Truing's full run. -/
theorem leavesOthers_otherUnits (i : SpokeId) :
    LeavesOthers (.placeFreed i) ∧ LeavesOthers (.fullRunStart i) ∧ LeavesOthers (.fullRunEnd i) := by
  refine ⟨?_, ?_, ?_⟩
  all_goals refine leavesOthers_of_next (w := .spoke i) rfl (fun _ => rfl) fun s => ?_
  all_goals dsimp only
  all_goals split
  · exact (others_of_outside (outside_with_pacer _ _ rfl)).trans (others_modSpoke ..)
  · rfl
  · refine (others_modSpoke ..).trans (others_of_outside ?_)
    rw [outside_State_modItem _ _ _ rfl, outside_State_modReq _ _ _ rfl]
    exact outside_forEach _ _ (fun k s => outside_stopBurst _ _ rfl) s
  · rfl
  · refine (others_of_outside (outside_settle _ _ _ rfl rfl rfl)).trans ?_
    rw [others_ite, others_with_truing, ite_self]
    refine (others_of_outside (outside_raise _ _ _ _ _ _ rfl rfl)).trans ?_
    refine (others_of_outside (outside_State_modItem _ _ _ rfl)).trans ?_
    exact (others_modSpoke ..).trans (others_of_outside (outside_State_setReq _ _ _ rfl))
  · rfl

end Sys2Proof.Proofs
end

section
/-! Commands about one engine, with a spoke or without (O9). -/

namespace Sys2Proof.Proofs

open Sys2Proof.Machine Sys2Proof.Laws

set_option Elab.async false

section
variable (v : EngineId) (s : State)

/-! ### What acts on an engine leaves the others -/

@[simp] theorem others_modEngine (f : Engine → Engine) : others (.engine v) (s.modEngine v f) = others (.engine v) s :=
  others_setEngine ..

/-- Of another engine, how far its stream fill has come is of no account. -/
theorem others_fill (u : EngineId) (x : Option Fill) :
    others (.engine v) (s.modEngine u fun en => { en with fill := x }) = others (.engine v) s := by
  have hmap : (s.engines.set u.val { s.engine u with fill := x } u.isLt).map (fun e => { e with fill := none }) =
      s.engines.map fun e => { e with fill := none } := by
    rw [Vector.map_set]
    refine Vector.ext fun k hk => ?_
    by_cases h : u.val = k
    · subst h
      simp [State.engine, Vector.get]
    · rw [Vector.getElem_set_ne _ _ h]
  simp [State.outside, hideOne, State.modEngine, State.setEngine, hmap]

@[simp] theorem others_syncFills : others (.engine v) (syncFills s) = others (.engine v) s := by
  refine others_foldl _ (fun t u => ?_) _ _
  split
  · exact others_fill v t u _
  · rfl

@[simp] theorem others_stopEngine (cause : Nat) : others (.engine v) (stopEngine v cause s) = others (.engine v) s := by
  refine (others_modEngine ..).trans ((others_of_outside (outside_State_setIsland _ _ _ rfl)).trans ?_)
  refine (others_of_outside (outside_forEach _ _ (fun i t => ?_) _)).trans (others_syncFills v s)
  split
  · exact outside_startGap _ _ rfl
  · rfl

@[simp] theorem others_startPlay (n : Nat) (idle : Bool) (t : DT) :
    others (.engine v) (startPlay v n idle t s) = others (.engine v) s := by
  simp [startPlay]

@[simp] theorem others_dropMsg (m : EngMsg) : others (.engine v) (dropMsg v m s) = others (.engine v) s := by
  simp [dropMsg]

@[simp] theorem others_takeStart (seg : BitVec 10) (ta : DT) :
    others (.engine v) (takeStart v seg ta s) = others (.engine v) s := by
  simp [takeStart]

@[simp] theorem others_sayRate : others (.engine v) (sayRate v s) = others (.engine v) s := by
  simp [sayRate]

@[simp] theorem others_discardRates : others (.engine v) (discardRates v s) = others (.engine v) s := by
  simp [discardRates]

@[simp] theorem others_fixSeg (n plays : Nat) (j : Bool) :
    others (.engine v) (fixSeg v n plays j s) = others (.engine v) s := by
  simp [fixSeg]

@[simp] theorem others_fixIdle : others (.engine v) (fixIdle v s) = others (.engine v) s := by
  simp [fixIdle]

@[simp] theorem others_latch : others (.engine v) (latch v s) = others (.engine v) s := by
  unfold latch
  dsimp only
  repeat' split
  all_goals simp

@[simp] theorem others_boundary : others (.engine v) (boundary v s) = others (.engine v) s := by
  unfold boundary
  dsimp only
  repeat' split
  all_goals simp

@[simp] theorem others_skipOffset (t : DT) : others (.engine v) (skipOffset v t s) = others (.engine v) s := by
  simp [skipOffset]

@[simp] theorem others_skipGuard (t : DT) : others (.engine v) (skipGuard v t s) = others (.engine v) s := by
  simp [skipGuard]

@[simp] theorem others_playDrive (t : DT) (i : SpokeId) (st edge : Nat) :
    others (.engine v) (playDrive v t i st edge s) = others (.engine v) s := by
  unfold playDrive
  dsimp only
  repeat' split
  all_goals simp

@[simp] theorem others_playStrobe (t : DT) (i : SpokeId) (st edge strobe : Nat) :
    others (.engine v) (playStrobe v t i st edge strobe s) = others (.engine v) s := by
  unfold playStrobe
  dsimp only
  repeat' split
  all_goals simp

@[simp] theorem others_playSlot (t : DT) (vec : Nat) (i : SpokeId) :
    others (.engine v) (playSlot v t vec i s) = others (.engine v) s := by
  simp [playSlot]

@[simp] theorem others_compareFail_engine (i : SpokeId) (st : Strobe) (high : Bool) :
    others (.engine v) (compareFail v i st high s) = others (.engine v) s := by
  simp [compareFail]

@[simp] theorem others_compareFail_spoke (i : SpokeId) (st : Strobe) (high : Bool) :
    others (.spoke i) (compareFail v i st high s) = others (.spoke i) s := by
  simp [compareFail]

@[simp] theorem others_slotDrive (i : SpokeId) (d : Drv) (t : DT) :
    others (.spoke i) (slotDrive i d t s) = others (.spoke i) s := by
  simp [slotDrive]

@[simp] theorem others_vectorStep : others (.engine v) (vectorStep v s) = others (.engine v) s := by
  unfold vectorStep
  dsimp only
  split
  · refine (others_modEngine ..).trans ((others_foldl _ (fun t i => ?_) _ _).trans ((others_modEngine ..).trans ?_))
    · dsimp only
      split
      · exact others_playSlot ..
      · rfl
    · exact (others_of_outside (outside_State_setIsland _ _ _ rfl)).trans (others_sayRate v s)
  · rfl

end

/-! ### The commands -/

/-- A vector start first does what falls due there (R162). -/
theorem others_vectorStart (v : EngineId) (s : State) :
    others (.engine v) (latchStep v s) = others (.engine v) s ∧
      others (.engine v) (boundaryStep v s) = others (.engine v) s ∧
      others (.engine v) (stopStep v s) = others (.engine v) s ∧
      others (.engine v) (rateStep v s) = others (.engine v) s := by
  unfold latchStep boundaryStep stopStep rateStep
  dsimp only
  and_intros
  all_goals (repeat' split) <;> simp

/-- Starts, stops, rates, segments and vectors. -/
theorem leavesOthers_engine (v : EngineId) :
    LeavesOthers (.engineStart v) ∧ LeavesOthers (.vectorStart v) ∧ LeavesOthers (.latchPoint v) ∧
      LeavesOthers (.segmentBoundary v) ∧ LeavesOthers (.jumpArrival v) ∧ LeavesOthers (.engineStop v) ∧
      LeavesOthers (.rateChange v) ∧ LeavesOthers (.streamFeedEntry v) ∧ LeavesOthers (.failFirstRearm v) := by
  refine ⟨?_, leavesOthers_of_next (f := vectorStep v) rfl (fun _ => rfl) (others_vectorStep v),
    leavesOthers_of_next (f := latchStep v) rfl (fun _ => rfl) fun s => (others_vectorStart v s).1,
    leavesOthers_of_next (f := boundaryStep v) rfl (fun _ => rfl) fun s => (others_vectorStart v s).2.1, ?_,
    leavesOthers_of_next (f := stopStep v) rfl (fun _ => rfl) fun s => (others_vectorStart v s).2.2.1,
    leavesOthers_of_next (f := rateStep v) rfl (fun _ => rfl) fun s => (others_vectorStart v s).2.2.2, ?_,
    leavesOthers_of_next rfl (fun _ => rfl) (others_byHost fun s => others_modEngine v s _)⟩
  all_goals refine leavesOthers_of_next (w := .engine v) rfl (fun _ => rfl) fun s => ?_
  · (repeat' split) <;> simp
  all_goals dsimp only
  all_goals (repeat' split) <;> simp

/-- A drive action and a strobe are about an engine and a spoke. -/
theorem leavesOthers_slots (v : EngineId) (i : SpokeId) :
    LeavesOthers (.slotDriveAction v i) ∧ LeavesOthers (.slotStrobe v i) := by
  have hboth {c : Instr} {f : State → State} (ha : actsOn c = [.engine v, .spoke i])
      (he : ∀ s, exec c s = .next (f s)) (hf : ∀ s, others (.engine v) (f s) = others (.engine v) s ∧
        others (.spoke i) (f s) = others (.spoke i) s) : LeavesOthers c := by
    intro w hw s t ht
    obtain rfl : f s = t := by simpa [he] using ht
    rw [ha, List.mem_cons, List.mem_singleton] at hw
    rcases hw with rfl | rfl
    · exact (hf s).1
    · exact (hf s).2
  constructor
  all_goals refine hboth rfl (fun _ => rfl) fun s => ?_
  all_goals dsimp only
  all_goals (repeat' split) <;> simp

end Sys2Proof.Proofs
end

section
/-! Commands about one axis (O9). -/

namespace Sys2Proof.Proofs

open Sys2Proof.Machine Sys2Proof.Laws

set_option Elab.async false

section
variable (a : AxisId) (s : State)

/-! ### What acts on an axis leaves the others -/

@[simp] theorem others_modAxis (f : Axis → Axis) : others (.axis a) (s.modAxis a f) = others (.axis a) s :=
  others_setAxis ..

@[simp] theorem others_raiseAxis (c : Nat) (d : DT) : others (.axis a) (raiseAxis a c d s) = others (.axis a) s := by
  simp [raiseAxis]

@[simp] theorem others_noTime (g : Target) (c : Nat) (d : DT) :
    others (.axis a) (noTime a g c d s) = others (.axis a) s := by
  simp [noTime]

@[simp] theorem others_searchTarget (d : DT) (g : Target) :
    others (.axis a) (searchTarget a d g s) = others (.axis a) s := by
  unfold searchTarget
  dsimp only
  split <;> simp

@[simp] theorem others_clearAxis (cycle : Option Nat) :
    others (.axis a) (clearAxis cycle a s) = others (.axis a) s := by
  refine (others_foldl _ (fun t g => ?_) _ _).trans (others_modAxis ..)
  dsimp only
  repeat' split
  all_goals simp

@[simp] theorem others_seamAt (pa : Int × Nat) (g : Segment) :
    others (.axis a) (seamAt a pa g s) = others (.axis a) s := by
  simp [seamAt]

/-- What Crank holds beside its axes is no axis. -/
theorem others_with_crank (y : Crank) (h : y.axes = s.crank.axes) :
    others (.axis a) { s with crank := y } = others (.axis a) s := by
  simp [State.outside, hideOne, h]

end

/-! ### The commands -/

theorem leavesOthers_axis (a : AxisId) :
    LeavesOthers (.segmentGo a) ∧ LeavesOthers (.axisClear a) ∧ LeavesOthers (.segstart a) ∧ LeavesOthers (.seam a) ∧
      LeavesOthers (.dry a) ∧ LeavesOthers (.targetEntry a) ∧ LeavesOthers (.solveComplete a) ∧
      LeavesOthers (.targetTimeout a) := by
  refine ⟨leavesOthers_of_next (w := .axis a) rfl (fun _ => rfl) (others_byHost fun s => ?_),
    leavesOthers_of_next (w := .axis a) rfl (fun _ => rfl) (others_byHost fun s => others_clearAxis a s _),
    ?_, ?_, ?_, ?_, ?_, ?_⟩
  · dsimp only
    split
    · rfl
    · exact others_with_crank a s _ rfl
  all_goals refine leavesOthers_of_next (w := .axis a) rfl (fun _ => rfl) fun s => ?_
  all_goals try dsimp only
  all_goals (repeat' split) <;> simp

end Sys2Proof.Proofs
end

section
/-! Commands about one thread of Pacer (O9). -/

namespace Sys2Proof.Proofs

open Sys2Proof.Machine Sys2Proof.Laws

set_option Elab.async false

section
variable (p : ThreadId) (s : State)

/-! ### What acts on a thread leaves the others -/

@[simp] theorem others_modThread (f : Thread → Thread) : others (.thread p) (s.modThread p f) = others (.thread p) s :=
  others_setThread ..

/-- What Pacer holds beside its threads is no thread. -/
theorem others_with_pacer {y : Pacer} (h : y.th = s.pacer.th) :
    others (.thread p) { s with pacer := y } = others (.thread p) s := by
  simp [State.outside, hideOne, h]

@[simp] theorem others_fault (c : Nat) : others (.thread p) (fault p c s) = others (.thread p) s := by
  simp [fault]

@[simp] theorem others_complete (f : Thread → Thread) : others (.thread p) (complete p f s) = others (.thread p) s := by
  simp [complete]

@[simp] theorem others_goOn (f : Thread → Thread) : others (.thread p) (goOn p f s) = others (.thread p) s := by
  simp [goOn]

@[simp] theorem others_waitFor (on : WaitOn) : others (.thread p) (waitFor p on s) = others (.thread p) s := by
  simp [waitFor]

@[simp] theorem others_expire : others (.thread p) (expire p s) = others (.thread p) s := others_complete ..

@[simp] theorem others_releaseEvent (e : EventId) (dst : Option (Fin 8 × Fin 8)) :
    others (.thread p) (releaseEvent p e dst s) = others (.thread p) s := others_complete ..

@[simp] theorem others_takeMail (td ge : Fin 8) : others (.thread p) (takeMail p td ge s) = others (.thread p) s := by
  unfold takeMail
  split <;> simp

@[simp] theorem others_sayLate (ta : DT) : others (.thread p) (sayLate p ta s) = others (.thread p) s := by
  simp [sayLate]

@[simp] theorem others_placeMail (m : MailEnt) : others (.thread p) (placeMail p m s).1 = others (.thread p) s := by
  unfold placeMail
  dsimp only
  split <;> simp

@[simp] theorem others_takeAction (a : CtlAct) : others (.thread p) (takeAction p a s) = others (.thread p) s := by
  simp [takeAction]

@[simp] theorem others_refuseAction :
    others (.thread p) (refuseAction p s) = others (.thread p) s := others_modThread ..

theorem others_regAction (op : CtlOp) : others (.thread p) (regAction p op s) = others (.thread p) s := by
  unfold regAction issueAction
  dsimp only
  split
  · split <;> simp
  · exact others_with_pacer p s rfl

@[simp] theorem others_refuseState (a : CtlAct) : others (.thread p) (refuseState p a s) = others (.thread p) s := by
  simp [refuseState]

@[simp] theorem others_actionDone (a : CtlAct) : others (.thread p) (actionDone p a s) = others (.thread p) s := by
  simp [actionDone]

@[simp] theorem others_clate (b : Octets) : others (.thread p) (clate p b s) = others (.thread p) s := by
  simp [clate]

@[simp] theorem others_cbad (b : Octets) : others (.thread p) (cbad p b s) = others (.thread p) s := by
  simp [cbad]

@[simp] theorem others_cdone (b : Octets) : others (.thread p) (cdone p b s) = others (.thread p) s := by
  simp [cdone]

@[simp] theorem others_ringAction (op : CtlOp) (b : Octets) :
    others (.thread p) (ringAction p op b s) = others (.thread p) s := by
  simp [ringAction]

/-- A target taken is off its axis, and its thread goes on. -/
theorem others_takeTarget {a : AxisId} {td : Fin 8} {t : State} (h : takeTarget p a td s = some t) :
    others (.thread p) t = others (.thread p) s := by
  cases hg : (s.axis a).tgts.find? (fun g => g.thread == p) with
  | none =>
    simp only [takeTarget, hg, Option.some.injEq] at h
    rw [← h, others_complete]
  | some g =>
    have hoff (f : Axis → Axis) : others (.thread p) (s.modAxis a f) = others (.thread p) s :=
      others_of_outside (outside_State_modAxis _ _ _ rfl)
    cases hst : g.st with
    | time d | noTime =>
      simp only [takeTarget, hg, hst, Option.some.injEq] at h
      rw [← h, others_complete, hoff]
    | posted | waiting _ | solving _ _ _ => simp [takeTarget, hg, hst] at h

end

/-! ### Issues -/

section
variable (p : ThreadId) (s : State)

theorem others_arriveCancel_thread (i : SpokeId) (t : DT) :
    others (.thread p) (arriveCancel i t p s) = others (.thread p) s := by
  simp [arriveCancel]

@[simp] theorem others_setMirror (i : SpokeId) (d : DT) :
    others (.thread p) (setMirror i d s) = others (.thread p) s := others_with_pacer p s rfl

theorem others_enterChan (i : SpokeId) (raw : BitVec 128) (ta : DT) :
    others (.thread p) (enterChan p i raw ta s) = others (.thread p) s := by
  have hused (n : Nat) :
      others (.thread p) { s with pacer := { s.pacer with used := s.pacer.used.set i.val n i.isLt } } =
        others (.thread p) s := others_with_pacer p s rfl
  unfold enterChan
  dsimp only
  split
  · exact (others_of_outside (outside_sendDescs _ _ _ _ rfl)).trans (hused _)
  · exact (others_setMirror ..).trans ((others_of_outside (outside_sendDescs _ _ _ _ rfl)).trans (hused _))

/-- A trigger on its way stands in no mailbox yet. -/
theorem others_enterTrig (dest : BitVec 16) (ta : DT) (x : Word) :
    others (.thread p) (enterTrig p dest ta x s) = others (.thread p) s := by
  unfold enterTrig
  split
  · exact others_with_pacer p s rfl
  · exact others_of_outside (outside_sendTrigger _ _ _ _ _ _ rfl)
  · exact others_of_outside (outside_sendRingTrigger _ _ _ _ _ rfl rfl)
  · exact others_of_outside (outside_sendPairTrigger _ _ _ _ _ rfl rfl)

theorem others_enter (m : Issue) : others (.thread p) (enter p m s) = others (.thread p) s := by
  cases m with
  | desc i raw ta => exact others_enterChan p s i raw ta
  | anchor i ta => exact (others_setMirror ..).trans (others_of_outside (outside_sendDescs _ _ _ _ rfl))
  | cancel i ta =>
    simp only [enter, sendCancel, others_ite, others_arriveCancel_thread]
    split
    · rfl
    · exact others_of_outside (outside_State_modSpoke _ _ _ rfl)
  | trig dest ta x => exact others_enterTrig p s dest ta x
  | vstart v n ta | vjump v n | vrate v n ta | vstop v ta => simp [enter]

@[simp] theorem others_tryIssue (m : Issue) : others (.thread p) (tryIssue p m s) = others (.thread p) s := by
  simp only [tryIssue, others_ite, others_complete, others_modThread, others_enter, others_sayLate, ite_self]

@[simp] theorem others_startIssue (m : Issue) : others (.thread p) (startIssue p m s) = others (.thread p) s := by
  simp [startIssue, startWait]

end

/-! ### What every instruction shares -/

section
variable {p : ThreadId}

/-- What comes of a command leaves the other threads. -/
def LeavesThreads (p : ThreadId) (s : State) (o : Out) : Prop :=
  ∀ t, o = .next t → others (.thread p) t = others (.thread p) s

theorem leavesThreads_next {s t : State} (h : others (.thread p) t = others (.thread p) s) :
    LeavesThreads p s (.next t) := by
  rintro u ⟨⟩
  exact h

theorem leavesOthers_of_threads {c : Instr} (ha : actsOn c = [.thread p]) (h : ∀ s, LeavesThreads p s (exec c s)) :
    LeavesOthers c := by
  intro w hw s t ht
  obtain rfl : w = .thread p := by simpa [ha] using hw
  exact h s t ht

variable {s : State}

theorem leavesThreads_issueOp {op : Nat} {ok : BitVec 64 → Bool} {f : BitVec 64 → State → State}
    (hf : ∀ w, others (.thread p) (f w s) = others (.thread p) s) : LeavesThreads p s (issueOp p op ok f s) :=
  leavesThreads_next (by simp only [others_ite, hf, others_fault, ite_self])

theorem leavesThreads_issueE {op : Nat} {ok : BitVec 64 → Bool} {f : SpokeId → DT → BitVec 64 → State → State}
    (hf : ∀ i d w, others (.thread p) (f i d w s) = others (.thread p) s) : LeavesThreads p s (issueE p op ok f s) :=
  leavesThreads_issueOp fun w => by simp only [others_ite, others_fault, hf, ite_self]

theorem leavesThreads_takeCmd {mine : Nat → Bool} {f : Octets → State → State}
    (hf : ∀ b t, others (.thread p) (f b t) = others (.thread p) t) : LeavesThreads p s (takeCmd p mine f s) := by
  refine leavesThreads_next ?_
  (repeat' split) <;> simp [hf]

theorem others_startWait {f : State → State} (hf : ∀ s, others (.thread p) (f s) = others (.thread p) s) (s : State) :
    others (.thread p) (startWait p f s) = others (.thread p) s := by
  unfold startWait
  split
  · exact others_fault ..
  · exact hf s

theorem others_twoSlots {f : State → State} (hf : ∀ s, others (.thread p) (f s) = others (.thread p) s) (s : State) :
    others (.thread p) (twoSlots p f s) = others (.thread p) s := by
  unfold twoSlots secondSlot
  split
  · exact others_fault ..
  · split
    · exact hf s
    · rfl

end

/-! ### The commands -/

/-- Instructions on the registers of a thread. -/
theorem leavesOthers_registers (p : ThreadId) :
    LeavesOthers (.nop p) ∧ LeavesOthers (.add p) ∧ LeavesOthers (.sub p) ∧ LeavesOthers (.and p) ∧
      LeavesOthers (.or p) ∧ LeavesOthers (.xor p) ∧ LeavesOthers (.shl p) ∧ LeavesOthers (.shr p) ∧
      LeavesOthers (.mul p) ∧ LeavesOthers (.cmp p) ∧ LeavesOthers (.mov p) ∧ LeavesOthers (.movi p) ∧
      LeavesOthers (.addi p) ∧ LeavesOthers (.andi p) ∧ LeavesOthers (.cmpi p) ∧ LeavesOthers (.shli p) ∧
      LeavesOthers (.shri p) ∧ LeavesOthers (.tmov p) ∧ LeavesOthers (.tadd p) ∧ LeavesOthers (.tsub p) ∧
      LeavesOthers (.tcmp p) ∧ LeavesOthers (.taddi p) ∧ LeavesOthers (.taddg p) ∧ LeavesOthers (.tldl p) ∧
      LeavesOthers (.tldh p) ∧ LeavesOthers (.tget p) ∧ LeavesOthers (.tput p) ∧ LeavesOthers (.now p) := by
  and_intros
  all_goals refine leavesOthers_of_threads (p := p) rfl fun s => ?_
  all_goals simp only [exec, execNop, execAdd, execSub, execAnd, execOr, execXor, execShl, execShr, execMul, execCmp,
    execMov, execMovi, execAddi, execAndi, execCmpi, execShli, execShri, execTmov, execTadd, execTsub, execTcmp,
    execTaddi, execTaddg, execTldl, execTldh, execTget, execTput, execNow, aluR, aluI]
  all_goals exact leavesThreads_issueOp fun w => others_goOn ..

/-- Instructions of two slots on the registers, and INFO. -/
theorem leavesOthers_tables (p : ThreadId) :
    LeavesOthers (.tmac p) ∧ LeavesOthers (.tdiff p) ∧ LeavesOthers (.ldd p) ∧ LeavesOthers (.tld p) ∧
      LeavesOthers (.info p) := by
  have htwo (f : Thread → Thread) (s : State) : others (.thread p) (twoSlots p (goOn p f) s) = others (.thread p) s :=
    others_twoSlots (fun s => others_goOn p s f) s
  and_intros
  all_goals refine leavesOthers_of_threads (p := p) rfl fun s => ?_
  all_goals simp only [exec, execTmac, execTdiff, execLdd, execTld, execInfo]
  all_goals refine leavesThreads_issueOp fun w => ?_
  all_goals simp only [others_ite, others_fault, others_goOn, htwo, ite_self]

/-- Control flow, RAISE and KPOST. -/
theorem leavesOthers_control (p : ThreadId) :
    LeavesOthers (.halt p) ∧ LeavesOthers (.b p) ∧ LeavesOthers (.call p) ∧ LeavesOthers (.ret p) ∧
      LeavesOthers (.loop p) ∧ LeavesOthers (.endl p) ∧ LeavesOthers (.raise p) ∧ LeavesOthers (.kpost p) := by
  and_intros
  all_goals refine leavesOthers_of_threads (p := p) rfl fun s => ?_
  all_goals simp only [exec, execHalt, execB, execCall, execRet, execLoop, execEndl, execRaise, execKpost]
  all_goals refine leavesThreads_issueOp fun w => ?_
  all_goals (repeat' split) <;> simp

/-- WAITT, WAITE and RECV. -/
theorem leavesOthers_waits (p : ThreadId) :
    LeavesOthers (.waitt p) ∧ LeavesOthers (.waite p) ∧ LeavesOthers (.recv p) := by
  and_intros
  all_goals refine leavesOthers_of_threads (p := p) rfl fun s => ?_
  all_goals simp only [exec, execWaitt, execWaite, execRecv]
  all_goals refine leavesThreads_issueOp fun w => others_startWait (fun s => ?_) s
  all_goals simp only [others_ite, others_complete, others_releaseEvent, others_takeMail, others_expire, others_waitFor,
    ite_self]

theorem leavesOthers_waitq (p : ThreadId) : LeavesOthers (.waitq p) := by
  refine leavesOthers_of_threads rfl fun s => ?_
  simp only [exec, execWaitq]
  refine leavesThreads_issueOp fun w => ?_
  split
  · exact others_fault ..
  · refine others_startWait (fun s => ?_) s
    simp only [others_ite, others_complete, others_expire, others_waitFor, ite_self]

theorem leavesOthers_ktake (p : ThreadId) : LeavesOthers (.ktake p) := by
  refine leavesOthers_of_threads rfl fun s => ?_
  simp only [exec, execKtake]
  refine leavesThreads_issueOp fun w => others_startWait (fun s => ?_) s
  split
  next t ht => exact others_takeTarget p s ht
  next => exact others_waitFor ..

/-- What ends a wait, or tries an issue again. -/
theorem leavesOthers_releases (p : ThreadId) :
    LeavesOthers (.undefinedOp p) ∧ LeavesOthers (.issueRetry p) ∧ LeavesOthers (.waittExpiry p) ∧
      LeavesOthers (.waitDeadlineExpiry p) ∧ LeavesOthers (.waiteRelease p) ∧ LeavesOthers (.recvRelease p) ∧
      LeavesOthers (.waitqRelease p) ∧ LeavesOthers (.commitAnswer p) := by
  and_intros
  all_goals refine leavesOthers_of_threads (p := p) rfl fun s => ?_
  all_goals simp only [exec, execUndefinedOp, execIssueRetry, execWaittExpiry, execWaitDeadlineExpiry,
    execWaiteRelease, execRecvRelease, execWaitqRelease, execCommitAnswer]
  all_goals refine leavesThreads_next ?_
  all_goals (repeat' split) <;> simp

theorem leavesOthers_ktakeRelease (p : ThreadId) : LeavesOthers (.ktakeRelease p) := by
  refine leavesOthers_of_threads rfl fun s => leavesThreads_next ?_
  split
  · split
    next a td _ =>
      cases h : takeTarget p a td s with
      | none => rfl
      | some t => exact others_takeTarget p s h
    next => rfl
  · rfl

/-- Instructions that issue. -/
theorem leavesOthers_issues (p : ThreadId) :
    LeavesOthers (.pulse p) ∧ LeavesOthers (.level p) ∧ LeavesOthers (.emit p) ∧ LeavesOthers (.anchor p) ∧
      LeavesOthers (.cancel p) := by
  and_intros
  all_goals refine leavesOthers_of_threads (p := p) rfl fun s => ?_
  all_goals simp only [exec, execPulse, execLevel, execEmit, execAnchor, execCancel]
  all_goals refine leavesThreads_issueE fun i d w => ?_
  all_goals simp only [secondSlot, others_ite, others_fault, others_startIssue, ite_self]

/-- Messages to engines, and TRIG. -/
theorem leavesOthers_messages (p : ThreadId) :
    LeavesOthers (.vstart p) ∧ LeavesOthers (.vjump p) ∧ LeavesOthers (.vrate p) ∧ LeavesOthers (.vstop p) ∧
      LeavesOthers (.trig p) := by
  and_intros
  all_goals refine leavesOthers_of_threads (p := p) rfl fun s => ?_
  all_goals simp only [exec, execVstart, execVjump, execVrate, execVstop, execTrig]
  all_goals refine leavesThreads_issueOp fun w => ?_
  all_goals simp only [others_ite, others_fault, others_startIssue, ite_self]

/-- Entries of the command ring. -/
theorem leavesOthers_ringCommands (p : ThreadId) :
    LeavesOthers (.cmdNop p) ∧ LeavesOthers (.cmdPost p) ∧ LeavesOthers (.cmdStart p) ∧ LeavesOthers (.cmdStop p) ∧
      LeavesOthers (.cmdResume p) := by
  and_intros
  all_goals refine leavesOthers_of_threads (p := p) rfl fun s => ?_
  all_goals simp only [exec, execCmdNop, execCmdPost, execCmdStart, execCmdStop, execCmdResume]
  all_goals refine leavesThreads_takeCmd fun b t => ?_
  all_goals simp only [others_ite, others_cdone, others_placeMail, others_clate, others_ringAction, ite_self]

/-- Mailbox entries and control actions. -/
theorem leavesOthers_arrivals (p : ThreadId) :
    LeavesOthers (.mailboxEntry p) ∧ LeavesOthers (.thStart p) ∧ LeavesOthers (.thStop p) ∧
      LeavesOthers (.thResume p) ∧ LeavesOthers (.threadActionDue p) := by
  have hact {c : Instr} (op : CtlOp) (ha : actsOn c = [.thread p])
      (he : ∀ s, exec c s = .next (byHost s fun s => regAction p op s)) : LeavesOthers c :=
    leavesOthers_of_next ha he (others_byHost fun s => others_regAction p s op)
  refine ⟨leavesOthers_of_threads rfl fun s => leavesThreads_next ?_, hact .start rfl fun _ => rfl,
    hact .stop rfl fun _ => rfl, hact .resume rfl fun _ => rfl,
    leavesOthers_of_threads rfl fun s => leavesThreads_next ?_⟩
  · have hgone (l : List MailIn) : others (.thread p) { s with pacer := { s.pacer with mail := l } } =
        others (.thread p) s := others_with_pacer p s rfl
    dsimp only
    (repeat' split)
    · rfl
    · exact (others_placeMail ..).trans (hgone _)
    · exact (others_of_outside (outside_lateAt _ _ _ rfl rfl)).trans (hgone _)
    · rfl
  · dsimp only
    (repeat' split) <;> simp

end Sys2Proof.Proofs
end

section
/-! Commands about one Chain port (O9). -/

namespace Sys2Proof.Proofs

open Sys2Proof.Machine Sys2Proof.Laws

set_option Elab.async false

section
variable (c : PortId) (s : State)

/-! ### Frames of a port -/

@[simp] theorem others_modPort (f : Port → Port) : others (.port c) (s.modPort c f) = others (.port c) s :=
  others_setPort ..

@[simp] theorem others_leave (m : Nat × Octets) : others (.port c) (leave c m s) = others (.port c) s := by
  unfold leave
  split <;> exact others_modPort ..

@[simp] theorem others_sendWaiting : others (.port c) (sendWaiting c s) = others (.port c) s := by
  unfold sendWaiting
  split
  · rfl
  · exact (others_foldl _ (fun t m => others_leave c t m) _ _).trans (others_modPort ..)

@[simp] theorem others_sendFrame (ty : Nat) (pdu : Octets) :
    others (.port c) (sendFrame c ty pdu s) = others (.port c) s :=
  (others_sendWaiting ..).trans (others_modPort ..)

@[simp] theorem others_sendPdu (ty flags : Nat) (body : Octets) :
    others (.port c) (sendPdu c ty flags body s) = others (.port c) s :=
  (others_sendFrame ..).trans (others_modPort ..)

@[simp] theorem others_sendToPort (flags : Nat) (d : DT) (pdu : Octets) :
    others (.port c) (sendToPort c flags d pdu s) = others (.port c) s := by
  simp [sendToPort]

@[simp] theorem others_mirror (pdu : Octets) (d : DT) : others (.port c) (mirror c pdu d s) = others (.port c) s := by
  simp [mirror]

@[simp] theorem others_badPdu : others (.port c) (badPdu c s) = others (.port c) s := by
  simp [badPdu]

/-! ### Freewheel's frames of a port's pair -/

theorem others_sentFrame {f : Frame} (h : f.pair = c) (out : Frame) :
    others (.port c) (sentFrame f out s) = others (.port c) s := by
  subst h
  simp [sentFrame]

theorem others_badFrame {f : Frame} (h : f.pair = c) (cause : Nat) :
    others (.port c) (badFrame f cause s) = others (.port c) s := by
  have hsent (out : Frame) := others_sentFrame c s h out
  simp_all [badFrame, stompFrame, cutEgress]

theorem others_cutIngress (line : Bool) : others (.port c) (cutIngress c line s) = others (.port c) s := by
  have hall (l : List Frame) (hl : ∀ f ∈ l, f.pair = c) (t : State) :
      others (.port c) (l.foldl (fun s f => badFrame f 3 s) t) = others (.port c) t := by
    induction l generalizing t with
    | nil => rfl
    | cons f l ih =>
      rw [List.foldl_cons, ih (fun g hg => hl g (List.mem_cons_of_mem f hg)),
        others_badFrame c t (hl f List.mem_cons_self)]
  refine hall _ (fun f hf => ?_) s
  have := List.of_mem_filter hf
  simp_all

/-! ### States and negotiation -/

@[simp] theorem others_portTo (st reason : Nat) : others (.port c) (portTo c st reason s) = others (.port c) s := by
  simp [portTo]

@[simp] theorem others_toListen (reason settled : Nat) :
    others (.port c) (toListen c reason settled s) = others (.port c) s := by
  simp only [toListen, others_ite, others_portTo, others_setPort, others_cutIngress, others_modPort, ite_self]

@[simp] theorem others_laneOff (mode st : Nat) : others (.port c) (laneOff c mode st s) = others (.port c) s := by
  simp only [laneOff, others_ite, others_portTo, others_setPort, others_cutIngress, ite_self]

@[simp] theorem others_portRun : others (.port c) (portRun c s) = others (.port c) s := by
  simp only [portRun, others_ite, others_toListen, others_setPort, ite_self]

theorem others_powerWrite (mode : Nat) {act : State → State} (h : ∀ s, others (.port c) (act s) = others (.port c) s) :
    others (.port c) (powerWrite c mode act s) = others (.port c) s := by
  simp only [powerWrite, others_ite, others_modPort, h, ite_self]

@[simp] theorem others_sendBell : others (.port c) (sendBell c s) = others (.port c) s :=
  (others_modPort ..).trans (others_sendPdu ..)

@[simp] theorem others_sendOffer : others (.port c) (sendOffer c s) = others (.port c) s :=
  (others_modPort ..).trans (others_sendPdu ..)

@[simp] theorem others_newOfferId : others (.port c) (newOfferId c s) = others (.port c) s := others_modPort ..

@[simp] theorem others_freezePort : others (.port c) (freezePort c s) = others (.port c) s := by
  simp [freezePort]

@[simp] theorem others_toNegotiate : others (.port c) (toNegotiate c s) = others (.port c) s := by
  simp only [toNegotiate, others_ite, others_sendOffer, others_portTo, others_modPort, others_newOfferId,
    others_freezePort, ite_self]

@[simp] theorem others_tryUp : others (.port c) (tryUp c s) = others (.port c) s := by
  unfold tryUp
  dsimp only
  (repeat' split) <;> simp

@[simp] theorem others_judgeAccept : others (.port c) (judgeAccept c s) = others (.port c) s := by
  unfold judgeAccept
  dsimp only
  (repeat' split) <;> simp

@[simp] theorem others_answerOffer : others (.port c) (answerOffer c s) = others (.port c) s := by
  unfold answerOffer
  dsimp only
  (repeat' split) <;> simp

@[simp] theorem others_keepOffer (o : OfferRec) : others (.port c) (keepOffer c o s) = others (.port c) s :=
  others_modPort ..

/-! ### What a port receives -/

@[simp] theorem others_bellDiscovery (b : Octets) : others (.port c) (bellDiscovery c b s) = others (.port c) s := by
  simp [bellDiscovery]

@[simp] theorem others_takeBell (pdu : Octets) (d : DT) :
    others (.port c) (takeBell c pdu d s) = others (.port c) s := by
  simp only [takeBell, others_ite, others_badPdu, others_mirror, others_setPort, others_bellDiscovery, others_toListen,
    others_modPort, ite_self]

@[simp] theorem others_takeOffer (pdu : Octets) (d : DT) :
    others (.port c) (takeOffer c pdu d s) = others (.port c) s := by
  unfold takeOffer
  dsimp only
  (repeat' split) <;> simp only [others_badPdu, others_mirror, others_answerOffer, others_keepOffer, others_toNegotiate,
    others_modPort]

@[simp] theorem others_takeAccept (pdu : Octets) (d : DT) :
    others (.port c) (takeAccept c pdu d s) = others (.port c) s := by
  simp only [takeAccept, others_ite, others_badPdu, others_mirror, others_judgeAccept, others_modPort, ite_self]

@[simp] theorem others_takeReject (pdu : Octets) (d : DT) :
    others (.port c) (takeReject c pdu d s) = others (.port c) s := by
  simp only [takeReject, others_ite, others_badPdu, others_mirror, ite_self]

@[simp] theorem others_badExch : others (.port c) (badExch c s) = others (.port c) s := others_modPort ..

@[simp] theorem others_useExchange (x : Exch) (r : Root) :
    others (.port c) (useExchange c x r s) = others (.port c) s := by
  simp [useExchange]

@[simp] theorem others_takeStamp (pdu : Octets) (d : DT) (coarse : Bool) :
    others (.port c) (takeStamp c pdu d coarse s) = others (.port c) s := by
  unfold takeStamp
  dsimp only
  (repeat' split) <;> simp

@[simp] theorem others_takeSync (m : Octets) (d : DT) (coarse : Bool) :
    others (.port c) (takeSync c m d coarse s) = others (.port c) s := by
  simp only [takeSync, others_ite, others_badPdu, others_takeStamp, ite_self]

@[simp] theorem others_takeTrigger (pdu : Octets) : others (.port c) (takeTrigger c pdu s) = others (.port c) s := by
  unfold takeTrigger
  dsimp only
  (repeat' split) <;> simp

@[simp] theorem others_takeAxis (pdu : Octets) : others (.port c) (takeAxis c pdu s) = others (.port c) s := by
  unfold takeAxis
  dsimp only
  (repeat' split) <;> simp

@[simp] theorem others_takeHost (pdu : Octets) (d : DT) :
    others (.port c) (takeHost c pdu d s) = others (.port c) s := by
  simp only [takeHost, others_ite, others_badPdu, others_sendToPort, ite_self]

@[simp] theorem others_chainPdu (o : Octets) (d : DT) : others (.port c) (chainPdu c o d s) = others (.port c) s := by
  unfold chainPdu
  dsimp only
  (repeat' split) <;> simp only [others_badPdu, others_takeSync, others_takeBell, others_takeOffer, others_takeAccept,
    others_takeReject, others_takeStamp, others_takeTrigger, others_takeAxis, others_takeHost]

/-! ### Test loops -/

@[simp] theorem others_testLoop (n : Nat) : others (.port c) (testLoop c n s) = others (.port c) s := by
  simp only [testLoop, others_ite, others_portTo, others_modPort, others_setPort, ite_self]

@[simp] theorem others_holdListen : others (.port c) (holdListen c s) = others (.port c) s := by
  simp only [holdListen, others_ite, others_toListen, ite_self]

/-! ### A swap at the return of the port's clock -/

@[simp] theorem others_swapPort (old : RegMap) (o : OfferRec) :
    others (.port c) (swapPort c old o s) = others (.port c) s := by
  simp only [swapPort, others_ite, others_modPort, others_toNegotiate, others_newOfferId, ite_self]

theorem others_ungateCopies : others (.port c) (ungateCopies (islPort c) s) = others (.port c) s := by
  have hswap (d : DT) (t : State) : others (.port c) (swapIsland d (islPort c) t) = others (.port c) t := by
    have h1 : ¬ 64 + c.val < 64 := by omega
    have h2 : 64 + c.val < 72 := by omega
    have h3 : ¬ 73 ≤ 64 + c.val := by omega
    simp [swapIsland, islPort, h1, h2, h3]
  simp [ungateCopies, swapConfirmed, hswap]

/-! ### The end of a frame -/

@[simp] theorem others_tsRecord {f : Frame} (h : f.pair = c) (d : DT) (o : Octets) :
    others (.port c) (tsRecord f d o s) = others (.port c) s := by
  subst h
  exact (others_of_outside (outside_modFwCnt _ _ _ rfl)).trans (others_sendToPort ..)

theorem others_hostCopy {f : Frame} (h : f.pair = c) : others (.port c) (hostCopy f s) = others (.port c) s := by
  subst h
  simp [hostCopy]

theorem others_goodFrame {f : Frame} (h : f.pair = c) : others (.port c) (goodFrame f s) = others (.port c) s := by
  have hts (t : State) := others_tsRecord c t h f.ingress f.octets
  have hcopy := others_hostCopy c s h
  subst h
  have hdrop (t : State) : others (.port f.pair) (dropFrame f t) = others (.port f.pair) t :=
    others_of_outside (outside_dropFrame _ _ rfl rfl rfl rfl)
  have hcnt (g : FwCnt → FwCnt) (t : State) : others (.port f.pair) (modFwCnt f.pair g t) = others (.port f.pair) t :=
    others_of_outside (outside_modFwCnt _ _ _ rfl)
  simp only [goodFrame, others_ite, hdrop, hcnt, hts, hcopy, others_chainPdu, ite_self]

end

/-- The frame still arriving on a lane is one of its pair's. -/
theorem arriving_pair {s : State} {c : PortId} {fromHost : Bool} {f : Frame} (h : s.arriving c fromHost = some f) :
    f.pair = c := by
  have := List.find?_some h
  simp_all

/-- A frame in egress is one of its pair's. -/
theorem laneFrames_pair {s : State} {c : PortId} {toLine : Bool} {f : Frame} (h : f ∈ s.laneFrames c toLine) :
    f.pair = c := by
  have := List.of_mem_filter h
  simp_all

/-! ### The commands -/

/-- Power, test loops and PRBS, which the host writes. -/
theorem leavesOthers_hostPorts (c : PortId) :
    LeavesOthers (.portOff c) ∧ LeavesOthers (.portRun c) ∧ LeavesOthers (.portSiesta c) ∧
      LeavesOthers (.testLoopNearSerial c) ∧ LeavesOthers (.testLoopNearParallel c) ∧
      LeavesOthers (.testLoopFarRetimed c) ∧ LeavesOthers (.testLoopEnd c) ∧ LeavesOthers (.prbsGen c) ∧
      (∀ errs, LeavesOthers (.prbsCheck c errs)) := by
  have hhost {i : Instr} {f : State → State} (ha : actsOn i = [.port c]) (he : ∀ s, exec i s = .next (byHost s f))
      (hf : ∀ s, others (.port c) (f s) = others (.port c) s) : LeavesOthers i :=
    leavesOthers_of_next ha he (others_byHost hf)
  refine ⟨hhost rfl (fun _ => rfl) fun s => others_powerWrite c s 0 fun s => others_laneOff c s 0 0,
    hhost rfl (fun _ => rfl) fun s => others_powerWrite c s 1 (others_portRun c),
    hhost rfl (fun _ => rfl) fun s => others_powerWrite c s 2 fun s => others_laneOff c s 2 1,
    hhost rfl (fun _ => rfl) fun s => others_testLoop c s 1, hhost rfl (fun _ => rfl) fun s => others_testLoop c s 2,
    hhost rfl (fun _ => rfl) fun s => others_testLoop c s 3, hhost rfl (fun _ => rfl) fun s => ?_,
    hhost rfl (fun _ => rfl) fun s => (others_holdListen ..).trans (others_modPort ..),
    fun errs => hhost rfl (fun _ => rfl) fun s => ?_⟩
  · simp only [others_ite, others_toListen, others_setPort, ite_self]
  · simp only [others_ite, others_modPort, others_holdListen, ite_self]

/-- Block lock, rates and the wake. -/
theorem leavesOthers_listen (c : PortId) :
    LeavesOthers (.listenLockHeld c) ∧ LeavesOthers (.rateStep c) ∧ LeavesOthers (.siestaWakeEnd c) := by
  and_intros
  all_goals refine leavesOthers_of_next (w := .port c) rfl (fun _ => rfl) fun s => ?_
  all_goals dsimp only
  all_goals (repeat' split) <;> simp only [others_portTo, others_setPort, others_modPort,
    others_toListen, others_ungateCopies]

/-- Bells, negotiation and Stamps. -/
theorem leavesOthers_link (c : PortId) :
    LeavesOthers (.bellTimer c) ∧ (∀ pdu, LeavesOthers (.bell c pdu)) ∧ LeavesOthers (.partnerGone c) ∧
      (∀ pdu, LeavesOthers (.offer c pdu)) ∧ LeavesOthers (.offerTimer c) ∧ (∀ pdu, LeavesOthers (.accept c pdu)) ∧
      (∀ pdu, LeavesOthers (.reject c pdu)) ∧ LeavesOthers (.negotiateTimeout c) ∧ LeavesOthers (.restepTimer c) ∧
      LeavesOthers (.stampTimer c) ∧ (∀ sync m, LeavesOthers (.stamp c sync m)) ∧
      LeavesOthers (.estimatorFreeze c) := by
  and_intros <;> intros
  all_goals refine leavesOthers_of_next (w := .port c) rfl (fun _ => rfl) fun s => ?_
  all_goals try dsimp only
  all_goals (repeat' split) <;> simp only [others_sendBell, others_takeBell, others_toListen, others_takeOffer,
    others_sendOffer, others_toNegotiate, others_takeAccept, others_takeReject, others_sendFrame, others_modPort,
    others_takeSync, others_takeStamp, others_freezePort]

/-- Triggers, Axis frames and the host's frames. -/
theorem leavesOthers_traffic (c : PortId) :
    (∀ pdu, LeavesOthers (.triggerFrame c pdu)) ∧ (∀ pdu, LeavesOthers (.axisFrame c pdu)) ∧
      (∀ pdu, LeavesOthers (.hostFrame c pdu)) ∧ LeavesOthers (.messageRingEntry c) := by
  refine ⟨fun pdu => leavesOthers_of_next rfl (fun _ => rfl) fun s => others_takeTrigger c s pdu,
    fun pdu => leavesOthers_of_next rfl (fun _ => rfl) fun s => others_takeAxis c s pdu,
    fun pdu => leavesOthers_of_next rfl (fun _ => rfl) fun s => others_takeHost c s pdu _,
    leavesOthers_of_next (w := .port c) rfl (fun _ => rfl) fun s => ?_⟩
  dsimp only
  (repeat' split) <;> simp

/-- Ends of Freewheel's frames, which the port's frames wait behind (R287). -/
theorem leavesOthers_frameEnds (c : PortId) :
    (∀ fromHost tail err, LeavesOthers (.frameEndReceived c fromHost tail err)) ∧
      ∀ toLine, LeavesOthers (.egressEnd c toLine) := by
  have hcnt (g : FwCnt → FwCnt) (t : State) : others (.port c) (modFwCnt c g t) = others (.port c) t :=
    others_of_outside (outside_modFwCnt _ _ _ rfl)
  have hfree (n : Nat) (t : State) : others (.port c) (setFree n t) = others (.port c) t :=
    others_of_outside (outside_setFree _ _ rfl rfl rfl)
  have hfw (x : Freewheel) (t : State) : others (.port c) { t with fw := x } = others (.port c) t :=
    others_of_outside (outside_with_fw _ _ rfl)
  constructor <;> intros
  all_goals refine leavesOthers_of_next (w := .port c) rfl (fun _ => rfl) fun s => ?_
  all_goals dsimp only
  all_goals split
  next f hf =>
    have hc := arriving_pair hf
    split
    · rfl
    · split
      · exact others_badFrame c s hc _
      · rw [others_goodFrame c _ (by simpa using hc), hfree, hfw]
  next => rfl
  next f hf =>
    have hc := laneFrames_pair (List.mem_of_find?_eq_some hf)
    have hcorr (d : DT) : others (.port c) (correctFrame f d s).2 = others (.port c) s :=
      others_of_outside (outside_correctFrame f d rfl rfl rfl)
    split
    · rfl
    · refine (others_sentFrame c _ hc _).trans ?_
      split
      · rw [others_tsRecord c _ hc, hcnt, hcorr]
      · rw [hcnt, hcorr]
  next => rfl

end Sys2Proof.Proofs
end

section
/-! What a command about one instance leaves alone (O9), assembled. -/

namespace Sys2Proof.Proofs

open Sys2Proof.Machine Sys2Proof.Laws

theorem leavesOthers_of_none {c : Instr} (h : actsOn c = []) : LeavesOthers c := by
  intro w hw
  simp [h] at hw

/-- Every command leaves the other instances of the units it is about. -/
theorem leavesOthers (c : Instr) : LeavesOthers c := by
  cases ha : actsOn c with
  | nil => exact leavesOthers_of_none ha
  | cons w l =>
    cases c <;> cases ha <;> simp only [leavesOthers_entry, leavesOthers_work, leavesOthers_cancels,
      leavesOthers_otherUnits, leavesOthers_registers, leavesOthers_tables, leavesOthers_control, leavesOthers_waits,
      leavesOthers_waitq, leavesOthers_ktake, leavesOthers_releases, leavesOthers_ktakeRelease, leavesOthers_issues,
      leavesOthers_messages, leavesOthers_ringCommands, leavesOthers_arrivals, leavesOthers_engine, leavesOthers_slots,
      leavesOthers_axis, leavesOthers_hostPorts, leavesOthers_listen, leavesOthers_link, leavesOthers_traffic,
      leavesOthers_frameEnds]

/-- Settles O9: command by command, what acts on an instance leaves the rest of its unit as it was. -/
theorem otherInstances : Obligations.OtherInstances := by
  unfold Obligations.OtherInstances
  exact fun i s t h w hw => othersKept_of_others (leavesOthers i w hw s t h)

end Sys2Proof.Proofs
end

section
/-! The stacks and mailboxes of Pacer's threads (O6): views of the threads, and the shared operations that leave them
alone. -/

namespace Sys2Proof.Proofs

open Sys2Proof.Machine Sys2Proof.Laws

set_option Elab.async false

/-! ### Views of the threads, and their loads -/

/-- What a function tells of each thread. -/
def viewOf {α : Type} (π : Thread → α) (s : State) : Vector α 16 := s.pacer.th.map π

/-- A view of the threads, which are Pacer's alone: every other part is put aside. -/
@[simp] abbrev view {α : Type} (π : Thread → α) (s : State) : Vector α 16 :=
  viewOf π (s.outside (besideUnit (.thread 0)))

/-- What a thread has on its stack and in its mailbox. -/
def load (t : Thread) : List StackEnt × List MailEnt := (t.stack, t.mbox)

@[simp] abbrev loads (s : State) : Vector (List StackEnt × List MailEnt) 16 := view load s

theorem view_get {α : Type} (π : Thread → α) (s : State) (p : ThreadId) : (view π s).get p = π (s.thread p) := by
  have h : view π s = s.pacer.th.map π := by simp [viewOf, State.outside]
  rw [h]
  exact Vector.getElem_map ..

theorem loads_get (s : State) (p : ThreadId) : (loads s).get p = ((s.thread p).stack, (s.thread p).mbox) := view_get ..

/-- Equal loads are bounded alike. -/
theorem bounded_of_loads {s t : State} (h : loads t = loads s) (hs : s.threadsBounded) : t.threadsBounded := by
  intro p
  have hp : ((t.thread p).stack, (t.thread p).mbox) = ((s.thread p).stack, (s.thread p).mbox) := by
    rw [← loads_get, ← loads_get, h]
  rw [(Prod.mk.inj hp).1, (Prod.mk.inj hp).2]
  exact hs p

section
variable {α : Type} {π : Thread → α}

/-- The threads are all that a view is read from. -/
theorem view_of_th {s t : State} (h : t.pacer.th = s.pacer.th) : view π t = view π s := by
  simp [State.outside, viewOf, h]

theorem view_of_outside {s t : State}
    (h : t.outside (besideUnit (.thread 0)) = s.outside (besideUnit (.thread 0))) : view π t = view π s :=
  congrArg (viewOf π) h

@[simp] theorem view_ite {c : Prop} [Decidable c] (a b : State) :
    view π (if c then a else b) = if c then view π a else view π b := by split <;> rfl

theorem view_setThread {s : State} {p : ThreadId} {x : Thread} (h : π x = π (s.thread p)) :
    view π (s.setThread p x) = view π s := by
  refine Vector.ext fun k hk => ?_
  have hget (u : State) : (view π u)[k] = π (u.thread ⟨k, hk⟩) := view_get π u ⟨k, hk⟩
  by_cases hkp : (⟨k, hk⟩ : ThreadId) = p
  · rw [hget, hget, hkp, setThread_get, h]
  · rw [hget, hget, setThread_get_ne _ _ _ _ hkp]

end

theorem loads_of_th {s t : State} (h : t.pacer.th = s.pacer.th) : loads t = loads s := view_of_th h

theorem loads_of_outside {s t : State}
    (h : t.outside (besideUnit (.thread 0)) = s.outside (besideUnit (.thread 0))) : loads t = loads s :=
  view_of_outside h

@[simp] theorem loads_with_pacer {s : State} {y : Pacer} (h : y.th = s.pacer.th) :
    loads { s with pacer := y } = loads s := loads_of_th h

@[simp] theorem loads_setThread {s : State} {p : ThreadId} {x : Thread} (hs : x.stack = (s.thread p).stack)
    (hm : x.mbox = (s.thread p).mbox) : loads (s.setThread p x) = loads s :=
  view_setThread (Prod.ext hs hm)

theorem loads_foldl {α : Type} (f : State → α → State) (h : ∀ s a, loads (f s a) = loads s) (l : List α) (s : State) :
    loads (l.foldl f s) = loads s := by
  induction l generalizing s with
  | nil => rfl
  | cons a l ih => rw [List.foldl_cons, ih, h]

theorem loads_byHost {f : State → State} (h : ∀ s, loads (f s) = loads s) (s : State) :
    loads (byHost s f) = loads s := by
  unfold byHost
  split
  · exact h s
  · rfl

section
variable (s : State)

/-! ### Commits and steps (R23 to R29, R251, R252) -/

section
variable {α : Type} {π : Thread → α}

@[simp] theorem view_refusePending (cause island pos : Nat) (side : Bool) :
    view π (refusePending cause island pos side s) = view π s := by
  unfold refusePending
  split
  case h_1 p _ =>
    have hsent : view π (if p.awaiting.isEmpty && !p.armedAll then s else overIslands (sendIsl .abandon) s) =
        view π s := by
      simp
    refine Eq.trans ?_ hsent
    dsimp only
    generalize (if (p.awaiting.isEmpty && !p.armedAll) = true then s else overIslands (sendIsl .abandon) s) = s1
    exact (view_of_outside (outside_sayRefused _ _ _ _ _ _ _ _ rfl rfl rfl)).trans (view_of_th rfl)
  case h_2 => rfl

@[simp] theorem view_onAbandon (dtEff : DT) (gen : Word) (cause pos : Nat) (side : Bool) :
    view π (onAbandon dtEff gen cause pos side s) = view π s := by
  unfold onAbandon
  dsimp only
  repeat' split
  all_goals simp

@[simp] theorem view_giveUp (dtEff : DT) (gen : Word) (cause pos : Nat) (side : Bool) :
    view π (giveUp dtEff gen cause pos side s) = view π s := by simp [giveUp]

@[simp] theorem view_giveUpHeld (r : CoordRec) (cause pos : Nat) (side : Bool) :
    view π (giveUpHeld r cause pos side s) = view π s := by simp [giveUpHeld]

@[simp] theorem view_coordAnswer (pos : Nat) (side : Bool) (dtEff : DT) (armed : Bool) :
    view π (coordAnswer pos side dtEff armed s) = view π s := by
  unfold coordAnswer
  (repeat' split) <;> simp

@[simp] theorem view_answerCoord (a : ArmedRec) (armed : Bool) (cause island : Nat) :
    view π (answerCoord a armed cause island s) = view π s := by simp [answerCoord]

@[simp] theorem view_arm (i : IslandId) (dtEff : DT) (gen : Word) (own : Vector (BitVec 64) 4) :
    view π (arm i dtEff gen own s) = view π s := by
  unfold arm
  dsimp only
  (repeat' split) <;> exact view_of_th rfl

@[simp] theorem view_armCommit (a : ArmedRec) : view π (armCommit a s) = view π s := by
  unfold armCommit
  (repeat' split) <;> simp

@[simp] theorem view_armStep (a : ArmedRec) : view π (armStep a s) = view π s := by
  unfold armStep
  dsimp only
  (repeat' split) <;> exact (view_answerCoord ..).trans (view_of_th rfl)

@[simp] theorem view_onPrepare (a : ArmedRec) : view π (onPrepare a s) = view π s := by
  unfold onPrepare
  (repeat' split) <;> simp

@[simp] theorem view_coordRequest (pos : Nat) (step : Bool) (dtEff : DT) (gen : Word) (d : BitVec 64) :
    view π (coordRequest pos step dtEff gen d s) = view π s := by simp [coordRequest]

@[simp] theorem view_sendRequest (step : Bool) (dtEff : DT) (gen : Word) (d : BitVec 64) :
    view π (sendRequest step dtEff gen d s) = view π s := by simp [sendRequest]

/-! A displaced COMMIT's thread alone has its wait changed. -/

section
variable (hπ : ∀ t on, π { t with waitOn := on } = π t)
include hπ

theorem view_answerBusy (src : CommitSrc) : view π (answerBusy src s) = view π s := by
  cases src with
  | thread p =>
    refine view_setThread ?_
    dsimp only
    split
    · exact hπ _ _
    · rfl
  | _ => rfl

theorem view_refuseDisplaced (old : Option PendingCommit) : view π (refuseDisplaced old s) = view π s := by
  cases old with
  | none => rfl
  | some p => exact (view_answerBusy _ hπ _).trans (view_of_outside (outside_sayRefused _ _ _ _ _ _ _ _ rfl rfl rfl))

theorem view_issueCommit (src : CommitSrc) (dtEff : DT) (gen : Word) :
    view π (issueCommit src dtEff gen s) = view π s := by
  unfold issueCommit
  dsimp only
  split
  · exact view_of_outside (outside_sayRefused _ _ _ _ _ _ _ _ rfl rfl rfl)
  · rw [view_refuseDisplaced _ hπ]
    split <;> simp

end

end

@[simp] theorem loads_issueCommit (src : CommitSrc) (dtEff : DT) (gen : Word) :
    loads (issueCommit src dtEff gen s) = loads s := view_issueCommit s (fun _ _ => rfl) src dtEff gen

@[simp] theorem loads_autoRestart (d : DT) : loads (autoRestart d s) = loads s := by simp [autoRestart]

@[simp] theorem loads_requestStep (at_ : DT) (d : Int) (epoch auto : Bool) :
    loads (requestStep at_ d epoch auto s) = loads s := by simp [requestStep]

@[simp] theorem loads_takePrepare (cell : Octets) : loads (takePrepare cell s) = loads s := by simp [takePrepare]
@[simp] theorem loads_takeAnswer (cell : Octets) : loads (takeAnswer cell s) = loads s := by simp [takeAnswer]
@[simp] theorem loads_takeAbandon (cell : Octets) : loads (takeAbandon cell s) = loads s := by simp [takeAbandon]

end

end Sys2Proof.Proofs
end

section
/-! What else leaves the loads alone (O6): what comes to a thread from spokes, ports and rings, the host's writes, and the
steps of the count. -/

namespace Sys2Proof.Proofs

open Sys2Proof.Machine Sys2Proof.Laws

set_option Elab.async false

section
variable (s : State)

/-! ### What comes to a thread and stands in no mailbox yet -/

@[simp] theorem loads_arrive (e : EventId) : loads (arrive e s) = loads s := by
  have hkept (t : Thread) (m : DT × Word) :
      (t.arrive e s.slot m).stack = t.stack ∧ (t.arrive e s.slot m).mbox = t.mbox := by
    unfold Thread.arrive Thread.takeEvent
    (repeat' split) <;> exact ⟨rfl, rfl⟩
  unfold arrive
  dsimp only
  split
  · simp [load, viewOf, State.outside, hkept, Function.comp_def]
  · exact loads_of_th rfl

@[simp] theorem loads_mailFor (all : Bool) (p : ThreadId) (via : MailVia) (e : MailEnt) :
    loads (mailFor all p via e s) = loads s := loads_of_th rfl

@[simp] theorem loads_takeTrigger (c : PortId) (pdu : Octets) : loads (takeTrigger c pdu s) = loads s := by
  simp [takeTrigger]

@[simp] theorem loads_takeCellTrigger (route wher : Nat) (via : MailVia) (b : Octets) :
    loads (takeCellTrigger route wher via b s) = loads s := by simp [takeCellTrigger]

@[simp] theorem loads_chainPdu (c : PortId) (o : Octets) (d : DT) : loads (chainPdu c o d s) = loads s := by
  unfold chainPdu
  dsimp only
  (repeat' split) <;> simp

@[simp] theorem loads_goodFrame (f : Frame) : loads (goodFrame f s) = loads s := by simp [goodFrame]

@[simp] theorem loads_takeAction (p : ThreadId) (a : CtlAct) : loads (takeAction p a s) = loads s := by
  simp [takeAction]

@[simp] theorem loads_refuseAction (p : ThreadId) : loads (refuseAction p s) = loads s := by simp [refuseAction]

@[simp] theorem loads_issueAction (p : ThreadId) (op : CtlOp) (d : DT) : loads (issueAction p op d s) = loads s := by
  simp [issueAction]

@[simp] theorem loads_regAction (p : ThreadId) (op : CtlOp) : loads (regAction p op s) = loads s := by
  simp [regAction]

@[simp] theorem loads_drainActions : loads (drainActions s) = loads s := by
  unfold drainActions
  refine (loads_foldl _ (fun s a => ?_) _ _).trans (loads_with_pacer rfl)
  exact loads_issueAction s a.1 a.2.1 a.2.2

/-! ### Spokes and engines -/

@[simp] theorem loads_arriveCancel (i : SpokeId) (cut : DT) (p : ThreadId) :
    loads (arriveCancel i cut p s) = loads s := by simp [arriveCancel]

@[simp] theorem loads_takeCancels (i : SpokeId) (l : List SpokeMsg) : loads (takeCancels i l s) = loads s := by
  induction l generalizing s with
  | nil => rfl
  | cons m l ih =>
    cases m with
    | desc d => rfl
    | cancel c p => rw [takeCancels, ih, loads_arriveCancel, loads_of_outside (outside_State_modSpoke _ _ _ rfl)]

@[simp] theorem loads_drainCancels (i : SpokeId) : loads (drainCancels i s) = loads s := by simp [drainCancels]

@[simp] theorem loads_rejectDesc (i : SpokeId) (d : ChanDesc) (st : DT) (c : Nat) (pl : Bool) :
    loads (rejectDesc i d st c pl s) = loads s := by simp [rejectDesc]

theorem loads_takeDesc {i : SpokeId} {w : BitVec 128 → Bool} {f : ChanDesc → State → State}
    (hf : ∀ d t, loads (f d t) = loads t) : loads (takeDesc i w f s) = loads s := by
  rw [takeDesc]
  split
  · split
    · rw [loads_drainCancels, hf, loads_of_outside (outside_State_modSpoke _ _ _ rfl)]
    · rfl
  · rfl

@[simp] theorem loads_enterDesc (i : SpokeId) (k : Kind) : loads (enterDesc i k s) = loads s := by
  refine loads_takeDesc s fun d t => ?_
  dsimp only
  split
  · exact loads_rejectDesc ..
  · exact loads_of_outside (outside_acceptDesc _ _ _ _ rfl rfl rfl rfl rfl)

@[simp] theorem loads_ungateSpoke (i : SpokeId) : loads (ungateSpoke i s) = loads s := by simp [ungateSpoke]

@[simp] theorem loads_ungateEngine (v : EngineId) : loads (ungateEngine v s) = loads s := by
  unfold ungateEngine
  dsimp only
  refine (loads_foldl _ (fun s r => by simp) _ _).trans ?_
  split <;> simp

/-! ### Steps of the count, Day, and the stack (R251 to R254, R330, R394) -/

@[simp] theorem loads_shiftHeld (n : Int) (mv : DT → DT) : loads (shiftHeld n mv s) = loads s := by
  simp [shiftHeld, viewOf, load, State.outside, Function.comp_def]

@[simp] theorem loads_moveCount (q : Int) (dtAt dtTo : DT) : loads (moveCount q dtAt dtTo s) = loads s := by
  simp [moveCount, outside_forEach]

@[simp] theorem loads_joinStack (near : Bool) (b : BeaconRec) : loads (joinStack near b s) = loads s := by
  simp [joinStack]

@[simp] theorem loads_enterDay : loads (enterDay s) = loads s := by
  simp [enterDay, outside_forEach]

/-! ### The host's writes (R54, R130) -/

@[simp] theorem loads_writeBank (bank : Bool) (addr : Nat) (data : List (Option Byte)) :
    loads (writeBank bank addr data s) = loads s := by
  unfold writeBank
  (repeat' split) <;> exact loads_of_th rfl

@[simp] theorem loads_writeBar2 (addr : Nat) (data : List (Option Byte)) :
    loads (writeBar2 addr data s) = loads s := by simp [writeBar2]

theorem loads_onBit {f : State → Out} (h : ∀ s, loads (after f s) = loads s) (v : Word) (k : Nat) :
    loads (onBit v k f s) = loads s := by
  unfold onBit
  split
  · exact h s
  · rfl

@[simp] theorem loads_execCommitGo : loads (after execCommitGo s) = loads s :=
  loads_byHost (fun _ => loads_issueCommit ..) s

@[simp] theorem loads_execStepRequest : loads (after execStepRequest s) = loads s :=
  loads_byHost (fun _ => loads_requestStep ..) s

@[simp] theorem loads_execBankCrcGo : loads (after execBankCrcGo s) = loads s :=
  loads_byHost (f := fun s =>
    { s with pacer := { s.pacer with crcBusy := true, crcDirty := false, crcValid := false } }) (fun _ => loads_of_th rfl) s

@[simp] theorem loads_writeHandlebar (o : Nat) (v : Word) : loads (writeHandlebar o v s) = loads s := by
  unfold writeHandlebar
  (repeat' split) <;> simp [loads_onBit]

@[simp] theorem loads_writeNoon (o : Nat) (v : Word) : loads (writeNoon o v s) = loads s := by
  simp [writeNoon, loads_onBit]

@[simp] theorem loads_writePacer (o : Nat) (v : Word) : loads (writePacer o v s) = loads s := by
  have hact (p : ThreadId) (op : CtlOp) : loads (byHost s fun s => regAction p op s) = loads s :=
    loads_byHost (fun _ => loads_regAction ..) s
  unfold writePacer
  dsimp only
  (repeat' split)
  · exact hact _ _
  · exact hact _ _
  · exact hact _ _
  · rfl
  · exact loads_onBit s loads_execBankCrcGo _ _
  · simp

@[simp] theorem loads_writeReg (k : Nat) (v : Word) : loads (writeReg k v s) = loads s := by simp [writeReg]

end

end Sys2Proof.Proofs
end

section
/-! What may empty a stack or a mailbox (O6): a bank's swap, a thread's start, and the loss of power; and the ends of
Pacer's instructions. -/

namespace Sys2Proof.Proofs

open Sys2Proof.Machine Sys2Proof.Laws

set_option Elab.async false

section
variable {s : State} (hs : s.threadsBounded)
include hs

theorem bounded_setThread {p : ThreadId} {x : Thread} (hstack : x.stack.length ≤ 4) (hmbox : x.mbox.length ≤ 8) :
    (s.setThread p x).threadsBounded := by
  intro q
  by_cases hq : q = p
  · rw [hq, setThread_get]
    exact ⟨hstack, hmbox⟩
  · rw [setThread_get_ne _ _ _ _ hq]
    exact hs q

omit hs in
theorem bounded_foldl {α : Type} {f : State → α → State} (hf : ∀ s a, s.threadsBounded → (f s a).threadsBounded)
    (l : List α) {s : State} (hs : s.threadsBounded) : (l.foldl f s).threadsBounded := by
  induction l generalizing s with
  | nil => exact hs
  | cons a l ih => exact ih (hf s a hs)

/-! ### Swaps (R28, R129) -/

theorem bounded_swapBank : (swapBank s).threadsBounded := by
  refine bounded_foldl (fun t p ht => ?_) _ (bounded_of_loads (loads_of_th rfl) hs)
  dsimp only
  split
  · exact bounded_setThread ht (Nat.zero_le 4) (ht p).2
  · split
    · exact bounded_setThread ht (ht p).1 (ht p).2
    · exact ht

theorem bounded_swapPacer : (swapPacer s).threadsBounded := by
  unfold swapPacer
  dsimp only
  split
  · exact bounded_of_loads (loads_of_th rfl) (bounded_swapBank hs)
  · exact bounded_of_loads (loads_of_th rfl) hs

theorem bounded_swapIsland (d : DT) (i : IslandId) : (swapIsland d i s).threadsBounded := by
  by_cases hp : (s.island i).pending.isSome = true
  · have hcopied : (copied i s).threadsBounded := bounded_of_loads (by simp [copied]) hs
    have hout {t : State} (h : loads t = loads (copied i s)) : t.threadsBounded := bounded_of_loads h hcopied
    refine swapIsland_cases (P := State.threadsBounded) hp ?_ ?_ (fun _ => bounded_swapPacer hcopied) ?_ ?_ ?_ ?_ ?_ ?_
      ?_ ?_ fun _ => hcopied
    all_goals intros
    all_goals exact hout (by simp)
  · have hn : (s.island i).pending.isNone = true := by simpa using hp
    rw [swapIsland, if_pos hn]
    exact hs

theorem bounded_swapConfirmed (d : DT) (i : IslandId) : (swapConfirmed d i s).threadsBounded := by
  unfold swapConfirmed
  split
  · exact bounded_swapIsland (bounded_of_loads (by simp) hs) d i
  · exact hs

theorem bounded_swapIfDue (i : IslandId) : (swapIfDue i s).threadsBounded := by
  unfold swapIfDue
  split
  · exact bounded_swapConfirmed hs _ i
  · exact hs

theorem bounded_ungateCopies (i : IslandId) : (ungateCopies i s).threadsBounded := by
  unfold ungateCopies
  dsimp only
  split
  · exact bounded_of_loads (by simp) hs
  · split
    · exact bounded_swapConfirmed hs _ i
    · exact hs

theorem bounded_resumeIslands : (resumeIslands s).threadsBounded := by
  have hcopies : (hubIslands.foldl (fun s i => ungateCopies i s) s).threadsBounded :=
    bounded_foldl (fun t i ht => bounded_ungateCopies ht i) _ hs
  have harrive : (forEach 256 arrive (hubIslands.foldl (fun s i => ungateCopies i s) s)).threadsBounded :=
    bounded_foldl (fun t e ht => bounded_of_loads (loads_arrive t e) ht) _ hcopies
  have hspokes := bounded_foldl (fun t i ht => bounded_of_loads (loads_ungateSpoke t i) ht) (List.finRange 64) harrive
  have hengines := bounded_foldl (fun t v ht => bounded_of_loads (loads_ungateEngine t v) ht) (List.finRange 4)
    (bounded_of_loads (loads_drainActions _) hspokes)
  exact bounded_of_loads (by simp [resumeIslands, forEach, outside_foldl]) hengines

end

/-! ### Power (R12, R398) -/

theorem bounded_powerOff (s : State) : (powerOff s).threadsBounded := by
  intro p
  have h : (powerOff s).thread p = Thread.reset := reset_thread p
  rw [h]
  exact ⟨Nat.zero_le 4, Nat.zero_le 8⟩

theorem bounded_releaseReset (s : State) : (releaseReset s).threadsBounded :=
  bounded_of_loads (by simp [releaseReset]) (bounded_powerOff s)

theorem bounded_railDown {s : State} (hs : s.threadsBounded) : (railDown s).threadsBounded := by
  unfold railDown
  split
  · exact bounded_of_loads (by simp) (bounded_powerOff s)
  · have hcut : loads { cutErase s with hb := { s.hb with flashJob := none } } = loads s :=
      (loads_of_th (s := cutErase s) rfl).trans (loads_of_outside (by simp))
    refine bounded_of_loads ((loads_of_outside (outside_State_modDyn _ _ rfl)).trans ?_) hs
    split
    · exact hcut
    · rfl

end Sys2Proof.Proofs
end

section
/-! Every instruction and action of a thread keeps its stack within 4 entries and its mailbox within 8 (O6). -/

namespace Sys2Proof.Proofs

open Sys2Proof.Machine Sys2Proof.Laws

set_option Elab.async false

/-- Whatever next state an outcome holds, its stacks and mailboxes are within their bounds. -/
def BoundedOut (o : Out) : Prop := ∀ t, o = .next t → t.threadsBounded

/-- A command keeps the bounds of stacks and mailboxes. -/
def KeepsBounds (c : Instr) : Prop := ∀ s, s.threadsBounded → BoundedOut (exec c s)

theorem boundedOut_next {s : State} (hs : s.threadsBounded) : BoundedOut (.next s) := by
  rintro t ⟨⟩
  exact hs

/-- A command that changes no part but others than Pacer keeps the bounds (O8). -/
theorem keepsBounds_of_framed {c : Instr} (h : (mayChange c).pacer = false) : KeepsBounds c := by
  intro s hs t ht
  have hout : (t.outside (mayChange c)).pacer.th = (s.outside (mayChange c)).pacer.th :=
    congrArg (fun u : State => u.pacer.th) (framed c s t ht)
  have hth (u : State) : (u.outside (mayChange c)).pacer.th = u.pacer.th := by
    simp only [State.outside, h, Bool.false_eq_true, if_false]
    split <;> rfl
  rw [hth, hth] at hout
  exact bounded_of_loads (loads_of_th hout) hs

theorem keepsBounds_of_loads {c : Instr} {f : State → State} (he : ∀ s, exec c s = .next (f s))
    (hf : ∀ s, loads (f s) = loads s) : KeepsBounds c := by
  intro s hs
  rw [he]
  exact boundedOut_next (bounded_of_loads (hf s) hs)

/-! ### The ends of an instruction -/

section
variable {p : ThreadId} {s : State}

@[simp] theorem loads_fault (cause : Nat) : loads (fault p cause s) = loads s := by simp [fault]

@[simp] theorem loads_waitFor (on : WaitOn) : loads (waitFor p on s) = loads s := by simp [waitFor]

@[simp] theorem loads_sayLate (ta : DT) : loads (sayLate p ta s) = loads s := by simp [sayLate]

/-- An instruction that leaves its thread's stack and mailbox leaves the loads. -/
theorem loads_complete {f : Thread → Thread} (hstack : (f (s.thread p)).stack = (s.thread p).stack)
    (hmbox : (f (s.thread p)).mbox = (s.thread p).mbox) : loads (complete p f s) = loads s :=
  loads_setThread hstack hmbox

@[simp] theorem loads_expire : loads (expire p s) = loads s := loads_complete rfl rfl

@[simp] theorem loads_releaseEvent (e : EventId) (dst : Option (Fin 8 × Fin 8)) :
    loads (releaseEvent p e dst s) = loads s := by
  unfold releaseEvent
  dsimp only
  cases dst <;> exact loads_complete rfl rfl

theorem loads_goOn {f : Thread → Thread} (hstack : (f (s.thread p)).stack = (s.thread p).stack)
    (hmbox : (f (s.thread p)).mbox = (s.thread p).mbox) : loads (goOn p f s) = loads s := by
  unfold goOn
  split
  · exact loads_fault _
  · exact loads_complete hstack hmbox

theorem loads_startWait {f : State → State} (hf : loads (f s) = loads s) : loads (startWait p f s) = loads s := by
  unfold startWait
  split
  · exact loads_fault _
  · exact hf

theorem loads_twoSlots {f : State → State} (hf : loads (f s) = loads s) : loads (twoSlots p f s) = loads s := by
  unfold twoSlots secondSlot
  split
  · exact loads_fault _
  · split
    · exact hf
    · rfl

/-! ### Issues -/

@[simp] theorem loads_setMirror (i : SpokeId) (d : DT) : loads (setMirror i d s) = loads s := loads_of_th rfl

@[simp] theorem loads_enterChan (i : SpokeId) (raw : BitVec 128) (ta : DT) :
    loads (enterChan p i raw ta s) = loads s := by simp [enterChan]

@[simp] theorem loads_enterTrig (dest : BitVec 16) (ta : DT) (x : Word) :
    loads (enterTrig p dest ta x s) = loads s := by
  unfold enterTrig
  split <;> simp

@[simp] theorem loads_enter (m : Issue) : loads (enter p m s) = loads s := by
  cases m <;> simp [enter, sendCancel]

@[simp] theorem loads_tryIssue (m : Issue) : loads (tryIssue p m s) = loads s := by
  unfold tryIssue
  repeat' split
  · exact loads_complete rfl rfl
  · exact loads_setThread rfl rfl
  · exact (loads_complete rfl rfl).trans (loads_enter m)
  · exact (loads_complete rfl rfl).trans (loads_sayLate _)

@[simp] theorem loads_startIssue (m : Issue) : loads (startIssue p m s) = loads s := loads_startWait (loads_tryIssue m)

/-! ### What an instruction does in its slot -/

theorem boundedOut_issueOp (hs : s.threadsBounded) {op : Nat} {ok : BitVec 64 → Bool} {f : BitVec 64 → State → State}
    (hf : ∀ w, (f w s).threadsBounded) : BoundedOut (issueOp p op ok f s) := by
  refine boundedOut_next ?_
  dsimp only
  repeat' split
  · exact hf _
  · exact bounded_of_loads (loads_fault _) hs
  all_goals exact hs

/-- An instruction that leaves the loads keeps the bounds. -/
theorem boundedOut_issueOp_of_loads (hs : s.threadsBounded) {op : Nat} {ok : BitVec 64 → Bool}
    {f : BitVec 64 → State → State} (hf : ∀ w, loads (f w s) = loads s) : BoundedOut (issueOp p op ok f s) :=
  boundedOut_issueOp hs fun w => bounded_of_loads (hf w) hs

theorem boundedOut_issueE (hs : s.threadsBounded) {op : Nat} {ok : BitVec 64 → Bool}
    {f : SpokeId → DT → BitVec 64 → State → State} (hf : ∀ i d w, loads (f i d w s) = loads s) :
    BoundedOut (issueE p op ok f s) :=
  boundedOut_issueOp_of_loads hs fun w => by
    dsimp only
    split
    · exact loads_fault _
    · exact hf _ _ _

theorem bounded_complete (hs : s.threadsBounded) {f : Thread → Thread} (hstack : (f (s.thread p)).stack.length ≤ 4)
    (hmbox : (f (s.thread p)).mbox.length ≤ 8) : (complete p f s).threadsBounded := bounded_setThread hs hstack hmbox

theorem bounded_goOn (hs : s.threadsBounded) {f : Thread → Thread} (hstack : (f (s.thread p)).stack.length ≤ 4)
    (hmbox : (f (s.thread p)).mbox.length ≤ 8) : (goOn p f s).threadsBounded := by
  unfold goOn
  split
  · exact bounded_of_loads (loads_fault _) hs
  · exact bounded_complete hs hstack hmbox

/-- Taking an entry shortens the mailbox. -/
theorem bounded_takeMail (hs : s.threadsBounded) (td ge : Fin 8) : (takeMail p td ge s).threadsBounded := by
  obtain ⟨hstack, hmbox⟩ := hs p
  unfold takeMail
  split
  case h_1 m rest h =>
    rw [h, List.length_cons] at hmbox
    exact bounded_complete hs hstack (Nat.le_of_succ_le hmbox)
  case h_2 => exact hs

/-- An entry is placed only where the mailbox has room for it (R112). -/
theorem bounded_placeMail (hs : s.threadsBounded) (m : MailEnt) : (placeMail p m s).1.threadsBounded := by
  obtain ⟨hstack, -⟩ := hs p
  unfold placeMail
  dsimp only
  split
  case isTrue hroom => exact bounded_setThread hs hstack (by simp only [List.length_append, List.length_singleton]; omega)
  case isFalse => exact bounded_of_loads (by simp) hs

theorem loads_takeTarget {a : AxisId} {td : Fin 8} {t : State} (h : takeTarget p a td s = some t) :
    loads t = loads s := by
  cases hg : (s.axis a).tgts.find? (fun g => g.thread == p) with
  | none =>
    simp only [takeTarget, hg, Option.some.injEq] at h
    rw [← h, loads_complete rfl rfl]
  | some g =>
    have hoff (f : Axis → Axis) : loads (s.modAxis a f) = loads s := loads_of_outside (outside_State_modAxis _ _ _ rfl)
    cases hst : g.st with
    | time d | noTime =>
      simp only [takeTarget, hg, hst, Option.some.injEq] at h
      rw [← h, loads_complete rfl rfl, hoff]
    | posted | waiting _ | solving _ _ _ => simp [takeTarget, hg, hst] at h

end

/-! ### The instructions -/

/-- Instructions on the registers of a thread. -/
theorem keepsBounds_registers (p : ThreadId) :
    KeepsBounds (.nop p) ∧ KeepsBounds (.add p) ∧ KeepsBounds (.sub p) ∧ KeepsBounds (.and p) ∧ KeepsBounds (.or p) ∧
      KeepsBounds (.xor p) ∧ KeepsBounds (.shl p) ∧ KeepsBounds (.shr p) ∧ KeepsBounds (.mul p) ∧
      KeepsBounds (.cmp p) ∧ KeepsBounds (.mov p) ∧ KeepsBounds (.movi p) ∧ KeepsBounds (.addi p) ∧
      KeepsBounds (.andi p) ∧ KeepsBounds (.cmpi p) ∧ KeepsBounds (.shli p) ∧ KeepsBounds (.shri p) ∧
      KeepsBounds (.tmov p) ∧ KeepsBounds (.tadd p) ∧ KeepsBounds (.tsub p) ∧ KeepsBounds (.tcmp p) ∧
      KeepsBounds (.taddi p) ∧ KeepsBounds (.taddg p) ∧ KeepsBounds (.tldl p) ∧ KeepsBounds (.tldh p) ∧
      KeepsBounds (.tget p) ∧ KeepsBounds (.tput p) ∧ KeepsBounds (.now p) := by
  and_intros
  all_goals intro s hs
  all_goals simp only [exec, execNop, execAdd, execSub, execAnd, execOr, execXor, execShl, execShr, execMul, execCmp,
    execMov, execMovi, execAddi, execAndi, execCmpi, execShli, execShri, execTmov, execTadd, execTsub, execTcmp,
    execTaddi, execTaddg, execTldl, execTldh, execTget, execTput, execNow, aluR, aluI]
  all_goals exact boundedOut_issueOp_of_loads hs fun w => loads_goOn rfl rfl

/-- Instructions of two slots on the registers, and INFO. -/
theorem keepsBounds_tables (p : ThreadId) :
    KeepsBounds (.tmac p) ∧ KeepsBounds (.tdiff p) ∧ KeepsBounds (.ldd p) ∧ KeepsBounds (.tld p) ∧
      KeepsBounds (.info p) := by
  and_intros
  all_goals intro s hs
  all_goals simp only [exec, execTmac, execTdiff, execLdd, execTld, execInfo]
  all_goals refine boundedOut_issueOp_of_loads hs fun w => ?_
  · exact loads_twoSlots (loads_goOn rfl rfl)
  · exact loads_twoSlots (loads_goOn rfl rfl)
  all_goals split
  · exact loads_fault _
  · exact loads_twoSlots (loads_goOn rfl rfl)
  · exact loads_fault _
  · exact loads_twoSlots (loads_goOn rfl rfl)
  · exact loads_fault _
  · exact loads_goOn rfl rfl

/-- CALL and LOOP push where the stack has room, and STACK is their fault where it has none (R95, R117). -/
theorem keepsBounds_pushes (p : ThreadId) : KeepsBounds (.call p) ∧ KeepsBounds (.loop p) := by
  constructor
  all_goals intro s hs
  all_goals obtain ⟨hstack, hmbox⟩ := hs p
  all_goals simp only [exec, execCall, execLoop]
  all_goals refine boundedOut_issueOp hs fun w => ?_
  · split
    · split
      · exact bounded_of_loads (loads_fault _) hs
      · exact bounded_complete hs (by simp only [jumpTo, List.length_append, List.length_singleton]; omega) hmbox
    · exact bounded_goOn hs hstack hmbox
  · generalize (if iField w 15 1 = 0 then word (iField w 16 32) else (s.thread p).gr (fA w)) = count
    split
    · exact bounded_complete hs hstack hmbox
    · split
      · exact bounded_of_loads (loads_fault _) hs
      · exact bounded_goOn hs (by simp only [List.length_append, List.length_singleton]; omega) hmbox

/-- RET and ENDL take the entry on top off, and ENDL puts back no more than it took (R95). -/
theorem keepsBounds_pops (p : ThreadId) : KeepsBounds (.ret p) ∧ KeepsBounds (.endl p) := by
  have hpop {l : List StackEnt} (h : l.length ≤ 4) : l.dropLast.length ≤ 4 := by
    rw [List.length_dropLast]
    omega
  constructor
  all_goals intro s hs
  all_goals obtain ⟨hstack, hmbox⟩ := hs p
  all_goals simp only [exec, execRet, execEndl]
  all_goals refine boundedOut_issueOp hs fun w => ?_
  · split
    · split
      · exact bounded_complete hs (hpop hstack) hmbox
      · exact bounded_of_loads (loads_fault _) hs
    · exact bounded_goOn hs hstack hmbox
  · split
    case h_1 a c htop =>
      have hne : (s.thread p).stack ≠ [] := by
        rintro h
        simp [h] at htop
      have hlen := List.length_pos_iff.2 hne
      split
      · exact bounded_goOn hs (hpop hstack) hmbox
      · exact bounded_complete hs
          (by simp only [List.length_append, List.length_dropLast, List.length_singleton]; omega) hmbox
    case h_2 => exact bounded_of_loads (loads_fault _) hs

/-- HALT, B, RAISE, KPOST and COMMIT. -/
theorem keepsBounds_control (p : ThreadId) :
    KeepsBounds (.halt p) ∧ KeepsBounds (.b p) ∧ KeepsBounds (.raise p) ∧ KeepsBounds (.kpost p) ∧
      KeepsBounds (.commit p) ∧ KeepsBounds (.undefinedOp p) := by
  and_intros
  all_goals intro s hs
  all_goals simp only [exec, execHalt, execB, execRaise, execKpost, execCommit, execUndefinedOp]
  rotate_right
  · refine boundedOut_next (bounded_of_loads ?_ hs)
    split <;> simp
  all_goals refine boundedOut_issueOp_of_loads hs fun w => ?_
  · rw [modThread_eq, loads_setThread (by rfl) (by rfl), loads_complete (f := id) rfl rfl]
  · split
    · exact loads_complete rfl rfl
    · exact loads_goOn rfl rfl
  · split
    · exact loads_fault _
    · exact (loads_of_outside (outside_raise _ _ _ _ _ _ rfl rfl)).trans (loads_goOn rfl rfl)
  · split
    · exact loads_fault _
    · split
      · exact loads_goOn rfl rfl
      · exact (loads_of_outside (outside_State_modAxis _ _ _ rfl)).trans (loads_goOn rfl rfl)
  · split
    · exact loads_fault _
    · exact (loads_waitFor _).trans (loads_issueCommit ..)

/-- Instructions that send to a spoke, an engine or the ways of a trigger. -/
theorem keepsBounds_issues (p : ThreadId) :
    KeepsBounds (.pulse p) ∧ KeepsBounds (.level p) ∧ KeepsBounds (.emit p) ∧ KeepsBounds (.anchor p) ∧
      KeepsBounds (.cancel p) ∧ KeepsBounds (.vstart p) ∧ KeepsBounds (.vjump p) ∧ KeepsBounds (.vrate p) ∧
      KeepsBounds (.vstop p) ∧ KeepsBounds (.trig p) := by
  and_intros
  all_goals intro s hs
  all_goals simp only [exec, execPulse, execLevel, execEmit, execAnchor, execCancel, execVstart, execVjump, execVrate,
    execVstop, execTrig]
  · exact boundedOut_issueE hs fun _ _ _ => loads_startIssue _
  · exact boundedOut_issueE hs fun _ _ _ => loads_startIssue _
  · refine boundedOut_issueE hs fun i d w => ?_
    unfold secondSlot
    (repeat' split) <;> simp
  · exact boundedOut_issueE hs fun _ _ _ => loads_startIssue _
  · exact boundedOut_issueE hs fun _ _ _ => loads_startIssue _
  all_goals refine boundedOut_issueOp_of_loads hs fun w => ?_
  all_goals simp only [view_ite, loads_fault, loads_startIssue, ite_self]

/-! ### Waits -/

theorem keepsBounds_waits (p : ThreadId) :
    KeepsBounds (.waitt p) ∧ KeepsBounds (.waite p) ∧ KeepsBounds (.waitq p) ∧ KeepsBounds (.ktake p) := by
  and_intros
  all_goals intro s hs
  all_goals simp only [exec, execWaitt, execWaite, execWaitq, execKtake]
  all_goals refine boundedOut_issueOp_of_loads hs fun w => ?_
  · refine loads_startWait ?_
    simp only [view_ite, loads_complete (f := Thread.step) rfl rfl, loads_waitFor, ite_self]
  · refine loads_startWait ?_
    simp only [view_ite, loads_releaseEvent, loads_expire, loads_waitFor, ite_self]
  · split
    · exact loads_fault _
    · refine loads_startWait ?_
      simp only [view_ite, loads_complete (f := fun t => { t with f := false }.step) rfl rfl, loads_expire,
        loads_waitFor, ite_self]
  · refine loads_startWait ?_
    split
    case h_1 t ht => exact loads_takeTarget ht
    case h_2 => exact loads_waitFor _

theorem keepsBounds_recv (p : ThreadId) : KeepsBounds (.recv p) := by
  intro s hs
  simp only [exec, execRecv]
  refine boundedOut_issueOp hs fun w => ?_
  unfold startWait
  split
  · exact bounded_of_loads (loads_fault _) hs
  dsimp only
  repeat' split
  · exact bounded_takeMail hs _ _
  · exact bounded_of_loads loads_expire hs
  · exact bounded_of_loads (loads_waitFor _) hs

/-- The ends of waits, and a held issue's next try. -/
theorem keepsBounds_releases (p : ThreadId) :
    KeepsBounds (.issueRetry p) ∧ KeepsBounds (.waittExpiry p) ∧ KeepsBounds (.waitDeadlineExpiry p) ∧
      KeepsBounds (.waiteRelease p) ∧ KeepsBounds (.waitqRelease p) ∧ KeepsBounds (.ktakeRelease p) ∧
      KeepsBounds (.commitAnswer p) := by
  and_intros
  all_goals refine keepsBounds_of_loads (fun _ => rfl) fun s => ?_
  all_goals try dsimp only
  all_goals repeat' split
  all_goals try exact rfl
  · exact loads_tryIssue _
  · exact loads_complete rfl rfl
  · exact loads_expire
  · exact loads_expire
  · exact loads_expire
  · exact loads_releaseEvent ..
  · exact loads_complete rfl rfl
  · cases hk : takeTarget p _ _ s with
    | none => rfl
    | some t => exact loads_takeTarget hk
  · exact loads_complete rfl rfl

theorem keepsBounds_recvRelease (p : ThreadId) : KeepsBounds (.recvRelease p) := by
  intro s hs
  refine boundedOut_next ?_
  repeat' split
  · exact bounded_takeMail hs _ _
  all_goals exact hs

end Sys2Proof.Proofs
end

section
/-! Every step keeps stacks within 4 entries and mailboxes within 8 (O6). -/

namespace Sys2Proof.Proofs

open Sys2Proof.Machine Sys2Proof.Laws

set_option Elab.async false

/-! ### What comes to a thread (R112, R126, R139, R141) -/

section
variable {p : ThreadId} {s : State}

@[simp] theorem loads_clate (b : Octets) : loads (clate p b s) = loads s := by simp [clate]
@[simp] theorem loads_cbad (b : Octets) : loads (cbad p b s) = loads s := by simp [cbad]
@[simp] theorem loads_cdone (b : Octets) : loads (cdone p b s) = loads s := by simp [cdone]
@[simp] theorem loads_actionDone (a : CtlAct) : loads (actionDone p a s) = loads s := by simp [actionDone]
@[simp] theorem loads_refuseState (a : CtlAct) : loads (refuseState p a s) = loads s := by simp [refuseState]
@[simp] theorem loads_ringAction (op : CtlOp) (b : Octets) : loads (ringAction p op b s) = loads s := by
  simp [ringAction]

theorem boundedOut_takeCmd (hs : s.threadsBounded) {mine : Nat → Bool} {f : Octets → State → State}
    (hf : ∀ b t, t.threadsBounded → (f b t).threadsBounded) : BoundedOut (takeCmd p mine f s) := by
  refine boundedOut_next ?_
  repeat' split
  case h_1.isTrue.isTrue => exact hf _ _ (bounded_setThread hs (hs p).1 (hs p).2)
  case h_1.isTrue.isFalse => exact bounded_of_loads (loads_cbad _) (bounded_setThread hs (hs p).1 (hs p).2)
  all_goals exact hs

end

theorem keepsBounds_ringCommands (p : ThreadId) :
    KeepsBounds (.cmdNop p) ∧ KeepsBounds (.cmdPost p) ∧ KeepsBounds (.cmdStart p) ∧ KeepsBounds (.cmdStop p) ∧
      KeepsBounds (.cmdResume p) := by
  refine ⟨?_, ?_, ?_, ?_, ?_⟩ <;> intro s hs
  all_goals simp only [exec, execCmdNop, execCmdPost, execCmdStart, execCmdStop, execCmdResume]
  all_goals refine boundedOut_takeCmd hs fun b t ht => ?_
  · exact bounded_of_loads (loads_cdone b) ht
  · repeat' split
    · exact bounded_of_loads (loads_cdone b) (bounded_placeMail ht _)
    · exact bounded_placeMail ht _
    · exact bounded_of_loads (loads_clate b) ht
  all_goals exact bounded_of_loads (loads_ringAction _ b) ht

/-- A start empties its thread's stack and mailbox (R126); no other action touches them. -/
theorem keepsBounds_threadActionDue (p : ThreadId) : KeepsBounds (.threadActionDue p) := by
  intro s hs
  refine boundedOut_next ?_
  have hset (a : CtlAct) {x : Thread} (hstack : x.stack = (s.thread p).stack) (hmbox : x.mbox = (s.thread p).mbox) :
      (actionDone p a (s.setThread p x)).threadsBounded :=
    bounded_of_loads ((loads_actionDone a).trans (loads_setThread hstack hmbox)) hs
  dsimp only
  split
  case isFalse => exact hs
  cases (s.thread p).act with
  | none => exact hs
  | some a =>
    cases hop : a.op with
    | stop =>
      simp only [hop]
      exact hset a (by rfl) (by rfl)
    | start =>
      simp only [hop]
      split
      · refine bounded_of_loads ((loads_actionDone a).trans (loads_of_outside (outside_freeTargets _ _ rfl))) ?_
        exact bounded_setThread hs (Nat.zero_le 4) (Nat.zero_le 8)
      · exact bounded_of_loads (loads_refuseState a) hs
    | resume =>
      simp only [hop]
      repeat' split
      · exact bounded_of_loads ((loads_fault 2).trans (loads_actionDone a)) hs
      · exact hset a (by rfl) (by rfl)
      · exact hset a (by rfl) (by rfl)
      · exact bounded_of_loads (loads_refuseState a) hs

theorem keepsBounds_mailboxEntry (p : ThreadId) : KeepsBounds (.mailboxEntry p) := by
  have hlate (v : MailVia) (d : DT) (t : State) : loads (lateAt v d t) = loads t := by cases v <;> simp [lateAt]
  intro s hs
  refine boundedOut_next ?_
  have htaken (l : List MailIn) : ({ s with pacer := { s.pacer with mail := l } } : State).threadsBounded :=
    bounded_of_loads (loads_of_th rfl) hs
  dsimp only
  repeat' split
  · exact hs
  · exact bounded_placeMail (htaken _) _
  · exact bounded_of_loads (hlate ..) (htaken _)
  · exact hs

theorem keepsBounds_threadRegisters (p : ThreadId) :
    KeepsBounds (.thStart p) ∧ KeepsBounds (.thStop p) ∧ KeepsBounds (.thResume p) := by
  refine ⟨?_, ?_, ?_⟩
  all_goals exact keepsBounds_of_loads (fun _ => rfl) (loads_byHost fun _ => loads_regAction ..)

/-! ### What Pacer is told, and the host's accesses -/

theorem keepsBounds_pacer :
    (∀ e, KeepsBounds (.pacerEventArrival e)) ∧ (∀ i, KeepsBounds (.placeFreed i)) ∧ KeepsBounds .bankCrcGo ∧
      KeepsBounds .bankCrcDone ∧ (∀ q x, KeepsBounds (.ringFetch q x)) := by
  and_intros
  all_goals intros
  all_goals refine keepsBounds_of_loads (fun _ => rfl) fun s => ?_
  · simp
  · split
    · exact loads_of_th rfl
    · rfl
  · exact loads_execBankCrcGo s
  · split
    · exact loads_of_th rfl
    · rfl
  · dsimp only
    (repeat' split) <;> simp

theorem keepsBounds_hostWrites :
    (∀ bus off v, KeepsBounds (.registerWrite bus off v)) ∧ (∀ addr v, KeepsBounds (.spiWriteBar0 addr v)) ∧
      (∀ bus addr data, KeepsBounds (.bar2Write bus addr data)) ∧ (∀ addr v, KeepsBounds (.spiWriteBar2 addr v)) := by
  and_intros
  all_goals intros
  all_goals intro s hs t ht
  all_goals simp only [exec, execRegisterWrite, execSpiWriteBar0, execBar2Write, execSpiWriteBar2] at ht
  all_goals refine bounded_of_loads (s := s) ?_ hs
  all_goals repeat' split at ht
  all_goals cases ht
  all_goals simp

/-- Descriptors that enter a spoke's queue raise LATE on their thread (R67). -/
theorem keepsBounds_descriptors (i : SpokeId) :
    KeepsBounds (.anchorDescriptor i) ∧ KeepsBounds (.pulseDescriptor i) ∧ KeepsBounds (.burstDescriptor i) ∧
      KeepsBounds (.trainDescriptor i) ∧ KeepsBounds (.levelDescriptor i) ∧ KeepsBounds (.windowDescriptor i) ∧
      KeepsBounds (.descriptorKindInvalid i) := by
  have henter {c : Instr} (k : Kind) (he : ∀ s, exec c s = .next (enterDesc i k s)) : KeepsBounds c :=
    keepsBounds_of_loads he fun s => loads_enterDesc s i k
  refine ⟨?_, henter .pulse fun _ => rfl, henter .burst fun _ => rfl, henter .train fun _ => rfl,
    henter .level fun _ => rfl, henter .window fun _ => rfl, ?_⟩
  all_goals refine keepsBounds_of_loads (fun _ => rfl) fun s => loads_takeDesc s fun d t => ?_
  · split <;> simp
  · exact loads_rejectDesc ..

/-! ### Commits, steps, the stack and the ports -/

theorem keepsBounds_commits :
    KeepsBounds .commitGo ∧ (∀ i, KeepsBounds (.notArmed i)) ∧ (∀ i, KeepsBounds (.prepare i)) ∧
      KeepsBounds .noarmDeadline ∧ KeepsBounds .stepRequest ∧ KeepsBounds .autoStepRequest ∧ KeepsBounds .stepRetry ∧
      KeepsBounds .autorestartRetry ∧ KeepsBounds .coordinatorDeadline ∧ KeepsBounds .stepDue := by
  and_intros
  all_goals intros
  all_goals refine keepsBounds_of_loads (fun _ => rfl) fun s => ?_
  · exact loads_execCommitGo s
  rotate_left 3
  · exact loads_execStepRequest s
  all_goals try dsimp only
  all_goals (repeat' split) <;> simp

theorem keepsBounds_armed (i : IslandId) : KeepsBounds (.armed i) := by
  refine keepsBounds_of_loads (fun _ => rfl) fun s => ?_
  dsimp only
  repeat' split
  · exact loads_of_th rfl
  · exact (loads_of_outside (outside_confirmAll _ rfl rfl)).trans (loads_of_th rfl)
  · exact (view_answerCoord ..).trans (loads_of_th rfl)
  all_goals exact loads_of_th rfl

theorem keepsBounds_pendingCopyDiscard (i : IslandId) : KeepsBounds (.pendingCopyDiscard i) := by
  refine keepsBounds_of_loads (fun _ => rfl) fun s => ?_
  dsimp only
  (repeat' split) <;> simp

/-- A cell received stands in Stoker; what it asks for is done behind that. -/
theorem boundedOut_receive {ty : Nat} {r : RingDir} {cell : Octets} {f : State → State} {s : State}
    (hs : s.threadsBounded) (hf : ∀ t, loads (f t) = loads t) : BoundedOut (receive ty r cell f s) := by
  refine boundedOut_next (bounded_of_loads ?_ hs)
  simp [hf]

theorem keepsBounds_cells (r : RingDir) (cell : List (BitVec 8)) :
    KeepsBounds (.ringRequest r cell) ∧ KeepsBounds (.ringPrepare r cell) ∧ KeepsBounds (.ringAnswer r cell) ∧
      KeepsBounds (.ringAbandon r cell) ∧ KeepsBounds (.ringTrigger r cell) := by
  refine ⟨?_, ?_, ?_, ?_, ?_⟩ <;> intro s hs
  all_goals simp only [exec, execRingRequest, execRingPrepare, execRingAnswer, execRingAbandon, execRingTrigger]
  · refine boundedOut_receive hs fun t => ?_
    split
    · exact view_coordRequest ..
    · rfl
  · exact boundedOut_receive hs fun t => loads_takePrepare ..
  · exact boundedOut_receive hs fun t => loads_takeAnswer ..
  · exact boundedOut_receive hs fun t => loads_takeAbandon ..
  · exact boundedOut_receive hs fun t => loads_takeCellTrigger ..

theorem keepsBounds_others :
    (∀ b, KeepsBounds (.relayFrame b)) ∧ KeepsBounds .join ∧ (∀ c b, KeepsBounds (.triggerFrame c b)) ∧
      (∀ c d o e, KeepsBounds (.frameEndReceived c d o e)) := by
  and_intros
  all_goals intros
  all_goals refine keepsBounds_of_loads (fun _ => rfl) fun s => ?_
  all_goals try dsimp only
  all_goals (repeat' split) <;> simp

/-! ### Swaps, the opening of the gates, and power -/

theorem keepsBounds_commitSwap : KeepsBounds .commitSwap := by
  have hturn (t : State) (i : IslandId) (ht : t.threadsBounded) :
      (if i = islHub then t else swapIfDue i t).threadsBounded := by
    split
    · exact ht
    · exact bounded_swapIfDue ht i
  intro s hs
  have hothers : (overIslands (fun i s => if i = islHub then s else swapIfDue i s) s).threadsBounded :=
    bounded_foldl hturn _ hs
  exact boundedOut_next (bounded_swapIfDue (bounded_of_loads (by simp) hothers) _)

/-- The opening of the gates brings back the islands' clocks, and with them what a swap does (R28, R48). -/
theorem keepsBounds_gateOpen : KeepsBounds .gateOpen := by
  intro s hs
  refine boundedOut_next ?_
  split
  case h_1 d _ =>
    split
    case isTrue =>
      have hcount : (startCount d s).threadsBounded := bounded_of_loads (by simp) hs
      have hresumed : (if s.hub.dayLock then startCount d s else resumeIslands (startCount d s)).threadsBounded := by
        split
        · exact hcount
        · exact bounded_resumeIslands hcount
      exact bounded_of_loads (by simp) hresumed
    case isFalse => exact hs
  case h_2 => exact hs

theorem keepsBounds_power : KeepsBounds .vinApplied ∧ KeepsBounds .railUp ∧ KeepsBounds .duskRailsDown := by
  refine ⟨?_, ?_, ?_⟩
  all_goals intro s hs
  all_goals refine boundedOut_next ?_
  · split
    · exact bounded_of_loads (loads_of_outside (outside_State_modDyn _ _ rfl)) (bounded_powerOff s)
    · exact hs
  · have hrisen (f : Dynamo → Dynamo) : (if (s.modDyn f).dyn.rails = 7 then releaseReset (s.modDyn f)
        else s.modDyn f).threadsBounded := by
      split
      · exact bounded_releaseReset _
      · exact bounded_of_loads (loads_of_outside (outside_State_modDyn _ _ rfl)) hs
    split
    · exact hrisen _
    · exact hs
  · split
    · exact bounded_railDown hs
    · exact hs

/-- Every command keeps the bounds. -/
theorem keepsBounds (c : Instr) : KeepsBounds c := by
  cases h : (mayChange c).pacer with
  | false => exact keepsBounds_of_framed h
  | true =>
    cases c <;> cases h <;> simp only [keepsBounds_registers, keepsBounds_tables, keepsBounds_pushes, keepsBounds_pops,
      keepsBounds_control, keepsBounds_issues, keepsBounds_waits, keepsBounds_recv, keepsBounds_releases,
      keepsBounds_recvRelease, keepsBounds_ringCommands, keepsBounds_threadActionDue, keepsBounds_mailboxEntry,
      keepsBounds_threadRegisters, keepsBounds_pacer, keepsBounds_hostWrites, keepsBounds_descriptors,
      keepsBounds_commits, keepsBounds_armed, keepsBounds_pendingCopyDiscard, keepsBounds_cells, keepsBounds_others,
      keepsBounds_commitSwap, keepsBounds_gateOpen, keepsBounds_power]

/-- One ft of time and the links' cells change no thread. -/
theorem bounded_idle {s : State} (hs : s.threadsBounded) : s.idle.threadsBounded := by
  have htick : loads s.tick = loads s := by
    unfold State.tick
    (repeat' split) <;> exact loads_of_th rfl
  exact bounded_of_loads ((loads_of_outside (by simp [State.idle])).trans htick) hs

/-- Settles O6: command by command; only CALL, LOOP and an entry placed lengthen a list, each where there is room. -/
theorem threadBoundsKept : Obligations.ThreadBoundsKept := by
  unfold Obligations.ThreadBoundsKept
  intro s t hs ht
  cases hp : s.pending with
  | nil =>
    rw [step, hp] at ht
    cases ht
    exact bounded_idle hs
  | cons c rest =>
    rw [step, hp] at ht
    exact keepsBounds c { s with pending := rest } hs t ht

/-- Settles O4: nothing is stored and no thread has anything on its stack or in its mailbox. -/
theorem invariantsAtReset : Obligations.InvariantsAtReset :=
  ⟨by decide, fun p => by rw [reset_thread]; exact ⟨Nat.zero_le 4, Nat.zero_le 8⟩⟩

end Sys2Proof.Proofs
end

section
/-! Control instructions (O21): what each comes to where its fields are as R92 wants them, and its faults. -/

namespace Sys2Proof.Proofs

open Sys2Proof.Machine Sys2Proof.Laws

set_option Elab.async false

section
variable {s : State} {p : ThreadId} {w : BitVec 64} (hi : s.issues p w)
include hi

/-- An instruction whose fields are legal has its effect. -/
theorem issueOp_legal {op : Nat} {ok : BitVec 64 → Bool} {f : BitVec 64 → State → State} (ho : iOp w = op)
    (hok : ok w = true) : issueOp p op ok f s = .next (f w s) := by
  rw [issueOp_issues hi ho, if_pos hok]

/-- An instruction whose fields are not is ILLEGAL (R92). -/
theorem issueOp_illegal {op : Nat} {ok : BitVec 64 → Bool} {f : BitVec 64 → State → State} (ho : iOp w = op)
    (hok : ok w = false) : issueOp p op ok f s = .next (fault p 1 s) := by
  rw [issueOp_issues hi ho, if_neg (by simp [hok])]

end

/-- The low bits of a word, read as a number and put back. -/
theorem ofNat_iField (w : BitVec 64) (n : Nat) : BitVec.ofNat n (iField w 0 n) = w.setWidth n := by
  apply BitVec.eq_of_toNat_eq
  simp [iField, fieldOf]

/-- An instruction that goes on, below 16 383. -/
theorem goOn_completed {s : State} {p : ThreadId} (f : Thread → Thread) (h : (s.thread p).ip ≠ 0x3FFF) :
    goOn p f s = s.completed p (f (s.thread p)).step := goOn_eq f h

/-! ### Each instruction of good form -/

section
variable {s : State} {p : ThreadId} {w : BitVec 64} (hi : s.issues p w)
include hi

theorem exec_nop (ho : iOp w = 0x00) (hz : iField w 0 56 = 0) : exec (.nop p) s = .next (goOn p id s) := by
  change execNop p s = _
  rw [execNop, issueOp_legal hi ho (by simp [zero, hz])]

theorem exec_halt (ho : iOp w = 0x01) (hz : iField w 0 56 = 0) : exec (.halt p) s = .next (s.setThread p
    { s.thread p with
      state := .halted, waitOn := .none, oldBank := false, instr := (s.thread p).instr + 1,
      nextSlot := s.slot + 16 }) := by
  change execHalt p s = _
  rw [execHalt, issueOp_legal hi ho (by simp [zero, hz])]
  simp [complete]

theorem exec_b (ho : iOp w = 0x02) (hz : iField w 14 38 = 0) : exec (.b p) s = .next (
    if condHolds (s.thread p) (iField w 52 4) then s.completed p { s.thread p with ip := w.setWidth 14 }
    else goOn p id s) := by
  change execB p s = _
  rw [execB, issueOp_legal hi ho (by simp [zero, hz]), ← ofNat_iField]
  rfl

theorem exec_call (ho : iOp w = 0x03) (hz : iField w 14 38 = 0) : exec (.call p) s = .next (
    if condHolds (s.thread p) (iField w 52 4) then
      if 4 ≤ (s.thread p).stack.length then fault p 3 s
      else s.completed p { s.thread p with
        ip := w.setWidth 14, stack := (s.thread p).stack ++ [.call ((s.thread p).ip + 1)] }
    else goOn p id s) := by
  change execCall p s = _
  rw [execCall, issueOp_legal hi ho (by simp [zero, hz]), ← ofNat_iField]
  rfl

theorem exec_ret (ho : iOp w = 0x04) (hz : iField w 0 52 = 0) : exec (.ret p) s = .next (
    if condHolds (s.thread p) (iField w 52 4) then
      match (s.thread p).stack.getLast? with
      | some (.call a) => s.completed p { s.thread p with ip := a, stack := (s.thread p).stack.dropLast }
      | _ => fault p 3 s
    else goOn p id s) := by
  change execRet p s = _
  rw [execRet, issueOp_legal hi ho (by simp [zero, hz])]
  rfl

/-- The count of a LOOP, from its word or from a G register. -/
def LoopCount (t : Thread) (w : BitVec 64) (c : Word) : Prop :=
  iField w 15 1 = 0 ∧ iField w 48 4 = 0 ∧ c = BitVec.ofNat 32 (iField w 16 32) ∨
    iField w 15 1 = 1 ∧ iField w 48 4 < 8 ∧ iField w 16 32 = 0 ∧ c = t.gr (iField w 48 4)

theorem exec_loop {c : Word} (ho : iOp w = 0x05) (hz : iField w 52 4 = 0 ∧ iField w 14 1 = 0)
    (hc : LoopCount (s.thread p) w c) : exec (.loop p) s = .next (
      if c = 0 then s.completed p { s.thread p with ip := w.setWidth 14 }
      else if 4 ≤ (s.thread p).stack.length then fault p 3 s
      else goOn p (fun t => { t with stack := t.stack ++ [.loop (t.ip + 1) c] }) s) := by
  have hok : (zero w 52 4 && zero w 14 1 &&
      if iField w 15 1 = 0 then zero w 48 4 else isG (fA w) && zero w 16 32) = true := by
    rcases hc with ⟨h15, ha, -⟩ | ⟨h15, ha, himm, -⟩
    · simp [zero, hz, h15, ha]
    · simp [zero, hz, h15, isG, fA, ha, himm]
  have hcount : (if iField w 15 1 = 0 then word (iField w 16 32) else (s.thread p).gr (fA w)) = c := by
    rcases hc with ⟨h15, -, rfl⟩ | ⟨h15, -, -, rfl⟩
    · rw [if_pos h15]; rfl
    · rw [if_neg (by omega)]; rfl
  change execLoop p s = _
  rw [execLoop, issueOp_legal hi ho hok, ← ofNat_iField, ← hcount]
  rfl

theorem exec_endl (ho : iOp w = 0x06) (hz : iField w 0 56 = 0) : exec (.endl p) s = .next (
    match (s.thread p).stack.getLast? with
    | some (.loop a c) =>
      if c = 1 then goOn p (fun t => { t with stack := t.stack.dropLast }) s
      else s.completed p { s.thread p with ip := a, stack := (s.thread p).stack.dropLast ++ [.loop a (c - 1)] }
    | _ => fault p 3 s) := by
  change execEndl p s = _
  rw [execEndl, issueOp_legal hi ho (by simp [zero, hz])]
  rfl

end

/-- A stack that is empty, or with an entry of another kind on top, has no entry of the kind wanted there. -/
theorem getLast?_of_other {l r : List StackEnt} {x : StackEnt} (h : l = [] ∨ l = r ++ [x]) :
    l.getLast? = none ∨ l.getLast? = some x := by
  rcases h with rfl | rfl
  · exact .inl rfl
  · exact .inr List.getLast?_concat

/-- Settles O21: each instruction's own equation, with the branch that the condition, the count and the stack take. -/
theorem pacerControlCompletes : Obligations.PacerControlCompletes := by
  unfold Obligations.PacerControlCompletes
  and_intros
  · rintro s p w t rfl hi ho hz hip
    rw [exec_nop hi ho hz, goOn_completed _ hip]
    rfl
  · rintro s p w t rfl hi ho hz
    rw [exec_halt hi ho hz]
  · rintro s p w t rfl hi ho hz hc
    rw [exec_b hi ho hz, if_pos hc]
  · rintro s p w t rfl hi ho hz hc hip
    rw [exec_b hi ho hz, if_neg (by simp [hc]), goOn_completed _ hip]
    rfl
  · rintro s p w t rfl hi ho hz hc hroom
    rw [exec_call hi ho hz, if_pos hc, if_neg (by omega)]
  · rintro s p w t rfl hi ho hz hc hfull
    rw [exec_call hi ho hz, if_pos hc, if_pos hfull]
  · rintro s p w t rfl hi ho hz hc hip
    rw [exec_call hi ho hz, if_neg (by simp [hc]), goOn_completed _ hip]
    rfl
  · rintro s p w t a r rfl hi ho hz hc hst
    rw [exec_ret hi ho hz, if_pos hc, hst, List.getLast?_concat, List.dropLast_concat]
  · rintro s p w t a c r rfl hi ho hz hc hst
    rw [exec_ret hi ho hz, if_pos hc]
    rcases getLast?_of_other hst with h | h <;> rw [h]
  · rintro s p w t rfl hi ho hz hc hip
    rw [exec_ret hi ho hz, if_neg (by simp [hc]), goOn_completed _ hip]
    rfl
  · rintro s p w t c rfl hi ho hz hc hne hroom hip
    rw [exec_loop hi ho hz hc, if_neg hne, if_neg (by omega), goOn_completed _ hip]
    rfl
  · rintro s p w t rfl hi ho hz hc
    rw [exec_loop hi ho hz (c := 0) (hc.imp (fun ⟨h15, ha, himm⟩ => ⟨h15, ha, by rw [himm]; rfl⟩)
      fun ⟨h15, ha, himm, h⟩ => ⟨h15, ha, himm, h.symm⟩), if_pos rfl]
  · rintro s p w t rfl hi ho hz hc hfull
    have hlt := iField_lt w 16 32
    rcases hc with ⟨h15, ha, himm⟩ | ⟨h15, ha, himm, hne⟩
    · rw [exec_loop hi ho hz (.inl ⟨h15, ha, rfl⟩), if_neg (fun h => himm ?_), if_pos hfull]
      have hnat := congrArg BitVec.toNat h
      rwa [BitVec.toNat_ofNat, Nat.mod_eq_of_lt hlt] at hnat
    · rw [exec_loop hi ho hz (.inr ⟨h15, ha, himm, rfl⟩), if_neg hne, if_pos hfull]
  · rintro s p w t a c r rfl hi ho hz hst hne
    rw [exec_endl hi ho hz, hst, List.getLast?_concat, List.dropLast_concat]
    dsimp only
    rw [if_neg hne]
  · rintro s p w t a r rfl hi ho hz hst hip
    rw [exec_endl hi ho hz, hst, List.getLast?_concat]
    dsimp only
    rw [if_pos rfl, goOn_completed _ hip, hst, List.dropLast_concat]
    rfl
  · rintro s p w t a r rfl hi ho hz hst
    rw [exec_endl hi ho hz]
    rcases getLast?_of_other hst with h | h <;> rw [h]
  · rintro s p w t rfl ⟨hm, hw⟩ hop
    change execUndefinedOp p s = _
    rw [execUndefinedOp, hm, hw, hop]
    rfl
  · intro s p w c hi hc
    simp only [List.mem_cons, Prod.mk.injEq, List.not_mem_nil, or_false] at hc
    rcases hc with ⟨⟨rfl, ho⟩ | ⟨rfl, ho⟩ | ⟨rfl, ho⟩, hz⟩ | ⟨⟨rfl, ho⟩ | ⟨rfl, ho⟩, hz⟩ | ⟨⟨rfl, ho⟩, hz⟩
    all_goals simp only [exec, execNop, execHalt, execEndl, execB, execCall, execRet]
    all_goals exact issueOp_illegal hi ho (by simp [zero, hz])
  · rintro s p w t c rfl hi hip hc
    simp only [List.mem_cons, Prod.mk.injEq, List.not_mem_nil, or_false] at hc
    rcases hc with ⟨rfl, rfl⟩ | ⟨⟨rfl, ho⟩ | ⟨rfl, ho⟩, hz, hc⟩ | ⟨⟨rfl, ho⟩, hz, hc⟩
    · rw [exec_nop hi rfl rfl, goOn_top _ hip]
    · rw [exec_b hi ho hz, if_neg (by simp [hc]), goOn_top _ hip]
    · rw [exec_call hi ho hz, if_neg (by simp [hc]), goOn_top _ hip]
    · rw [exec_ret hi ho hz, if_neg (by simp [hc]), goOn_top _ hip]

end Sys2Proof.Proofs
end

section
/-! Arithmetic on G registers (O22), and the two faults that every instruction that goes on shares. -/

namespace Sys2Proof.Proofs

open Sys2Proof.Machine Sys2Proof.Laws

set_option Elab.async false

/-! ### ILLEGAL and ADDR (R92, R94) -/

/-- A command is of an instruction with these legal fields that at 16 383 faults with ADDR. -/
def FaultsOf (p : ThreadId) (x : Instr × Nat × (BitVec 64 → Bool)) : Prop :=
  ∃ f : BitVec 64 → State → State, (∀ s, exec x.1 s = issueOp p x.2.1 x.2.2 f s) ∧
    ∀ w s, (s.thread p).ip = 0x3FFF → f w s = fault p 2 s

section
variable {p : ThreadId} {l : List (Instr × Nat × (BitVec 64 → Bool))} (hl : ∀ x ∈ l, FaultsOf p x)
  {s : State} {w : BitVec 64} (hi : s.issues p w) {c : Instr} {ok : Bool}
  (hc : (c, iOp w, ok) ∈ l.map fun x => (x.1, x.2.1, x.2.2 w))
include hl hi hc

theorem exec_illegal_of_mem (hok : ok = false) : exec c s = .next (fault p 1 s) := by
  obtain ⟨⟨c', op, okf⟩, hx, he⟩ := List.mem_map.1 hc
  obtain ⟨f, hexec, -⟩ := hl _ hx
  obtain ⟨rfl, ho, rfl⟩ : c' = c ∧ op = iOp w ∧ okf w = ok := by simpa using he
  exact (hexec s).trans (issueOp_illegal hi ho.symm hok)

theorem exec_addr_of_mem (hip : (s.thread p).ip = 0x3FFF) (hok : ok = true) : exec c s = .next (fault p 2 s) := by
  obtain ⟨⟨c', op, okf⟩, hx, he⟩ := List.mem_map.1 hc
  obtain ⟨f, hexec, htop⟩ := hl _ hx
  obtain ⟨rfl, ho, rfl⟩ : c' = c ∧ op = iOp w ∧ okf w = ok := by simpa using he
  rw [hexec]
  exact (issueOp_legal hi ho.symm hok).trans (congrArg _ (htop w s hip))

end

/-- A field that is 0 has both its parts 0. -/
theorem iField_parts_zero {w : BitVec 64} {lo : Nat} (m n : Nat) (h : iField w lo (m + n) = 0) :
    iField w lo m = 0 ∧ iField w (lo + m) n = 0 := by
  rw [iField_add] at h
  simpa using h

/-! ### Flags (R89, R97) -/

theorem flagsAdd_eq (t : Thread) (x y : Word) : t.flagsAdd x y =
    t.flags (x + y == 0) (x + y).msb (2 ^ 32 ≤ x.toNat + y.toNat)
      ((x.toInt + y.toInt < -2 ^ 31 ∨ 2 ^ 31 ≤ x.toInt + y.toInt : Bool)) := by
  rw [Bool.decide_or]
  rfl

theorem flagsSub_eq (t : Thread) (x y : Word) : t.flagsSub x y =
    t.flags (x - y == 0) (x - y).msb (x.toNat < y.toNat)
      ((x.toInt - y.toInt < -2 ^ 31 ∨ 2 ^ 31 ≤ x.toInt - y.toInt : Bool)) := by
  rw [Bool.decide_or]
  rfl

theorem shl_eq (t : Thread) (x : Word) (k : Nat) :
    shl t x k = (t.flags (x <<< k == 0) (x <<< k).msb (k ≠ 0 ∧ x.getLsbD (32 - k) = true) false, x <<< k) := by
  by_cases hk : k = 0
  · simp [shl, shlOut, Thread.flagsG, hk]
  · simp [shl, shlOut, Thread.flagsG, hk, bne_iff_ne.2 hk]

theorem shr_eq (t : Thread) (x : Word) (k : Nat) :
    shr t x k = (t.flags (x >>> k == 0) (x >>> k).msb (k ≠ 0 ∧ x.getLsbD (k - 1) = true) false, x >>> k) := by
  by_cases hk : k = 0
  · simp [shr, shrOut, Thread.flagsG, hk]
  · simp [shr, shrOut, Thread.flagsG, hk, bne_iff_ne.2 hk]

/-! ### The two forms of a G instruction (R91) -/

/-- The low 32 bits of a word as its immediate. -/
theorem imm32_eq (w : BitVec 64) : imm32 w = w.setWidth 32 := ofNat_iField w 32

/-- A shift's count is the low five bits of its word. -/
theorem imm32_mod (w : BitVec 64) : (imm32 w).toNat % 32 = iField w 0 5 := by
  simp only [imm32, word, iField, fieldOf, BitVec.toNat_ofNat]
  omega

section
variable {s : State} {p : ThreadId} {w : BitVec 64} (hi : s.issues p w) {op : Nat} (ho : iOp w = op)
  (hip : (s.thread p).ip ≠ 0x3FFF) {d a : Fin 8} (hd : iField w 52 4 = d.val) (ha : iField w 48 4 = a.val)
include hi ho hip ha

section
include hd

/-- What a three-register instruction comes to. -/
theorem aluR_completed {b : Fin 8} (hb : iField w 44 4 = b.val) (hz : iField w 0 44 = 0)
    (f : Thread → Word → Word → Thread × Word) :
    aluR p op f s = .next (let r := f (s.thread p) ((s.thread p).g.get a) ((s.thread p).g.get b)
      s.completed p { r.1 with ip := r.1.ip + 1, g := r.1.g.set d.val r.2 d.isLt }) := by
  have hok : okR isG isG isG w = true := by simp [okR, isG, fD, fA, fB, zero, hd, ha, hb, hz]
  rw [aluR, issueOp_legal hi ho hok, goOn_completed _ hip]
  simp only [fD, fA, fB, hd, ha, hb, thread_gr, thread_setG, Thread.step]

/-- What an instruction with an immediate comes to. -/
theorem aluI_completed {ok : BitVec 64 → Bool} (hok : ok w = true) (f : Thread → Word → Word → Thread × Word) :
    aluI p op ok f s = .next (let r := f (s.thread p) ((s.thread p).g.get a) (imm32 w)
      s.completed p { r.1 with ip := r.1.ip + 1, g := r.1.g.set d.val r.2 d.isLt }) := by
  rw [aluI, issueOp_legal hi ho hok, goOn_completed _ hip]
  simp only [fD, fA, hd, ha, thread_gr, thread_setG, Thread.step]

end

end

/-- The G instructions, with the fields each takes. -/
def gInstrs (p : ThreadId) : List (Instr × Nat × (BitVec 64 → Bool)) :=
  [(.add p, 0x10, okR isG isG isG), (.sub p, 0x11, okR isG isG isG), (.and p, 0x12, okR isG isG isG),
    (.or p, 0x13, okR isG isG isG), (.xor p, 0x14, okR isG isG isG), (.shl p, 0x15, okR isG isG isG),
    (.shr p, 0x16, okR isG isG isG), (.mul p, 0x17, okR isG isG isG), (.cmp p, 0x18, okR none' isG isG),
    (.mov p, 0x19, okR isG isG none'), (.movi p, 0x1A, okI isG none'), (.addi p, 0x1B, okI isG isG),
    (.andi p, 0x1C, okI isG isG), (.cmpi p, 0x1D, okI none' isG),
    (.shli p, 0x1E, fun w => isG (fD w) && isG (fA w) && zero w 5 43),
    (.shri p, 0x1F, fun w => isG (fD w) && isG (fA w) && zero w 5 43)]

theorem faultsOf_gInstrs (p : ThreadId) : ∀ x ∈ gInstrs p, FaultsOf p x := by
  simp only [gInstrs, List.forall_mem_cons]
  and_intros
  rotate_right
  · exact fun x hx => absurd hx List.not_mem_nil
  all_goals
    simp only [FaultsOf, exec, execAdd, execSub, execAnd, execOr, execXor, execShl, execShr, execMul, execCmp, execMov,
      execMovi, execAddi, execAndi, execCmpi, execShli, execShri, aluR, aluI]
    exact ⟨_, fun _ => rfl, fun w s h => goOn_top _ h⟩

/-- Settles O22: each instruction's result and flags from its form's equation, and its faults from those all share. -/
theorem gArithmeticCompletes : Obligations.GArithmeticCompletes := by
  unfold Obligations.GArithmeticCompletes
  and_intros
  · rintro s p w t d a b x y rfl hi ho hd ha hb hz rfl rfl hip
    change execAdd p s = _
    rw [execAdd, aluR_completed hi ho hip hd ha hb hz]
    simp only [flagsAdd_eq]
    rfl
  · rintro s p w t d a b x y rfl hi ho hd ha hb hz rfl rfl hip
    change execSub p s = _
    rw [execSub, aluR_completed hi ho hip hd ha hb hz]
    simp only [flagsSub_eq]
    rfl
  · rintro s p w t d a b x y rfl hi ho hd ha hb hz rfl rfl hip
    change execAnd p s = _
    rw [execAnd, aluR_completed hi ho hip hd ha hb hz]
    rfl
  · rintro s p w t d a b x y rfl hi ho hd ha hb hz rfl rfl hip
    change execOr p s = _
    rw [execOr, aluR_completed hi ho hip hd ha hb hz]
    rfl
  · rintro s p w t d a b x y rfl hi ho hd ha hb hz rfl rfl hip
    change execXor p s = _
    rw [execXor, aluR_completed hi ho hip hd ha hb hz]
    rfl
  · rintro s p w t d a b x y rfl hi ho hd ha hb hz rfl rfl hip
    change execShl p s = _
    rw [execShl, aluR_completed hi ho hip hd ha hb hz]
    simp only [shl_eq]
    rfl
  · rintro s p w t d a b x y rfl hi ho hd ha hb hz rfl rfl hip
    change execShr p s = _
    rw [execShr, aluR_completed hi ho hip hd ha hb hz]
    simp only [shr_eq]
    rfl
  · rintro s p w t d a b x y rfl hi ho hd ha hb hz rfl rfl hip
    change execMul p s = _
    rw [execMul, aluR_completed hi ho hip hd ha hb hz]
    rfl
  · rintro s p w t a b x y rfl hi ho hd ha hb hz rfl rfl hip
    change execCmp p s = _
    have hok : okR none' isG isG w = true := by simp [okR, none', isG, fD, fA, fB, zero, hd, ha, hb, hz]
    rw [execCmp, issueOp_legal hi ho hok, goOn_completed _ hip, fA, fB, ha, hb, thread_gr, thread_gr, flagsSub_eq]
    rfl
  · rintro s p w t d a rfl hi ho hd ha hz hip
    obtain ⟨hz, hb⟩ := iField_parts_zero 44 4 hz
    change execMov p s = _
    have hok : okR isG isG none' w = true := by simp [okR, none', isG, fD, fA, fB, zero, hd, ha, hb, hz]
    rw [execMov, issueOp_legal hi ho hok, goOn_completed _ hip, fA, fD, ha, hd, thread_gr, thread_setG]
    rfl
  · rintro s p w t d rfl hi ho hd hz hip
    obtain ⟨hz, ha⟩ := iField_parts_zero 16 4 hz
    change execMovi p s = _
    have hok : okI isG none' w = true := by simp [okI, none', isG, fD, fA, zero, hd, ha, hz]
    rw [execMovi, issueOp_legal hi ho hok, goOn_completed _ hip, fD, hd, thread_setG, imm32_eq]
    rfl
  · rintro s p w t d a x y rfl hi ho hd ha hz rfl rfl hip
    change execAddi p s = _
    rw [execAddi, aluI_completed hi ho hip hd ha (by simp [okI, isG, fD, fA, hd, ha, zero, hz])]
    simp only [flagsAdd_eq, imm32_eq]
    rfl
  · rintro s p w t d a x y rfl hi ho hd ha hz rfl rfl hip
    change execAndi p s = _
    rw [execAndi, aluI_completed hi ho hip hd ha (by simp [okI, isG, fD, fA, hd, ha, zero, hz]), imm32_eq]
    rfl
  · rintro s p w t a x y rfl hi ho hd ha hz rfl rfl hip
    change execCmpi p s = _
    have hok : okI none' isG w = true := by simp [okI, none', isG, fD, fA, zero, hd, ha, hz]
    rw [execCmpi, issueOp_legal hi ho hok, goOn_completed _ hip, fA, ha, thread_gr, imm32_eq, flagsSub_eq]
    rfl
  · rintro s p w t d a x k rfl hi ho hd ha hz rfl rfl hip
    change execShli p s = _
    rw [execShli, aluI_completed hi ho hip hd ha (by simp [isG, fD, fA, hd, ha, zero, hz])]
    simp only [shl_eq, imm32_mod]
    rfl
  · rintro s p w t d a x k rfl hi ho hd ha hz rfl rfl hip
    change execShri p s = _
    rw [execShri, aluI_completed hi ho hip hd ha (by simp [isG, fD, fA, hd, ha, zero, hz])]
    simp only [shr_eq, imm32_mod]
    rfl
  · intro s p w c ok hi hc hok
    exact exec_illegal_of_mem (faultsOf_gInstrs p) hi hc hok
  · intro s p w c ok hi hip hc hok
    exact exec_addr_of_mem (faultsOf_gInstrs p) hi hc hip hok

end Sys2Proof.Proofs
end

section
/-! Arithmetic on times (O23): each result as a number modulo 2^80. -/

namespace Sys2Proof.Proofs

open Sys2Proof.Machine Sys2Proof.Laws

set_option Elab.async false

/-! ### Times and their parts as numbers (R16, R98) -/

/-- Two words one above the other, as a number. -/
theorem append_eq_ofNat {m n : Nat} (hi : BitVec m) (lo : BitVec n) :
    BitVec.append hi lo = BitVec.ofNat (m + n) (lo.toNat + hi.toNat * 2 ^ n) := by
  change hi ++ lo = _
  apply BitVec.eq_of_toNat_eq
  have h : lo.toNat + hi.toNat * 2 ^ n < 2 ^ (m + n) := by
    rw [Nat.pow_add]
    nlinarith [lo.isLt, hi.isLt]
  rw [BitVec.toNat_append, BitVec.toNat_ofNat, Nat.mod_eq_of_lt h, ← Nat.shiftLeft_add_eq_or_of_lt lo.isLt,
    Nat.shiftLeft_eq, Nat.add_comm]

theorem ofNat_low48 (w : BitVec 64) : BitVec.ofNat 80 (iField w 0 48) = (w.setWidth 48).setWidth 80 := by
  apply BitVec.eq_of_toNat_eq
  simp [iField, fieldOf]

/-- TLDH's result: its word above the low 48 bits that stand. -/
theorem ofNat_high32 (w : BitVec 64) (x : DT) : BitVec.ofNat 80 (x.toNat % 2 ^ 48 + iField w 0 32 * 2 ^ 48) =
    BitVec.append (w.setWidth 32) (x.setWidth 48) := by
  rw [append_eq_ofNat, BitVec.toNat_setWidth, ← ofNat_iField, BitVec.toNat_ofNat, Nat.mod_eq_of_lt (iField_lt w 0 32)]

/-- TADDI's displacement, extended with its sign. -/
theorem signed_iField (w : BitVec 64) :
    BitVec.ofInt 80 (signed 48 (iField w 0 48)) = (w.setWidth 48).signExtend 80 := by
  have h : signed 48 (iField w 0 48) = (w.setWidth 48).toInt := by
    rw [BitVec.toInt_eq_toNat_cond, BitVec.toNat_setWidth]
    simp only [signed, iField, fieldOf]
    split_ifs <;> omega
  rw [h]
  rfl

theorem dtAdd_eq (d : DT) (n : Nat) : dtAdd d n = BitVec.ofNat 80 (d.toNat + n) := by
  rw [dtAdd, BitVec.ofNat_add, BitVec.ofNat_toNat, BitVec.setWidth_eq]

theorem dtWord_eq (d : DT) (k : Nat) : dtWord d k = (d >>> (32 * k)).setWidth 32 := by
  apply BitVec.eq_of_toNat_eq
  simp [dtWord]

/-- A part of a DT replaced, by its three parts as numbers. -/
theorem putPart_toNat (x : DT) (k : Nat) (g : Word) : (putPart x k g).toNat =
    (if k = 0 then g.toNat else x.toNat % 2 ^ 32) + (if k = 1 then g.toNat else x.toNat / 2 ^ 32 % 2 ^ 32) * 2 ^ 32 +
      (if k = 2 then g.toNat % 2 ^ 16 else x.toNat / 2 ^ 64) * 2 ^ 64 := by
  have hx := x.isLt
  have hg := g.isLt
  simp only [putPart, dt3, dtWord, BitVec.toNat_ofNat, apply_ite BitVec.toNat, Nat.shiftRight_eq_div_pow]
  split_ifs <;> omega

/-- TDIFF's whole units, all ones where they do not fit. -/
theorem units_eq {x y n : Nat} {r : Word}
    (hr : r.toNat = if x < y then 0 else if (x - y) / n < 2 ^ 32 then (x - y) / n else 2 ^ 32 - 1) :
    word (if x < y then 0 else min ((x - y) / n) (2 ^ 32 - 1)) = r := by
  apply BitVec.eq_of_toNat_eq
  rw [hr, word, BitVec.toNat_ofNat]
  generalize (x - y) / n = q
  split_ifs with hlt hfit
  · rfl
  · omega
  · omega

/-! ### An instruction that goes on (R88) -/

section
variable {s : State} {p : ThreadId} {w : BitVec 64} (hi : s.issues p w) {op : Nat} (ho : iOp w = op)
  {ok : BitVec 64 → Bool} (hok : ok w = true) (hip : (s.thread p).ip ≠ 0x3FFF)
include hi ho hok hip

theorem issueOp_goOn (f : BitVec 64 → Thread → Thread) :
    issueOp p op ok (fun w => goOn p (f w)) s = .next (s.completed p (f w (s.thread p)).step) := by
  rw [issueOp_legal hi ho hok, goOn_completed _ hip]

theorem issueOp_twoSlots_second (f : BitVec 64 → Thread → Thread) (h2 : (s.thread p).nextSlot + 16 ≤ s.slot) :
    issueOp p op ok (fun w => twoSlots p (goOn p (f w))) s = .next (s.completed p (f w (s.thread p)).step) := by
  rw [issueOp_legal hi ho hok, twoSlots_second _ hip h2, goOn_completed _ hip]

theorem issueOp_twoSlots_first (f : BitVec 64 → State → State) (h1 : s.slot < (s.thread p).nextSlot + 16) :
    issueOp p op ok (fun w => twoSlots p (f w)) s = .next s := by
  rw [issueOp_legal hi ho hok, twoSlots_first _ hip h1]

end

theorem twoSlots_top {s : State} {p : ThreadId} (f : State → State) (h : (s.thread p).ip = 0x3FFF) :
    twoSlots p f s = fault p 2 s := by rw [twoSlots, if_pos h]

/-- The time instructions, with the fields each takes. -/
def tInstrs (p : ThreadId) : List (Instr × Nat × (BitVec 64 → Bool)) :=
  [(.tmov p, 0x20, okR isT isT none'), (.tadd p, 0x21, okR isT isT isT), (.tsub p, 0x22, okR isT isT isT),
    (.taddi p, 0x23, fun w => isT (fD w) && isT (fA w)),
    (.taddg p, 0x24, fun w => isT (fD w) && isT (fA w) && isG (fB w) && fSC w != 3 && zero w 0 42),
    (.tmac p, 0x25, fun w => isT (fD w) && isT (fA w) && isG (fB w) && zero w 32 12),
    (.tcmp p, 0x26, okR none' isT isT),
    (.tdiff p, 0x27, fun w => isG (fD w) && isT (fA w) && isT (fB w) && fSC w != 3 && zero w 0 42),
    (.tldl p, 0x28, fun w => isT (fD w) && none' (fA w)), (.tldh p, 0x29, okI isT none'),
    (.tget p, 0x2A, fun w => isG (fD w) && isT (fA w) && zero w 2 46 && iField w 0 2 != 3),
    (.tput p, 0x2B, fun w => isT (fD w) && isG (fA w) && zero w 2 46 && iField w 0 2 != 3),
    (.now p, 0x2C, okR isT none' none')]

theorem faultsOf_tInstrs (p : ThreadId) : ∀ x ∈ tInstrs p, FaultsOf p x := by
  simp only [tInstrs, List.forall_mem_cons]
  and_intros
  rotate_right
  · exact fun x hx => absurd hx List.not_mem_nil
  all_goals
    simp only [FaultsOf, exec, execTmov, execTadd, execTsub, execTaddi, execTaddg, execTmac, execTcmp, execTdiff,
      execTldl, execTldh, execTget, execTput, execNow]
    exact ⟨_, fun _ => rfl, fun w s h => by simp only [goOn_top _ h, twoSlots_top _ h]⟩

/-- Settles O23: each instruction's result as the number its clause names, and its faults from those all share. -/
theorem timeInstructionsComplete : Obligations.TimeInstructionsComplete := by
  unfold Obligations.TimeInstructionsComplete
  and_intros
  · rintro s p w t d a rfl hi ho hd ha hz hip
    obtain ⟨hz, hb⟩ := iField_parts_zero 44 4 hz
    change execTmov p s = _
    have hok : okR isT isT none' w = true := by simp [okR, none', fD, fA, fB, zero, hd, ha, hb, hz]
    rw [execTmov, issueOp_goOn hi ho hok hip]
    simp only [fD, fA, hd, ha, thread_tr, thread_setT]
    rfl
  · rintro s p w t d a b x y rfl hi ho hd ha hb hz rfl rfl hip
    change execTadd p s = _
    have hok : okR isT isT isT w = true := by simp [okR, fD, fA, fB, zero, hd, ha, hb, hz]
    rw [execTadd, issueOp_goOn hi ho hok hip]
    simp only [fD, fA, fB, hd, ha, hb, thread_tr, thread_setT]
    rfl
  · rintro s p w t d a b x y rfl hi ho hd ha hb hz rfl rfl hip
    change execTsub p s = _
    have hok : okR isT isT isT w = true := by simp [okR, fD, fA, fB, zero, hd, ha, hb, hz]
    rw [execTsub, issueOp_goOn hi ho hok hip]
    simp only [fD, fA, fB, hd, ha, hb, thread_tr, thread_setT]
    rfl
  · rintro s p w t a b x y rfl hi ho hd ha hb hz rfl rfl hip
    change execTcmp p s = _
    have hok : okR none' isT isT w = true := by simp [okR, none', fD, fA, fB, zero, hd, ha, hb, hz]
    rw [execTcmp, issueOp_goOn hi ho hok hip]
    simp only [fA, fB, ha, hb, thread_tr]
    rfl
  · rintro s p w t d a rfl hi ho hd ha hip
    change execTaddi p s = _
    have hok : (isT (fD w) && isT (fA w)) = true := by simp [fD, fA, hd, ha]
    rw [execTaddi, issueOp_goOn hi ho hok hip]
    simp only [fD, fA, hd, ha, thread_tr, thread_setT, dtAddI, signed_iField]
    rfl
  · rintro s p w t d a b n rfl hi ho hd ha hb hz rfl hip
    obtain ⟨hsc, hz⟩ := hz
    change execTaddg p s = _
    have hok : (isT (fD w) && isT (fA w) && isG (fB w) && fSC w != 3 && zero w 0 42) = true := by
      simp [fD, fA, fB, fSC, zero, hd, ha, hb, hz, hsc.ne]
    rw [execTaddg, issueOp_goOn hi ho hok hip]
    simp only [fD, fA, fB, hd, ha, hb, thread_tr, thread_gr, thread_setT, dtAdd_eq]
    rfl
  · rintro s p w t d a b rfl hi ho hd ha hb hz h2 hip
    change execTmac p s = _
    have hok : (isT (fD w) && isT (fA w) && isG (fB w) && zero w 32 12) = true := by
      simp [fD, fA, fB, zero, hd, ha, hb, hz]
    rw [execTmac, issueOp_twoSlots_second hi ho hok hip _ h2]
    simp only [fD, fA, fB, hd, ha, hb, thread_tr, thread_gr, thread_setT, dtAdd_eq]
    rfl
  · rintro s p w t d a b n x y r rfl hi ho hd ha hb hz hn rfl rfl hr h2 hip
    obtain ⟨hsc, hz⟩ := hz
    have hscale : scaleOf (iField w 42 2) = n := hn.symm
    change execTdiff p s = _
    have hok : (isG (fD w) && isT (fA w) && isT (fB w) && fSC w != 3 && zero w 0 42) = true := by
      simp [fD, fA, fB, fSC, zero, hd, ha, hb, hz, hsc.ne]
    rw [execTdiff, issueOp_twoSlots_second hi ho hok hip _ h2]
    simp only [fD, fA, fB, fSC, hscale, hd, ha, hb, thread_tr, thread_setG, units_eq hr, Bool.decide_and]
    rfl
  · rintro s p w t d rfl hi ho hd ha hip
    change execTldl p s = _
    have hok : (isT (fD w) && none' (fA w)) = true := by simp [fD, fA, none', hd, ha]
    rw [execTldl, issueOp_goOn hi ho hok hip]
    simp only [fD, hd, thread_setT, ofNat_low48]
    rfl
  · rintro s p w t d rfl hi ho hd hz hip
    obtain ⟨hz, ha⟩ := iField_parts_zero 16 4 hz
    change execTldh p s = _
    have hok : okI isT none' w = true := by simp [okI, fD, fA, none', zero, hd, ha, hz]
    rw [execTldh, issueOp_goOn hi ho hok hip]
    simp only [fD, hd, thread_tr, thread_setT, ofNat_high32]
    rfl
  · rintro s p w t d a rfl hi ho hd ha hz hip
    obtain ⟨hz, hk⟩ := hz
    change execTget p s = _
    have hok : (isG (fD w) && isT (fA w) && zero w 2 46 && iField w 0 2 != 3) = true := by
      simp [fD, fA, zero, hd, ha, hz, hk.ne]
    rw [execTget, issueOp_goOn hi ho hok hip]
    simp only [fD, fA, hd, ha, thread_tr, thread_setG, dtWord_eq]
    rfl
  · rintro s p w t d a r x rfl hi ho hd ha hz rfl hr hip
    obtain ⟨hz, hk⟩ := hz
    have hput : putPart ((s.thread p).t.get d) (iField w 0 2) ((s.thread p).g.get a) = r :=
      BitVec.eq_of_toNat_eq ((putPart_toNat ..).trans hr.symm)
    change execTput p s = _
    have hok : (isT (fD w) && isG (fA w) && zero w 2 46 && iField w 0 2 != 3) = true := by
      simp [fD, fA, zero, hd, ha, hz, hk.ne]
    rw [execTput, issueOp_goOn hi ho hok hip]
    simp only [fD, fA, hd, ha, thread_tr, thread_gr, thread_setT, hput]
    rfl
  · rintro s p w t d r rfl hi ho hd hz hr hip
    obtain ⟨hz, ha⟩ := iField_parts_zero 48 4 hz
    obtain ⟨hz, hb⟩ := iField_parts_zero 44 4 hz
    change execNow p s = _
    have hok : okR isT none' none' w = true := by simp [okR, none', fD, fA, fB, zero, hd, ha, hb, hz]
    have hnow : slotDt s.slot = r := by
      rw [slotDt, ← hr, BitVec.ofNat_toNat, BitVec.setWidth_eq]
    rw [execNow, issueOp_legal hi ho hok, goOn_completed _ hip, hnow]
    simp only [fD, hd, thread_setT]
    rfl
  · intro s p w c ok hi hc hok
    exact exec_illegal_of_mem (faultsOf_tInstrs p) hi hc hok
  · intro s p w c ok hi hip hc hok
    exact exec_addr_of_mem (faultsOf_tInstrs p) hi hc hip hok
  · intro s p w c ok hi h1 hip hc hok
    simp only [List.mem_cons, Prod.mk.injEq, List.not_mem_nil, or_false] at hc
    rcases hc with ⟨rfl, ho, rfl⟩ | ⟨rfl, ho, rfl⟩
    · change execTmac p s = _
      rw [execTmac, issueOp_twoSlots_first hi ho hok hip _ h1]
    · change execTdiff p s = _
      rw [execTdiff, issueOp_twoSlots_first hi ho hok hip _ h1]

end Sys2Proof.Proofs
end

section
/-! Table loads and INFO (O24). -/

namespace Sys2Proof.Proofs

open Sys2Proof.Machine Sys2Proof.Laws

set_option Elab.async false

/-! ### Words and parts of words -/

theorem ofNat_iField_shift (c : BitVec 64) (lo n : Nat) : BitVec.ofNat n (iField c lo n) = (c >>> lo).setWidth n := by
  apply BitVec.eq_of_toNat_eq
  simp [iField, fieldOf, Nat.shiftRight_eq_div_pow]

/-- Half of a word, by the bit that names it. -/
theorem word_half (c w : BitVec 64) : word (iField c (32 * iField w 46 1) 32) =
    if iField w 46 1 = 0 then c.setWidth 32 else (c >>> 32).setWidth 32 := by
  rw [word, ofNat_iField_shift]
  have hlt := iField_lt w 46 1
  split_ifs with h
  · simp [h]
  · rw [show iField w 46 1 = 1 by omega]

theorem ofNat_twoWords (lo hi : BitVec 64) :
    BitVec.ofNat 80 (lo.toNat + iField hi 0 16 * 2 ^ 64) = BitVec.append (hi.setWidth 16) lo := by
  rw [append_eq_ofNat, ← ofNat_iField, BitVec.toNat_ofNat, Nat.mod_eq_of_lt (iField_lt hi 0 16)]

/-! ### LDD and TLD (R99) -/

/-- The address a table load names: FORM, and Ga on top of it where X is 1. -/
def TableAddr (t : Thread) (w : BitVec 64) (a : Nat) : Prop :=
  iField w 47 1 = 0 ∧ iField w 48 4 = 0 ∧ a = iField w 0 14 ∨
    iField w 47 1 = 1 ∧ iField w 48 4 < 8 ∧ a = iField w 0 14 + (t.gr (iField w 48 4)).toNat

theorem okX_of_tableAddr {t : Thread} {w : BitVec 64} {a : Nat} (h : TableAddr t w a) : okX w = true := by
  rcases h with ⟨hx, ha, -⟩ | ⟨hx, ha, -⟩
  · simp [okX, hx, none', fA, ha]
  · simp [okX, hx, isG, fA, ha]

theorem tableAddr_eq {t : Thread} {w : BitVec 64} {a : Nat} (h : TableAddr t w a) : tableAddr t w = a := by
  rcases h with ⟨hx, -, rfl⟩ | ⟨hx, -, rfl⟩
  · simp [tableAddr, hx]
  · simp [tableAddr, hx, fA]

section
variable {s : State} {p : ThreadId} {w : BitVec 64} (hi : s.issues p w)
include hi

theorem exec_ldd {a : Nat} (ho : iOp w = 0x2D) (hd : iField w 52 4 < 8) (hz : iField w 14 32 = 0)
    (ha : TableAddr (s.thread p) w a) : exec (.ldd p) s = .next (
      if 16383 < a then fault p 2 s
      else twoSlots p (goOn p fun t => t.setG (fD w)
        (if iField w 46 1 = 0 then (s.code p a).setWidth 32 else (s.code p a >>> 32).setWidth 32)) s) := by
  change execLdd p s = _
  rw [execLdd, issueOp_legal hi ho (by simp [isG, fD, hd, okX_of_tableAddr ha, zero, hz])]
  simp only [tableAddr_eq ha, word_half]

theorem exec_tld {a : Nat} (ho : iOp w = 0x2E) (hd : 8 ≤ iField w 52 4) (hz : iField w 14 33 = 0)
    (ha : TableAddr (s.thread p) w a) : exec (.tld p) s = .next (
      if 16383 < a + 1 then fault p 2 s
      else twoSlots p (goOn p fun t => t.setT (fD w)
        (BitVec.append ((s.code p (a + 1)).setWidth 16) (s.code p a))) s) := by
  change execTld p s = _
  rw [execTld, issueOp_legal hi ho (by simp [isT_fD hd, okX_of_tableAddr ha, zero, hz])]
  simp only [tableAddr_eq ha, ofNat_twoWords]

/-! ### INFO (R100) -/

theorem exec_info (ho : iOp w = 0x2F) (hd : iField w 52 4 < 8) (hz : iField w 4 44 = 0) (hsel : iField w 0 4 ≤ 8)
    (ha : if iField w 0 4 = 6 then iField w 48 4 < 8 else iField w 48 4 = 0) : exec (.info p) s = .next (
      if iField w 0 4 = 6 ∧ 63 < ((s.thread p).gr (fA w)).toNat then fault p 4 s
      else goOn p (fun t => t.setG (fD w) (infoOf s p (iField w 0 4) ((s.thread p).gr (fA w)).toNat)) s) := by
  have hA : (if iField w 0 4 = 6 then isG (fA w) else none' (fA w)) = true := by
    split_ifs at ha ⊢ with h6
    · exact decide_eq_true ha
    · exact beq_iff_eq.2 ha
  change execInfo p s = _
  rw [execInfo, issueOp_legal hi ho (by rw [hA]; simp [isG, fD, hd, zero, hz, hsel])]

end

/-- The facts of INFO but the places of a spoke, each under its SEL. -/
def infoFacts (s : State) (p : ThreadId) : List (Nat × Nat) :=
  [(0, p.val), (1, s.stoker.pos.toNat), (2, if s.pair.side then 1 else 0), (3, s.commit.gen.toNat),
    (4, s.commitStatus.toNat), (5, (s.thread p).mbox.length % 2 ^ 32), (7, (s.thread p).lastSrc.toNat),
    (8, if s.noon.epoch then 1 else 0)]

theorem infoOf_fact {s : State} {p : ThreadId} {x : Nat × Nat} (ga : Nat) (h : x ∈ infoFacts s p) :
    infoOf s p x.1 ga = word x.2 := by
  have hself (y : Word) : y = word y.toNat := by simp [word]
  simp only [infoFacts, List.mem_cons, List.not_mem_nil, or_false] at h
  rcases h with rfl | rfl | rfl | rfl | rfl | rfl | rfl | rfl
  · rfl
  · rfl
  · rfl
  · exact hself _
  · exact hself _
  · exact BitVec.eq_of_toNat_eq (by simp [infoOf, word])
  · rfl
  · rfl

theorem infoOf_eq {s : State} {p : ThreadId} {sel : Nat} {r : Word} (ga : Nat) (h : (sel, r.toNat) ∈ infoFacts s p) :
    infoOf s p sel ga = r := (infoOf_fact ga h).trans (by simp [word])

theorem infoFacts_sel {s : State} {p : ThreadId} {x : Nat × Nat} (h : x ∈ infoFacts s p) : x.1 ≤ 8 ∧ x.1 ≠ 6 := by
  simp only [infoFacts, List.mem_cons, List.not_mem_nil, or_false] at h
  rcases h with rfl | rfl | rfl | rfl | rfl | rfl | rfl | rfl <;> simp

/-- INFO's word where its immediate is SEL 6 and nothing else. -/
theorem sel_six {w : BitVec 64} (h : iField w 0 48 = 6) : iField w 0 4 = 6 ∧ iField w 4 44 = 0 := by
  have hlt := iField_lt w 0 4
  have hadd := iField_add w 0 4 44
  rw [h, Nat.zero_add] at hadd
  omega

theorem infoOf_places (s : State) (p : ThreadId) (i : SpokeId) :
    infoOf s p 6 i.val = BitVec.ofNat 32 (64 - s.pacer.used.get i) := by
  have h : Fin.ofNat 64 i.val = i := Fin.ext (Nat.mod_eq_of_lt i.isLt)
  simp only [infoOf, h]
  rfl

/-- Settles O24: each load by its address and its slot, and INFO by the fact that SEL names. -/
theorem tablesAndInfoComplete : Obligations.TablesAndInfoComplete := by
  unfold Obligations.TablesAndInfoComplete
  and_intros
  · rintro s p w t d a rfl hi ho hd hz ha hle h2 hip
    rw [exec_ldd hi ho (by omega) hz ha, if_neg (by omega), twoSlots_second _ hip h2, goOn_completed _ hip, fD, hd,
      thread_setG]
    rfl
  · rintro s p w t a rfl hi ho hd hz ha hlt
    rw [exec_ldd hi ho hd hz (.inr ha), if_pos hlt]
  · rintro s p w t d a rfl hi ho hd hz ha hlt h2 hip
    rw [exec_tld hi ho (by omega) hz ha, if_neg (by omega), twoSlots_second _ hip h2, goOn_completed _ hip, fD, hd,
      thread_setT]
    rfl
  · rintro s p w t rfl hi ho hd hz ⟨hx, ha⟩ htop
    rw [exec_tld hi ho hd hz (.inl ⟨hx, ha, rfl⟩), if_pos (by omega)]
  · rintro s p w t d r rfl hi ho hd hz hr hip
    obtain ⟨hz, ha⟩ := iField_parts_zero 44 4 hz
    obtain ⟨hle, h6⟩ := infoFacts_sel hr
    rw [exec_info hi ho (by omega) hz hle (by rwa [if_neg h6]), if_neg (fun h => h6 h.1), goOn_completed _ hip, fD, hd,
      thread_setG, infoOf_eq _ hr]
    rfl
  · rintro s p w t d a i rfl hi ho hd ha hsel hga hip
    obtain ⟨h6, hz⟩ := sel_six hsel
    rw [exec_info hi ho (by omega) hz (by omega) (by rw [if_pos h6]; omega), fA, ha, thread_gr, hga,
      if_neg (by omega), goOn_completed _ hip, fD, hd, thread_setG, h6, infoOf_places]
    rfl
  · rintro s p w t a rfl hi ho hd ha hsel hga
    obtain ⟨h6, hz⟩ := sel_six hsel
    rw [exec_info hi ho hd hz (by omega) (by rw [if_pos h6]; omega), fA, ha, thread_gr, if_pos ⟨h6, hga⟩]
  · rintro s p w t c a rfl hi h1 hip ha (⟨hc, hd, hz, hle⟩ | ⟨hc, hd, hz, hlt⟩)
    · obtain ⟨rfl, ho⟩ := Prod.mk.injEq .. ▸ hc
      rw [exec_ldd hi ho hd hz ha, if_neg (by omega), twoSlots_first _ hip h1]
    · obtain ⟨rfl, ho⟩ := Prod.mk.injEq .. ▸ hc
      rw [exec_tld hi ho hd hz ha, if_neg (by omega), twoSlots_first _ hip h1]
  · rintro s p w c hi (⟨hc, hok⟩ | ⟨hc, hok⟩ | ⟨hc, hok⟩)
    all_goals
      obtain ⟨rfl, ho⟩ := Prod.mk.injEq .. ▸ hc
      simp only [exec, execLdd, execTld, execInfo]
    · exact issueOp_illegal hi ho hok
    · exact issueOp_illegal hi ho hok
    · exact issueOp_illegal hi ho (by simp only [hok, Bool.false_and])

end Sys2Proof.Proofs
end

section
/-! Waits (O27, O28): what each ends with, where it starts and where it is released. -/

namespace Sys2Proof.Proofs

open Sys2Proof.Machine Sys2Proof.Laws

set_option Elab.async false

/-! ### How a wait ends (R134, R136, R138) -/

theorem setT_val (t : Thread) (d : Fin 8) (x : DT) : t.setT d.val x = { t with t := t.t.set d.val x d.isLt } := by
  simp only [Thread.setT, Nat.mod_eq_of_lt d.isLt]

theorem releaseEvent_none (p : ThreadId) (e : EventId) (s : State) : releaseEvent p e none s = s.completed p
    { s.thread p with
      pend := (s.thread p).pend &&& ~~~(1#256 <<< e.val), f := false, ip := (s.thread p).ip + 1,
      cleared := some (e, s.slot, none) } := rfl

theorem releaseEvent_some (p : ThreadId) (e : EventId) (a b : Fin 8) (s : State) :
    releaseEvent p e (some (a, b)) s = s.completed p
      { s.thread p with
        pend := (s.thread p).pend &&& ~~~(1#256 <<< e.val), f := false, ip := (s.thread p).ip + 1,
        cleared := some (e, s.slot, some (a, b))
        t := (s.thread p).t.set a.val (s.pacer.evMem.get e).1 a.isLt
        g := (s.thread p).g.set b.val (s.pacer.evMem.get e).2 b.isLt } := by
  simp only [releaseEvent, Thread.takeEvent, setT_val, thread_setG]
  rfl

theorem expire_eq (p : ThreadId) (s : State) :
    expire p s = s.completed p { s.thread p with f := true, ip := (s.thread p).ip + 1 } := rfl

theorem takeMail_cons {p : ThreadId} {s : State} {m : MailEnt} {r : List MailEnt} (a b : Fin 8)
    (h : (s.thread p).mbox = m :: r) : takeMail p a b s = s.completed p
      { s.thread p with
        mbox := r, lastSrc := m.src, f := false, ip := (s.thread p).ip + 1
        t := (s.thread p).t.set a.val m.dt a.isLt, g := (s.thread p).g.set b.val m.word b.isLt } := by
  simp only [takeMail, h, setT_val, thread_setG]
  rfl

section
variable {s : State} {p : ThreadId} {a : AxisId} (d : Fin 8)

theorem takeTarget_none (h : (s.axis a).tgts.find? (fun g => g.thread == p) = none) :
    takeTarget p a d s = some (s.completed p { s.thread p with f := true, z := true, ip := (s.thread p).ip + 1 }) := by
  simp only [takeTarget, h]
  rfl

variable {g : Target} (h : (s.axis a).tgts.find? (fun g => g.thread == p) = some g)
include h

theorem takeTarget_time {x : DT} (hg : g.st = .time x) : takeTarget p a d s =
    some ((s.setAxis a { s.axis a with tgts := (s.axis a).tgts.erase g }).completed p
      { s.thread p with f := false, ip := (s.thread p).ip + 1, t := (s.thread p).t.set d.val x d.isLt }) := by
  simp only [takeTarget, h, hg, setT_val]
  rfl

theorem takeTarget_noTime (hg : g.st = .noTime) : takeTarget p a d s =
    some ((s.setAxis a { s.axis a with tgts := (s.axis a).tgts.erase g }).completed p
      { s.thread p with f := true, z := false, ip := (s.thread p).ip + 1 }) := by
  simp only [takeTarget, h, hg]
  rfl

theorem takeTarget_posted (hg : g.st = .posted) : takeTarget p a d s = none := by
  simp only [takeTarget, h, hg]

end

/-! ### Releases -/

/-- Settles O28: each release in the thread's slot, by what its wait is for. -/
theorem waitReleasesComplete : Obligations.WaitReleasesComplete := by
  unfold Obligations.WaitReleasesComplete
  and_intros
  · rintro s p t x rfl hu hw hx
    change execWaittExpiry p s = _
    rw [execWaittExpiry, if_pos hu]
    simp only [hw, State.reached, hx, if_true]
    rfl
  · rintro s p t e x o rfl hu hw hx hp
    change execWaitDeadlineExpiry p s = _
    rw [execWaitDeadlineExpiry, if_pos hu]
    simp only [hw, State.reached, hx, hp, Bool.not_false, Bool.and_self, if_true, expire_eq]
  · rintro s p t a b x rfl hu hw hx hm
    change execWaitDeadlineExpiry p s = _
    rw [execWaitDeadlineExpiry, if_pos hu]
    simp only [hw, State.reached, hx, hm, List.isEmpty_nil, Bool.and_self, if_true, expire_eq]
  · rintro s p t i n x rfl hu hw hx hn
    change execWaitDeadlineExpiry p s = _
    rw [execWaitDeadlineExpiry, if_pos hu]
    simp only [hw, State.reached, hx, State.freePlaces, hn, decide_true, Bool.and_self, if_true, expire_eq]
  · rintro s p t e dl a b rfl hu hw hp
    change execWaiteRelease p s = _
    rw [execWaiteRelease, if_pos hu]
    simp only [hw, hp, if_true, releaseEvent_some]
  · rintro s p t e dl rfl hu hw hp
    change execWaiteRelease p s = _
    rw [execWaiteRelease, if_pos hu]
    simp only [hw, hp, if_true, releaseEvent_none]
  · rintro s p t dl a b m r rfl hu hw hm
    change execRecvRelease p s = _
    rw [execRecvRelease, if_pos hu]
    simp only [hw, takeMail_cons a b hm]
  · rintro s p t a d g x rfl hu hw hf hg
    change execKtakeRelease p s = _
    rw [execKtakeRelease, if_pos hu]
    simp only [hw, takeTarget_time d hf hg, Option.getD_some]
  · rintro s p t i n dl rfl hu hw hn
    change execWaitqRelease p s = _
    rw [execWaitqRelease, if_pos hu]
    simp only [hw, State.freePlaces, hn, if_true]
    rfl
  · rintro s p t r c rfl hu hw
    change execCommitAnswer p s = _
    have hc : word c.toNat = c.setWidth 32 := by rw [word, BitVec.ofNat_toNat]
    have hf : (c != 0) = decide (c ≠ 0) := Bool.eq_iff_iff.2 (by simp)
    rw [execCommitAnswer, if_pos hu]
    simp only [hw, thread_setG, hc, hf]
    rfl
  · rintro s p t a d g rfl hu hw hf hg
    change execKtakeRelease p s = _
    rw [execKtakeRelease, if_pos hu]
    simp only [hw, takeTarget_noTime d hf hg, Option.getD_some]

/-! ### A wait's start (R111, R125) -/

theorem waitFor_eq (p : ThreadId) (on : WaitOn) (s : State) : waitFor p on s =
    s.setThread p { s.thread p with state := .wait, waitOn := on, nextSlot := s.slot + 16 } := rfl

/-- A wait's deadline: TA where bit `b` of its word is 1, and none where it is 0. -/
def WaitDl (t : Thread) (w : BitVec 64) (b : Nat) (d : Fin 8) (dl : Option DT) : Prop :=
  iField w b 1 = 1 ∧ iField w 52 4 = 8 + d.val ∧ dl = some (t.t.get d) ∨
    iField w b 1 = 0 ∧ iField w 52 4 = 0 ∧ dl = none

/-- Where a WAITE puts the event's DT and cause: in Td and Ge where RD is 1. -/
def WaiteDst (w : BitVec 64) (dst : Option (Fin 8 × Fin 8)) : Prop :=
  (∃ a b, iField w 42 1 = 1 ∧ iField w 48 4 = 8 + a.val ∧ iField w 44 4 = b.val ∧ dst = some (a, b)) ∨
    iField w 42 1 = 0 ∧ iField w 48 4 = 0 ∧ iField w 44 4 = 0 ∧ dst = none

section
variable {t : Thread} {w : BitVec 64} {b : Nat} {d : Fin 8} {dl : Option DT} (h : WaitDl t w b d dl)
include h

theorem okDl_of_waitDl : (if iField w b 1 = 1 then isT (fD w) else none' (fD w)) = true := by
  rcases h with ⟨hb, hd, -⟩ | ⟨hb, hd, -⟩
  · rw [if_pos hb, fD, hd, isT_val]
  · rw [if_neg (by omega), fD, hd]; rfl

theorem deadline_of_waitDl : (if iField w b 1 = 1 then some (t.tr (fD w)) else none) = dl := by
  rcases h with ⟨hb, hd, rfl⟩ | ⟨hb, -, rfl⟩
  · rw [if_pos hb, fD, hd, thread_tr]
  · rw [if_neg (by omega)]

end

theorem ofNat_reg (a : Fin 8) : Fin.ofNat 8 (8 + a.val) = a := Fin.ext (by simp [Fin.ofNat])

theorem okDst_of_waiteDst {w : BitVec 64} {dst : Option (Fin 8 × Fin 8)} (h : WaiteDst w dst) :
    (if iField w 42 1 = 1 then isT (fA w) && isG (fB w) else none' (fA w) && none' (fB w)) = true := by
  rcases h with ⟨a, b, hr, ha, hb, -⟩ | ⟨hr, ha, hb, -⟩
  · rw [if_pos hr, fA, fB, ha, hb, isT_val, isG_val]; rfl
  · rw [if_neg (by omega), fA, fB, ha, hb]; rfl

theorem dst_of_waiteDst {w : BitVec 64} {dst : Option (Fin 8 × Fin 8)} (h : WaiteDst w dst) :
    (if iField w 42 1 = 1 then some (Fin.ofNat 8 (fA w), Fin.ofNat 8 (fB w)) else none) = dst := by
  rcases h with ⟨a, b, hr, ha, hb, rfl⟩ | ⟨hr, -, -, rfl⟩
  · rw [if_pos hr, fA, fB, ha, hb, ofNat_reg, Fin.ofNat_val_eq_self]
  · rw [if_neg (by omega)]

section
variable {s : State} {p : ThreadId} {w : BitVec 64} (hi : s.issues p w) {d : Fin 8} {dl : Option DT}
include hi

theorem exec_waitt (ho : iOp w = 0x60) (hd : iField w 52 4 = 8 + d.val) (hz : iField w 0 52 = 0) :
    exec (.waitt p) s = .next (
      if (s.thread p).ip = 0x3FFF then fault p 2 s
      else if s.reached ((s.thread p).t.get d) then complete p Thread.step s
      else waitFor p (.time ((s.thread p).t.get d)) s) := by
  change execWaitt p s = _
  rw [execWaitt, issueOp_legal hi ho (by simp [fD, hd, zero, hz])]
  simp only [startWait, fD, hd, thread_tr]

theorem exec_waite {e : EventId} {dst : Option (Fin 8 × Fin 8)} (ho : iOp w = 0x61)
    (hdl : WaitDl (s.thread p) w 43 d dl) (hz : iField w 8 34 = 0) (he : iField w 0 8 = e.val) (hdst : WaiteDst w dst) : exec (.waite p) s = .next (
      if (s.thread p).ip = 0x3FFF then fault p 2 s
      else if (s.thread p).pend.getLsbD e.val then releaseEvent p e dst s
      else if dl.any s.reached then expire p s
      else waitFor p (.event e dl dst) s) := by
  change execWaite p s = _
  rw [execWaite, issueOp_legal hi ho (by rw [okDl, okDl_of_waitDl hdl, okDst_of_waiteDst hdst]; simp [zero, hz])]
  simp only [startWait, deadline, deadline_of_waitDl hdl, dst_of_waiteDst hdst, he, Fin.ofNat_val_eq_self]

theorem exec_recv {a b : Fin 8} (ho : iOp w = 0x62) (hdl : WaitDl (s.thread p) w 43 d dl)
    (ha : iField w 48 4 = 8 + a.val) (hb : iField w 44 4 = b.val) (hz : iField w 0 43 = 0) : exec (.recv p) s = .next (
      if (s.thread p).ip = 0x3FFF then fault p 2 s
      else if !(s.thread p).mbox.isEmpty then takeMail p a b s
      else if dl.any s.reached then expire p s
      else waitFor p (.recv dl a b) s) := by
  change execRecv p s = _
  rw [execRecv, issueOp_legal hi ho (by rw [okDl, okDl_of_waitDl hdl]; simp [fA, fB, ha, hb, zero, hz])]
  simp only [startWait, deadline, deadline_of_waitDl hdl, fA, fB, ha, hb, ofNat_reg, Fin.ofNat_val_eq_self]

/-- WAITQ's fields but its spoke and its deadline. -/
def WaitqOk (w : BitVec 64) : Prop :=
  okSpoke w = true ∧ iField w 48 4 = 0 ∧ iField w 7 32 = 0 ∧ 1 ≤ iField w 0 7 ∧ iField w 0 7 ≤ 64

theorem exec_waitq_spoke (ho : iOp w = 0x45) (hok : WaitqOk w) (hdl : WaitDl (s.thread p) w 39 d dl) :
    exec (.waitq p) s = .next (
      if 63 < spokeOf (s.thread p) w then fault p 4 s
      else if (s.thread p).ip = 0x3FFF then fault p 2 s
      else if iField w 0 7 ≤ s.freePlaces (Fin.ofNat 64 (spokeOf (s.thread p) w)) then
        s.completed p { s.thread p with f := false, ip := (s.thread p).ip + 1 }
      else if dl.any s.reached then expire p s
      else waitFor p (.queue (Fin.ofNat 64 (spokeOf (s.thread p) w)) (iField w 0 7) dl) s) := by
  obtain ⟨hsp, ha, hz, h1, h64⟩ := hok
  change execWaitq p s = _
  rw [execWaitq, issueOp_legal hi ho (by rw [okDl_of_waitDl hdl]; simp [none', fA, ha, hsp, zero, hz, h1, h64])]
  simp only [startWait, deadline_of_waitDl hdl]
  rfl

theorem exec_waitq {i : SpokeId} (ho : iOp w = 0x45) (hok : WaitqOk w) (hdl : WaitDl (s.thread p) w 39 d dl)
    (hsp : spokeOf (s.thread p) w = i.val) (hip : (s.thread p).ip ≠ 0x3FFF) : exec (.waitq p) s = .next (
      if iField w 0 7 ≤ 64 - s.pacer.used.get i then
        s.completed p { s.thread p with f := false, ip := (s.thread p).ip + 1 }
      else if dl.any s.reached then expire p s
      else waitFor p (.queue i (iField w 0 7) dl) s) := by
  rw [exec_waitq_spoke hi ho hok hdl, hsp, if_neg (by omega), if_neg hip, Fin.ofNat_val_eq_self]
  rfl

theorem exec_ktake {a : AxisId} (ho : iOp w = 0x55) (hd : iField w 52 4 = 8 + d.val)
    (hz : iField w 43 9 = 0 ∧ iField w 0 40 = 0) (ha : iField w 40 3 = a.val) : exec (.ktake p) s = .next (
      if (s.thread p).ip = 0x3FFF then fault p 2 s
      else (takeTarget p a d s).getD (waitFor p (.take a d) s)) := by
  change execKtake p s = _
  rw [execKtake, issueOp_legal hi ho (by simp [fD, hd, zero, hz])]
  simp only [startWait, fD, hd, ha, ofNat_reg, Fin.ofNat_val_eq_self]
  cases takeTarget p a d s <;> rfl

end

/-- The wait has its deadline where TA's time is reached. -/
theorem waitDl_some {t : Thread} {w : BitVec 64} {b : Nat} {d : Fin 8} (hb : iField w b 1 = 1)
    (hd : iField w 52 4 = 8 + d.val) : WaitDl t w b d (some (t.t.get d)) := .inl ⟨hb, hd, rfl⟩

/-- A T register's field names a T register. -/
theorem exists_reg {w : BitVec 64} {lo : Nat} (h : 8 ≤ iField w lo 4) : ∃ d : Fin 8, iField w lo 4 = 8 + d.val :=
  ⟨⟨iField w lo 4 - 8, by have := iField_lt w lo 4; omega⟩, by dsimp only; omega⟩

/-- Settles O27: each wait by its own equation, with the branch that what it waits for and its deadline take. -/
theorem waitInstructionsComplete : Obligations.WaitInstructionsComplete := by
  unfold Obligations.WaitInstructionsComplete
  and_intros
  · rintro s p w t d rfl hi ho hd hz hx hip
    rw [exec_waitt hi ho hd hz, if_neg hip, State.reached, if_pos hx]
    rfl
  · rintro s p w t d rfl hi ho hd hz hx hip
    rw [exec_waitt hi ho hd hz, if_neg hip, if_neg (by simp [State.reached, hx]), waitFor_eq]
  · rintro s p w t d dl e a b rfl hi ho hdl ⟨hz, he⟩ ⟨hr, ha, hb⟩ hp hip
    rw [exec_waite hi ho hdl hz he (.inl ⟨a, b, hr, ha, hb, rfl⟩), if_neg hip, if_pos hp, releaseEvent_some]
  · rintro s p w t d dl e rfl hi ho hdl ⟨hz, he⟩ ⟨hr, ha, hb⟩ hp hx hip
    rw [exec_waite hi ho hdl hz he (.inr ⟨hr, ha, hb, rfl⟩), if_neg hip, if_neg (Bool.eq_false_iff.1 hp),
      if_neg (Bool.eq_false_iff.1 hx),
      waitFor_eq]
  · rintro s p w t d dl e rfl hi ho hdl ⟨hz, he⟩ ⟨hr, ha, hb⟩ hp hx hip
    rw [exec_waite hi ho hdl hz he (.inr ⟨hr, ha, hb, rfl⟩), if_neg hip, if_neg (Bool.eq_false_iff.1 hp), if_pos hx,
      expire_eq]
  · rintro s p w t d dl a b m r rfl hi ho hdl ⟨ha, hb, hz⟩ hm hip
    rw [exec_recv hi ho hdl ha hb hz, if_neg hip, if_pos (by simp [hm]), takeMail_cons a b hm]
  · rintro s p w t d dl a b rfl hi ho hdl ⟨ha, hb, hz⟩ hm hx hip
    rw [exec_recv hi ho hdl ha hb hz, if_neg hip, if_neg (by simp [hm]), if_neg (Bool.eq_false_iff.1 hx), waitFor_eq]
  · rintro s p w t d dl i rfl hi ho ⟨hok, hsp⟩ hdl ⟨ha, hz⟩ ⟨h1, hn⟩ hip
    rw [exec_waitq hi ho ⟨hok, ha, hz, h1, by omega⟩ hdl hsp hip, if_pos hn]
  · rintro s p w t d dl i rfl hi ho ⟨hok, hsp⟩ hdl ⟨ha, hz⟩ ⟨hn, h64⟩ hx hip
    rw [exec_waitq hi ho ⟨hok, ha, hz, by omega, h64⟩ hdl hsp hip, if_neg (by omega),
      if_neg (Bool.eq_false_iff.1 hx), waitFor_eq]
  · rintro s p w t a d rfl hi ho hd ⟨hz, hz', ha⟩ hf hip
    rw [exec_ktake hi ho hd ⟨hz, hz'⟩ ha, if_neg hip, takeTarget_none d hf, Option.getD_some]
  · rintro s p w t a d g x rfl hi ho hd ⟨hz, hz', ha⟩ hf hg hip
    rw [exec_ktake hi ho hd ⟨hz, hz'⟩ ha, if_neg hip, takeTarget_time d hf hg, Option.getD_some]
  · rintro s p w t a d g rfl hi ho hd ⟨hz, hz', ha⟩ hf hg hip
    rw [exec_ktake hi ho hd ⟨hz, hz'⟩ ha, if_neg hip, takeTarget_noTime d hf hg, Option.getD_some]
  · rintro s p w t a d g rfl hi ho hd ⟨hz, hz', ha⟩ hf hg hip
    rw [exec_ktake hi ho hd ⟨hz, hz'⟩ ha, if_neg hip, takeTarget_posted d hf hg, Option.getD_none, waitFor_eq]
  · rintro s p w t d dl e rfl hi ho hdl ⟨hz, he⟩ ⟨hr, ha, hb⟩ hp hip
    rw [exec_waite hi ho hdl hz he (.inr ⟨hr, ha, hb, rfl⟩), if_neg hip, if_pos hp, releaseEvent_none]
  · rintro s p w t d a b rfl hi ho ⟨hdb, hd, hx⟩ ⟨ha, hb, hz⟩ hm hip
    rw [exec_recv hi ho (waitDl_some hdb hd) ha hb hz, if_neg hip, if_neg (by simp [hm]), Option.any_some, if_pos hx,
      expire_eq]
  · rintro s p w t d i rfl hi ho ⟨hok, hsp⟩ ⟨hdb, hd, hx⟩ ⟨ha, hz⟩ ⟨hn, h64⟩ hip
    rw [exec_waitq hi ho ⟨hok, ha, hz, by omega, h64⟩ (waitDl_some hdb hd) hsp hip, if_neg (by omega),
      Option.any_some, if_pos hx, expire_eq]
  · rintro s p w t c rfl hi hip (⟨hc, hd, hz⟩ | ⟨hc, hz⟩ | ⟨hc, hd, ha, hb, hz⟩ | ⟨hc, hok, hsp, hda, hz, h1, h64⟩ |
      ⟨hc, hd, hz, hz'⟩) <;> obtain ⟨rfl, ho⟩ := Prod.mk.injEq .. ▸ hc
    · obtain ⟨d, hd⟩ := exists_reg hd
      rw [exec_waitt hi ho hd hz, if_pos hip]
    · obtain ⟨hz, hd⟩ := iField_parts_zero 44 4 hz
      obtain ⟨hz, ha⟩ := iField_parts_zero 40 4 hz
      obtain ⟨hz, hb⟩ := iField_parts_zero 36 4 hz
      obtain ⟨hz, hdb⟩ := iField_parts_zero 35 1 hz
      obtain ⟨hz, hr⟩ := iField_parts_zero 34 1 hz
      rw [exec_waite (d := 0) (e := ⟨iField w 0 8, iField_lt w 0 8⟩) hi ho (.inr ⟨hdb, hd, rfl⟩) hz rfl
        (.inr ⟨hr, ha, hb, rfl⟩), if_pos hip]
    · obtain ⟨a, ha⟩ := exists_reg ha
      obtain ⟨hz, hdb⟩ := iField_parts_zero 43 1 hz
      rw [exec_recv (d := 0) (b := ⟨iField w 44 4, hb⟩) hi ho (.inr ⟨hdb, hd, rfl⟩) ha rfl hz, if_pos hip]
    · obtain ⟨ha, hd⟩ := iField_parts_zero 4 4 hda
      obtain ⟨hz, hdb⟩ := iField_parts_zero 32 1 hz
      rw [exec_waitq_spoke (d := 0) hi ho ⟨hok, ha, hz, h1, h64⟩ (.inr ⟨hdb, hd, rfl⟩), if_neg (by omega), if_pos hip]
    · obtain ⟨d, hd⟩ := exists_reg hd
      rw [exec_ktake (a := ⟨iField w 40 3, iField_lt w 40 3⟩) hi ho hd ⟨hz, hz'⟩ rfl, if_pos hip]
  · rintro s p w t rfl hi ho ⟨hok, hsp⟩ ⟨hda, hz, h1, h64⟩
    obtain ⟨ha, hd⟩ := iField_parts_zero 4 4 hda
    obtain ⟨hz, hdb⟩ := iField_parts_zero 32 1 hz
    rw [exec_waitq_spoke (d := 0) hi ho ⟨hok, ha, hz, h1, h64⟩ (.inr ⟨hdb, hd, rfl⟩), if_pos hsp]

end Sys2Proof.Proofs
end

section
/-! What reaches Pacer (O30): occurrences, freed places and mailbox entries. -/

namespace Sys2Proof.Proofs

open Sys2Proof.Machine Sys2Proof.Laws

set_option Elab.async false

/-- An occurrence that its channel has room for sets out. -/
theorem mem_occs_raise {s : State} {n : Nat} (hn : n < 256) (c d a : Nat) (dt : DT) (h : s.evFull n = false) :
    ⟨Fin.ofNat 256 n, causeWord c d a, dt, false⟩ ∈ (raise n c d a dt s).occs := by
  have hval : (Fin.ofNat 256 n).val = n := Nat.mod_eq_of_lt hn
  rw [(raise_of_room (hval.symm ▸ h)).1]
  exact List.mem_append_right _ (List.mem_singleton.2 rfl)

/-! ### Occurrences (R135, R136) -/

theorem arrive_sets {t : Thread} {e : EventId} {k : Nat} (m : DT × Word)
    (h : t.cleared.map (fun x => (x.1, x.2.1)) ≠ some (e, k)) :
    t.arrive e k m = { t with pend := t.pend ||| (1#256 <<< e.val) } := by
  unfold Thread.arrive
  split
  · next e' k' dst hc =>
    exact if_neg fun ⟨he, hk⟩ => h (by rw [hc, he, hk]; rfl)
  · rfl

theorem arrive_taken {t : Thread} {e : EventId} {k : Nat} {a b : Fin 8} (m : DT × Word)
    (h : t.cleared = some (e, k, some (a, b))) :
    t.arrive e k m = { t with t := t.t.set a.val m.1 a.isLt, g := t.g.set b.val m.2 b.isLt } := by
  simp only [Thread.arrive, h, and_self, if_true, Thread.takeEvent, setT_val, thread_setG]

section
variable {s : State} {e : EventId} {m : DT × Word}
  (h : ((s.pacer.latch.get e).filter fun m => s.wakes e m.1).getLast? = some m)
include h

theorem arrive_latch : (arrive e s).pacer.latch.get e = [] := by
  simp only [arrive, h, get_set]

theorem arrive_evMem : (arrive e s).pacer.evMem.get e = m := by
  simp only [arrive, h, get_set]

theorem arrive_thread (p : ThreadId) : (arrive e s).thread p = (s.thread p).arrive e s.slot m := by
  simp only [arrive, h, State.thread]
  exact Vector.getElem_map ..

end

theorem exec_pacerEventArrival {s : State} (hc : s.clocked = true) (e : EventId) :
    exec (.pacerEventArrival e) s = .next (arrive e s) := by
  change execPacerEventArrival e s = _
  rw [execPacerEventArrival, if_pos hc]

/-! ### Mailbox entries (R112, R139) -/

section
variable {s : State} {p : ThreadId} (m : MailEnt)

theorem placeMail_of_room (h : (s.thread p).mbox.length < 8) : (placeMail p m s).1 =
    s.setThread p { s.thread p with mbox := (s.thread p).mbox ++ [m] } := by
  simp only [placeMail, h, if_true]

theorem placeMail_of_full (h : 8 ≤ (s.thread p).mbox.length) : (placeMail p m s).1 =
    raise (128 + 2 * p.val) 2 0 0 m.dt
      (s.setThread p { s.thread p with mboxDrops := (s.thread p).mboxDrops + 1 }) := by
  simp only [placeMail, Nat.not_lt.2 h, if_false]

end

/-- The state in which an entry on its way has left. -/
def mailLeft (m : MailIn) (s : State) : State := { s with pacer := { s.pacer with mail := s.pacer.mail.erase m } }

section
variable {s : State} {p : ThreadId} {m : MailIn} (hc : s.clocked = true)
  (hf : s.pacer.mail.find? (fun m => m.dest == p && (s.mailChan m.via).contains m) = some m)
include hc hf

/-- A mailbox entry of the module itself, or in time, is placed. -/
theorem exec_mailboxEntry_placed (h : m.via = .thread ∨ dtLe (dtAdd (s.replica islPacer) 409600) m.ent.dt = true) :
    exec (.mailboxEntry p) s = .next (placeMail p m.ent (mailLeft m s)).1 := by
  have hok : (m.via == .thread || s.inTime m.ent.dt) = true := by
    rcases h with h | h
    · rw [h]; rfl
    · rw [State.inTime, h, Bool.or_true]
  change execMailboxEntry p s = _
  simp only [execMailboxEntry, hc, Bool.not_true, Bool.false_eq_true, if_false, hf]
  rw [if_pos hok]
  rfl

/-- One that came from outside and too late is discarded. -/
theorem exec_mailboxEntry_late (hv : m.via ≠ .thread) (h : dtLe (dtAdd (s.replica islPacer) 409600) m.ent.dt = false) :
    exec (.mailboxEntry p) s = .next (lateAt m.via m.ent.dt (mailLeft m s)) := by
  have hok : ¬(m.via == .thread || s.inTime m.ent.dt) = true := by
    rw [State.inTime, h, Bool.or_false, beq_iff_eq]
    exact hv
  change execMailboxEntry p s = _
  simp only [execMailboxEntry, hc, Bool.not_true, Bool.false_eq_true, if_false, hf]
  rw [if_neg hok]
  rfl

end

/-- A late entry raises LATE at the source of the way it came by. -/
theorem lateAt_eq {v : MailVia} {src cause : Nat}
    (h : (∃ c : PortId, v = .port c ∧ src = 184 + 3 * c.val ∧ cause = 1) ∨ v = .ring ∧ src = 240 ∧ cause = 1 ∨
      v = .pair ∧ src = 241 ∧ cause = 4) (d : DT) (s : State) :
    v ≠ .thread ∧ src < 256 ∧ lateAt v d s = raise src cause 0 0 d s := by
  rcases h with ⟨c, rfl, rfl, rfl⟩ | ⟨rfl, rfl, rfl⟩ | ⟨rfl, rfl, rfl⟩
  · exact ⟨nofun, by omega, rfl⟩
  · exact ⟨nofun, by omega, rfl⟩
  · exact ⟨nofun, by omega, rfl⟩

/-- Settles O30: what each arrival leaves in Pacer's memory, counts and mailboxes. -/
theorem pacerArrivalsComplete : Obligations.PacerArrivalsComplete := by
  unfold Obligations.PacerArrivalsComplete
  and_intros
  · intro s e m hc h
    refine ⟨_, exec_pacerEventArrival hc e, arrive_latch h, arrive_evMem h, fun p hp => ?_, fun p a b hp => ?_⟩
    · rw [arrive_thread h, arrive_sets m hp]
    · rw [arrive_thread h, arrive_taken m hp]
  · intro s e hc h
    rw [exec_pacerEventArrival hc, arrive, h]
    rfl
  · intro s i hc hfr
    have hok : (s.clocked && (s.spoke i).freed != 0) = true := by simp [hc, hfr]
    refine ⟨_, (congrArg Host.Outcome.next (if_pos hok) : execPlaceFreed i s = _), ?_, ?_⟩
    · exact congrArg Spoke.freed (get_set ..)
    · exact get_set ..
  · intro s p m hc hf hm hroom
    refine ⟨_, exec_mailboxEntry_placed hc hf hm, ?_⟩
    rw [placeMail_of_room (s := mailLeft m s) _ hroom]
    exact ⟨rfl, get_set .., rfl⟩
  · intro s p m hc hf hm hfull
    refine ⟨_, exec_mailboxEntry_placed hc hf hm, ?_⟩
    rw [placeMail_of_full (s := mailLeft m s) _ hfull]
    refine ⟨raise_pacer_mail .., (raise_thread ..).trans (get_set ..), fun hev => ?_⟩
    exact mem_occs_raise (by omega) _ _ _ _ hev
  · intro s p m src cause hc hf hv hlate
    obtain ⟨hne, hsrc, heq⟩ := lateAt_eq hv m.ent.dt (mailLeft m s)
    refine ⟨_, exec_mailboxEntry_late hc hf hne hlate, ?_⟩
    rw [heq]
    exact ⟨raise_pacer_mail .., raise_thread .., mem_occs_raise (s := mailLeft m s) hsrc _ _ _ _⟩

end Sys2Proof.Proofs
end

section
/-! ANCHOR (O60): its first try, a later one, and its faults. -/

namespace Sys2Proof.Proofs

open Sys2Proof.Machine Sys2Proof.Laws

set_option Elab.async false

/-- One try of an ANCHOR in front of a channel with room: it enters, and the mirror is its DT (R106). -/
theorem tryIssue_anchor {s : State} {p : ThreadId} {i : SpokeId} {ta : DT} (hroom : (s.spoke i).chan.length < 4) :
    (tryIssue p (.anchor i ta) s).pacer.mirror.get i = ta ∧
      (tryIssue p (.anchor i ta) s).pacer.used = s.pacer.used ∧
      ((tryIssue p (.anchor i ta) s).spoke i).chan =
        (s.spoke i).chan ++ [.desc ⟨anchorRaw ta, (s.island islPacer).gen, p⟩] ∧
      (tryIssue p (.anchor i ta) s).thread p =
        (s.completed p { s.thread p with f := false, ip := (s.thread p).ip + 1 }).thread p := by
  rw [tryIssue_of_entered rfl (by simp [State.hasRoom, hroom]) rfl, complete_eq]
  refine ⟨get_set .., rfl, ?_, ?_⟩
  · change ((sendDescs p i [anchorRaw ta] s).spoke i).chan = _
    simp [sendDescs]
  · exact (setThread_get ..).trans (setThread_get ..).symm

/-- Settles O60: the first try and the retry by what one try comes to. -/
theorem anchorInstruction : Obligations.AnchorInstruction := by
  unfold Obligations.AnchorInstruction
  and_intros
  · rintro s p w t i d ta rfl hi ho hd rfl hs hz hroom hip
    exact ⟨_, (exec_anchor hi hd hs ho hz).trans (congrArg _ (startIssue_of_below _ hip)), tryIssue_anchor hroom⟩
  · rintro s p w t i d ta rfl hi ho hd rfl hs hz hfull hip
    have hno : s.hasRoom (.anchor i ((s.thread p).t.get d)) = false := decide_eq_false (by omega)
    rw [exec_anchor hi hd hs ho hz, startIssue_of_below _ hip, tryIssue_of_full rfl hno]
  · rintro s p t i ta rfl hu hw hroom
    exact ⟨_, exec_issueRetry hu hw, tryIssue_anchor hroom⟩
  · rintro s p w t i d ta rfl hi ho hd rfl hs hz
    have hok : (none' (fA w) && zero w 0 40) = false := by
      rcases hz with hz | hz
      · simp [none', fA, hz]
      · simp [zero, hz]
    change execAnchor p s = _
    rw [execAnchor, issueE]
    exact issueOp_illegal hi ho (by rw [hok, Bool.and_false])

end Sys2Proof.Proofs
end

section
/-! TRIG, RAISE and COMMIT (O29): a trigger's way by its DEST, and what each way carries. -/

namespace Sys2Proof.Proofs

open Sys2Proof.Machine Sys2Proof.Laws

set_option Elab.async false

/-! ### The fields of a DEST (R113) -/

section
variable (w : BitVec 64)

theorem routeOf_dest : routeOf (w.setWidth 16) = iField w 14 2 := by
  simp only [routeOf, iField, fieldOf, BitVec.toNat_setWidth, Nat.shiftRight_eq_div_pow]
  omega

theorem whereOf_dest : whereOf (w.setWidth 16) = iField w 10 4 := by
  simp only [whereOf, iField, fieldOf, BitVec.toNat_setWidth, Nat.shiftRight_eq_div_pow]
  omega

theorem thread_dest : (w.setWidth 16).toNat % 16 = iField w 0 4 := by
  simp only [iField, fieldOf, BitVec.toNat_setWidth, Nat.shiftRight_eq_div_pow]
  omega

theorem all_dest : (w.setWidth 16).getLsbD 9 = (iField w 9 1 == 1) := by
  simp [iField, fieldOf, BitVec.getLsbD, Nat.testBit, Nat.shiftRight_eq_div_pow]
  omega

theorem b1_all_dest : b1 ((w.setWidth 16).getLsbD 9) = iField w 9 1 := by
  have hlt := iField_lt w 9 1
  rw [all_dest, b1]
  split_ifs with h
  · exact (beq_iff_eq.1 h).symm
  · rw [beq_iff_eq] at h
    omega

end

/-! DEST's form on each of its routes. -/

section
variable {w : BitVec 64} (h4 : iField w 4 5 = 0)
include h4

theorem okDest_port (hr : iField w 14 2 = 1) (hw : iField w 10 4 ≤ 7) : okDest w = true := by
  simp [okDest, zero, h4, hr, hw]

theorem okDest_ring (hr : iField w 14 2 = 2) (hw : iField w 9 1 = 0 ∨ iField w 10 4 = 0) : okDest w = true := by
  simp [okDest, zero, h4, hr, hw]

theorem okDest_near (hr : iField w 14 2 = 0 ∨ iField w 14 2 = 3) (hw : iField w 10 4 = 0 ∧ iField w 9 1 = 0) :
    okDest w = true := by
  rcases hr with hr | hr <;> simp [okDest, zero, h4, hr, hw]

end

/-! ### The try of a TRIG -/

section
variable {s : State} {p : ThreadId} {w : BitVec 64} (hi : s.issues p w) (ho : iOp w = 0x68)
  (hz : iField w 16 32 = 0) (hok : okDest w = true) (hip : (s.thread p).ip ≠ 0x3FFF)
include hi ho hz hok hip

theorem exec_trig_tr (hd : 8 ≤ iField w 52 4) (ha : iField w 48 4 < 8) :
    exec (.trig p) s = .next (tryIssue p
      (.trig (w.setWidth 16) ((s.thread p).tr (iField w 52 4)) ((s.thread p).gr (iField w 48 4))) s) := by
  change execTrig p s = _
  rw [execTrig, issueOp_legal hi ho (by simp [isT_fD hd, isG, fA, ha, zero, hz, hok]), ofNat_iField]
  exact congrArg _ (startIssue_of_below _ hip)

theorem exec_trig {d a : Fin 8} (hd : iField w 52 4 = 8 + d.val) (ha : iField w 48 4 = a.val) :
    exec (.trig p) s =
      .next (tryIssue p (.trig (w.setWidth 16) ((s.thread p).t.get d) ((s.thread p).g.get a)) s) := by
  rw [exec_trig_tr hi ho hz hok hip (by omega) (by omega), hd, ha, thread_tr, thread_gr]

end

section
variable {s : State} {p : ThreadId} {dest : BitVec 16} {ta : DT} {x : Word}

theorem tryIssue_trig_closed (h : s.routeOpen dest = false) : tryIssue p (.trig dest ta x) s =
    s.completed p { s.thread p with f := true, ip := (s.thread p).ip + 1 } :=
  tryIssue_of_closed (by simp [State.closed, h])

/-- A TRIG to another module takes no lead test: with its way open and room it goes. -/
theorem tryIssue_trig_out (hr : routeOf dest ≠ 0) (h : s.routeOpen dest = true) (hroom : s.triggersTo dest < 4) :
    tryIssue p (.trig dest ta x) s =
      complete p (fun t => { t with f := false, ip := t.ip + 1 }) (enterTrig p dest ta x s) :=
  tryIssue_of_entered (by simp [State.closed, h]) (by simp [State.hasRoom, hroom])
    (by simp [State.meetsLead, Issue.lead, hr])

theorem tryIssue_trig_full (h : s.routeOpen dest = true) (hroom : 4 ≤ s.triggersTo dest) :
    tryIssue p (.trig dest ta x) s = s.setThread p { s.thread p with
      state := .hold, waitOn := .issue (.trig dest ta x), nextSlot := s.slot + 16 } :=
  tryIssue_of_full (by simp [State.closed, h]) (by simp [State.hasRoom]; omega)

end

/-! ### A trigger within the module (R112, R113) -/

theorem near_fields {w : BitVec 64} (h : iField w 4 44 = 0) : iField w 4 5 = 0 ∧ iField w 9 1 = 0 ∧
    iField w 10 4 = 0 ∧ iField w 14 2 = 0 ∧ iField w 16 32 = 0 := by
  obtain ⟨h4, h⟩ := iField_parts_zero 5 39 h
  obtain ⟨h9, h⟩ := iField_parts_zero 1 38 h
  obtain ⟨h10, h⟩ := iField_parts_zero 4 34 h
  obtain ⟨h14, h⟩ := iField_parts_zero 2 32 h
  exact ⟨h4, h9, h10, h14, h⟩

section
variable {s : State} {p : ThreadId} {dest : BitVec 16} {ta : DT} {x : Word} (hr : routeOf dest = 0)
include hr

theorem enterTrig_near {q : ThreadId} (hq : dest.toNat % 16 = q.val) : enterTrig p dest ta x s =
    { s with pacer := { s.pacer with
      mail := s.pacer.mail ++ [⟨q, .thread, ⟨ta, x, BitVec.ofNat 16 p.val⟩⟩] } } := by
  have hid : Fin.ofNat 16 dest.toNat = q := Fin.ext hq
  simp only [enterTrig, hr, hid]
  rfl

theorem closed_near : s.closed (.trig dest ta x) = false := by simp [State.closed, State.routeOpen, hr]

theorem hasRoom_near (h : (s.pacer.mail.filter fun m => m.via == .thread).length < 4) :
    s.hasRoom (.trig dest ta x) = true := by
  simp only [State.hasRoom, State.triggersTo, hr, h, decide_true]

theorem lead_near : (Issue.trig dest ta x).lead = some (ta, 0) := by simp [Issue.lead, hr]

theorem meetsLead_near : s.meetsLead (.trig dest ta x) = dtLe (slotDt s.slot) ta := by
  simp only [State.meetsLead, lead_near hr, dtAdd, BitVec.add_zero]

end

/-- A late issue leaves the mail on its way as it was. -/
theorem mail_tryIssue_of_late {s : State} {p : ThreadId} {m : Issue} (hc : s.closed m = false)
    (hr : s.hasRoom m = true) (hl : s.meetsLead m = false) : (tryIssue p m s).pacer.mail = s.pacer.mail := by
  simp only [tryIssue, hc, hr, hl, Bool.not_true, Bool.false_eq_true, if_false]
  exact raise_pacer_mail ..

/-! ### A trigger that leaves the module -/

/-- What a trigger that leaves the module may change. -/
def sendsOut : Parts := { ports := true, stoker := true, pair := true }

/-- The thread of a trigger that left completes as it was, with F clear. -/
theorem thread_of_sent {s u : State} (p : ThreadId) (h : u.outside sendsOut = s.outside sendsOut) :
    (complete p (fun t => { t with f := false, ip := t.ip + 1 }) u).thread p =
      (s.completed p { s.thread p with f := false, ip := (s.thread p).ip + 1 }).thread p := by
  have hth : u.thread p = s.thread p := by rw [with_eq h]; rfl
  have hslot : u.slot = s.slot := by rw [with_eq h]; rfl
  rw [complete_eq, hth, State.completed, State.completed, setThread_get, setThread_get, hslot]

/-! #### Out of a port (R287, R288) -/

theorem routeOpen_port {s : State} {dest : BitVec 16} (h : routeOf dest = 1) :
    s.routeOpen dest = s.granted (portOf dest) 2 := by simp [State.routeOpen, h]

theorem triggersTo_port {s : State} {dest : BitVec 16} (h : routeOf dest = 1) :
    s.triggersTo dest = s.waitingOf (portOf dest) (· == 6) := by simp [State.triggersTo, h]

theorem portOf_dest {w : BitVec 64} {c : PortId} (h : iField w 10 4 = c.val) : portOf (w.setWidth 16) = c := by
  rw [portOf, whereOf_dest, h, Fin.ofNat_val_eq_self]

/-- The Trigger frame of a TRIG. -/
def trigPdu (s : State) (c : PortId) (w : BitVec 64) (p : ThreadId) (ta : DT) (x : Word) : Octets :=
  pduOf s c 6 0 (leOctets 10 ta.toNat ++
    [BitVec.ofNat 8 (iField w 0 4 + 16 * iField w 9 1), BitVec.ofNat 8 p.val] ++ leOctets 4 x.toNat)

/-- The port has counted one more Trigger frame in its SEQ. -/
def countTrig (c : PortId) (s : State) : State :=
  s.setPort c { s.port c with seqs := (s.port c).seqs.set 6 ((s.port c).seqs.get 6 + 1) }

theorem enterTrig_port {s : State} {p : ThreadId} {w : BitVec 64} {c : PortId} (hr : iField w 14 2 = 1)
    (hc : iField w 10 4 = c.val) (ta : DT) (x : Word) :
    enterTrig p (w.setWidth 16) ta x s = sendFrame c 6 (trigPdu s c w p ta x) (countTrig c s) := by
  have hroute : routeOf (w.setWidth 16) = 1 := (routeOf_dest w).trans hr
  simp only [enterTrig, hroute, portOf_dest hc, sendTrigger, thread_dest, b1_all_dest]
  rfl

section
variable {s : State} {c : PortId} (pdu : Octets)

/-- On a lane that is free a Trigger frame leaves at once. -/
theorem port_sendFrame_of_free (hb : s.laneBusy c = false) (hw : (s.port c).waiting = []) :
    (sendFrame c 6 pdu s).port c = { s.port c with
      waiting := [], txq := (s.port c).txq ++ [(s.now, ethFrame (s.portMac c) 0x88B5 pdu)]
      cnt := (s.port c).cnt.noteSent 6 } := by
  have hq : ((List.range 7).flatMap fun r => [(6, pdu)].filter fun m => sendRank m.1 == r) = [(6, pdu)] := rfl
  have hleave (u : State) : (leave c (6, pdu) u).port c = { u.port c with
      txq := (u.port c).txq ++ [(u.now, ethFrame (u.portMac c) 0x88B5 pdu)]
      cnt := (u.port c).cnt.noteSent 6 } := setPort_get ..
  have hfree : ¬(s.modPort c fun p => { p with waiting := p.waiting ++ [(6, pdu)] }).laneBusy c = true := by
    change ¬s.laneBusy c = true
    simp [hb]
  rw [sendFrame, sendWaiting, if_neg hfree]
  simp only [modPort_eq, setPort_get, hw, List.nil_append, hq, List.foldl_cons, List.foldl_nil, hleave]
  rfl

/-- On a lane in use it waits. -/
theorem port_sendFrame_of_busy (hb : s.laneBusy c = true) :
    (sendFrame c 6 pdu s).port c = { s.port c with waiting := (s.port c).waiting ++ [(6, pdu)] } := by
  have hbusy : (s.modPort c fun p => { p with waiting := p.waiting ++ [(6, pdu)] }).laneBusy c = true := hb
  rw [sendFrame, sendWaiting, if_pos hbusy]
  exact setPort_get ..

end

section
variable {s : State} {p : ThreadId} {w : BitVec 64} {c : PortId} {ta : DT} {x : Word} (hr : iField w 14 2 = 1)
  (hc : iField w 10 4 = c.val)
include hr hc

theorem outside_enterTrig_port : (enterTrig p (w.setWidth 16) ta x s).outside sendsOut = s.outside sendsOut := by
  rw [enterTrig_port hr hc]
  exact (outside_sendFrame _ _ _ _ rfl).trans (outside_State_setPort _ _ _ rfl)

theorem port_enterTrig_of_free (hb : s.laneBusy c = false) (hw : (s.port c).waiting = []) :
    ((enterTrig p (w.setWidth 16) ta x s).port c).cnt.trigTx = (s.port c).cnt.trigTx + 1 ∧
      ((enterTrig p (w.setWidth 16) ta x s).port c).txq =
        (s.port c).txq ++ [(s.now, ethFrame (s.portMac c) 0x88B5 (trigPdu s c w p ta x))] := by
  have hcount : (countTrig c s).port c = { s.port c with
      seqs := (s.port c).seqs.set 6 ((s.port c).seqs.get 6 + 1) } := setPort_get ..
  rw [enterTrig_port hr hc, port_sendFrame_of_free (s := countTrig c s) _ hb (by rw [hcount]; exact hw), hcount]
  exact ⟨rfl, rfl⟩

theorem port_enterTrig_of_busy (hb : s.laneBusy c = true) :
    ((enterTrig p (w.setWidth 16) ta x s).port c).waiting =
      (s.port c).waiting ++ [(6, trigPdu s c w p ta x)] := by
  rw [enterTrig_port hr hc, port_sendFrame_of_busy (s := countTrig c s) _ hb, countTrig, setPort_get]

end

/-! #### Over the ring and the Pair lane (R113, R335) -/

theorem enterTrig_ring {s : State} {p : ThreadId} {w : BitVec 64} (hr : iField w 14 2 = 2) (ta : DT) (x : Word) :
    enterTrig p (w.setWidth 16) ta x s = originate 9 (iField w 10 4) (iField w 9 1 == 1)
      (cellBody ta x s.ident (iField w 0 4 + 16 * p.val)) s := by
  have hroute : routeOf (w.setWidth 16) = 2 := (routeOf_dest w).trans hr
  have hw := whereOf_dest w
  rw [whereOf] at hw
  simp only [enterTrig, hroute, sendRingTrigger, triggerBody, hw, all_dest, thread_dest]

theorem enterTrig_pair {s : State} {p : ThreadId} {w : BitVec 64} (hr : iField w 14 2 = 3) (ta : DT) (x : Word) :
    enterTrig p (w.setWidth 16) ta x s =
      (relay (mkCell s 9 s.stoker.pos.toNat false (cellBody ta x s.ident (iField w 0 4 + 16 * p.val))) s).modStoker
        fun k => { k with seq := k.seq + 1 } := by
  have hroute : routeOf (w.setWidth 16) = 3 := (routeOf_dest w).trans hr
  simp only [enterTrig, hroute, sendPairTrigger, triggerBody, thread_dest]

/-! ### COMMIT (R25, R115) -/

/-- A commit issued leaves every thread's IP. -/
theorem issueCommit_ip (src : CommitSrc) (d : DT) (g : Word) (s : State) (p : ThreadId) :
    ((issueCommit src d g s).thread p).ip = (s.thread p).ip := by
  have h : view Thread.ip (issueCommit src d g s) = view Thread.ip s := view_issueCommit s (fun _ _ => rfl) src d g
  rw [← view_get Thread.ip, h, view_get]

/-- A thread that waits has its IP and waits for what it was put to. -/
theorem waitFor_thread (p : ThreadId) (on : WaitOn) (s : State) :
    (waitFor p on s).thread p = { s.thread p with state := .wait, waitOn := on, nextSlot := s.slot + 16 } :=
  setThread_get ..

/-- A DEST of the Pair lane. -/
theorem pair_fields {w : BitVec 64} (h : iField w 9 7 = 0x60) :
    iField w 9 1 = 0 ∧ iField w 10 4 = 0 ∧ iField w 14 2 = 3 := by
  have hsplit := iField_add w 9 1 6
  have hsplit' := iField_add w 10 4 2
  have hall := iField_lt w 9 1
  have hwhere := iField_lt w 10 4
  simp only [Nat.reduceAdd] at hsplit hsplit'
  omega

theorem st_of_stacked {s : State} (h : s.stacked = true) : s.stoker.st ≠ 6 := by
  intro h6
  simp [State.stacked, h6] at h

/-- Settles O29: TRIG by the way its DEST names, RAISE and COMMIT by what they hand on. -/
theorem trigRaiseCommitComplete : Obligations.TrigRaiseCommitComplete := by
  unfold Obligations.TrigRaiseCommitComplete
  and_intros
  · rintro s p w t d a q rfl hi ho hd ha ⟨hz, hq⟩ hroom hdt hip
    obtain ⟨h4, h9, h10, h14, hz⟩ := near_fields hz
    have hroute : routeOf (w.setWidth 16) = 0 := (routeOf_dest w).trans h14
    rw [exec_trig hi ho hz (okDest_near h4 (.inl h14) ⟨h10, h9⟩) hip hd ha, tryIssue_of_entered (closed_near hroute)
      (hasRoom_near hroute hroom) ((meetsLead_near hroute).trans hdt)]
    exact congrArg (Host.Outcome.next <| complete p _ ·) (enterTrig_near hroute ((thread_dest w).trans hq))
  · rintro s p w t d a ta rfl hi ho hd rfl ha hz hroom hdt hip
    obtain ⟨h4, h9, h10, h14, hz⟩ := near_fields hz
    have hroute : routeOf (w.setWidth 16) = 0 := (routeOf_dest w).trans h14
    have hlate := (meetsLead_near (s := s) (x := (s.thread p).g.get a) hroute).trans hdt
    obtain ⟨hth, hocc⟩ :=
      tryIssue_of_late (p := p) (closed_near hroute) (hasRoom_near hroute hroom) (lead_near hroute) hlate
    exact ⟨_, exec_trig hi ho hz (okDest_near h4 (.inl h14) ⟨h10, h9⟩) hip hd ha, hth, hocc,
      mail_tryIssue_of_late (closed_near hroute) (hasRoom_near hroute hroom) hlate⟩
  · rintro s p w t d a c rfl hi ho hd ha ⟨hz, hr, hc, h4⟩ hg hip
    have hopen : s.routeOpen (w.setWidth 16) = false := by
      rw [routeOpen_port ((routeOf_dest w).trans hr), portOf_dest hc, hg]
    rw [exec_trig hi ho hz (okDest_port h4 hr (by omega)) hip hd ha, tryIssue_trig_closed hopen]
  · rintro s p w t d a c rfl hi ho hd ha ⟨hz, hr, hc, h4⟩ hg ⟨hb, hw⟩ hip
    have hroute : routeOf (w.setWidth 16) = 1 := (routeOf_dest w).trans hr
    have hopen : s.routeOpen (w.setWidth 16) = true := by rw [routeOpen_port hroute, portOf_dest hc, hg]
    have hroom : s.triggersTo (w.setWidth 16) < 4 := by
      simp [triggersTo_port hroute, portOf_dest hc, State.waitingOf, hw]
    refine ⟨_, exec_trig hi ho hz (okDest_port h4 hr (by omega)) hip hd ha, ?_⟩
    rw [tryIssue_trig_out (by omega) hopen hroom]
    exact ⟨thread_of_sent p (outside_enterTrig_port hr hc), port_enterTrig_of_free hr hc hb hw⟩
  · rintro s p w t d a c rfl hi ho hd ha ⟨hz, hr, hc, h4⟩ hg ⟨hb, hw⟩ hip
    have hroute : routeOf (w.setWidth 16) = 1 := (routeOf_dest w).trans hr
    have hopen : s.routeOpen (w.setWidth 16) = true := by rw [routeOpen_port hroute, portOf_dest hc, hg]
    have hroom : s.triggersTo (w.setWidth 16) < 4 := by rwa [triggersTo_port hroute, portOf_dest hc]
    refine ⟨_, exec_trig hi ho hz (okDest_port h4 hr (by omega)) hip hd ha, ?_⟩
    rw [tryIssue_trig_out (by omega) hopen hroom]
    exact ⟨thread_of_sent p (outside_enterTrig_port hr hc), port_enterTrig_of_busy hr hc hb⟩
  · rintro s p w t d a rfl hi ho hd ha ⟨hz, h9, h4⟩ hlane hip
    obtain ⟨h9, h10, h14⟩ := pair_fields h9
    have hroute : routeOf (w.setWidth 16) = 3 := (routeOf_dest w).trans h14
    have hopen : s.routeOpen (w.setWidth 16) = true := by simp [State.routeOpen, hroute, hlane]
    have hroom : s.triggersTo (w.setWidth 16) < 4 := by simp [State.triggersTo, hroute]
    refine ⟨_, exec_trig hi ho hz (okDest_near h4 (.inr h14) ⟨h10, h9⟩) hip hd ha, ?_⟩
    rw [tryIssue_trig_out (by omega) hopen hroom, enterTrig_pair h14, relay, if_pos hlane]
    exact ⟨thread_of_sent p rfl, rfl, rfl⟩
  · rintro s p w t d a rfl hi ho hd ha ⟨hz, hr, hw, h4⟩ hst hip
    have hroute : routeOf (w.setWidth 16) = 2 := (routeOf_dest w).trans hr
    have hopen : s.routeOpen (w.setWidth 16) = false := by simp [State.routeOpen, hroute, hst]
    rw [exec_trig hi ho hz (okDest_ring h4 hr hw) hip hd ha, tryIssue_trig_closed hopen]
  · rintro s p w t d a prt rfl hi ho hd ha ⟨hz, hr, hw, h4⟩ ⟨hst, hroom⟩ hip
    have hroute : routeOf (w.setWidth 16) = 2 := (routeOf_dest w).trans hr
    have hopen : s.routeOpen (w.setWidth 16) = true := by simp [State.routeOpen, hroute, hst]
    refine ⟨_, exec_trig hi ho hz (okDest_ring h4 hr hw) hip hd ha, ?_⟩
    rw [tryIssue_trig_out (by omega) hopen hroom, enterTrig_ring hr]
    exact ⟨thread_of_sent p (outside_originate _ _ _ _ _ rfl rfl), carries_originate (st_of_stacked hst) _ _ _ _ _⟩
  · rintro s p w t dest rfl hi ho ⟨hd, ha, hz⟩ ⟨hok, rfl⟩ ⟨hopen, hfull⟩ hip
    refine ⟨_, exec_trig_tr hi ho hz hok hip hd ha, ?_⟩
    rw [tryIssue_trig_full hopen hfull]
    exact ⟨congrArg Thread.state (setThread_get ..), (congrArg Thread.ip (setThread_get ..)).trans rfl, rfl, rfl, rfl⟩
  · rintro s p w t n rfl hi ho ⟨hz, hz', rfl⟩ hip
    obtain ⟨h20, h24⟩ := iField_parts_zero 4 32 hz
    change execRaise p s = _
    rw [execRaise, issueOp_legal hi ho (by simp [zero, h20, h24, hz']), if_neg hip, goOn_completed _ hip]
    rfl
  · rintro s p w t d a r rfl hi ho hd ha hr hz hp hg hl hst hip
    have hal : s.reach = .alone := by simp [State.reach, hst]
    have hcause : s.issueCause (.thread p) ((s.thread p).t.get d) ((s.thread p).g.get a) = 0 :=
      issueCause_of_none hp hg (by rw [leadOf_alone hal]; exact of_decide_eq_true hl)
    refine ⟨_, exec_commit hi ho ⟨hd, ha, hr, hz⟩ hip, ?_⟩
    rw [waitFor_commit, waitFor_thread, hcause, issueCommit_alone hp hcause hal, hr, Fin.ofNat_val_eq_self]
    exact ⟨prepareAll_pend .., prepareAll_state .., rfl, rfl,
      congrArg (fun x : Pacer => (x.th.get p).ip) (prepareAll_pacer ..)⟩
  · rintro s p w t d a r c rfl hi ho hd ha hr hz rfl hip
    refine ⟨_, exec_commit hi ho ⟨hd, ha, hr, hz⟩ hip, ?_⟩
    rw [waitFor_commit, waitFor_thread, hr, Fin.ofNat_val_eq_self]
    refine ⟨rfl, rfl, issueCommit_ip .., fun h0 => ?_⟩
    rw [issueCommit_refused (src := .thread p) nofun rfl h0, raise_commit, setStatus_pend, setStatus_state]
    exact ⟨rfl, rfl⟩

end Sys2Proof.Proofs
end

section
/-! Thread control (O31): the register's actions on arrival, and what an action does in the slot in which it is due. -/

namespace Sys2Proof.Proofs

open Sys2Proof.Machine Sys2Proof.Laws

/-! ### Actions on arrival (R127) -/

section
variable {s : State} {p : ThreadId}

/-- With no action pending, one taken on arrival becomes it. -/
theorem takeAction_of_none (a : CtlAct) (h : (s.thread p).act = none) :
    takeAction p a s = s.setThread p { s.thread p with act := some a, cmdState := 1, cmdCause := 0 } := by
  simp [takeAction, h]

/-- One that was pending gives its place to it. -/
theorem takeAction_of_some (a : CtlAct) {b : CtlAct} (h : (s.thread p).act = some b) :
    takeAction p a s = raiseNow (128 + 2 * p.val) 12 0 0
      (s.setThread p { s.thread p with act := some a, cmdState := 1, cmdCause := 3 }) := by
  simp [takeAction, h]

/-- Outside an outage an occurrence timed now carries DT. -/
theorem raiseNow_of_no_outage (e c d a : Nat) (h : s.outage = false) : raiseNow e c d a s = raise e c d a s.dt s := by
  simp [raiseNow, raise, State.now, h]

/-- A register's action is the host's, for its thread. -/
theorem exec_regAction {c : Instr} {op : CtlOp} (h : s.hostReach = true)
    (hc : (c, op) ∈ [(.thStart p, .start), (.thStop p, .stop), (.thResume p, .resume)]) :
    exec c s = .next (regAction p op s) := by
  simp only [List.mem_cons, Prod.mk.injEq, List.not_mem_nil, or_false] at hc
  rcases hc with ⟨rfl, rfl⟩ | ⟨rfl, rfl⟩ | ⟨rfl, rfl⟩ <;> exact congrArg Host.Outcome.next (byHost_of_reach h _)

/-- While Pacer's clock is gated it stays with Handlebar (R46, R48). -/
theorem regAction_gated (op : CtlOp) (hk : s.clocked = false) : regAction p op s =
    { s with pacer := { s.pacer with ctlIn := s.pacer.ctlIn ++ [(p, op, dtAt s.imm (thBase p + 0xC))] } } := by
  simp [regAction, hk]

section
variable (op : CtlOp) (hk : s.clocked = true)
include hk

/-- At least 1 us ahead it is taken. -/
theorem regAction_taken (hd : dtLe (dtAdd (s.replica islHandlebar) 4096000) (dtAt s.imm (thBase p + 0xC)) = true) :
    regAction p op s = takeAction p ⟨op, dtAt s.imm (thBase p + 0xC), 0, false, false, 0, true⟩ s := by
  simp [regAction, issueAction, hk, hd]

/-- Later it is refused. -/
theorem regAction_refused (hd : dtLe (dtAdd (s.replica islHandlebar) 4096000) (dtAt s.imm (thBase p + 0xC)) = false) :
    regAction p op s = refuseAction p s := by
  simp [regAction, issueAction, hk, hd]

end

/-- Where no action is pending, one taken becomes pending, whichever it is. -/
theorem exec_regAction_pending {c : Instr} {op : CtlOp} (h : s.hostReach = true) (hk : s.clocked = true)
    (hd : dtLe (dtAdd (s.replica islHandlebar) 4096000) (dtAt s.imm (thBase p + 0xC)) = true)
    (ha : (s.thread p).act = none)
    (hc : (c, op) ∈ [(.thStart p, .start), (.thStop p, .stop), (.thResume p, .resume)]) :
    exec c s = .next (s.setThread p { s.thread p with
      act := some ⟨op, dtAt s.imm (thBase p + 0xC), 0, false, false, 0, true⟩, cmdState := 1, cmdCause := 0 }) := by
  rw [exec_regAction h hc, regAction_taken op hk hd, takeAction_of_none _ ha]

end

/-! ### Actions that are due (R126) -/

/-- A thread whose action has taken effect. -/
def actedThread (t : Thread) (a : CtlAct) : Thread :=
  { t with act := none, cmdState := if a.latest then 2 else t.cmdState, cmdCause := if a.latest then 0 else t.cmdCause }

theorem actionDone_eq (p : ThreadId) (a : CtlAct) (s : State) : actionDone p a s =
    if a.ring && a.notify then raise (128 + 2 * p.val) 11 0 a.seq.toNat (slotDt s.slot)
      (s.setThread p (actedThread (s.thread p) a))
    else s.setThread p (actedThread (s.thread p) a) := rfl

/-- What every action that takes effect leaves of its thread. -/
@[simp] theorem actionDone_thread (p : ThreadId) (a : CtlAct) (s : State) :
    (actionDone p a s).thread p = actedThread (s.thread p) a := by
  rw [actionDone_eq]
  split <;> simp

@[simp] theorem actionDone_crank (p : ThreadId) (a : CtlAct) (s : State) : (actionDone p a s).crank = s.crank := by
  rw [actionDone_eq]
  split <;> simp

/-- A ring's action that asked for it raises CDONE (R141). -/
theorem mem_occs_actionDone {p : ThreadId} {a : CtlAct} {s : State} (hr : a.ring = true) (hn : a.notify = true)
    (h : s.evFull (128 + 2 * p.val) = false) :
    ⟨Fin.ofNat 256 (128 + 2 * p.val), causeWord 11 0 a.seq.toNat, slotDt s.slot, false⟩ ∈ (actionDone p a s).occs := by
  rw [actionDone_eq, if_pos (by rw [hr, hn]; rfl)]
  exact mem_occs_raise (by omega) _ _ _ _ h

/-- A fault leaves all of its thread but the state it stops in. -/
theorem fault_thread (p : ThreadId) (cause : Nat) (s : State) : (fault p cause s).thread p =
    { s.thread p with
      state := .faulted, waitOn := .none, oldBank := false, faultCause := BitVec.ofNat 4 cause, faultIp := (s.thread p).ip
      faultDt := slotDt s.slot } := by
  rw [fault, raise_thread, setThread_get]

/-- A start frees the thread's target places on every axis (R185). -/
theorem freeTargets_tgts (p : ThreadId) (s : State) (x : AxisId) :
    ((freeTargets p s).axis x).tgts = (s.axis x).tgts.filter fun g => g.thread != p :=
  congrArg Axis.tgts (Vector.getElem_map ..)

section
variable {s : State} {p : ThreadId} {a : CtlAct} (hs : s.ownSlot p = true)
  (ha : (s.thread p).act = some a ∧ dtLe a.dt (slotDt s.slot) = true)
include hs ha

/-- A stop. -/
theorem exec_stopDue (ho : a.op = .stop) : exec (.threadActionDue p) s = .next (actionDone p a
    (s.setThread p { s.thread p with state := .stopped, waitOn := .none, oldBank := false })) := by
  change execThreadActionDue p s = _
  simp [execThreadActionDue, Thread.actDue, hs, ha, ho]

/-- A start of a thread that is not running. -/
theorem exec_startDue (ho : a.op = .start)
    (hst : (s.thread p).state = .stopped ∨ (s.thread p).state = .halted ∨ (s.thread p).state = .faulted) :
    exec (.threadActionDue p) s = .next (actionDone p a (freeTargets p (s.setThread p ((s.thread p).started
      (if a.ring then a.entry else BitVec.ofNat 14 (fld (s.immAt (thBase p + 4)) 0 14)) a.dt s.slot)))) := by
  change execThreadActionDue p s = _
  simp [execThreadActionDue, Thread.actDue, hs, ha, ho, hst, or_assoc]

/-- A resume past a HALT. -/
theorem exec_resumeDue_halted (ho : a.op = .resume) (hst : (s.thread p).state = .halted)
    (hip : (s.thread p).ip ≠ 0x3FFF) : exec (.threadActionDue p) s = .next (actionDone p a
      (s.setThread p { (s.thread p).step with state := .run, nextSlot := s.slot })) := by
  change execThreadActionDue p s = _
  simp [execThreadActionDue, Thread.actDue, hs, ha, ho, hst]
  exact fun htop => absurd htop hip

/-- A resume past a HALT at 16 383 (R94). -/
theorem exec_resumeDue_top (ho : a.op = .resume) (hst : (s.thread p).state = .halted)
    (hip : (s.thread p).ip = 0x3FFF) : exec (.threadActionDue p) s = .next (fault p 2 (actionDone p a s)) := by
  change execThreadActionDue p s = _
  simp [execThreadActionDue, Thread.actDue, hs, ha, ho, hst, hip]

/-- A resume at a fault's instruction. -/
theorem exec_resumeDue_faulted (ho : a.op = .resume) (hst : (s.thread p).state = .faulted) :
    exec (.threadActionDue p) s = .next (actionDone p a
      (s.setThread p { s.thread p with state := .run, nextSlot := s.slot })) := by
  change execThreadActionDue p s = _
  simp [execThreadActionDue, Thread.actDue, hs, ha, ho, hst]

/-- An action in a state that does not allow it. -/
theorem exec_actionDue_refused
    (hst : a.op = .start ∧ ((s.thread p).state = .run ∨ (s.thread p).state = .hold ∨ (s.thread p).state = .wait) ∨
      a.op = .resume ∧ (s.thread p).state ≠ .halted ∧ (s.thread p).state ≠ .faulted) :
    exec (.threadActionDue p) s = .next (refuseState p a s) := by
  change execThreadActionDue p s = _
  rcases hst with ⟨ho, hst | hst | hst⟩ | ⟨ho, hne, hnf⟩
  · simp [execThreadActionDue, Thread.actDue, hs, ha, ho, hst]
  · simp [execThreadActionDue, Thread.actDue, hs, ha, ho, hst]
  · simp [execThreadActionDue, Thread.actDue, hs, ha, ho, hst]
  · simp [execThreadActionDue, Thread.actDue, hs, ha, ho, hne, hnf]

end

/-- Settles O31: an action is taken or refused on arrival, and has the effect of its kind in the slot in which it is due. -/
theorem threadControlCompletes : Obligations.ThreadControlCompletes := by
  unfold Obligations.ThreadControlCompletes
  and_intros
  · rintro s p d h hk rfl hd ha
    exact exec_regAction_pending h hk hd ha (by simp)
  · rintro s p d h hk rfl hd ha
    exact exec_regAction_pending h hk hd ha (by simp)
  · rintro s p d h hk rfl hd ha
    exact exec_regAction_pending h hk hd ha (by simp)
  · intro s p h hk hd
    rw [exec_regAction (p := p) (op := .stop) h (by simp), regAction_refused _ hk hd]
    rfl
  · intro s p a h hk hd ha
    refine ⟨_, exec_regAction (p := p) (op := .stop) h (by simp), ?_⟩
    rw [regAction_taken _ hk hd, takeAction_of_some _ ha]
    refine ⟨by rw [raiseNow_thread, setThread_get], fun ho hev => ?_⟩
    rw [raiseNow_of_no_outage _ _ _ _ (by exact ho)]
    exact mem_occs_raise (by omega) _ _ _ _ hev
  · rintro s p t a rfl hs ha ho
    refine ⟨_, exec_stopDue hs ha ho, ?_⟩
    rw [actionDone_thread, setThread_get]
    rfl
  · rintro s p t a rfl hs ha ho hst
    refine ⟨_, exec_startDue hs ha ho hst, fun x => ?_, ?_⟩
    · rw [State.axis, actionDone_crank]
      exact freeTargets_tgts ..
    · rw [actionDone_thread]
      exact congrArg (actedThread · a) (setThread_get ..)
  · rintro s p t a rfl hs ha ho hst hip
    refine ⟨_, exec_resumeDue_halted hs ha ho hst hip, ?_⟩
    rw [actionDone_thread, setThread_get]
    rfl
  · rintro s p t a rfl hs ha ho hst
    refine ⟨_, exec_resumeDue_faulted hs ha ho hst, ?_⟩
    rw [actionDone_thread, setThread_get]
    rfl
  · rintro s p t a rfl hs ha hst ⟨hl, hr⟩
    rw [exec_actionDue_refused hs ha hst]
    simp [refuseState, hl, hr]
  · intro s p c op h hk hc
    rw [exec_regAction h hc, regAction_gated _ hk]
  · rintro s p t a rfl hs ha ho hst hip
    refine ⟨_, exec_resumeDue_top hs ha ho hst hip, ?_⟩
    rw [fault_thread, actionDone_thread]
    exact ⟨rfl, rfl, hip, rfl⟩
  · rintro s p t a rfl hs ha ⟨ho, hr, hn⟩ hev
    exact ⟨_, exec_stopDue hs ha ho, mem_occs_actionDone hr hn hev⟩

end Sys2Proof.Proofs
end

section
/-! Command rings and bank CRCs (O32): the entry at the head of a thread's ring, by its CMD, and R131's computation. -/

namespace Sys2Proof.Proofs

open Sys2Proof.Machine Sys2Proof.Laws

/-! ### Entries (R140 to R142) -/

/-- The state in which a thread has taken the entry at the head of its ring. -/
def cmdTaken (p : ThreadId) (r : List Octets) (s : State) : State :=
  s.setThread p { s.thread p with cmdIn := r, cmds := (s.thread p).cmds + 1 }

/-- What a valid POST does: an entry in time goes to the mailbox, another is late (R142). -/
def postEntry (p : ThreadId) (b : Octets) (s : State) : State :=
  if s.inTime (BitVec.ofNat 80 (leAt b 8 10)) then
    let r := placeMail p ⟨BitVec.ofNat 80 (leAt b 8 10), word (leAt b 4 4), 0xFFFF⟩ s
    if r.2 then cdone p b r.1 else r.1
  else clate p b s

section
variable (p : ThreadId) (s : State)

theorem exec_cmdNop_eq : exec (.cmdNop p) s = takeCmd p (fun c => c == 0 || 5 ≤ c) (cdone p) s := rfl
theorem exec_cmdPost_eq : exec (.cmdPost p) s = takeCmd p (· == 1) (postEntry p) s := rfl
theorem exec_cmdStart_eq : exec (.cmdStart p) s = takeCmd p (· == 2) (ringAction p .start) s := rfl
theorem exec_cmdStop_eq : exec (.cmdStop p) s = takeCmd p (· == 3) (ringAction p .stop) s := rfl
theorem exec_cmdResume_eq : exec (.cmdResume p) s = takeCmd p (· == 4) (ringAction p .resume) s := rfl

end

section
variable {s : State} {p : ThreadId} {b : Octets} {r : List Octets} {c : Instr} {mine : Nat → Bool}
  {f : Octets → State → State} (he : exec c s = takeCmd p mine f s) (hb : (s.thread p).cmdIn = b :: r)
  (hk : s.clocked = true) (hm : mine (leAt b 0 1) = true)
include he hb hk hm

/-- A valid entry is handled by its command. -/
theorem exec_cmd_valid (hv : cmdValid b = true) : exec c s = .next (f b (cmdTaken p r s)) := by
  simp [he, takeCmd, hb, hk, hm, hv, cmdTaken]

/-- Another is discarded. -/
theorem exec_cmd_discarded (hv : cmdValid b = false) : exec c s = .next (cbad p b (cmdTaken p r s)) := by
  simp [he, takeCmd, hb, hk, hm, hv, cmdTaken]

end

/-- Each command's entry, by its CMD; NOP takes those of no CMD too (R141). -/
theorem exec_cmd_invalid {s : State} {p : ThreadId} {b : Octets} {r : List Octets} {c : Instr}
    (hb : (s.thread p).cmdIn = b :: r) (hk : s.clocked = true) (hv : cmdValid b = false)
    (hc : c = .cmdNop p ∧ (leAt b 0 1 = 0 ∨ 5 ≤ leAt b 0 1) ∨
      (c, leAt b 0 1) ∈ [(.cmdPost p, 1), (.cmdStart p, 2), (.cmdStop p, 3), (.cmdResume p, 4)]) :
    exec c s = .next (cbad p b (cmdTaken p r s)) := by
  simp only [List.mem_cons, Prod.mk.injEq, List.not_mem_nil, or_false] at hc
  rcases hc with ⟨rfl, hn⟩ | ⟨rfl, hn⟩ | ⟨rfl, hn⟩ | ⟨rfl, hn⟩ | ⟨rfl, hn⟩
  · exact exec_cmd_discarded (exec_cmdNop_eq p s) hb hk (by simpa using hn) hv
  · exact exec_cmd_discarded (exec_cmdPost_eq p s) hb hk (by simp [hn]) hv
  · exact exec_cmd_discarded (exec_cmdStart_eq p s) hb hk (by simp [hn]) hv
  · exact exec_cmd_discarded (exec_cmdStop_eq p s) hb hk (by simp [hn]) hv
  · exact exec_cmd_discarded (exec_cmdResume_eq p s) hb hk (by simp [hn]) hv

/-- A valid START, STOP or RESUME. -/
theorem exec_cmd_action {s : State} {p : ThreadId} {b : Octets} {r : List Octets} {c : Instr} {op : CtlOp}
    (hb : (s.thread p).cmdIn = b :: r) (hk : s.clocked = true) (hv : cmdValid b = true)
    (hc : (c, op, leAt b 0 1) ∈ [(.cmdStart p, .start, 2), (.cmdStop p, .stop, 3), (.cmdResume p, .resume, 4)]) :
    exec c s = .next (ringAction p op b (cmdTaken p r s)) := by
  simp only [List.mem_cons, Prod.mk.injEq, List.not_mem_nil, or_false] at hc
  rcases hc with ⟨rfl, rfl, hn⟩ | ⟨rfl, rfl, hn⟩ | ⟨rfl, rfl, hn⟩
  · exact exec_cmd_valid (exec_cmdStart_eq p s) hb hk (by simp [hn]) hv
  · exact exec_cmd_valid (exec_cmdStop_eq p s) hb hk (by simp [hn]) hv
  · exact exec_cmd_valid (exec_cmdResume_eq p s) hb hk (by simp [hn]) hv

/-- At least 1 us ahead, with none pending, it becomes the pending action (R127). -/
theorem exec_cmd_pending {s : State} {p : ThreadId} {b : Octets} {r : List Octets} {c : Instr} {op : CtlOp}
    (hb : (s.thread p).cmdIn = b :: r) (hk : s.clocked = true) (hv : cmdValid b = true)
    (hd : dtLe (dtAdd (s.replica islPacer) 4096000) (BitVec.ofNat 80 (leAt b 8 10)) = true)
    (ha : (s.thread p).act = none)
    (hc : (c, op, leAt b 0 1) ∈ [(.cmdStart p, .start, 2), (.cmdStop p, .stop, 3), (.cmdResume p, .resume, 4)]) :
    exec c s = .next (s.setThread p { s.thread p with
      cmdIn := r, cmds := (s.thread p).cmds + 1, cmdState := 1, cmdCause := 0
      act := some ⟨op, BitVec.ofNat 80 (leAt b 8 10), BitVec.ofNat 14 (leAt b 4 4), true, leAt b 1 1 % 2 == 1,
        BitVec.ofNat 16 (leAt b 2 2), true⟩ }) := by
  rw [exec_cmd_action hb hk hv hc, ringAction, if_pos (by exact hd),
    takeAction_of_none _ (by simpa [cmdTaken] using ha), cmdTaken, setThread_setThread, setThread_get]

/-- Settles O32: the entry leaves the ring and is counted, and then has the effect of its CMD. -/
theorem commandRingsComplete : Obligations.CommandRingsComplete := by
  unfold Obligations.CommandRingsComplete
  and_intros
  · rintro s p t b r rfl hb hk hv h0 h1
    refine ⟨_, exec_cmd_valid (exec_cmdNop_eq p s) hb hk (by simp [h0]) hv, ?_⟩
    rw [cdone, if_pos (by omega)]
    refine ⟨by rw [raise_thread, cmdTaken, setThread_get], fun hev => ?_⟩
    exact mem_occs_raise (s := cmdTaken p r s) (by omega) _ _ _ _ hev
  · rintro s p t b r rfl hb hk hv h0 hd hroom h1
    refine (exec_cmd_valid (exec_cmdPost_eq p s) hb hk (by simp [h0]) hv).trans (congrArg Host.Outcome.next ?_)
    have hin : (cmdTaken p r s).inTime (BitVec.ofNat 80 (leAt b 8 10)) = true := hd
    have hm : ((cmdTaken p r s).thread p).mbox.length < 8 := by simpa [cmdTaken] using hroom
    simp only [postEntry, hin, if_true, placeMail, hm, cdone, h1]
    simp [cmdTaken, word]
  · rintro s p t b r rfl hb hk hv h0 hd
    refine ⟨_, exec_cmd_valid (exec_cmdPost_eq p s) hb hk (by simp [h0]) hv, ?_⟩
    have hin : (cmdTaken p r s).inTime (BitVec.ofNat 80 (leAt b 8 10)) = false := hd
    simp only [postEntry, hin, Bool.false_eq_true, if_false, clate]
    refine ⟨by simp [cmdTaken], fun hev => ?_⟩
    exact mem_occs_raise (by omega) _ _ _ _ hev
  · rintro s p t b r rfl hb hk hv h0 hd ha
    exact exec_cmd_pending hb hk hv hd ha (by simp [h0])
  · rintro s p t b r rfl hb hk hv h0 hd ha
    exact exec_cmd_pending hb hk hv hd ha (by simp [h0])
  · rintro s p t b r rfl hb hk hv h0 hd ha
    exact exec_cmd_pending hb hk hv hd ha (by simp [h0])
  · rintro s p t b r c rfl hb hk hv hc
    refine ⟨_, exec_cmd_invalid hb hk hv hc, ?_⟩
    rw [cbad]
    refine ⟨by rw [raise_thread, cmdTaken, setThread_get], fun hev => ?_⟩
    exact mem_occs_raise (s := cmdTaken p r s) (by omega) _ _ _ _ hev
  · rintro s p t b r c rfl hb hk hv hc hd
    have hop : ∃ op, (c, op, leAt b 0 1) ∈
        [(.cmdStart p, CtlOp.start, 2), (.cmdStop p, .stop, 3), (.cmdResume p, .resume, 4)] := by
      simp only [List.mem_cons, Prod.mk.injEq, List.not_mem_nil, or_false] at hc ⊢
      rcases hc with hc | hc | hc
      · exact ⟨.start, .inl ⟨hc.1, rfl, hc.2⟩⟩
      · exact ⟨.stop, .inr (.inl ⟨hc.1, rfl, hc.2⟩)⟩
      · exact ⟨.resume, .inr (.inr ⟨hc.1, rfl, hc.2⟩)⟩
    obtain ⟨op, hop⟩ := hop
    refine ⟨_, exec_cmd_action hb hk hv hop, ?_⟩
    rw [ringAction, if_neg (by exact Bool.eq_false_iff.1 hd), clate]
    refine ⟨by simp [cmdTaken, refuseAction], fun hev => ?_⟩
    exact mem_occs_raise (by omega) _ _ _ _ hev
  · intro s h
    exact congrArg Host.Outcome.next (byHost_of_reach h _)
  · intro s hk hb hd
    change execBankCrcDone s = _
    have haddr : bankAddr (!s.pacer.bank) 0 = if s.pacer.bank then 0x800000 else 0x820000 := by
      cases s.pacer.bank <;> rfl
    simp only [execBankCrcDone, hk, hb, hd, Bool.and_self, if_true, haddr, Bool.not_false, Bool.false_eq_true, if_false]
  · intro s hk hb hd
    change execBankCrcDone s = _
    simp only [execBankCrcDone, hk, hb, hd, Bool.and_self, if_true, Bool.not_true]

end Sys2Proof.Proofs
end

section
/-! Stored octets (O10): what a command that may write BAR2 memory or the module flash does to the octets it does not store
to. Every other command keeps the memories whole (O8). -/

namespace Sys2Proof.Proofs

open Sys2Proof.Machine Sys2Proof.Laws

/-! ### Parts kept whole -/

theorem mem_of_outside {q : Parts} {s t : State} (h : t.outside q = s.outside q) (hq : q.mem = false) : t.mem = s.mem := by
  simpa [State.outside, hq] using congrArg State.mem h

theorem flash_of_outside {q : Parts} {s t : State} (h : t.outside q = s.outside q) (hq : q.flash = false) :
    t.flash = s.flash := by
  simpa [State.outside, hq] using congrArg State.flash h

/-- What leaves Pacer, its latch apart, leaves the banks as open as they were. -/
theorem bankOpen_of_outside {q : Parts} {s t : State} (h : t.outside q = s.outside q) (hq : q.pacer = false) (bank : Bool) :
    t.bankOpen bank = s.bankOpen bank := by
  have hb : t.pacer.bank = s.pacer.bank := by
    have := congrArg (fun x => x.pacer.bank) h
    cases hl : q.latch <;> simpa [State.outside, hq, hl] using this
  have hl : t.pacer.locked = s.pacer.locked := by
    have := congrArg (fun x => x.pacer.locked) h
    cases hl : q.latch <;> simpa [State.outside, hq, hl] using this
  rw [State.bankOpen, State.bankOpen, hb, hl]

@[simp] theorem segWr_mem (lost : List Nat) (s : State) : (segWr lost s).mem = s.mem :=
  mem_of_outside (q := { occs := true, engines := true, latch := true }) (outside_segWr lost s rfl rfl rfl) rfl

/-! ### Octets that a write covers -/

theorem covers_iff {addr a : Nat} {data : List (Option Byte)} :
    covers addr data a = true ↔ addr ≤ a ∧ ∃ x, data[a - addr]? = some (some x) := by
  rw [covers, Bool.and_eq_true, decide_eq_true_eq]
  refine and_congr_right fun _ => ?_
  split
  · next x hx => exact ⟨fun _ => ⟨x, hx⟩, fun _ => rfl⟩
  · next hno => exact ⟨nofun, fun ⟨x, hx⟩ => absurd hx (hno x)⟩

theorem lt_of_covers {addr a : Nat} {data : List (Option Byte)} (h : covers addr data a = true) :
    a < addr + data.length := by
  obtain ⟨hle, x, hx⟩ := covers_iff.1 h
  have := (List.getElem?_eq_some_iff.1 hx).1
  omega

/-- What the part of a write from `lo` up to `hi` covers, the write covers too. -/
theorem covers_of_piece {addr lo hi a : Nat} {data : List (Option Byte)}
    (h : covers (max addr lo) ((data.take (hi - addr)).drop (lo - addr)) a = true) :
    lo ≤ a ∧ a < hi ∧ covers addr data a = true := by
  obtain ⟨hle, x, hx⟩ := covers_iff.1 h
  have hidx : lo - addr + (a - max addr lo) = a - addr := by omega
  rw [List.getElem?_drop, hidx, List.getElem?_take] at hx
  split at hx
  · exact ⟨by omega, by omega, covers_iff.2 ⟨by omega, x, hx⟩⟩
  · exact absurd hx nofun

/-- An octet that a write does not cover reads as before. -/
theorem rd8_wrEn_uncovered {m : List (Nat × Byte)} {addr a : Nat} {data : List (Option Byte)}
    (hm : canon memDflt m = true) (h : covers addr data a = false) :
    rd8 memDflt (wrEn memDflt m addr data) a = rd8 memDflt m a := by
  refine rd8_wrEn_out _ _ _ _ _ hm fun i x hx ha => Bool.false_ne_true (h.symm.trans (covers_iff.2 ⟨by omega, x, ?_⟩))
  rw [ha, Nat.add_sub_cancel_left, hx]

/-! ### Vector memory (R156) -/

@[simp] theorem allowed_length (s : State) (addr : Nat) (data : List (Option Byte)) :
    (allowed s addr data).length = data.length := by
  induction data generalizing addr with
  | nil => rfl
  | cons b bs ih => rw [allowed, List.length_cons, ih, List.length_cons]

@[simp] theorem writeVectors_mem (addr : Nat) (data : List (Option Byte)) (s : State) :
    (writeVectors addr data s).mem = wrEn memDflt s.mem addr (allowed s addr data) := segWr_mem ..

@[simp] theorem writeVectors_bankOpen (addr : Nat) (data : List (Option Byte)) (s : State) (bank : Bool) :
    (writeVectors addr data s).bankOpen bank = s.bankOpen bank :=
  bankOpen_of_outside (q := { occs := true, mem := true, engines := true, latch := true })
    (outside_writeVectors addr data s rfl rfl rfl rfl) rfl bank

/-! ### Instruction banks (R128, R130) -/

section
variable (bank : Bool) (addr : Nat) (data : List (Option Byte)) (s : State)

theorem writeBank_mem : (writeBank bank addr data s).mem =
    if s.bankOpen bank then wrEn memDflt s.mem addr data else s.mem := by
  unfold writeBank State.bankOpen
  cases data with
  | nil => simp [wrEn]
  | cons b bs => cases s.pacer.locked <;> cases bank <;> cases s.pacer.bank <;> rfl

theorem writeBank_bankOpen (other : Bool) : (writeBank bank addr data s).bankOpen other = s.bankOpen other := by
  unfold writeBank
  repeat' split
  all_goals rfl

variable {bank addr data s} (hm : canon memDflt s.mem = true)
include hm

theorem canon_writeBank : canon memDflt (writeBank bank addr data s).mem = true := by
  rw [writeBank_mem]
  split
  · exact canon_wrEn _ _ _ _ hm
  · exact hm

/-- An octet that a write to a bank does not cover, or of one that cannot be written, reads as before. -/
theorem rd8_writeBank {a : Nat} (h : s.bankOpen bank = true → covers addr data a = false) :
    rd8 memDflt (writeBank bank addr data s).mem a = rd8 memDflt s.mem a := by
  rw [writeBank_mem]
  split
  · next ho => exact rd8_wrEn_uncovered hm (h ho)
  · rfl

end

/-! ### BAR2 (R361) -/

/-- The part of a write to BAR2 that lies from `lo` up to `hi`. -/
def bar2Piece (addr : Nat) (data : List (Option Byte)) (lo hi : Nat) : List (Option Byte) :=
  (data.take (hi - addr)).drop (lo - addr)

/-- The state after the vector memory's part of a write to BAR2. -/
def vectorPart (addr : Nat) (data : List (Option Byte)) (s : State) : State :=
  if addr < 0x800000 then writeVectors addr (data.take (0x800000 - addr)) s else s

theorem writeBar2_eq (addr : Nat) (data : List (Option Byte)) (s : State) : writeBar2 addr data s =
    writeBank true (max addr 0x820000) (bar2Piece addr data 0x820000 0x840000)
      (writeBank false (max addr 0x800000) (bar2Piece addr data 0x800000 0x820000) (vectorPart addr data s)) := by
  simp [writeBar2, vectorPart, bar2Piece]

section
variable {addr : Nat} {data : List (Option Byte)} {s : State}

theorem vectorPart_bankOpen (bank : Bool) : (vectorPart addr data s).bankOpen bank = s.bankOpen bank := by
  unfold vectorPart
  split
  · exact writeVectors_bankOpen ..
  · rfl

theorem canon_vectorPart (hm : canon memDflt s.mem = true) : canon memDflt (vectorPart addr data s).mem = true := by
  unfold vectorPart
  split
  · rw [writeVectors_mem]
    exact canon_wrEn _ _ _ _ hm
  · exact hm

/-- The vector memory's part stores below 0x800000 only, and there as its active regions let it. -/
theorem rd8_vectorPart {a : Nat} (hm : canon memDflt s.mem = true)
    (h : a < 0x800000 → covers addr (allowed s addr (data.take (0x800000 - addr))) a = false) :
    rd8 memDflt (vectorPart addr data s).mem a = rd8 memDflt s.mem a := by
  unfold vectorPart
  split
  · rw [writeVectors_mem]
    refine rd8_wrEn_uncovered hm (Bool.eq_false_iff.2 fun hc => ?_)
    have hlt := lt_of_covers hc
    rw [allowed_length, List.length_take] at hlt
    exact Bool.false_ne_true ((h (by omega)).symm.trans hc)
  · rfl

/-- An octet of BAR2 to which a write does not store reads as before. -/
theorem rd8_writeBar2 {a : Nat} (hm : canon memDflt s.mem = true) (h : s.bar2Stores addr data a = false) :
    rd8 memDflt (writeBar2 addr data s).mem a = rd8 memDflt s.mem a := by
  have hbank1 : s.bankOpen true = true →
      covers (max addr 0x820000) (bar2Piece addr data 0x820000 0x840000) a = false := fun ho =>
    Bool.eq_false_iff.2 fun hc => by
      obtain ⟨hlo, hhi, hcov⟩ := covers_of_piece hc
      rw [State.bar2Stores, if_neg (by omega), if_neg (by omega), ho, hcov] at h
      simp [hhi] at h
  have hbank0 : s.bankOpen false = true →
      covers (max addr 0x800000) (bar2Piece addr data 0x800000 0x820000) a = false := fun ho =>
    Bool.eq_false_iff.2 fun hc => by
      obtain ⟨hlo, hhi, hcov⟩ := covers_of_piece hc
      rw [State.bar2Stores, if_neg (by omega), if_pos hhi, ho, hcov] at h
      exact absurd h (by decide)
  have hvec : a < 0x800000 → covers addr (allowed s addr (data.take (0x800000 - addr))) a = false := fun hlt => by
    rwa [State.bar2Stores, if_pos hlt] at h
  rw [writeBar2_eq, rd8_writeBank (canon_writeBank (canon_vectorPart hm)), rd8_writeBank (canon_vectorPart hm),
    rd8_vectorPart hm hvec]
  · rwa [vectorPart_bankOpen]
  · rwa [writeBank_bankOpen, vectorPart_bankOpen]

end

/-! ### Fills (R166) -/

/-- A fill that ends stores what it has kept, or nothing. -/
theorem fillComplete_mem {v : EngineId} {data : Octets} {s t : State} {f : Fill} (h : exec (.fillComplete v data) s = .next t)
    (hf : (s.engine v).fill = some f) :
    t.mem = s.mem ∨ t.mem = wrN memDflt s.mem (64 * f.first) (data.take (64 * f.kept s)) := by
  obtain rfl := Host.Outcome.next.inj (h : execFillComplete v data s = .next t)
  simp only [hf]
  split
  · exact .inl rfl
  · right
    split
    · simp
    · repeat' split
      all_goals simp

theorem storesTo_fill {v : EngineId} {s : State} {f : Fill} (hf : (s.engine v).fill = some f) (data : Octets) (a : Nat) :
    storesTo (.fillComplete v data) s a = (decide (64 * f.first ≤ a) && decide (a < 64 * (f.first + f.kept s))) := by
  unfold storesTo
  dsimp only
  rw [hf]

/-- An octet outside the vectors that a fill keeps reads as before. -/
theorem rd8_fillComplete {v : EngineId} {data : Octets} {s t : State} {a : Nat} (hm : canon memDflt s.mem = true)
    (h : exec (.fillComplete v data) s = .next t) (ha : storesTo (.fillComplete v data) s a = false) :
    rd8 memDflt t.mem a = rd8 memDflt s.mem a := by
  cases hf : (s.engine v).fill with
  | none =>
    obtain rfl := Host.Outcome.next.inj (h : execFillComplete v data s = .next t)
    rw [hf]
  | some f =>
    have hlen : (data.take (64 * f.kept s)).length ≤ 64 * f.kept s := List.length_take_le ..
    have hout : a < 64 * f.first ∨ 64 * f.first + (data.take (64 * f.kept s)).length ≤ a := by
      rw [storesTo_fill hf, Bool.and_eq_false_iff, decide_eq_false_iff_not, decide_eq_false_iff_not] at ha
      omega
    rcases fillComplete_mem h hf with hmem | hmem
    · rw [hmem]
    · rw [hmem]
      exact rd8_wrN_out _ _ _ _ _ hm hout

/-! ### The module flash (R381) -/

/-- How many octets a flash operation bears on: its page's, or a sector's. -/
def jobSpan (j : FlashJob) : Nat := (j.page.map List.length).getD 4096

/-- An octet to which the operation that ends does not store lies outside its span. -/
theorem outside_jobSpan {ok : Bool} {s : State} {j : FlashJob} {a : Nat} (hj : s.hb.flashJob = some j)
    (ha : storesFlash (.flashOpComplete ok) s a = false) : a < j.addr ∨ j.addr + jobSpan j ≤ a := by
  obtain ⟨addr, page⟩ := j
  cases page <;> simp [storesFlash, hj, jobSpan] at ha ⊢ <;> omega

/-- An operation that ends writes as many octets as its span holds, whether it verified or not. -/
theorem flashOpComplete_flash {ok : Bool} {s t : State} {j : FlashJob} (hj : s.hb.flashJob = some j)
    (h : exec (.flashOpComplete ok) s = .next t) :
    ∃ got : Octets, got.length = jobSpan j ∧ t.flash = wrN flashDflt s.flash j.addr got := by
  obtain rfl := Host.Outcome.next.inj (h : execFlashOpComplete ok s = .next t)
  rw [hj]
  refine ⟨_, ?_, rfl⟩
  obtain ⟨addr, page⟩ := j
  cases ok
  · rw [if_neg nofun, List.length_map, List.length_range]
    cases page
    · exact List.length_replicate
    · rfl
  · rw [if_pos rfl]
    cases page
    · exact List.length_replicate
    · rfl

theorem rd8_flashOpComplete {ok : Bool} {s t : State} {a : Nat} (hm : canon flashDflt s.flash = true)
    (h : exec (.flashOpComplete ok) s = .next t) (ha : storesFlash (.flashOpComplete ok) s a = false) :
    rd8 flashDflt t.flash a = rd8 flashDflt s.flash a := by
  cases hj : s.hb.flashJob with
  | none =>
    obtain rfl := Host.Outcome.next.inj (h : execFlashOpComplete ok s = .next t)
    rw [hj]
  | some j =>
    obtain ⟨got, hlen, hflash⟩ := flashOpComplete_flash hj h
    rw [hflash]
    exact rd8_wrN_out _ _ _ _ _ hm (hlen ▸ outside_jobSpan hj ha)

/-- What the rails leave of an erase they cut short. -/
theorem cutErase_flash {s : State} {j : FlashJob} (hj : s.hb.flashJob = some j) :
    ∃ rest : Octets, rest.length = 4096 ∧ (cutErase s).flash = wrN flashDflt s.flash j.addr rest := by
  refine ⟨(List.range 4096).map fun k => Config.flashFail s.clock (j.addr + k), ?_, ?_⟩
  · rw [List.length_map, List.length_range]
  · simp only [cutErase, hj]

theorem railDown_flash (s : State) : (railDown s).flash = if s.dyn.rails = 5 then (cutErase s).flash else s.flash := by
  unfold railDown
  split
  · rw [if_neg (by omega)]
    rfl
  · dsimp only
    split <;> rfl

/-- An erase that the rails cut short touches its sector only, and no page program is cut (R398). -/
theorem rd8_duskRailsDown {s t : State} {a : Nat} (hm : canon flashDflt s.flash = true)
    (h : exec .duskRailsDown s = .next t) (ha : storesFlash .duskRailsDown s a = false) :
    rd8 flashDflt t.flash a = rd8 flashDflt s.flash a := by
  obtain rfl := Host.Outcome.next.inj (h : execDuskRailsDown s = .next t)
  split
  · next hc =>
    obtain ⟨-, -, -, hprog⟩ := hc
    rw [railDown_flash]
    split
    · next hr =>
      cases hj : s.hb.flashJob with
      | none => rw [cutErase, hj]
      | some j =>
        have herase : j.page = none := by simp [State.programming, hj] at hprog; exact hprog.2
        have hout : a < j.addr ∨ j.addr + 4096 ≤ a := by
          simp [storesFlash, hj, hr, herase] at ha
          omega
        obtain ⟨rest, hlen, hflash⟩ := cutErase_flash hj
        rw [hflash]
        exact rd8_wrN_out _ _ _ _ _ hm (hlen ▸ hout)
    · rfl
  · rfl

/-! ### Every command -/

/-- BAR2 memory: the commands that may write it one by one. -/
theorem rd8_mem_of_exec {i : Instr} {s t : State} {a : Nat} (hm : canon memDflt s.mem = true) (h : exec i s = .next t)
    (ha : storesTo i s a = false) : rd8 memDflt t.mem a = rd8 memDflt s.mem a := by
  have hframe := commandFrames i s t h
  cases i with
  | vectorMemoryWrite addr data =>
    obtain rfl := Host.Outcome.next.inj (h : execVectorMemoryWrite addr data s = .next t)
    unfold byHost
    split
    · rw [writeVectors_mem]
      exact rd8_wrEn_uncovered hm ha
    · rfl
  | bar2Write bus addr data =>
    obtain rfl := Host.Outcome.next.inj (h : execBar2Write bus addr data s = .next t)
    split
    · exact rd8_writeBar2 hm ha
    · rfl
  | spiWriteBar2 addr val =>
    obtain rfl := Host.Outcome.next.inj (h : execSpiWriteBar2 addr val s = .next t)
    split
    · exact rd8_writeBar2 hm ha
    · rfl
  | fillComplete v data =>
    exact rd8_fillComplete hm h ha
  | vinApplied => exact absurd ha nofun
  | railUp => exact absurd ha nofun
  | duskRailsDown => exact absurd ha nofun
  | _ => rw [mem_of_outside hframe rfl]

/-- The module flash likewise. -/
theorem rd8_flash_of_exec {i : Instr} {s t : State} {a : Nat} (hm : canon flashDflt s.flash = true) (h : exec i s = .next t)
    (ha : storesFlash i s a = false) : rd8 flashDflt t.flash a = rd8 flashDflt s.flash a := by
  have hframe := commandFrames i s t h
  cases i with
  | flashOpComplete ok => exact rd8_flashOpComplete hm h ha
  | duskRailsDown => exact rd8_duskRailsDown hm h ha
  | _ => rw [flash_of_outside hframe rfl]

/-- Settles O10: the commands that write a memory store where they may, and the others keep it. -/
theorem byteStores : Obligations.ByteStores := by
  unfold Obligations.ByteStores
  intro i s t hwf h
  obtain ⟨hmem, hflash⟩ := Bool.and_eq_true_iff.1 hwf
  exact ⟨fun a => rd8_mem_of_exec hmem h, fun a => rd8_flash_of_exec hflash h⟩

end Sys2Proof.Proofs
end

section
/-! A write to BAR2 over a memory that is not in canonical form (O54). -/

namespace Sys2Proof.Proofs

open Sys2Proof.Machine Sys2Proof.Laws

theorem bar2Piece_of_below {addr lo : Nat} {data : List (Option Byte)} (h : addr + data.length ≤ lo) (hi : Nat) :
    bar2Piece addr data lo hi = [] :=
  List.drop_eq_nil_of_le (by rw [List.length_take]; omega)

/-- A write that ends in vector memory is one to vector memory alone (R361). -/
theorem writeBar2_of_vectors {addr : Nat} {data : List (Option Byte)} (s : State) (h0 : data ≠ [])
    (h : addr + data.length ≤ 0x800000) : writeBar2 addr data s = writeVectors addr data s := by
  have hlen : 0 < data.length := List.length_pos_iff.2 h0
  rw [writeBar2_eq, bar2Piece_of_below h, bar2Piece_of_below (by omega), vectorPart, if_pos (by omega),
    List.take_of_length_le (by omega)]
  rfl

/-- The module in Dawn, its BAR2 memory listing octet 5 before octet 3, which reads 0, since nothing is looked for behind
a larger address. -/
def unsortedMem : State := { State.reset with mem := [(5, 1), (3, 1)] }

/-- No engine plays in Dawn, so that a write to octet 5 may act (R156). -/
theorem allowed_unsortedMem : allowed unsortedMem 5 [some 0] = [some 0] := by decide

/-- A write of 0 to octet 5 takes its entry away, and octet 3 comes to read 1. -/
theorem writeBar2_unsortedMem : (writeBar2 5 [some 0] unsortedMem).mem = [(3, 1)] := by
  rw [writeBar2_of_vectors _ (List.cons_ne_nil _ _) (by decide), writeVectors_mem, allowed_unsortedMem]
  rfl

/-- Refutes O54: its clause that a write to BAR2 touches no octet that it does not address asks for no memory in canonical
form, as O10 does (over one, `rd8_writeBar2` keeps those octets). Over `unsortedMem` a write of 0 to octet 5 changes what
octet 3 reads as. -/
theorem not_flashAndBar2Complete : ¬ Obligations.FlashAndBar2Complete := by
  unfold Obligations.FlashAndBar2Complete
  rintro ⟨-, -, -, -, -, -, -, -, -, -, -, -, -, -, -, -, -, -, -, -, hwrite, -, -⟩
  obtain ⟨u, hu, -, -, hkept⟩ := hwrite unsortedMem .pcie 5 [some 0] rfl
  have hmem : u.mem = [(3, 1)] := by
    rw [← Host.Outcome.next.inj hu]
    exact writeBar2_unsortedMem
  have h3 := hkept 3 (.inl (by decide))
  rw [hmem] at h3
  exact absurd h3 (by decide)

end Sys2Proof.Proofs
end

section
/-! The operations that the vector engines' commands share (O33, O34): what each makes of its engine, and what it leaves
(R156, R157, R159, R161, R166, R168). -/

namespace Sys2Proof.Proofs

open Sys2Proof.Machine Sys2Proof.Laws

/-! ### Operations in turn -/

section
variable {α β : Type} {p : State → β}

theorem foldl_keeps {f : State → α → State} {l : List α} (h : ∀ a ∈ l, ∀ s, p (f s a) = p s) (s : State) :
    p (l.foldl f s) = p s := by
  induction l generalizing s with
  | nil => rfl
  | cons a l ih =>
    rw [List.foldl_cons, ih (fun b hb => h b (List.mem_cons_of_mem a hb)), h a List.mem_cons_self]

theorem foldl_congr_of_keeps {q : State → Prop} {f g : State → α → State} {l : List α}
    (h : ∀ a s, q s → f s a = g s a ∧ q (f s a)) {s : State} (hs : q s) : l.foldl f s = l.foldl g s := by
  induction l generalizing s with
  | nil => rfl
  | cons a l ih =>
    obtain ⟨hfg, hq⟩ := h a s hs
    rw [List.foldl_cons, List.foldl_cons, ← hfg, ih hq]

/-- A part of the state that one turn alone changes. -/
theorem forEach_at {n : Nat} {f : Fin n → State → State} {i : Fin n} {g : β → β} (hi : ∀ s, p (f i s) = g (p s))
    (h : ∀ j, j ≠ i → ∀ s, p (f j s) = p s) (s : State) : p (forEach n f s) = g (p s) := by
  obtain ⟨l, r, hl⟩ := List.append_of_mem (List.mem_finRange i)
  have hnodup := List.nodup_finRange n
  rw [hl, List.nodup_middle, List.nodup_cons, List.mem_append, not_or] at hnodup
  obtain ⟨⟨hil, hir⟩, -⟩ := hnodup
  rw [forEach, hl, List.foldl_append, List.foldl_cons,
    foldl_keeps fun j hj => h j fun heq => hir (heq ▸ hj), hi, foldl_keeps fun j hj => h j fun heq => hil (heq ▸ hj)]

end

variable {s t : State} {v : EngineId}

/-! ### Parts of the state outside what an operation may change -/

theorem engine_of_outside {q : Parts} (h : t.outside q = s.outside q) (hq : q.engines = false) (v : EngineId) :
    t.engine v = s.engine v := by
  have hengines : t.engines = s.engines := by simpa [State.outside, hq] using congrArg State.engines h
  rw [State.engine, hengines, State.engine]

theorem spokes_of_outside {q : Parts} (h : t.outside q = s.outside q) (hq : q.spokes = false) : t.spokes = s.spokes := by
  simpa [State.outside, hq] using congrArg State.spokes h

theorem engRegs_of_outside {q : Parts} (h : t.outside q = s.outside q) (hq : q.isl = false) (v : EngineId) :
    t.engRegs v = s.engRegs v := by
  have hisl : t.isl = s.isl := by simpa [State.outside, hq] using congrArg State.isl h
  simp only [State.engRegs, State.island, hisl]

theorem entry_congr (h : t.isl = s.isl) (v : EngineId) (n : Nat) : t.entry v n = s.entry v n := by
  simp only [State.entry, State.engRegs, State.island, h]

theorem idleSeg_congr (h : t.isl = s.isl) (v : EngineId) : t.idleSeg v = s.idleSeg v := by
  simp only [State.idleSeg, State.act, State.island, h]

theorem idleOk_congr (h : t.isl = s.isl) (v : EngineId) : t.idleOk v = s.idleOk v := by
  simp only [State.idleOk, entry_congr h, idleSeg_congr h]

section
variable (s) (u v : EngineId) (x : Engine) (n : Nat)

@[simp] theorem setEngine_entry : (s.setEngine u x).entry v n = s.entry v n := rfl
@[simp] theorem setEngine_idleSeg : (s.setEngine u x).idleSeg v = s.idleSeg v := rfl
@[simp] theorem setEngine_idleOk : (s.setEngine u x).idleOk v = s.idleOk v := rfl
@[simp] theorem setEngine_evFull : (s.setEngine u x).evFull n = s.evFull n := rfl

end

/-! ### Events of an engine (R174) -/

/-- An event of an engine that its channel has room for sets out. -/
theorem mem_occs_engine {k : Nat} (hk : k < 4) (c : Nat) (d : DT) (h : s.evFull (evEng v k) = false) :
    ⟨Fin.ofNat 256 (evEng v k), causeWord c 0 0, d, false⟩ ∈ (raise (evEng v k) c 0 0 d s).occs :=
  mem_occs_raise (by have := v.isLt; unfold evEng; omega) c 0 0 d h

section
variable {p : Prop} [Decidable p] {e c d a : Nat} {dt : DT}

@[simp] theorem raiseIf_engine (s : State) (v : EngineId) : (if p then raise e c d a dt s else s).engine v = s.engine v := by
  split <;> simp

theorem mem_raiseIf {o : Occ} (h : o ∈ s.occs) : o ∈ (if p then raise e c d a dt s else s).occs := by
  split
  · exact mem_raise h
  · exact h

end

/-! ### Fills and active regions (R166) -/

section
variable (s)

/-- Where the active regions are about to change, of an engine only its stream fill has gone on. -/
theorem syncFills_engine (v : EngineId) : ∃ x, (syncFills s).engine v = { s.engine v with fill := x } := by
  unfold syncFills
  refine List.foldlRecOn (motive := fun (t : State) => ∃ x, t.engine v = { s.engine v with fill := x }) _ _ ⟨_, rfl⟩ ?_
  rintro t ⟨x, hx⟩ u -
  split
  · by_cases h : v = u
    · subst h
      exact ⟨_, by rw [modEngine_eq, setEngine_get, hx]⟩
    · exact ⟨x, by simp [h, hx]⟩
  · exact ⟨x, hx⟩

@[simp] theorem syncFills_occs : (syncFills s).occs = s.occs := occs_of_outside (outside_syncFills s rfl)
@[simp] theorem syncFills_spokes : (syncFills s).spokes = s.spokes :=
  spokes_of_outside (q := { engines := true }) (outside_syncFills s rfl) rfl
@[simp] theorem syncFills_entry (v : EngineId) (n : Nat) : (syncFills s).entry v n = s.entry v n :=
  entry_congr (isl_syncFills s) v n
@[simp] theorem syncFills_idleSeg (v : EngineId) : (syncFills s).idleSeg v = s.idleSeg v :=
  idleSeg_congr (isl_syncFills s) v
@[simp] theorem syncFills_idleOk (v : EngineId) : (syncFills s).idleOk v = s.idleOk v := idleOk_congr (isl_syncFills s) v
@[simp] theorem syncFills_evFull (n : Nat) : (syncFills s).evFull n = s.evFull n := by
  simp only [State.evFull, syncFills_occs]

end

/-! ### A play starts (R157, R159) -/

/-- An engine that has begun a play of a segment, with the stream fill as far as it has come. -/
def playing (en : Engine) (n : BitVec 10) (idle : Bool) (fill : Option Fill) : Engine :=
  { en with
    fill := fill, state := if idle then .idle else .play, seg := n, pos := 0, fixed := none, lastPlay := false
    playNo := en.playNo + 1 }

theorem startPlay_engine {en : Engine} (h : s.engine v = en) (n : BitVec 10) (idle : Bool) (d : DT) :
    ∃ x, (startPlay v n.toNat idle d s).engine v = playing en n idle x := by
  obtain ⟨x, hx⟩ := syncFills_engine s v
  exact ⟨x, by simp [startPlay, playing, hx, h]⟩

theorem mem_startPlay {o : Occ} {n : Nat} {idle : Bool} {d : DT} (h : o ∈ s.occs) :
    o ∈ (startPlay v n idle d s).occs :=
  mem_raiseIf (by simpa using h)

/-! ### RATE (R163) -/

@[simp] theorem sayRate_engine (v : EngineId) (s : State) :
    (sayRate v s).engine v = { s.engine v with rateDue := false } := by
  unfold sayRate
  dsimp only
  split
  · simp
  · next h =>
    rw [← Bool.eq_false_iff.2 h]

theorem sayRate_of_said (h : (s.engine v).rateDue = false) : sayRate v s = s := by
  simp [sayRate, h]

section
variable (v : EngineId) (s : State)

@[simp] theorem sayRate_spokes : (sayRate v s).spokes = s.spokes := by
  unfold sayRate
  dsimp only
  split <;> simp

@[simp] theorem sayRate_isl : (sayRate v s).isl = s.isl := by
  unfold sayRate
  dsimp only
  split <;> simp

end

/-! ### An engine stops (R161) -/

/-- An engine that has stopped, with the stream fill and the strobes that remain. -/
def stoppedEngine (en : Engine) (cause : Nat) (fill : Option Fill) (strobes : List Strobe) : Engine :=
  { en with
    state := .stopped, fixed := none, want := none, lastPlay := false, starving := false, jump := none
    cause := BitVec.ofNat 4 cause, rateDue := false, fill := fill, strobes := strobes }

theorem stopEngine_engine (v : EngineId) (cause : Nat) (s : State) :
    ∃ x l, (stopEngine v cause s).engine v = stoppedEngine (s.engine v) cause x l := by
  obtain ⟨x, hx⟩ := syncFills_engine s v
  have hgaps : (forEach 64 (fun i t => if t.owner i == some v then startGap i t else t) (syncFills s)).engine v =
      (syncFills s).engine v := by
    refine engine_of_outside (q := { truing := true }) (outside_forEach _ _ (fun i t => ?_) _) rfl v
    split
    · exact outside_startGap i t rfl
    · rfl
  exact ⟨x, _, by simp only [stopEngine, State.modEngine, setEngine_get, setIsland_engine, hgaps, hx]; rfl⟩

@[simp] theorem stopEngine_spokes (v : EngineId) (cause : Nat) (s : State) : (stopEngine v cause s).spokes = s.spokes :=
  spokes_of_outside (q := { isl := true, engines := true, truing := true }) (outside_stopEngine v cause s rfl rfl rfl) rfl

/-! ### Messages from Pacer (R21, R158) -/

theorem dueMsg_singleton (m : EngMsg) (f : EngMsg → Bool) (d : DT) :
    dueMsg [m] f d = if f m && dtLe m.key.1 d then some m else none := rfl

theorem state_of_idleMsg {m : EngMsg} (h : s.idleMsg v = some m) : (s.engine v).state = .stopped := by
  by_contra hne
  simp [State.idleMsg, hne] at h

theorem idleMsg_of_running (h : (s.engine v).state ≠ .stopped) : s.idleMsg v = none := by
  simp [State.idleMsg, h]

theorem vecDue_of_stopped (h : (s.engine v).state = .stopped) : s.vecDue v = false := by
  simp [State.vecDue, h]

end Sys2Proof.Proofs
end

section
/-! Latch points, boundaries and vector starts (O33): which choice falls, and what each makes of the engine (R157, R159,
R160, R162, R168). -/

namespace Sys2Proof.Proofs

open Sys2Proof.Machine Sys2Proof.Laws

variable {s : State} {v : EngineId}

/-! ### The segment chosen (R155, R166, R168) -/

section
variable {n plays : Nat} {jumped : Bool}

theorem fixSeg_of_playable (h : eValid (s.entry v n) = true ∧ eStream (s.entry v n) = false) :
    fixSeg v n plays jumped s = s.setEngine v { s.engine v with
      fixed := some (.seg (BitVec.ofNat 10 n) plays jumped), want := none } := by
  simp [fixSeg, h]

/-- The idle segment stands in for a segment that is not ready, and that segment stays wanted. -/
theorem fixSeg_of_unready (h : eValid (s.entry v n) = true ∧ eStream (s.entry v n) = true)
    (hready : (s.engine v).isReady n = false) (hidle : s.idleOk v = true) :
    fixSeg v n plays jumped s = s.setEngine v { s.engine v with
      fixed := some (.idle (BitVec.ofNat 10 (s.idleSeg v)) true), want := some ⟨BitVec.ofNat 10 n, plays, jumped⟩ } := by
  simp [fixSeg, h, hready, hidle]

theorem fixSeg_of_invalid (h : eValid (s.entry v n) = false) (hidle : s.idleOk v = true) :
    fixSeg v n plays jumped s = raise (evEng v 0) 9 0 0 (s.engine v).nextVec (s.setEngine v { s.engine v with
      fixed := some (.idle (BitVec.ofNat 10 (s.idleSeg v)) false), want := none }) := by
  simp [fixSeg, h, hidle]

end

/-! ### Latch points (R159) -/

/-- The state in which the choice of a latch point is made. -/
def atLatch (v : EngineId) (s : State) : State :=
  (syncFills s).modEngine v fun en => { en with lastPlay := s.lastOf v }

section
variable (v : EngineId) (s : State) (n : Nat)

theorem atLatch_engine : ∃ x, (atLatch v s).engine v = { s.engine v with fill := x, lastPlay := s.lastOf v } := by
  obtain ⟨x, hx⟩ := syncFills_engine s v
  exact ⟨x, by simp [atLatch, hx]⟩

@[simp] theorem atLatch_entry : (atLatch v s).entry v n = s.entry v n := by simp [atLatch]
@[simp] theorem atLatch_idleSeg : (atLatch v s).idleSeg v = s.idleSeg v := by simp [atLatch]
@[simp] theorem atLatch_idleOk : (atLatch v s).idleOk v = s.idleOk v := by simp [atLatch]
@[simp] theorem atLatch_evFull : (atLatch v s).evFull n = s.evFull n := by simp [atLatch]

end

/-- The choice of a jump: its target, from its first play on. -/
def afterJump (v : EngineId) (s : State) : State :=
  (atLatch v s).setEngine v { (atLatch v s).engine v with jump := none }

/-- What R159 chooses, in the state in which it does. -/
def chooseNext (v : EngineId) (s : State) : State :=
  let en := s.engine v
  match en.jump with
  | some n => fixSeg v n.toNat 0 true (s.setEngine v { en with jump := none })
  | none =>
    if en.state == .idle then
      match en.want with
      | some w => fixSeg v w.seg.toNat w.plays w.jumped s
      | none => fixIdle v s
    else if !en.lastPlay then fixSeg v en.seg.toNat (en.plays + 1) false s
    else if eEnd (s.entry v en.seg.toNat) then s.setEngine v { en with fixed := some .stopEnd }
    else fixSeg v (eNext (s.entry v en.seg.toNat)) 0 false s

theorem latch_eq (v : EngineId) (s : State) : latch v s = chooseNext v (atLatch v s) := rfl

theorem latch_of_jump {n : BitVec 10} (h : (s.engine v).jump = some n) :
    latch v s = fixSeg v n.toNat 0 true (afterJump v s) := by
  obtain ⟨x, hx⟩ := atLatch_engine v s
  simp only [latch_eq, chooseNext, afterJump, hx, h]

theorem latch_of_play (hj : (s.engine v).jump = none) (hp : (s.engine v).state = .play) :
    latch v s =
      if s.lastOf v = false then fixSeg v (s.engine v).seg.toNat ((s.engine v).plays + 1) false (atLatch v s)
      else if eEnd (s.entry v (s.engine v).seg.toNat) = true then
        (atLatch v s).setEngine v { (atLatch v s).engine v with fixed := some .stopEnd }
      else fixSeg v (eNext (s.entry v (s.engine v).seg.toNat)) 0 false (atLatch v s) := by
  obtain ⟨x, hx⟩ := atLatch_engine v s
  simp [latch_eq, chooseNext, hx, hj, hp]

/-- COUNT is not yet reached, or there is none. -/
theorem lastOf_of_more (h : eCount (s.entry v (s.engine v).seg.toNat) = 0 ∨
    (s.engine v).plays + 1 < eCount (s.entry v (s.engine v).seg.toNat)) : s.lastOf v = false := by
  rcases h with h | h
  · simp [State.lastOf, h]
  · simp [State.lastOf, h]

theorem lastOf_of_counted (hp : (s.engine v).state = .play)
    (h : eCount (s.entry v (s.engine v).seg.toNat) ≠ 0 ∧
      eCount (s.entry v (s.engine v).seg.toNat) ≤ (s.engine v).plays + 1) : s.lastOf v = true := by
  simp [State.lastOf, hp, h]

/-! ### Boundaries (R159, R160, R168) -/

/-- The state in which the boundary starts what the latch point fixed. -/
def atBoundary (v : EngineId) (s : State) : State :=
  (syncFills s).modEngine v fun en =>
    if en.lastPlay && eStream ((syncFills s).entry v en.seg.toNat) then en.unready en.seg.toNat else en

theorem atBoundary_engine (v : EngineId) (s : State) :
    ∃ x l, (atBoundary v s).engine v = { s.engine v with fill := x, ready := l } := by
  obtain ⟨x, hx⟩ := syncFills_engine s v
  simp only [atBoundary, modEngine_eq, setEngine_get, hx]
  split
  · exact ⟨x, _, rfl⟩
  · exact ⟨x, _, rfl⟩

@[simp] theorem atBoundary_spokes (v : EngineId) (s : State) : (atBoundary v s).spokes = s.spokes := by simp [atBoundary]
@[simp] theorem atBoundary_evFull (v : EngineId) (s : State) (n : Nat) : (atBoundary v s).evFull n = s.evFull n := by
  simp [atBoundary]

theorem boundary_of_end (h : (s.engine v).fixed = some .stopEnd) :
    boundary v s = raise (evEng v 0) 3 0 0 (s.engine v).nextVec (stopEngine v 3 (discardRates v (atBoundary v s))) := by
  obtain ⟨x, hx⟩ := syncFills_engine s v
  have hfixed : ((syncFills s).engine v).fixed = some .stopEnd := by rw [hx, h]
  have hnext : ((syncFills s).engine v).nextVec = (s.engine v).nextVec := by rw [hx]
  simp only [boundary, hfixed, hnext]
  rfl

/-- An engine that goes on with the idle segment, starving or not. -/
def starvedEngine (en : Engine) (starve : Bool) : Engine :=
  { en with plays := 0, starving := en.starving || starve, starves := if starve then en.starves + 1 else en.starves }

theorem boundary_of_idle {n : BitVec 10} {starve : Bool} (h : (s.engine v).fixed = some (.idle n starve)) :
    boundary v s = startPlay v n.toNat true (s.engine v).nextVec
      (if (starve && !(s.engine v).starving) = true then
        raise (evEng v 1) 1 0 0 (s.engine v).nextVec ((atBoundary v s).modEngine v (starvedEngine · starve))
      else (atBoundary v s).modEngine v (starvedEngine · starve)) := by
  obtain ⟨x, hx⟩ := syncFills_engine s v
  have hfixed : ((syncFills s).engine v).fixed = some (.idle n starve) := by rw [hx, h]
  have hnext : ((syncFills s).engine v).nextVec = (s.engine v).nextVec := by rw [hx]
  have hstarving : ((syncFills s).engine v).starving = (s.engine v).starving := by rw [hx]
  simp only [boundary, hfixed, hnext, hstarving]
  rfl

/-- A starving engine is fed where another segment than the idle one comes. -/
def fedBy (s : State) (v : EngineId) (n : BitVec 10) : Bool := (s.engine v).starving && n.toNat != s.idleSeg v

/-- An engine at a boundary to a segment, before that starts. -/
def fedEngine (en : Engine) (plays : Nat) (fed : Bool) : Engine :=
  { en with plays := plays, starving := en.starving && !fed }

theorem boundary_of_seg {n : BitVec 10} {plays : Nat} {jumped : Bool}
    (h : (s.engine v).fixed = some (.seg n plays jumped)) :
    ∃ t, boundary v s = startPlay v n.toNat false (s.engine v).nextVec
        (if jumped = true then raise (evEng v 0) 4 0 0 (s.engine v).nextVec t else t) ∧
      t = if fedBy s v n = true then
          raise (evEng v 1) 2 0 0 (s.engine v).nextVec ((atBoundary v s).modEngine v (fedEngine · plays (fedBy s v n)))
        else (atBoundary v s).modEngine v (fedEngine · plays (fedBy s v n)) := by
  obtain ⟨x, hx⟩ := syncFills_engine s v
  have hfixed : ((syncFills s).engine v).fixed = some (.seg n plays jumped) := by rw [hx, h]
  have hnext : ((syncFills s).engine v).nextVec = (s.engine v).nextVec := by rw [hx]
  have hstarving : ((syncFills s).engine v).starving = (s.engine v).starving := by rw [hx]
  refine ⟨_, ?_, rfl⟩
  simp only [boundary, hfixed, hnext, hstarving, syncFills_idleSeg]
  rfl

end Sys2Proof.Proofs
end

section
/-! Vector starts (O33, O34): which slots act at one, and what they leave of the engine (R146 to R149, R157). -/

namespace Sys2Proof.Proofs

open Sys2Proof.Machine Sys2Proof.Laws

variable {s : State} {v : EngineId}

/-! ### Truing makes room (R209, R217) -/

@[simp] theorem truingWork_engine (i : SpokeId) (first : DT) (s : State) (v : EngineId) :
    (truingWork i first s).engine v = s.engine v :=
  engine_of_outside (q := { occs := true, spokes := true, truing := true, latch := true })
    (outside_truingWork i first s rfl rfl rfl rfl) rfl v

/-- Without a full run on the spoke, Truing leaves it as it is. -/
theorem truingWork_spoke {i : SpokeId} (first : DT) (h : (s.req i).st ≠ 2) : (truingWork i first s).spoke i = s.spoke i := by
  unfold truingWork
  dsimp only
  rw [if_neg fun hrun => h hrun.1]
  exact (apply_ite (fun t : State => t.spoke i) _ _ _).trans
    (ite_eq_right_iff.2 fun _ => spoke_of_outside (by simp [besideCopies]))

/-! ### What slots add to an engine -/

/-- An engine but for what the slots of a vector add to it: what waits for its instant, and what is skipped. -/
def sansSlots (en : Engine) : Engine := { en with acts := [], strobes := [], skips := 0, offsetSaid := false }

section
variable (v : EngineId) (t : DT) (s : State)

theorem sansSlots_skipOffset : sansSlots ((skipOffset v t s).engine v) = sansSlots (s.engine v) := by
  unfold skipOffset
  dsimp only
  split <;> simp [sansSlots]

theorem sansSlots_playDrive (i : SpokeId) (st edge : Nat) :
    sansSlots ((playDrive v t i st edge s).engine v) = sansSlots (s.engine v) := by
  unfold playDrive
  split
  · rfl
  dsimp only
  repeat' split
  · exact sansSlots_skipOffset v t s
  · rfl
  · rfl
  · simp [sansSlots]

theorem sansSlots_playStrobe (i : SpokeId) (st edge strobe : Nat) :
    sansSlots ((playStrobe v t i st edge strobe s).engine v) = sansSlots (s.engine v) := by
  unfold playStrobe
  dsimp only
  split
  · rfl
  split
  · exact sansSlots_skipOffset v t s
  split
  · rfl
  · simp [sansSlots]

theorem sansSlots_playSlot (vec : Nat) (i : SpokeId) :
    sansSlots ((playSlot v t vec i s).engine v) = sansSlots (s.engine v) :=
  (sansSlots_playStrobe ..).trans (sansSlots_playDrive ..)

end

/-! ### One vector start (R157) -/

/-- The state in which the slots of a vector are played. -/
def vectorBegun (v : EngineId) (s : State) : State :=
  ((sayRate v s).setIsland (islEngine v) { s.island (islEngine v) with retiring := none }).modEngine v fun en =>
    { en with guardSaid := false, offsetSaid := false }

/-- Every owned spoke's slot of a vector played. -/
def slotsPlayed (v : EngineId) (t : DT) (vec : Nat) (regs : RegMap) (s : State) : State :=
  forEach 64 (fun i s => if ownerIn regs i.val == some v then playSlot v t vec i s else s) s

/-- The vector of an engine's memory that starts next. -/
def coming (s : State) (v : EngineId) : Nat := 64 * eBase (s.entry v (s.engine v).seg.toNat) + (s.engine v).pos

theorem playSlot_engRegs (v : EngineId) (t : DT) (vec : Nat) (i : SpokeId) (s : State) :
    (playSlot v t vec i s).engRegs v = s.engRegs v :=
  engRegs_of_outside (q := { occs := true, spokes := true, engines := true, truing := true, latch := true })
    (outside_playSlot v t vec i s rfl rfl rfl rfl rfl) rfl v

theorem vectorBegun_engRegs (v : EngineId) (s : State) : (vectorBegun v s).engRegs v = s.engRegs v := by
  simp [State.engRegs, vectorBegun]

/-- The slots of a vector leave the masks by which they are played. -/
theorem slotsPlayed_eq (v : EngineId) (t : DT) (vec : Nat) (s : State) :
    forEach 64 (fun i s => if ownerIn (s.engRegs v) i.val == some v then playSlot v t vec i s else s) s =
      slotsPlayed v t vec (s.engRegs v) s := by
  unfold slotsPlayed forEach
  refine foldl_congr_of_keeps (q := fun u => u.engRegs v = s.engRegs v) (fun i u hu => ⟨by simp only [hu], ?_⟩) rfl
  dsimp only
  split
  · rw [playSlot_engRegs, hu]
  · exact hu

theorem vectorStep_of_due (hdue : s.vecDue v = true) (hstop : s.stopDue v = false) (hrate : s.rateIsDue v = false)
    (hpos : (s.engine v).pos < s.playLen v)
    (hfixed : (s.engine v).fixed.isSome = true ∨ (s.engine v).pos + 8 < s.playLen v) :
    vectorStep v s =
      (slotsPlayed v (s.engine v).nextVec (coming s v) (s.engRegs v) (vectorBegun v s)).modEngine v fun en =>
        { en with
          pos := en.pos + 1, nextVec := dtAdd (s.engine v).nextVec en.period
          vecEnd := dtAdd (s.engine v).nextVec en.period, vectors := en.vectors + 1 } := by
  unfold vectorStep
  dsimp only
  rw [if_pos (by simp [hdue, hstop, hrate, hpos, hfixed]), slotsPlayed_eq]
  exact congrArg (fun m => (slotsPlayed v _ _ m (vectorBegun v s)).modEngine v _) (vectorBegun_engRegs v s)

theorem vectorBegun_engine (v : EngineId) (s : State) :
    (vectorBegun v s).engine v = { s.engine v with rateDue := false, guardSaid := false, offsetSaid := false } := by
  simp [vectorBegun]

theorem sansSlots_slotsPlayed (v : EngineId) (t : DT) (vec : Nat) (regs : RegMap) (s : State) :
    sansSlots ((slotsPlayed v t vec regs s).engine v) = sansSlots (s.engine v) := by
  refine foldl_keeps (p := fun s => sansSlots (s.engine v)) (fun i _ s => ?_) s
  dsimp only
  split
  · exact sansSlots_playSlot v t s vec i
  · rfl

end Sys2Proof.Proofs
end

section
/-! O33: engines start, play, jump, change rate and stop. -/

namespace Sys2Proof.Proofs

open Sys2Proof.Machine Sys2Proof.Laws

variable {s : State} {v : EngineId}

/-! ### VSTART (R157) -/

/-- A STOPPED engine that takes a VSTART, before its first play starts. -/
def startedEngine (s : State) (v : EngineId) (ta : DT) (en : Engine) : Engine :=
  { en with
    plays := 0, ref := ta, period := periodOf (s.act (crBase v + 4)).toNat, nextVec := ta, vecEnd := ta
    rateDue := false, want := none, starving := false, jump := none }

theorem takeStart_of_playable {n : BitVec 10} {ta : DT}
    (h : eValid (s.entry v n.toNat) = true ∧ eStream (s.entry v n.toNat) = false) (hidle : s.idleOk v = true) :
    takeStart v n ta s =
      startPlay v n.toNat false ta (raise (evEng v 0) 1 0 0 ta (s.modEngine v (startedEngine s v ta))) := by
  simp [takeStart, h, hidle, startedEngine]

theorem engineStart_started {n : BitVec 10} {ta : DT} {p : ThreadId} (hm : s.idleMsg v = some (.start n ta p))
    (h : eValid (s.entry v n.toNat) = true ∧ eStream (s.entry v n.toNat) = false) (hidle : s.idleOk v = true) :
    ∃ u, exec (.engineStart v) s = .next u ∧ (u.engine v).state = .play ∧ (u.engine v).seg = n ∧
      (u.engine v).pos = 0 ∧ (u.engine v).msgs = (s.engine v).msgs.erase (.start n ta p) ∧ (u.engine v).ref = ta ∧
      (u.engine v).nextVec = ta ∧ (u.engine v).period = periodOf (s.act (crBase v + 4)).toNat ∧
      (s.evFull (evEng v 0) = false →
        ⟨Fin.ofNat 256 (evEng v 0), causeWord 1 0 0, ta, false⟩ ∈ u.occs) := by
  have hexec : exec (.engineStart v) s = .next (takeStart v n ta (dropMsg v (.start n ta p) s)) := by
    change execEngineStart v s = _
    simp only [execEngineStart, hm]
  rw [hexec, takeStart_of_playable (by exact h) (by exact hidle)]
  have hstarted : (raise (evEng v 0) 1 0 0 ta ((dropMsg v (.start n ta p) s).modEngine v (startedEngine s v ta))).engine v =
      startedEngine s v ta { s.engine v with msgs := (s.engine v).msgs.erase (.start n ta p) } := by
    simp [dropMsg]
  obtain ⟨x, hx⟩ := startPlay_engine hstarted n false ta
  refine ⟨_, rfl, ?_⟩
  rw [show startedEngine (dropMsg v (.start n ta p) s) v ta = startedEngine s v ta from rfl, hx]
  exact ⟨rfl, rfl, rfl, rfl, rfl, rfl, rfl, fun hroom => mem_startPlay (mem_occs_engine (by omega) 1 ta hroom)⟩

theorem engineStart_refused {m : EngMsg} (hm : s.runningStart v = some m) :
    exec (.engineStart v) s = .next (raise (evEng v 0) 7 0 0 m.key.1
      (s.setEngine v { s.engine v with msgs := (s.engine v).msgs.erase m })) := by
  have hrun : (s.engine v).state ≠ .stopped := fun h => by simp [State.runningStart, h] at hm
  change execEngineStart v s = _
  simp only [execEngineStart, idleMsg_of_running hrun, hm]
  rfl

/-! ### The coming vector start (R157, R159, R162) -/

section
variable (hdue : s.vecDue v = true) (hstop : s.stopDue v = false) (hrate : s.rateIsDue v = false)
include hdue hstop hrate

theorem vectorStart_counts (hpos : (s.engine v).pos < s.playLen v)
    (hfixed : (s.engine v).fixed.isSome = true ∨ (s.engine v).pos + 8 < s.playLen v) :
    ∃ u, exec (.vectorStart v) s = .next u ∧ (u.engine v).pos = (s.engine v).pos + 1 ∧
      (u.engine v).nextVec = dtAdd (s.engine v).nextVec (s.engine v).period ∧
      (u.engine v).vectors = (s.engine v).vectors + 1 ∧ (u.engine v).period = (s.engine v).period ∧
      (u.engine v).seg = (s.engine v).seg := by
  refine ⟨_, congrArg Host.Outcome.next (vectorStep_of_due hdue hstop hrate hpos hfixed), ?_⟩
  have hslots := sansSlots_slotsPlayed v (s.engine v).nextVec (coming s v) (s.engRegs v) (vectorBegun v s)
  rw [vectorBegun_engine] at hslots
  have hpos' := congrArg Engine.pos hslots
  have hperiod := congrArg Engine.period hslots
  have hvectors := congrArg Engine.vectors hslots
  have hseg := congrArg Engine.seg hslots
  simp only [sansSlots] at hpos' hperiod hvectors hseg
  simp [hpos', hperiod, hvectors, hseg]

section
variable (hl : (s.engine v).fixed = none ∧ s.playLen v ≤ (s.engine v).pos + 8)
include hl

theorem exec_latchPoint : exec (.latchPoint v) s = .next (latch v s) := by
  change Host.Outcome.next (latchStep v s) = _
  simp [latchStep, hdue, hstop, hrate, hl]

theorem latchPoint_jump {n : BitVec 10} (hj : (s.engine v).jump = some n)
    (h : eValid (s.entry v n.toNat) = true ∧ eStream (s.entry v n.toNat) = false) :
    ∃ u, exec (.latchPoint v) s = .next u ∧ (u.engine v).jump = none ∧ (u.engine v).fixed = some (.seg n 0 true) ∧
      (u.engine v).want = none := by
  refine ⟨_, exec_latchPoint hdue hstop hrate hl, ?_⟩
  rw [latch_of_jump hj, fixSeg_of_playable (by simpa [afterJump] using h)]
  simp [afterJump]

theorem latchPoint_again {n : BitVec 10} (hp : (s.engine v).jump = none ∧ (s.engine v).state = .play)
    (hc : eCount (s.entry v (s.engine v).seg.toNat) = 0 ∨
      (s.engine v).plays + 1 < eCount (s.entry v (s.engine v).seg.toNat))
    (hn : n = (s.engine v).seg) (h : eValid (s.entry v n.toNat) = true ∧ eStream (s.entry v n.toNat) = false) :
    ∃ u, exec (.latchPoint v) s = .next u ∧ (u.engine v).fixed = some (.seg n ((s.engine v).plays + 1) false) ∧
      (u.engine v).want = none ∧ (u.engine v).lastPlay = false := by
  subst hn
  obtain ⟨x, hx⟩ := atLatch_engine v s
  refine ⟨_, exec_latchPoint hdue hstop hrate hl, ?_⟩
  rw [latch_of_play hp.1 hp.2, if_pos (lastOf_of_more hc), fixSeg_of_playable (by simpa using h)]
  simp [hx, lastOf_of_more hc]

theorem latchPoint_end (hp : (s.engine v).jump = none ∧ (s.engine v).state = .play)
    (hc : eCount (s.entry v (s.engine v).seg.toNat) ≠ 0 ∧
      eCount (s.entry v (s.engine v).seg.toNat) ≤ (s.engine v).plays + 1)
    (he : eEnd (s.entry v (s.engine v).seg.toNat) = true) :
    ∃ u, exec (.latchPoint v) s = .next u ∧ (u.engine v).fixed = some .stopEnd ∧ (u.engine v).lastPlay = true := by
  have hlast := lastOf_of_counted hp.2 hc
  obtain ⟨x, hx⟩ := atLatch_engine v s
  refine ⟨_, exec_latchPoint hdue hstop hrate hl, ?_⟩
  rw [latch_of_play hp.1 hp.2, if_neg (by simp [hlast]), if_pos he]
  simp [hx, hlast]

theorem latchPoint_next {n : Nat} (hp : (s.engine v).jump = none ∧ (s.engine v).state = .play)
    (hc : eCount (s.entry v (s.engine v).seg.toNat) ≠ 0 ∧
      eCount (s.entry v (s.engine v).seg.toNat) ≤ (s.engine v).plays + 1)
    (he : eEnd (s.entry v (s.engine v).seg.toNat) = false ∧ n = eNext (s.entry v (s.engine v).seg.toNat))
    (h : eValid (s.entry v n) = true ∧ eStream (s.entry v n) = false) :
    ∃ u, exec (.latchPoint v) s = .next u ∧ (u.engine v).fixed = some (.seg (BitVec.ofNat 10 n) 0 false) ∧
      (u.engine v).want = none := by
  obtain ⟨hend, rfl⟩ := he
  refine ⟨_, exec_latchPoint hdue hstop hrate hl, ?_⟩
  rw [latch_of_play hp.1 hp.2, if_neg (by simp [lastOf_of_counted hp.2 hc]), if_neg (by simp [hend]),
    fixSeg_of_playable (by simpa using h)]
  simp

theorem latchPoint_starves {n : BitVec 10} (hj : (s.engine v).jump = some n)
    (h : eValid (s.entry v n.toNat) = true ∧ eStream (s.entry v n.toNat) = true ∧ (s.engine v).isReady n.toNat = false)
    (hidle : s.idleOk v = true) :
    ∃ u, exec (.latchPoint v) s = .next u ∧ (u.engine v).want = some ⟨n, 0, true⟩ ∧
      (u.engine v).fixed = some (.idle (BitVec.ofNat 10 (s.idleSeg v)) true) := by
  obtain ⟨hvalid, hstream, hready⟩ := h
  obtain ⟨x, hx⟩ := atLatch_engine v s
  have hready' : ((afterJump v s).engine v).isReady n.toNat = false := by
    simpa [afterJump, hx, Engine.isReady] using hready
  refine ⟨_, exec_latchPoint hdue hstop hrate hl, ?_⟩
  rw [latch_of_jump hj, fixSeg_of_unready (by simp [afterJump, hvalid, hstream]) hready' (by simpa [afterJump] using hidle)]
  simp [afterJump]

theorem latchPoint_badseg {n : BitVec 10} (hj : (s.engine v).jump = some n) (h : eValid (s.entry v n.toNat) = false)
    (hidle : s.idleOk v = true) :
    ∃ u, exec (.latchPoint v) s = .next u ∧ (u.engine v).fixed = some (.idle (BitVec.ofNat 10 (s.idleSeg v)) false) ∧
      (s.evFull (evEng v 0) = false →
        ⟨Fin.ofNat 256 (evEng v 0), causeWord 9 0 0, (s.engine v).nextVec, false⟩ ∈ u.occs) := by
  obtain ⟨x, hx⟩ := atLatch_engine v s
  have hnext : ((afterJump v s).engine v).nextVec = (s.engine v).nextVec := by simp [afterJump, hx]
  refine ⟨_, exec_latchPoint hdue hstop hrate hl, ?_⟩
  rw [latch_of_jump hj, fixSeg_of_invalid (by simpa [afterJump] using h) (by simpa [afterJump] using hidle), hnext]
  exact ⟨by simp [afterJump], fun hroom => mem_occs_engine (by omega) 9 _ (by simpa [afterJump] using hroom)⟩

end

theorem exec_segmentBoundary (hf : (s.engine v).fixed.isSome = true) (hpos : s.playLen v ≤ (s.engine v).pos) :
    exec (.segmentBoundary v) s = .next (boundary v (sayRate v s)) := by
  change Host.Outcome.next (boundaryStep v s) = _
  simp [boundaryStep, hdue, hstop, hrate, hf, hpos]

theorem segmentBoundary_plays {n : BitVec 10} {plays : Nat} {jumped : Bool}
    (h : (s.engine v).fixed = some (.seg n plays jumped) ∧ s.playLen v ≤ (s.engine v).pos) :
    ∃ u, exec (.segmentBoundary v) s = .next u ∧ (u.engine v).state = .play ∧ (u.engine v).seg = n ∧
      (u.engine v).pos = 0 ∧ (u.engine v).plays = plays ∧ (u.engine v).fixed = none ∧
      (u.engine v).nextVec = (s.engine v).nextVec ∧
      (jumped = true → (s.engine v).rateDue = false → (s.engine v).starving = false → s.evFull (evEng v 0) = false →
        ⟨Fin.ofNat 256 (evEng v 0), causeWord 4 0 0, (s.engine v).nextVec, false⟩ ∈ u.occs) := by
  obtain ⟨hf, hpos⟩ := h
  have hf' : ((sayRate v s).engine v).fixed = some (.seg n plays jumped) := by simp [hf]
  obtain ⟨t, hboundary, ht⟩ := boundary_of_seg hf'
  obtain ⟨x, l, hx⟩ := atBoundary_engine v (sayRate v s)
  refine ⟨_, exec_segmentBoundary hdue hstop hrate (by simp [hf]) hpos, ?_⟩
  rw [hboundary]
  have ht' : (if jumped = true then raise (evEng v 0) 4 0 0 ((sayRate v s).engine v).nextVec t else t).engine v =
      fedEngine { (sayRate v s).engine v with fill := x, ready := l } plays (fedBy (sayRate v s) v n) := by
    rw [raiseIf_engine, ht, raiseIf_engine, modEngine_eq, setEngine_get, hx]
  obtain ⟨y, hy⟩ := startPlay_engine ht' n false ((sayRate v s).engine v).nextVec
  rw [hy, sayRate_engine]
  refine ⟨rfl, rfl, rfl, rfl, rfl, rfl, fun hjumped hsaid hstarve hroom => ?_⟩
  have hunfed : fedBy s v n = false := by simp [fedBy, hstarve]
  rw [sayRate_of_said hsaid, hunfed, if_neg Bool.false_ne_true] at ht
  rw [if_pos hjumped]
  exact mem_startPlay (mem_occs_engine (by omega) 4 _ (by rw [ht]; simpa using hroom))

theorem segmentBoundary_ends (h : (s.engine v).fixed = some .stopEnd ∧ s.playLen v ≤ (s.engine v).pos) :
    ∃ u, exec (.segmentBoundary v) s = .next u ∧ (u.engine v).state = .stopped ∧ (u.engine v).cause = 3 ∧
      (u.engine v).jump = none ∧ u.spokes = s.spokes := by
  obtain ⟨hf, hpos⟩ := h
  refine ⟨_, exec_segmentBoundary hdue hstop hrate (by simp [hf]) hpos, ?_⟩
  rw [boundary_of_end (by simp [hf])]
  obtain ⟨x, l, hx⟩ := stopEngine_engine v 3 (discardRates v (atBoundary v (sayRate v s)))
  rw [raise_engine, hx]
  exact ⟨rfl, rfl, rfl, by simp [discardRates]⟩

theorem segmentBoundary_starves {n : BitVec 10}
    (h : (s.engine v).fixed = some (.idle n true) ∧ s.playLen v ≤ (s.engine v).pos) :
    ∃ u, exec (.segmentBoundary v) s = .next u ∧ (u.engine v).state = .idle ∧ (u.engine v).seg = n ∧
      (u.engine v).starving = true ∧ (u.engine v).starves = (s.engine v).starves + 1 := by
  obtain ⟨hf, hpos⟩ := h
  obtain ⟨x, l, hx⟩ := atBoundary_engine v (sayRate v s)
  refine ⟨_, exec_segmentBoundary hdue hstop hrate (by simp [hf]) hpos, ?_⟩
  rw [boundary_of_idle (n := n) (starve := true) (by simp [hf])]
  have hstarved (c : Bool) :
      (if c = true then raise (evEng v 1) 1 0 0 ((sayRate v s).engine v).nextVec
          ((atBoundary v (sayRate v s)).modEngine v (starvedEngine · true))
        else (atBoundary v (sayRate v s)).modEngine v (starvedEngine · true)).engine v =
      starvedEngine { (sayRate v s).engine v with fill := x, ready := l } true := by
    rw [raiseIf_engine, modEngine_eq, setEngine_get, hx]
  obtain ⟨y, hy⟩ := startPlay_engine (hstarved _) n true ((sayRate v s).engine v).nextVec
  rw [hy]
  exact ⟨rfl, rfl, by simp [playing, starvedEngine], by simp [playing, starvedEngine]⟩

end

/-! ### VJUMP (R160) -/

theorem jumpArrival_eq {n : BitVec 10} {p : ThreadId} {r : List (BitVec 10 × ThreadId)}
    (h : (s.engine v).jumpsIn = (n, p) :: r) (hck : s.clocked = true) :
    exec (.jumpArrival v) s = .next (
      if (s.engine v).state = .stopped then
        raise (evEng v 0) 5 0 0 s.dt (s.setEngine v { s.engine v with jumpsIn := r })
      else if (s.engine v).jump.isSome = true then
        raise (evEng v 0) 5 0 0 s.dt (s.setEngine v { s.engine v with jumpsIn := r, jump := some n })
      else s.setEngine v { s.engine v with jumpsIn := r, jump := some n }) := by
  change execJumpArrival v s = _
  simp [execJumpArrival, h, hck]

/-! ### VSTOP (R161) -/

theorem engineStop_stops {ta : DT} {p : ThreadId} (hdue : s.vecDue v = true) (hm : (s.engine v).msgs = [.stop ta p])
    (hta : dtLe ta (s.engine v).nextVec = true) :
    ∃ u, exec (.engineStop v) s = .next u ∧ (u.engine v).state = .stopped ∧ (u.engine v).cause = 2 ∧
      (u.engine v).msgs = [] ∧ (u.engine v).pos = (s.engine v).pos ∧ u.spokes = s.spokes := by
  have hmsg : dueMsg (s.engine v).msgs EngMsg.isStop (s.engine v).nextVec = some (.stop ta p) := by
    rw [hm, dueMsg_singleton]
    exact if_pos hta
  have hexec : exec (.engineStop v) s = .next (raise (evEng v 0) 2 0 0 (s.engine v).nextVec
      (stopEngine v 2 (discardRates v (dropMsg v (.stop ta p) (sayRate v s))))) := by
    change Host.Outcome.next (stopStep v s) = _
    simp only [stopStep, hdue, hmsg, if_true]
  obtain ⟨x, l, hx⟩ := stopEngine_engine v 2 (discardRates v (dropMsg v (.stop ta p) (sayRate v s)))
  refine ⟨_, hexec, ?_⟩
  rw [raise_engine, hx, raise_spokes, stopEngine_spokes]
  exact ⟨rfl, rfl, by simp [stoppedEngine, discardRates, dropMsg, hm], by simp [stoppedEngine, discardRates, dropMsg],
    by simp [discardRates, dropMsg]⟩

theorem engineStop_idle {ta : DT} {p : ThreadId} (hm : s.idleMsg v = some (.stop ta p)) :
    exec (.engineStop v) s =
      .next (s.setEngine v { s.engine v with msgs := (s.engine v).msgs.erase (.stop ta p) }) := by
  change Host.Outcome.next (stopStep v s) = _
  simp [stopStep, vecDue_of_stopped (state_of_idleMsg hm), hm, EngMsg.isStop, dropMsg]

/-! ### VRATE (R163) -/

theorem rateChange_regrids {n : Word} {ta : DT} {p : ThreadId} (hdue : s.vecDue v = true)
    (hm : (s.engine v).msgs = [.rate n ta p]) (hta : dtLe ta (s.engine v).nextVec = true) (hend : s.endDue v = false) :
    ∃ u, exec (.rateChange v) s = .next u ∧ (u.engine v).period = periodOf n.toNat ∧ (u.engine v).msgs = [] ∧
      (u.engine v).rateDue = true ∧
      (u.engine v).nextVec = regrid (s.engine v).ref (s.engine v).nextVec (periodOf n.toNat) := by
  have hstop : s.stopDue v = false := by
    rw [State.stopDue, hm, dueMsg_singleton]
    rfl
  have hmsg : dueMsg (s.engine v).msgs EngMsg.isRate (s.engine v).nextVec = some (.rate n ta p) := by
    rw [hm, dueMsg_singleton]
    exact if_pos hta
  refine ⟨rateStep v s, rfl, ?_⟩
  simp only [rateStep, hdue, hstop, hend, hmsg, Bool.not_false, Bool.and_self, if_true]
  simp [dropMsg, hm]

theorem rateChange_refused {n : Word} {ta : DT} {p : ThreadId} (hm : s.idleMsg v = some (.rate n ta p)) :
    exec (.rateChange v) s = .next (raise (evEng v 0) 8 0 0 ta
      (s.setEngine v { s.engine v with msgs := (s.engine v).msgs.erase (.rate n ta p) })) := by
  change Host.Outcome.next (rateStep v s) = _
  simp [rateStep, vecDue_of_stopped (state_of_idleMsg hm), hm, EngMsg.isRate, EngMsg.key, dropMsg]

/-- CR_PERIOD's and a VRATE's word as a period. -/
theorem periodOf_word (n : Word) : periodOf n.toNat = if n = 0 then 2 ^ 32 else max n.toNat 20480 := by
  simp [periodOf, BitVec.toNat_eq]

/-- Settles O33: each clause is what the engine's command does in the case that the clause names. -/
theorem enginesComplete : Obligations.EnginesComplete := by
  unfold Obligations.EnginesComplete
  refine ⟨fun _ _ _ _ _ hm h hidle => engineStart_started hm h hidle, fun _ _ _ hm => engineStart_refused hm,
    fun _ _ hd hs hr hpos hf => vectorStart_counts hd hs hr hpos hf,
    fun _ _ _ hd hs hr hl hj h => latchPoint_jump hd hs hr hl hj h,
    fun _ _ _ hd hs hr hl hp hc hn h => latchPoint_again hd hs hr hl hp hc hn h,
    fun _ _ hd hs hr hl hp hc he => latchPoint_end hd hs hr hl hp hc he,
    fun _ _ _ hd hs hr hl hp hc he h => latchPoint_next hd hs hr hl hp hc he h,
    fun _ _ _ hd hs hr hl hj h hidle => latchPoint_starves hd hs hr hl hj h hidle,
    fun _ _ _ hd hs hr hl hj h hidle => latchPoint_badseg hd hs hr hl hj h hidle,
    fun _ _ _ _ _ hd hs hr h => segmentBoundary_plays hd hs hr h,
    fun _ _ hd hs hr h => segmentBoundary_ends hd hs hr h,
    fun _ _ _ hd hs hr h _ => segmentBoundary_starves hd hs hr h, ?_, ?_, ?_,
    fun _ _ _ _ hd hm hta => engineStop_stops hd hm hta, fun _ _ _ _ hm => engineStop_idle hm, ?_,
    fun _ _ _ _ _ hm => rateChange_refused hm⟩
  · intro s v n p r h hck hrun hj
    rw [jumpArrival_eq h hck, if_neg hrun, if_neg (by simp [hj])]
  · intro s v n p r h hck hrun hj
    rw [jumpArrival_eq h hck, if_neg hrun, if_pos hj]
    rfl
  · intro s v n p r h hck hst
    rw [jumpArrival_eq h hck, if_pos hst]
    rfl
  · rintro s v n ta p q hd hm hta hend rfl
    rw [← periodOf_word]
    exact rateChange_regrids hd hm hta hend

end Sys2Proof.Proofs
end

section
/-! Slots at a vector start, their drive actions and their strobes (O34): the case of each that a clause names (R147 to R149,
R170). -/

namespace Sys2Proof.Proofs

open Sys2Proof.Machine Sys2Proof.Laws

variable {s : State} {v : EngineId} {i : SpokeId}

/-! ### A slot at a vector start (R147, R148) -/

/-- An engine that owns one spoke plays the slot of that spoke. -/
theorem slotsPlayed_of_sole {regs : RegMap} (h : ∀ j : SpokeId, ownerIn regs j.val = some v ↔ j = i) (t : DT) (vec : Nat)
    (s : State) : slotsPlayed v t vec regs s = playSlot v t vec i s := by
  refine forEach_at (p := id) (g := playSlot v t vec i) (i := i) (fun u => ?_) (fun j hj u => ?_) s
  · simp [(h i).2 rfl]
  · simp [mt (h j).1 hj]

section
variable {t : DT} {st edge strobe : Nat} {d : Drv}

/-- A slot whose drive part differs from where the driver will stand waits for its EDGE. -/
theorem playDrive_of_action (hd : slotDrv st = some d) (hedge : edge < (s.engine v).period)
    (hlevel : (s.drvAfter v i).1 ≠ d) :
    playDrive v t i st edge s =
      (truingWork i (dtAdd t (edge + deskewIn (s.island (islSpoke i)).active i false)) s).modEngine v fun en =>
        { en with acts := en.acts ++ [⟨i, dtAdd t edge, d⟩] } := by
  simp [playDrive, hd, hlevel, Nat.not_le.2 hedge]

/-- A slot of a STATE below 5 has no strobe. -/
theorem playStrobe_of_drive (h : st < 5) : playStrobe v t i st edge strobe s = s := by
  simp [playStrobe, h]

end

/-- With no action waiting and no full run, the driver stands where it is. -/
theorem drvAfter_of_idle (ha : (s.engine v).acts = []) (hr : (s.req i).st ≠ 2) :
    (s.drvAfter v i).1 = (s.spoke i).drv := by
  simp only [State.drvAfter, ha, List.filter_nil, List.foldl_nil, State.drvBase]
  exact if_neg hr

section
variable (v : EngineId) (s : State)

@[simp] theorem sayRate_mem : (sayRate v s).mem = s.mem := by
  unfold sayRate
  dsimp only
  split <;> simp

@[simp] theorem sayRate_req (i : SpokeId) : (sayRate v s).req i = s.req i := by
  unfold sayRate
  dsimp only
  split <;> simp

@[simp] theorem vectorBegun_slotOn (vec : Nat) (i : SpokeId) : (vectorBegun v s).slotOn v vec i = s.slotOn v vec i := by
  simp only [State.slotOn, State.slotAt, vectorBegun_engRegs]
  simp [vectorBegun]

@[simp] theorem vectorBegun_spoke (i : SpokeId) : (vectorBegun v s).spoke i = s.spoke i := by
  simp [vectorBegun, State.spoke]

@[simp] theorem vectorBegun_req (i : SpokeId) : (vectorBegun v s).req i = s.req i := by
  simp [vectorBegun]

end

theorem vectorStart_drives {n edge : Nat} {d : Drv} (hdue : s.vecDue v = true) (hstop : s.stopDue v = false)
    (hrate : s.rateIsDue v = false) (hpos : (s.engine v).pos < s.playLen v)
    (hfixed : (s.engine v).fixed.isSome = true ∨ (s.engine v).pos + 8 < s.playLen v)
    (hown : ∀ j : SpokeId, ownerIn (s.engRegs v) j.val = some v ↔ j = i) (hn : n = s.slotAt (coming s v) i)
    (hst : n % 8 < 5 ∧ slotDrv (n % 8) = some d)
    (hedge : edge = (regGet (s.engRegs v) (tsKey v i.val (n / 8 % 8) false)).toNat ∧ edge < (s.engine v).period)
    (hlevel : (s.engine v).acts = [] ∧ (s.spoke i).drv ≠ d ∧ (s.req i).st ≠ 2) :
    ∃ u, exec (.vectorStart v) s = .next u ∧
      (u.engine v).acts = [⟨i, dtAdd (s.engine v).nextVec edge, d⟩] ∧ (u.engine v).strobes = (s.engine v).strobes ∧
      (u.spoke i).drv = (s.spoke i).drv := by
  obtain ⟨hacts, hdrv, hreq⟩ := hlevel
  obtain ⟨hedge, hperiod⟩ := hedge
  have hslot : s.slotOn v (coming s v) i =
      (n % 8, edge, (regGet (s.engRegs v) (tsKey v i.val (n / 8 % 8) true)).toNat) := by
    rw [hedge, hn]
    rfl
  have hbegun := vectorBegun_engine v s
  have hafter : ((vectorBegun v s).drvAfter v i).1 ≠ d := by
    rw [drvAfter_of_idle (by rw [hbegun]; exact hacts) (by simpa using hreq)]
    simpa using hdrv
  refine ⟨_, congrArg Host.Outcome.next (vectorStep_of_due hdue hstop hrate hpos hfixed), ?_⟩
  rw [slotsPlayed_of_sole hown]
  simp only [playSlot, vectorBegun_slotOn, hslot]
  rw [playStrobe_of_drive hst.1, playDrive_of_action hst.2 (by rw [hbegun]; exact hperiod) hafter]
  simp [hbegun, hacts, truingWork_spoke (s := vectorBegun v s) (i := i) _ (by simpa using hreq)]

/-! ### Drive actions (R147 to R149) -/

section
variable {a : DriveAct}

theorem exec_slotDriveAction (h : (s.engine v).acts.find? (fun a => a.spoke == i) = some a) (hck : s.clocked = true)
    (hat : dtLe a.at_ s.dt = true) (hclear : s.clearTo i a.at_ = true) (hown : s.owner i = some v)
    (hout : (s.spoke i).out ≠ 0) (hdrv : (s.spoke i).drv ≠ a.drv) :
    exec (.slotDriveAction v i) s = .next (
      if s.tooClose i (s.spoke i).lastAct a.at_ = true then
        skipGuard v a.at_ (s.setEngine v { s.engine v with acts := (s.engine v).acts.erase a })
      else slotDrive i a.drv a.at_ (s.setEngine v { s.engine v with acts := (s.engine v).acts.erase a })) := by
  change execSlotDriveAction v i s = _
  have hout' : ¬ ((s.spoke i).out = 0 ∧ (s.spoke i).modeEnd.isNone = true) := fun hoff => hout hoff.1
  simp only [execSlotDriveAction, h, hck, hat, hclear, hown, if_neg hout']
  simp [hdrv]

/-- An action that is not lost gives the driver its level, at the lands SP_DESKEW_TX later. -/
theorem slotDrive_of_driven {d : Drv} {t : DT} (hf : s.frozen = false) (hs : s.suppressed = false)
    (hg : (s.spoke i).inModeGap t = false) :
    ∃ own l, (slotDrive i d t s).spoke i =
      { (s.spoke i).drive s.dt d t (deskewIn (s.island (islSpoke i)).active i false) with ownEdges := own, evOwn := l } := by
  simp only [slotDrive, hf, hg, hs, Bool.false_eq_true, if_false]
  split
  · obtain ⟨l, hl⟩ := noteDrive_spoke (i := i) (s.spoke i) d _ (s.setSpoke i _)
    exact ⟨_, l, by rw [hl, setSpoke_get]⟩
  · obtain ⟨l, hl⟩ := noteDrive_spoke (i := i) (s.spoke i) d _ (s.setSpoke i _)
    exact ⟨_, l, by rw [hl, setSpoke_get]; rfl⟩

theorem slotDrive_engine (d : Drv) (t : DT) (s : State) : (slotDrive i d t s).engine v = s.engine v :=
  engine_of_outside (q := { occs := true, spokes := true, pair := true, latch := true })
    (outside_slotDrive i d t s rfl rfl rfl rfl) rfl v

theorem slotDriveAction_drives (h : (s.engine v).acts.find? (fun a => a.spoke == i) = some a) (hck : s.clocked = true)
    (hat : dtLe a.at_ s.dt = true) (hclear : s.clearTo i a.at_ = true) (hown : s.owner i = some v)
    (hout : (s.spoke i).out ≠ 0) (hdrv : (s.spoke i).drv ≠ a.drv)
    (hfar : s.tooClose i (s.spoke i).lastAct a.at_ = false) (hhold : s.hub.hold = false) (hsup : s.suppressed = false)
    (hgap : (s.spoke i).inModeGap a.at_ = false) :
    ∃ u, exec (.slotDriveAction v i) s = .next u ∧ (u.spoke i).drv = a.drv ∧
      (u.spoke i).lastAct = some a.at_ ∧ (u.engine v).acts = (s.engine v).acts.erase a ∧
      (dtAdd a.at_ (deskewIn (s.island (islSpoke i)).active i false), a.drv) ∈ (u.spoke i).launches := by
  have hgates : s.hub.gatesOpen = true := hck
  have hfrozen : s.frozen = false := by simp [State.frozen, hgates, hhold]
  refine ⟨_, exec_slotDriveAction h hck hat hclear hown hout hdrv, ?_⟩
  rw [if_neg (by simp [hfar]), slotDrive_engine]
  obtain ⟨own, l, hspoke⟩ := slotDrive_of_driven (i := i) (d := a.drv) (t := a.at_)
    (s := s.setEngine v { s.engine v with acts := (s.engine v).acts.erase a }) hfrozen hsup hgap
  rw [hspoke]
  simp [Spoke.drive, Spoke.launch, hdrv]

theorem skipGuard_engine (t : DT) (s : State) :
    (skipGuard v t s).engine v = { s.engine v with skips := (s.engine v).skips + 1, guardSaid := true } := by
  unfold skipGuard
  dsimp only
  split <;> simp

theorem slotDriveAction_skips (h : (s.engine v).acts.find? (fun a => a.spoke == i) = some a) (hck : s.clocked = true)
    (hat : dtLe a.at_ s.dt = true) (hclear : s.clearTo i a.at_ = true) (hown : s.owner i = some v)
    (hout : (s.spoke i).out ≠ 0) (hdrv : (s.spoke i).drv ≠ a.drv)
    (hnear : s.tooClose i (s.spoke i).lastAct a.at_ = true) :
    ∃ u, exec (.slotDriveAction v i) s = .next u ∧ u.spokes = s.spokes ∧
      (u.engine v).skips = (s.engine v).skips + 1 ∧ (u.engine v).acts = (s.engine v).acts.erase a ∧
      ((s.engine v).guardSaid = false → s.evFull (evEng v 0) = false →
        ⟨Fin.ofNat 256 (evEng v 0), causeWord 12 0 0, a.at_, false⟩ ∈ u.occs) := by
  refine ⟨_, exec_slotDriveAction h hck hat hclear hown hout hdrv, ?_⟩
  rw [if_pos hnear, skipGuard_engine]
  refine ⟨spokes_of_outside (q := { occs := true, engines := true, latch := true }) (by simp) rfl, by simp, by simp,
    fun hsaid hroom => ?_⟩
  simp only [skipGuard, setEngine_get, hsaid, Bool.false_eq_true, if_false]
  exact mem_occs_engine (by omega) 12 a.at_ hroom

end

/-! ### Strobes (R147, R170) -/

section
variable {x : Strobe}

variable (h : (s.engine v).strobes.find? (fun x => x.spoke == i) = some x) (hck : s.clocked = true)
  (hat : dtLe (dtAdd x.at_ (deskewIn (s.island (islSpoke i)).active i true)) s.dt = true)
  (hswap : s.swapBefore (islSpoke i) x.at_ = false)
include h hck hat hswap

/-- A compare that finds its level, and a CE window that closes, leave nothing but their place. -/
theorem slotStrobe_passes (hx : ∀ b, x.expect = some b → (s.spoke i).pin = b) :
    exec (.slotStrobe v i) s =
      .next (s.setEngine v { s.engine v with strobes := (s.engine v).strobes.erase x }) := by
  change execSlotStrobe v i s = _
  simp only [execSlotStrobe, h, hck, hat, hswap, Bool.not_true, Bool.or_self, Bool.false_eq_true, if_false]
  cases he : x.expect with
  | none => rfl
  | some b => simp [hx b he]

theorem exec_slotStrobe_of_differing {b : Bool} (hx : x.expect = some b) (hpin : (s.spoke i).pin ≠ b) :
    exec (.slotStrobe v i) s =
      .next (compareFail v i x b (s.setEngine v { s.engine v with strobes := (s.engine v).strobes.erase x })) := by
  change execSlotStrobe v i s = _
  simp only [execSlotStrobe, h, hck, hat, hswap, hx, Bool.not_true, Bool.or_self, Bool.false_eq_true, if_false]
  rw [if_neg (by simpa using hpin)]

end

/-- An engine whose first failure since a re-arm a strobe has latched. -/
def firstFailed (en : Engine) (i : SpokeId) (x : Strobe) (high : Bool) (slot : Nat) : Engine :=
  { en with
    fails := en.fails + 1, failCnt := en.failCnt.set i.val (en.failCnt.get i + 1) i.isLt
    failedPlay := en.failedPlay.set i.val (some x.play) i.isLt
    ffValid := true, ffCycle := slot, ffSpoke := BitVec.ofNat 6 i.val, ffExp := high, ffSeg := x.seg, ffPos := x.vpos
    ffDt := x.at_ }

/-- CR_CTRL.REC asks for a record of the failure: of every one, or of a spoke's first in a play. -/
def recordsFail (en : Engine) (i : SpokeId) (x : Strobe) : Bool :=
  2 ≤ x.record || (x.record == 1 && en.failedPlay.get i != some x.play)

/-- FAIL sets out with the first failure, and a record follows where REC asks for one. -/
theorem compareFail_of_first {x : Strobe} {high : Bool} (h : (s.engine v).ffValid = false) :
    compareFail v i x high s =
      if recordsFail (s.engine v) i x = true then
        putRecord i x.at_ 0 4 (v.val * 16384 + b1 high * 4096 + x.seg.toNat)
          (raise (evEng v 2) 1 0 0 x.at_ (s.setEngine v (firstFailed (s.engine v) i x high s.slot)))
      else raise (evEng v 2) 1 0 0 x.at_ (s.setEngine v (firstFailed (s.engine v) i x high s.slot)) := by
  simp only [compareFail, h, Bool.false_eq_true, if_false]
  rfl

theorem putRecord_engine (d : DT) (edge typ tag : Nat) (s : State) (v : EngineId) :
    (putRecord i d edge typ tag s).engine v = s.engine v :=
  engine_of_outside (q := { occs := true, outbox := true, spokes := true, latch := true })
    (outside_putRecord i d edge typ tag s rfl rfl rfl rfl) rfl v

theorem compareFail_first_engine {x : Strobe} {high : Bool} (h : (s.engine v).ffValid = false) :
    (compareFail v i x high s).engine v = firstFailed (s.engine v) i x high s.slot := by
  rw [compareFail_of_first h]
  split
  · rw [putRecord_engine, raise_engine, setEngine_get]
  · rw [raise_engine, setEngine_get]

theorem mem_compareFail {x : Strobe} {high : Bool} (h : (s.engine v).ffValid = false)
    (hroom : s.evFull (evEng v 2) = false) :
    ⟨Fin.ofNat 256 (evEng v 2), causeWord 1 0 0, x.at_, false⟩ ∈ (compareFail v i x high s).occs := by
  have hfail : ⟨Fin.ofNat 256 (evEng v 2), causeWord 1 0 0, x.at_, false⟩ ∈
      (raise (evEng v 2) 1 0 0 x.at_ (s.setEngine v (firstFailed (s.engine v) i x high s.slot))).occs :=
    mem_occs_engine (by omega) 1 x.at_ hroom
  rw [compareFail_of_first h]
  split
  · exact mem_putRecord hfail
  · exact hfail

theorem slotStrobe_fails {x : Strobe} {b : Bool} (h : (s.engine v).strobes.find? (fun x => x.spoke == i) = some x)
    (hck : s.clocked = true)
    (hat : dtLe (dtAdd x.at_ (deskewIn (s.island (islSpoke i)).active i true)) s.dt = true)
    (hswap : s.swapBefore (islSpoke i) x.at_ = false) (hx : x.expect = some b) (hpin : (s.spoke i).pin ≠ b)
    (hff : (s.engine v).ffValid = false) :
    ∃ u, exec (.slotStrobe v i) s = .next u ∧ (u.engine v).fails = (s.engine v).fails + 1 ∧
      (u.engine v).failCnt.get i = (s.engine v).failCnt.get i + 1 ∧ (u.engine v).ffValid = true ∧
      (u.engine v).ffSpoke = BitVec.ofNat 6 i.val ∧ (u.engine v).ffExp = b ∧ (u.engine v).ffSeg = x.seg ∧
      (u.engine v).ffPos = x.vpos ∧ (u.engine v).ffDt = x.at_ ∧
      (s.evFull (evEng v 2) = false →
        ⟨Fin.ofNat 256 (evEng v 2), causeWord 1 0 0, x.at_, false⟩ ∈ u.occs) := by
  have hff' : ((s.setEngine v { s.engine v with strobes := (s.engine v).strobes.erase x }).engine v).ffValid = false := by
    rw [setEngine_get]
    exact hff
  refine ⟨_, exec_slotStrobe_of_differing h hck hat hswap hx hpin, ?_⟩
  rw [compareFail_first_engine hff', setEngine_get]
  exact ⟨rfl, get_set _ _ _, rfl, rfl, rfl, rfl, rfl, rfl, fun hroom => mem_compareFail hff' hroom⟩

/-- A failure latched in the very cycle of a re-arm stands (R11). -/
theorem exec_failFirstRearm (v : EngineId) (h : s.hostReach = true) :
    exec (.failFirstRearm v) s = .next (s.setEngine v { s.engine v with
      ffValid := (s.engine v).ffValid && s.clocked && (s.engine v).ffCycle == s.slot }) :=
  congrArg Host.Outcome.next (byHost_of_reach h _)

end Sys2Proof.Proofs
end

section
/-! O34: slots, strobes, stream fills and writes to vector memory (R147 to R149, R156, R165, R166, R170). -/

namespace Sys2Proof.Proofs

open Sys2Proof.Machine Sys2Proof.Laws

variable {s : State} {v : EngineId}

/-! ### Feed entries (R165) -/

section
variable (q : RingId) (s : State)

@[simp] theorem tookEntry_engine (v : EngineId) : (tookEntry q s).engine v = s.engine v :=
  engine_of_outside (q := { hb := true }) (outside_tookEntry q s rfl) rfl v

theorem tookEntry_occs : (tookEntry q s).occs = s.occs := setRing_occs ..

end

/-- An engine that has taken the next entry of its feed ring. -/
def fedEntry (en : Engine) (rest : List Octets) : Engine := { en with feedIn := rest, feeds := en.feeds + 1 }

/-- The fill that a valid feed entry begins, of the segment entry in force. -/
def begunFill (b : Octets) (e : Nat) : Fill :=
  ⟨BitVec.ofNat 10 (leAt b 0 2), leAt b 2 1 == 1, 64 * eBase e, 64 * eLen e, BitVec.ofNat 64 (leAt b 8 8), 0, none⟩

section
variable {b : Octets} {r : List Octets}
  (hfeed : (s.engine v).feedIn = b :: r) (hck : s.clocked = true) (hfill : (s.engine v).fill = none)
include hfeed hck hfill

theorem streamFeedEntry_begins {e : Nat}
    (hb : leAt b 0 2 < 1024 ∧ leAt b 2 1 < 2 ∧ leAt b 3 5 = 0 ∧ leAt b 8 8 % 64 = 0 ∧ leAt b 16 16 = 0)
    (he : e = s.entry v (leAt b 0 2)) (hvalid : eValid e = true ∧ eStream e = true) :
    ∃ u, exec (.streamFeedEntry v) s = .next u ∧ (u.engine v).feedIn = r ∧
      (u.engine v).feeds = (s.engine v).feeds + 1 ∧
      (u.engine v).ready = (s.engine v).ready.filter (· != leAt b 0 2) ∧
      (u.engine v).fill = some (begunFill b e) := by
  obtain ⟨hseg, hflags, hres, haddr, hrest⟩ := hb
  obtain ⟨hvalid, hstream⟩ := hvalid
  subst he
  have hexec : exec (.streamFeedEntry v) s = .next ((tookEntry ⟨60 + v.val, by omega⟩ s).setEngine v
      { (fedEntry (s.engine v) r).unready (leAt b 0 2) with fill := some (begunFill b (s.entry v (leAt b 0 2))) }) := by
    change execStreamFeedEntry v s = _
    simp [execStreamFeedEntry, hfeed, hck, hfill, Nat.mod_eq_of_lt hseg, hvalid, hstream, haddr, Nat.not_le.2 hseg,
      Nat.not_le.2 hflags, hres, hrest]
    rfl
  refine ⟨_, hexec, ?_⟩
  rw [setEngine_get]
  exact ⟨rfl, rfl, rfl, rfl⟩

theorem streamFeedEntry_refused (hbad : eStream (s.entry v (leAt b 0 2 % 1024)) = false ∨ leAt b 8 8 % 64 ≠ 0) :
    ∃ u, exec (.streamFeedEntry v) s = .next u ∧ (u.engine v).feedIn = r ∧ (u.engine v).fill = none ∧
      (u.engine v).ready = (s.engine v).ready ∧
      (s.evFull (evEng v 3) = false →
        ⟨Fin.ofNat 256 (evEng v 3), causeWord 3 0 0, s.dt, false⟩ ∈ u.occs) := by
  have hexec : exec (.streamFeedEntry v) s = .next (raise (evEng v 3) 3 0 0 s.dt
      ((tookEntry ⟨60 + v.val, by omega⟩ s).setEngine v (fedEntry (s.engine v) r))) := by
    change execStreamFeedEntry v s = _
    rcases hbad with hstream | haddr
    · simp [execStreamFeedEntry, hfeed, hck, hfill, hstream, fedEntry]
    · simp [execStreamFeedEntry, hfeed, hck, hfill, haddr, fedEntry]
  refine ⟨_, hexec, ?_⟩
  rw [raise_engine, setEngine_get]
  refine ⟨rfl, hfill, rfl, fun hroom => mem_occs_engine (by omega) 3 s.dt ?_⟩
  simpa only [State.evFull, setEngine_occs, tookEntry_occs] using hroom

end

/-! ### Discarded vectors (R156) -/

/-- One engine's part in a write or fill that met active regions. -/
def countLost (lost : List Nat) (v : EngineId) (s : State) : State :=
  if lost.getD v.val 0 = 0 then s
  else raise (evEng v 3) 1 0 0 s.dt
    (s.setEngine v { s.engine v with segwr := (s.engine v).segwr + word (lost.getD v.val 0) })

theorem segWr_eq (lost : List Nat) (s : State) : segWr lost s = forEach 4 (countLost lost) s := rfl

theorem countLost_of_zero {lost : List Nat} (h : lost.getD v.val 0 = 0) (s : State) : countLost lost v s = s := if_pos h

theorem segWr_of_none {lost : List Nat} (h : ∀ u : EngineId, lost.getD u.val 0 = 0) (s : State) : segWr lost s = s :=
  foldl_keeps (p := id) (fun u _ t => countLost_of_zero (h u) t) s

theorem segWr_of_sole {lost : List Nat} (h : ∀ u : EngineId, u ≠ v → lost.getD u.val 0 = 0) (s : State) :
    segWr lost s = countLost lost v s :=
  forEach_at (p := id) (g := countLost lost v) (fun _ => rfl) (fun u hu t => countLost_of_zero (h u hu) t) s

theorem countLost_engine (lost : List Nat) (v : EngineId) (s : State) :
    (countLost lost v s).engine v = { s.engine v with segwr := (s.engine v).segwr + word (lost.getD v.val 0) } := by
  unfold countLost
  split
  · next h =>
    rw [h, word, BitVec.add_zero]
  · simp

theorem segWr_engine (lost : List Nat) (v : EngineId) (s : State) :
    (segWr lost s).engine v = { s.engine v with segwr := (s.engine v).segwr + word (lost.getD v.val 0) } := by
  refine forEach_at (p := fun t => t.engine v) (f := countLost lost) (i := v)
    (g := fun en => { en with segwr := en.segwr + word (lost.getD v.val 0) }) (countLost_engine lost v)
    (fun u hu t => ?_) s
  unfold countLost
  split
  · rfl
  · rw [raise_engine, setEngine_get_ne _ _ _ _ hu.symm]

/-! ### Fills that end (R165, R166) -/

section
variable {data : Octets} {f : Fill} (hfill : (s.engine v).fill = some f) (hck : s.clocked = true)
  (hlen : data.length = 64 * f.vecs)
include hfill hck hlen

theorem fillComplete_marks (hmet : (f.advance s f.vecs).met = none)
    (hsame : 64 * eBase (s.entry v f.seg.toNat) = f.first ∧ eVecs (s.entry v f.seg.toNat) = f.vecs)
    (hquiet : f.notify = false) :
    ∃ u, exec (.fillComplete v data) s = .next u ∧ (u.engine v).fill = none ∧ f.seg.toNat ∈ (u.engine v).ready ∧
      u.mem = wrN memDflt s.mem (64 * f.first) data := by
  obtain ⟨hfirst, hvecs⟩ := hsame
  have htake : data.take (64 * f.kept s) = data := by
    rw [Fill.kept, hmet]
    exact List.take_of_length_le hlen.le
  have hexec : exec (.fillComplete v data) s =
      .next (({ s with mem := wrN memDflt s.mem (64 * f.first) data } : State).setEngine v
        ({ s.engine v with fill := none }.setReady f.seg.toNat)) := by
    change execFillComplete v data s = _
    simp only [execFillComplete, hfill, hmet, htake]
    simp [hck, hlen, hfirst, hvecs, hquiet]
    rfl
  refine ⟨_, hexec, ?_⟩
  rw [setEngine_get]
  exact ⟨rfl, List.mem_cons_self, rfl⟩

theorem fillComplete_discards {x : Nat × List Nat} (hmet : (f.advance s f.vecs).met = some x) :
    ∃ u, exec (.fillComplete v data) s = .next u ∧ (u.engine v).fill = none ∧ (u.engine v).ready = (s.engine v).ready ∧
      (u.engine v).segwr = (s.engine v).segwr + BitVec.ofNat 32 (x.2.getD v.val 0) ∧
      u.mem = wrN memDflt s.mem (64 * f.first) (data.take (64 * (x.1 - f.first))) := by
  have hkept : f.kept s = x.1 - f.first := by
    rw [Fill.kept, hmet]
    rfl
  have hexec : exec (.fillComplete v data) s = .next (segWr x.2
      (({ s with mem := wrN memDflt s.mem (64 * f.first) (data.take (64 * (x.1 - f.first))) } : State).setEngine v
        { s.engine v with fill := none })) := by
    change execFillComplete v data s = _
    simp only [execFillComplete, hfill, hmet, hkept]
    simp [hck, hlen]
    rfl
  refine ⟨_, hexec, ?_⟩
  rw [segWr_engine, setEngine_get, segWr_mem]
  exact ⟨rfl, rfl, rfl, rfl⟩

end

/-! ### Writes to vector memory (R156) -/

/-- A test of the vectors that a write touches, octet by octet. -/
theorem touched_cons_any (p : Nat → Bool) (addr : Nat) (b : Option Byte) (bs : List (Option Byte)) :
    (touched addr (b :: bs)).any p = (b.isSome && p (addr / 64) || (touched (addr + 1) bs).any p) := by
  rw [touched]
  cases hb : b.isSome with
  | false => simp
  | true =>
    cases hc : (touched (addr + 1) bs).contains (addr / 64) with
    | false => simp
    | true =>
      have himp : p (addr / 64) = true → (touched (addr + 1) bs).any p = true := fun hp =>
        List.any_eq_true.2 ⟨_, List.contains_iff_mem.1 hc, hp⟩
      cases hp : p (addr / 64) with
      | false => simp
      | true => simp [himp hp]

theorem allowed_of_inactive {addr : Nat} {data : List (Option Byte)} (h : (touched addr data).any s.anyActive = false) :
    allowed s addr data = data := by
  induction data generalizing addr with
  | nil => rfl
  | cons b bs ih =>
    rw [touched_cons_any, Bool.or_eq_false_iff] at h
    rw [allowed, ih h.2, h.1]
    rfl

theorem inActive_of_anyActive {n : Nat} (h : s.anyActive n = false) (v : EngineId) : s.inActive v n = false := by
  have hall := List.any_eq_false.1 h v (List.mem_finRange v)
  exact Bool.eq_false_iff.2 hall

/-- How many of the vectors that a write touches lie in an active region of each engine. -/
def lostOf (s : State) (addr : Nat) (data : List (Option Byte)) : List Nat :=
  (List.finRange 4).map fun v => ((touched addr data).filter (s.inActive v)).length

theorem lostOf_getD (addr : Nat) (data : List (Option Byte)) (v : EngineId) :
    (lostOf s addr data).getD v.val 0 = ((touched addr data).filter (s.inActive v)).length := by
  simp [lostOf, List.getD]

theorem exec_vectorMemoryWrite (a : BitVec 23) (data : List (Option Byte)) (h : s.hostReach = true) :
    exec (.vectorMemoryWrite a data) s = .next (segWr (lostOf s a.toNat data)
      { s with mem := wrEn memDflt s.mem a.toNat (allowed s a.toNat data) }) :=
  congrArg Host.Outcome.next (byHost_of_reach h _)

theorem vectorMemoryWrite_stores {a : BitVec 23} {data : List (Option Byte)} (h : s.hostReach = true)
    (hfree : (touched a.toNat data).any s.anyActive = false) :
    exec (.vectorMemoryWrite a data) s = .next { s with mem := wrEn memDflt s.mem a.toNat data } := by
  have hlost (u : EngineId) : (lostOf s a.toNat data).getD u.val 0 = 0 := by
    rw [lostOf_getD, List.length_eq_zero_iff, List.filter_eq_nil_iff]
    intro n hn
    have hn' := Bool.eq_false_iff.2 (List.any_eq_false.1 hfree n hn)
    simp [inActive_of_anyActive hn' u]
  rw [exec_vectorMemoryWrite a data h, allowed_of_inactive hfree, segWr_of_none hlost]

theorem vectorMemoryWrite_discards {a : BitVec 23} (b : Byte) (h : s.hostReach = true)
    (hact : s.inActive v (a.toNat / 64) = true) (hsole : ∀ x : EngineId, x ≠ v → s.inActive x (a.toNat / 64) = false) :
    exec (.vectorMemoryWrite a [some b]) s = .next (raise (evEng v 3) 1 0 0 s.dt
      (s.setEngine v { s.engine v with segwr := (s.engine v).segwr + 1 })) := by
  have htouched : touched a.toNat [some b] = [a.toNat / 64] := rfl
  have hany : s.anyActive (a.toNat / 64) = true := List.any_eq_true.2 ⟨v, List.mem_finRange v, hact⟩
  have hallowed : allowed s a.toNat [some b] = [none] := by simp [allowed, hany]
  have hlost (u : EngineId) (hu : u ≠ v) : (lostOf s a.toNat [some b]).getD u.val 0 = 0 := by
    rw [lostOf_getD, htouched, List.filter_cons_of_neg (by simp [hsole u hu])]
    rfl
  have hone : (lostOf s a.toNat [some b]).getD v.val 0 = 1 := by
    rw [lostOf_getD, htouched, List.filter_cons_of_pos hact]
    rfl
  rw [exec_vectorMemoryWrite a [some b] h, segWr_of_sole hlost, hallowed, countLost, hone]
  rfl

/-- Settles O34: each clause is what the command does in the case that the clause names. -/
theorem slotsAndMemoryComplete : Obligations.SlotsAndMemoryComplete := by
  unfold Obligations.SlotsAndMemoryComplete
  refine ⟨fun _ _ _ _ _ _ hd hs hr hpos hf hown hn hst hedge hlevel =>
      vectorStart_drives hd hs hr hpos hf hown hn hst hedge hlevel,
    fun _ _ _ _ h hck hat hclear hown hout hdrv hfar hhold hsup hgap =>
      slotDriveAction_drives h hck hat hclear hown hout hdrv hfar hhold hsup hgap,
    fun _ _ _ _ h hck hat hclear hown hout hdrv hnear => slotDriveAction_skips h hck hat hclear hown hout hdrv hnear,
    fun _ _ _ _ _ h hck hat hswap hx hpin =>
      slotStrobe_passes h hck hat hswap fun _ hc => hpin.trans (Option.some.inj (hx.symm.trans hc)),
    fun _ _ _ _ _ h hck hat hswap hx hpin hff => slotStrobe_fails h hck hat hswap hx hpin hff,
    fun _ _ _ _ h hck hat hswap hx =>
      slotStrobe_passes h hck hat hswap fun _ hc => absurd (hc.symm.trans hx) (Option.some_ne_none _),
    fun _ v h => exec_failFirstRearm v h,
    fun _ _ _ _ _ h hck hfill hb he hvalid => streamFeedEntry_begins h hck hfill hb he hvalid,
    fun _ _ _ _ h hck hfill hbad => streamFeedEntry_refused h hck hfill hbad,
    fun _ _ _ _ hfill hck hlen hmet hsame hquiet => fillComplete_marks hfill hck hlen hmet hsame hquiet,
    fun _ _ _ _ _ hfill hck hlen hmet => fillComplete_discards hfill hck hlen hmet,
    fun _ _ _ h hfree => vectorMemoryWrite_stores h hfree,
    fun _ _ _ b h hact hsole => vectorMemoryWrite_discards b h hact hsole⟩

end Sys2Proof.Proofs
end

section
/-! Crank's axes (O35): what events, counts and searches leave of an axis, what becomes of the oldest target, and how a
record is decided (R180, R181, R187, R191). -/

namespace Sys2Proof.Proofs

open Sys2Proof.Machine Sys2Proof.Laws

variable {s : State} {a : AxisId}

/-! ### The model of an axis under events, counts and searches -/

/-- An axis without its targets, its last cause and the counts of targets without a time, of seam jumps and of revised
targets: what events and searches never touch. -/
def axisModel (x : Axis) : Axis := { x with tgts := [], cause := 0, noTime := 0, jumps := 0, revised := 0 }

/-- Crank as it stands for the model of one axis: of the others, and of what came in, nothing is left out. -/
def modelOf (a : AxisId) (s : State) : Crank := (s.setAxis a (axisModel (s.axis a))).crank

section
variable {t : State}

theorem modelOf_setAxis {x : Axis} (h : axisModel x = axisModel (s.axis a)) : modelOf a (s.setAxis a x) = modelOf a s := by
  simp [modelOf, h]

@[simp] theorem modelOf_raise (e c d n : Nat) (dt : DT) : modelOf a (raise e c d n dt s) = modelOf a s := by
  simp [modelOf, State.setAxis]

@[simp] theorem modelOf_raiseAxis (c : Nat) (dt : DT) : modelOf a (raiseAxis a c dt s) = modelOf a s :=
  (modelOf_raise ..).trans (modelOf_setAxis rfl)

@[simp] theorem modelOf_noTime (g : Target) (c : Nat) (dt : DT) : modelOf a (noTime a g c dt s) = modelOf a s :=
  (modelOf_raiseAxis ..).trans (modelOf_setAxis rfl)

@[simp] theorem modelOf_searchTarget (dt : DT) (g : Target) : modelOf a (searchTarget a dt g s) = modelOf a s := by
  unfold searchTarget
  dsimp only
  split
  · exact modelOf_setAxis rfl
  · exact modelOf_setAxis rfl
  · exact modelOf_noTime ..

theorem modelOf_seamAt (p : Int × Nat) (g : Segment) : modelOf a (seamAt a p g s) = modelOf a s := by
  unfold seamAt
  dsimp only
  split
  · exact (modelOf_raiseAxis ..).trans (modelOf_setAxis rfl)
  · rfl

theorem modelOf_foldl {α : Type} {f : State → α → State} (h : ∀ t x, modelOf a (f t x) = modelOf a t) (l : List α) :
    modelOf a (l.foldl f s) = modelOf a s :=
  List.foldlRecOn l f (motive := fun t => modelOf a t = modelOf a s) rfl fun t ht x _ => (h t x).trans ht

/-- What `modelOf` keeps of Crank beside its axes. -/
theorem input_of_modelOf (h : modelOf a t = modelOf a s) :
    t.crank.recIn = s.crank.recIn ∧ t.crank.segwState = s.crank.segwState ∧ t.crank.segwCause = s.crank.segwCause :=
  ⟨(congrArg Crank.recIn h :), (congrArg Crank.segwState h :), (congrArg Crank.segwCause h :)⟩

theorem axisModel_of_modelOf (h : modelOf a t = modelOf a s) : axisModel (t.axis a) = axisModel (s.axis a) := by
  have hget (u : State) : (modelOf a u).axes.get a = axisModel (u.axis a) := get_set _ _ _
  rw [← hget, ← hget, h]

theorem axis_of_modelOf (h : modelOf a t = modelOf a s) {b : AxisId} (hb : b ≠ a) : t.axis b = s.axis b := by
  have hget (u : State) : (modelOf a u).axes.get b = u.axis b := get_set_ne _ _ _ _ hb
  rw [← hget, ← hget, h]

theorem model_of_modelOf (h : modelOf a t = modelOf a s) :
    (t.axis a).segs = (s.axis a).segs ∧ (t.axis a).dry = (s.axis a).dry ∧ (t.axis a).held = (s.axis a).held :=
  have hx := axisModel_of_modelOf h
  ⟨(congrArg Axis.segs hx :), (congrArg Axis.dry hx :), (congrArg Axis.held hx :)⟩

theorem counts_of_modelOf (h : modelOf a t = modelOf a s) :
    (t.axis a).accepted = (s.axis a).accepted ∧ (t.axis a).refused = (s.axis a).refused :=
  have hx := axisModel_of_modelOf h
  ⟨(congrArg Axis.accepted hx :), (congrArg Axis.refused hx :)⟩

end

/-! ### Events of an axis (R195) -/

theorem raiseAxis_setAxis (c : Nat) (d : DT) (x : Axis) : raiseAxis a c d (s.setAxis a x) =
    raise (176 + a.val) c 0 0 d (s.setAxis a { x with cause := BitVec.ofNat 4 c }) := by
  simp [raiseAxis]

/-- An event of an axis that its channel has room for sets out. -/
theorem mem_occs_raiseAxis (c : Nat) (d : DT) (h : s.evFull (176 + a.val) = false) :
    ⟨Fin.ofNat 256 (176 + a.val), causeWord c 0 0, d, false⟩ ∈ (raiseAxis a c d s).occs :=
  mem_occs_raise (by omega) c 0 0 d h

/-! ### The oldest target (R186, R187) -/

theorem modFirst_head {α : Type} [DecidableEq α] (f : α → α) (x : α) (l : List α) :
    modFirst (· == x) f (x :: l) = f x :: l := modFirst_append f List.not_mem_nil l

section
variable {g : Target} {r : List Target} (h : (s.axis a).tgts = g :: r)
include h

theorem noTime_head (c : Nat) (d : DT) : noTime a g c d s = raise (176 + a.val) c 0 0 d (s.setAxis a { s.axis a with
    tgts := { g with st := .noTime } :: r, noTime := (s.axis a).noTime + 1, cause := BitVec.ofNat 4 c }) := by
  rw [noTime, modAxis_eq, h, modFirst_head, raiseAxis_setAxis]

theorem searchTarget_waits {d : DT}
    (hf : searchFrom d.toNat g.pos (s.axis a).segs ((s.axis a).held, (s.axis a).heldDen) = .wait) :
    searchTarget a d g s = s.setAxis a { s.axis a with tgts := { g with st := .waiting d } :: r } := by
  simp only [searchTarget, hf, modAxis_eq, h, modFirst_head]

theorem searchTarget_solves {d t : DT}
    (hf : searchFrom d.toNat g.pos (s.axis a).segs ((s.axis a).held, (s.axis a).heldDen) = .time t) :
    searchTarget a d g s = s.setAxis a { s.axis a with tgts := { g with st := .solving d t false } :: r } := by
  simp only [searchTarget, hf, modAxis_eq, h, modFirst_head]

end

/-! ### Records accepted and refused (R180, R181) -/

/-- An axis whose model an accepted segment has joined. -/
def joined (a : AxisId) (g : Segment) (s : State) : State :=
  s.setAxis a { s.axis a with segs := replaceFrom (s.axis a).segs g, accepted := (s.axis a).accepted + 1 }

/-- A class that yields no targets is said (R184). -/
def sayClass (a : AxisId) (c : SegClass) (d : DT) (s : State) : State :=
  match classCause c with
  | some k => raiseAxis a k d s
  | none => s

/-- The class that a cut gives a held segment is said where it is another one (R184). -/
def sayCut (a : AxisId) (g : Segment) (segs : List Segment) (s : State) : State :=
  match segs.find? fun h => h.t0.toNat < g.t0.toNat && g.t0.toNat < h.heldEnd.toNat with
  | some h =>
    let c := ({ h with heldEnd := g.t0 } : Segment).classify
    if c == h.cls then s else sayClass a c g.t0 s
  | none => s

/-- REVISED, where a segment overtakes a delivered time (R191). -/
def sayRevised (a : AxisId) (g : Segment) (last : DT) (s : State) : State :=
  if g.t0.toNat ≤ last.toNat then
    raiseAxis a 9 g.t0 (s.setAxis a { s.axis a with revised := (s.axis a).revised + 1 })
  else s

/-- A target meets an accepted segment: one that waits is searched again, one in the solver is marked (R186, R191). -/
def meetSegment (a : AxisId) (g : Segment) (s : State) (t : Target) : State :=
  match t.st with
  | .waiting srch => searchTarget a srch t s
  | .solving srch d again =>
    let marked := TgtState.solving srch d (again || g.t0.toNat ≤ d.toNat)
    s.setAxis a { s.axis a with tgts := modFirst (· == t) (fun t => { t with st := marked }) (s.axis a).tgts }
  | _ => s

theorem acceptSegment_eq (g : Segment) (s : State) : acceptSegment a g s =
    (s.axis a).tgts.foldl (meetSegment a g) (sayRevised a g (s.axis a).lastDt (sayClass a g.cls g.t0
      (sayCut a g (s.axis a).segs (joined a g s)))) := rfl

@[simp] theorem modelOf_sayClass (c : SegClass) (d : DT) : modelOf a (sayClass a c d s) = modelOf a s := by
  unfold sayClass
  split
  · exact modelOf_raiseAxis ..
  · rfl

theorem modelOf_sayCut (g : Segment) (segs : List Segment) : modelOf a (sayCut a g segs s) = modelOf a s := by
  unfold sayCut
  dsimp only
  split
  · split
    · rfl
    · exact modelOf_sayClass ..
  · rfl

theorem modelOf_sayRevised (g : Segment) (last : DT) : modelOf a (sayRevised a g last s) = modelOf a s := by
  unfold sayRevised
  split
  · exact (modelOf_raiseAxis ..).trans (modelOf_setAxis rfl)
  · rfl

theorem modelOf_meetSegment (g : Segment) (t : Target) : modelOf a (meetSegment a g s t) = modelOf a s := by
  unfold meetSegment
  split
  · exact modelOf_searchTarget ..
  · exact modelOf_setAxis rfl
  · rfl

/-- An accepted segment joins the model; what it does beside that leaves the model as it is. -/
theorem modelOf_acceptSegment (g : Segment) : modelOf a (acceptSegment a g s) = modelOf a (joined a g s) := by
  rw [acceptSegment_eq, modelOf_foldl fun _ => modelOf_meetSegment g, modelOf_sayRevised, modelOf_sayClass, modelOf_sayCut]

theorem recordCheck_none {axes : List AxisId} {b : Octets} (hsel : axes.contains a = true) (hbad : badRecord b = false)
    (hlead : dtLe (dtAdd (s.replica islCrank) 2048000) (BitVec.ofNat 80 (leAt b 0 10)) = true)
    (hroom : (replaceFrom (s.axis a).segs (segOf b)).length ≤ 16) : recordCheck s a axes b = none := by
  simp only [recordCheck, hsel, hbad, hlead, Bool.not_true, Bool.false_eq_true, if_false, if_neg (Nat.not_lt.2 hroom)]

end Sys2Proof.Proofs
end

section
/-! O35: segment records, seams, starts and ends of segments, and targets (R177 to R193). -/

namespace Sys2Proof.Proofs

open Sys2Proof.Machine Sys2Proof.Laws

variable {s : State} {a : AxisId}

/-! ### The staged record (R179) -/

theorem exec_segmentGo (a : AxisId) (h : s.hostReach = true) : exec (.segmentGo a) s = .next (
    if s.crank.segwState = 1 then s else { s with crank := { s.crank with
      segwState := 1, segwCause := 0
      recIn := s.crank.recIn ++ [⟨a, .host, (List.range 12).flatMap fun n => leOctets 4 (s.immAt (0xC800 + 4 * n)).toNat,
        true, if s.clocked then some s.dt else none, none⟩] } }) :=
  congrArg Host.Outcome.next (byHost_of_reach h _)

/-! ### Records decided (R180, R181) -/

/-- Crank with the oldest record taken from its input buffer. -/
def tookRecord (r : List RecIn) (s : State) : State := { s with crank := { s.crank with recIn := r } }

section
variable {m : RecIn} {r : List RecIn} (hrdy : s.ready islCrank = true) (hrec : s.crank.recIn = m :: r)
include hrdy hrec

theorem exec_segmentRecord_host (hsrc : m.src = .host) :
    exec .segmentRecord s = .next (decideRecord m.axis (s.axesOf m) .host m.bytes (tookRecord r s)) := by
  change execSegmentRecord s = _
  simp only [execSegmentRecord, hrdy, hrec, hsrc, Bool.not_true, Bool.false_eq_true, if_false]
  rfl

variable {c : PortId} {x : Byte} (hsrc : m.src = .frame c x)
include hsrc

theorem exec_segmentRecord_sole (haxes : s.axesOf m = [a]) :
    exec .segmentRecord s = .next (decideRecord a [a] (.frame c x) m.bytes (tookRecord r s)) := by
  change execSegmentRecord s = _
  simp only [execSegmentRecord, hrdy, hrec, hsrc, haxes, Bool.not_true, Bool.false_eq_true, if_false]
  rfl

theorem exec_segmentRecord_unmapped (haxes : s.axesOf m = []) :
    exec .segmentRecord s = .next { s with crank := { s.crank with
      recIn := r, unmapped := if m.first then s.crank.unmapped + 1 else s.crank.unmapped } } := by
  change execSegmentRecord s = _
  simp only [execSegmentRecord, hrdy, hrec, hsrc, haxes, Bool.not_true, Bool.false_eq_true, if_false]
  rfl

end

/-- CK_SEGW_CTRL tells the host what became of its record. -/
def answered (st : BitVec 2) (cause : BitVec 4) (s : State) : State :=
  { s with crank := { s.crank with segwState := st, segwCause := cause } }

theorem answered_axis (st : BitVec 2) (cause : BitVec 4) (s : State) (b : AxisId) :
    (answered st cause s).axis b = s.axis b := rfl

section
variable {axes : List AxisId} {b : Octets} {k : Nat}

theorem decideRecord_host_accepts (h : recordCheck s a axes b = none) : decideRecord a axes .host b s =
    answered 2 0 (acceptSegment a { segOf b with cycle := slotOf s.dt } s) := by
  simp only [decideRecord, h]
  rfl

theorem decideRecord_frame_accepts {c : PortId} {x : Byte} (h : recordCheck s a axes b = none) :
    decideRecord a axes (.frame c x) b s = acceptSegment a { segOf b with cycle := slotOf s.dt } s := by
  simp only [decideRecord, h]
  rfl

/-- An axis has refused a record of the host, for the cause that CK_SEGW_CTRL shows. -/
def refusedRecord (a : AxisId) (k : Nat) (s : State) : State :=
  answered 3 (BitVec.ofNat 4 k) (s.setAxis a { s.axis a with refused := (s.axis a).refused + 1 })

theorem decideRecord_host_refuses (h : recordCheck s a axes b = some k) :
    decideRecord a axes .host b s = raiseAxis a k (BitVec.ofNat 80 (leAt b 0 10)) (refusedRecord a k s) := by
  simp only [decideRecord, h]
  rfl

end

/-- What an accepted segment makes of its axis, of the others and of Crank's input. -/
theorem acceptSegment_spec (a : AxisId) (g : Segment) (s : State) :
    ((acceptSegment a g s).axis a).segs = replaceFrom (s.axis a).segs g ∧
      ((acceptSegment a g s).axis a).accepted = (s.axis a).accepted + 1 ∧
      ((acceptSegment a g s).axis a).refused = (s.axis a).refused ∧
      (∀ x, x ≠ a → (acceptSegment a g s).axis x = s.axis x) ∧
      (acceptSegment a g s).crank.recIn = s.crank.recIn ∧
      (acceptSegment a g s).crank.segwState = s.crank.segwState := by
  have h := modelOf_acceptSegment (s := s) (a := a) g
  obtain ⟨hsegs, -, -⟩ := model_of_modelOf h
  obtain ⟨hacc, href⟩ := counts_of_modelOf h
  obtain ⟨hrec, hst, -⟩ := input_of_modelOf h
  rw [joined, setAxis_get] at hsegs hacc href
  rw [joined, setAxis_crank_recIn] at hrec
  rw [joined, setAxis_crank_segwState] at hst
  exact ⟨hsegs, hacc, href, fun x hx => (axis_of_modelOf h hx).trans (setAxis_get_ne _ _ _ _ hx), hrec, hst⟩

section
variable {m : RecIn} {r : List RecIn} (hrdy : s.ready islCrank = true) (hrec : s.crank.recIn = m :: r)
include hrdy hrec

theorem segmentRecord_host_accepts (hsrc : m.src = .host) (hsel : (s.axesOf m).contains m.axis = true)
    (hbad : badRecord m.bytes = false)
    (hlead : dtLe (dtAdd (s.replica islCrank) 2048000) (BitVec.ofNat 80 (leAt m.bytes 0 10)) = true)
    (hroom : (replaceFrom (s.axis m.axis).segs (segOf m.bytes)).length ≤ 16) :
    ∃ u, exec .segmentRecord s = .next u ∧ u.crank.recIn = r ∧ u.crank.segwState = 2 ∧ u.crank.segwCause = 0 ∧
      (u.axis m.axis).segs = replaceFrom (s.axis m.axis).segs { segOf m.bytes with cycle := slotOf s.dt } ∧
      (u.axis m.axis).accepted = (s.axis m.axis).accepted + 1 ∧
      (u.axis m.axis).refused = (s.axis m.axis).refused ∧ ∀ x, x ≠ m.axis → u.axis x = s.axis x := by
  have hcheck : recordCheck (tookRecord r s) m.axis (s.axesOf m) m.bytes = none := recordCheck_none hsel hbad hlead hroom
  obtain ⟨hsegs, hacc, href, hothers, hin, -⟩ :=
    acceptSegment_spec m.axis { segOf m.bytes with cycle := slotOf (tookRecord r s).dt } (tookRecord r s)
  refine ⟨_, exec_segmentRecord_host hrdy hrec hsrc, ?_⟩
  rw [decideRecord_host_accepts hcheck]
  simp only [answered_axis]
  exact ⟨hin, rfl, rfl, hsegs, hacc, href, hothers⟩

theorem segmentRecord_frame_accepts {c : PortId} {x : Byte} (hsrc : m.src = .frame c x) (haxes : s.axesOf m = [a])
    (hbad : badRecord m.bytes = false)
    (hlead : dtLe (dtAdd (s.replica islCrank) 2048000) (BitVec.ofNat 80 (leAt m.bytes 0 10)) = true)
    (hroom : (replaceFrom (s.axis a).segs (segOf m.bytes)).length ≤ 16) :
    ∃ u, exec .segmentRecord s = .next u ∧ u.crank.recIn = r ∧ u.crank.segwState = s.crank.segwState ∧
      (u.axis a).segs = replaceFrom (s.axis a).segs { segOf m.bytes with cycle := slotOf s.dt } ∧
      (u.axis a).accepted = (s.axis a).accepted + 1 := by
  have hcheck : recordCheck (tookRecord r s) a [a] m.bytes = none := recordCheck_none (by simp) hbad hlead hroom
  obtain ⟨hsegs, hacc, -, -, hin, hst⟩ :=
    acceptSegment_spec a { segOf m.bytes with cycle := slotOf (tookRecord r s).dt } (tookRecord r s)
  refine ⟨_, exec_segmentRecord_sole hrdy hrec hsrc haxes, ?_⟩
  rw [decideRecord_frame_accepts hcheck]
  exact ⟨hin, hst, hsegs, hacc⟩

theorem segmentRecord_host_refuses {k : Nat} (hsrc : m.src = .host)
    (hcheck : recordCheck s m.axis (s.axesOf m) m.bytes = some k) :
    ∃ u, exec .segmentRecord s = .next u ∧ u.crank.recIn = r ∧ u.crank.segwState = 3 ∧
      u.crank.segwCause = BitVec.ofNat 4 k ∧ (u.axis m.axis).segs = (s.axis m.axis).segs ∧
      (u.axis m.axis).refused = (s.axis m.axis).refused + 1 ∧
      (s.evFull (176 + m.axis.val) = false →
        ⟨Fin.ofNat 256 (176 + m.axis.val), causeWord k 0 0, BitVec.ofNat 80 (leAt m.bytes 0 10), false⟩ ∈ u.occs) := by
  have hmodel := modelOf_raiseAxis (a := m.axis) (s := refusedRecord m.axis k (tookRecord r s)) k
    (BitVec.ofNat 80 (leAt m.bytes 0 10))
  have hrefused : (refusedRecord m.axis k (tookRecord r s)).axis m.axis =
      { s.axis m.axis with refused := (s.axis m.axis).refused + 1 } := setAxis_get ..
  obtain ⟨hin, hst, hcause⟩ := input_of_modelOf hmodel
  obtain ⟨hsegs, -, -⟩ := model_of_modelOf hmodel
  obtain ⟨-, href⟩ := counts_of_modelOf hmodel
  rw [hrefused] at hsegs href
  refine ⟨_, exec_segmentRecord_host hrdy hrec hsrc, ?_⟩
  rw [decideRecord_host_refuses (s := tookRecord r s) hcheck]
  exact ⟨hin, hst, hcause, hsegs, href, fun hroom => mem_occs_raiseAxis k _ hroom⟩

end

/-! ### Segments come into force and end (R177, R182, R183) -/

section
variable {g : Segment} {r : List Segment}

theorem exec_segstart (hc : s.clocked = true) (hdry : (s.axis a).dry = false) (hsegs : (s.axis a).segs = g :: r)
    (hst : g.started = false) (hdue : g.t0.toNat ≤ s.dt.toNat) : exec (.segstart a) s = .next (
    if g.evt then raiseAxis a 0 g.t0 (s.setAxis a { s.axis a with segs := { g with started := true } :: r })
    else s.setAxis a { s.axis a with segs := { g with started := true } :: r }) := by
  have hforce : (s.axis a).inForce = some g := by simp [Axis.inForce, hdry, hsegs]
  change execSegstart a s = _
  simp [execSegstart, hc, hforce, hst, hsegs, Nat.not_lt.2 hdue]

theorem segstart_says (hc : s.clocked = true) (hdry : (s.axis a).dry = false) (hsegs : (s.axis a).segs = g :: r)
    (hst : g.started = false) (hdue : g.t0.toNat ≤ s.dt.toNat) (hevt : g.evt = true) :
    exec (.segstart a) s = .next (raise (176 + a.val) 0 0 0 g.t0 (s.setAxis a { s.axis a with
      segs := { g with started := true } :: r, cause := 0 })) := by
  rw [exec_segstart hc hdry hsegs hst hdue, if_pos hevt, raiseAxis_setAxis]
  rfl

theorem seam_leaves_dry (hrdy : s.ready islCrank = true) (hdry : (s.axis a).dry = true)
    (hsegs : (s.axis a).segs = g :: r) (hdue : g.t0.toNat ≤ s.dt.toNat) :
    ∃ u, exec (.seam a) s = .next u ∧ (u.axis a).dry = false ∧ (u.axis a).segs = (s.axis a).segs ∧
      (u.axis a).held = (s.axis a).held := by
  have hexec : exec (.seam a) s = .next
      (seamAt a ((s.axis a).held, (s.axis a).heldDen) g (s.setAxis a { s.axis a with dry := false })) := by
    change execSeam a s = _
    simp [execSeam, hrdy, hdry, hsegs, hdue]
  obtain ⟨hs, hd, hh⟩ := model_of_modelOf (modelOf_seamAt (s := s.setAxis a { s.axis a with dry := false })
    ((s.axis a).held, (s.axis a).heldDen) g)
  rw [setAxis_get] at hs hd hh
  exact ⟨_, hexec, hd, hs, hh⟩

theorem seam_follows {f : Segment} (hrdy : s.ready islCrank = true) (hdry : (s.axis a).dry = false)
    (hsegs : (s.axis a).segs = f :: g :: r) (hend : f.heldEnd.toNat ≤ s.dt.toNat) (hmeet : g.t0 = f.heldEnd) :
    ∃ u, exec (.seam a) s = .next u ∧ (u.axis a).dry = false ∧ (u.axis a).segs = g :: r := by
  have hexec : exec (.seam a) s = .next (seamAt a f.endPos g (s.setAxis a
      { s.axis a with segs := g :: r, held := f.endPos.1, heldDen := f.endPos.2 })) := by
    change execSeam a s = _
    simp [execSeam, hrdy, hdry, hsegs, hend, hmeet]
  obtain ⟨hs, hd, -⟩ := model_of_modelOf (modelOf_seamAt
    (s := s.setAxis a { s.axis a with segs := g :: r, held := f.endPos.1, heldDen := f.endPos.2 }) f.endPos g)
  rw [setAxis_get] at hs hd
  exact ⟨_, hexec, hd.trans hdry, hs⟩

theorem dry_holds (hc : s.clocked = true) (hdry : (s.axis a).dry = false) (hsegs : (s.axis a).segs = [g])
    (hend : g.heldEnd.toNat ≤ s.dt.toNat) :
    exec (.dry a) s = .next (raise (176 + a.val) 8 0 0 g.heldEnd (s.setAxis a { s.axis a with
      segs := [], dry := true, cause := 8
      held := g.num (g.heldEnd.toNat - g.t0.toNat : Nat), heldDen := 65536 * g.len ^ 3 })) := by
  have hforce : (s.axis a).inForce = some g := by simp [Axis.inForce, hdry, hsegs]
  have hexec : exec (.dry a) s = .next (raiseAxis a 8 g.heldEnd (s.setAxis a
      { s.axis a with segs := [], dry := true, held := g.endPos.1, heldDen := g.endPos.2 })) := by
    change execDry a s = _
    simp [execDry, hc, hforce, hsegs, hend]
  rw [hexec, raiseAxis_setAxis]
  rfl

end

/-! ### A clear (R192, R193) -/

/-- An axis emptied of segments, but for those that its cycle, the one of the clear, brought. -/
def emptied (cycle : Option Nat) (a : AxisId) (s : State) : State :=
  s.setAxis a { s.axis a with
    segs := (s.axis a).segs.filter (fun g => cycle == some g.cycle), dry := true, held := 0, heldDen := 1 }

/-- A clear that finds no target waiting or in the solver ends none. -/
theorem clearAxis_of_idle (cycle : Option Nat) (h : ∀ g ∈ (s.axis a).tgts, g.st = .posted ∨ g.st = .noTime) :
    clearAxis cycle a s = emptied cycle a s := by
  refine List.foldlRecOn (motive := fun t => t = emptied cycle a s) _ _ rfl fun t ht g hg => ?_
  rcases h g hg with hst | hst
  · simp only [hst, ht]
  · simp only [hst, ht]

theorem axisClear_empties (hr : s.hostReach = true) (h : ∀ g ∈ (s.axis a).tgts, g.st = .posted ∨ g.st = .noTime) :
    exec (.axisClear a) s = .next (s.setAxis a { s.axis a with
      segs := (s.axis a).segs.filter (fun g => s.clocked && slotOf s.dt == g.cycle)
      dry := true, held := 0, heldDen := 1 }) := by
  have hcycle (g : Segment) :
      ((if s.clocked then some (slotOf s.dt) else none) == some g.cycle) = (s.clocked && slotOf s.dt == g.cycle) := by
    cases s.clocked <;> simp
  change execAxisClear a s = _
  rw [execAxisClear, byHost_of_reach hr, clearAxis_of_idle _ h]
  simp only [emptied, hcycle]

/-! ### Targets (R186 to R191) -/

section
variable {g : Target} {r : List Target}

/-- An axis whose oldest target has entered, its search starting now. -/
def entered (a : AxisId) (g : Target) (r : List Target) (s : State) : State :=
  s.setAxis a { s.axis a with tgts := { g with st := .waiting s.dt } :: r }

theorem entered_tgts : ((entered a g r s).axis a).tgts = { g with st := .waiting s.dt } :: r :=
  congrArg Axis.tgts (setAxis_get ..)

/-- CK_AX_CFG.DIR rules a position out where the axis has already passed it (R186). -/
def ruledOut (s : State) (a : AxisId) (g : Target) : Prop :=
  (s.axCfg a 12 2 = 1 ∧ g.pos * ((s.axis a).posAt s.dt).2 < ((s.axis a).posAt s.dt).1) ∨
    (s.axCfg a 12 2 = 2 ∧ ((s.axis a).posAt s.dt).1 < g.pos * ((s.axis a).posAt s.dt).2)

section
variable (hrdy : s.ready islCrank = true) (hrec : s.crank.recIn = []) (htgts : (s.axis a).tgts = g :: r)
  (hst : g.st = .posted)
include hrdy hrec htgts hst

theorem targetEntry_searches (h : ¬ ruledOut s a g) :
    exec (.targetEntry a) s = .next (searchTarget a s.dt { g with st := .waiting s.dt } (entered a g r s)) := by
  have hfind : (g :: r).find? (fun g => g.st == .posted) = some g := List.find?_cons_of_pos (by simp [hst])
  change execTargetEntry a s = _
  simp only [execTargetEntry, hrdy, hrec, htgts, hfind, modAxis_eq, modFirst_head]
  exact congrArg _ (if_neg h)

theorem targetEntry_ends (h : ruledOut s a g) :
    exec (.targetEntry a) s = .next (noTime a { g with st := .waiting s.dt } 14 s.dt (entered a g r s)) := by
  have hfind : (g :: r).find? (fun g => g.st == .posted) = some g := List.find?_cons_of_pos (by simp [hst])
  change execTargetEntry a s = _
  simp only [execTargetEntry, hrdy, hrec, htgts, hfind, modAxis_eq, modFirst_head]
  exact congrArg _ (if_pos h)

theorem targetEntry_passed (h : ruledOut s a g) :
    exec (.targetEntry a) s = .next (raise (176 + a.val) 14 0 0 s.dt (s.setAxis a { s.axis a with
      tgts := { g with st := .noTime } :: r, noTime := (s.axis a).noTime + 1, cause := 14 })) := by
  rw [targetEntry_ends hrdy hrec htgts hst h, noTime_head entered_tgts]
  simp [entered]

variable (hdir : s.axCfg a 12 2 = 0)
include hdir

theorem targetEntry_waits (hsegs : (s.axis a).segs = []) :
    exec (.targetEntry a) s = .next (s.setAxis a { s.axis a with tgts := { g with st := .waiting s.dt } :: r }) := by
  rw [targetEntry_searches hrdy hrec htgts hst (by simp [ruledOut, hdir]),
    searchTarget_waits entered_tgts (by simp [entered, hsegs, searchFrom])]
  simp [entered]

theorem targetEntry_solves {d : DT}
    (hf : searchFrom s.dt.toNat g.pos (s.axis a).segs ((s.axis a).held, (s.axis a).heldDen) = .time d) :
    exec (.targetEntry a) s = .next (s.setAxis a { s.axis a with tgts := { g with st := .solving s.dt d false } :: r }) := by
  rw [targetEntry_searches hrdy hrec htgts hst (by simp [ruledOut, hdir]),
    searchTarget_solves entered_tgts (by simpa [entered] using hf)]
  simp [entered]

end

section
variable {x d : DT} {again : Bool} (hc : s.clocked = true) (htgts : (s.axis a).tgts = g :: r)
include hc htgts

theorem exec_solveComplete (hst : g.st = .solving x d again) : exec (.solveComplete a) s = .next (
    if again then searchTarget a x g s
    else if dtLe (dtAdd (s.replica islCrank) 409600) d then s.setAxis a { s.axis a with
      tgts := { g with st := .time d } :: r, solved := (s.axis a).solved + 1
      lastDt := if (s.axis a).lastDt.toNat < d.toNat then d else (s.axis a).lastDt }
    else noTime a g 12 x s) := by
  change execSolveComplete a s = _
  simp only [execSolveComplete, hc, htgts, List.findSome?_cons, hst, modAxis_eq, modFirst_head, Bool.not_true,
    Bool.false_eq_true, if_false]

theorem solveComplete_late (hst : g.st = .solving x d false)
    (hlate : dtLe (dtAdd (s.replica islCrank) 409600) d = false) :
    exec (.solveComplete a) s = .next (raise (176 + a.val) 12 0 0 x (s.setAxis a { s.axis a with
      tgts := { g with st := .noTime } :: r, noTime := (s.axis a).noTime + 1, cause := 12 })) := by
  rw [exec_solveComplete hc htgts hst, hlate, noTime_head htgts]
  rfl

end

theorem targetTimeout_ends {x : DT} (hrdy : s.ready islCrank = true) (htgts : (s.axis a).tgts = g :: r)
    (hst : g.st = .waiting x) (hdue : dtLe (dtAdd x (s.axTmo a)) s.dt = true) :
    exec (.targetTimeout a) s = .next (raise (176 + a.val) 13 0 0 x (s.setAxis a { s.axis a with
      tgts := { g with st := .noTime } :: r, noTime := (s.axis a).noTime + 1, cause := 13 })) := by
  have hexec : exec (.targetTimeout a) s = .next (noTime a g 13 x s) := by
    change execTargetTimeout a s = _
    simp only [execTargetTimeout, hrdy, htgts, List.findSome?_cons, hst, hdue]
    rfl
  rw [hexec, noTime_head htgts]
  rfl

end

/-- Settles O35: each clause is what the command does in the case that the clause names. -/
theorem crankSegmentsComplete : Obligations.CrankSegmentsComplete := by
  unfold Obligations.CrankSegmentsComplete
  refine ⟨fun _ a hr hst => (exec_segmentGo a hr).trans (congrArg _ (if_neg hst)),
    fun _ a hr hst => (exec_segmentGo a hr).trans (congrArg _ (if_pos hst)),
    fun _ _ _ hrdy hrec hsrc hsel hbad hlead hroom => segmentRecord_host_accepts hrdy hrec hsrc hsel hbad hlead hroom,
    fun _ _ _ _ _ _ hrdy hrec hsrc haxes hbad hlead hroom =>
      segmentRecord_frame_accepts hrdy hrec hsrc haxes hbad hlead hroom,
    fun _ _ _ _ _ hrdy hrec hsrc haxes => exec_segmentRecord_unmapped hrdy hrec hsrc haxes,
    fun _ _ _ _ hrdy hrec hsrc hcheck => segmentRecord_host_refuses hrdy hrec hsrc hcheck,
    fun _ _ _ _ hc ⟨hdry, hsegs⟩ ⟨hst, hdue⟩ hevt => segstart_says hc hdry hsegs hst hdue hevt,
    fun _ _ _ _ hc ⟨hdry, hsegs⟩ ⟨hst, hdue⟩ hevt =>
      (exec_segstart hc hdry hsegs hst hdue).trans (congrArg _ (if_neg (by simp [hevt]))),
    fun _ _ _ _ hrdy ⟨hdry, hsegs⟩ hdue => seam_leaves_dry hrdy hdry hsegs hdue,
    fun _ _ _ _ _ hrdy ⟨hdry, hsegs⟩ ⟨hend, hmeet⟩ => seam_follows hrdy hdry hsegs hend hmeet,
    fun _ _ _ hc ⟨hdry, hsegs⟩ hend => dry_holds hc hdry hsegs hend,
    fun _ _ hr h => axisClear_empties hr h,
    fun _ _ _ _ ⟨hrdy, hrec⟩ ⟨htgts, hst⟩ hdir hsegs => targetEntry_waits hrdy hrec htgts hst hdir hsegs,
    fun _ _ _ _ _ ⟨hrdy, hrec⟩ ⟨htgts, hst⟩ hdir hf => targetEntry_solves hrdy hrec htgts hst hdir hf,
    fun _ _ _ _ _ _ hc ⟨htgts, hst⟩ hlead =>
      (exec_solveComplete hc htgts hst).trans (congrArg _ ((if_neg Bool.false_ne_true).trans (if_pos hlead))),
    fun _ _ _ _ _ _ hc ⟨htgts, hst⟩ hlate => solveComplete_late hc htgts hst hlate,
    fun _ _ _ _ _ hrdy ⟨htgts, hst⟩ hdue => targetTimeout_ends hrdy htgts hst hdue,
    fun _ _ _ _ _ _ hc ⟨htgts, hst⟩ => (exec_solveComplete hc htgts hst).trans (congrArg _ (if_pos rfl)),
    fun _ _ _ _ _ ⟨hrdy, hrec⟩ ⟨htgts, hst⟩ hp h => targetEntry_passed hrdy hrec htgts hst (by subst hp; exact h)⟩

end Sys2Proof.Proofs
end

section
/-! The operations that Truing's commands share (O36 to O38): what each leaves of its item, of its spoke's run, and of the
occurrences on their way. -/

namespace Sys2Proof.Proofs

open Sys2Proof.Machine Sys2Proof.Laws

variable {s : State}

/-! ### Items and requests -/

@[simp] theorem spokeId_itemOf (i : SpokeId) : Fin.ofNat 64 (itemOf i).val = i := Fin.ext (Nat.mod_eq_of_lt i.isLt)

theorem setReq_self (s : State) (i : SpokeId) : s.setReq i (s.req i) = s := by
  simp [State.setReq, State.req, Vector.get]

/-- Truing's mark of trims that no slot of its store holds, put or taken away. -/
def setDirty (d : Bool) (s : State) : State := { s with truing := { s.truing with dirty := d } }

@[simp] theorem setDirty_item (d : Bool) (s : State) (it : ItemId) : (setDirty d s).item it = s.item it := rfl
@[simp] theorem setDirty_temp (d : Bool) (s : State) : (setDirty d s).temp = s.temp := rfl
@[simp] theorem setDirty_dirty (d : Bool) (s : State) : (setDirty d s).truing.dirty = d := rfl

@[simp] theorem setItem_temp (s : State) (it : ItemId) (x : TruItem) : (s.setItem it x).temp = s.temp := rfl
@[simp] theorem raise_temp (e c d a : Nat) (dt : DT) (s : State) : (raise e c d a dt s).temp = s.temp := by
  rw [State.temp, raise_dyn, State.temp]

/-! ### An item's status (R205, R206) -/

/-- An item whose status has been tested at a die temperature. -/
def settled (t : Int) (x : TruItem) : TruItem := { x.noteSlew with cause := BitVec.ofNat 8 (causeOf x.noteSlew t) }

@[simp] theorem settled_runCode (t : Int) (x : TruItem) : (settled t x).runCode = x.runCode := rfl
@[simp] theorem settled_tempRun (t : Int) (x : TruItem) : (settled t x).tempRun = x.tempRun := rfl
@[simp] theorem settled_trims (t : Int) (x : TruItem) : (settled t x).trims = x.trims := rfl
@[simp] theorem settled_target (t : Int) (x : TruItem) : (settled t x).target = x.target := rfl
@[simp] theorem settled_stepAt (t : Int) (x : TruItem) : (settled t x).stepAt = x.stepAt := rfl

section
variable (it : ItemId) (d : DT) (s : State)

/-- A test of an item's status writes the item, and raises where its cause has changed. -/
theorem settle_eq : settle it d s =
    if (s.item it).cause.toNat = causeOf (s.item it).noteSlew s.temp then s.setItem it (settled s.temp (s.item it))
    else raise (if it.val < 64 then 228 else 229) (causeOf (s.item it).noteSlew s.temp) it.val 0 d
      (s.setItem it (settled s.temp (s.item it))) := rfl

@[simp] theorem settle_item : (settle it d s).item it = settled s.temp (s.item it) := by
  rw [settle_eq]
  split <;> simp

@[simp] theorem settle_req (i : SpokeId) : (settle it d s).req i = s.req i := by
  rw [settle_eq]
  split <;> simp

@[simp] theorem settle_spoke (i : SpokeId) : (settle it d s).spoke i = s.spoke i := by
  rw [settle_eq]
  split <;> simp

@[simp] theorem settle_dirty : (settle it d s).truing.dirty = s.truing.dirty := by
  rw [settle_eq]
  split <;> simp

theorem mem_occs_settle {o : Occ} (h : o ∈ s.occs) : o ∈ (settle it d s).occs := by
  rw [settle_eq]
  split
  · exact h
  · exact mem_raise h

end

/-! ### Reports (R370) -/

/-- An occurrence timed now that its channel has room for sets out. -/
theorem mem_occs_raiseNow {n : Nat} (hn : n < 256) (c d a : Nat) (h : s.evFull n = false) :
    ⟨Fin.ofNat 256 n, causeWord c d a, s.now, s.outage⟩ ∈ (raiseNow n c d a s).occs := by
  have hval : (Fin.ofNat 256 n).val = n := Nat.mod_eq_of_lt hn
  rw [raiseNow, (raiseAs_of_room (hval.symm ▸ h)).1]
  exact List.mem_append_right _ (List.mem_singleton.2 rfl)

/-! ### Hit sources and bursts (R198, R199, R208, R209) -/

/-- The hub source connects its interpolator, and touches nothing else of any item. -/
theorem connectPi_item (s : State) (it : ItemId) : ∃ f, (connectPi s).item it = { s.item it with hitFrom := f } := by
  unfold connectPi
  dsimp only
  split
  · by_cases hit : it = Fin.ofNat 68 (64 + s.truing.turn[8] % 4)
    · subst hit
      exact ⟨_, setItem_get ..⟩
    · exact ⟨_, setItem_get_ne _ _ _ _ hit⟩
  · exact ⟨_, rfl⟩

@[simp] theorem connectPi_req (s : State) (i : SpokeId) : (connectPi s).req i = s.req i := by
  unfold connectPi
  dsimp only
  split <;> rfl

theorem stopHits_item {it : ItemId} {f : Nat} (h : (s.item it).hitFrom = some f) : (stopHits it s).item it =
    { s.item it with hitTime := (s.item it).hitTime + (s.dt.toNat - f), hitFrom := none } := by
  simp [stopHits, h]

@[simp] theorem stopHits_req (it : ItemId) (s : State) (i : SpokeId) : (stopHits it s).req i = s.req i := rfl

theorem stopBurst_req (i : SpokeId) (s : State) : (stopBurst i s).req i = { s.req i with burst := none } := by
  unfold stopBurst
  split
  · simp
  · next h => rw [← Option.not_isSome_iff_eq_none.1 h]

theorem stopBurst_req_ne {i j : SpokeId} (h : j ≠ i) (s : State) : (stopBurst i s).req j = s.req j := by
  unfold stopBurst
  split
  · simp [h]
  · rfl

/-! ### Histograms that end (R199, R210, R224) -/

/-- A histogram's hits are through: a source that ran slowly is said so, and the hit time starts anew (R199, R224). -/
def histEnded (it : ItemId) (s : State) : State := endHist it (sayRateLow it s)

section
variable (it : ItemId) (s : State)

theorem endHist_item : ∃ f, (endHist it s).item it = { s.item it with hitTime := 0, hitFrom := f } := by
  unfold endHist
  dsimp only
  split
  · exact ⟨_, setItem_get ..⟩
  · exact (connectPi_item _ it).imp fun f hf =>
      hf.trans (congrArg (fun x : TruItem => { x with hitFrom := f }) (setItem_get s it _))

@[simp] theorem endHist_req (i : SpokeId) : (endHist it s).req i = s.req i := by
  unfold endHist
  dsimp only
  split
  · rfl
  · exact connectPi_req ..

@[simp] theorem endHist_temp : (endHist it s).temp = s.temp :=
  (congrArg State.temp (outside_endHist (pt := { truing := true }) it s rfl) :)

@[simp] theorem sayRateLow_truing : (sayRateLow it s).truing = s.truing := by
  unfold sayRateLow
  split <;> simp

@[simp] theorem sayRateLow_temp : (sayRateLow it s).temp = s.temp := by
  unfold sayRateLow
  split <;> simp

theorem histEnded_item : ∃ f, (histEnded it s).item it = { s.item it with hitTime := 0, hitFrom := f } := by
  obtain ⟨f, hf⟩ := endHist_item it (sayRateLow it s)
  exact ⟨f, by rw [histEnded, hf, State.item, sayRateLow_truing, State.item]⟩

@[simp] theorem histEnded_req (i : SpokeId) : (histEnded it s).req i = s.req i := by
  rw [histEnded, endHist_req, State.req, sayRateLow_truing, State.req]

@[simp] theorem histEnded_temp : (histEnded it s).temp = s.temp := by simp [histEnded]

@[simp] theorem rejectHist_item (c : Nat) :
    (rejectHist it c s).item it = { s.item it with reject := (s.item it).reject + 1 } := by
  unfold rejectHist
  dsimp only
  split <;> simp

end

end Sys2Proof.Proofs
end

section
/-! O36: histograms, their results, trim steps and bursts (R199 to R203, R208, R210). -/

namespace Sys2Proof.Proofs

open Sys2Proof.Machine Sys2Proof.Laws

variable {s : State}

/-! ### Results (R200 to R202) -/

/-- The item of a pair that agrees: its wanted trims held in range, and its temperature record renewed. -/
def acceptedItem (t : Int) (a b : List Nat) (x : TruItem) : TruItem :=
  { x with
    loaded := true, target := (wantedTrims x.trims a b).map holdTrim, range := (wantedTrims x.trims a b).any outOfRange
    tempRes := t, accept := x.accept + 1 }

/-- RANGE is said of a result that is out of range (R202, R210). -/
def sayRange (it : ItemId) (out : Bool) (s : State) : State :=
  if out && bit (s.act 0x4000) 2 then raise 231 6 it.val 0 s.dt s else s

@[simp] theorem sayRange_item (it j : ItemId) (out : Bool) (s : State) : (sayRange it out s).item j = s.item j := by
  unfold sayRange
  split <;> simp

@[simp] theorem sayRange_temp (it : ItemId) (out : Bool) (s : State) : (sayRange it out s).temp = s.temp := by
  unfold sayRange
  split <;> simp

theorem acceptPair_eq (it : ItemId) (a b : List Nat) (s : State) : ∃ d, acceptPair it a b s =
    settle it s.dt (setDirty d (sayRange it ((wantedTrims (s.item it).trims a b).any outOfRange)
      (s.setItem it (acceptedItem s.temp a b (s.item it))))) := ⟨_, rfl⟩

theorem acceptPair_item (it : ItemId) (a b : List Nat) (s : State) :
    (acceptPair it a b s).item it = settled s.temp (acceptedItem s.temp a b (s.item it)) := by
  obtain ⟨d, heq⟩ := acceptPair_eq it a b s
  simp [heq]

/-- An item keeps a histogram for the pair that the next one makes. -/
def keepHist (it : ItemId) (c : List Nat) (s : State) : State := s.setItem it { s.item it with prev := some c }

/-- A whole background histogram makes a pair with the one before it, if there is one. -/
def pairHist (it : ItemId) (prev : Option (List Nat)) (c : List Nat) (s : State) : State :=
  match prev with
  | none => s
  | some a => if agree a c then acceptPair it a c s else rejectHist it 4 s

/-! ### Histograms that are complete or late (R199 to R201, R210) -/

section
variable {it : ItemId} {f : Nat} (hc : s.clocked = true) (hf : (s.item it).hitFrom = some f)
include hc hf

theorem exec_histogramComplete (c : List Nat) : exec (.histogramComplete it c) s = .next (
    if it.val < 64 ∧ (s.req (Fin.ofNat 64 it.val)).st = 2 then
      runHist (Fin.ofNat 64 it.val) c (hitLimit < s.hits it) (histEnded it s)
    else if boundBroken c then rejectHist it 5 (histEnded it s)
    else if hitLimit < s.hits it then rejectHist it 7 (histEnded it s)
    else pairHist it (s.item it).prev c (keepHist it c (histEnded it s))) := by
  change execHistogramComplete it c s = _
  simp only [execHistogramComplete, hc, hf, Bool.not_true, Option.isNone_some, Bool.or_self, Bool.false_eq_true, if_false,
    decide_eq_true_eq]
  rfl

theorem exec_histogramTimeout (hlim : hitLimit ≤ s.hits it) : exec (.histogramTimeout it) s = .next (
    if it.val < 64 ∧ (s.req (Fin.ofNat 64 it.val)).st = 2 then (endHist it s).modReq (Fin.ofNat 64 it.val) fun r =>
      { r with fail := some (r.fail.getD 7) }
    else rejectHist it 7 (endHist it s)) := by
  change execHistogramTimeout it s = _
  simp only [execHistogramTimeout, hc, hf, Bool.not_true, Option.isNone_some, Nat.not_lt.2 hlim, decide_false, Bool.or_self,
    Bool.false_eq_true, if_false]

/-! #### In the background -/

section
variable (hbg : it.val < 64 → (s.req (Fin.ofNat 64 it.val)).st ≠ 2)
include hbg

theorem histogramTimeout_rejects (hlim : hitLimit ≤ s.hits it) :
    ∃ u, exec (.histogramTimeout it) s = .next u ∧ (u.item it).reject = (s.item it).reject + 1 ∧
      (u.item it).hitTime = 0 ∧ (u.item it).prev = (s.item it).prev ∧ (u.item it).trims = (s.item it).trims := by
  obtain ⟨g, hitem⟩ := endHist_item it s
  rw [exec_histogramTimeout hc hf hlim, if_neg fun ⟨hlt, hst⟩ => hbg hlt hst]
  exact ⟨_, rfl, by simp [hitem]⟩

variable {c : List Nat}

theorem histogramComplete_rejects (h : boundBroken c = true ∨ hitLimit < s.hits it) :
    ∃ u, exec (.histogramComplete it c) s = .next u ∧ (u.item it).reject = (s.item it).reject + 1 ∧
      (u.item it).prev = (s.item it).prev ∧ (u.item it).trims = (s.item it).trims ∧
        (u.item it).target = (s.item it).target ∧ (u.item it).accept = (s.item it).accept := by
  obtain ⟨g, hitem⟩ := histEnded_item it s
  rw [exec_histogramComplete hc hf, if_neg fun ⟨hlt, hst⟩ => hbg hlt hst]
  by_cases hbound : boundBroken c = true
  · rw [if_pos hbound]
    exact ⟨_, rfl, by simp [hitem]⟩
  · rw [if_neg hbound, if_pos (h.resolve_left hbound)]
    exact ⟨_, rfl, by simp [hitem]⟩

variable (hbound : boundBroken c = false) (hlim : s.hits it ≤ hitLimit)
include hbound hlim

/-- A whole histogram of the background, complete in time, is kept, and is held against the one before it. -/
theorem histogramComplete_pairs : exec (.histogramComplete it c) s =
    .next (pairHist it (s.item it).prev c (keepHist it c (histEnded it s))) := by
  rw [exec_histogramComplete hc hf, if_neg fun ⟨hlt, hst⟩ => hbg hlt hst, if_neg (by simp [hbound]),
    if_neg (Nat.not_lt.2 hlim)]

theorem histogramComplete_keeps (hprev : (s.item it).prev = none) :
    ∃ u, exec (.histogramComplete it c) s = .next u ∧ (u.item it).prev = some c ∧
      (u.item it).reject = (s.item it).reject ∧
      (u.item it).target = (s.item it).target ∧ (u.item it).accept = (s.item it).accept := by
  obtain ⟨g, hitem⟩ := histEnded_item it s
  rw [histogramComplete_pairs hc hf hbg hbound hlim, hprev]
  exact ⟨_, rfl, by simp [pairHist, keepHist, hitem]⟩

theorem histogramComplete_accepts {a : List Nat} (hprev : (s.item it).prev = some a) (hagree : agree a c = true) :
    ∃ u, exec (.histogramComplete it c) s = .next u ∧ (u.item it).prev = some c ∧ (u.item it).loaded = true ∧
      (u.item it).accept = (s.item it).accept + 1 ∧ (u.item it).tempRes = s.temp ∧
      (u.item it).reject = (s.item it).reject ∧
      (u.item it).target = (wantedTrims (s.item it).trims a c).map holdTrim ∧ (u.item it).trims = (s.item it).trims := by
  obtain ⟨g, hitem⟩ := histEnded_item it s
  have htemp : (keepHist it c (histEnded it s)).temp = s.temp := histEnded_temp it s
  rw [histogramComplete_pairs hc hf hbg hbound hlim, hprev]
  refine ⟨_, rfl, ?_⟩
  rw [pairHist, if_pos hagree, acceptPair_item, htemp, keepHist, setItem_get, hitem]
  exact ⟨rfl, rfl, rfl, rfl, rfl, rfl, rfl⟩

theorem histogramComplete_disagrees {a : List Nat} (hprev : (s.item it).prev = some a) (hagree : agree a c = false) :
    ∃ u, exec (.histogramComplete it c) s = .next u ∧ (u.item it).prev = some c ∧
      (u.item it).reject = (s.item it).reject + 1 ∧ (u.item it).accept = (s.item it).accept ∧
      (u.item it).target = (s.item it).target ∧ (u.item it).trims = (s.item it).trims := by
  obtain ⟨g, hitem⟩ := histEnded_item it s
  rw [histogramComplete_pairs hc hf hbg hbound hlim, hprev]
  exact ⟨_, rfl, by simp [pairHist, keepHist, hagree, hitem]⟩

end

end

/-! #### In a full run -/

section
variable {i : SpokeId} {c : List Nat} {f : Nat} (hc : s.clocked = true) (hf : (s.item (itemOf i)).hitFrom = some f)
  (hst : (s.req i).st = 2)
include hc hf hst

theorem histogramTimeout_fails (hlim : hitLimit ≤ s.hits (itemOf i)) :
    ∃ u, exec (.histogramTimeout (itemOf i)) s = .next u ∧
      u.req i = { s.req i with fail := some ((s.req i).fail.getD 7) } ∧ (u.item (itemOf i)).hitTime = 0 := by
  obtain ⟨g, hitem⟩ := endHist_item (itemOf i) s
  rw [exec_histogramTimeout hc hf hlim, spokeId_itemOf, if_pos ⟨i.isLt, hst⟩]
  exact ⟨_, rfl, by simp, by simp [hitem]⟩

theorem histogramComplete_run : exec (.histogramComplete (itemOf i) c) s =
    .next (runHist i c (hitLimit < s.hits (itemOf i)) (histEnded (itemOf i) s)) := by
  rw [exec_histogramComplete hc hf, spokeId_itemOf, if_pos ⟨i.isLt, hst⟩]

theorem histogramComplete_runFirst (ha : (s.req i).histA = none) :
    ∃ u, exec (.histogramComplete (itemOf i) c) s = .next u ∧
      u.req i = { s.req i with
      histA := some c
      fail := if boundBroken c then some ((s.req i).fail.getD 5)
        else if hitLimit < s.hits (itemOf i) then some ((s.req i).fail.getD 7) else (s.req i).fail } := by
  refine ⟨_, histogramComplete_run hc hf hst, ?_⟩
  simp [runHist, ha]

theorem histogramComplete_runSecond {a : List Nat} (ha : (s.req i).histA = some a) (hfail : (s.req i).fail = none)
    (hbound : boundBroken c = false) (hlim : s.hits (itemOf i) ≤ hitLimit) :
    ∃ u, exec (.histogramComplete (itemOf i) c) s = .next u ∧
      u.req i = { s.req i with
      histB := some c
      fail := if agree a c = false then some 4
        else if (wantedTrims (s.item (itemOf i)).trims a c).any outOfRange then some 6 else none } ∧
      (u.item (itemOf i)).hitFrom = none ∧ (u.item (itemOf i)).trims = (s.item (itemOf i)).trims := by
  obtain ⟨g, hitem⟩ := histEnded_item (itemOf i) s
  refine ⟨_, histogramComplete_run hc hf hst, ?_⟩
  simp [runHist, ha, hfail, hbound, Nat.not_lt.2 hlim, hitem]

end

/-! ### Trim steps (R203) -/

section
variable {it : ItemId} {k : Fin 4096}

/-- The steps of an item's trims in the last millisecond. -/
def recentSteps (s : State) (it : ItemId) : List (Nat × Nat) :=
  (s.item it).stepAt.filter fun p => s.clock < p.2 + 4096000000

/-- An item with one trim moved by one step toward its wanted value. -/
def steppedItem (s : State) (it : ItemId) (k : Fin 4096) : TruItem :=
  { s.item it with
    trims := (if (s.item it).trims.isEmpty then List.replicate 4096 0 else (s.item it).trims).set k.val
      (if trimAt (s.item it).trims k.val < trimAt (s.item it).target k.val then trimAt (s.item it).trims k.val + 1
        else trimAt (s.item it).trims k.val - 1)
    stepAt := (k.val, s.clock) :: recentSteps s it }

theorem exec_trimStep (it : ItemId) (k : Fin 4096) (s : State) : exec (.trimStep it k) s = .next (
    if !s.clocked || s.dt.toNat % 4096 != 0 || trimAt (s.item it).trims k.val == trimAt (s.item it).target k.val ||
        (recentSteps s it).any (fun p => p.1 == k.val || p.2 == s.clock) || s.tapInUse it k.val ||
        (it.val < 64 && (s.req (Fin.ofNat 64 it.val)).st == 2) then s
    else settle it s.dt (setDirty true (s.setItem it (steppedItem s it k)))) := rfl

theorem trimStep_steps (hc : s.clocked = true) (hedge : s.dt.toNat % 4096 = 0)
    (hne : trimAt (s.item it).trims k.val ≠ trimAt (s.item it).target k.val)
    (hrecent : ∀ p ∈ (s.item it).stepAt, (p.1 = k.val → p.2 + 4096000000 ≤ s.clock) ∧ p.2 ≠ s.clock)
    (htap : s.tapInUse it k.val = false) (hbg : it.val < 64 → (s.req (Fin.ofNat 64 it.val)).st ≠ 2) :
    exec (.trimStep it k) s = .next (settle it s.dt (setDirty true (s.setItem it (steppedItem s it k)))) := by
  have hnone : (recentSteps s it).any (fun p => p.1 == k.val || p.2 == s.clock) = false := by
    simp only [List.any_eq_false, recentSteps, List.mem_filter, decide_eq_true_eq]
    intro p ⟨hp, hlate⟩
    obtain ⟨htime, hclock⟩ := hrecent p hp
    have hk : p.1 ≠ k.val := fun h => absurd (htime h) (Nat.not_le.2 hlate)
    simp [hk, hclock]
  have hrun : (decide (it.val < 64) && (s.req (Fin.ofNat 64 it.val)).st == 2) = false := by
    simpa only [Bool.and_eq_false_imp, decide_eq_true_eq, beq_eq_false_iff_ne] using hbg
  rw [exec_trimStep, hc, hnone, htap, hrun, hedge, beq_false_of_ne hne]
  rfl

theorem trimStep_waits (h : s.dt.toNat % 4096 ≠ 0 ∨ s.tapInUse it k.val = true ∨
      trimAt (s.item it).trims k.val = trimAt (s.item it).target k.val ∨
      ∃ p ∈ (s.item it).stepAt, (p.1 = k.val ∨ p.2 = s.clock) ∧ s.clock < p.2 + 4096000000) :
    exec (.trimStep it k) s = .next s := by
  rw [exec_trimStep]
  refine congrArg _ (if_pos ?_)
  rcases h with hedge | htap | heq | ⟨p, hp, hk, hlate⟩
  · simp [hedge]
  · simp [htap]
  · simp [heq]
  · have hany : (recentSteps s it).any (fun p => p.1 == k.val || p.2 == s.clock) = true :=
      List.any_eq_true.2 ⟨p, List.mem_filter.2 ⟨hp, by simpa using hlate⟩, by simpa using hk⟩
    simp [hany]

end

/-! ### Bursts (R208) -/

/-- A group's source serves next the spoke after `i`. -/
def passTurn (i : SpokeId) (s : State) : State :=
  { s with truing := { s.truing with turn := s.truing.turn.set (i.val / 8) ((i.val + 1) % 8) } }

@[simp] theorem passTurn_req (i j : SpokeId) (s : State) : (passTurn i s).req j = s.req j := rfl
@[simp] theorem passTurn_item (i : SpokeId) (s : State) (it : ItemId) : (passTurn i s).item it = s.item it := rfl
@[simp] theorem passTurn_spoke (i j : SpokeId) (s : State) : (passTurn i s).spoke j = s.spoke j := rfl

theorem passTurn_turn (i : SpokeId) (s : State) :
    (passTurn i s).truing.turn.get ⟨i.val / 8, by omega⟩ = (i.val + 1) % 8 :=
  get_set _ (⟨i.val / 8, by omega⟩ : Fin 9) _

section
variable {i : SpokeId}

theorem burstStart_begins (hidle : s.burstIn (i.val / 8) = false)
    (hnext : s.nextServed ⟨i.val / 8, by omega⟩ = some i) :
    ∃ u, exec (.burstStart i) s = .next u ∧ u.req i = { s.req i with burst := some s.dt } ∧
      (u.item (itemOf i)).hitFrom = some s.dt.toNat ∧ u.truing.turn.get ⟨i.val / 8, by omega⟩ = (i.val + 1) % 8 ∧
      u.spoke i = s.spoke i := by
  have hg : (Fin.ofNat 8 (i.val / 8) : Fin 8) = ⟨i.val / 8, by omega⟩ := Fin.ext (Nat.mod_eq_of_lt (by omega))
  have hexec : exec (.burstStart i) s = .next (passTurn i ((s.setReq i { s.req i with burst := some s.dt }).setItem
      (itemOf i) { s.item (itemOf i) with hitFrom := some s.dt.toNat })) := by
    change execBurstStart i s = _
    simp only [execBurstStart, hg, hidle, hnext, Bool.not_false, beq_self_eq_true, Bool.and_self, if_true]
    rfl
  exact ⟨_, hexec, by simp, by simp, passTurn_turn .., by simp⟩

theorem burstEnd_stops {b : DT} {f : Nat} (hb : (s.req i).burst = some b) (hc : s.clocked = true)
    (hdue : dtLe (s.burstEnd i b) s.dt = true) (hf : (s.item (itemOf i)).hitFrom = some f) :
    ∃ u, exec (.burstEnd i) s = .next u ∧ u.req i = { s.req i with burst := none } ∧
      (u.item (itemOf i)).hitFrom = none ∧
      (u.item (itemOf i)).hitTime = (s.item (itemOf i)).hitTime + (s.dt.toNat - f) := by
  have hexec : exec (.burstEnd i) s = .next (stopBurst i s) := by
    change execBurstEnd i s = _
    simp [execBurstEnd, hb, hc, hdue]
  have hitem : (stopBurst i s).item (itemOf i) = (stopHits (itemOf i) s).item (itemOf i) := by
    simp [stopBurst, hb]
  rw [stopHits_item hf] at hitem
  exact ⟨_, hexec, stopBurst_req i s, by rw [hitem], by rw [hitem]⟩

end

/-- Settles O36: each clause is what the command does in the case that the clause names. -/
theorem truingMeasurementsComplete : Obligations.TruingMeasurementsComplete := by
  unfold Obligations.TruingMeasurementsComplete
  refine ⟨fun _ _ _ _ hc hf hbg h => histogramComplete_rejects hc hf hbg h,
    fun _ _ _ _ hc hf hbg hbound hlim hprev => histogramComplete_keeps hc hf hbg hbound hlim hprev,
    fun _ _ _ _ _ hc hf hbg hbound hlim hprev hagree => histogramComplete_accepts hc hf hbg hbound hlim hprev hagree,
    fun _ _ _ _ _ hc hf hbg hbound hlim hprev hagree => histogramComplete_disagrees hc hf hbg hbound hlim hprev hagree,
    fun _ _ _ _ hc hf ⟨hst, ha⟩ => histogramComplete_runFirst hc hf hst ha,
    fun _ _ _ _ _ hc hf ⟨hst, ha, hfail⟩ hbound hlim => histogramComplete_runSecond hc hf hst ha hfail hbound hlim,
    fun _ _ _ hc hf hlim hbg => histogramTimeout_rejects hc hf hbg hlim,
    fun _ _ _ hc hf hlim hst => histogramTimeout_fails hc hf hst hlim,
    fun s it k hc hedge hne hrecent htap hbg => ⟨_, trimStep_steps hc hedge hne hrecent htap hbg, ?_⟩,
    fun _ _ _ h => trimStep_waits h,
    fun _ _ hidle hnext => burstStart_begins hidle hnext,
    fun _ _ _ _ hb hc hdue hf => burstEnd_stops hb hc hdue hf⟩
  have hitem : (setDirty true (s.setItem it (steppedItem s it k))).item it = steppedItem s it k := setItem_get ..
  rw [settle_item, settle_dirty, hitem, settled_trims, settled_stepAt, settled_target]
  exact ⟨rfl, rfl, rfl, setDirty_dirty ..⟩

end Sys2Proof.Proofs
end

section
/-! O37: full runs (R211 to R216). -/

namespace Sys2Proof.Proofs

open Sys2Proof.Machine Sys2Proof.Laws

variable {s : State} {i : SpokeId}

/-! ### Requests (R211, R212) -/

theorem exec_fullRunRequest (dl : BitVec 20) (hr : s.hostReach = true) : exec (.fullRunRequest i dl) s = .next (
    if (s.req i).st = 1 ∨ (s.req i).st = 2 then
      raiseNow 230 0x10 i.val 0 { s with imm := regPut s.imm (tuReq i) (word (dl.toNat * 4)) }
    else ({ s with imm := regPut s.imm (tuReq i) (word (dl.toNat * 4)) } : State).setReq i { s.req i with
      st := 1, phase := .entry, histA := none, histB := none, fail := none
      deadline := dtAdd s.now ((if dl = 0 then max 1 (fld (s.act 0x4008) 0 20) else dl.toNat) * 4096000000) }) :=
  congrArg Host.Outcome.next (byHost_of_reach hr _)

theorem fullRunRequest_queues (dl : BitVec 20) (hr : s.hostReach = true) (hqueued : (s.req i).st ≠ 1)
    (hruns : (s.req i).st ≠ 2) :
    ∃ u, exec (.fullRunRequest i dl) s = .next u ∧ (u.req i).st = 1 ∧
      (u.req i).deadline =
        dtAdd s.now ((if dl = 0 then max 1 (fld (s.act 0x4008) 0 20) else dl.toNat) * 4096000000) ∧
      (u.req i).outcome = (s.req i).outcome ∧ (u.req i).burst = (s.req i).burst := by
  rw [exec_fullRunRequest dl hr, if_neg (not_or.2 ⟨hqueued, hruns⟩)]
  exact ⟨_, rfl, by simp⟩

theorem fullRunRequest_refused (dl : BitVec 20) (hr : s.hostReach = true) (h : (s.req i).st = 1 ∨ (s.req i).st = 2) :
    ∃ u, exec (.fullRunRequest i dl) s = .next u ∧ u.req i = s.req i ∧
      (s.evFull 230 = false → ⟨230, causeWord 16 i.val 0, s.now, s.outage⟩ ∈ u.occs) := by
  rw [exec_fullRunRequest dl hr, if_pos h]
  exact ⟨_, rfl, raiseNow_req .., fun hroom => mem_occs_raiseNow (by decide) _ _ _ hroom⟩

theorem fullRunWithdraw_withdraws (hr : s.hostReach = true) (hst : (s.req i).st = 1) :
    ∃ u, exec (.fullRunWithdraw i) s = .next u ∧ u.req i = { s.req i with st := 0, outcome := 0x11 } ∧
      (s.evFull 230 = false → ⟨230, causeWord 17 i.val 0, s.now, s.outage⟩ ∈ u.occs) := by
  have hexec : exec (.fullRunWithdraw i) s =
      .next (raiseNow 230 0x11 i.val 0 (s.setReq i { s.req i with st := 0, outcome := 0x11 })) :=
    congrArg Host.Outcome.next ((byHost_of_reach hr _).trans (if_pos hst))
  exact ⟨_, hexec, (raiseNow_req ..).trans (setReq_get ..), fun hroom => mem_occs_raiseNow (by decide) _ _ _ hroom⟩

theorem fullRunWithdraw_ignored (hst : (s.req i).st ≠ 1) : exec (.fullRunWithdraw i) s = .next s := by
  change execFullRunWithdraw i s = _
  simp only [execFullRunWithdraw, byHost, if_neg hst, ite_self]

theorem requestExpired_expires (hc : s.clocked = true) (hst : (s.req i).st = 1)
    (hdue : dtLe (s.req i).deadline s.dt = true) :
    ∃ u, exec (.requestExpired i) s = .next u ∧ u.req i = { s.req i with st := 3, outcome := 0x0A } ∧
      (u.item (itemOf i)).runCode = 0x0A ∧
        (s.evFull 230 = false → ⟨230, causeWord 10 i.val 0, (s.req i).deadline, false⟩ ∈ u.occs) := by
  have hexec : exec (.requestExpired i) s = .next (settle (itemOf i) (s.req i).deadline
      (raise 230 0x0A i.val 0 (s.req i).deadline ((s.setReq i { s.req i with st := 3, outcome := 0x0A }).setItem (itemOf i)
        { s.item (itemOf i) with runCode := 0x0A }))) := by
    change execRequestExpired i s = _
    simp [execRequestExpired, hc, hst, hdue]
  refine ⟨_, hexec, by simp, ?_, fun hroom => mem_occs_settle _ _ _ (mem_occs_raise (by decide) _ _ _ _ hroom)⟩
  rw [settle_item, raise_item, setItem_get]
  rfl

/-! ### The start (R212, R213) -/

/-- Every burst of a spoke's group has stopped. -/
def groupStopped (i : SpokeId) (s : State) : State :=
  forEach 8 (fun k => stopBurst (Fin.ofNat 64 (i.val / 8 * 8 + k.val))) s

theorem groupStopped_req (i : SpokeId) (s : State) : (groupStopped i s).req i = { s.req i with burst := none } := by
  have hself : (Fin.ofNat 64 (i.val / 8 * 8 + i.val % 8) : SpokeId) = i :=
    Fin.ext (by rw [Nat.div_add_mod']; exact Nat.mod_eq_of_lt i.isLt)
  refine forEach_at (p := fun t => t.req i) (i := ⟨i.val % 8, by omega⟩) (g := fun r : TruReq => { r with burst := none })
    (fun t => ?_) (fun k hk t => stopBurst_req_ne (fun h => hk ?_) t) s
  · simp only [hself, stopBurst_req]
  · have hval : i.val = (i.val / 8 * 8 + k.val) % 64 := congrArg Fin.val h
    have hlt := i.isLt
    exact Fin.ext (show k.val = i.val % 8 by omega)

theorem groupStopped_spoke (i : SpokeId) (s : State) : (groupStopped i s).spoke i = s.spoke i :=
  congrArg (Vector.get · i) (spokes_of_outside (q := { truing := true })
    (outside_forEach _ _ (fun _ _ => outside_stopBurst _ _ rfl) _) rfl)

theorem fullRunStart_starts (hok : s.runOk i = true) (hfirst : s.runFirst i = true) :
    ∃ u, exec (.fullRunStart i) s = .next u ∧
      u.req i = { s.req i with
      st := 2, phase := .entry, x := s.dt, drvX := (s.spoke i).drv, histA := none, histB := none, fail := none
      old := none, burst := none } ∧
      u.spoke i = { (s.spoke i).put s.dt .hiz with capOff := true, capFrom := none } ∧
      (u.item (itemOf i)).hitFrom = none ∧ (u.item (itemOf i)).hitTime = 0 := by
  have hexec : exec (.fullRunStart i) s = .next ((((groupStopped i s).modReq i fun r =>
      { r with st := 2, phase := .entry, x := s.dt, drvX := (s.spoke i).drv, histA := none, histB := none, fail := none
               old := none }).modItem (itemOf i) fun x => { x with hitTime := 0, hitFrom := none }).modSpoke i fun sp =>
      { sp.put s.dt .hiz with capOff := true, capFrom := none }) := by
    change execFullRunStart i s = _
    simp only [execFullRunStart, hok, hfirst, Bool.and_self, if_true]
    rfl
  exact ⟨_, hexec, by simp [groupStopped_req], by simp [groupStopped_spoke], by simp, by simp⟩

theorem fullRunStart_waits (h : s.runOk i = false ∨ s.runFirst i = false) : exec (.fullRunStart i) s = .next s := by
  have hno : ¬ (s.runOk i && s.runFirst i) = true := by
    rcases h with h | h <;> simp [h]
  exact congrArg Host.Outcome.next (if_neg hno)

/-! ### The phases (R213 to R215) -/

theorem runAt_of_phase {ph : RunPhase} {off : Nat} (hc : s.clocked = true) (hst : (s.req i).st = 2)
    (hph : (s.req i).phase = ph) (hdue : dtLe (dtAdd (s.req i).x off) s.dt = true) : s.runAt i ph off = true := by
  simp [State.runAt, hc, hst, hph, hdue]

section
variable (hc : s.clocked = true) (hst : (s.req i).st = 2)
include hc hst

theorem delayPhaseStart_connects (hph : (s.req i).phase = .entry) (hdue : dtLe (dtAdd (s.req i).x 819200000) s.dt = true) :
    ∃ u, exec (.delayPhaseStart i) s = .next u ∧ u.req i = { s.req i with phase := .delay } ∧
      (u.item (itemOf i)).hitFrom = some s.dt.toNat ∧ (u.item (itemOf i)).hitTime = 0 :=
  ⟨_, congrArg Host.Outcome.next (if_pos (runAt_of_phase hc hst hph hdue)), by simp, by simp, by simp⟩

theorem thresholdPhaseStart_judges (uv : Int) (hph : (s.req i).phase = .delay)
    (hdue : dtLe (dtAdd (s.req i).x 36864000000) s.dt = true) :
    ∃ u, exec (.thresholdPhaseStart i uv) s = .next u ∧
      u.req i = { s.req i with
      phase := .threshold, level := uv
      fail := if (s.req i).fail ≠ none then (s.req i).fail else if (s.req i).histB = none then some 7
        else if (if s.diffIn i then uv < -150000 ∨ 150000 < uv else uv < -50000 ∨ 3350000 < uv) then some 9 else none } ∧
      (u.item (itemOf i)).hitFrom = none := by
  refine ⟨_, congrArg Host.Outcome.next (if_pos (runAt_of_phase hc hst hph hdue)), ?_, by simp⟩
  cases hfail : (s.req i).fail with
  | some c => simp [hfail]
  | none =>
    cases hb : (s.req i).histB with
    | none => simp [hfail, hb]
    | some b => cases s.diffIn i <;> simp [hfail, hb]

theorem thresholdSample_judges (uv : Int) (hph : (s.req i).phase = .threshold) :
    exec (.thresholdSample i uv) s = .next (s.setReq i { s.req i with
      fail := if (if s.diffIn i then 25000 else 150000) < (uv - (s.req i).level).natAbs then some ((s.req i).fail.getD 8)
        else (s.req i).fail }) := by
  by_cases hdrift : (if s.diffIn i then 25000 else 150000) < (uv - (s.req i).level).natAbs
  · rw [if_pos hdrift]
    exact congrArg Host.Outcome.next (if_pos (by simp [hc, hst, hph, hdrift]))
  · rw [if_neg hdrift]
    exact congrArg Host.Outcome.next ((if_neg (by simp [hdrift])).trans (setReq_self s i).symm)

section
variable {thr : Int} (hph : (s.req i).phase = .threshold) (hdue : dtLe (dtAdd (s.req i).x 49152000000) s.dt = true)
include hph hdue

theorem applyPhaseStart_applies {a b : List Nat} (hfail : (s.req i).fail = none) (ha : (s.req i).histA = some a)
    (hb : (s.req i).histB = some b) (hthr : thrOk (s.diffIn i) (s.req i).level thr = true) :
    ∃ u, exec (.applyPhaseStart i thr) s = .next u ∧ (u.req i).phase = .apply_ ∧ (u.item (itemOf i)).thr = thr ∧
      (u.item (itemOf i)).loaded = true ∧ (u.req i).fail = none ∧
      (u.item (itemOf i)).trims = (wantedTrims (s.item (itemOf i)).trims a b).map holdTrim := by
  refine ⟨_, congrArg Host.Outcome.next (if_pos (runAt_of_phase hc hst hph hdue)), ?_⟩
  simp [hfail, ha, hb, hthr]

theorem applyPhaseStart_fails (h : (s.req i).fail ≠ none ∨ thrOk (s.diffIn i) (s.req i).level thr = false) :
    exec (.applyPhaseStart i thr) s =
      .next (s.setReq i { s.req i with phase := .apply_, fail := some ((s.req i).fail.getD 6), old := none }) := by
  refine congrArg Host.Outcome.next ((if_pos (runAt_of_phase hc hst hph hdue)).trans ?_)
  cases hfail : (s.req i).fail with
  | none => simp [hfail, h.resolve_left (not_not_intro hfail)]
  | some c => simp [hfail]

end

end

/-! ### The end (R216) -/

/-- The request of a run that has ended with an outcome. -/
def endedReq (s : State) (i : SpokeId) (c : BitVec 8) : TruReq :=
  { s.req i with
    st := 3, outcome := c, phase := .entry, histA := none, histB := none, old := none, idleFrom := s.dt }

/-- A run's spoke at its end: the driver is as it was at the start, and capture is on. -/
def endedSpoke (s : State) (i : SpokeId) : Spoke := { (s.spoke i).put s.dt (s.req i).drvX with capOff := false }

/-- What a run's outcome makes of its item (R205, R216). -/
def endedItem (s : State) (i : SpokeId) (fail : Option (BitVec 8)) : TruItem :=
  if fail.isNone then
    { s.item (itemOf i) with runCode := 0, tempRes := s.temp, tempRun := some s.temp, slew := false }
  else { s.item (itemOf i) with runCode := fail.getD 0 }

/-- A run has ended and its outcome is reported; `x` is what the outcome makes of the item. -/
def runEnded (i : SpokeId) (c : BitVec 8) (x : TruItem) (s : State) : State :=
  raise 230 c.toNat i.val 0 s.dt
    (((s.setReq i (endedReq s i c)).setSpoke i (endedSpoke s i)).setItem (itemOf i) x)

/-- A run that ended TRUE at an elapsed time leaves trims to be stored. -/
def awaitsStore (t : Nat) (s : State) : State :=
  { s with truing := { s.truing with dirty := true, afterRun := s.truing.afterRun ++ [t] } }

section
variable (i : SpokeId) (c : BitVec 8) (x : TruItem) (s : State)

@[simp] theorem runEnded_req : (runEnded i c x s).req i = endedReq s i c := by simp [runEnded]
@[simp] theorem runEnded_spoke : (runEnded i c x s).spoke i = endedSpoke s i := by simp [runEnded]
@[simp] theorem runEnded_item : (runEnded i c x s).item (itemOf i) = x := by simp [runEnded]
@[simp] theorem runEnded_dirty : (runEnded i c x s).truing.dirty = s.truing.dirty := by simp [runEnded]

theorem mem_occs_runEnded (hroom : s.evFull 230 = false) :
    ⟨230, causeWord c.toNat i.val 0, s.dt, false⟩ ∈ (runEnded i c x s).occs :=
  mem_occs_raise (by decide) _ _ _ _ hroom

@[simp] theorem awaitsStore_req (t : Nat) : (awaitsStore t s).req i = s.req i := rfl
@[simp] theorem awaitsStore_spoke (t : Nat) : (awaitsStore t s).spoke i = s.spoke i := rfl
@[simp] theorem awaitsStore_item (t : Nat) (it : ItemId) : (awaitsStore t s).item it = s.item it := rfl

end

section
variable (hc : s.clocked = true) (hst : (s.req i).st = 2) (hph : (s.req i).phase = .apply_)
  (hdue : dtLe (dtAdd (s.req i).x 51200000000) s.dt = true)
include hc hst hph hdue

theorem exec_fullRunEnd : exec (.fullRunEnd i) s = .next (settle (itemOf i) s.dt (
    if (s.req i).fail.isNone then
      awaitsStore s.clock (runEnded i ((s.req i).fail.getD 0) (endedItem s i (s.req i).fail) s)
    else runEnded i ((s.req i).fail.getD 0) (endedItem s i (s.req i).fail) s)) := by
  change execFullRunEnd i s = _
  simp only [execFullRunEnd, runAt_of_phase hc hst hph hdue, if_true, modSpoke_eq, modItem_eq, setReq_spoke, setReq_item,
    setSpoke_item]
  rfl

theorem fullRunEnd_succeeds (hfail : (s.req i).fail = none) :
    ∃ u, exec (.fullRunEnd i) s = .next u ∧ (u.req i).st = 3 ∧ (u.req i).outcome = 0 ∧
      u.spoke i = { (s.spoke i).put s.dt (s.req i).drvX with capOff := false } ∧
      (u.item (itemOf i)).runCode = 0 ∧ (u.item (itemOf i)).tempRun = some s.temp ∧ u.truing.dirty = true ∧
      (s.evFull 230 = false → ⟨230, causeWord 0 i.val 0, s.dt, false⟩ ∈ u.occs) := by
  have hexec := exec_fullRunEnd hc hst hph hdue
  simp only [hfail, Option.isNone_none, if_true, Option.getD_none] at hexec
  refine ⟨_, hexec, ?_⟩
  simp only [settle_req, settle_spoke, settle_item, settled_runCode, settled_tempRun, awaitsStore_req, awaitsStore_spoke,
    awaitsStore_item, runEnded_req, runEnded_spoke, runEnded_item]
  exact ⟨rfl, rfl, rfl, rfl, rfl, settle_dirty ..,
    fun hroom => mem_occs_settle _ _ _ (mem_occs_runEnded _ _ _ _ hroom)⟩

theorem fullRunEnd_fails {c : BitVec 8} (hfail : (s.req i).fail = some c) :
    ∃ u, exec (.fullRunEnd i) s = .next u ∧ (u.req i).st = 3 ∧ (u.req i).outcome = c ∧
      u.spoke i = { (s.spoke i).put s.dt (s.req i).drvX with capOff := false } ∧
      (u.item (itemOf i)).runCode = c ∧ (u.item (itemOf i)).trims = (s.item (itemOf i)).trims ∧
      u.truing.dirty = s.truing.dirty ∧
      (s.evFull 230 = false → ⟨230, causeWord c.toNat i.val 0, s.dt, false⟩ ∈ u.occs) := by
  have hexec := exec_fullRunEnd hc hst hph hdue
  simp only [hfail, Option.isNone_some, Bool.false_eq_true, if_false, Option.getD_some] at hexec
  refine ⟨_, hexec, ?_⟩
  simp only [settle_req, settle_spoke, settle_item, settled_runCode, settled_trims, runEnded_req, runEnded_spoke,
    runEnded_item]
  exact ⟨rfl, rfl, rfl, rfl, rfl, (settle_dirty ..).trans (runEnded_dirty ..),
    fun hroom => mem_occs_settle _ _ _ (mem_occs_runEnded _ _ _ _ hroom)⟩

end

/-- Settles O37: each clause is what the command does in the case that the clause names. -/
theorem fullRunsComplete : Obligations.FullRunsComplete := by
  unfold Obligations.FullRunsComplete
  exact ⟨fun _ _ dl hr ⟨hqueued, hruns⟩ => fullRunRequest_queues dl hr hqueued hruns,
    fun _ _ dl hr h => fullRunRequest_refused dl hr h,
    fun _ _ hr hst => fullRunWithdraw_withdraws hr hst,
    fun _ _ hst => fullRunWithdraw_ignored hst,
    fun _ _ hc hst hdue => requestExpired_expires hc hst hdue,
    fun _ _ hok hfirst => fullRunStart_starts hok hfirst,
    fun _ _ h => fullRunStart_waits h,
    fun _ _ hc ⟨hst, hph⟩ hdue => delayPhaseStart_connects hc hst hph hdue,
    fun _ _ uv hc ⟨hst, hph⟩ hdue => thresholdPhaseStart_judges hc hst uv hph hdue,
    fun _ _ uv hc ⟨hst, hph⟩ => thresholdSample_judges hc hst uv hph,
    fun _ _ _ _ _ hc ⟨hst, hph⟩ hdue ⟨hfail, ha, hb⟩ hthr => applyPhaseStart_applies hc hst hph hdue hfail ha hb hthr,
    fun _ _ _ hc ⟨hst, hph⟩ hdue h => applyPhaseStart_fails hc hst hph hdue h,
    fun _ _ hc ⟨hst, hph⟩ hdue hfail => fullRunEnd_succeeds hc hst hph hdue hfail,
    fun _ _ _ hc ⟨hst, hph⟩ hdue hfail => fullRunEnd_fails hc hst hph hdue hfail⟩

end Sys2Proof.Proofs
end

section
/-! O38: the trim store (R220 to R224). -/

namespace Sys2Proof.Proofs

open Sys2Proof.Machine Sys2Proof.Laws

variable {s : State}

/-! ### A store begins (R222) -/

/-- The store that begins writes a copy of all trims to the slot without the newest data, under the next GEN. -/
def nextJob (s : State) : StoreJob :=
  ⟨!s.truing.noSlot && !s.truing.newest, if s.truing.noSlot then 1 else s.truing.gen + 1, 0, copyTrims s⟩

theorem beginStore_job (s : State) : (beginStore s).truing.job = some (nextJob s) := by
  simp only [beginStore, nextJob]
  cases s.truing.noSlot <;> rfl

/-- The slot that the store is to write is emptied; the other stands. -/
theorem beginStore_slots (s : State) :
    (beginStore s).truing.slotA = (if !s.truing.noSlot && !s.truing.newest then s.truing.slotA else TrimSlot.blank) ∧
      (beginStore s).truing.slotB = (if !s.truing.noSlot && !s.truing.newest then TrimSlot.blank else s.truing.slotB) := by
  simp only [beginStore]
  cases s.truing.noSlot <;> exact ⟨rfl, rfl⟩

theorem storeGo_begins (hr : s.hostReach = true) (hjob : s.truing.job = none) : exec .storeGo s = .next (beginStore s) :=
  congrArg Host.Outcome.next ((byHost_of_reach hr _).trans (if_neg (by simp [hjob])))

theorem storeGo_ignored {j : StoreJob} (hjob : s.truing.job = some j) : exec .storeGo s = .next s := by
  change execStoreGo s = _
  simp [execStoreGo, byHost, hjob]

theorem autostoreInterval_begins (hc : s.clocked = true) (hauto : s.autostore = true) (hdirty : s.truing.dirty = true)
    (hjob : s.truing.job = none) (hivl : fld (s.act 0x4004) 0 16 ≠ 0)
    (hdue : s.truing.lastStore + fld (s.act 0x4004) 0 16 * 60 * ftS ≤ s.clock) :
    exec .autostoreInterval s = .next (beginStore s) :=
  congrArg Host.Outcome.next (if_pos (by simp [hc, hauto, hdirty, hjob, hivl, hdue]))

theorem exec_autostoreAfterRun {t : Nat} {r : List Nat} (hc : s.clocked = true) (hrun : s.truing.afterRun = t :: r)
    (hjob : s.truing.job = none) (hdue : t + 60 * ftS ≤ s.clock) : exec .autostoreAfterRun s = .next (
      if s.autostore then beginStore s else { s with truing := { s.truing with afterRun := r } }) := by
  change execAutostoreAfterRun s = _
  simp [execAutostoreAfterRun, hrun, hc, hjob, hdue]

/-! ### Pages and the header (R223, R224) -/

section
variable {j : StoreJob} (hjob : s.truing.job = some j) (hc : s.clocked = true)
include hjob hc

theorem exec_pageProgram (hbusy : s.pageBusy = false) (hpage : j.page < storePages) : exec .pageProgram s = .next (
    if s.dyn.confirmed then { s with truing := { s.truing with
      job := some { j with page := j.page + 1 }, pageTo := some (s.clock + 4096000000) } }
    else endStore 2 s) := by
  change execPageProgram s = _
  simp [execPageProgram, hjob, hc, hbusy, Nat.not_le.2 hpage]

theorem storeComplete_saves (hpages : storePages ≤ j.page) (hconf : s.dyn.confirmed = true) :
    exec (.storeComplete true) s = .next (raise 232 1 0 0 s.dt { s with truing := { s.truing with
      storeState := 2, job := none, newest := j.slot, noSlot := false, gen := j.gen, saved := s.truing.saved + 1
      slotA := if j.slot then s.truing.slotA else s.slotOfStore j.gen j.copy
      slotB := if j.slot then s.slotOfStore j.gen j.copy else s.truing.slotB } }) := by
  change execStoreComplete true s = _
  simp [execStoreComplete, hjob, hc, hconf, Nat.not_lt.2 hpages]

theorem storeComplete_fails : exec (.storeComplete false) s = .next (endStore 3 s) := by
  change execStoreComplete false s = _
  simp [execStoreComplete, hjob, hc]

end

/-- What a completed store leaves is valid on this module (R221). -/
theorem slotValid_slotOfStore (s : State) (gen : Word) (items : List (List Int × Int × Bool × Int × Option Int)) :
    s.slotValid (s.slotOfStore gen items) = true := by
  have hcrc : (s.slotOfStore gen items).crc = (s.slotOfStore gen items).crcOf := rfl
  rw [State.slotValid, hcrc]
  simp [State.slotOfStore]

/-- Settles O38: each clause is what the command does in the case that the clause names. -/
theorem trimStoreCompletes : Obligations.TrimStoreCompletes := by
  unfold Obligations.TrimStoreCompletes
  exact ⟨fun s hr hjob => ⟨_, storeGo_begins hr hjob, rfl, rfl, rfl, beginStore_job s, beginStore_slots s⟩,
    fun _ _ hjob => storeGo_ignored hjob,
    fun s hc hauto ⟨hdirty, hjob⟩ hivl hdue =>
      ⟨_, autostoreInterval_begins hc hauto hdirty hjob hivl hdue, rfl, rfl, rfl, beginStore_job s⟩,
    fun s _ _ hc hauto ⟨hrun, hjob⟩ hdue =>
      ⟨_, (exec_autostoreAfterRun hc hrun hjob hdue).trans (congrArg _ (if_pos hauto)), rfl, rfl, rfl, rfl,
        beginStore_job s⟩,
    fun _ _ _ hc hauto ⟨hrun, hjob⟩ hdue =>
      (exec_autostoreAfterRun hc hrun hjob hdue).trans (congrArg _ (if_neg (by simp [hauto]))),
    fun _ _ hjob hc ⟨hbusy, hpage⟩ hconf => (exec_pageProgram hjob hc hbusy hpage).trans (congrArg _ (if_pos hconf)),
    fun _ _ hjob hc ⟨hbusy, hpage⟩ hconf =>
      (exec_pageProgram hjob hc hbusy hpage).trans (congrArg _ (if_neg (by simp [hconf]))),
    fun s _ hjob hc hpages hconf => ⟨storeComplete_saves hjob hc hpages hconf, slotValid_slotOfStore s _ _⟩,
    fun _ _ hjob hc => storeComplete_fails hjob hc⟩

end Sys2Proof.Proofs
end

section
/-! Hub's locks, and what the opening of the gates leaves of Hub (O39): the steps of a lock, a loss, and Hub without the
marks of SEL, which a refused commit sets (R229). -/

namespace Sys2Proof.Proofs

open Sys2Proof.Machine Sys2Proof.Laws

variable {s : State}

/-! ### The steps of a lock (R233, R235) -/

theorem inCeiling_iff (w : Nat) : inCeiling w = true ↔ 39200 ≤ w ∧ w ≤ 40800 := by simp [inCeiling]

theorem inCeiling_eq_false_iff (w : Nat) : inCeiling w = false ↔ w < 39200 ∨ 40800 < w := by
  simp only [inCeiling, Bool.and_eq_false_iff, decide_eq_false_iff_not, Nat.not_le]

theorem inCeiling_of_out {a b : Nat} (h : a < 39200 ∨ 40800 < a ∨ b < 39200 ∨ 40800 < b) :
    inCeiling a = false ∨ inCeiling b = false := by
  rw [inCeiling_eq_false_iff, inCeiling_eq_false_iff]
  exact or_assoc.2 h

theorem lockAt_of_ended {st : LockSt} (hl : s.hub.lock = st) (ht : s.hub.stepEnd ≤ s.clock) : s.lockAt st = true := by
  simp [State.lockAt, hl, ht]

theorem settleEnd_searches (hl : s.hub.lock = .settle) (ht : s.hub.stepEnd ≤ s.clock) :
    exec .settleEnd s = .next (beginSearch s) :=
  congrArg Host.Outcome.next (if_pos (lockAt_of_ended hl ht))

theorem ceilingBackoffEnd_searches (hl : s.hub.lock = .backoff) (ht : s.hub.stepEnd ≤ s.clock) :
    exec .ceilingBackoffEnd s = .next (beginSearch s) :=
  congrArg Host.Outcome.next (if_pos (lockAt_of_ended hl ht))

/-- A disagreement is counted, and raised as CEILING. -/
def disagreed (s : State) : State :=
  raiseNow 216 3 0 0 { s with hub := { s.hub with ceiling := s.hub.ceiling + 1, disagree := s.hub.disagree + 1 } }

section
variable {a b : Nat} (hl : s.hub.lock = .lockWait) (ht : s.hub.stepEnd ≤ s.clock)
include hl ht

theorem lockWaitEnd_agrees (ha : inCeiling a = true) (hb : inCeiling b = true) :
    exec (.lockWaitEnd a b) s = .next { s with hub := { s.hub with lock := .agreed, disagree := 0 } } := by
  change execLockWaitEnd a b s = _
  simp [execLockWaitEnd, lockAt_of_ended hl ht, ha, hb]

theorem exec_lockWaitEnd_of_disagreement (h : inCeiling a = false ∨ inCeiling b = false) :
    exec (.lockWaitEnd a b) s = .next (if s.hub.disagree + 1 < 3 then beginSearch (disagreed s)
      else { disagreed s with hub := { (disagreed s).hub with
        lock := .backoff, disagree := 0, stepEnd := (disagreed s).clock + 10 * ftMs } }) := by
  have hno : ¬ (inCeiling a && inCeiling b) = true := by rcases h with h | h <;> simp [h]
  change execLockWaitEnd a b s = _
  rw [execLockWaitEnd, if_neg (by simp [lockAt_of_ended hl ht]), if_neg hno]
  simp [disagreed]

end

/-! ### A loss (R236, R237) -/

theorem hub_stopped (s : State) : (stopped s).hub = s.hub :=
  hub_of_outside <|
    (outside_forEach _ _ (fun v t => outside_gateEngine v t rfl rfl rfl) _).trans <|
    (outside_gateFreewheel _ rfl rfl rfl rfl rfl).trans <|
    (outside_gateTruing _ rfl rfl).trans (outside_holdReads _ rfl rfl)

theorem hub_closeGates_of_open (h : s.hub.gatesOpen = true) : (closeGates s).hub = { s.hub with
    gatesOpen := false, hold := false, closeDt := s.dt, piStep := 0
    ho := if s.dtRuns then some ⟨s.dt, s.hub.w, s.clock⟩ else none } := by
  have hshut : (gatesShut s (stopped s)).hub = { s.hub with
      gatesOpen := false, hold := false, closeDt := s.dt, piStep := 0
      ho := if s.dtRuns then some ⟨s.dt, s.hub.w, s.clock⟩ else none } := by rw [gatesShut, hub_stopped]
  rw [closeGates_eq, if_neg (by simp [h])]
  split
  · exact (hub_of_outside (outside_enterBrake _ _ rfl rfl rfl)).trans hshut
  · exact hshut

theorem closeGates_of_shut (h : s.hub.gatesOpen = false) : closeGates s = s := by rw [closeGates_eq, h]; rfl

theorem dt_of_outside {q : Parts} {t : State} (h : t.outside q = s.outside q) (hq : q.dt = false) : t.dt = s.dt := by
  simpa only [State.outside, hq, Bool.false_eq_true, if_false] using congrArg State.dt h

/-- A command that may not change the count leaves it (O8). -/
theorem dt_of_exec {c : Instr} {u : State} (h : exec c s = .next u) (hc : (mayChange c).dt = false) : u.dt = s.dt :=
  dt_of_outside (commandFrames c s u h) hc

theorem clock_closeGates (s : State) : (closeGates s).clock = s.clock :=
  (congrArg State.clock (outside_closeGates (pt := mayChange .phaseMonitorTrip) s rfl rfl rfl rfl rfl rfl rfl rfl rfl rfl) :)

theorem hub_loseLock (s : State) : (loseLock s).hub = { (closeGates s).hub with
    losses := (closeGates s).hub.losses + 1, lock := .settle, stepEnd := s.clock + 81920000, disagree := 0 } := by
  unfold loseLock beginLock
  have hclock := clock_closeGates s
  generalize closeGates s = t at *
  cases s.hub.dayLock <;> simp [hclock]

/-- A loss, whether the gates were open or not. -/
theorem loseLock_relocks (s : State) : (loseLock s).hub.gatesOpen = false ∧
    (s.hub.gatesOpen = true → (loseLock s).hub.hold = false) ∧ (loseLock s).hub.lock = .settle ∧
    (loseLock s).hub.stepEnd = s.clock + 81920000 ∧ (loseLock s).hub.losses = s.hub.losses + 1 ∧
    (loseLock s).hub.sel = s.hub.sel := by
  rw [hub_loseLock]
  cases h : s.hub.gatesOpen with
  | true => simp [hub_closeGates_of_open h]
  | false => simp [closeGates_of_shut h, h]

theorem phaseMonitorTrip_loses (h : s.hub.gatesOpen = true ∨ s.hub.lock = .lockWait ∨ s.hub.lock = .agreed) :
    exec .phaseMonitorTrip s = .next (loseLock s) :=
  congrArg Host.Outcome.next (if_pos (by rcases h with h | h | h <;> simp [h]))

theorem exec_ceilingWindow (w : Nat) (s : State) :
    exec (.ceilingWindow w) s = .next (if s.hub.gatesOpen && !inCeiling w then loseLock s else s) := rfl

/-- The loss of a reference is raised, and Hub takes its reference from the TCXO. -/
def onTcxo (s : State) : State := raiseNow 217 1 0 0 { s with hub := { s.hub with sel := 0 } }

theorem onTcxo_hub (s : State) : (onTcxo s).hub = { s.hub with sel := 0 } := raiseNow_hub ..

theorem onTcxo_clock (s : State) : (onTcxo s).clock = s.clock := raiseNow_clock ..

theorem referenceLost_loses (hs : s.hub.sel ≠ 0) (hl : s.hub.lock ≠ .off) :
    exec .referenceLost s = .next (loseLock (onTcxo s)) :=
  congrArg Host.Outcome.next (if_pos (Bool.and_eq_true_iff.2 ⟨bne_iff_ne.2 hs, bne_iff_ne.2 hl⟩))

/-! ### The DCO word (R232) -/

theorem add_clampI (lim x w : Int) : x + clampI lim (w - x) =
    if w < x - lim then x - lim else if x + lim < w then x + lim else w := by
  unfold clampI
  split_ifs <;> omega

theorem exec_dcoWordApply {w : Int} (hp : s.hub.wPend = some w) (hg : s.hub.gatesOpen = true)
    (ht : s.hub.wAt.all (fun t => t + 40960000 ≤ s.clock) = true) : exec .dcoWordApply s = .next (
      if s.hub.w + clampI 50000 (w - s.hub.w) = w then setW (s.hub.w + clampI 50000 (w - s.hub.w)) s
      else { setW (s.hub.w + clampI 50000 (w - s.hub.w)) s with hub := {
        (setW (s.hub.w + clampI 50000 (w - s.hub.w)) s).hub with wPend := some w } }) := by
  change execDcoWordApply s = _
  simp only [execDcoWordApply, hp, hg, ht, Bool.and_self, if_true]

theorem dcoWordApply_applies {w : Int} (hp : s.hub.wPend = some w) (hg : s.hub.gatesOpen = true)
    (ht : s.hub.wAt.all (fun t => t + 40960000 ≤ s.clock) = true) :
    ∃ u, exec .dcoWordApply s = .next u ∧ u.hub.wAt = some s.clock ∧
      u.hub.w = (if w < s.hub.w - 50000 then s.hub.w - 50000 else if s.hub.w + 50000 < w then s.hub.w + 50000 else w) ∧
      u.hub.wPend = if u.hub.w = w then none else some w := by
  refine ⟨_, exec_dcoWordApply hp hg ht, ?_⟩
  rw [← add_clampI]
  split
  · next h => exact ⟨rfl, rfl, (if_pos h).symm⟩
  · next h => exact ⟨rfl, rfl, (if_neg h).symm⟩

/-! ### Hub but for the marks of SEL -/

/-- Hub without the marks that SEL has been written, which a refused commit sets (R229). -/
def unmarked (s : State) : Hub := { s.hub with selWritten := false, selArmed := false }

/-- The same, with every other part of the state put aside. -/
@[simp] abbrev lockOf (s : State) : Hub := unmarked (s.outside besideHub)

@[simp] theorem besideHub_parts : besideHub.isl = true ∧ besideHub.commit = true ∧ besideHub.occs = true ∧
    besideHub.spokes = true ∧ besideHub.pacer = true ∧ besideHub.latch = true ∧ besideHub.engines = true ∧
    besideHub.crank = true ∧ besideHub.truing = true ∧ besideHub.noon = true ∧ besideHub.ports = true ∧
    besideHub.fw = true ∧ besideHub.stoker = true ∧ besideHub.pair = true := by and_intros <;> rfl

theorem lockOf_of_hub {t : State} (h : t.hub = s.hub) : lockOf t = lockOf s :=
  congrArg (fun x : Hub => { x with selWritten := false, selArmed := false }) h

theorem lockOf_of_outside {t : State} (h : t.outside besideHub = s.outside besideHub) : lockOf t = lockOf s :=
  congrArg unmarked h

@[simp] theorem lockOf_ite {c : Prop} [Decidable c] (a b : State) :
    lockOf (if c then a else b) = if c then lockOf a else lockOf b := by split <;> rfl

section
variable (s)

/-! #### Commits (R25 to R29, R336 to R338) -/

@[simp] theorem lockOf_refusePending (cause island pos : Nat) (side : Bool) :
    lockOf (refusePending cause island pos side s) = lockOf s := by
  unfold refusePending
  split
  · next p _ =>
    have hsent : lockOf (if p.awaiting.isEmpty && !p.armedAll then s else overIslands (sendIsl .abandon) s) =
        lockOf s := by simp
    refine Eq.trans ?_ hsent
    dsimp only
    generalize (if (p.awaiting.isEmpty && !p.armedAll) = true then s else overIslands (sendIsl .abandon) s) = t
    exact (lockOf_of_outside (outside_sayRefused _ _ _ _ _ _ _ _ rfl rfl rfl)).trans rfl
  · rfl

@[simp] theorem lockOf_onAbandon (dtEff : DT) (gen : Word) (cause pos : Nat) (side : Bool) :
    lockOf (onAbandon dtEff gen cause pos side s) = lockOf s := by
  unfold onAbandon
  dsimp only
  repeat' split
  all_goals simp

@[simp] theorem lockOf_giveUpHeld (r : CoordRec) (cause pos : Nat) (side : Bool) :
    lockOf (giveUpHeld r cause pos side s) = lockOf s := by simp [giveUpHeld, giveUp]

@[simp] theorem lockOf_answerCoord (a : ArmedRec) (armed : Bool) (cause island : Nat) :
    lockOf (answerCoord a armed cause island s) = lockOf s := by
  unfold answerCoord coordAnswer
  (repeat' split) <;> simp

@[simp] theorem lockOf_armStep (a : ArmedRec) : lockOf (armStep a s) = lockOf s := by
  unfold armStep
  dsimp only
  (repeat' split) <;> exact (lockOf_answerCoord ..).trans (lockOf_of_hub rfl)

@[simp] theorem lockOf_armCommit (a : ArmedRec) : lockOf (armCommit a s) = lockOf s := by
  unfold armCommit
  (repeat' split) <;> simp

@[simp] theorem lockOf_onPrepare (a : ArmedRec) : lockOf (onPrepare a s) = lockOf s := by
  unfold onPrepare
  (repeat' split) <;> simp

@[simp] theorem lockOf_sendRequest (step : Bool) (dtEff : DT) (gen : Word) (d : BitVec 64) :
    lockOf (sendRequest step dtEff gen d s) = lockOf s := by simp [sendRequest, coordRequest, giveUp]

theorem lockOf_autoRestart (d : DT) : lockOf (autoRestart d s) = lockOf s := by
  simp only [autoRestart, issueCommit]
  split <;> simp

end

end Sys2Proof.Proofs
end

section
/-! O39: the steps of a lock, its loss, and the opening of the gates (R230 to R237, R240, R256, R394). -/

namespace Sys2Proof.Proofs

open Sys2Proof.Machine Sys2Proof.Laws

variable {s : State}

/-! ### The gates open (R233, R256, R394) -/

/-- Every part of the state but the count and the module's own state, which the opening itself sets. -/
def besideOpening : Parts := { mayChange .gateOpen with dt := false, dtRuns := false, dyn := false }

theorem time_of_outside {t : State} (h : t.outside besideOpening = s.outside besideOpening) :
    t.dt = s.dt ∧ t.dtRuns = s.dtRuns ∧ t.dyn = s.dyn :=
  ⟨(congrArg State.dt h :), (congrArg State.dtRuns h :), (congrArg State.dyn h :)⟩

/-- None of the islands that Hub's gates stop is Hub's own, so that their swaps leave Hub as it is. -/
theorem ne_islHub_of_gated {i : IslandId} (h : i ∈ hubIslands) : i ≠ islHub := by
  rintro rfl
  simp [hubIslands, islHub] at h

theorem hub_ungateCopies {i : IslandId} (hi : i ≠ islHub) (s : State) : (ungateCopies i s).hub = s.hub := by
  simp only [ungateCopies, swapConfirmed]
  split
  · rfl
  split
  · split
    · exact (hub_of_clockOf (clockOf_swapIsland _ hi)).trans rfl
    · rfl
  · rfl

theorem hub_resumeIslands (s : State) : (resumeIslands s).hub = s.hub := by
  have hcopies : (hubIslands.foldl (fun s i => ungateCopies i s) s).hub = s.hub :=
    foldl_keeps (p := State.hub) (fun i hi t => hub_ungateCopies (ne_islHub_of_gated hi) t) s
  refine (hub_of_outside ?_).trans hcopies
  unfold resumeIslands
  simp [outside_forEach]

/-- HELD and LOCKED, as the gates open. -/
def sayOpened (d : DT) (s : State) : State := raise 218 1 0 0 d (raise 216 2 0 0 d s)

/-- The automatic restart commit, where the configuration asks for it (R257). -/
def restarts (d : DT) (s : State) : State := if bit (s.act 0x2010) 0 then autoRestart d s else s

theorem lockOf_restarts (d : DT) (s : State) : lockOf (restarts d s) = lockOf s := by
  rw [restarts]
  split
  · exact lockOf_autoRestart s d
  · rfl

theorem outside_restarts (d : DT) (s : State) : (restarts d s).outside besideOpening = s.outside besideOpening := by
  rw [restarts]
  split
  · exact outside_autoRestart d s rfl rfl rfl rfl rfl rfl rfl rfl rfl
  · rfl

theorem exec_gateOpen_of_hold {d : DT} (hl : s.hub.lock = .agreed) (hd : s.hub.dayLock = false) (ho : s.openingDt = some d) :
    exec .gateOpen s = .next (restarts d (sayOpened d (resumeIslands (startCount d s)))) := by
  change execGateOpen s = _
  simp only [execGateOpen, ho, hl, hd, if_true, Bool.false_eq_true, if_false]
  rfl

theorem exec_gateOpen_of_day (hl : s.hub.lock = .agreed) (hd : s.hub.dayLock = true) :
    exec .gateOpen s = .next (restarts 0 (enterDay (raise 248 2 0 0 0 (sayOpened 0 (startCount 0 s))))) := by
  have ho : s.openingDt = some 0 := if_pos hd
  change execGateOpen s = _
  simp only [execGateOpen, ho, hl, hd, if_true]
  rfl

theorem gateOpen_waits (h : s.openingDt = none) : exec .gateOpen s = .next s := by
  change execGateOpen s = _
  rw [execGateOpen, h]

theorem openingDt_of_hold {h : Holdover} (hd : s.hub.dayLock = false) (ho : s.hub.ho = some h) :
    s.openingDt = reaches 524288 (h.fine (s.clock - 1)) (h.fine s.clock) := by
  rw [State.openingDt, if_neg (by simp [hd]), ho]

/-- What the opening sets stands after all that follows it. -/
theorem opened_facts {u : State} {d : DT} (hlock : lockOf u = lockOf (startCount d s))
    (htime : u.outside besideOpening = (startCount d s).outside besideOpening) :
    u.hub.gatesOpen = true ∧ u.hub.lock = .locked ∧ u.hub.hold = true ∧ u.hub.inDay = true ∧ u.hub.openDt = d ∧
      u.hub.dayLock = false ∧ u.hub.ho = none ∧ u.dt = d ∧
      u.dtRuns = (startCount d s).dtRuns ∧ u.dyn = (startCount d s).dyn := by
  obtain ⟨hdt, hruns, hdyn⟩ := time_of_outside htime
  exact ⟨(congrArg Hub.gatesOpen hlock :), (congrArg Hub.lock hlock :), (congrArg Hub.hold hlock :),
    (congrArg Hub.inDay hlock :), (congrArg Hub.openDt hlock :), (congrArg Hub.dayLock hlock :),
    (congrArg Hub.ho hlock :), hdt, hruns, hdyn⟩

theorem sayOpened_keeps (d : DT) (s : State) :
    lockOf (sayOpened d s) = lockOf s ∧ (sayOpened d s).outside besideOpening = s.outside besideOpening :=
  ⟨lockOf_of_hub (by simp [sayOpened]),
    (outside_raise _ _ _ _ _ _ rfl rfl).trans (outside_raise _ _ _ _ _ _ rfl rfl)⟩

theorem gateOpen_resumes {d : DT} (hl : s.hub.lock = .agreed) (hd : s.hub.dayLock = false) (ho : s.openingDt = some d) :
    ∃ u, exec .gateOpen s = .next u ∧ u.hub.gatesOpen = true ∧ u.hub.lock = .locked ∧ u.hub.hold = true ∧
      u.hub.openDt = d ∧ u.dt = d ∧ u.hub.ho = none ∧ u.dyn.st = s.dyn.st := by
  obtain ⟨hsaid, hsaid'⟩ := sayOpened_keeps d (resumeIslands (startCount d s))
  obtain ⟨hgates, hlock, hhold, -, hopen, -, hho, hdt, -, hdyn⟩ := opened_facts (s := s)
    ((lockOf_restarts d _).trans (hsaid.trans (lockOf_of_hub (hub_resumeIslands _))))
    ((outside_restarts d _).trans (hsaid'.trans
      (outside_resumeIslands _ rfl rfl rfl rfl rfl rfl rfl rfl rfl rfl rfl rfl rfl rfl)))
  refine ⟨_, exec_gateOpen_of_hold hl hd ho, hgates, hlock, hhold, hopen, hdt, hho, ?_⟩
  rw [hdyn]
  simp [startCount, hd]

theorem gateOpen_entersDay (hl : s.hub.lock = .agreed) (hd : s.hub.dayLock = true) :
    ∃ u, exec .gateOpen s = .next u ∧ u.hub.gatesOpen = true ∧ u.hub.lock = .locked ∧ u.hub.hold = true ∧
      u.hub.inDay = true ∧ u.hub.openDt = 0 ∧
      u.hub.dayLock = false ∧ u.dt = 0 ∧ u.dtRuns = true ∧ u.dyn.st = .day := by
  obtain ⟨hsaid, hsaid'⟩ := sayOpened_keeps 0 (startCount 0 s)
  obtain ⟨hgates, hlock, hhold, hday, hopen, hno, -, hdt, hruns, hdyn⟩ := opened_facts (s := s)
    ((lockOf_restarts 0 _).trans ((lockOf_of_outside (outside_enterDay _ rfl rfl rfl rfl rfl rfl rfl rfl rfl rfl)).trans
      ((lockOf_of_hub (raise_hub ..)).trans hsaid)))
    ((outside_restarts 0 _).trans ((outside_enterDay _ rfl rfl rfl rfl rfl rfl rfl rfl rfl rfl).trans
      ((outside_raise _ _ _ _ _ _ rfl rfl).trans hsaid')))
  refine ⟨_, exec_gateOpen_of_day hl hd, hgates, hlock, hhold, hday, hopen, hno, hdt, ?_, ?_⟩
  · rw [hruns]
    simp [startCount, hd]
  · rw [hdyn]
    simp [startCount, hd]

/-- Settles O39: each clause is what the command does in the case that the clause names. -/
theorem hubCompletes : Obligations.HubCompletes := by
  unfold Obligations.HubCompletes
  refine ⟨fun _ hl ht => settleEnd_searches hl ht, fun _ _ hl => congrArg Host.Outcome.next (if_pos hl), ?_, ?_, ?_,
    fun _ hl ht => ceilingBackoffEnd_searches hl ht,
    fun _ _ _ hl hd ho hr => gateOpen_resumes hl hd ((openingDt_of_hold hd ho).trans hr),
    fun _ _ hd ho hr => gateOpen_waits ((openingDt_of_hold hd ho).trans hr),
    fun _ hl hd => gateOpen_entersDay hl hd, ?_, ?_, ?_, ?_, fun _ _ hp hg ht => dcoWordApply_applies hp hg ht⟩
  · intro s a b hl ht ⟨ha, ha', hb, hb'⟩
    exact lockWaitEnd_agrees hl ht ((inCeiling_iff a).2 ⟨ha, ha'⟩) ((inCeiling_iff b).2 ⟨hb, hb'⟩)
  · intro s a b hl ht hout hlt
    refine ⟨_, exec_lockWaitEnd_of_disagreement hl ht (inCeiling_of_out hout), ?_⟩
    rw [if_pos (by omega)]
    simp [beginSearch, disagreed]
  · intro s a b hl ht hout heq
    refine ⟨_, exec_lockWaitEnd_of_disagreement hl ht (inCeiling_of_out hout), ?_⟩
    rw [if_neg (by omega)]
    simp [disagreed, ftMs]
  · intro s h
    have hexec := phaseMonitorTrip_loses h
    obtain ⟨hgates, hhold, hlock, hend, hlosses, -⟩ := loseLock_relocks s
    exact ⟨_, hexec, hgates, hhold, hlock, hend, hlosses, dt_of_exec hexec rfl⟩
  · intro s w hg hout
    have hexec : exec (.ceilingWindow w) s = .next (loseLock s) := by
      rw [exec_ceilingWindow, hg, (inCeiling_eq_false_iff w).2 hout]
      rfl
    obtain ⟨hgates, hhold, hlock, hend, hlosses, -⟩ := loseLock_relocks s
    exact ⟨_, hexec, hgates, hhold hg, hlock, hend, hlosses, dt_of_exec hexec rfl⟩
  · intro s w hin
    rw [exec_ceilingWindow, (inCeiling_iff w).2 hin, Bool.not_true, Bool.and_false]
    rfl
  · intro s hs hl
    have hexec := referenceLost_loses hs hl
    obtain ⟨hgates, -, hlock, hend, hlosses, hsel⟩ := loseLock_relocks (onTcxo s)
    rw [onTcxo_clock] at hend
    rw [onTcxo_hub] at hlosses hsel
    exact ⟨_, hexec, hsel, hgates, hlock, hend, hlosses, dt_of_exec hexec rfl⟩

end Sys2Proof.Proofs
end

section
/-! O40: the servo, the choice of a source, and PPS (R231, R238, R239, R241 to R250). -/

namespace Sys2Proof.Proofs

open Sys2Proof.Machine Sys2Proof.Laws

variable {s t : State}

theorem noon_of_outside {q : Parts} (h : t.outside q = s.outside q) (hq : q.noon = false) : t.noon = s.noon := by
  simpa only [State.outside, hq, Bool.false_eq_true, if_false] using congrArg State.noon h

/-! ### Noon's operations (R232, R242 to R244) -/

theorem act_congr (h : t.isl = s.isl) (k : Nat) : t.act k = s.act k := by simp only [State.act, State.island, h]

section
variable (s)

@[simp] theorem setSlew_noon (v : Int) : (setSlew v s).noon = { s.noon with
    slew := v, slewFrom := if v = 0 then none else if s.noon.slew = 0 then some s.clock else s.noon.slewFrom } := by
  simp only [setSlew]
  split
  · rw [raiseNow_noon]
  · rfl

@[simp] theorem setSlew_hub (v : Int) : (setSlew v s).hub = s.hub := hub_of_outside (outside_setSlew v s rfl rfl rfl)

@[simp] theorem setSlew_dt (v : Int) : (setSlew v s).dt = s.dt :=
  dt_of_outside (q := mayChange .ppsoutPulse) (outside_setSlew v s rfl rfl rfl) rfl

@[simp] theorem addSlew_isl (x : Int) : (addSlew x s).isl = s.isl := isl_of_outside (outside_addSlew x s rfl rfl rfl)

@[simp] theorem noonTo_noon (st : Nat) : (noonTo st s).noon = { s.noon with state := BitVec.ofNat 2 st } := by
  rw [noonTo]
  split
  · next h =>
    subst h
    simp
  · rw [raiseNow_noon]

@[simp] theorem noonTo_hub (st : Nat) : (noonTo st s).hub = s.hub := hub_of_outside (outside_noonTo st s rfl rfl rfl)

/-- The counts of a lock after an error (R243). -/
def counted (e : Int) (s : State) : State := { s with noon := { s.noon with
  good := if e.natAbs ≤ fld (s.act 0x3010) 10 16 then s.noon.good + 1 else 0
  bad := if e.natAbs ≤ fld (s.act 0x3010) 10 16 then 0 else s.noon.bad + 1 } }

/-- The state that the counts call for comes with them. -/
theorem countLock_cases (e : Int) : countLock e s = counted e s ∨ ∃ st, countLock e s = noonTo st (counted e s) := by
  have hdef : countLock e s = if s.noon.state = 1 ∧ 16 ≤ (counted e s).noon.good then noonTo 2 (counted e s)
      else if s.noon.state = 2 ∧ 8 ≤ (counted e s).noon.bad then noonTo 1 (counted e s) else counted e s := rfl
  rw [hdef]
  split
  · exact .inr ⟨_, rfl⟩
  split
  · exact .inr ⟨_, rfl⟩
  · exact .inl rfl

theorem countLock_facts (e : Int) : (countLock e s).noon.inbox = s.noon.inbox ∧ (countLock e s).noon.err = s.noon.err ∧
    (countLock e s).noon.lastMeas = s.noon.lastMeas ∧ (countLock e s).noon.slew = s.noon.slew ∧
    (countLock e s).noon.good = if e.natAbs ≤ fld (s.act 0x3010) 10 16 then s.noon.good + 1 else 0 := by
  rcases countLock_cases s e with h | ⟨st, h⟩
  · rw [h]; exact ⟨rfl, rfl, rfl, rfl, rfl⟩
  · rw [h, noonTo_noon]; exact ⟨rfl, rfl, rfl, rfl, rfl⟩

@[simp] theorem countLock_hub (e : Int) : (countLock e s).hub = s.hub :=
  hub_of_outside (outside_countLock e s rfl rfl rfl)

@[simp] theorem requestW_hub (w : Int) : (requestW w s).hub = { s.hub with wPend := some (clampI 20000000 w) } := by
  simp only [requestW, limitW]
  split
  · rfl
  · rw [raiseNow_hub]

@[simp] theorem steerW_noon (w : Int) : (steerW w s).noon = s.noon :=
  noon_of_outside (q := { occs := true, latch := true, hub := true }) (outside_steerW w s rfl rfl rfl) rfl

@[simp] theorem steerW_act (w : Int) (k : Nat) : (steerW w s).act k = s.act k :=
  act_congr (isl_of_outside (outside_steerW w s rfl rfl rfl)) k

theorem steerW_wPend (w : Int) : (steerW w s).hub.wPend =
    if bit (s.act 0x2008) 26 then s.hub.wPend else some (clampI 20000000 w) := by
  rw [steerW]
  split
  · rfl
  · rw [requestW_hub]

end

/-! ### A measurement (R241, R242, R245) -/

/-- A measurement taken from the way in, and noted for its candidate. -/
def noted (m : Meas) (r : List Meas) (s : State) : State := noteMeas m { s with noon := { s.noon with inbox := r } }

/-- One of the source sets the error, too. -/
def erred (m : Meas) (r : List Meas) (s : State) : State :=
  { noted m r s with noon := { (noted m r s).noon with err := clampI 2147483647 m.e } }

theorem noted_cand (m : Meas) (r : List Meas) (s : State) : ((noted m r s).noon.cands.get m.cand).err = m.e ∧
    ((noted m r s).noon.cands.get m.cand).root = m.root ∧ ((noted m r s).noon.cands.get m.cand).hops = m.hops ∧
    ((noted m r s).noon.cands.get m.cand).qual = m.qual ∧ ((noted m r s).noon.cands.get m.cand).tai = m.tai := by
  simp [noted, noteMeas, State.modCand, get_set]

theorem exec_measurement {m : Meas} {r : List Meas} (hin : s.noon.inbox = m :: r) (hc : s.clocked = true) :
    exec .measurement s = .next (if m.cand.val ≠ s.noon.src.toNat then noted m r s
      else if s.noon.first then firstMeas m (erred m r s) else servo m (erred m r s)) := by
  change execMeasurement s = _
  simp only [execMeasurement, hin, hc, Bool.not_true, Bool.false_eq_true, if_false]
  rfl

theorem firstMeas_facts (m : Meas) (s : State) : ∃ a n, (firstMeas m s).noon =
    { s.noon with lastMeas := m.dt, first := false, autoStep := a, autoAt := n } ∧ (firstMeas m s).hub = s.hub := by
  simp only [firstMeas]
  split
  · exact ⟨_, _, rfl, rfl⟩
  · exact ⟨_, _, rfl, rfl⟩

/-- The backlog after a measurement has added its proportional term, unless a step waits. -/
def trimmed (m : Meas) (s : State) : State :=
  if s.noon.stepWait then { s with noon := { s.noon with lastMeas := m.dt } }
  else addSlew (propTerm m.e (fld (s.act 0x3010) 0 4)) { s with noon := { s.noon with lastMeas := m.dt } }

theorem trimmed_facts (m : Meas) (s : State) : (trimmed m s).noon.inbox = s.noon.inbox ∧
    (trimmed m s).noon.err = s.noon.err ∧ (trimmed m s).noon.lastMeas = m.dt ∧
    (trimmed m s).noon.good = s.noon.good ∧
    (trimmed m s).noon.slew = (if s.noon.stepWait then s.noon.slew
      else clampI 2147483647 (s.noon.slew + propTerm m.e (fld (s.act 0x3010) 0 4))) ∧
    (trimmed m s).hub = s.hub ∧ (trimmed m s).isl = s.isl := by
  rw [trimmed]
  split
  · exact ⟨rfl, rfl, rfl, rfl, rfl, rfl, rfl⟩
  · rw [addSlew_isl, addSlew, setSlew_noon, setSlew_hub]
    exact ⟨rfl, rfl, rfl, rfl, rfl, rfl, rfl⟩

theorem servo_eq (m : Meas) (s : State) : servo m s = countLock m.e (steerW
    ((trimmed m s).hub.w + intTerm m.e (dtDiff m.dt s.noon.lastMeas) (fld (s.act 0x3010) 4 5)) (trimmed m s)) := rfl

/-- What the servo makes of a measurement (R242, R243). -/
theorem servo_facts (m : Meas) (s : State) : (servo m s).noon.inbox = s.noon.inbox ∧ (servo m s).noon.err = s.noon.err ∧
    (servo m s).noon.lastMeas = m.dt ∧
    (servo m s).noon.good = (if m.e.natAbs ≤ fld (s.act 0x3010) 10 16 then s.noon.good + 1 else 0) ∧
    (servo m s).noon.slew = (if s.noon.stepWait then s.noon.slew
      else clampI 2147483647 (s.noon.slew + propTerm m.e (fld (s.act 0x3010) 0 4))) ∧
    (servo m s).hub.wPend = if bit (s.act 0x2008) 26 then s.hub.wPend
      else some (clampI 20000000 (s.hub.w + intTerm m.e (dtDiff m.dt s.noon.lastMeas) (fld (s.act 0x3010) 4 5))) := by
  obtain ⟨hin, herr, hlast, hgood, hslew, hhub, hisl⟩ := trimmed_facts m s
  obtain ⟨cin, cerr, clast, cslew, cgood⟩ := countLock_facts (steerW
    ((trimmed m s).hub.w + intTerm m.e (dtDiff m.dt s.noon.lastMeas) (fld (s.act 0x3010) 4 5)) (trimmed m s)) m.e
  rw [steerW_noon] at cin cerr clast cslew cgood
  rw [steerW_act, act_congr hisl, hgood] at cgood
  rw [servo_eq]
  refine ⟨cin.trans hin, cerr.trans herr, clast.trans hlast, cgood, cslew.trans hslew, ?_⟩
  rw [countLock_hub, steerW_wPend, act_congr hisl, hhub]

/-! ### The backlog goes down (R238, R244) -/

theorem exec_phaseStep {n : Int} (hc : s.clocked = true) (hn : n = 1 ∧ 0 < s.noon.slew ∨ n = -1 ∧ s.noon.slew < 0)
    (hp : s.hub.piStep = 0) (ht : s.noon.slewStep.all (fun t => t + 262144 ≤ s.clock) = true) :
    exec .phaseStep s = .next (setSlew (s.noon.slew - n)
      { s with noon := { s.noon with slewStep := some s.clock }, hub := { s.hub with piStep := n } }) := by
  have hne : s.noon.slew ≠ 0 := by omega
  have hdir : (if s.noon.slew < 0 then -1 else 1) = n := by split <;> omega
  change execPhaseStep s = _
  simp only [execPhaseStep, hc, hp, ht, hdir]
  simp [hne]

/-! ### The choice of a source (R243, R246) -/

/-- A comparison made, the winner's turns counted. -/
def compared (s : State) : State := { s with noon := { s.noon with
  winner := BitVec.ofNat 4 s.bestSource.val, cmpAt := s.clock + 4096000000
  winRun := if s.noon.winner.toNat = s.bestSource.val then s.noon.winRun + 1 else 1 } }

section
variable (hd : s.inDay = true) (hc : s.clocked = true) (ht : s.noon.cmpAt ≤ s.clock)
include hd hc ht

theorem exec_sourceComparison : exec .sourceComparison s = .next (
    if s.bestSource = Fin.ofNat 16 s.noon.src.toNat then compared s
    else if !s.eligible (Fin.ofNat 16 s.noon.src.toNat) || 3 ≤ (compared s).noon.winRun then
      selectSource s.bestSource (compared s)
    else compared s) := by
  change execSourceComparison s = _
  rw [execSourceComparison, if_pos (by simp [hd, hc, ht])]
  rfl

end

/-- The source's number as a candidate's. -/
theorem eq_src_iff (k : Fin 16) (s : State) : k = Fin.ofNat 16 s.noon.src.toNat ↔ k.val = s.noon.src.toNat := by
  have hlt : s.noon.src.toNat < 16 := s.noon.src.isLt
  rw [Fin.ext_iff, Fin.val_ofNat, Nat.mod_eq_of_lt hlt]

theorem selectSource_noon {k : Fin 16} (hk : k ≠ 0xF) (s : State) : ∃ a n, (selectSource k s).noon = { s.noon with
    src := BitVec.ofNat 4 k.val, first := true, good := 0, bad := 0, state := 1, stepWait := false, waitSaid := false
    autoStep := a, autoAt := n } := by
  have hfollow (r : Nat) (t : State) : (followRef r t).noon = t.noon :=
    noon_of_outside (q := mayChange .phaseMonitorTrip)
      (outside_followRef r t rfl rfl rfl rfl rfl rfl rfl rfl rfl rfl) rfl
  simp only [selectSource, if_neg hk, hfollow]
  split
  · exact ⟨_, _, by rw [noonTo_noon, raiseNow_noon]; rfl⟩
  · exact ⟨_, _, by rw [noonTo_noon, raiseNow_noon]; rfl⟩

theorem selectSource_local (s : State) : (selectSource 0xF s).noon = { s.noon with
      src := 15, first := true, good := 0, bad := 0, state := 3, autoStep := none, stepWait := false, waitSaid := false } ∧
    (selectSource 0xF s).hub.wPend =
      if bit (s.act 0x2008) 26 then s.hub.wPend else some (clampI 20000000 s.meanW) := by
  simp only [selectSource, if_true]
  refine ⟨?_, ?_⟩
  · rw [noonTo_noon, steerW_noon, raiseNow_noon]
    rfl
  · rw [noonTo_hub, steerW_wPend, raiseNow_hub, raiseNow_act]
    rfl

/-! ### PPS (R248 to R250) -/

theorem ppsDue_iff (s : State) : s.ppsDue = true ↔
    ((s.dt.toNat : Int) - signed 30 (fld (s.act 0x3064) 0 30) * 4096) % 4096000000000 = 0 ∧
      s.noon.ppsNext.toNat ≤ s.dt.toNat := by
  simp [State.ppsDue, ppsOfs, ftS]

/-- PPSOUT's next whole second lies past the present one. -/
def ppsTaken (s : State) : State := { s with noon := { s.noon with ppsNext := s.dt + 1 } }

theorem exec_ppsoutPulse (hd : s.inDay = true) (hc : s.clocked = true) (hen : bit (s.act 0x3060) 0 = true)
    (hdue : s.ppsDue = true) : exec .ppsoutPulse s = .next (
      if bit (s.act 0x3060) 1 && s.noon.state != 2 then raise 226 2 0 0 s.dt (ppsTaken s)
      else raise 226 1 0 0 s.dt { ppsTaken s with noon := { (ppsTaken s).noon with
        ppsOut := true, ppsEnd := dtAdd s.dt (min 1000 (max 1 (fld (s.act 0x3060) 2 10)) * 4096000) } }) := by
  change execPpsoutPulse s = _
  rw [execPpsoutPulse, if_pos (by simp [hd, hc, hen, hdue])]
  rfl

/-- An edge of PPSIN, raised with its DT. -/
def ppsSeen (s : State) : State := raise 224 1 0 0 s.dt { s with noon := { s.noon with ppsDt := s.dt, ppsSeen := s.clock } }

/-- An edge of PPSIN is accepted by its distance from the one before. -/
def ppsFits (s : State) : Bool := s.noon.ppsLast.all fun p => (modSecond (dtDiff s.dt p)).natAbs ≤ 4096000000

theorem exec_ppsinEdge {r : Bool} (hd : s.inDay = true) (hc : s.clocked = true) (hen : bit (s.act 0x3068) 0 = true)
    (hr : bit (s.act 0x3068) 1 = !r) : exec (.ppsinEdge r) s = .next (
      if ppsFits s then deliver (ppsMeas s) { ppsSeen s with noon := { (ppsSeen s).noon with ppsLast := some s.dt } }
      else raise 225 2 0 0 s.dt (ppsSeen s)) := by
  have hfits : (match s.noon.ppsLast with
      | some p => decide ((modSecond (dtDiff s.dt p)).natAbs ≤ ftMs)
      | none => true) = ppsFits s := by
    rw [ppsFits]
    cases s.noon.ppsLast <;> rfl
  have hcond : (s.inDay && s.clocked && bit (s.act 0x3068) 0 && r != bit (s.act 0x3068) 1) = true := by
    cases r <;> simp [hd, hc, hen, hr]
  change execPpsinEdge r s = _
  simp only [execPpsinEdge, hcond, if_true]
  rw [← hfits]
  rfl

theorem ppsinEdge_other {r : Bool} (hr : bit (s.act 0x3068) 1 = r) : exec (.ppsinEdge r) s = .next s :=
  congrArg Host.Outcome.next (if_neg (by simp [hr]))

theorem ppsSeen_noon (s : State) : (ppsSeen s).noon = { s.noon with ppsDt := s.dt, ppsSeen := s.clock } := raise_noon ..

theorem mem_ppsSeen (h : s.evFull 224 = false) : ⟨224, causeWord 1 0 0, s.dt, false⟩ ∈ (ppsSeen s).occs :=
  mem_occs_raise (by decide) _ _ _ _ h

theorem ppsinMissing_said (hd : s.inDay = true) (hc : s.clocked = true) (hen : bit (s.act 0x3068) 0 = true)
    (ht : s.noon.ppsSeen + 4096000000000 < s.clock) :
    exec .ppsinMissing s = .next (raise 225 1 0 0 s.dt { s with noon := { s.noon with
      ppsSeen := s.noon.ppsSeen + 4096000000000 } }) :=
  congrArg Host.Outcome.next (if_pos (by simp [hd, hc, hen, ftS, ht]))

/-! ### Every clause -/

theorem sourceComparison_keeps (hd : s.inDay = true) (hc : s.clocked = true) (ht : s.noon.cmpAt ≤ s.clock)
    (he : s.eligible (Fin.ofNat 16 s.noon.src.toNat) = true)
    (hrun : s.noon.winner.toNat ≠ s.bestSource.val ∨ s.noon.winRun < 2) :
    exec .sourceComparison s = .next (compared s) := by
  have hshort : ¬ 3 ≤ (compared s).noon.winRun := by
    simp only [compared]
    split <;> omega
  rw [exec_sourceComparison hd hc ht, he]
  simp only [hshort, Bool.not_true, decide_false, Bool.or_self, Bool.false_eq_true, if_false, ite_self]

theorem sourceComparison_changes (hd : s.inDay = true) (hc : s.clocked = true) (ht : s.noon.cmpAt ≤ s.clock)
    (hne : s.bestSource.val ≠ s.noon.src.toNat)
    (h : s.noon.winner.toNat = s.bestSource.val ∧ 2 ≤ s.noon.winRun ∨
      s.eligible (Fin.ofNat 16 s.noon.src.toNat) = false) :
    exec .sourceComparison s = .next (selectSource s.bestSource (compared s)) := by
  have hgo : (!s.eligible (Fin.ofNat 16 s.noon.src.toNat) || 3 ≤ (compared s).noon.winRun) = true := by
    rcases h with ⟨hwin, hrun⟩ | h
    · have hlong : 3 ≤ (compared s).noon.winRun := by
        simp only [compared, if_pos hwin]
        omega
      simp [hlong]
    · rw [h]
      rfl
  rw [exec_sourceComparison hd hc ht, if_neg (mt (eq_src_iff _ s).1 hne), if_pos hgo]

/-- Settles O40: each clause is what the command does in the case that the clause names. -/
theorem noonCompletes : Obligations.NoonCompletes := by
  unfold Obligations.NoonCompletes
  refine ⟨?_, ?_, ?_, ?_, ?_, ?_, ?_, ?_, fun _ hr => congrArg Host.Outcome.next (if_pos hr), ?_, ?_, ?_, ?_, ?_,
    fun _ _ _ _ ⟨_, hr⟩ => ppsinEdge_other hr, fun _ hd hc hen ht => ppsinMissing_said hd hc hen ht⟩
  · intro s m r hin hc hm
    obtain ⟨herr, hroot, hhops, hqual, htai⟩ := noted_cand m r s
    exact ⟨_, (exec_measurement hin hc).trans (congrArg _ (if_pos hm)), rfl, rfl, rfl, herr, hroot, hhops, hqual, htai,
      rfl⟩
  · intro s m r hin hc hm hf
    obtain ⟨a, n, hnoon, hhub⟩ := firstMeas_facts m (erred m r s)
    have hexec := exec_measurement hin hc
    rw [if_neg (not_not_intro hm), if_pos hf] at hexec
    refine ⟨_, hexec, ?_⟩
    rw [hnoon, hhub]
    exact ⟨rfl, rfl, rfl, rfl, rfl, rfl⟩
  · intro s m r hin hc hm hf
    obtain ⟨hin', herr, hlast, hgood, hslew, hpend⟩ := servo_facts m (erred m r s)
    have hexec := exec_measurement hin hc
    rw [if_neg (not_not_intro hm), if_neg (by simp [hf])] at hexec
    exact ⟨_, hexec, hin', herr, hlast, hgood, hslew, hpend⟩
  · intro s n hc hn hp ht
    refine ⟨_, exec_phaseStep hc hn hp ht, ?_⟩
    rw [setSlew_noon, setSlew_hub, setSlew_dt]
    exact ⟨rfl, rfl, rfl, rfl⟩
  · intro s hd hc ht hk
    exact (exec_sourceComparison hd hc ht).trans (congrArg _ (if_pos ((eq_src_iff _ s).2 hk)))
  · rintro s k hd hc ht ⟨rfl, hne, hk⟩ h
    obtain ⟨a, n, hnoon⟩ := selectSource_noon (k := s.bestSource) (fun h => hk (congrArg Fin.val h)) (compared s)
    refine ⟨_, sourceComparison_changes hd hc ht hne h, ?_⟩
    rw [hnoon]
    exact ⟨rfl, rfl, rfl, rfl, rfl⟩
  · rintro s k hd hc ht ⟨rfl, hne⟩ he hrun
    exact ⟨_, sourceComparison_keeps hd hc ht he hrun, rfl, rfl, rfl⟩
  · intro s hd hc ht ⟨hbest, hsrc⟩ he
    have hne : s.bestSource.val ≠ s.noon.src.toNat := by
      rw [hbest]
      exact fun h => hsrc (BitVec.eq_of_toNat_eq h.symm)
    obtain ⟨hnoon, hpend⟩ := selectSource_local (compared s)
    have hexec := sourceComparison_changes hd hc ht hne (.inr he)
    rw [hbest] at hexec
    refine ⟨_, hexec, ?_⟩
    rw [hnoon]
    exact ⟨rfl, rfl, rfl, rfl, hpend⟩
  · intro s hd hc ⟨hen, hlock⟩ hdue hnext
    have hexec := exec_ppsoutPulse hd hc hen ((ppsDue_iff s).2 ⟨hdue, hnext⟩)
    rw [if_neg (by rcases hlock with h | h <;> simp [h])] at hexec
    refine ⟨_, hexec, ?_, ?_, fun hroom => mem_occs_raise (by decide) _ _ _ _ hroom⟩
    · rw [raise_noon]
    · rw [raise_noon]
  · intro s hd hc ⟨hen, hask, hlock⟩ hdue hnext
    exact (exec_ppsoutPulse hd hc hen ((ppsDue_iff s).2 ⟨hdue, hnext⟩)).trans
      (congrArg _ (if_pos (Bool.and_eq_true_iff.2 ⟨hask, bne_iff_ne.2 hlock⟩)))
  · intro s hc hout hend
    exact congrArg Host.Outcome.next (if_pos (by simp [hc, hout, hend]))
  · intro s r hd hc ⟨hen, hr⟩ hfits
    refine ⟨_, (exec_ppsinEdge hd hc hen hr).trans (congrArg _ (if_pos hfits)), ?_⟩
    rw [deliver, ppsSeen_noon]
    exact ⟨rfl, rfl, rfl, rfl, mem_ppsSeen⟩
  · intro s r p hd hc ⟨hen, hr⟩ hlast hfar
    have hno : ¬ ppsFits s = true := by simp [ppsFits, hlast, hfar]
    refine ⟨_, (exec_ppsinEdge hd hc hen hr).trans (congrArg _ (if_neg hno)), ?_⟩
    rw [raise_noon, ppsSeen_noon]
    exact ⟨rfl, rfl, hlast, rfl, fun hroom => mem_raise (mem_ppsSeen hroom)⟩

end Sys2Proof.Proofs
end

section
/-! O41: requests of a step, and the step itself (R251 to R254, R336). -/

namespace Sys2Proof.Proofs

open Sys2Proof.Machine Sys2Proof.Laws

variable {s t : State}

section
variable {q : Parts} (h : t.outside q = s.outside q)
include h

theorem imm_of_outside (hq : q.imm = false) : t.imm = s.imm := by
  simpa only [State.outside, hq, Bool.false_eq_true, if_false] using congrArg State.imm h

theorem crank_of_outside (hq : q.crank = false) : t.crank = s.crank := by
  simpa only [State.outside, hq, Bool.false_eq_true, if_false] using congrArg State.crank h

end

/-! ### The checks of a step (R252) -/

theorem stepCheck_passes {x : DT} {d : Int} {lead : Nat} (hlead : (dtAdd (s.replica islNoon) lead).toNat ≤ x.toNat)
    (hnone : s.noon.step = none) (he : s.enginesIdle = true) (hq : d < 0 → s.queuesIdle = true) :
    s.stepCheck x d lead = 0 := by
  have hback : ¬ (d < 0 && !s.queuesIdle) = true := by
    by_cases hd : d < 0
    · simp [hq hd]
    · simp [hd]
  rw [State.stepCheck, if_neg (Nat.not_lt.2 hlead), if_neg (by simp [hnone]), if_neg (by simp [he]), if_neg hback]

/-- The code of the first check that fails. -/
theorem stepCheck_fails {x : DT} {d : Int} {lead : Nat} (h : x.toNat < (dtAdd (s.replica islNoon) lead).toNat ∨
      s.noon.step ≠ none ∨ s.enginesIdle = false ∨ d < 0 ∧ s.queuesIdle = false) : s.stepCheck x d lead =
    if x.toNat < (dtAdd (s.replica islNoon) lead).toNat then 1 else if s.noon.step ≠ none then 2
      else if s.enginesIdle = false then 3 else 4 := by
  have hsome : s.noon.step.isSome = true ↔ s.noon.step ≠ none := Option.isSome_iff_ne_none
  have hback : (d < 0 && !s.queuesIdle) = true ↔ d < 0 ∧ s.queuesIdle = false := by simp
  simp only [State.stepCheck, hsome, hback, Bool.not_eq_true']
  split_ifs with h1 h2 h3 h4
  · rfl
  · rfl
  · rfl
  · rfl
  · exact absurd (((h.resolve_left h1).resolve_left h2).resolve_left h3) h4

/-! ### Refusals (R252, R254) -/

/-- What a refusal leaves of Noon: its code is shown unless a step of the host is pending meanwhile, and an automatic step
waits for its next request. -/
theorem sayStepRefused_noon (auto : Bool) (code : Nat) (s : State) : (sayStepRefused auto code s).noon = { s.noon with
    stepState := if auto && s.noon.step.isSome then s.noon.stepState else 3
    stepCause := if auto && s.noon.step.isSome then s.noon.stepCause else BitVec.ofNat 4 code
    stepWait := auto || s.noon.stepWait, waitSaid := auto || s.noon.waitSaid
    autoAt := if auto then s.clock + 4096000000 else s.noon.autoAt } := by
  cases auto with
  | false => simp [sayStepRefused]
  | true =>
    cases hstep : s.noon.step <;> cases hsaid : s.noon.waitSaid <;> simp [sayStepRefused, hstep, hsaid, ftMs]

theorem sayStepRefused_dt (auto : Bool) (code : Nat) (s : State) : (sayStepRefused auto code s).dt = s.dt :=
  dt_of_outside (outside_sayStepRefused (pt := mayChange .ppsoutPulse) auto code s rfl rfl rfl) rfl

/-! ### Requests (R252, R336) -/

/-- A step that stands pending, asked for by this module. -/
def stepPending (x : DT) (d : Int) (e auto : Bool) (r : Reach) (s : State) : State :=
  { s with noon := { s.noon with step := some ⟨x, d, e, auto, r, r == .alone⟩, stepState := 1, stepCause := 0 } }

section
variable {x : DT} {d : Int} {e auto : Bool}

theorem requestStep_alone (hr : s.reach = .alone) (hcode : s.stepCheck x d 8192000 = 0) :
    requestStep x d e auto s = stepPending x d e auto .alone s := by
  rw [← leadOf_alone hr] at hcode
  simp only [requestStep, hcode]
  simp [hr, stepPending]

theorem requestStep_stacked (hr : s.reach ≠ .alone) (hcode : s.stepCheck x d (leadOf s.reach) = 0)
    (hfits : fits64 d = true) :
    requestStep x d e auto s = sendRequest true x s.commit.gen (stepD d) (stepPending x d e auto s.reach s) := by
  simp [requestStep, hcode, hr, hfits, stepPending]

theorem requestStep_refused {c : Nat} (hcode : s.stepCheck x d (leadOf s.reach) = c) (hc : c ≠ 0) :
    requestStep x d e auto s = sayStepRefused auto c s := by
  simp [requestStep, hcode, hc]

end

theorem reach_alone (h : s.stacked = false) : s.reach = .alone := by simp [State.reach, h]

theorem exec_stepRequest (hr : s.hostReach = true) : exec .stepRequest s = .next (requestStep (dtAt s.imm 0x3040)
    (dtAt s.imm 0x304C - dtAt s.imm 0x3040).toInt false false s) :=
  congrArg Host.Outcome.next (byHost_of_reach hr _)

/-! ### Automatic steps (R254) -/

section
variable {d : Int} {e : Bool} (ha : s.noon.autoStep = some (d, e)) (hc : s.clocked = true)
include ha hc

theorem exec_autoStepRequest (hw : s.noon.stepWait = false) (hp : s.autoPending = false) :
    exec .autoStepRequest s =
      .next (requestStep (dtAddI s.dt (4096000000 - (s.clock - s.noon.autoAt : Nat))) d e true s) := by
  change execAutoStepRequest s = _
  simp only [execAutoStepRequest, ha, hc, hw, hp, Bool.not_false, Bool.and_self, if_true]
  rfl

theorem exec_stepRetry (hw : s.noon.stepWait = true) (hp : s.autoPending = false) (ht : s.noon.autoAt ≤ s.clock) :
    exec .stepRetry s = .next (if s.srcCand.err < 0 then
      requestStep (dtAdd s.dt 4096000000) (-s.srcCand.err) e true s else autoOver true s) := by
  change execStepRetry s = _
  simp only [execStepRetry, ha, hc, hw, hp, ht, Bool.not_false, Bool.and_self, decide_true, if_true, ftMs]

end

/-- Noon's replica does not run ahead of DT (R42). -/
theorem replica_islNoon_le (s : State) : (s.replica islNoon).toNat ≤ s.dt.toNat := by
  have hcount : s.count.toNat ≤ s.dt.toNat := by
    rw [State.count, BitVec.toNat_and]
    exact Nat.and_le_left
  cases hr : s.dtRuns with
  | false => simp [State.replica, hr]
  | true => simpa [State.replica, hr, islNoon] using hcount

/-- A step 1 ms ahead meets the lead of a lone module. -/
theorem lead_of_millisecond (h : s.dt.toNat + 4096000000 < 2 ^ 80) :
    (dtAdd (s.replica islNoon) 8192000).toNat ≤ (dtAdd s.dt 4096000000).toNat := by
  have hle := replica_islNoon_le s
  rw [dtAdd, dtAdd, BitVec.toNat_add, BitVec.toNat_add, BitVec.toNat_ofNat, BitVec.toNat_ofNat]
  omega

/-! ### The step (R251, R253) -/

/-- A step that has come to its DT is no longer pending. -/
def stepBegun (s : State) : State := { s with noon := { s.noon with step := none, stepState := 2, stepCause := 0 } }

/-- A step sets EPOCH where it asked for it (R252). -/
def epoched (q : StepReq) (s : State) : State := if q.epoch || bit (s.immAt 0x3058) 1 then setEpoch s else s

/-- The state after a step whose count has moved: the rest goes to the backlog, and STEPPED is raised. -/
def stepEnded (q : StepReq) (s : State) : State :=
  raise 222 1 0 0 (dtAddI q.at_ q.d) (autoOver q.auto (addSlew (stepRest q.d) s))

/-- The code that a step is refused with at its DT, 0 for none: 7 where only its confirmation is missing. -/
def dueCode (q : StepReq) (s : State) : Nat :=
  if s.stepDueCheck q.d = 0 && !q.confirmed then 7 else s.stepDueCheck q.d

/-- A step that nothing refuses: slewed where it is of at most 1 us. -/
def stepTaken (q : StepReq) (s : State) : State :=
  if q.d.natAbs ≤ 4096000 then raiseNow 222 2 0 0 (autoOver q.auto (addSlew q.d (stepBegun s)))
  else epoched q (stepEnded q (moveCount (stepRounds q.d) q.at_ (dtAddI q.at_ q.d) (stepBegun s)))

theorem dueCode_passes {q : StepReq} (hconf : q.confirmed = true) (hchk : s.stepDueCheck q.d = 0) : dueCode q s = 0 := by
  simp [dueCode, hconf, hchk]

theorem dueCode_fails {q : StepReq} (h : s.stepDueCheck q.d ≠ 0 ∨ q.confirmed = false) :
    dueCode q s = (if s.stepDueCheck q.d = 0 then 7 else s.stepDueCheck q.d) ∧ dueCode q s ≠ 0 := by
  by_cases hchk : s.stepDueCheck q.d = 0
  · simp [dueCode, hchk, h.resolve_left (not_not_intro hchk)]
  · simp [dueCode, hchk]

theorem exec_stepDue {q : StepReq} (hstep : s.noon.step = some q) (hr : s.dtRuns = true)
    (hdue : s.due islNoon q.at_ = true) : exec .stepDue s =
      .next (if dueCode q s ≠ 0 then refuseStep q.auto (dueCode q s) s else stepTaken q s) := by
  have hmatch : exec .stepDue s = .next (if s.dtRuns && s.due islNoon q.at_ then
      if dueCode q s ≠ 0 then refuseStep q.auto (dueCode q s) s else stepTaken q s else s) := by
    change execStepDue s = _
    rw [execStepDue, hstep]
    rfl
  rw [hmatch, hr, hdue]
  rfl

section
variable (s)

theorem autoOver_noon (auto : Bool) : ∃ a w x, (autoOver auto s).noon =
    { s.noon with autoStep := a, stepWait := w, waitSaid := x } := by
  rw [autoOver]
  split
  · exact ⟨_, _, _, rfl⟩
  · exact ⟨_, _, _, rfl⟩

theorem setEpoch_noon : (setEpoch s).noon = { s.noon with epoch := true } := by
  rw [setEpoch]
  split
  · next h => rw [← h]
  · rw [raiseNow_noon]

theorem epoched_noon (q : StepReq) : (epoched q s).noon =
    { s.noon with epoch := s.noon.epoch || q.epoch || bit (s.immAt 0x3058) 1 } := by
  rw [epoched, Bool.or_assoc]
  split
  · next h => rw [setEpoch_noon, h, Bool.or_true]
  · next h => rw [Bool.not_eq_true] at h; rw [h, Bool.or_false]

/-- What a step does to the module once its count has moved, beside Noon: only what it raises. -/
theorem outside_stepEnded (q : StepReq) :
    (stepEnded q s).outside (mayChange .ppsoutPulse) = s.outside (mayChange .ppsoutPulse) :=
  (outside_raise _ _ _ _ _ _ rfl rfl).trans <|
    (outside_autoOver _ _ rfl).trans (outside_addSlew _ _ rfl rfl rfl)

theorem outside_epoched (q : StepReq) :
    (epoched q s).outside (mayChange .ppsoutPulse) = s.outside (mayChange .ppsoutPulse) := by
  rw [epoched]
  split
  · exact outside_setEpoch _ rfl rfl rfl
  · rfl

theorem stepEnded_noon (q : StepReq) : ∃ a w x f, (epoched q (stepEnded q s)).noon = { s.noon with
    slew := clampI 2147483647 (s.noon.slew + stepRest q.d), slewFrom := f
    epoch := s.noon.epoch || q.epoch || bit (s.immAt 0x3058) 1, autoStep := a, stepWait := w, waitSaid := x } := by
  obtain ⟨a, w, x, hover⟩ := autoOver_noon (addSlew (stepRest q.d) s) q.auto
  have himm : (stepEnded q s).immAt 0x3058 = s.immAt 0x3058 :=
    congrArg (regGet · 0x3058) (imm_of_outside (outside_stepEnded s q) rfl)
  rw [epoched_noon, himm, stepEnded, raise_noon, hover, addSlew, setSlew_noon]
  exact ⟨_, _, _, _, rfl⟩

end

/-! ### The count moves (R253) -/

/-- The parts that a step changes spoke by spoke and axis by axis. -/
def stepParts : Parts :=
  { isl := true, occs := true, outbox := true, spokes := true, truing := true, latch := true, crank := true }

/-- The count moved, with what measures spans by it. -/
def countMoved (n : Int) (s : State) : State :=
  shiftHeld n (fun d => dtAddI d n) (distribute { s with dt := dtAddI s.dt n })

section
variable (q : Int) (x y : DT)

theorem outside_moveCount_countMoved (s : State) :
    (moveCount q x y s).outside stepParts = (countMoved (q * 524288) s).outside stepParts := by
  unfold moveCount
  exact (outside_forEach _ _ (fun a t => outside_clearAxis none a t rfl rfl rfl) _).trans
      (outside_forEach _ _ (fun i t => outside_stepSpoke x y _ i t rfl rfl rfl rfl rfl rfl) _)

theorem moveCount_dt (s : State) : (moveCount q x y s).dt = s.dt + BitVec.ofInt 80 (q * 524288) :=
  dt_of_outside (outside_moveCount_countMoved q x y s) rfl

theorem moveCount_noon (s : State) : (moveCount q x y s).noon = (countMoved (q * 524288) s).noon :=
  noon_of_outside (outside_moveCount_countMoved q x y s) rfl

theorem moveCount_imm (s : State) : (moveCount q x y s).imm = s.imm :=
  (imm_of_outside (outside_moveCount_countMoved q x y s) rfl).trans rfl

end

/-- Whether an axis holds segments, and whether it is dry. -/
def heldModel (a : AxisId) (s : State) : List Segment × Bool := ((s.axis a).segs, (s.axis a).dry)

theorem held_clearAxis (a : AxisId) (s : State) : heldModel a (clearAxis none a s) = ([], true) := by
  have hfold : modelOf a (clearAxis none a s) = modelOf a (emptied none a s) := by
    refine modelOf_foldl (fun t g => ?_) _
    dsimp only
    (repeat' split) <;> simp
  obtain ⟨hsegs, hdry, -⟩ := model_of_modelOf hfold
  rw [heldModel, hsegs, hdry, emptied, setAxis_get]
  simp

theorem axis_clearAxis_of_ne {a b : AxisId} (h : a ≠ b) (s : State) : heldModel a (clearAxis none b s) = heldModel a s := by
  have hkept : (Which.axis b).othersKept s (clearAxis none b s) := othersKept_of_others (others_clearAxis b s none)
  rw [heldModel, heldModel, hkept a h]

/-- A step empties every axis. -/
theorem moveCount_axis (q : Int) (x y : DT) (a : AxisId) (s : State) : heldModel a (moveCount q x y s) = ([], true) :=
  forEach_at (p := heldModel a) (g := fun _ => ([], true)) (held_clearAxis a)
    (fun _ hb => axis_clearAxis_of_ne (Ne.symm hb)) _

/-! ### Every clause -/

section
variable {q : StepReq} (hstep : s.noon.step = some q) (hr : s.dtRuns = true) (hdue : s.due islNoon q.at_ = true)
include hstep hr hdue

theorem stepDue_slews (hconf : q.confirmed = true) (hchk : s.stepDueCheck q.d = 0)
    (hd : -4096000 ≤ q.d ∧ q.d ≤ 4096000) :
    ∃ u, exec .stepDue s = .next u ∧ u.noon.step = none ∧ u.noon.stepState = 2 ∧ u.dt = s.dt ∧
      u.noon.slew = clampI 2147483647 (s.noon.slew + q.d) ∧ u.noon.epoch = s.noon.epoch := by
  obtain ⟨a, w, x, hover⟩ := autoOver_noon (addSlew q.d (stepBegun s)) q.auto
  have hdt : (autoOver q.auto (addSlew q.d (stepBegun s))).dt = s.dt :=
    dt_of_outside (q := mayChange .ppsoutPulse) ((outside_autoOver _ _ rfl).trans
      ((outside_addSlew _ _ rfl rfl rfl).trans (outside_with_noon _ _ rfl))) rfl
  have hexec := exec_stepDue hstep hr hdue
  rw [if_neg (not_not_intro (dueCode_passes hconf hchk)), stepTaken, if_pos (by omega)] at hexec
  refine ⟨_, hexec, ?_⟩
  rw [raiseNow_noon, raiseNow_dt, hdt, hover, addSlew, setSlew_noon]
  exact ⟨rfl, rfl, rfl, rfl, rfl⟩

theorem stepDue_moves (hconf : q.confirmed = true) (hchk : s.stepDueCheck q.d = 0)
    (hd : q.d < -4096000 ∨ 4096000 < q.d) :
    ∃ u, exec .stepDue s = .next u ∧ u.noon.step = none ∧ u.noon.stepState = 2 ∧
      u.dt = s.dt + BitVec.ofInt 80 ((q.d + 262144) / 524288 * 524288) ∧
      u.noon.slew = clampI 2147483647 (s.noon.slew + (q.d - (q.d + 262144) / 524288 * 524288)) ∧
      u.noon.epoch = (s.noon.epoch || q.epoch || bit (s.immAt 0x3058) 1) ∧
      ∀ a, (u.axis a).segs = [] ∧ (u.axis a).dry = true := by
  have hexec := exec_stepDue hstep hr hdue
  rw [if_neg (not_not_intro (dueCode_passes hconf hchk)), stepTaken, if_neg (by omega)] at hexec
  generalize ht : moveCount (stepRounds q.d) q.at_ (dtAddI q.at_ q.d) (stepBegun s) = t at hexec
  obtain ⟨a, w, x, f, hnoon⟩ := stepEnded_noon t q
  have hout := (outside_epoched (stepEnded q t) q).trans (outside_stepEnded t q)
  have himm : t.immAt 0x3058 = s.immAt 0x3058 := by rw [State.immAt, ← ht, moveCount_imm]; rfl
  have htn : t.noon = (countMoved (stepRounds q.d * 524288) (stepBegun s)).noon := by rw [← ht, moveCount_noon]
  refine ⟨_, hexec, ?_, ?_, ?_, ?_, ?_, fun a => ?_⟩
  · rw [hnoon, htn]; rfl
  · rw [hnoon, htn]; rfl
  · have hdt : (epoched q (stepEnded q t)).dt = t.dt := dt_of_outside hout rfl
    rw [hdt, ← ht, moveCount_dt, stepBegun, stepRounds]
  · rw [hnoon, htn]; rfl
  · rw [hnoon, htn, himm]; rfl
  · have haxis : heldModel a (epoched q (stepEnded q t)) = heldModel a t :=
      congrArg (fun c : Crank => ((c.axes.get a).segs, (c.axes.get a).dry)) (crank_of_outside hout rfl)
    have hempty : heldModel a t = ([], true) := by rw [← ht, moveCount_axis]
    exact Prod.mk.inj (haxis.trans hempty)

theorem stepDue_refuses (h : s.stepDueCheck q.d ≠ 0 ∨ q.confirmed = false) :
    ∃ u, exec .stepDue s = .next u ∧ u.noon.step = none ∧ u.noon.stepState = 3 ∧
      u.noon.stepCause = BitVec.ofNat 4 (if s.stepDueCheck q.d = 0 then 7 else s.stepDueCheck q.d) ∧
      u.dt = s.dt ∧ u.noon.slew = s.noon.slew ∧
      (q.auto = true → u.noon.stepWait = true ∧ u.noon.autoAt = s.clock + 4096000000) := by
  have hexec := exec_stepDue hstep hr hdue
  obtain ⟨hcode, hne⟩ := dueCode_fails h
  rw [if_pos hne, hcode] at hexec
  refine ⟨_, hexec, ?_⟩
  rw [refuseStep, sayStepRefused_noon, sayStepRefused_dt]
  simp +contextual

end

theorem autoPending_of_none (h : s.noon.step = none) : s.autoPending = false := by rw [State.autoPending, h]; rfl

/-- Settles O41: each clause is what the command does in the case that the clause names. -/
theorem timeStepsComplete : Obligations.TimeStepsComplete := by
  unfold Obligations.TimeStepsComplete
  refine ⟨?_, ?_, ?_, ?_, ?_, ?_, ?_, fun _ _ hs hr hdue hconf hchk hd => stepDue_slews hs hr hdue hconf hchk hd,
    fun _ _ hs hr hdue hconf hchk hd => stepDue_moves hs hr hdue hconf hchk hd,
    fun _ _ hs hr hdue h => stepDue_refuses hs hr hdue h⟩
  · intro s hh hs hnone he hq hlead
    have hr := reach_alone hs
    exact (exec_stepRequest hh).trans (congrArg _ (requestStep_alone hr
      (stepCheck_passes hlead hnone he hq)))
  · intro s hh hs hnone he hq hlead hfits
    have hr := reach_ne_alone hs
    have halone : (s.reach == .alone) = false := by simpa using hr
    rw [exec_stepRequest hh, requestStep_stacked hr (stepCheck_passes hlead hnone he hq) hfits, stepPending, halone]
  · intro s hh h
    have hcode := stepCheck_fails h
    refine ⟨_, (exec_stepRequest hh).trans (congrArg _ (requestStep_refused hcode (by split_ifs <;> decide))), ?_⟩
    rw [sayStepRefused_noon, sayStepRefused_dt]
    refine ⟨rfl, rfl, rfl, ?_⟩
    simp only [Bool.false_and, Bool.false_eq_true, if_false]
    split_ifs <;> rfl
  · rintro s d e x ha hc hw hnone rfl hlead hs he hq
    have hr := reach_alone hs
    exact (exec_autoStepRequest ha hc hw (autoPending_of_none hnone)).trans (congrArg _ (requestStep_alone hr
      (stepCheck_passes hlead hnone he hq)))
  · rintro s d e q x ha hc hw ⟨hq, hauto⟩ rfl hlead
    have hsome : s.noon.step ≠ none := by simp [hq]
    have hcode := stepCheck_fails (d := d) (lead := leadOf s.reach)
      (x := dtAddI s.dt (4096000000 - (s.clock - s.noon.autoAt : Nat))) (.inr (.inl hsome))
    rw [if_neg (Nat.not_lt.2 hlead), if_pos hsome] at hcode
    refine ⟨_, (exec_autoStepRequest ha hc hw (by simp [State.autoPending, hq, hauto])).trans
      (congrArg _ (requestStep_refused hcode (by decide))), ?_⟩
    rw [sayStepRefused_noon]
    simp [hq, ha]
  · intro s d e ha hc hw hnone ht herr hs he hroom
    have hr := reach_alone hs
    refine (exec_stepRetry ha hc hw (autoPending_of_none hnone) ht).trans (congrArg _ ((if_pos herr).trans ?_))
    exact requestStep_alone hr
      (stepCheck_passes (lead_of_millisecond hroom) hnone he (by omega))
  · intro s d e ha hc hw hp ht herr
    exact (exec_stepRetry ha hc hw hp ht).trans (congrArg _ (if_neg (by omega)))

end Sys2Proof.Proofs
end
